-- ==== Sys2Proof/Word.lean ====
section
/-! DEFINITION. The word types of the DN9600 model: a 32-bit register, a byte, and plain helpers over them. -/
namespace Sys2Proof

/-- A register of the map of Table 0.8 (registers are 32 bits wide, spec/00_scope.md, Conventions). -/
abbrev Word := BitVec 32

/-- A byte of an image, a frame, a record or a memory. -/
abbrev Byte := BitVec 8

end Sys2Proof
end

