-- ==== Sys2Proof/Syntax.lean ====
section
/-! DEFINITION. The commands of the DN9600 as a block: the operand structures and `Instr`, one constructor per row of
spec/opcode_table.json. A row names an event or a command; its operands are what the outside gives it (an instant, a value
on a pin or a wire, bytes of a frame, a record from the other sender, a reading of a sensor). Every instant `t` is wall
time in units of 2^-16 ns after the epoch (R167). Log entry 10 says how the operands were chosen. -/
namespace Sys2Proof

/-- A register access path (Table 20.1). -/
inductive Path where
  | pcie
  | mgmt (session : Nat)
  | spi
  | chain (port : Nat)
  | jtag
  /-- the meter port, which reaches the MET registers alone (R336) -/
  | meter
  deriving DecidableEq, Repr

/-- A mailbox path (Table 20.1); on the chain path: the SIDE of the relaying sender and the message TAG
(R131, R356). -/
inductive MboxPath where
  | pcie
  | mgmt (session : Nat)
  | spi
  | chain (side msgTag : Nat)
  deriving DecidableEq, Repr

/-- A 32-bit register write as it reaches the arbiter: path, absolute address, data, byte enables (R9, R345). -/
structure RegWrite where
  path : Path
  addr : Nat
  data : Word
  be : Nat
  deriving DecidableEq, Repr

/-- A command as it reaches its mailbox: the header of Table 20.2 without its OPCODE, and the body (R347). -/
structure MboxCmd where
  path : MboxPath
  len : Nat
  tag : Nat
  reserved : List Byte
  body : List Byte
  /-- instant at which it starts, in units of 2^-16 ns of wall time -/
  t : Nat
  deriving DecidableEq, Repr

/-- An edge of a filtered pin: its instant, and how long the pin holds its new level, in units of 2^-16 ns (log entry 85). -/
structure PinEdge where
  t : Nat
  holds : Nat
  deriving DecidableEq, Repr

/-- A wake input that has held a level for 1 ms: the level, and the instant (R303). -/
structure WakeLevel where
  high : Bool
  t : Nat
  deriving DecidableEq, Repr

/-- A port's receiver finds a signal: whether the port is the first hop of its direction (R144; log entry 81), and the instant. -/
structure LinkSignal where
  first : Bool
  t : Nat
  deriving DecidableEq, Repr

/-- Completion of an issued operation as its facet program brings it about (the program is opaque, R6): cycles used, and
the words it took from and gives to its queues, as (queue, words). -/
structure OpDone where
  wfn : Nat
  op : Nat
  t : Nat
  cycles : Nat
  consumed : List (Nat × Nat)
  produced : List (Nat × Nat)
  deriving DecidableEq, Repr

/-- A 64-byte word at a bounded ingress (R52): the instance and arrival window it belongs to, and the queue it is for. -/
structure IngressIn where
  wfn : Nat
  window : Nat
  queue : Nat
  t : Nat
  deriving DecidableEq, Repr

/-- A frame as an Ethernet port or sub-port receives it, without its FCS (R69, R73): `fcsOk` is the PCS and FCS verdict,
`t` the message time stamp. -/
structure EthFrame where
  port : Nat
  sub : Nat
  t : Nat
  fcsOk : Bool
  bytes : List Byte
  deriving DecidableEq, Repr

/-- A BAR2 access of the host (R78): a read of `len` bytes, or a write of `data`. -/
structure Bar2 where
  window : Nat
  offset : Nat
  write : Bool
  len : Nat
  data : List Byte
  t : Nat
  deriving DecidableEq, Repr

/-- A management OPEN (R79): the host's X448 share, nonce, session fields (Table 18.2), management key id
and Ed448ph signature. -/
structure MgmtOpen where
  port : Nat
  sub : Nat
  share : List Byte
  nonce : List Byte
  fields : List Byte
  key : List Byte
  signature : List Byte
  t : Nat
  deriving DecidableEq, Repr

/-- What an authenticated management request carries (R79): a register read, a register write or a mailbox command. -/
inductive MgmtBody where
  | read (addr : Nat)
  | write (addr : Nat) (data : Word) (be : Nat)
  | command (opcode len tag : Nat) (reserved body : List Byte)
  deriving DecidableEq, Repr

/-- A management request: where it arrives, its session, sequence number, the bytes its KMAC256 tag covers, the tag, and its content (R79). -/
structure MgmtReq where
  port : Nat
  sub : Nat
  session : Nat
  seq : Nat
  covered : List Byte
  tag : List Byte
  body : MgmtBody
  t : Nat
  deriving DecidableEq, Repr

/-- A digest record of the other sender (R74): stream, extended sequence number, CRC-32C of the UDP payload, arrival. -/
structure DigestRec where
  stream : Nat
  seq : Nat
  crc : Nat
  stamp : Nat
  t : Nat
  deriving DecidableEq, Repr

/-- A verdict of the primary (R74). -/
structure VerdictRec where
  stream : Nat
  seq : Nat
  hasCopy : Bool
  crc : Nat
  t : Nat
  deriving DecidableEq, Repr

/-- A stream packet forwarded over the lockstep link (R74, Table 16.1). -/
structure PacketRec where
  stream : Nat
  seq : Nat
  payload : List Byte
  t : Nat
  deriving DecidableEq, Repr

/-- The colour description a decoded surface carries (R88, Table 5.1): primaries, transfer, matrix, range, mastering display colour volume and
content light levels. -/
structure ColourInfo where
  primaries : Nat
  transfer : Nat
  coefficients : Nat
  fullRange : Bool
  mastering : List Nat
  light : List Nat
  deriving DecidableEq, Repr

/-- Profiles of Table 5.1; `other` stands for every excluded one. -/
inductive HevcProfile where
  | main
  | main10
  | mainStillPicture
  | main422x10
  | other
  deriving DecidableEq, Repr

/-- What the active SPS of a picture says (R80, R87): general_level_idc (30 per level), luma size, chroma 0 4:2:0, 1 4:2:2, 2 4:4:4,
3 monochrome, bit depth, field_seq_flag, sps_max_dec_pic_buffering_minus1 + 1, the reorder and latency limits, the CTU size. -/
structure HevcSps where
  profile : HevcProfile
  levelIdc : Nat
  width : Nat
  height : Nat
  chroma : Nat
  depth : Nat
  fieldSeq : Bool
  buffers : Nat
  reorder : Nat
  latencyPlus1 : Nat
  ctu : Nat
  deriving DecidableEq, Repr

/-- Kinds of HEVC pictures the rules tell apart (R80, R90). -/
inductive HevcKind where
  | idr
  | bla
  | cra
  | rasl
  | radl
  | trailing
  deriving DecidableEq, Repr

/-- A picture of a reference picture set: its output order, whether it is a long-term one, whether the current picture refers to it. -/
structure HevcRef where
  poc : Int
  long : Bool
  current : Bool
  deriving DecidableEq, Repr

/-- The syntax of a coded HEVC picture: its SPS, kind, output order, reference picture set, pic_output_flag,
no_output_of_prior_pics_flag, whether an end of sequence precedes it, the CTUs no slice segment with all its packets covers, a
non-conforming slice segment, a hash SEI that does not match, its colour description. -/
structure HevcPic where
  sps : HevcSps
  kind : HevcKind
  poc : Int
  refs : List HevcRef
  output : Bool
  noPriorOutput : Bool
  afterEos : Bool
  lostCtus : List Nat
  syntaxBad : Bool
  hashBad : Bool
  colour : Option ColourInfo
  deriving DecidableEq, Repr

/-- Profiles of Table 5.2; `other` stands for every excluded one. -/
inductive JxsProfile where
  | light422x10
  | main422x10
  | main444x12
  | high444x12
  | other
  deriving DecidableEq, Repr

/-- The header of a JPEG XS codestream (R81) and what its packets left of it: a 10k level, the Star-Tetrix transform, temporal
differential coding, a lossless sublevel above 12 bits; size, chroma 0 4:2:0, 1 4:2:2, 2 4:4:4, 3 RGB, depth, its slices, their
height in rows and those that are lost. -/
structure JxsPic where
  profile : JxsProfile
  tenK : Bool
  starTetrix : Bool
  temporal : Bool
  losslessBad : Bool
  width : Nat
  height : Nat
  chroma : Nat
  depth : Nat
  slices : Nat
  sliceRows : Nat
  lost : List Nat
  syntaxBad : Bool
  colour : Option ColourInfo
  deriving DecidableEq, Repr

/-- A coded picture as its standard's syntax reads it. -/
inductive CodedContent where
  | hevc (p : HevcPic)
  | jxs (p : JxsPic)
  deriving DecidableEq, Repr

/-- A decoder has decoded a channel's picture: what its coded data say by the syntax of their standard (R80 to R92, log entry 93). -/
structure DecodeDone where
  channel : Nat
  t : Nat
  content : CodedContent
  deriving DecidableEq, Repr

/-- A coded return slice (R95 to R97): its NAL data, the instant its last byte was coded, and rate control's part (R96): the base QP, what
stage 1 raises the CTUs outside the region of interest by and stage 2 those inside, and the QP of each CTU. -/
structure RetSlice where
  wfn : Nat
  slice : Nat
  nal : List Byte
  baseQp : Nat
  raise : Nat
  lift : Nat
  qps : List Nat
  t : Nat
  deriving DecidableEq, Repr

/-- An entry of the surface table (R105, Table 6.6): a LIVE or RETIRING surface; a FREE index has none. -/
structure Surface where
  index : Nat
  gen : Nat
  fmt : Nat
  layout : Nat
  /-- code of D2.DEPTH: 0 8, 1 10, 2 12 bits -/
  depth : Nat
  width : Nat
  height : Nat
  /-- row pitch in bytes; 0 outside LINEAR picture formats -/
  stride : Nat
  base : Nat
  size : Nat
  /-- allocation in units of 64 KiB -/
  units : Nat
  retiring : Bool
  fence : Nat
  damaged : Bool
  generated : Bool
  patched : Bool
  /-- RTP timestamp and colour description of the picture it holds (R88) -/
  rtp : Option Nat
  colour : Option ColourInfo
  /-- highest WFN of an instance of an older set that named it, kept when that set is forgotten (R107) -/
  lastNamed : Option Nat
  deriving DecidableEq, Repr

/-- A committed set (chapter 6): the WFN it takes effect at, and the words of the pending set it was made of, as a sparse
list over the addresses of CMP_COLOUR, CMP_TILE_MESH and CMP_LAYER. -/
structure CommitSet where
  wfn : Nat
  words : List (Nat × Word)
  deriving DecidableEq, Repr

/-- A block of a row (R125): its 2-bit sync header and 8 payload bytes, descrambled. -/
structure Block where
  header : Nat
  bytes : List Byte
  deriving DecidableEq, Repr

/-- The fields of a control row (Table 7.4); CORR and TURN in units of 2^-8 ns. -/
structure CtlRow where
  sfn : Nat
  echo : Nat
  turn : Nat
  corr : Nat
  expState : Nat
  expSeq : Nat
  flags : Nat
  fragHdr : Nat
  frag : List Byte
  deriving DecidableEq, Repr

/-- A control row as a port receives it: its HCRC verdict, the arrival stamp, and the departure stamp of the row the device
sends on for it at the opposite port (R138). -/
structure CtlIn where
  port : Nat
  hcrcOk : Bool
  row : CtlRow
  t : Nat
  departs : Nat
  deriving DecidableEq, Repr

/-- Why a port loses lock (R145). -/
inductive LockLoss where
  | headerErrors
  | controlRows
  | clock
  | deskew
  deriving DecidableEq, Repr

/-- What an IDENTIFY window counts (R140): ones of 16,384 bits on data lanes 0 to 3, and whether the clock lane's ones
density is above 50 %. -/
structure IdentWindow where
  port : Nat
  ones : List Nat
  clockOnes : Nat
  t : Nat
  deriving DecidableEq, Repr

/-- What TRAIN blocks say (Table 7.10). -/
structure TrainIn where
  dir : Nat
  rxUp : Bool
  hop : Nat
  n : Nat
  rate : Nat
  deriving DecidableEq, Repr

/-- A lane's search for block lock (R141, R142): valid headers in a row at one alignment, its OFFSET after the clock marker, whether
that count ended in a header error, and the TRAIN blocks read once the fourth lane has locked. -/
structure LockIn where
  port : Nat
  lane : Nat
  valid : Nat
  offset : Nat
  error : Bool
  /-- the blocks lie in an identity pattern, as BCNT places it (R141) -/
  identity : Bool
  train : TrainIn
  t : Nat
  deriving DecidableEq, Repr

/-- An ANNOUNCE message at a sender (Table 7.5). -/
structure AnnounceIn where
  chain : Nat
  position : Nat
  west : Nat
  east : Nat
  identity : List Byte
  t : Nat
  deriving DecidableEq, Repr

/-- A motion hint the compositor graph delivers with a cell (R159): the image's CODE is opaque (R6). -/
structure Hint where
  cell : Nat
  ref : Nat
  mvx : Int
  mvy : Int
  deriving DecidableEq, Repr

/-- A slice due at the sender (R160): its tile, picture, and the motion hints of its cells. -/
structure EncodeIn where
  ta : Nat
  wfn : Nat
  slot : Nat
  hints : List Hint
  t : Nat
  deriving DecidableEq, Repr

/-- A slice as a tile's port receives it (R127, R128, Table 7.3): FLAGS and the data rows' bytes in order. -/
structure SliceIn where
  port : Nat
  ta : Nat
  flags : Nat
  wfn : Nat
  rows : Nat
  scrc : Nat
  fsig : Nat
  hcrcOk : Bool
  bytes : List Byte
  t : Nat
  deriving DecidableEq, Repr

/-- How a PTP message is carried (Table 9.1, Transport). -/
inductive PtpTransport where
  | udpIpv4 | layer2 | udpIpv6
  deriving DecidableEq, Repr

/-- A TLV of a PTP message (Table 9.1, TLVs). -/
inductive PtpTlv where
  /-- the ST 2059-2 synchronization metadata TLV: parsed, not acted on -/
  | syncMetadata
  /-- the security TLV of Annex P -/
  | security
  | other (type : Nat)
  deriving DecidableEq, Repr

/-- What Table 9.1 judges of a message: its transport, its TLVs, and whether its alternateMasterFlag is set. -/
structure PtpOptions where
  transport : PtpTransport
  tlvs : List PtpTlv
  alternate : Bool
  deriving DecidableEq, Repr

/-- A PTP message at a PTP port (R169 to R171): its options, port q = 4p + n, domain, source port identity, sequence number,
two-step flag, logMessageInterval, timestamp and correction field in units of 2^-16 ns, and its stamp. -/
structure PtpMsg where
  options : PtpOptions
  port : Nat
  domain : Nat
  source : Nat
  seq : Nat
  twoStep : Bool
  stamp : Nat
  correction : Int
  logInterval : Int
  t : Nat
  deriving DecidableEq, Repr

/-- An Announce (R170): its data set; `quality` is clockClass, clockAccuracy and offsetScaledLogVariance as one 32-bit number;
`logInterval` its logAnnounceInterval. -/
structure PtpAnnounce where
  options : PtpOptions
  port : Nat
  domain : Nat
  source : Nat
  priority1 : Nat
  quality : Nat
  priority2 : Nat
  gm : Nat
  steps : Nat
  utc : Nat
  logInterval : Int
  t : Nat
  deriving DecidableEq, Repr

/-- A TIME message at a tile (R173): port, TAG, SFN named, departure stamp of that row. -/
structure TimeMsg where
  port : Nat
  tag : Nat
  sfn : Nat
  departs : Nat
  t : Nat
  deriving DecidableEq, Repr

/-- An entry of a SHADOW message (Table 12.5). -/
structure ShadowEntry where
  lane : Nat
  driver : Nat
  channel : Nat
  value : Nat
  deriving DecidableEq, Repr

/-- A SHADOW message (Table 12.5) as it reaches the tile at instant `t`. -/
structure ShadowMsg where
  wfn : Nat
  slot : Nat
  lineCount : Nat
  row : Nat
  entries : List ShadowEntry
  t : Nat
  deriving DecidableEq, Repr

/-- A line that starts (R226, R229): line `index` of image slot `slot` of frame `wfn`, or shadow line `index` of the
shadow slot that runs. -/
inductive LineIn where
  | image (wfn slot index : Nat)
  | shadow (index : Nat)
  deriving DecidableEq, Repr

/-- What the colour sensor's I²C read gives (R243, R244): the transfer failed, or the 16-bit results in channel order. -/
inductive SensorRead where
  | failed
  | results (values : List Nat)
  deriving DecidableEq, Repr

/-- A tap trim (R240): KIND 0 lane, 1 glint, 2 row; its index; the byte of the lane entry, or 0 rise, 1 fall. -/
structure TrimId where
  kind : Nat
  index : Nat
  sub : Nat
  deriving DecidableEq, Repr

/-- Bytes that reach the staging area at an offset (R238). -/
structure StageBytes where
  offset : Nat
  bytes : List Byte
  t : Nat
  deriving DecidableEq, Repr

/-- A head request of a DRAM port (R250): port, read or write, byte address and 64-byte words, the place the controller
gives the address (its own and internal, R248): sub-channel, bank and row, the data of a write, and its instant. -/
structure DramReq where
  port : Nat
  write : Bool
  addr : Nat
  words : Nat
  sub : Nat
  bank : Nat
  row : Nat
  data : List Byte
  t : Nat
  deriving DecidableEq, Repr

/-- A read that returns (R248): port, byte address, words, the words whose check code failed at first and again at the
repeat, and the operation (WFN, index) that reads them, if one does. -/
structure DramRead where
  port : Nat
  addr : Nat
  words : Nat
  failed : List Nat
  failedAgain : List Nat
  op : Option (Nat × Nat)
  t : Nat
  deriving DecidableEq, Repr

/-- A gather burst's data (R258): channel, oscillator readings, and whether its devices ask for more than twice the base
refresh rate. -/
structure GatherDone where
  channel : Nat
  osc : Nat
  refOver : Bool
  t : Nat
  deriving DecidableEq, Repr

/-- What one conversion of a temperature input measures (R264, R266): the forced-current voltage in µV; the temperature in 1/16 °C that
the three readings of a DIODE conversion give at ideality 1.000, series resistance cancelled; the 12-bit code of a THERM conversion. -/
structure Conv where
  input : Nat
  uv : Nat
  theta : Int
  code : Nat
  deriving DecidableEq, Repr

/-- A 4 ms conversion cycle (R264): the pin channels, and the two die junctions as inputs 16 and 17. -/
structure Conversion where
  convs : List Conv
  t : Nat
  deriving DecidableEq, Repr

/-- A 100 µs guard conversion (R271): DIE_A and DIE_B as inputs 16 and 17, and channels 14 and 15. -/
structure GuardConv where
  convs : List Conv
  t : Nat
  deriving DecidableEq, Repr

/-- An entry of a tile's pool as a tile record carries it (Table 16.4): reference index, STATE, SEQ, WFN, unresolved
cells, and the 36-bit pixels of a VALID entry in raster order. -/
structure PoolEntryRec where
  index : Nat
  state : Nat
  seq : Nat
  wfn : Nat
  unresolved : List Nat
  pixels : List Nat
  deriving DecidableEq, Repr

/-- A tile record of the REFERENCE phase (Table 16.4). -/
structure TileRec where
  ta : Nat
  slots : Nat
  wfn : Nat
  slot : Nat
  qp : List Nat
  firstCell : List Nat
  lastSeq : List Nat
  unusable : Nat
  refreshPending : Bool
  refreshDue : Nat
  entries : List PoolEntryRec
  deriving DecidableEq, Repr

/-- A refresh a sender owes a tile (R157, R158): the slots still due, the instant from which a window may begin it. -/
structure RefreshJob where
  ta : Nat
  due : List Nat
  ready : Nat
  startup : Bool
  deriving DecidableEq, Repr

/-- What a CONFIG record carries (R291); the spec gives its object codes no table, so each object is a constructor. -/
inductive ConfigObj where
  /-- a register of the stream table, the pending set, the tile meshes, the colour handle or the return encoder -/
  | register (addr : Nat) (data : Word)
  | param (id : Nat) (value : List Nat)
  | surface (s : Surface)
  | freed (handle : Nat)
  | memory (addr : Nat) (bytes : List Byte)
  | committed (c : CommitSet)
  | express (chain state eseq : Nat)
  | coder (ta : Nat) (qp firstCell : List Nat)
  | refreshQueue (jobs : List RefreshJob)
  /-- the record that ends the CONFIG phase -/
  | last
  deriving DecidableEq, Repr

/-- A record of the lockstep link (Table 16.1), without its header and CRC. -/
inductive LinkRecord where
  | hello (identity : List Byte) (position : Nat) (imageId epoch : Nat) (current : Bool)
  | state (redState redHealth : Word) (wfn : Nat)
  | digest (stream seq crc stamp : Nat)
  | verdict (stream seq : Nat) (hasCopy : Bool) (crc : Nat)
  | packet (stream seq : Nat) (payload : List Byte)
  | request (stream seq : Nat)
  | promote (target wfn slot : Nat)
  | config (o : ConfigObj)
  | commit (wfn : Nat)
  | express (mask code eseq : Nat)
  | step (epoch boundary : Nat)
  | refresh (ta wfn slot : Nat)
  | sliceSig (ta wfn slot scrc fsig : Nat)
  | tileRecord (r : TileRec)
  | leave (cause : Nat)
  /-- RATE as the primary relays it (R144): chain, rate code, SFN; Table 16.1 gives the relay no record (log entry 49) -/
  | rate (chain code sfn : Nat)
  /-- HOLD or RELEASE as the primary relays it; Table 16.1 gives the relay no record (log entry 49) -/
  | hold (kind wfn : Nat)
  deriving DecidableEq, Repr

/-- The stamps by which a sender measures the other sender's wall time over the lockstep link in the manner of R138 (R178), in 2^-8 ns: the
departure of its own control row and the arrival of the row that echoes it, in its own wall time; that row's TURN; and that row's departure,
in the other sender's wall time. -/
structure PairStamps where
  sent : Int
  arrived : Int
  turn : Int
  departed : Int
  deriving DecidableEq, Repr

/-- A HELLO record of the other sender (Table 16.1), whether its CRC passes, and the stamps of the control rows before it. -/
structure HelloRec where
  position : Nat
  imageId : Nat
  epoch : Nat
  current : Bool
  crcOk : Bool
  stamps : PairStamps
  t : Nat
  deriving DecidableEq, Repr

/-- A STATE record, whether its CRC passes, the stamps of the control rows before it, and what it tells of the other sender beyond its two
registers: a breach since the record before, and its time state LOCKED (R294; log entry 102). A record of any TYPE that fails its CRC
comes as one with `crcOk` false: nothing of it is taken. -/
structure StateRec where
  redState : Word
  redHealth : Word
  wfn : Nat
  crcOk : Bool
  stamps : PairStamps
  breached : Bool
  locked : Bool
  t : Nat
  deriving DecidableEq, Repr

/-- One sample of the meter (R333): the shunt and the divided bus voltage in µV/64, whether the shunt input is open, whether
the voltage input is out of range, and its instant. -/
structure MeterSampleIn where
  shunt : Int
  bus : Int
  shuntOpen : Bool
  busRange : Bool
  t : Nat
  deriving DecidableEq, Repr

/-- A meter-firmware block at the meter port (R343): its number of 4 KiB, its bytes and its CRC-32C. -/
structure MeterBlock where
  index : Nat
  bytes : List Byte
  crc : Nat
  deriving DecidableEq, Repr

/-- The light offer of a latched picture (R339): the picture, and the lines of its slot that were blanked. -/
structure LightIn where
  wfn : Nat
  slot : Nat
  blanked : List Nat
  t : Nat
  deriving DecidableEq, Repr

/-- A REG_RD or REG_WR message at the tile it names (Table 7.5): the relaying sender's SIDE and its TAG. -/
structure RegMsg where
  side : Nat
  tag : Nat
  addr : Nat
  data : Word
  t : Nat
  deriving DecidableEq, Repr

/-- A REG_RSP message at a sender: the SIDE it names (R131), its TA and TAG. -/
structure RegRspMsg where
  side : Nat
  ta : Nat
  tag : Nat
  status : Nat
  data : Word
  t : Nat
  deriving DecidableEq, Repr

/-- An MBOX message at a tile: SIDE, TAG, BCAST, whether its body is a segment (Table 20.4) or a whole command, the body. -/
structure MboxMsg where
  side : Nat
  tag : Nat
  bcast : Bool
  segmented : Bool
  body : List Byte
  t : Nat
  deriving DecidableEq, Repr

/-- An MBOX_RSP message at a sender: the SIDE it names (R131), its TA and TAG. -/
structure MboxRspMsg where
  side : Nat
  ta : Nat
  tag : Nat
  segmented : Bool
  body : List Byte
  t : Nat
  deriving DecidableEq, Repr

/-- A BULK message at a tile: SIDE, TAG, and its body, a segment (R355). -/
structure BulkMsg where
  side : Nat
  tag : Nat
  body : List Byte
  t : Nat
  deriving DecidableEq, Repr

/-- A write of CMD_SQ_TAIL (R350), with the bytes host memory holds from the entry CMD_SQ_HEAD names to the new tail, in ring
order. -/
structure SqTail where
  path : Path
  data : Word
  entries : List Byte
  t : Nat
  deriving DecidableEq, Repr

/-- What a JTAG Update-DR leaves in the selected data register (Table 23.2, R389): the boundary cells in scan order, a
DBG_ACCESS of a register, or another register's shift. -/
inductive JtagDr where
  | boundary (cells : List Bool)
  | access (write : Bool) (addr : Nat) (data : Word)
  | other
  deriving DecidableEq, Repr

/-- The commands of spec/opcode_table.json, one constructor per row. -/
inductive Instr where
  | instanceLoad (wfn : Nat)
  | issueSlot (wfn op : Nat)
  | dependenceDecrement (wfn op t : Nat)
  | operationComplete (d : OpDone)
  | latestStart (wfn op : Nat)
  | operationDeadline (wfn op : Nat)
  | shedExpiry (wfn op : Nat)
  | ingressWord (w : IngressIn)
  | arrivalWindowClose (wfn window : Nat)
  | slackWindowStart (island window t : Nat)
  | backgroundChunkEnd (island t : Nat)
  | breachCounterClear (p : Path)
  | peakMarginClear (p : Path)
  | histogramClear (p : Path)
  | histSelect (p : Path) (data : Word)
  | queueWatchSelect (p : Path) (data : Word)
  | traceRearm (p : Path) (data : Word)
  | traceForce (p : Path) (data : Word)
  | ethernetFrameRx (f : EthFrame)
  | portModeChange (p : Path) (port : Nat) (data : Word)
  | subPortLinkChange (port sub : Nat) (up anDone fecLock : Bool)
  | streamEnable (p : Path) (stream : Nat) (data : Word)
  | streamDisable (p : Path) (stream : Nat) (data : Word)
  | digest (d : DigestRec)
  | verdict (v : VerdictRec)
  | packet (r : PacketRec)
  | request (stream seq t : Nat)
  | requestRepeat (stream seq t : Nat)
  | forwardUnasked (stream seq t : Nat)
  | missing (stream t : Nat)
  | bar2Access (a : Bar2)
  | mgmtOpen (o : MgmtOpen)
  | mgmtRequest (r : MgmtReq)
  | mgmtClose (r : MgmtReq)
  | sessionTimeout (session t : Nat)
  | arpRequest (port sub target t : Nat)
  | icmpEcho (port sub target : Nat) (data : List Byte) (t : Nat)
  | pcieReset (t : Nat)
  | ingCntClear (p : Path)
  | decodeStart (decoder t : Nat)
  | pictureDecodeComplete (d : DecodeDone)
  | promote (target wfn slot t : Nat)
  | returnEnable (p : Path) (data : Word)
  | forceIdr (p : Path) (data : Word)
  | returnSliceStart (wfn slice arrival : Nat)
  | returnSliceWritten (r : RetSlice)
  | returnReadPointer (p : Path) (data : Word)
  | cdcCntClear (p : Path)
  | surfaceAlloc (c : MboxCmd)
  | surfaceRelease (c : MboxCmd)
  | surfaceFree (handle t : Nat)
  | layerWrite (w : RegWrite)
  | commitGo (p : Path) (data : Word)
  | commitValidationEnd (t handshake : Nat)
  | latchInstant (wfn : Nat)
  | staleTimeout (stream t : Nat)
  | cmpCntClear (p : Path)
  /-- A row of four blocks received on a port (R137). -/
  | rowForward (port : Nat) (blocks : List Block) (t : Nat)
  | controlRowRx (c : CtlIn)
  /-- A superframe starts on a transmit port (R126). -/
  | superframe (port t : Nat)
  /-- An EXPRESS row received on a port (R132). -/
  | expressSymbolRx (port : Nat) (blocks : List Block) (t : Nat)
  /-- A write to CHN_EXPRESS (R136). -/
  | expressRequest (p : Path) (data : Word)
  /-- A RATE message received on a port, and the switch (R144). -/
  | rate (port code sfn t : Nat)
  | rateSwitch (port t : Nat)
  /-- A TXSLIP message (R142). -/
  | txslip (port : Nat) (slips : List Nat) (t : Nat)
  | announce (a : AnnounceIn)
  /-- Bring-up of a receive port (R139 to R143); port 4 is the lockstep link. `first`: the hop is the first of its direction, so that the
  far end is a sender (R142). -/
  | signalDetect (port : Nat) (x : LinkSignal)
  | equaliseDone (port t : Nat)
  | identifyWindow (w : IdentWindow)
  | blockLock (l : LockIn)
  /-- Rows aligned, with the skew of each lane in UI (R143). -/
  | deskewDone (port : Nat) (skews : List Nat) (t : Nat)
  /-- A transmit port ends its TRAIN blocks, with RX_UP as last seen. -/
  | trainingCycleEnd (port : Nat) (rxUp : Bool) (t : Nat)
  /-- A receiver is UP; at a tile, the number of the chain its ring is. -/
  | portUp (port chain t : Nat)
  | lossOfLock (port : Nat) (cause : LockLoss) (t : Nat)
  | chainDown (chain t : Nat)
  /-- A write of RETRAIN in CHN_PORT_CTRL (R146). -/
  | retrain (p : Path) (port : Nat) (data : Word)
  | eastAbsent (chain t : Nat)
  | pllHoldoverExpiry (port t : Nat)
  | chnCntClear (p : Path)
  /-- REFCLK_CORE stops (R368). -/
  | refclkCoreStop (t : Nat)
  | sliceRx (r : SliceIn)
  | refreshReq (chain ta wfn slot ref t : Nat)
  | sliceEncode (e : EncodeIn)
  | sliceDecode (wfn slot t : Nat)
  | refreshReqRetry (slot t : Nat)
  | ccxCntClear (p : Path)
  | sync (m : PtpMsg)
  | followUp (m : PtpMsg)
  | delayResp (m : PtpMsg)
  | delayReq (port seq t : Nat)
  | ptpAnnounce (a : PtpAnnounce)
  | announceReceiptTimeout (t : Nat)
  | time (m : TimeMsg)
  | timeSend (chain sfn t : Nat)
  | timeStep (p : Path) (data : Word)
  | stepBoundary
  | stepRecord (epoch boundary t : Nat)
  | phaseSlewTimeout (t : Nat)
  | holdoverExpiry (t : Nat)
  | timeMessageTimeout (t : Nat)
  | pulseEnable (p : Path) (unit : Nat) (data : Word)
  | pulseDisable (p : Path) (unit : Nat) (data : Word)
  | pulseEdge (unit : Nat)
  | pulseEnd (unit : Nat)
  | captureEdge (unit : Nat) (falling : Bool) (e : PinEdge)
  | capturePop (p : Path) (unit : Nat)
  | timeNowLatch (p : Path)
  | timCntClear (p : Path)
  | registerWrite (w : RegWrite)
  | startCondition (t : Nat) (primaryF0 : Option Nat)
  | runStart
  | flkCntClear (p : Path)
  | alignedRise (t : Nat)
  | correctionTick (t : Nat)
  | recomputeComplete (t : Nat)
  | bankSwap (p : Path) (data : Word)
  | fadeArm (p : Path) (data : Word)
  | emcCntClear (p : Path)
  | glintWriteStart (wfn slot t : Nat)
  | glintWriteComplete (t : Nat)
  | latchSequence (wfn slot : Nat)
  | imageSlotLatch (wfn slot : Nat)
  | lineStart (l : LineIn)
  | configFrameSend (t : Nat)
  | shadow (m : ShadowMsg)
  | lampOn (p : Path) (data : Word)
  | faultClr (p : Path) (data : Word)
  | forceBlank (p : Path) (data : Word)
  | lampPgRise (t : Nat)
  | lampPgSettled (t : Nat)
  | lampPgTimeout (t : Nat)
  | lampPgFall (t : Nat)
  | blankNFall (e : PinEdge)
  | blankNRise (e : PinEdge)
  | lmpCntClear (p : Path)
  | shadowSlotEnd (t : Nat)
  | colourMeasurement (r : SensorRead) (t : Nat)
  | colourLoopPeriod (t : Nat) (hostWrote : List Nat)
  | calStageData (b : StageBytes)
  | calStore (c : MboxCmd)
  | flashOperationComplete (staging ok : Bool) (t : Nat)
  | trimStep (trim : TrimId) (t : Nat)
  | calsetCopyComplete (t : Nat)
  | calCntClear (p : Path)
  | dramRequest (r : DramReq)
  | dramGrant (t : Nat)
  | dramReadReturn (r : DramRead)
  | pageIdleExpiry (channel sub bank t : Nat)
  | refreshDue (channel sub t : Nat)
  | gatherBurst (channel t : Nat)
  | gatherBurstComplete (g : GatherDone)
  | setPointGo (p : Path) (data : Word)
  | switchWindow (t : Nat)
  | setPointSwitchComplete (t : Nat)
  | selfRefreshIdle (channel commitAt t : Nat)
  | selfRefreshExit (channel t : Nat)
  | drcCntClear (p : Path)
  | conversion (c : Conversion)
  | levelFall (t : Nat)
  | substitute (p : Path) (channel : Nat) (data : Word)
  | guardAck (p : Path) (data : Word)
  | recheck (p : Path) (data : Word)
  | guardConversion (c : GuardConv)
  | blankRelease (t : Nat)
  | corePowerDrop (t : Nat)
  | thermalRestart (t : Nat)
  | thermalUnlock (c : MboxCmd)
  | thmCntClear (p : Path)
  | health (ta : Nat) (body : List Byte) (t : Nat)
  | healthSend (t : Nat)
  | diverge (chain ta wfn slot t : Nat)
  | hello (r : HelloRec)
  | helloRecheck (stamps : PairStamps) (t : Nat)
  | stateRecord (r : StateRec)
  | stateRecordSend (t : Nat)
  | linkStateTimeout (t : Nat)
  | configRecord (o : ConfigObj) (t : Nat)
  | convergeEnd (t : Nat)
  | commitRecord (wfn t : Nat)
  | expressRecord (mask code eseq t : Nat)
  | refreshRecord (ta wfn slot t : Nat)
  | sliceSig (ta wfn slot scrc fsig t : Nat)
  | tileRecord (r : TileRec) (t : Nat)
  | leave (cause t : Nat)
  | receiptCheck (ta wfn slot : Nat)
  | ringReturnLoss (t : Nat)
  | silentTimeout (ta t : Nat)
  | joinTimeout (t : Nat)
  | joinRetry (t : Nat)
  | holdoffExpiry (t : Nat)
  | startupStandbyExpiry (t : Nat)
  | pairRejoin (c : MboxCmd)
  | pairTakeback (c : MboxCmd)
  | pairRelinquish (c : MboxCmd)
  | redCntClear (p : Path)
  | standby (c : MboxCmd)
  | gatePoint (t : Nat)
  | wake (c : MboxCmd)
  | wakeWrite (p : Path) (data : Word)
  /-- A WAKE input has been at a level for 1 ms (R303). -/
  | wakePin (pin : Nat) (x : WakeLevel)
  | alarm (t : Nat)
  | wakeComplete (t : Nat)
  | powerDown (c : MboxCmd)
  /-- PF_SENSE has been below 1.000 V for `holds` ns (R305). -/
  | pfWarning (e : PinEdge)
  | pfRestart (t : Nat)
  | corePgRise (t : Nat)
  | coreResetRelease (straps t : Nat)
  | corePgTimeout (t : Nat)
  | powerRetry (t : Nat)
  | corePgFall (t : Nat)
  | resetN (t : Nat)
  | watchdogExpiry (t : Nat)
  | umbraPowerOn (t : Nat)
  | powerOnStart (t : Nat)
  | umbraSupplyLoss (t : Nat)
  | tcxoStop (t : Nat)
  | bootGo (p : Path) (data : Word)
  | firmwareStart (t : Nat)
  | tcxoResume (t : Nat)
  | pfSenseRise (t : Nat)
  | umbraRealign (t : Nat)
  | rtcLatch (p : Path)
  | reset (c : MboxCmd)
  | stageBegin (c : MboxCmd)
  | stageData (c : MboxCmd)
  | stageEnd (c : MboxCmd)
  | stageVerifyComplete (type t : Nat)
  | stageAbort (c : MboxCmd)
  | stageTimeout (type t : Nat)
  | activate (c : MboxCmd)
  | activateCommit (t : Nat)
  | confirm (c : MboxCmd)
  | confirmTimeout (t : Nat)
  | keyInstall (c : MboxCmd)
  | lcToken (c : MboxCmd)
  | scrap (c : MboxCmd)
  | attest (c : MboxCmd)
  | truCntClear (p : Path)
  | admitStaged (c : MboxCmd)
  | admissionComplete (train : List Nat) (t : Nat)
  /-- A read of MET_ENERGY_LO on a path (R344). -/
  | energyLatch (p : Path)
  /-- The meter samples (R333). -/
  | meterSample (m : MeterSampleIn)
  /-- A filtered transition of MET_SEAL: low is sealed (R336). -/
  | sealTransition (low : Bool) (t : Nat)
  /-- The lamp drive offers a picture's light sums (R339). -/
  | lightOffer (l : LightIn)
  /-- Umbra's count reaches a multiple of RECORD_S (R340). -/
  | recordClose (t : Nat)
  /-- The oldest waiting page is signed and programmed, or fails at a flash address (R342, Table 19.3). -/
  | recordProgrammed (err : Option Nat) (t : Nat)
  /-- The meter comparator trips (R332). -/
  | meterSupplyTrip (t : Nat)
  /-- The meter supply returns; the flash holds a counter value (R337). -/
  | meterPowerOn (flash : Nat) (t : Nat)
  /-- Frames of the meter port (R336): whether the frame's CRC passes, then the body. -/
  | meterRead (crcOk : Bool) (offset : Nat)
  | meterWrite (crcOk : Bool) (offset : Nat) (data : Word) (t : Nat)
  | recordFetch (crcOk : Bool) (number : Nat)
  | eventFetch (crcOk : Bool) (number : Nat)
  | meterFwBlock (crcOk : Bool) (b : MeterBlock)
  /-- VERIFY with the metering authority's public key that travels with the image (R343). -/
  | meterVerify (crcOk : Bool) (key : List Byte)
  | meterActivate (crcOk : Bool) (t : Nat)
  /-- Mailbox commands of the meter (Table 20.7). -/
  | metTag (c : MboxCmd)
  | metFetch (c : MboxCmd)
  /-- A REG_RD or REG_WR message addressed to this tile. -/
  | regRd (m : RegMsg)
  | regWr (m : RegMsg)
  | regRsp (m : RegRspMsg)
  | mbox (m : MboxMsg)
  | mboxRsp (m : MboxRspMsg)
  | bulk (m : BulkMsg)
  /-- A HOLD message (Table 7.5): KIND 0 HOLD, 1 RELEASE. -/
  | holdMessage (kind wfn t : Nat)
  | holdMessageRepeat (t : Nat)
  | nop (c : MboxCmd)
  | resync (c : MboxCmd)
  | tokenStatus (c : MboxCmd)
  | abort (c : MboxCmd)
  | hold (c : MboxCmd)
  | release (c : MboxCmd)
  | paramWrite (c : MboxCmd)
  | paramRead (c : MboxCmd)
  | selftest (c : MboxCmd)
  | tileReg (c : MboxCmd)
  | tileCmd (c : MboxCmd)
  | tileBulk (c : MboxCmd)
  | relayRetry (ta tag t : Nat)
  | relayTimeout (ta tag t : Nat)
  | sqTailWrite (x : SqTail)
  | cqHeadWrite (p : Path) (data : Word)
  | ringEnable (p : Path) (data : Word)
  | ringDisable (p : Path) (data : Word)
  /-- A write of CMD_SPI_CTRL with GO, at instant `t`. -/
  | spiGo (p : Path) (data : Word) (t : Nat)
  /-- Frames of the SPI target port (R346): a READ of `words` words, a WRITE of whole words, a STATUS with whether a write is still
  pending at the arbiter. -/
  | spiRead (addr words : Nat)
  | spiWrite (addr : Nat) (data : List Word)
  | spiStatus (writePending : Bool)
  | cmdCntClear (p : Path)
  /-- Wall time reaches W(wfn). -/
  | frameStart (wfn : Nat)
  /-- The chain window of (wfn, slot) opens. -/
  | chainWindowOpen (wfn slot : Nat)
  /-- An island generator crosses its declared floor, at a frequency in units of 0.1 MHz. -/
  | islandBelowFloor (island freq t : Nat)
  | islandFloorRegained (island freq t : Nat)
  /-- Update-IR with an opcode, and whether RESET_N is held low (R388). -/
  | jtagUpdateIr (opcode : Nat) (resetLow : Bool)
  | jtagUpdateDr (d : JtagDr)
  | jtagReset
  | jtagRunTestIdle
  /-- A write to DBG_TMUX_SEL(k) (R391). -/
  | tmuxSelect (k : Nat) (w : RegWrite)
  | bist (c : MboxCmd)
  /-- The tests end: the first failing element, and the islands that failed and were tested (R393). -/
  | bistComplete (fail : Option Nat) (failed : Word) (done : Word) (t : Nat)
  | dbgCntClear (w : RegWrite)
  deriving DecidableEq, Repr

end Sys2Proof
end

