-- ==== Sys2Proof/Decode.lean ====
section
/-! DEFINITION. The decoder of table words. The spec gives no command an encoding in bits of its own (opcode_table.json gives no row
bits), so no word spells a command (log entry 8). -/
namespace Sys2Proof

/-- The command a word of `nbits` bits spells by the table's bits: none. -/
def decodeTableWord (_nbits _w : Nat) : Option Instr := none

end Sys2Proof
end

