-- ==== Sys2Proof/Machine/Bits.lean ====
section
/-! DEFINITION. Bit fields, little-endian byte strings, signed readings, saturation and the CRCs the chapters share. -/
namespace Sys2Proof.Machine

/-- The field of `len` bits of a register whose least significant bit is `lo`. -/
def fieldOf (w : Word) (lo len : Nat) : Nat := (w.toNat >>> lo) % 2 ^ len

/-- A register with the field `[lo + len - 1 : lo]` replaced by `v` modulo `2 ^ len`. -/
def putField (w : Word) (lo len v : Nat) : Word :=
  let m : Word := BitVec.ofNat 32 ((2 ^ len - 1) <<< lo)
  (w &&& ~~~ m) ||| (BitVec.ofNat 32 ((v % 2 ^ len) <<< lo) &&& m)

/-- Bit `n` of a register. -/
def bitOf (w : Word) (n : Nat) : Bool := w.getLsbD n

/-- Bit `n` of a natural number. -/
def natBit (v n : Nat) : Bool := v.testBit n

/-- One or zero, for a flag. -/
def flag (b : Bool) : Nat := if b then 1 else 0

/-- A word from a number, modulo 2 ^ 32. -/
def word (n : Nat) : Word := BitVec.ofNat 32 n

/-- The low and high halves of a 64-bit quantity. -/
def loWord (n : Nat) : Word := BitVec.ofNat 32 n
def hiWord (n : Nat) : Word := BitVec.ofNat 32 (n / 2 ^ 32)

/-- A counter that saturates at 2 ^ 32 - 1 and never wraps (R63 and the like). -/
def satAdd (w : Word) (k : Nat) : Word := BitVec.ofNat 32 (Nat.min (w.toNat + k) (2 ^ 32 - 1))

/-- Clamp a number to at most `m`. -/
def satTo (m v : Nat) : Nat := Nat.min v m

/-- Signed reading of the low `n` bits of a number. -/
def signedOf (n v : Nat) : Int :=
  let u := v % 2 ^ n
  if u < 2 ^ (n - 1) then (u : Int) else (u : Int) - (2 ^ n : Nat)

/-- Two's-complement code of an integer in `n` bits. -/
def codeOf (n : Nat) (v : Int) : Nat := (v % ((2 ^ n : Nat) : Int)).toNat

/-- Clamp an integer to the range of `n`-bit two's complement. -/
def satSigned (n : Nat) (v : Int) : Int :=
  max (-((2 ^ (n - 1) : Nat) : Int)) (min v (((2 ^ (n - 1) : Nat) : Int) - 1))

/-- Clamp an integer to an interval. -/
def clampInt (lo hi v : Int) : Int := max lo (min hi v)

/-- Little-endian number of a byte string. -/
def leNat : List Byte → Nat
  | [] => 0
  | b :: bs => b.toNat + 256 * leNat bs

/-- Little-endian byte string of `n` bytes. -/
def leBytes : Nat → Nat → List Byte
  | 0, _ => []
  | n + 1, v => BitVec.ofNat 8 v :: leBytes n (v / 256)

/-- Big-endian number of a byte string, and big-endian bytes. -/
def beNat (bs : List Byte) : Nat := leNat bs.reverse
def beBytes (n v : Nat) : List Byte := (leBytes n v).reverse

/-- Byte `i` of a string, 0 past its end. -/
def byteAt (bs : List Byte) (i : Nat) : Nat := (bs.getD i 0).toNat

/-- The little-endian field of `len` bytes at offset `off` of a string. -/
def leAt (bs : List Byte) (off len : Nat) : Nat := leNat ((bs.drop off).take len)

/-- Bytes `off` to `off + len - 1` of a string. -/
def slice (bs : List Byte) (off len : Nat) : List Byte := (bs.drop off).take len

/-- A byte from a number. -/
def byteOf (n : Nat) : Byte := BitVec.ofNat 8 n

/-- A string of `n` zero bytes. -/
def zeroBytes (n : Nat) : List Byte := List.replicate n 0

/-- The first `n` bytes of a byte string, zeros after its end. -/
def firstBytes (n : Nat) (bs : List Byte) : List Byte := (List.range n).map (fun i => bs.getD i 0)

/-- The ASCII bytes of a context string. -/
def asciiBytes (s : String) : List Byte := s.toList.map (fun c => byteOf c.toNat)

/-- Every byte of a string is zero. -/
def allZero (bs : List Byte) : Bool := bs.all (· == 0)

/-- One reflected CRC step of a byte: eight shifts with polynomial `poly`. -/
def crcByte (poly : Nat) (c : Nat) (b : Byte) : Nat :=
  (List.range 8).foldl (fun c _ => if c % 2 = 1 then (c / 2) ^^^ poly else c / 2) (c ^^^ b.toNat)

/-- CRC-32C (Castagnoli): reflected polynomial 0x82F6_3B78, initial value and final XOR all ones. -/
def crc32c (bs : List Byte) : Nat :=
  (bs.foldl (crcByte 0x82F63B78) 0xFFFFFFFF) ^^^ 0xFFFFFFFF

/-- CRC-16 x^16 + x^12 + x^5 + 1, initial value 0xFFFF, MSB first, no final inversion (R127). -/
def crc16 (bs : List Byte) : Nat :=
  bs.foldl (fun c b => (List.range 8).foldl (fun c _ => if c / 32768 % 2 = 1 then (c * 2 % 65536) ^^^ 0x1021 else c * 2 % 65536) (c ^^^ (b.toNat * 256))) 0xFFFF

/-- Ceiling division. -/
def ceilDiv (a b : Nat) : Nat := (a + b - 1) / b

/-- Floor of the base-2 logarithm, 0 for 0. -/
def log2 (n : Nat) : Nat := Nat.log2 n

/-- Number of bits set among the low `n`. -/
def popcount (n v : Nat) : Nat := ((List.range n).filter (fun i => v.testBit i)).length

/-- The indices below `n` whose bit is set. -/
def setBits (n v : Nat) : List Nat := (List.range n).filter (fun i => v.testBit i)

/-- `a` modulo `m` for integers, as a natural number. -/
def intMod (a : Int) (m : Nat) : Nat := (a % (m : Int)).toNat

end Sys2Proof.Machine
end

