-- ==== Sys2Proof/Machine/Cells.lean ====
section
/-! DEFINITION. Sparse data in one canonical form: (address, value) pairs, addresses strictly rising, no pair equal to what
an unlisted address reads as. The register file, the flashes, DRAM and the buffers are kept so. -/
namespace Sys2Proof.Machine

/-- What an address reads as: its entry, or the default `d` of an unlisted address. -/
def cellGet {β : Type} (d : Nat → β) (l : List (Nat × β)) (a : Nat) : β :=
  match l.find? (fun p => p.1 == a) with
  | some p => p.2
  | none => d a

/-- Put a pair at its place in a rising list. -/
def cellInsert {β : Type} (a : Nat) (v : β) : List (Nat × β) → List (Nat × β)
  | [] => [(a, v)]
  | p :: ps => if a < p.1 then (a, v) :: p :: ps else p :: cellInsert a v ps

/-- Write one address; a write of the default removes the entry. -/
def cellSet {β : Type} [DecidableEq β] (d : Nat → β) (l : List (Nat × β)) (a : Nat) (v : β) : List (Nat × β) :=
  let l' := l.filter (fun p => p.1 != a)
  if v = d a then l' else cellInsert a v l'

/-- Write consecutive addresses. -/
def cellSetMany {β : Type} [DecidableEq β] (d : Nat → β) (l : List (Nat × β)) (a : Nat) : List β → List (Nat × β)
  | [] => l
  | v :: vs => cellSetMany d (cellSet d l a v) (a + 1) vs

/-- Read `n` consecutive addresses. -/
def cellRead {β : Type} (d : Nat → β) (l : List (Nat × β)) (a n : Nat) : List β :=
  (List.range n).map (fun i => cellGet d l (a + i))

/-- Drop every entry whose address satisfies `p` (a reset of those addresses to the default). -/
def cellErase {β : Type} (p : Nat → Bool) (l : List (Nat × β)) : List (Nat × β) := l.filter (fun c => !p c.1)

/-- The canonical form: addresses strictly rising and no entry equal to the default of its address. -/
def cellWf {β : Type} [DecidableEq β] (d : Nat → β) (l : List (Nat × β)) : Bool :=
  decide (l.Pairwise (fun p q => p.1 < q.1)) && l.all (fun p => decide (p.2 ≠ d p.1))

/-- A table keyed by numbers: the value of a key, 0 when unlisted. -/
def tabGet (l : List (Nat × Nat)) (k : Nat) : Nat := cellGet (fun _ => 0) l k

/-- A table keyed by numbers with a key set. -/
def tabSet (l : List (Nat × Nat)) (k v : Nat) : List (Nat × Nat) := cellSet (fun _ => 0) l k v

/-- A table keyed by numbers with `v` added at a key. -/
def tabAdd (l : List (Nat × Nat)) (k v : Nat) : List (Nat × Nat) := tabSet l k (tabGet l k + v)

end Sys2Proof.Machine
end

