-- ==== Sys2Proof/Machine/State.lean ====
section
/-! DEFINITION. The state of the DN9600 as plain data: the register file, the structures the chapters name beside the
registers, the queue of waiting commands, and the machine right after reset. -/
namespace Sys2Proof.Machine

/-- The role an admitted image gives the device (R1, Table 2.2). -/
inductive Role where
  | sender
  | tile
  deriving DecidableEq, Repr

/-- A record of the ROUTE section (R32). -/
structure RouteRec where
  src : Nat
  dst : Nat
  firstQueue : Nat
  queueCount : Nat
  deriving DecidableEq, Repr

/-- A record of the ISLANDS section (Table 2.7). -/
structure IslandRec where
  island : Nat
  enabled : Bool
  queueShare : Nat
  floorKhz : Nat
  nominalKhz : Nat
  powerMw : Nat
  deriving DecidableEq, Repr

/-- A queue descriptor (Table 2.8); its position is the queue's number. -/
structure QueueRec where
  producer : Nat
  consumer : Nat
  depth : Nat
  store : Nat
  deriving DecidableEq, Repr

/-- An operation record (Table 3.1) with its successor list and its queue list. -/
structure OpRec where
  facet : Nat
  slot : Nat
  depInit : Nat
  issue : Nat
  deadline : Nat
  wcc : Nat
  codeEntry : Nat
  succs : List Nat
  queues : List Nat
  deriving DecidableEq, Repr

/-- An arrival window (Table 3.2). -/
structure WindowRec where
  endpoint : Nat
  ref : Nat
  slot : Nat
  opens : Nat
  closes : Nat
  words : Nat
  deriving DecidableEq, Repr

/-- A slack record (Table 3.2): its windows are pairs of START and LENGTH. -/
structure SlackRec where
  island : Nat
  slackNs : Nat
  windows : List (Nat × Nat)
  deriving DecidableEq, Repr

/-- A DRAM port of the CONTRACT section (Table 3.2). -/
structure PortRec where
  port : Nat
  cls : Nat
  channels : Nat
  bytesPerFrame : Nat
  latencyTarget : Nat
  deadline : Nat
  deriving DecidableEq, Repr

/-- A queue bound (Table 3.2). -/
structure BoundRec where
  queue : Nat
  maxOcc : Nat
  words : Nat
  deriving DecidableEq, Repr

/-- A parameter record (Table 2.10); `blobDefault` holds the elements of a BLOB's INIT record. -/
structure ParamRec where
  id : Nat
  type : Nat
  apply : Nat
  size : Nat
  min : Nat
  max : Nat
  dflt : Nat
  blobDefault : List Nat
  deriving DecidableEq, Repr

/-- The traffic window of a port in the DRAM section (chapter 14, The DRAM section). -/
structure DramPortRec where
  port : Nat
  winStart : Nat
  winLen : Nat
  deriving DecidableEq, Repr

/-- The DRAM section (Table 14.2). -/
structure DramRec where
  chanMask : Nat
  spCodes : List Nat
  spBoot : Nat
  trackMs : Nat
  switchStart : Nat
  switchLen : Nat
  poolBase : Nat
  poolSize : Nat
  density : List Nat
  ports : List DramPortRec
  deriving DecidableEq, Repr

/-- A slot record of the TIMELINE section (Table 10.2). -/
structure SlotRec where
  kind : Nat
  index : Nat
  passes : Nat
  startNs : Nat
  lengthNs : Nat
  lineQ : Nat
  blankNs : Nat
  expFirst : Nat
  expPasses : Nat
  deriving DecidableEq, Repr

/-- The TIMELINE section (Tables 10.1 and 10.2). -/
structure Timeline where
  num : Nat
  den : Nat
  lines : Nat
  nImage : Nat
  nShadow : Nat
  scan : Nat
  maxLayers : Nat
  maxOverlap : Nat
  slots : List SlotRec
  deriving DecidableEq, Repr

/-- A record of the CHAINS section (Table 8.6). -/
structure ChainRec where
  chain : Nat
  rate : Nat
  n : Nat
  mode : Nat
  width : Nat
  height : Nat
  emitters : Nat
  poolDepth : Nat
  qpMin : Nat
  qpInit : Nat
  sliceRows : Nat
  refreshRows : Nat
  roiMax : Nat
  deriving DecidableEq, Repr

/-- A record of the INIT section (chapter 2, The container). -/
structure InitRec where
  island : Nat
  offset : Nat
  data : List Byte
  deriving DecidableEq, Repr

/-- A structure image as the device reads it (R29 to R34, Tables 2.2 to 2.10). The CODE section is opaque (R6). -/
structure Image where
  role : Role
  imageId : Nat
  imageLength : Nat
  minSilicon : Nat
  minFirmware : Nat
  securityVersion : Nat
  keyId : List Byte
  routes : List RouteRec
  islands : List IslandRec
  queues : List QueueRec
  ops : List OpRec
  windows : List WindowRec
  slacks : List SlackRec
  ports : List PortRec
  bounds : List BoundRec
  dram : DramRec
  timeline : Timeline
  chains : List ChainRec
  params : List ParamRec
  inits : List InitRec
  deriving DecidableEq, Repr

/-- Where an operation of an instance stands (R48, R49, R56). -/
inductive OpStatus where
  | waiting
  /-- issued at this instant (2^-16 ns of wall time) -/
  | issued (t : Nat)
  | completed
  | shed
  deriving DecidableEq, Repr

/-- An operation of an instance in progress (R48, R54, R55). -/
structure OpRun where
  status : OpStatus
  counter : Nat
  /-- instant at which the counter reached 0 -/
  zeroAt : Nat
  breached : Bool
  /-- the operation is breached, or takes words derived from a breached one (R55) -/
  tainted : Bool
  /-- the watched queue on which its wait was counted (R35, R63) -/
  stalled : Option Nat
  deriving DecidableEq, Repr

/-- An instance in progress: its WFN, its operations, words delivered and event fired per arrival window (R48, R52, R401). -/
structure Instance where
  wfn : Nat
  ops : List OpRun
  delivered : List Nat
  fired : List Bool
  /-- breach tag of the instance (R55) -/
  tag : Bool
  /-- shed as a whole: words of operations still running are discarded (R56) -/
  abandoned : Bool
  deriving DecidableEq, Repr

/-- A record of the dispatch trace (Table 3.9). -/
structure TraceRec where
  time : Nat
  wfn : Nat
  facet : Nat
  event : Nat
  cause : Nat
  object : Nat
  value : Nat
  deriving DecidableEq, Repr

/-- Kinds of background work (R58, R60). -/
inductive BgKind where
  | selftest (island : Nat)
  | admission
  | calStore
  | stage (type : Nat)
  /-- a live-set recompute that the image declares as background work (R202); it has no long operation, and token 0 -/
  | liveSet
  deriving DecidableEq, Repr

/-- A background job: its kind, the token of its long operation, the work left in ns (none where the spec states no
figure), and its islands (R60). -/
structure BgJob where
  kind : BgKind
  token : Nat
  left : Option Nat
  work : Option Nat
  islands : List Nat
  deriving DecidableEq, Repr

/-- A background chunk that runs on an island (R58). -/
structure BgChunk where
  island : Nat
  starts : Nat
  ends : Nat
  windowEnds : Nat
  token : Nat
  kind : BgKind
  deriving DecidableEq, Repr

/-- A throttle pause in progress on an island, and the end of its slack window (R58). -/
structure PauseRun where
  island : Nat
  starts : Nat
  ends : Nat
  windowEnds : Nat
  deriving DecidableEq, Repr

/-- Dispatchers, queues, slack use and trace (chapter 3). -/
structure SchSt where
  instances : List Instance
  /-- WFN of the newest instance started (R107) -/
  newest : Nat
  /-- decrements on their way to a counter: (WFN, operation) (R48) -/
  decrements : List (Nat × Nat)
  /-- words in the hardware queues by queue and instance: (queue, WFN, words), every count positive -/
  queueWords : List (Nat × Nat × Nat)
  /-- words written for an instance not yet loaded: (WFN, arrival window, words) (R52) -/
  early : List (Nat × Nat × Nat)
  pauses : List PauseRun
  /-- instant of the last frame start, and busy time of each facet since: (facet, units) (Table 3.7) -/
  frameAt : Nat
  busy : List (Nat × Nat)
  /-- pause and background time of each island since the frame start, in ns (SCH_ISL_SLACK) -/
  pauseAcc : List (Nat × Nat)
  bgAcc : List (Nat × Nat)
  /-- facets with a completion since PEAK and MARGIN were last cleared -/
  marginSeen : List Nat
  jobs : List BgJob
  chunks : List BgChunk
  trace : List TraceRec
  /-- next record position, and records still to keep after a trigger -/
  tracePtr : Nat
  postLeft : Nat
  /-- instant of the last record the buffer accepted, and an excess record lost since (R64) -/
  traceAt : Option Nat
  traceLost : Bool
  deriving DecidableEq, Repr

/-- A parameter of the running image with its value in force (R40); a scalar has one element. -/
structure ParamVal where
  spec : ParamRec
  value : List Nat
  deriving DecidableEq, Repr

/-- The apply point an accepted parameter write waits for (R40, R42). -/
inductive ApplyAt where
  | frame (wfn : Nat)
  | commit
  | restart
  deriving DecidableEq, Repr

/-- An accepted write still waiting for its apply point (R42). -/
structure PendingParam where
  id : Nat
  value : List Nat
  apply : ApplyAt
  deriving DecidableEq, Repr

/-- An admission in progress (R36, R37): the slot it reads and, for a staged image, its token and the path asked from. -/
structure AdmJob where
  staged : Bool
  slot : Nat
  token : Nat
  deriving DecidableEq, Repr

/-- The running image and its parameters (chapter 2). -/
structure GenSt where
  running : Option Image
  /-- boot has completed: RWL registers are locked (R7) -/
  bootDone : Bool
  /-- instant boot completed (UPTIME, Table 16.3) -/
  bootAt : Nat
  params : List ParamVal
  pendingParams : List PendingParam
  /-- between the commit of an ACTIVATE and the run of the new image (R42) -/
  activating : Bool
  /-- an ACTIVATE has shed the instances, and its load waits for the operations still running (R56, R325) -/
  loadDue : Bool
  admission : Option AdmJob
  /-- the staged image slot that has been admitted and stays so (R37) -/
  admitted : Option Nat
  /-- the staged image slot whose admission failed only with RUNNING_DIFF or UNTRAINED_SP, which REBOOT allows (R324) -/
  rebootOnly : Option Nat
  deriving DecidableEq, Repr

/-- A response or completion record (Table 20.3). -/
structure Response where
  opcode : Nat
  tag : Nat
  status : Nat
  flags : Nat
  token : Nat
  detail : Nat
  wfn : Nat
  body : List Byte
  deriving DecidableEq, Repr

/-- A long operation in progress (R352, Table 20.10); `owner` is none once its path was abandoned (R354). -/
structure LongOp where
  token : Nat
  opcode : Nat
  tag : Nat
  owner : Option MboxPath
  startWfn : Nat
  detail : Nat
  deriving DecidableEq, Repr

/-- A kept completion record (R352), the path that owned its operation, and whether an ABORT ended it (R353). -/
structure KeptRecord where
  record : Response
  owner : Option MboxPath
  aborted : Bool
  deriving DecidableEq, Repr

/-- A command a sender relays to a tile (R355, R356). -/
structure Relay where
  /-- destination TA, message TAG and whether it is TILE_REG -/
  ta : Nat
  msgTag : Nat
  isReg : Bool
  /-- the host command it answers -/
  path : MboxPath
  hostOpcode : Nat
  hostTag : Nat
  /-- message type of Table 7.5 and its bodies, one per segment -/
  msgType : Nat
  bodies : List (List Byte)
  /-- none while it waits for one of the 4 places of its tile; the instant of the first sending, and sendings so far -/
  sentAt : Option Nat
  sends : Nat
  deriving DecidableEq, Repr

/-- A relayed command whose tile runs it as a long operation: its later record goes to this host path (R356). -/
structure TileLongOp where
  ta : Nat
  token : Nat
  path : MboxPath
  hostTag : Nat
  deriving DecidableEq, Repr

/-- A response a tile keeps for one SIDE and TAG (R356). -/
structure DupEntry where
  side : Nat
  tag : Nat
  bodies : List (List Byte)
  deriving DecidableEq, Repr

/-- A segmented message on its way (Table 20.4): source (the SIDE of an MBOX, 2 + SIDE of a BULK, 256 + TA of an MBOX_RSP), TAG, SEQ,
COUNT, and the segments that arrived as (index, bytes). -/
structure SegAsm where
  source : Nat
  tag : Nat
  seq : Nat
  count : Nat
  parts : List (Nat × List Byte)
  deriving DecidableEq, Repr

/-- Mailbox state (chapter 20). -/
structure CmdSt where
  longOps : List LongOp
  kept : List KeptRecord
  nextToken : Nat
  /-- PCIe responses waiting for room in the completion ring (R350) -/
  waitingRsp : List Response
  /-- SPI command and response buffers (R351), canonical, an unlisted byte reads 0 -/
  spiReq : List Host.Cell
  spiRsp : List Host.Cell
  /-- summaries taken since reset (SNAP_SEQ) -/
  snapSeq : Nat
  relays : List Relay
  tileOps : List TileLongOp
  /-- next message TAG per tile: (TA, TAG) -/
  relayTags : List (Nat × Nat)
  dups : List DupEntry
  segs : List SegAsm
  /-- SEQ of the next segmented message sent -/
  segSeq : Nat
  deriving DecidableEq, Repr

/-- What the device sends or drives. -/
inductive Output where
  | msi (vector : Nat)
  | hostWrite (addr : Nat) (bytes : List Byte)
  /-- data of a register read, a BAR2 read or a fetched word -/
  | readData (bytes : List Byte)
  /-- a record sent over the lockstep link (Table 16.1) -/
  | link (r : LinkRecord)
  /-- an answer of the management port: session or 0, and its content -/
  | mgmt (session seq : Nat) (tag body : List Byte)
  /-- OPEN answered BUSY (R79) -/
  | mgmtBusy
  | arpReply (port sub : Nat)
  | icmpReply (port sub : Nat) (data : List Byte)
  /-- a slice a sender codes (R127): chain, TA, FLAGS, WFN, ROWS, SCRC, FSIG, data -/
  | slice (chain ta flags wfn rows scrc fsig : Nat) (bytes : List Byte)
  /-- the RECEIPT row and IDLE rows that replace a consumed slice, on the port opposite to `port` (R128) -/
  | receipt (port ta flags wfn rows scrc result : Nat)
  /-- a row forwarded from `port` to the opposite port (R137) -/
  | row (port : Nat) (blocks : List Block)
  /-- a control row sent on a port (R129) -/
  | control (port : Nat) (row : CtlRow)
  /-- IDLE content rows sent on a port in holdover (R145); one IDLE row omitted after an express symbol (R136) -/
  | idleRows (port rows : Nat)
  | idleOmitted (port : Nat)
  /-- a training cycle on a transmit port (R139, R142, Table 7.10): the clock lane's 66-bit period, the slip of each lane after the
  clock marker, the identity word of each lane, and the first TRAIN block of each lane, whose BCNT counts on to 8,191 -/
  | train (port : Nat) (clock : List Bool) (slips words : List Nat) (blocks : List (List Byte))
  /-- an express symbol sent on a port (R132) -/
  | express (port code eseq : Nat)
  /-- a Delay_Req sent on a PTP port, multicast or unicast to the parent (R169, R170) -/
  | delayReq (port seq : Nat) (unicast : Bool)
  /-- data of a DRAM read returned to a port, and the words that carry the breach tag (R248) -/
  | dramData (port : Nat) (bytes : List Byte) (bad : List Nat)
  /-- LAMP_PWR_EN's level (R230) -/
  | lampPower (high : Bool)
  /-- lanes 0 to n - 1 send cells, idle ones outside frames and symbols; every other lane is held low (R192, R213, R217) -/
  | glintLanes (n : Nat)
  /-- every row output goes inactive, at this level, or high-impedance before a map has set the polarity (R2, R231, R232) -/
  | rowsOff (level : Option Bool)
  /-- row output `row` is driven to its active level in the interval, in units of 2^-16 ns (R226) -/
  | rowOn (row : Nat) (level : Bool) (opens closes : Nat)
  /-- a data frame on every mapped lane (R219) -/
  | glintFrame (slot start : Nat) (lanes : List (List Nat))
  /-- the LATCH sequence of a slot with SWAP, and its action instant (R221) -/
  | glintLatch (slot : Nat) (swap : Bool) (action : Nat)
  /-- the LINE sequence of a shadow line: where its symbol starts, and its action instant (R221, R229) -/
  | glintLine (start action : Nat)
  /-- DARK on every mapped lane (R224) -/
  | glintDark
  /-- a CONFIG frame: the 17 words of each driver of each lane (R223) -/
  | glintConfig (start : Nat) (shares : List (List (List Nat)))
  /-- an I²C write of bytes, or a read of `n` results from a register, on a sensor port (R243) -/
  | i2cWrite (port addr : Nat) (bytes : List Byte)
  | i2cRead (port addr reg n : Nat)
  /-- CORE_PWR_REQ's level (R308) -/
  | corePower (high : Bool)
  /-- outputs follow their boundary cells; return to functional control; are high-impedance (R388, R389) -/
  | boundary (cells : List Bool)
  | functional
  | highZ
  /-- an AC pulse or train on the lanes (Table 23.2) -/
  | acPulse (train : Bool)
  /-- TMUX_k drives the signal of a DBG_TMUX_SEL value, or low when none (R391) -/
  | tmux (k : Nat) (sel : Option Word)
  /-- a pulse on MET_PULSE (R334) -/
  | metPulse
  /-- an answer on the meter port (R336) -/
  | meter (bytes : List Byte)
  /-- the meter port answers SEALED, or CRC, or NOT_FOUND -/
  | meterSealed
  | meterCrc
  | meterNotFound
  /-- a meter VERIFY's outcome (R343) -/
  | meterVerify (ok : Bool)
  /-- a pulse pin's level (R179) -/
  | timeOut (unit : Nat) (high : Bool)
  deriving DecidableEq, Repr

/-- Why the machine stops. No command of this part stops it but the accesses named here. -/
inductive Fault where
  /-- DRAM_REQUEST: the address lies outside the populated DRAM address space (R248); safe. -/
  | unpopulatedDram
  deriving DecidableEq, Repr

/-- Why a command has no meaning here. -/
inductive Refusal where
  /-- An arm of exec that is not modelled; raised by none of this model's meanings. -/
  | notModelled (mnemonic : String)
  deriving DecidableEq, Repr

/-- What an instance fetched at its prefill (R114): its colour table and tile meshes as they stood. -/
structure Prefill where
  wfn : Nat
  table : List Byte
  meshes : List (Nat × List Byte)
  /-- the first cell row of the surfaces slot 0 reads: (handle, bytes) -/
  rows : List (Nat × List Byte)
  deriving DecidableEq, Repr

/-- The pictures a chain window took (R115): (stream, surface handle). -/
structure WindowPics where
  wfn : Nat
  slot : Nat
  pics : List (Nat × Nat)
  deriving DecidableEq, Repr

/-- Stillness check of a stream (R120): the 10-bit samples and the size of the last promoted picture, its instant. -/
structure StillSt where
  stream : Nat
  width : Nat
  height : Nat
  samples : List Nat
  lastAt : Nat
  deriving DecidableEq, Repr

/-- Surfaces, committed sets and stillness (chapter 6). -/
structure CmpSt where
  surfaces : List Surface
  /-- generation last given to an index: (index, generation) -/
  gens : List (Nat × Nat)
  /-- committed sets by rising WFN; instance F reads the last with WFN ≤ F -/
  sets : List CommitSet
  prefills : List Prefill
  windows : List WindowPics
  still : List StillSt
  /-- bytes graphs wrote into PACKED bricks that are not complete, by address (R104) -/
  graphRaw : List Host.Cell
  /-- instant by which the BAR2 writes accepted before the last GO are applied at both senders (R112) -/
  goAfter : Nat
  deriving DecidableEq, Repr

/-- A stream packet a sender holds: its own or, with `port` 4, a forwarded copy (R74); `answered`: the other sender's digest of it has
come, or it went out unasked. -/
structure HeldPacket where
  seq : Nat
  stamp : Nat
  payload : List Byte
  port : Nat
  answered : Bool
  deriving DecidableEq, Repr

/-- The picture a stream is receiving (R71): RTP timestamp, first sequence number, the last packet settled present and how many are; the
written regions of a -20 picture as (row, first pixel, pixels), and the samples of PACKED bricks that are not complete, by (component,
column, row) (R104); its surface (none: discarded); the payloads and bytes of a coded one. -/
structure Fill where
  rtp : Nat
  firstSeq : Nat
  last : Nat
  present : Nat
  regions : List (Nat × Nat × Nat)
  raw : List ((Nat × Nat × Nat) × Nat)
  target : Option Nat
  packets : List (List Byte)
  bytes : Nat
  deriving DecidableEq, Repr

/-- What a follower carries out in the order it came: a verdict (sequence, HAVE, CRC) (R74), or a change of the leader's stream table, which
acts at the same packet (R76). -/
inductive Settle where
  | verdict (seq : Nat) (hasCopy : Bool) (crc : Nat)
  | table (addr : Nat) (data : Word)
  deriving DecidableEq, Repr

/-- Receive state of a stream (R69 to R75). -/
structure StreamSt where
  stream : Nat
  /-- rate bucket, in units of 1/(20,000 x 65,536) bit, and the instant it stood so -/
  tokens : Nat
  tokensAt : Nat
  /-- lowest sequence number not settled -/
  nextSeq : Option Nat
  held : List HeldPacket
  /-- packets written in the last 1 ms, kept to answer a REQUEST -/
  kept : List HeldPacket
  /-- digests of the other sender: (sequence, CRC) -/
  digests : List (Nat × Nat)
  /-- higher sequence numbers learnt of: (sequence, instant) -/
  learned : List (Nat × Nat)
  /-- verdicts and table changes a follower has not carried out -/
  verdicts : List Settle
  /-- requests unanswered: (sequence, instant sent) -/
  asked : List (Nat × Nat)
  fill : Option Fill
  /-- first sequence number of the next picture, once a picture has ended; RTP timestamp of the last picture begun -/
  nextPicture : Option Nat
  lastRtp : Option Nat
  /-- surface handle of the latest complete picture -/
  latest : Option Nat
  deriving DecidableEq, Repr

/-- A management session (R79). -/
structure Session where
  id : Nat
  key : List Byte
  lastSeq : Nat
  sendSeq : Nat
  lastAt : Nat
  deriving DecidableEq, Repr

/-- An entry of the MSI-X table: message address and data, mask bit (R77, Table 4.4). -/
structure MsixEntry where
  vector : Nat
  addr : Nat
  data : Nat
  masked : Bool
  deriving DecidableEq, Repr

/-- The PCIe endpoint (R77): the trained generation and width (none: link down), the configuration-space bytes software has changed, the
MSI-X table entries it has written, the pending bits that are set, and whether the link is in L1, as in dark standby (R299). -/
structure PcieSt where
  link : Option (Nat × Nat)
  l1 : Bool
  config : List Host.Cell
  msix : List MsixEntry
  pending : List Nat
  deriving DecidableEq, Repr

/-- Ingest and management (chapter 4). -/
structure IngSt where
  streams : List StreamSt
  /-- control frames in the 64 KiB buffer of a port, oldest first: (port, bytes) -/
  ctrl : List (Nat × Nat)
  sessions : List Session
  /-- instant until which the forwarding share of the lockstep link is taken, and what it carried: (instant, bits) -/
  fwdUntil : Nat
  fwdLog : List (Nat × Nat)
  /-- instant by which the other sender has every BAR2 write carried to it (R111, R112) -/
  barUntil : Nat
  pcie : PcieSt
  deriving DecidableEq, Repr

/-- A coded picture in a channel's coded buffer (R85, R86): its settled packets, oldest first, the verdict of its last one, the packets
settled MISSING (R92), and whether it is the first after data that found no room (R86). -/
structure CodedPic where
  channel : Nat
  rtp : Nat
  packets : List (List Byte)
  bytes : Nat
  readyAt : Nat
  absent : Nat
  afterLoss : Bool
  deriving DecidableEq, Repr

/-- Mark of a frame buffer in use (R87): a FREE one is in no list. -/
inductive FrameMark where
  | short
  | long
  | wait
  deriving DecidableEq, Repr

/-- A frame buffer of a reference pool (R87): output order, mark, whether it awaits output and how many pictures it has waited for, the
flags, and the picture it holds: its planes in raster order at its depth, `chroma` 0 4:2:0, 1 4:2:2. -/
structure FrameBuf where
  poc : Int
  mark : FrameMark
  needed : Bool
  waited : Nat
  generated : Bool
  damaged : Bool
  rtp : Nat
  width : Nat
  height : Nat
  chroma : Nat
  depth : Nat
  colour : Option ColourInfo
  planes : List (List Nat)
  deriving DecidableEq, Repr

/-- The reference pool of a HEVC channel (R87): the frame buffers it is divided into, those in use, and whether the RASL pictures of its
last IRAP picture are not output (R90). -/
structure PoolState where
  channel : Nat
  total : Nat
  bufs : List FrameBuf
  noRasl : Bool
  deriving DecidableEq, Repr

/-- A picture under decoding, or suspended (R84): its decoder, picture and deadline. -/
structure Decoding where
  decoder : Nat
  pic : CodedPic
  deadline : Nat
  suspended : Bool
  deriving DecidableEq, Repr

/-- A decoded picture written and not yet promoted (R88, R89). -/
structure WrittenPic where
  channel : Nat
  handle : Nat
  rtp : Nat
  damaged : Bool
  t : Nat
  /-- first opening at least 50 µs after this sender's write, and whether the leader has announced one (R89) -/
  opening : Nat × Nat
  announced : Bool
  deriving DecidableEq, Repr

/-- A return picture in progress (R95 to R98): WFN, slices started and written, start of the last slice, its kind. -/
structure RetPic where
  wfn : Nat
  slot : Nat
  started : Nat
  next : Nat
  lastStart : Nat
  idr : Bool
  isRepeat : Bool
  lift : Bool
  /-- the ring was full: the rest of the picture is not written -/
  cut : Bool
  deriving DecidableEq, Repr

/-- Codec engine (chapter 5). -/
structure CdcSt where
  /-- complete coded pictures, oldest first -/
  coded : List CodedPic
  decoding : List Decoding
  written : List WrittenPic
  /-- openings announced for a channel: (channel, WFN, slot) (R89) -/
  announced : List (Nat × Nat × Nat)
  /-- the other sender's own openings the leader has not matched: (channel, WFN, slot) (R89) -/
  otherWritten : List (Nat × Nat × Nat)
  pools : List PoolState
  /-- completion of a channel's previous picture (R85) -/
  lastDone : List (Nat × Nat)
  /-- channels whose next whole picture is the first after an overflow (R86) -/
  overflowed : List Nat
  /-- return pictures in coding order, the oldest first -/
  ret : List RetPic
  /-- the next return picture is coded as IDR, and pictures since the last IDR -/
  idrDue : Bool
  sinceIdr : Nat
  /-- slice start bookkeeping: s_(k-1) + d of the last slice, in units of 2^-16 ns -/
  retNext : Nat
  /-- content of the encoder's HRD buffer, in bits × 2^16 × 10^9, and the instant it stood so (R96) -/
  hrd : Nat
  hrdAt : Nat
  deriving DecidableEq, Repr

/-- An entry of a reference pool (R148, R157): state 0 EMPTY, 1 VALID, 2 MISSING; 36-bit pixels in raster order; the cells
flagged unresolved; `usable` at a sender. -/
structure PoolEntry where
  state : Nat
  seq : Nat
  wfn : Nat
  unresolved : List Nat
  pixels : List Nat
  usable : Bool
  deriving DecidableEq, Repr

/-- The pool of one image slot, newest first, with the SEQ last stored (none before the first slice) (R148, R154), and whether
a slice of the slot has been received since the image started (R153). -/
structure SlotPool where
  slot : Nat
  lastSeq : Option Nat
  received : Bool
  entries : List PoolEntry
  deriving DecidableEq, Repr

/-- A sender's coder of one tile (R148, R161, R162): its copy of the pool, and QP and next FIRST_CELL of each slot. -/
structure TileCoder where
  ta : Nat
  pools : List SlotPool
  qp : List Nat
  firstCell : List Nat
  deriving DecidableEq, Repr

/-- A slice a tile holds for decoding (R128, R284). -/
structure RxSlice where
  port : Nat
  wfn : Nat
  slot : Nat
  flags : Nat
  scrcOk : Bool
  fsig : Nat
  bytes : List Byte
  t : Nat
  deriving DecidableEq, Repr

/-- A picture a tile decoded and has not latched (R22): complete unless it must be repeated. -/
structure DecodedPic where
  wfn : Nat
  slot : Nat
  pixels : List Nat
  breached : Bool
  t : Nat
  deriving DecidableEq, Repr

/-- A refresh request outstanding at a tile (R156): slot, the picture it named, the instant sent, whether sent again. -/
structure RefreshAsk where
  slot : Nat
  wfn : Nat
  ref : Nat
  sentAt : Nat
  again : Bool
  deriving DecidableEq, Repr

/-- Chain coding (chapter 8): the sender's coders and refreshes; the tile's pool, slices and pictures. -/
structure CcxSt where
  tiles : List TileCoder
  refresh : List RefreshJob
  /-- pictures already counted in SCH_SLOT_REPEAT: (WFN, slot) -/
  repeated : List (Nat × Nat)
  pools : List SlotPool
  rx : List RxSlice
  /-- last picture decoded in (WFN, slot) order -/
  lastDecoded : Option (Nat × Nat)
  decoded : List DecodedPic
  /-- last picture latched of a slot: (slot, pixels) -/
  shown : List (Nat × List Nat)
  asks : List RefreshAsk
  deriving DecidableEq, Repr

/-- A message waiting to be sent on a port, with the bytes already sent (R130, R131). -/
structure TxMsg where
  port : Nat
  bytes : List Byte
  sent : Nat
  deriving DecidableEq, Repr

/-- A message being received: port, origin (0 the sender, 1 + p the tile at position p), whether this device consumes it,
and the bytes so far (R131). -/
structure FragAsm where
  port : Nat
  origin : Nat
  mine : Bool
  bytes : List Byte
  deriving DecidableEq, Repr

/-- The last good control row of a port with its arrival (R129, R135, R138). -/
structure LastCtl where
  port : Nat
  row : CtlRow
  t : Nat
  deriving DecidableEq, Repr

/-- Bring-up of a receive port beyond its registers (R139 to R144): the physical classes of the last IDENTIFY windows per
lane, how many windows gave the same class, windows since IDENTIFY began, the lanes locked, their OFFSETs, good control
rows since the rows aligned, and the instant it came UP. -/
structure PortSt where
  port : Nat
  classes : List (Option Nat)
  same : List Nat
  windows : Nat
  locked : List Nat
  clockBad : Bool
  goodRows : Nat
  upAt : Option Nat
  /-- alignments a lane has failed at in SLIP, and control rows in a row with PEER_RX_UP 0 (R142, R145) -/
  misses : List Nat
  peerZero : Nat
  /-- the port retrains after a loss of lock, in its previous mode (R145) -/
  retrain : Bool
  /-- control rows in a row that failed their HCRC (R145) -/
  badRows : Nat
  /-- header errors and blocks of each data lane in its present window of 1,024 blocks (R141, R145) -/
  headers : List (Nat × Nat)
  deriving DecidableEq, Repr

/-- A scheduled rate switch (R144): direction (0 eastbound), rate code, SFN. -/
structure RateSwitch where
  dir : Nat
  code : Nat
  sfn : Nat
  deriving DecidableEq, Repr

/-- The express origination state of a sender's chain (R136): last ESEQ, the request waiting (0 none, 1 BLANK, 2 DARK, 3
CLEAR), whether this superframe has sent one, CLEAR and DARK sent in this chain window. -/
structure ExpTx where
  chain : Nat
  eseq : Nat
  want : Nat
  sentNow : Bool
  inWindow : Nat
  /-- requests that wait from earlier superframes, oldest first -/
  older : List Nat
  /-- rows by which the symbols originated have delayed this sender's rows, not yet made up by an omitted IDLE row -/
  behind : Nat
  deriving DecidableEq, Repr

/-- The chain link (chapter 7). -/
structure ChnSt where
  /-- SFN of each chain a sender originates: (chain, SFN) -/
  sfn : List (Nat × Nat)
  tx : List TxMsg
  asm : List FragAsm
  last : List LastCtl
  /-- departure stamps of the control rows sent: (port, SFN, instant) -/
  departed : List (Nat × Nat × Nat)
  /-- the last values of d per port, newest first, in 2^-8 ns -/
  delays : List (Nat × List Int)
  exp : List ExpTx
  /-- the last control row of a chain whose SFN is a multiple of 16,384, while its TIME message has not left: (chain, SFN, departure) (R172) -/
  timeOwed : List (Nat × Nat × Nat)
  /-- arrival and CORR of the last good control row with an SFN multiple of 16,384: (port, SFN, arrival, CORR) (R173) -/
  timeRows : List (Nat × Nat × Nat × Nat)
  /-- the tile adopts EXP_STATE from the next good control row of the shown stream (R135) -/
  adopt : Bool
  /-- data rows still to come of the slice in progress: (port, rows, own) -/
  inSlice : List (Nat × Nat × Bool)
  ports : List PortSt
  rates : List RateSwitch
  /-- BLANK_N of a sender is low (R136) -/
  blankLow : Bool
  /-- instant a chain's bring-up began: (chain, instant) (R144) -/
  bringUp : List (Nat × Nat)
  /-- REFCLK_CORE runs (R368) -/
  refclk : Bool
  /-- blocks in a row without a valid east stream are counted outside; instant the east end was last valid (R17) -/
  eastAt : Nat
  /-- instant each transmit PLL entered holdover: (port, instant) (R124) -/
  holdoverAt : List (Nat × Nat)
  /-- positions heard by ANNOUNCE: (chain, position) -/
  announced : List (Nat × Nat)
  /-- transmit ports that send superframes, not training cycles (R139, R143) -/
  sending : List Nat
  /-- SFN of the last control row received or replaced: (port, SFN) (R129) -/
  sfnRx : List (Nat × Nat)
  /-- chains, or a tile's directions, that run at the announced rate (R144) -/
  rated : List Nat
  /-- transmit PLLs that fell back to the local reference (R124) -/
  fallback : List Nat
  /-- receive ports whose TRAIN blocks came with the other direction's DIR (R14, R143) -/
  dirBad : List Nat
  /-- IDLE rows still to be deleted on a transmit port for express rows placed there (R133): (port, rows) -/
  dropIdle : List (Nat × Nat)
  deriving DecidableEq, Repr

/-- A slice's signatures: (TA, WFN, slot, SCRC, FSIG) (R278, R286). -/
structure SliceSig where
  ta : Nat
  wfn : Nat
  slot : Nat
  scrc : Nat
  fsig : Nat
  deriving DecidableEq, Repr

/-- A RECEIPT, or a SLICE_START that came back unconsumed, at a sender's ring return (R288). -/
structure Receipt where
  ta : Nat
  wfn40 : Nat
  slot : Nat
  consumed : Bool
  result : Nat
  scrc : Nat
  deriving DecidableEq, Repr

/-- The last HEALTH record of a tile (R288). -/
structure HealthRec where
  ta : Nat
  bytes : List Byte
  t : Nat
  deriving DecidableEq, Repr

/-- A HELLO of the other sender (R290). -/
structure HelloIn where
  position : Nat
  imageId : Nat
  current : Bool
  t : Nat
  deriving DecidableEq, Repr

/-- Redundancy (chapter 16). -/
structure RedSt where
  /-- signatures of the slices this sender coded, and those of the other sender not yet compared -/
  sigs : List SliceSig
  others : List SliceSig
  /-- slices coded in JOIN or FORMED whose RECEIPT is still to be checked are in `sigs` -/
  receipts : List Receipt
  health : List HealthRec
  /-- divergent pictures reported: (WFN, slot) -/
  reports : List (Nat × Nat)
  /-- R287 asks for a resynchronisation at the next chain-window opening -/
  resync : Bool
  /-- instant of the last CODE_DIFF, UNCLAIMED or NO_RECEIPT of a chain: (chain, instant) -/
  badAt : List (Nat × Nat)
  /-- the other sender's last STATE record: its instant, RED_STATE and whether its time state is LOCKED as seen -/
  stateAt : Nat
  otherState : Word
  otherWfn : Nat
  hello : Option HelloIn
  /-- the lockstep link's receivers are UP (R280) -/
  linkUp : Bool
  /-- the other sender's wall time minus this, as last measured, in 2^-4 ns (R178) -/
  pairOffset : Int
  /-- instant the current run started -/
  runAt : Nat
  /-- tile records taken in a chain window: (WFN, slot, records) (R292) -/
  recTaken : Nat × Nat × Nat
  /-- instant of the last eligible ring return on any chain -/
  ringAt : Option Nat
  /-- a mirror's first STANDBY of a run ends here (R282) -/
  standbyUntil : Nat
  /-- first run of this image: cleared by it -/
  firstRun : Bool
  /-- the hold-off ends here; take-back or relinquish due at the next frame start -/
  holdoffUntil : Option Nat
  takeBack : Bool
  relinquish : Bool
  joinAt : Option Nat
  failedAt : Option Nat
  /-- a failed join keeps LATENT until the next success (R289) -/
  joinFailed : Bool
  /-- tiles whose record is still to be sent (source) or applied (joiner); verification counts: ((TA, slot), pictures) -/
  toRecord : List Nat
  applied : List Nat
  matches_ : List ((Nat × Nat) × Nat)
  verified : List Nat
  /-- streams promoted, and HEVC channels that decoded an IRAP picture, since CONFIG ended (R291) -/
  promoted : List Nat
  iraps : List Nat
  /-- pictures for which a tile sent DIVERGE: (WFN, slot) -/
  diverged : List (Nat × Nat)
  /-- a tile's counts since its last HEALTH record: SCRC_W, SCRC_E, DIVERGE, FSIG_FAIL, REPEAT, RELOCK -/
  since : List Nat
  /-- instant of a tile's last change of selection, while its HEALTH message has not left (R288) -/
  selectedAt : Option Nat
  deriving DecidableEq, Repr

/-- An announced master (R170): the port it is heard on, its port identity, its data set, the last Announce and its
interval, and whether it is qualified. -/
structure Master where
  domain : Nat
  port : Nat
  source : Nat
  priority1 : Nat
  quality : Nat
  priority2 : Nat
  gm : Nat
  steps : Nat
  utc : Nat
  lastAt : Nat
  interval : Nat
  qualified : Bool
  deriving DecidableEq, Repr

/-- A PTP exchange in progress (R171): Sync number with t1 (none before a Follow_Up) and t2, Delay_Req number with t3. -/
structure Exchange where
  port : Nat
  syncSeq : Nat
  t1 : Option Int
  syncCorr : Int
  t2 : Int
  reqSeq : Option Nat
  t3 : Int
  deriving DecidableEq, Repr

/-- A pulse unit that runs (R179): its next leading edge, pulses left (0 unlimited), end of the pulse in progress. -/
structure Pulse where
  unit : Nat
  next : Option Nat
  left : Nat
  endAt : Option Nat
  deriving DecidableEq, Repr

/-- A captured edge (R181). -/
structure Capture where
  t : Nat
  falling : Bool
  epoch : Nat
  deriving DecidableEq, Repr

/-- The time unit (chapter 9). Offsets in units of 2^-16 ns, slews in units of 2^-40. -/
structure TimSt where
  masters : List Master
  exchanges : List Exchange
  /-- last offsets with their path-delay estimates, newest first -/
  offsets : List (Int × Int)
  e : Option Int
  eAt : Nat
  good : Nat
  bad : Nat
  yf : Int
  yp : Int
  /-- the frequency filter's integral of e, in units of 2^-16 ns times 2^-16 ns (R175) -/
  integral : Int
  /-- logSyncInterval of the last Sync used (R171, R175) -/
  syncLog : Int
  /-- last TIME message of the shown stream (R177) -/
  timeAt : Nat
  /-- an e has been formed since reset or wake -/
  started : Bool
  /-- accepted step: boundary of the old time, and the new time there -/
  step : Option (Nat × Int)
  holdoverAt : Nat
  /-- port whose TAG a tile last took -/
  tagPort : Option Nat
  pulses : List Pulse
  captures : List (Nat × List Capture)
  lastEdge : List (Nat × Nat)
  /-- level of each TIME_IN pin after its 3 ns filter: 1 low, 2 high, 0 before the first edge (R181) -/
  inLevel : List (Nat × Nat)
  /-- wall time latched by a read of TIM_NOW_S_LO, per path -/
  latched : List (Path × Nat)
  deriving DecidableEq, Repr

/-- A HOLD or RELEASE being sent three times (R358): kind, WFN, instant of acceptance, sendings so far. -/
structure HoldSend where
  kind : Nat
  wfn : Nat
  t : Nat
  sends : Nat
  deriving DecidableEq, Repr

/-- Frame lock and the held state (chapter 10, R358). -/
structure FlkSt where
  /-- F0 of the current run -/
  f0 : Nat
  /-- the held state: W(F_h), and W(F_r) once a release is known -/
  heldFrom : Option Nat
  heldTo : Option Nat
  /-- later held states already accepted: (W(F_h), W(F_r) once known) -/
  ahead : List (Nat × Option Nat)
  holdSends : List HoldSend
  deriving DecidableEq, Repr

/-- A DRAM port (R250, R251, R263): its head request, the instant of its last grant, bytes served in the current and in the
last complete instance, and its two counters. -/
structure DramPort where
  port : Nat
  head : Option DramReq
  lastGrant : Option Nat
  served : Nat
  lastServed : Nat
  maxLat : Nat
  l3 : Nat
  deriving DecidableEq, Repr

/-- An open row (R252): its bank, the last access and the idle cycles its timer started with. -/
structure OpenRow where
  channel : Nat
  sub : Nat
  bank : Nat
  row : Nat
  lastAt : Nat
  cycles : Nat
  deriving DecidableEq, Repr

/-- A sub-channel's refresh debt and the bank a forced refresh takes next (R253, R254). -/
structure SubRefresh where
  channel : Nat
  sub : Nat
  debt : Int
  nextBank : Nat
  deriving DecidableEq, Repr

/-- A channel: idle since, gather burst in progress with its set point and when the next is due, self-refresh with its
commit point and whether it is being forced out, and whether its devices ask for more than twice the base refresh rate. -/
structure DramChan where
  channel : Nat
  idleSince : Nat
  burst : Option Nat
  trackDue : Nat
  srCommit : Option Nat
  exiting : Bool
  refOver : Bool
  deriving DecidableEq, Repr

/-- The memory controller (chapter 14). -/
structure DrcSt where
  ports : List DramPort
  rows : List OpenRow
  refresh : List SubRefresh
  chans : List DramChan
  /-- trained-value tables, by (channel, set point), as training stored them or a gather burst last did (R256, R258) -/
  trained : List ((Nat × Nat) × Nat)
  /-- the pending change is urgent; it waits in an open switch window for a burst to end (R259, R260) -/
  urgent : Bool
  inWindow : Bool
  /-- set point a change in progress goes to -/
  switchTo : Nat
  deriving DecidableEq, Repr

/-- A temperature channel beyond its registers (R264 to R267): the reading that takes part (its own, or its substitute's plus OFFSET), its readings of the last 128 ms newest
first, a RECHECK in progress and the conversions without cause since. -/
structure TempChan where
  channel : Nat
  use : Option Int
  history : List (Nat × Int)
  rechecking : Bool
  clean : Nat
  deriving DecidableEq, Repr

/-- A guard input (R271, R274): 16 DIE_A, 17 DIE_B, 14, 15; its valid reading, its failure cause, its history, a RECHECK in
progress and the conversions without cause since. -/
structure GuardInput where
  input : Nat
  value : Option Int
  fail : Option Nat
  history : List (Nat × Int)
  rechecking : Bool
  clean : Nat
  deriving DecidableEq, Repr

/-- A guard pair (R271 to R274): at or above T_BLANK, T_HALT and T_HALT + 5 °C at the last conversion, T_BLANK reached, below
T_BLANK - 5 °C since, and T_HALT reached at the last conversion. -/
structure GuardPair where
  pair : Nat
  atBlank : Bool
  atHalt : Bool
  atDrop : Bool
  reached : Bool
  belowSince : Option Nat
  halted : Bool
  deriving DecidableEq, Repr

/-- Temperature (chapter 15). The guard part belongs to Umbra and survives core resets. -/
structure ThmSt where
  chans : List TempChan
  /-- THM_SUB writes accepted since the last conversion, newest first, with the value and ACKED before (R268) -/
  subWrites : List (Nat × Word × Bool)
  /-- every c_i under HYST has been below L and HELD clear since then; the greatest c_i under HYST at the last conversion -/
  fallSince : Option Nat
  hystLevel : Nat
  guards : List GuardInput
  pairs : List GuardPair
  /-- instants of thermal restarts on Umbra's count (R275), thermal halts since Umbra power-on -/
  stamps : List Nat
  halts : Nat
  /-- a thermal halt waits for its restart; every valid guard input is below the restart threshold since -/
  waiting : Bool
  coolSince : Option Nat
  /-- the next boot is a thermal restart; Umbra powered on since the last boot -/
  restarted : Bool
  umbLost : Bool
  deriving DecidableEq, Repr

/-- A calibration set (R197): header values and the point blocks' bytes. -/
structure CalSet where
  id : Nat
  width : Nat
  height : Nat
  emitters : Nat
  points : Nat
  shift : Nat
  temps : List Int
  chPos : List (Int × Int)
  chUse : Nat
  body : List Byte
  deriving DecidableEq, Repr

/-- A live set (R200, R201): the set it comes from (none: the default set of R199) and θ of each cell (none: point 0 for every
pixel, R397). Its records are a function of the two. -/
structure LiveSet where
  set : Option CalSet
  theta : Option (List Int)
  deriving DecidableEq, Repr

/-- The values sampled for picture WFN F at R(F) (R204, R228). -/
structure EmcSample where
  wfn : Nat
  dither : Bool
  mode : Nat
  inc : List (Nat × Nat)
  gamma : List (Nat × Nat)
  fade : Nat
  gains : List Nat
  old : LiveSet
  new : LiveSet
  r : Nat
  rowMap : List Nat
  deriving DecidableEq, Repr

/-- Emitter correction (chapter 11). -/
structure EmcSt where
  /-- accepted set in use (none: the default set); the set a CALSET copy in progress will give (R205, R397) -/
  accepted : Option CalSet
  copying : Option CalSet
  old : LiveSet
  live : LiveSet
  /-- ramp in progress: F_1 and R (R203) -/
  ramp : Option (Nat × Nat)
  /-- a recompute runs; a finished live set waits for its publication, with its completion instant -/
  running : Option LiveSet
  finished : Option (LiveSet × Nat)
  /-- a tick was deferred and its recompute is still to start -/
  deferred : Bool
  /-- θ of the cells at the last recompute -/
  theta : List Int
  /-- the two table banks: entries that differ from the reset tables -/
  inc : List (List (Nat × Nat))
  gamma : List (List (Nat × Nat))
  fade : Nat
  target : Nat
  /-- an armed target waits with its WFN[31:0] (R209) -/
  armed : Option (Nat × Nat)
  /-- samples, newest first -/
  samples : List EmcSample
  deriving DecidableEq, Repr

/-- A glint stream: the picture it carries, and per lane the 16-bit values in the order of R219. -/
structure GlintStream where
  wfn : Nat
  slot : Nat
  lanes : List (List Nat)
  deriving DecidableEq, Repr

/-- A glint write in progress (R216, R219): its stream, the instant its last data cell leaves the ball, and whether it is of
a replay. -/
structure GlintWrite where
  stream : GlintStream
  endsAt : Nat
  deriving DecidableEq, Repr

/-- The shadow slot that runs (R229, R243): its request, the first line start, lines not sent, RAMPING at its start, and
the instants of its start and end. -/
structure ShadowRun where
  req : ShadowMsg
  firstLine : Nat
  cut : Nat
  ramping : Bool
  starts : Nat
  ends : Nat
  /-- reference entry measured in it (R243) -/
  entry : Option Nat
  deriving DecidableEq, Repr

/-- The lamp drive (chapter 12). -/
structure LmpSt where
  /-- the accepted map in force (R215) -/
  map : Option Word
  /-- LAMP_PWR_EN high since; LAMP_PG high since; LAMP_PG has been high for 1 ms -/
  pwrAt : Option Nat
  pgAt : Option Nat
  settled : Bool
  fault : Bool
  /-- instant the last blank source cleared -/
  clearedAt : Nat
  write : Option GlintWrite
  /-- streams complete in the drivers' back buffers, not yet exchanged -/
  done : List GlintStream
  /-- last complete stream latched of each slot: the replay buffer (R326) -/
  replay : List GlintStream
  /-- the last LATCH sequence: picture, and whether SWAP was 1 -/
  lastLatch : Option (Nat × Nat × Bool)
  /-- row map in force (R228) -/
  rowMap : List Nat
  /-- DARK_T of the last CONFIG frame sent on every lane, not yet in force (R227) -/
  darkSent : Option Nat
  shadows : List ShadowMsg
  run : Option ShadowRun
  /-- row output now driven active -/
  rowOn : Option Nat
  /-- ROW_POL as a map has set it: none while the row outputs are high-impedance (R2) -/
  rowPol : Option Bool
  /-- lanes that send cells; the others are held low (R213, R217) -/
  lanes : Nat
  /-- a CONFIG frame owed since this instant: a write delays it, or a run has chosen its F0 (R223) -/
  cfgDue : Option Nat
  /-- a replay of R326 runs on this outgoing timeline until the first latch of the new run -/
  replaying : Option Timeline
  /-- pictures repeated at their latch whose slice may still come: (WFN, slot) (R194) -/
  undecided : List (Nat × Nat)
  /-- pictures whose slice was rejected with a syntax error (R155, R194) -/
  rejected : List (Nat × Nat)
  deriving DecidableEq, Repr

/-- A sensor port of the cabinet record (Table 13.3). -/
structure SensorCfg where
  addr : Nat
  speed : Nat
  start : List Byte
  resultReg : Nat
  chCount : Nat
  satHi : Nat
  deriving DecidableEq, Repr

/-- A reference entry of the cabinet record (Table 13.3). -/
structure RefEntry where
  emitter : Nat
  lane : Nat
  driver : Nat
  channel : Nat
  row : Nat
  port : Nat
  sensorCh : Nat
  value : Nat
  minCount : Nat
  targets : List Nat
  deriving DecidableEq, Repr

/-- A cabinet record (Table 13.3): what the loop and the lamp map take from it. -/
structure Cabinet where
  lampMap : Nat
  rowMap : List Nat
  loopS : Nat
  ki : Nat
  outlier : Nat
  stepMax : Nat
  gainMin : Nat
  gainMax : Nat
  stale : Nat
  gains : List Nat
  sensors : List SensorCfg
  refs : List RefEntry
  deriving DecidableEq, Repr

/-- A TRIMS body (Table 13.4): TEMP_SRC, point temperatures and point blocks. -/
structure TrimSet where
  src : Nat
  temps : List Int
  blocks : List (List Byte)
  deriving DecidableEq, Repr

/-- Where a store stands (R235, R238). -/
inductive StorePhase where
  /-- background checks of the staged object -/
  | checking
  /-- sectors erased so far -/
  | erasing (done : Nat)
  /-- pages of the body programmed so far -/
  | programming (done : Nat)
  | commit
  deriving DecidableEq, Repr

/-- A store in progress: object code, target slot, LENGTH, BODY_CRC, new generation, the staged body, token, phase. -/
structure CalStore where
  object : Nat
  slot : Nat
  length : Nat
  crc : Nat
  generation : Nat
  body : List Byte
  token : Nat
  phase : StorePhase
  deriving DecidableEq, Repr

/-- A trim with its current and target codes, both as stored, and the instant of its last step (R241, R242). -/
structure Trim where
  id : TrimId
  current : Nat
  target : Nat
  steppedAt : Option Nat
  /-- code before the last step -/
  before : Nat
  deriving DecidableEq, Repr

/-- Calibration storage, trims and the colour loop (chapter 13). -/
structure CalSt where
  store : Option CalStore
  /-- the staging area by byte offset; an unlisted byte reads 0 -/
  staging : List Host.Cell
  cabinet : Option Cabinet
  trims : Option TrimSet
  /-- a stored TRIMS set that takes effect at the next tick -/
  trimsNext : Option TrimSet
  codes : List Trim
  /-- ports whose receive taps are frozen (R242) -/
  frozen : List Nat
  /-- a measured shadow slot has ended and its results are to be read: reference entry, LMP_SHADOW_CUT rose in it, RAMPING at its start -/
  measuring : Option (Nat × Bool × Bool)
  /-- valid ρ of the period per emitter: (emitter, ρ) (R245) -/
  rhos : List (Nat × Int)
  /-- periods without a valid measurement per emitter -/
  quiet : List Nat
  deriving DecidableEq, Repr

/-- A type's part of the boot descriptor (R323): the RUNNING slot, the TRIAL slot or none, and that slot has been booted since it
was set. -/
structure BootEntry where
  running : Nat
  trial : Option Nat
  booted : Bool
  deriving DecidableEq, Repr

/-- The boot descriptor in use (R319, R323, R329, R29): its generation, the entries of firmware and structure image, RECOVERY_IP,
and the LENGTH of the staging session that wrote each structure slot. -/
structure BootDesc where
  generation : Nat
  fw : BootEntry
  si : BootEntry
  recoveryIp : Nat
  lengths : List Nat
  deriving DecidableEq, Repr

/-- The key store in use (R315, R316, R319): its generation, root public keys, certificates of 256 bytes, and the identity
certificate (R318). -/
structure KeyStore where
  generation : Nat
  roots : List (List Byte)
  certs : List (List Byte)
  idCert : List Byte
  deriving DecidableEq, Repr

/-- A block on its way to flash (R399): its number, its bytes, and the flash operations of it done (1 once its sector is erased). -/
structure FwBlock where
  block : Nat
  bytes : List Byte
  done : Nat
  deriving DecidableEq, Repr

/-- A staging session (R320, R321): type 0 FIRMWARE, 1 STRUCTURE; target slot, LENGTH, owning path; the parts of blocks not yet
complete as (block, offset, bytes); accepted blocks; instant of the last accepted block (or of STAGE_BEGIN); the DRAM buffer
of R399; and the token of a STAGE_END under way. -/
structure StageSession where
  type : Nat
  slot : Nat
  length : Nat
  path : MboxPath
  parts : List (Nat × Nat × List Byte)
  accepted : List Nat
  lastAt : Nat
  buffer : List FwBlock
  ending : Option Nat
  deriving DecidableEq, Repr

/-- An ACTIVATE accepted (R324): its token, TYPE, REBOOT, the WFN of its commit point, and the boot descriptor before it. -/
structure Activation where
  token : Nat
  type : Nat
  reboot : Bool
  wfn : Nat
  at_ : Nat
  before : BootDesc
  deriving DecidableEq, Repr

/-- Trust, flash and boot (chapter 18). -/
structure TruSt where
  /-- the boot flash by byte offset (R319); an unlisted byte reads 0xFF, as erased flash does -/
  flash : List Host.Cell
  /-- fuses: lifecycle state (Table 18.1), ROOT0 retired, revoked KEY_IDs, security floors (R313, R315, R317, R323) -/
  lifecycle : Nat
  root0Retired : Bool
  revoked : List (List Byte)
  siFloor : Nat
  fwFloor : Nat
  desc : BootDesc
  keys : KeyStore
  sessions : List StageSession
  /-- VERIFIED slots: (type, slot) (R322) -/
  verified : List (Nat × Nat)
  activation : Option Activation
  /-- running firmware slot and version; the header bytes are in flash -/
  fwSlot : Nat
  siSlot : Nat
  fwTrial : Bool
  siTrial : Bool
  fwVersion : Nat
  /-- instant the present run of the TRIAL slots began (R323) -/
  runSince : Nat
  /-- INIT data loaded into island SRAM by (island × 2^20 + offset), unlisted 0 (chapter 2, R325) -/
  sram : List Host.Cell
  deriving DecidableEq, Repr

/-- Umbra (chapter 17), beside its registers and the guard part of ThmSt. -/
structure UmbSt where
  /-- group 1 is in range (false in OFF) -/
  powered : Bool
  /-- Umbra's real-time count minus the wall time held in `now`, in 2^-16 ns -/
  skew : Int
  /-- CORE_PWR_REQ, the instant it last rose, and CORE_PG high since -/
  coreReq : Bool
  reqAt : Nat
  corePg : Option Nat
  /-- failed tries in a row, and the next retry -/
  tries : Nat
  retryAt : Option Nat
  /-- instant of Umbra's power-on; the power-on start of R395 is still due -/
  powerOnAt : Nat
  startDue : Bool
  /-- cause bit of the next core reset (Table 17.4) -/
  cause : Nat
  /-- the stop of R237 stands and CORE_PWR_REQ will drop: since, and at once -/
  stopAt : Option Nat
  dropNow : Bool
  /-- a warning ended the last operation and AUTO_RESTART applies; PF_SENSE above 1.020 V since -/
  warned : Bool
  pfAbove : Option Nat
  /-- token of the STANDBY whose entry is accepted or under way -/
  entry : Option Nat
  /-- the entry has shed the instances, and its next step waits for the operations still running (R56, R299) -/
  draining : Bool
  /-- a POWER_DOWN or RESET command was answered OK: power drops, or the core resets, next -/
  downDue : Bool
  resetDue : Bool
  /-- the ROM waits in SPI_HOLD; LMP_MAP was written there (R239) -/
  spiHold : Bool
  mapWritten : Bool
  /-- the core is out of reset -/
  coreOut : Bool
  /-- RTC latched by a read of UMB_RTC_S_LO, per path -/
  latched : List (Path × Nat)
  deriving DecidableEq, Repr

/-- An open record (R338 to R340): tag, instant and WFN of opening, energy counter at opening, light sums, and the flags so far. -/
structure MetOpen where
  tag : List Byte
  start : Nat
  wfnStart : Nat
  energy0 : Nat
  light : List Nat
  timeValid : Bool
  sealOpen : Bool
  energyGap : Bool
  lightGap : Bool
  lampOff : Bool
  deriving DecidableEq, Repr

/-- A closed record or an event that waits to be signed and programmed (R337, R342): whether it is an event, its number, the
instant of its close, its close-cause mask (a record's), and its 128 body bytes without the mask. -/
structure MetPage where
  event : Bool
  number : Nat
  closed : Nat
  causes : Nat
  body : List Byte
  deriving DecidableEq, Repr

/-- The metering island (chapter 19), beside its registers. -/
structure MetSt where
  /-- VDD_MET is in range -/
  powered : Bool
  /-- MET_SEAL filtered low -/
  sealed : Bool
  /-- energy since manufacture in mJ, and the remainder below 1 mJ in units of 1/meterUnit mJ (R333) -/
  energy : Nat
  remainder : Nat
  /-- energy since the last pulse in mJ (R334) -/
  pulseAcc : Nat
  /-- products of the last second, newest first (MET_POWER) -/
  products : List Nat
  senseFault : Nat
  opened : MetOpen
  /-- tags offered: (WFN_FROM, TAG) (R338) -/
  tags : List (Nat × List Byte)
  /-- RECORD_SEQ of the next record -/
  nextSeq : Nat
  toWrite : List MetPage
  /-- written pages of the two logs: (number, 256 bytes), oldest first (R342) -/
  records : List (Nat × List Byte)
  events : List (Nat × List Byte)
  /-- EVENT_COUNT, whether its retention is kept, and the fuses blown (R337) -/
  eventCount : Nat
  retained : Bool
  fuses : Nat
  /-- a picture was latched and its light offer is still due (R339) -/
  offerDue : Bool
  /-- EPOCH as last seen (R340) -/
  epoch : Nat
  /-- meter firmware (R343): running slot, slot contents by (slot × 2^20 + offset) unlisted 0xFF, FW_VERSION, security floor, blocks of an
  update in progress, the inactive slot has passed VERIFY, no slot verifies -/
  fwSlot : Nat
  fwFlash : List Host.Cell
  /-- public key that travelled with the image of each slot (R343) -/
  fwKeys : List (List Byte)
  fwVersion : Nat
  fwFloor : Nat
  updating : Bool
  fwVerified : Bool
  fwBad : Bool
  /-- MET_ENERGY_HI latched by a read of MET_ENERGY_LO, per path (R345) -/
  latched : List (Path × Nat)
  deriving DecidableEq, Repr

/-- A BIST in progress (R392, R393): token, SCOPE, and islands tested so far. -/
structure BistRun where
  token : Nat
  scope : Nat
  groups : Nat
  deriving DecidableEq, Repr

/-- Debug and test access (chapter 23), beside its registers. -/
structure DbgSt where
  /-- instruction in force in the TAP (Table 23.2) -/
  ir : Nat
  /-- boundary cells as last updated, in scan order -/
  boundary : List Bool
  /-- outputs follow their boundary cells, or are high-impedance -/
  forced : Bool
  /-- data a DBG_ACCESS read captured -/
  dr : Word
  bist : Option BistRun
  /-- signal on each TMUX ball: (k, DBG_TMUX_SEL) taken at the last REFCLK_CORE edge, 0 drives low -/
  tmux : List (Nat × Word)
  deriving DecidableEq, Repr

/-- The whole machine. -/
structure State where
  /-- commands waiting, first in, first out -/
  pending : List Instr
  /-- wall time, in units of 2^-16 ns after the epoch (R167) -/
  now : Nat
  /-- the frequency reference's own count of time since reset, in units of 2^-16 ns: wall time advances at 1 + y_f + y_p times its rate
  (R175) -/
  ref : Nat
  /-- free values used so far: the model's own counter (log entry 2) -/
  fresh : Nat
  /-- what the device has sent, newest first: the model's own record of its outputs (log entry 11) -/
  out : List Output
  /-- the register file: (address, value), addresses rising, no entry at its reset value -/
  regs : List (Nat × Word)
  gen : GenSt
  sch : SchSt
  cmd : CmdSt
  /-- device DRAM by byte address; an unlisted byte reads 0 (log entry 12) -/
  dram : List Host.Cell
  cmp : CmpSt
  ing : IngSt
  cdc : CdcSt
  ccx : CcxSt
  chn : ChnSt
  red : RedSt
  tim : TimSt
  flk : FlkSt
  drc : DrcSt
  thm : ThmSt
  emc : EmcSt
  lmp : LmpSt
  cal : CalSt
  tru : TruSt
  umb : UmbSt
  met : MetSt
  dbg : DbgSt
  deriving DecidableEq, Repr

/-- A guard input before its first conversion. -/
def GuardInput.fresh (i : Nat) : GuardInput :=
  { input := i, value := none, fail := none, history := [], rechecking := false, clean := 0 }

/-- A guard pair before its first conversion. -/
def GuardPair.fresh (g : Nat) : GuardPair :=
  { pair := g, atBlank := false, atHalt := false, atDrop := false, reached := false, belowSince := none, halted := false }

/-- A boot entry of blank flash: RUNNING slot A, no TRIAL slot. -/
def BootEntry.blank : BootEntry := { running := 0, trial := none, booted := false }

/-- The dispatchers with nothing running. -/
def SchSt.reset : SchSt :=
  { instances := [], newest := 0, decrements := [], queueWords := [], early := [], pauses := [], frameAt := 0,
    busy := [], pauseAcc := [], bgAcc := [], marginSeen := [], jobs := [], chunks := [], trace := [], tracePtr := 0,
    postLeft := 0, traceAt := none, traceLost := false }

/-- No image runs. -/
def GenSt.reset : GenSt :=
  { running := none, bootDone := false, bootAt := 0, params := [], pendingParams := [], activating := false, loadDue := false, admission := none, admitted := none,
    rebootOnly := none }

/-- Empty mailboxes. -/
def CmdSt.reset : CmdSt :=
  { longOps := [], kept := [], nextToken := 1, waitingRsp := [], spiReq := [], spiRsp := [], snapSeq := 0, relays := [],
    tileOps := [], relayTags := [], dups := [], segs := [], segSeq := 0 }

def CmpSt.reset : CmpSt :=
  { surfaces := [], gens := [], sets := [], prefills := [], windows := [], still := [], graphRaw := [], goAfter := 0 }

/-- The endpoint right after a reset of it (R77). -/
def PcieSt.reset : PcieSt := { link := none, l1 := false, config := [], msix := [], pending := [] }

def IngSt.reset : IngSt :=
  { streams := [], ctrl := [], sessions := [], fwdUntil := 0, fwdLog := [], barUntil := 0, pcie := PcieSt.reset }

def CdcSt.reset : CdcSt :=
  { coded := [], decoding := [], written := [], announced := [], otherWritten := [], pools := [], lastDone := [], overflowed := [], ret := [],
    idrDue := false, sinceIdr := 0, retNext := 0, hrd := 0, hrdAt := 0 }

def CcxSt.reset : CcxSt :=
  { tiles := [], refresh := [], repeated := [], pools := [], rx := [], lastDecoded := none, decoded := [], shown := [], asks := [] }

def ChnSt.reset : ChnSt :=
  { sfn := [], tx := [], asm := [], last := [], departed := [], delays := [], exp := [], timeOwed := [], timeRows := [], adopt := true,
    inSlice := [], ports := [], rates := [], blankLow := false, bringUp := [], refclk := true, eastAt := 0, holdoverAt := [],
    announced := [], sending := [], sfnRx := [], rated := [], fallback := [], dirBad := [], dropIdle := [] }

def RedSt.reset : RedSt :=
  { sigs := [], others := [], receipts := [], health := [], reports := [], resync := false, badAt := [], stateAt := 0,
    otherState := 0, otherWfn := 0, hello := none, linkUp := false, pairOffset := 0, runAt := 0, recTaken := (0, 0, 0),
    ringAt := none, standbyUntil := 0, firstRun := true, holdoffUntil := none, takeBack := false, relinquish := false,
    joinAt := none, failedAt := none, joinFailed := false, toRecord := [], applied := [], matches_ := [], verified := [], promoted := [], iraps := [], selectedAt := none,
    diverged := [], since := [] }

def TimSt.reset : TimSt :=
  { masters := [], exchanges := [], offsets := [], e := none, eAt := 0, good := 0, bad := 0, yf := 0, yp := 0, integral := 0, syncLog := 0, timeAt := 0, started := false,
    step := none, holdoverAt := 0, tagPort := none, pulses := [], captures := [], lastEdge := [], inLevel := [], latched := [] }

def FlkSt.reset : FlkSt := { f0 := 0, heldFrom := none, heldTo := none, ahead := [], holdSends := [] }

def DrcSt.reset : DrcSt :=
  { ports := [], rows := [], refresh := [], chans := [], trained := [], urgent := false, inWindow := false, switchTo := 0 }

def ThmSt.reset : ThmSt :=
  { chans := [], subWrites := [], fallSince := none, hystLevel := 0,
    guards := [GuardInput.fresh 16, GuardInput.fresh 17, GuardInput.fresh 14, GuardInput.fresh 15],
    pairs := [GuardPair.fresh 0, GuardPair.fresh 1], stamps := [], halts := 0, waiting := false, coolSince := none,
    restarted := false, umbLost := true }

def EmcSt.reset : EmcSt :=
  { accepted := none, copying := none, old := { set := none, theta := none }, live := { set := none, theta := none }, ramp := none,
    running := none, finished := none, deferred := false, theta := [], inc := [[], []], gamma := [[], []],
    fade := 0, target := 0, armed := none, samples := [] }

def LmpSt.reset : LmpSt :=
  { map := none, pwrAt := none, pgAt := none, settled := false, fault := false, clearedAt := 0, write := none, done := [],
    replay := [], lastLatch := none, rowMap := List.range 64, darkSent := none, shadows := [], run := none, rowOn := none,
    rowPol := none, lanes := 0, cfgDue := none,
    replaying := none, undecided := [], rejected := [] }

def CalSt.reset : CalSt :=
  { store := none, staging := [], cabinet := none, trims := none, trimsNext := none, codes := [], frozen := [], measuring := none,
    rhos := [], quiet := [0, 0, 0, 0] }

/-- Blank flash, blank fuses (lifecycle TEST, Table 18.1), nothing staged. -/
def TruSt.reset : TruSt :=
  { flash := [], lifecycle := 1, root0Retired := false, revoked := [], siFloor := 0, fwFloor := 0,
    desc := { generation := 0, fw := BootEntry.blank, si := BootEntry.blank, recoveryIp := 0, lengths := [0, 0] },
    keys := { generation := 0, roots := [], certs := [], idCert := [] },
    sessions := [], verified := [], activation := none, fwSlot := 0, siSlot := 0, fwTrial := false, siTrial := false,
    fwVersion := 0, runSince := 0, sram := [] }

/-- Umbra right after its supply came into range (R298, R395). -/
def UmbSt.reset : UmbSt :=
  { powered := true, skew := 0, coreReq := false, reqAt := 0, corePg := none, tries := 0, retryAt := none, powerOnAt := 0,
    startDue := true, cause := 0, stopAt := none, dropNow := false, warned := false, pfAbove := none, entry := none, draining := false, downDue := false,
    resetDue := false, spiHold := false, mapWritten := false, coreOut := false, latched := [] }

/-- The open record at meter power-on: TAG 0, no content (R338). -/
def MetOpen.fresh : MetOpen :=
  { tag := List.replicate 16 0, start := 0, wfnStart := 0xFFFFFFFFFFFF, energy0 := 0, light := [0, 0, 0, 0], timeValid := false,
    sealOpen := true, energyGap := false, lightGap := false, lampOff := true }

def MetSt.reset : MetSt :=
  { powered := true, sealed := false, energy := 0, remainder := 0, pulseAcc := 0, products := [], senseFault := 0,
    opened := MetOpen.fresh, tags := [], nextSeq := 1, toWrite := [], records := [], events := [], eventCount := 0,
    retained := true, fuses := 0, offerDue := false, epoch := 0, fwSlot := 0, fwFlash := [], fwKeys := [[], []], fwVersion := 0, fwFloor := 0,
    updating := false, fwVerified := false, fwBad := false, latched := [] }

def DbgSt.reset : DbgSt :=
  { ir := 1, boundary := [], forced := false, dr := 0, bist := none, tmux := [] }

/-- The machine right after group 1 comes into range: Umbra in UMBRA_ONLY with its state lost, the core unpowered, every register
at its reset value, memories listing nothing (R298, R395, Table 17.6). -/
def State.reset : State :=
  { pending := [], now := 0, ref := 0, fresh := 0, out := [], regs := [], gen := GenSt.reset, sch := SchSt.reset, cmd := CmdSt.reset,
    dram := [], cmp := CmpSt.reset, ing := IngSt.reset, cdc := CdcSt.reset, ccx := CcxSt.reset, chn := ChnSt.reset,
    red := RedSt.reset, tim := TimSt.reset, flk := FlkSt.reset, drc := DrcSt.reset, thm := ThmSt.reset, emc := EmcSt.reset,
    lmp := LmpSt.reset, cal := CalSt.reset, tru := TruSt.reset, umb := UmbSt.reset, met := MetSt.reset, dbg := DbgSt.reset }

end Sys2Proof.Machine
end

