-- ==== Sys2Proof/Machine/Frames.lean ====
section
/-! DEFINITION. Frame starts, chain windows, latches, grid lines and glint write times, in units of 2^-16 ns of wall time
(R20, R46, R168, R183 to R186, R216). -/
namespace Sys2Proof.Machine

/-- Units of 2^-16 ns in one nanosecond, one microsecond, one millisecond and one second (R167). -/
abbrev nsT : Nat := 65536
abbrev usT : Nat := 65536000
abbrev msT : Nat := 65536000000
abbrev secT : Nat := 65536000000000

/-- W(F), the wall-time start of frame F (R168). -/
def frameStart (tl : Timeline) (f : Nat) : Nat := f * tl.den * 65536000000000 / tl.num

/-- The WFN at wall time `t`: the F with W(F) ≤ t < W(F + 1) (R168). -/
def wfnAt (tl : Timeline) (t : Nat) : Nat :=
  if tl.num = 0 ∨ tl.den = 0 then 0
  else ((t + 1) * tl.num - 1) / (tl.den * 65536000000000)

/-- P_ns, the frame period of the admission checks (R46). -/
def periodNs (tl : Timeline) : Nat := 1000000000 * tl.den / tl.num

/-- The reference R(F) = W(F - 1) of instance F (chapter 3). -/
def reference (tl : Timeline) (f : Nat) : Nat := frameStart tl (f - 1)

/-- Opening of the chain window of (F, s) (R20). -/
def windowOpen (tl : Timeline) (f s : Nat) : Nat :=
  let a := frameStart tl (f - 1)
  a + s * (frameStart tl f - a) / tl.nImage

/-- The image-slot record with number `s` (Table 10.2). -/
def imageSlot (tl : Timeline) (s : Nat) : Option SlotRec :=
  tl.slots.find? (fun r => r.kind == 1 && r.index == s)

/-- The shadow-slot record with number `m` (Table 10.2). -/
def shadowSlot (tl : Timeline) (m : Nat) : Option SlotRec :=
  tl.slots.find? (fun r => r.kind == 2 && r.index == m)

/-- START_NS of image slot `s`, 0 if undeclared. -/
def slotStartNs (tl : Timeline) (s : Nat) : Nat := ((imageSlot tl s).map (·.startNs)).getD 0

/-- T_L(F, s), the latch of image slot s of frame F (R184). -/
def latchTime (tl : Timeline) (f s : Nat) : Nat := frameStart tl f + slotStartNs tl s * 65536

/-- Start of grid line `j` of frame F (R184). -/
def gridLine (tl : Timeline) (f j : Nat) : Nat :=
  if j ≥ tl.lines then frameStart tl (f + 1)
  else frameStart tl f + j * tl.den * 65536000000000 / (tl.num * tl.lines)

/-- Whether grid line `j` meets an image slot: the line is [a, b) and a slot [START, START + LENGTH), taken in the
exact fractions of the frame period (R184). Line LINES - 1 ends at the frame's end. -/
def lineMeetsSlot (tl : Timeline) (j : Nat) : Bool :=
  tl.slots.any (fun r =>
    r.kind == 1 &&
      -- line start < slot end and slot start < line end, multiplied out by NUM * LINES
      decide (j * tl.den * 1000000000 < (r.startNs + r.lengthNs) * tl.num * tl.lines) &&
      decide (r.startNs * tl.num * tl.lines < (j + 1) * tl.den * 1000000000))

/-- Whether grid line `j` is a blanking line (R184). -/
def blankingLine (tl : Timeline) (j : Nat) : Bool := !lineMeetsSlot tl j

/-- The first blanking line: the least j such that j and every later line are blanking lines (R184). -/
def firstBlankingLine (tl : Timeline) : Nat :=
  (List.range tl.lines).foldl (fun acc j => if blankingLine tl j then acc else j + 1) 0

/-- Cells of a tile picture, C (R147). -/
def cellCount (c : ChainRec) : Nat := (c.width / 16) * (c.height / 16)

/-- POOL_DEPTH D_s of slot `s` (Table 8.6). -/
def poolDepthOf (c : ChainRec) (s : Nat) : Nat := (c.poolDepth >>> (2 * s)) % 4 + 1

/-- Longest charge of an INHERIT run, U_max = 2 floor(log2 C) + 2 (chapter 8). -/
def uMax (c : Nat) : Nat := 2 * log2 c + 2

/-- Lane rate of a code of Table 7.1, in units of 0.1 Gbit/s. -/
def laneRate (code : Nat) : Nat := [80, 100, 125, 160, 200, 250, 280, 320].getD code 320

/-- Content rows of one chain window, K_w = 31 floor((P / n) / (2,112 / r ns)) (R165). -/
def windowRows (tl : Timeline) (rate : Nat) : Nat :=
  31 * ((tl.den * 1000000000 * laneRate rate) / (tl.num * tl.nImage * 2112 * 10))

/-- Glint cell period T in units of 1/16 ns... the rate code of Table 12.1 gives T in ns. -/
def glintPeriodNs (grate : Nat) : Nat := [10, 20, 40, 80].getD grate 80

/-- The fields of LMP_MAP (Table 12.12). -/
def mapLanes (m : Word) : Nat := fieldOf m 0 8
def mapDrivers (m : Word) : Nat := fieldOf m 8 4 + 1
def mapChannels (m : Word) : Nat := fieldOf m 12 6 + 1
def mapRate (m : Word) : Nat := fieldOf m 18 2
def mapRowPol (m : Word) : Bool := bitOf m 20

/-- Emitters per lane, E_lane = DRV_LANE × CH_DRV × SCAN (R216). -/
def emittersPerLane (m : Word) (scan : Nat) : Nat := mapDrivers m * mapChannels m * scan

/-- The glint write time G_s = (4 + 16 E_lane) T in ns, before the cases that make it 0 (R216). -/
def glintWriteNs (m : Word) (scan : Nat) : Nat := (4 + 16 * emittersPerLane m scan) * glintPeriodNs (mapRate m)

/-- The interval A_s from the latch of the image slot before `s` to the latch of `s`, in ns (R183). -/
def latchGapNs (tl : Timeline) (s : Nat) : Nat :=
  if s = 0 then slotStartNs tl 0 + periodNs tl - slotStartNs tl (tl.nImage - 1)
  else slotStartNs tl s - slotStartNs tl (s - 1)

/-- Both delivery inequalities of R183 for image slot `s` with glint write time `g` ns:
G + 200 µs ≤ A_s and G + 212.8 µs ≤ C_s, where C_s = START + P_ns - (s + 1) P_ns / n (multiplied out by n). -/
def deliveryOk (tl : Timeline) (s g : Nat) : Bool :=
  decide (g + 200000 ≤ latchGapNs tl s) &&
    decide ((g + 212800) * tl.nImage + (s + 1) * periodNs tl ≤ (slotStartNs tl s + periodNs tl) * tl.nImage)

/-- The first four causes of R215: 1 H not a multiple of SCAN, 2 too few channels, 3 a timer that is no integer or too
large, 4 a driver buffer above 65,536 bits; 0 none of them. -/
def mapCauseStatic (m : Word) (tl : Timeline) (c : ChainRec) : Nat :=
  let t := glintPeriodNs (mapRate m)
  let declared := tl.slots.filter (fun r => r.kind == 1)
  if tl.scan = 0 ∨ c.height % tl.scan ≠ 0 then 1
  else if mapLanes m * mapDrivers m * mapChannels m < (c.height / tl.scan) * c.width * c.emitters then 2
  else if declared.any (fun r =>
      decide ((2 * r.lineQ) % t ≠ 0) || decide (2 * r.lineQ / t > 65535) ||
      decide ((16 * r.blankNs) % t ≠ 0) || decide (16 * r.blankNs / t > 65535)) then 3
  else if mapChannels m * tl.scan * 16 > 65536 then 4
  else 0

/-- G_s as admission step 10 takes it: 0 at a sender, with no map, or with a map one of the first four causes of R215
would refuse against this image (R216). -/
def admissionGlint (m : Word) (role : Role) (tl : Timeline) (chains : List ChainRec) : Nat :=
  match role, chains with
  | .tile, c :: _ =>
    if mapLanes m = 0 then 0
    else if mapCauseStatic m tl c ≠ 0 then 0
    else glintWriteNs m tl.scan
  | _, _ => 0

/-- The cause R215 reports when an image starts to run: 0 accepted, 1 to 4 as above, 5 the delivery inequalities. -/
def mapCause (m : Word) (tl : Timeline) (c : ChainRec) : Nat :=
  let k := mapCauseStatic m tl c
  if k ≠ 0 then k
  else if (List.range tl.nImage).all (fun s => deliveryOk tl s (glintWriteNs m tl.scan)) then 0 else 5

end Sys2Proof.Machine
end

