-- ==== Sys2Proof/Config.lean ====
section
/-! DEFINITION. What the spec leaves to an implementation, and the free values: constants without a body, so that no
proof can see a value of them (log entries 2 to 6). -/
namespace Sys2Proof

/-- The n-th free value of the run: nothing constrains it (log entry 2). -/
opaque Config.freeValue : Nat → Nat

/-- Ed448ph verification (R31, R315): public key, context string, message, signature (log entry 3). -/
opaque Config.ed448phVerify : List Byte → List Byte → List Byte → List Byte → Bool

/-- Ed448ph signing (RFC 8032): secret key, context string, message (R318, R341; log entry 3). -/
opaque Config.ed448phSign : List Byte → List Byte → List Byte → List Byte

/-- The Ed448 public key of a secret key (RFC 8032; log entry 3). -/
opaque Config.ed448Public : List Byte → List Byte

/-- SHAKE256 with an output length in bytes (RFC 8032, R31, R316; log entry 3). -/
opaque Config.shake256 : List Byte → Nat → List Byte

/-- KMAC or another keyed digest of the management session: key, message, length (R79; log entry 3). -/
opaque Config.kmac : List Byte → List Byte → Nat → List Byte

/-- The X448 shared secret of the management key agreement (R79; log entry 3). -/
opaque Config.sharedSecret : List Byte → List Byte

/-- The silicon revision of the part (R388; the spec states no value; log entry 4). -/
opaque Config.siliconRevision : Nat

/-- The ordering code of the part: true for DN9600-I, false for DN9600-C (Table 0.4; log entry 4). -/
opaque Config.industrial : Bool

/-- The fused secret of the device (R318), and the meter signing key, which a meter-only fused secret gives by a derivation that no
rule states (Table 19.1; log entry 4). -/
opaque Config.deviceSecret : List Byte
opaque Config.meterKey : List Byte

/-- The bytes of the meter's key certificate that final test fills in: KEY_ID, ISSUER_ID, LIFECYCLE_MASK and the signature, by their
offset (R341, Table 18.3; log entry 4). -/
opaque Config.meterCertByte : Nat → Byte

/-- The SHAKE256 digests of ROOT0 and ROOT1 in the fuses, and, as number 2, that of the metering authority key in the meter
fuses (R315, R331; log entry 4). -/
opaque Config.rootDigest : Nat → List Byte

/-- The MAC address of an Ethernet port or sub-port (R69; the spec states no value; log entry 4). -/
opaque Config.portMac : Nat → Nat → Nat

/-- Width and height of the return picture an image declares (R94; no section of the image is stated to hold them; by
IMAGE_ID; log entry 6). -/
opaque Config.returnSize : Nat → Nat × Nat

/-- A sample the HEVC decoding process gives: the picture's SPS, its settled packets, the planes of the pictures it refers to, component,
column, row (R82: a fixed function of the coded data and of earlier output; log entry 93). -/
opaque Config.hevcSample : HevcSps → List (List Byte) → List (List (List Nat)) → Nat → Nat → Nat → Nat

/-- A sample the JPEG XS decoding process gives: settled packets, component, column, row (R82; log entry 93). -/
opaque Config.jxsSample : List (List Byte) → Nat → Nat → Nat → Nat

/-- Whether a CTU of the return picture is a region-of-interest CTU under ROI_CELLS: the mapping is that of the image's return-output
graph, by IMAGE_ID (R96; log entry 6). -/
opaque Config.roiCtu : Nat → List Nat → Nat → Bool

/-- The gain of a sender's frequency filter, in units of 2^-72 per 2^-16 ns (R175; the spec states its integral time alone; log entry 22). -/
opaque Config.frequencyGain : Int

/-- The glint value of an emitter of a pixel row below the raster, which a row map kept under R228 can name (R214; no rule states it; log
entry 84). -/
opaque Config.strayGlint : Nat → Nat → Nat → Nat

/-- A byte of the PCIe configuration space after a reset of the endpoint that R77 does not state (log entry 99). -/
opaque Config.pcieConfig : Nat → Byte

/-- The work in ns of a live-set recompute of the image with an IMAGE_ID, where it declares it as background work, and none where it
declares scheduled operations; R202 says that the image declares it and no section holds the declaration (log entry 100). -/
opaque Config.recomputeWork : Nat → Option Nat

/-- Banks of a sub-channel of the fitted LPDDR6 devices (R253; the spec states no number; log entry 5). -/
opaque Config.dramBanks : Nat

/-- The temperature in 1/16 °C of a DIODE conversion at ideality 1.000 + 0.001 × ETA, from ETA and the temperature the readings give at
1.000 (R264 states no rounding; log entry 101). -/
opaque Config.idealTheta : Nat → Int → Int

/-- THR_BASE of a throttling channel in 1/16 °C (R269; no register and no section is stated to hold it; log entry 7). -/
opaque Config.thrBase : Nat → Int

end Sys2Proof
end

