-- ==== Sys2Proof/Machine/RegMap.lean ====
section
/-! DEFINITION. The register map: the address of every register of Tables 2.12, 3.4, 4.5, 5.6, 6.6, 7.12, 8.9, 9.3, 10.8,
11.6, 12.9, 13.7, 14.7, 15.4, 16.6, 17.5, 18.6, 19.6, 20.12 and 23.4, with the bits its access code lets a write set or
clear (Table 0.7) and its reset value where the tables give one that is not 0. An index is taken modulo the power of two that
holds it, as its field would, so that no index leads out of its run of registers; the commands use indices in range only. -/
namespace Sys2Proof.Machine

/-- A row of the register map: `count` registers `stride` apart from `base`; `rw` are the bits a write sets, `w1c` the bits
a written 1 clears, `lock` 0 for RW, 1 for RWL, 2 for RWS (Table 0.7). -/
structure RegRow where
  base : Nat
  stride : Nat
  count : Nat
  rw : Nat
  w1c : Nat
  lock : Nat
  reset : Nat
  deriving DecidableEq, Repr

/-! ### GEN (R45) -/

def Reg.GEN_IMG_STATE : Nat := 0x200
def Reg.GEN_IMG_ID_LO : Nat := 0x204
def Reg.GEN_IMG_ID_HI : Nat := 0x208
def Reg.GEN_ADM_STATUS : Nat := 0x210
def Reg.GEN_ADM_DETAIL0 : Nat := 0x214
def Reg.GEN_ADM_DETAIL1 : Nat := 0x218
def Reg.GEN_PARAM_CARRY : Nat := 0x21C
def Reg.GEN_ISL_CLK (i : Nat) : Nat := 0x400 + 4 * (i % 64)

/-! ### CMD (R363) -/

def Reg.CMD_SQ_BASE_LO : Nat := 0x10000
def Reg.CMD_SQ_BASE_HI : Nat := 0x10004
def Reg.CMD_CQ_BASE_LO : Nat := 0x10008
def Reg.CMD_CQ_BASE_HI : Nat := 0x1000C
def Reg.CMD_RING_CFG : Nat := 0x10010
def Reg.CMD_SQ_TAIL : Nat := 0x10014
def Reg.CMD_SQ_HEAD : Nat := 0x10018
def Reg.CMD_CQ_TAIL : Nat := 0x1001C
def Reg.CMD_CQ_HEAD : Nat := 0x10020
def Reg.CMD_CREDITS : Nat := 0x10024
def Reg.CMD_EVT : Nat := 0x10028
def Reg.CMD_EVT_EN : Nat := 0x1002C
def Reg.CMD_CREDIT_DROP (p : Nat) : Nat := 0x10030 + 4 * (p % 4)
def Reg.CMD_RELAY_TIMEOUT : Nat := 0x10040
def Reg.CMD_DUP_ANSWERED : Nat := 0x10044
def Reg.CMD_CNT_CLEAR : Nat := 0x10048
def Reg.CMD_SPI_CTRL : Nat := 0x10100
def Reg.CMD_SPI_REQ : Nat := 0x11000
def Reg.CMD_SPI_RSP : Nat := 0x14000

/-! ### SCH (R63) -/

def Reg.SCH_INSTANCE : Nat := 0x20000
def Reg.SCH_BRC_TOTAL : Nat := 0x20010
def Reg.SCH_BRC_DEP : Nat := 0x20014
def Reg.SCH_BRC_BUSY : Nat := 0x20018
def Reg.SCH_BRC_OVERRUN : Nat := 0x2001C
def Reg.SCH_SHED : Nat := 0x20020
def Reg.SCH_ARR_LATE : Nat := 0x20024
def Reg.SCH_ARR_DROP : Nat := 0x20028
def Reg.SCH_SLOT_REPEAT : Nat := 0x2002C
def Reg.SCH_CNT_CLEAR : Nat := 0x20030
def Reg.SCH_BRC_FIRST0 : Nat := 0x20040
def Reg.SCH_BRC_FIRST1 : Nat := 0x20044
def Reg.SCH_TRACE_CTRL : Nat := 0x20100
def Reg.SCH_TRACE_PTR : Nat := 0x20104
def Reg.SCH_TRACE_FMASK (k : Nat) : Nat := 0x20110 + 4 * (k % 4)
def Reg.SCH_ISL_SLACK (i : Nat) : Nat := 0x20200 + 4 * (i % 32)
def Reg.SCH_FCT_LOAD (f : Nat) : Nat := 0x20400 + 4 * (f % 128)
def Reg.SCH_FCT_MARGIN (f : Nat) : Nat := 0x20600 + 4 * (f % 128)
def Reg.SCH_HIST_SEL : Nat := 0x20800
def Reg.SCH_HIST (k : Nat) : Nat := 0x20810 + 4 * (k % 8)
def Reg.SCH_QW_SEL : Nat := 0x20900
def Reg.SCH_QW_DEPTH : Nat := 0x20904
def Reg.SCH_QW_FULLWAIT : Nat := 0x20908
def Reg.SCH_TRACE_WIN : Nat := 0x28000

/-! ### DRC (R263) -/

def Reg.DRC_STAT : Nat := 0x30000
def Reg.DRC_SP_CTRL : Nat := 0x30004
def Reg.DRC_SR_CTRL : Nat := 0x30008
def Reg.DRC_SR_COLLIDE : Nat := 0x30010
def Reg.DRC_SR_ABANDON : Nat := 0x30014
def Reg.DRC_REF_FORCED : Nat := 0x30018
def Reg.DRC_REF_DEBT_MAX : Nat := 0x3001C
def Reg.DRC_TRACK_DONE : Nat := 0x30020
def Reg.DRC_TRACK_ABANDON : Nat := 0x30024
def Reg.DRC_SW_COUNT : Nat := 0x30028
def Reg.DRC_META_ERR : Nat := 0x3002C
def Reg.DRC_CNT_CLEAR : Nat := 0x30030
def Reg.DRC_CH_STAT (c : Nat) : Nat := 0x30040 + 4 * (c % 8)
def Reg.DRC_PORT_SEL : Nat := 0x30080
def Reg.DRC_PORT_LAT : Nat := 0x30084
def Reg.DRC_PORT_L3 : Nat := 0x30088
def Reg.DRC_PORT_BYTES : Nat := 0x3008C

/-! ### ING (R70) -/

def Reg.ING_PORT_CFG (p : Nat) : Nat := 0x40000 + 4 * (p % 4)
def Reg.ING_PORT_STAT (p : Nat) : Nat := 0x40010 + 4 * (p % 4)
def Reg.ING_LS_STAT : Nat := 0x40040
def Reg.ING_LS_FWD : Nat := 0x40044
def Reg.ING_LS_MISSING : Nat := 0x40048
def Reg.ING_LS_MISMATCH : Nat := 0x4004C
def Reg.ING_MGMT_CFG : Nat := 0x40080
def Reg.ING_MGMT_IP : Nat := 0x40084
def Reg.ING_MGMT_AUTHFAIL : Nat := 0x40088
def Reg.ING_STR_CTRL (s : Nat) : Nat := 0x40100 + 0x40 * (s % 16)
def Reg.ING_STR_DST (s : Nat) : Nat := 0x40104 + 0x40 * (s % 16)
def Reg.ING_STR_SRC (s : Nat) : Nat := 0x40108 + 0x40 * (s % 16)
def Reg.ING_STR_PORTS (s : Nat) : Nat := 0x4010C + 0x40 * (s % 16)
def Reg.ING_STR_SSRC (s : Nat) : Nat := 0x40110 + 0x40 * (s % 16)
def Reg.ING_STR_RATE (s : Nat) : Nat := 0x40114 + 0x40 * (s % 16)
def Reg.ING_STR_SURF01 (s : Nat) : Nat := 0x40118 + 0x40 * (s % 16)
def Reg.ING_STR_SURF23 (s : Nat) : Nat := 0x4011C + 0x40 * (s % 16)
def Reg.ING_STR_LASTPIC (s : Nat) : Nat := 0x40120 + 0x40 * (s % 16)
def Reg.ING_STR_RX (s : Nat) : Nat := 0x40124 + 0x40 * (s % 16)
def Reg.ING_STR_PATCH (s : Nat) : Nat := 0x40128 + 0x40 * (s % 16)
def Reg.ING_STR_LOST (s : Nat) : Nat := 0x4012C + 0x40 * (s % 16)
def Reg.ING_DROP (c : Nat) : Nat := 0x40800 + 4 * (c % 8)
def Reg.ING_CNT_CLEAR : Nat := 0x40840
def Reg.ING_WIN (k : Nat) : Nat := 0x40C00 + 4 * (k % 64)
def Reg.ING_WIN_OOR : Nat := 0x40D00
def Reg.ING_WIN_RETIRED : Nat := 0x40D04

/-! ### CDC (R99) -/

def Reg.CDC_CAP_HEVC : Nat := 0x50000
def Reg.CDC_CAP_JXS : Nat := 0x50004
def Reg.CDC_ERR_EVT : Nat := 0x50008
def Reg.CDC_CNT_CLEAR : Nat := 0x50010
def Reg.CDC_CH_CFG (c : Nat) : Nat := 0x50100 + 0x40 * (c % 16)
def Reg.CDC_CH_DIM (c : Nat) : Nat := 0x50104 + 0x40 * (c % 16)
def Reg.CDC_CH_POOL (c : Nat) : Nat := 0x50108 + 0x40 * (c % 16)
def Reg.CDC_CH_STAT (c : Nat) : Nat := 0x5010C + 0x40 * (c % 16)
def Reg.CDC_CH_POOLMARK (c : Nat) : Nat := 0x50110 + 0x40 * (c % 16)
def Reg.CDC_CH_DECODED (c : Nat) : Nat := 0x50114 + 0x40 * (c % 16)
def Reg.CDC_CH_DAMAGED (c : Nat) : Nat := 0x50118 + 0x40 * (c % 16)
def Reg.CDC_CH_GENERATED (c : Nat) : Nat := 0x5011C + 0x40 * (c % 16)
def Reg.CDC_CH_LATE (c : Nat) : Nat := 0x50120 + 0x40 * (c % 16)
def Reg.CDC_CH_SKIPPED (c : Nat) : Nat := 0x50124 + 0x40 * (c % 16)
def Reg.CDC_CH_LASTPIC (c : Nat) : Nat := 0x50128 + 0x40 * (c % 16)
def Reg.CDC_RET_CTRL : Nat := 0x50800
def Reg.CDC_RET_RATE : Nat := 0x50804
def Reg.CDC_RET_QP : Nat := 0x50808
def Reg.CDC_RET_GOP : Nat := 0x5080C
def Reg.CDC_RET_RING_LO : Nat := 0x50810
def Reg.CDC_RET_RING_HI : Nat := 0x50814
def Reg.CDC_RET_RING_SIZE : Nat := 0x50818
def Reg.CDC_RET_WR : Nat := 0x5081C
def Reg.CDC_RET_RD : Nat := 0x50820
def Reg.CDC_RET_PICS : Nat := 0x50824
def Reg.CDC_RET_OVF : Nat := 0x50828
def Reg.CDC_RET_ROI_LIFT : Nat := 0x5082C

/-! ### CMP (R122) -/

def Reg.CMP_COMMIT : Nat := 0x60000
def Reg.CMP_COMMIT_STAT : Nat := 0x60004
def Reg.CMP_COMMIT_WFN_LO : Nat := 0x60008
def Reg.CMP_COMMIT_WFN_HI : Nat := 0x6000C
def Reg.CMP_COMMIT_DETAIL : Nat := 0x60010
def Reg.CMP_ENVELOPE : Nat := 0x60014
def Reg.CMP_COLOUR : Nat := 0x60018
def Reg.CMP_OWN_REJ : Nat := 0x60020
def Reg.CMP_RETIRED_DROP : Nat := 0x60024
def Reg.CMP_PACK_ERR : Nat := 0x60028
def Reg.CMP_MIRROR_DROP : Nat := 0x6002C
def Reg.CMP_CNT_CLEAR : Nat := 0x60030
def Reg.CMP_STILL_EVT : Nat := 0x60034
def Reg.CMP_SURF_SEL : Nat := 0x60040
def Reg.CMP_SURF_D0 : Nat := 0x60044
def Reg.CMP_SURF_D1 : Nat := 0x60048
def Reg.CMP_SURF_D2 : Nat := 0x6004C
def Reg.CMP_SURF_D3 : Nat := 0x60050
def Reg.CMP_SURF_FENCE_LO : Nat := 0x60054
def Reg.CMP_SURF_FENCE_HI : Nat := 0x60058
def Reg.CMP_POOL_FREE : Nat := 0x6005C
def Reg.CMP_TILE_MESH (t : Nat) : Nat := 0x60100 + 4 * (t % 256)
def Reg.CMP_STILL_CFG (s : Nat) : Nat := 0x60800 + 8 * (s % 16)
def Reg.CMP_STILL_STAT (s : Nat) : Nat := 0x60804 + 8 * (s % 16)
def Reg.CMP_LAYER (l : Nat) : Nat := 0x61000 + 0x40 * (l % 256)

/-! ### CHN (R146) -/

def Reg.CHN_PORT_CTRL (p : Nat) : Nat := 0x70000 + 0x100 * (p % 8)
def Reg.CHN_PORT_STAT (p : Nat) : Nat := 0x70004 + 0x100 * (p % 8)
def Reg.CHN_TXSLIP (p : Nat) : Nat := 0x70008 + 0x100 * (p % 8)
def Reg.CHN_SKEW (p : Nat) (k : Nat) : Nat := 0x70010 + 0x100 * (p % 8) + 4 * (k % 4)
def Reg.CHN_LINKDLY (p : Nat) : Nat := 0x70020 + 0x100 * (p % 8)
def Reg.CHN_RESID (p : Nat) : Nat := 0x70024 + 0x100 * (p % 8)
def Reg.CHN_HDR_ERR (p : Nat) : Nat := 0x70040 + 0x100 * (p % 8)
def Reg.CHN_ROW_ERR (p : Nat) : Nat := 0x70044 + 0x100 * (p % 8)
def Reg.CHN_CTL_CRC (p : Nat) : Nat := 0x70048 + 0x100 * (p % 8)
def Reg.CHN_MSG_ERR (p : Nat) : Nat := 0x7004C + 0x100 * (p % 8)
def Reg.CHN_FRAG_ERR (p : Nat) : Nat := 0x70050 + 0x100 * (p % 8)
def Reg.CHN_SCRC_ERR (p : Nat) : Nat := 0x70054 + 0x100 * (p % 8)
def Reg.CHN_RELOCK (p : Nat) : Nat := 0x70058 + 0x100 * (p % 8)
def Reg.CHN_EXP_RX (p : Nat) : Nat := 0x7005C + 0x100 * (p % 8)
def Reg.CHN_EXP_REPAIR (p : Nat) : Nat := 0x70060 + 0x100 * (p % 8)
def Reg.CHN_EXPRESS : Nat := 0x70800
def Reg.CHN_EXP_STATE : Nat := 0x70804
def Reg.CHN_RING : Nat := 0x70808
def Reg.CHN_EXP_DEFER : Nat := 0x7080C
def Reg.CHN_CHAIN (c : Nat) : Nat := 0x70810 + 4 * (c % 4)
def Reg.CHN_CNT_CLEAR : Nat := 0x70820

/-! ### CCX (R166) -/

def Reg.CCX_STARVED_CELLS : Nat := 0x80000
def Reg.CCX_STARVED_SLICES : Nat := 0x80004
def Reg.CCX_REPEAT : Nat := 0x80008
def Reg.CCX_REFRESH_REQ : Nat := 0x8000C
def Reg.CCX_REFRESH_SLICES : Nat := 0x80010
def Reg.CCX_UNRESOLVED : Nat := 0x80014
def Reg.CCX_SYNTAX_ERR : Nat := 0x80018
def Reg.CCX_MISSING_PICS : Nat := 0x8001C
def Reg.CCX_ROI_OVER : Nat := 0x80020
def Reg.CCX_CNT_CLEAR : Nat := 0x80030
def Reg.CCX_REFRESH_STAT : Nat := 0x80040
def Reg.CCX_POOL (e : Nat) : Nat := 0x80080 + 4 * (e % 16)
def Reg.CCX_QP (t : Nat) : Nat := 0x80400 + 4 * (t % 256)
def Reg.CCX_FIRST (t : Nat) : Nat := 0x80800 + 4 * (t % 256)

/-! ### TIM (R182) -/

def Reg.TIM_NOW_S_LO : Nat := 0x90000
def Reg.TIM_NOW_S_HI : Nat := 0x90004
def Reg.TIM_NOW_NS : Nat := 0x90008
def Reg.TIM_NOW_FRAC : Nat := 0x9000C
def Reg.TIM_STATE : Nat := 0x90010
def Reg.TIM_OFFSET : Nat := 0x90014
def Reg.TIM_FREQ : Nat := 0x90018
def Reg.TIM_CTRL : Nat := 0x9001C
def Reg.TIM_SET_S_LO : Nat := 0x90020
def Reg.TIM_SET_S_HI : Nat := 0x90024
def Reg.TIM_SET_NS : Nat := 0x90028
def Reg.TIM_PTP_CFG : Nat := 0x90040
def Reg.TIM_PTP_STAT : Nat := 0x90044
def Reg.TIM_PTP_GM_LO : Nat := 0x90048
def Reg.TIM_PTP_GM_HI : Nat := 0x9004C
def Reg.TIM_PTP_MPD : Nat := 0x90050
def Reg.TIM_PTP_RX : Nat := 0x90054
def Reg.TIM_PTP_DISCARD : Nat := 0x90058
def Reg.TIM_ASYM_ETH (q : Nat) : Nat := 0x90080 + 4 * (q % 16)
def Reg.TIM_ASYM_CHN (p : Nat) : Nat := 0x900C0 + 4 * (p % 4)
def Reg.TIM_PAIR_OFFSET : Nat := 0x900E0
def Reg.TIM_OUT_CTRL (u : Nat) : Nat := 0x90100 + 0x20 * (u % 8)
def Reg.TIM_OUT_S_LO (u : Nat) : Nat := 0x90104 + 0x20 * (u % 8)
def Reg.TIM_OUT_S_HI (u : Nat) : Nat := 0x90108 + 0x20 * (u % 8)
def Reg.TIM_OUT_NS (u : Nat) : Nat := 0x9010C + 0x20 * (u % 8)
def Reg.TIM_OUT_PER (u : Nat) : Nat := 0x90110 + 0x20 * (u % 8)
def Reg.TIM_OUT_PERFRAC (u : Nat) : Nat := 0x90114 + 0x20 * (u % 8)
def Reg.TIM_OUT_WIDTH (u : Nat) : Nat := 0x90118 + 0x20 * (u % 8)
def Reg.TIM_OUT_COUNT (u : Nat) : Nat := 0x9011C + 0x20 * (u % 8)
def Reg.TIM_IN_CTRL (c : Nat) : Nat := 0x90200 + 0x20 * (c % 8)
def Reg.TIM_IN_S_LO (c : Nat) : Nat := 0x90204 + 0x20 * (c % 8)
def Reg.TIM_IN_S_HI (c : Nat) : Nat := 0x90208 + 0x20 * (c % 8)
def Reg.TIM_IN_NS (c : Nat) : Nat := 0x9020C + 0x20 * (c % 8)
def Reg.TIM_IN_FRAC (c : Nat) : Nat := 0x90210 + 0x20 * (c % 8)
def Reg.TIM_IN_OVF (c : Nat) : Nat := 0x90214 + 0x20 * (c % 8)
def Reg.TIM_CNT_CLEAR : Nat := 0x90300

/-! ### FLK (R195) -/

def Reg.FLK_STATE : Nat := 0xA0000
def Reg.FLK_CTRL : Nat := 0xA0004
def Reg.FLK_START_WFN_LO : Nat := 0xA0008
def Reg.FLK_START_WFN_HI : Nat := 0xA000C
def Reg.FLK_LLATCH : Nat := 0xA0010
def Reg.FLK_RUNS : Nat := 0xA0014
def Reg.FLK_SLOT_START (k : Nat) : Nat := 0xA0020 + 4 * (k % 4)
def Reg.FLK_EXP_OPEN (k : Nat) : Nat := 0xA0030 + 4 * (k % 4)
def Reg.FLK_EXP_LEN (k : Nat) : Nat := 0xA0040 + 4 * (k % 4)
def Reg.FLK_SHADOW_START (k : Nat) : Nat := 0xA0050 + 4 * (k % 4)
def Reg.FLK_SHADOW_LEN (k : Nat) : Nat := 0xA0060 + 4 * (k % 4)
def Reg.FLK_LATE (k : Nat) : Nat := 0xA0080 + 4 * (k % 4)
def Reg.FLK_ABSENT (k : Nat) : Nat := 0xA0090 + 4 * (k % 4)
def Reg.FLK_CNT_CLEAR : Nat := 0xA00A0

/-! ### EMC (R212) -/

def Reg.EMC_STATE : Nat := 0xB0000
def Reg.EMC_CTRL : Nat := 0xB0004
def Reg.EMC_BANK_WFN : Nat := 0xB0008
def Reg.EMC_FADE_CTRL : Nat := 0xB000C
def Reg.EMC_FADE_WFN : Nat := 0xB0010
def Reg.EMC_FADE_NOW : Nat := 0xB0014
def Reg.EMC_SET_ID_LO : Nat := 0xB0018
def Reg.EMC_SET_ID_HI : Nat := 0xB001C
def Reg.EMC_LIVE_WFN : Nat := 0xB0020
def Reg.EMC_LIVE_CNT : Nat := 0xB0024
def Reg.EMC_RECOMP_DEFER : Nat := 0xB0028
def Reg.EMC_CNT_CLEAR : Nat := 0xB002C
def Reg.EMC_GAIN (e : Nat) : Nat := 0xB0030 + 4 * (e % 4)
def Reg.EMC_TEMP_SEL : Nat := 0xB0040
def Reg.EMC_TEMP_VAL : Nat := 0xB0044
def Reg.EMC_CH_POS (i : Nat) : Nat := 0xB0080 + 4 * (i % 16)
def Reg.EMC_INC_WIN (n : Nat) : Nat := 0xB4000 + 4 * (n % 4096)
def Reg.EMC_GAM_WIN (n : Nat) : Nat := 0xB8000 + 4 * (n % 2048)

/-! ### LMP (R233) -/

def Reg.LMP_STATE : Nat := 0xC0000
def Reg.LMP_CTRL : Nat := 0xC0004
def Reg.LMP_MAP : Nat := 0xC0008
def Reg.LMP_DRV_DATA : Nat := 0xC000C
def Reg.LMP_GS : Nat := 0xC0010
def Reg.LMP_DARK : Nat := 0xC0014
def Reg.LMP_BLANK_SRC : Nat := 0xC0018
def Reg.LMP_NOSWAP : Nat := 0xC0020
def Reg.LMP_CUT : Nat := 0xC0024
def Reg.LMP_CFG_SKIP : Nat := 0xC0028
def Reg.LMP_SHADOW_CUT : Nat := 0xC002C
def Reg.LMP_SHADOW_LATE : Nat := 0xC0030
def Reg.LMP_BLANK_EVT : Nat := 0xC0034
def Reg.LMP_DARK_EVT : Nat := 0xC0038
def Reg.LMP_CNT_CLEAR : Nat := 0xC003C
def Reg.LMP_ROW_MAP (i : Nat) : Nat := 0xC0100 + 4 * (i % 16)

/-! ### CAL (R247) -/

def Reg.CAL_STATE : Nat := 0xD0000
def Reg.CAL_CTRL : Nat := 0xD0004
def Reg.CAL_GEN (o : Nat) : Nat := 0xD0010 + 8 * (o % 4)
def Reg.CAL_SLOT (o : Nat) : Nat := 0xD0014 + 8 * (o % 4)
def Reg.CAL_LOOP_CFG : Nat := 0xD0040
def Reg.CAL_LOOP_LIM : Nat := 0xD0044
def Reg.CAL_LOOP_STEP : Nat := 0xD0048
def Reg.CAL_LOOP_STAT (e : Nat) : Nat := 0xD0050 + 4 * (e % 4)
def Reg.CAL_MEAS_OK : Nat := 0xD0060
def Reg.CAL_MEAS_DROP : Nat := 0xD0064
def Reg.CAL_TRIM_STEPS : Nat := 0xD0068
def Reg.CAL_TRIM_REVERT : Nat := 0xD006C
def Reg.CAL_STORE_FAIL : Nat := 0xD0070
def Reg.CAL_STAGE_DROP : Nat := 0xD0074
def Reg.CAL_CNT_CLEAR : Nat := 0xD0078
def Reg.CAL_TRIM_SEL : Nat := 0xD0080
def Reg.CAL_TRIM_VAL : Nat := 0xD0084

/-! ### THM (R277) -/

def Reg.THM_STATE : Nat := 0xE0000
def Reg.THM_LEVEL : Nat := 0xE0004
def Reg.THM_THR : Nat := 0xE0008
def Reg.THM_CTRL : Nat := 0xE0010
def Reg.THM_LEVEL_ACT (L : Nat) : Nat := 0xE0020 + 4 * (L % 8)
def Reg.THM_GUARD_T (g : Nat) : Nat := 0xE0040 + 4 * (g % 2)
def Reg.THM_RESTART : Nat := 0xE0048
def Reg.THM_RESTARTS : Nat := 0xE004C
def Reg.THM_GUARD_VAL : Nat := 0xE0050
def Reg.THM_CNT_CLEAR : Nat := 0xE0054
def Reg.THM_FAILS : Nat := 0xE0058
def Reg.THM_CH_CFG (i : Nat) : Nat := 0xE0100 + 0x10 * (i % 32)
def Reg.THM_CH_LIM (i : Nat) : Nat := 0xE0104 + 0x10 * (i % 32)
def Reg.THM_CH_VAL (i : Nat) : Nat := 0xE0108 + 0x10 * (i % 32)
def Reg.THM_SUB (i : Nat) : Nat := 0xE010C + 0x10 * (i % 32)
def Reg.THM_NTC (t : Nat) (k : Nat) : Nat := 0xE0400 + 0x100 * (t % 2) + 4 * (k % 64)

/-! ### RED (R297) -/

def Reg.RED_STATE : Nat := 0xF0000
def Reg.RED_HEALTH : Nat := 0xF0004
def Reg.RED_TILE : Nat := 0xF0008
def Reg.RED_CFG : Nat := 0xF000C
def Reg.RED_HOLDOFF_LEFT : Nat := 0xF0010
def Reg.RED_JOIN_PROG : Nat := 0xF0014
def Reg.RED_LEAVE : Nat := 0xF0018
def Reg.RED_DIVERGE : Nat := 0xF0020
def Reg.RED_CODE_DIFF : Nat := 0xF0024
def Reg.RED_RING_LINK : Nat := 0xF0028
def Reg.RED_UNCLAIMED : Nat := 0xF002C
def Reg.RED_LINK_ERR : Nat := 0xF0030
def Reg.RED_JOINS : Nat := 0xF0034
def Reg.RED_JOIN_FAIL : Nat := 0xF0038
def Reg.RED_SWITCHES : Nat := 0xF003C
def Reg.RED_FSIG_FAIL : Nat := 0xF0040
def Reg.RED_CNT_CLEAR : Nat := 0xF0044
def Reg.RED_HREC_SEL : Nat := 0xF0080
def Reg.RED_HREC (k : Nat) : Nat := 0xF0084 + 4 * (k % 8)

/-! ### UMB (R312) -/

def Reg.UMB_STATE : Nat := 0x100000
def Reg.UMB_CTRL : Nat := 0x100004
def Reg.UMB_WAKE_CFG : Nat := 0x100008
def Reg.UMB_WAKE_SRC : Nat := 0x10000C
def Reg.UMB_RTC_S_LO : Nat := 0x100010
def Reg.UMB_RTC_S_HI : Nat := 0x100014
def Reg.UMB_RTC_NS : Nat := 0x100018
def Reg.UMB_ALARM_S_LO : Nat := 0x10001C
def Reg.UMB_ALARM_S_HI : Nat := 0x100020
def Reg.UMB_RESET_CAUSE : Nat := 0x100024
def Reg.UMB_STRAPS : Nat := 0x100028
def Reg.UMB_PF_CNT : Nat := 0x10002C
def Reg.UMB_HALT_INFO : Nat := 0x100030
def Reg.UMB_HALT_WFN_LO : Nat := 0x100034
def Reg.UMB_HALT_WFN_HI : Nat := 0x100038

/-! ### TRU (R330) -/

def Reg.TRU_LIFE : Nat := 0x110000
def Reg.TRU_FLOOR : Nat := 0x110004
def Reg.TRU_BOOT : Nat := 0x110008
def Reg.TRU_STAGE : Nat := 0x11000C
def Reg.TRU_STAGE_MAP : Nat := 0x110010
def Reg.TRU_FW_VER : Nat := 0x110014
def Reg.TRU_CONFIRM_S : Nat := 0x110018
def Reg.TRU_CRC_ERR : Nat := 0x110020
def Reg.TRU_SIG_FAIL : Nat := 0x110024
def Reg.TRU_CNT_CLEAR : Nat := 0x110028
def Reg.TRU_ID (k : Nat) : Nat := 0x110040 + 4 * (k % 4)

/-! ### MET (R344) -/

def Reg.MET_STATE : Nat := 0x120000
def Reg.MET_CFG : Nat := 0x120004
def Reg.MET_DIV : Nat := 0x120008
def Reg.MET_CAL_I : Nat := 0x12000C
def Reg.MET_CAL_V : Nat := 0x120010
def Reg.MET_ENERGY_LO : Nat := 0x120014
def Reg.MET_ENERGY_HI : Nat := 0x120018
def Reg.MET_POWER : Nat := 0x12001C
def Reg.MET_VOLT : Nat := 0x120020
def Reg.MET_CURR : Nat := 0x120024
def Reg.MET_EVENTS : Nat := 0x120028
def Reg.MET_REC_SEQ : Nat := 0x12002C
def Reg.MET_FW_VER : Nat := 0x120030
def Reg.MET_FLOOR : Nat := 0x120034
def Reg.MET_ID (k : Nat) : Nat := 0x120040 + 4 * (k % 4)
def Reg.MET_TAG_NOW (k : Nat) : Nat := 0x120050 + 4 * (k % 4)
def Reg.MET_OPEN_WFN_LO : Nat := 0x120060
def Reg.MET_OPEN_WFN_HI : Nat := 0x120064
def Reg.MET_REC (r : Nat) : Nat := 0x128000 + 0x100 * (r % 128)

/-! ### DBG (R394) -/

def Reg.DBG_STATE : Nat := 0x130000
def Reg.DBG_TMUX_SEL (k : Nat) : Nat := 0x130010 + 4 * (k % 16)
def Reg.DBG_BIST_STAT : Nat := 0x130100
def Reg.DBG_BIST_FAIL : Nat := 0x130104
def Reg.DBG_BIST_DONE : Nat := 0x130108
def Reg.DBG_BIST_RUNS : Nat := 0x13010C
def Reg.DBG_CNT_CLEAR : Nat := 0x130110

/-- A bit field of a register: its least significant bit and its width. -/
structure Field where
  lo : Nat
  len : Nat
  deriving DecidableEq, Repr

/-! ### Fields of the tables with columns Bits, Field, Access, Reset, Meaning -/

def Fld.GEN_IMG_STATE_STATE : Field := ⟨0, 3⟩
def Fld.GEN_IMG_STATE_ROLE : Field := ⟨3, 2⟩
def Fld.GEN_IMG_STATE_STORE_SLOT : Field := ⟨5, 1⟩
def Fld.GEN_ADM_STATUS_CODE : Field := ⟨0, 8⟩
def Fld.GEN_ADM_STATUS_STEP : Field := ⟨8, 4⟩
def Fld.GEN_ADM_STATUS_BUSY : Field := ⟨16, 1⟩
def Fld.GEN_ADM_STATUS_DONE : Field := ⟨17, 1⟩
def Fld.GEN_ADM_STATUS_PASS : Field := ⟨18, 1⟩
def Fld.GEN_ADM_STATUS_TARGET : Field := ⟨19, 1⟩
def Fld.GEN_ISL_CLK_FREQ : Field := ⟨0, 16⟩
def Fld.GEN_ISL_CLK_BELOW_FLOOR : Field := ⟨16, 1⟩
def Fld.GEN_ISL_CLK_FLOOR_EVENT : Field := ⟨17, 1⟩
def Fld.GEN_ISL_CLK_ENABLED : Field := ⟨18, 1⟩
def Fld.SCH_BRC_FIRST0_OP : Field := ⟨0, 20⟩
def Fld.SCH_BRC_FIRST0_FACET : Field := ⟨20, 7⟩
def Fld.SCH_BRC_FIRST0_CAUSE : Field := ⟨27, 3⟩
def Fld.SCH_BRC_FIRST0_VALID : Field := ⟨30, 1⟩
def Fld.SCH_TRACE_CTRL_ENABLE : Field := ⟨0, 1⟩
def Fld.SCH_TRACE_CTRL_PAGE : Field := ⟨1, 1⟩
def Fld.SCH_TRACE_CTRL_REARM : Field := ⟨2, 1⟩
def Fld.SCH_TRACE_CTRL_FORCE : Field := ⟨3, 1⟩
def Fld.SCH_TRACE_CTRL_FROZEN : Field := ⟨4, 1⟩
def Fld.SCH_TRACE_CTRL_EVENT_MASK : Field := ⟨8, 8⟩
def Fld.SCH_TRACE_CTRL_POST_COUNT : Field := ⟨16, 12⟩
def Fld.SCH_FCT_LOAD_LAST : Field := ⟨0, 16⟩
def Fld.SCH_FCT_LOAD_PEAK : Field := ⟨16, 16⟩
def Fld.ING_PORT_CFG_MODE : Field := ⟨0, 2⟩
def Fld.ING_PORT_CFG_MEDIUM : Field := ⟨2, 1⟩
def Fld.ING_PORT_CFG_AN_EN : Field := ⟨3, 1⟩
def Fld.ING_PORT_CFG_NOFEC25 : Field := ⟨4, 1⟩
def Fld.ING_PORT_CFG_MGMT_EN : Field := ⟨8, 4⟩
def Fld.ING_STR_CTRL_ENABLE : Field := ⟨0, 1⟩
def Fld.ING_STR_CTRL_PORT : Field := ⟨1, 2⟩
def Fld.ING_STR_CTRL_SUB : Field := ⟨3, 2⟩
def Fld.ING_STR_CTRL_FORMAT : Field := ⟨5, 3⟩
def Fld.ING_STR_CTRL_DUAL : Field := ⟨8, 1⟩
def Fld.ING_STR_CTRL_PORT_B : Field := ⟨9, 2⟩
def Fld.ING_STR_CTRL_SUB_B : Field := ⟨11, 2⟩
def Fld.ING_STR_CTRL_LIVE : Field := ⟨13, 1⟩
def Fld.ING_STR_CTRL_RING4 : Field := ⟨14, 1⟩
def Fld.ING_STR_CTRL_VLAN_EN : Field := ⟨15, 1⟩
def Fld.ING_STR_CTRL_VLAN_ID : Field := ⟨16, 12⟩
def Fld.ING_STR_CTRL_ERR : Field := ⟨28, 1⟩
def Fld.ING_STR_CTRL_ACTIVE : Field := ⟨29, 1⟩
def Fld.CDC_CH_CFG_DEADLINE_US : Field := ⟨0, 17⟩
def Fld.CDC_CH_CFG_MAX_PICS : Field := ⟨17, 8⟩
def Fld.CDC_CH_CFG_CONCEAL_PROMOTE : Field := ⟨25, 1⟩
def Fld.CDC_CH_STAT_STATE : Field := ⟨0, 3⟩
def Fld.CDC_CH_STAT_DEMOTED : Field := ⟨3, 1⟩
def Fld.CDC_CH_STAT_LIVE : Field := ⟨4, 1⟩
def Fld.CDC_CH_STAT_LAST_ERR : Field := ⟨8, 4⟩
def Fld.CDC_CH_STAT_DAMAGED_NOW : Field := ⟨12, 1⟩
def Fld.CDC_RET_CTRL_ENABLE : Field := ⟨0, 1⟩
def Fld.CDC_RET_CTRL_FORCE_IDR : Field := ⟨1, 1⟩
def Fld.CDC_RET_CTRL_SLICE_ROWS : Field := ⟨2, 4⟩
def Fld.CDC_RET_CTRL_SLOT : Field := ⟨6, 2⟩
def Fld.CDC_RET_CTRL_DIVIDE : Field := ⟨8, 4⟩
def Fld.CDC_RET_CTRL_ROI_EN : Field := ⟨12, 1⟩
def Fld.CDC_RET_CTRL_ERR : Field := ⟨13, 1⟩
def Fld.CDC_RET_CTRL_EMITTING : Field := ⟨14, 1⟩
def Fld.CMP_COMMIT_STAT_CODE : Field := ⟨0, 4⟩
def Fld.CMP_COMMIT_STAT_BUSY : Field := ⟨4, 1⟩
def Fld.CMP_COMMIT_STAT_DONE : Field := ⟨5, 1⟩
def Fld.CMP_COMMIT_STAT_PASS : Field := ⟨6, 1⟩
def Fld.CMP_COMMIT_STAT_SUPERSEDED : Field := ⟨7, 1⟩
def Fld.CHN_PORT_CTRL_RETRAIN : Field := ⟨0, 1⟩
def Fld.CHN_PORT_CTRL_FORCE_HUNT : Field := ⟨1, 1⟩
def Fld.CHN_PORT_STAT_STATE : Field := ⟨0, 4⟩
def Fld.CHN_PORT_STAT_TX_HOLDOVER : Field := ⟨4, 1⟩
def Fld.CHN_PORT_STAT_MODE : Field := ⟨5, 1⟩
def Fld.CHN_PORT_STAT_SLIP_MISS : Field := ⟨6, 1⟩
def Fld.CHN_PORT_STAT_PEER_RX_UP : Field := ⟨7, 1⟩
def Fld.CHN_PORT_STAT_DIR : Field := ⟨8, 1⟩
def Fld.CHN_PORT_STAT_MISCABLED : Field := ⟨9, 1⟩
def Fld.CHN_PORT_STAT_ABSENT : Field := ⟨10, 1⟩
def Fld.CHN_PORT_STAT_UPSTREAM_LOST : Field := ⟨11, 1⟩
def Fld.CHN_PORT_STAT_RATE : Field := ⟨12, 3⟩
def Fld.CHN_PORT_STAT_HOP : Field := ⟨16, 7⟩
def Fld.CHN_PORT_STAT_INVERTED : Field := ⟨23, 4⟩
def Fld.CHN_PORT_STAT_REVERSED : Field := ⟨27, 1⟩
def Fld.CHN_PORT_STAT_CLK_INVERTED : Field := ⟨28, 1⟩
def Fld.CCX_REFRESH_STAT_TA : Field := ⟨0, 8⟩
def Fld.CCX_REFRESH_STAT_CHAIN : Field := ⟨8, 2⟩
def Fld.CCX_REFRESH_STAT_SLOTS_LEFT : Field := ⟨10, 2⟩
def Fld.CCX_REFRESH_STAT_PENDING : Field := ⟨16, 9⟩
def Fld.CCX_POOL_STATE : Field := ⟨0, 2⟩
def Fld.CCX_POOL_UNRESOLVED : Field := ⟨2, 1⟩
def Fld.CCX_POOL_SEQ : Field := ⟨8, 8⟩
def Fld.CCX_POOL_WFN : Field := ⟨16, 16⟩
def Fld.TIM_STATE_STATE : Field := ⟨0, 3⟩
def Fld.TIM_STATE_SOURCE : Field := ⟨3, 2⟩
def Fld.TIM_STATE_TIME_VALID : Field := ⟨5, 1⟩
def Fld.TIM_STATE_LARGE_OFFSET : Field := ⟨6, 1⟩
def Fld.TIM_STATE_FREQ_RANGE : Field := ⟨7, 1⟩
def Fld.TIM_STATE_EPOCH : Field := ⟨8, 8⟩
def Fld.TIM_STATE_STEP_DONE : Field := ⟨16, 1⟩
def Fld.TIM_STATE_STEP_REJ : Field := ⟨17, 1⟩
def Fld.TIM_STATE_LOCK_LOST : Field := ⟨18, 1⟩
def Fld.TIM_CTRL_STEP : Field := ⟨0, 1⟩
def Fld.TIM_CTRL_STEP_MODE : Field := ⟨1, 1⟩
def Fld.TIM_CTRL_AUTO_STEP : Field := ⟨2, 1⟩
def Fld.TIM_CTRL_LOCK_NS : Field := ⟨4, 8⟩
def Fld.TIM_CTRL_HOLDOVER_S : Field := ⟨12, 17⟩
def Fld.TIM_PTP_CFG_DOMAIN : Field := ⟨0, 8⟩
def Fld.TIM_PTP_CFG_UNICAST_DREQ : Field := ⟨8, 1⟩
def Fld.TIM_PTP_CFG_ANN_TIMEOUT : Field := ⟨9, 3⟩
def Fld.TIM_PTP_CFG_PORT_EN : Field := ⟨16, 16⟩
def Fld.TIM_OUT_CTRL_ENABLE : Field := ⟨0, 1⟩
def Fld.TIM_OUT_CTRL_MODE : Field := ⟨1, 2⟩
def Fld.TIM_OUT_CTRL_POLARITY : Field := ⟨3, 1⟩
def Fld.TIM_OUT_CTRL_REQUIRE_VALID : Field := ⟨4, 1⟩
def Fld.TIM_OUT_CTRL_ERR : Field := ⟨5, 1⟩
def Fld.TIM_OUT_CTRL_MISSED : Field := ⟨6, 1⟩
def Fld.TIM_OUT_CTRL_ACTIVE : Field := ⟨7, 1⟩
def Fld.TIM_OUT_CTRL_WIDTH_X16 : Field := ⟨8, 1⟩
def Fld.FLK_STATE_STATE : Field := ⟨0, 3⟩
def Fld.FLK_STATE_ALIGNED : Field := ⟨3, 1⟩
def Fld.FLK_STATE_FREE_RUN : Field := ⟨4, 1⟩
def Fld.FLK_STATE_TIMELINE_CHG : Field := ⟨5, 1⟩
def Fld.FLK_STATE_N_IMAGE : Field := ⟨8, 3⟩
def Fld.FLK_STATE_N_SHADOW : Field := ⟨11, 3⟩
def Fld.FLK_CTRL_START_FREE : Field := ⟨0, 1⟩
def Fld.EMC_STATE_CAL_VALID : Field := ⟨0, 1⟩
def Fld.EMC_STATE_NO_CAL : Field := ⟨1, 1⟩
def Fld.EMC_STATE_SET_MISMATCH : Field := ⟨2, 1⟩
def Fld.EMC_STATE_RAMPING : Field := ⟨3, 1⟩
def Fld.EMC_STATE_NO_TEMP : Field := ⟨4, 1⟩
def Fld.EMC_STATE_BANK : Field := ⟨5, 1⟩
def Fld.EMC_STATE_SWAP_PENDING : Field := ⟨6, 1⟩
def Fld.EMC_STATE_DEFERRED : Field := ⟨7, 1⟩
def Fld.EMC_CTRL_DITHER_EN : Field := ⟨0, 1⟩
def Fld.EMC_CTRL_CURVE_MODE : Field := ⟨1, 2⟩
def Fld.EMC_CTRL_SWAP : Field := ⟨3, 1⟩
def Fld.EMC_CTRL_RAMP_FRAMES : Field := ⟨8, 8⟩
def Fld.EMC_FADE_CTRL_FADE_TARGET : Field := ⟨0, 13⟩
def Fld.EMC_FADE_CTRL_FADE_STEP : Field := ⟨16, 13⟩
def Fld.EMC_FADE_CTRL_ARM : Field := ⟨29, 1⟩
def Fld.LMP_STATE_STATE : Field := ⟨0, 3⟩
def Fld.LMP_STATE_PWR_EN : Field := ⟨3, 1⟩
def Fld.LMP_STATE_PG : Field := ⟨4, 1⟩
def Fld.LMP_STATE_DARK : Field := ⟨5, 1⟩
def Fld.LMP_STATE_BLANKED : Field := ⟨6, 1⟩
def Fld.LMP_STATE_MAP_BAD : Field := ⟨7, 1⟩
def Fld.LMP_STATE_MAP_CAUSE : Field := ⟨8, 4⟩
def Fld.LMP_CTRL_LAMP_ON : Field := ⟨0, 1⟩
def Fld.LMP_CTRL_FORCE_BLANK : Field := ⟨1, 1⟩
def Fld.LMP_CTRL_FAULT_CLR : Field := ⟨2, 1⟩
def Fld.LMP_CTRL_PG_TIMEOUT : Field := ⟨8, 8⟩
def Fld.LMP_MAP_LANES : Field := ⟨0, 8⟩
def Fld.LMP_MAP_DRV_M1 : Field := ⟨8, 4⟩
def Fld.LMP_MAP_CH_M1 : Field := ⟨12, 6⟩
def Fld.LMP_MAP_GRATE : Field := ⟨18, 2⟩
def Fld.LMP_MAP_ROW_POL : Field := ⟨20, 1⟩
def Fld.CAL_STATE_BUSY : Field := ⟨0, 1⟩
def Fld.CAL_STATE_OBJECT : Field := ⟨1, 2⟩
def Fld.CAL_STATE_RESULT : Field := ⟨3, 4⟩
def Fld.CAL_STATE_DONE : Field := ⟨7, 1⟩
def Fld.CAL_STATE_CAB_PENDING : Field := ⟨8, 1⟩
def Fld.CAL_STATE_TRIM_NO_TEMP : Field := ⟨9, 1⟩
def Fld.CAL_STATE_TRIM_FROZEN : Field := ⟨10, 1⟩
def Fld.CAL_STATE_LOOP_OFF : Field := ⟨11, 1⟩
def Fld.CAL_CTRL_LOOP_EN : Field := ⟨0, 1⟩
def Fld.CAL_CTRL_TRIM_EN : Field := ⟨1, 1⟩
def Fld.DRC_STAT_SP_ACTIVE : Field := ⟨0, 2⟩
def Fld.DRC_STAT_SP_PENDING : Field := ⟨2, 2⟩
def Fld.DRC_STAT_PENDING : Field := ⟨4, 1⟩
def Fld.DRC_STAT_SWITCHING : Field := ⟨5, 1⟩
def Fld.DRC_STAT_REF_OVER : Field := ⟨6, 1⟩
def Fld.DRC_STAT_REJECT : Field := ⟨7, 1⟩
def Fld.DRC_STAT_SR_MAP : Field := ⟨8, 8⟩
def Fld.DRC_STAT_TRAINED : Field := ⟨16, 8⟩
def Fld.DRC_SP_CTRL_TARGET : Field := ⟨0, 2⟩
def Fld.DRC_SP_CTRL_URGENT : Field := ⟨2, 1⟩
def Fld.DRC_SP_CTRL_GO : Field := ⟨3, 1⟩
def Fld.DRC_CH_STAT_STATE : Field := ⟨0, 3⟩
def Fld.DRC_CH_STAT_RESULT : Field := ⟨8, 8⟩
def Fld.DRC_CH_STAT_DENSITY : Field := ⟨16, 3⟩
def Fld.DRC_CH_STAT_RANKS2 : Field := ⟨19, 1⟩
def Fld.DRC_CH_STAT_SP_TRAINED : Field := ⟨20, 3⟩
def Fld.THM_STATE_T_BLANK : Field := ⟨0, 1⟩
def Fld.THM_STATE_BLANK_ONLY : Field := ⟨1, 1⟩
def Fld.THM_STATE_PAIR : Field := ⟨2, 2⟩
def Fld.THM_STATE_SENSOR_EVT : Field := ⟨4, 1⟩
def Fld.THM_STATE_SUB_BAD : Field := ⟨5, 1⟩
def Fld.THM_STATE_RESTARTED : Field := ⟨6, 1⟩
def Fld.THM_STATE_UMB_LOST : Field := ⟨7, 1⟩
def Fld.THM_STATE_GUARD_FAIL : Field := ⟨8, 4⟩
def Fld.THM_CH_CFG_MODE : Field := ⟨0, 2⟩
def Fld.THM_CH_CFG_ETA : Field := ⟨2, 6⟩
def Fld.THM_CH_CFG_BIAS : Field := ⟨8, 2⟩
def Fld.THM_CH_CFG_TABLE : Field := ⟨10, 1⟩
def Fld.THM_CH_CFG_THR_EN : Field := ⟨11, 1⟩
def Fld.THM_CH_VAL_THETA : Field := ⟨0, 16⟩
def Fld.THM_CH_VAL_FAIL : Field := ⟨16, 1⟩
def Fld.THM_CH_VAL_CAUSE : Field := ⟨17, 2⟩
def Fld.THM_CH_VAL_ACKED : Field := ⟨19, 1⟩
def Fld.THM_CH_VAL_C : Field := ⟨20, 3⟩
def Fld.RED_STATE_LINK : Field := ⟨0, 2⟩
def Fld.RED_STATE_ACTIVE : Field := ⟨2, 1⟩
def Fld.RED_STATE_IN_CONTROL : Field := ⟨3, 1⟩
def Fld.RED_STATE_CURRENT : Field := ⟨4, 1⟩
def Fld.RED_STATE_JOINER : Field := ⟨5, 1⟩
def Fld.RED_STATE_PHASE : Field := ⟨6, 3⟩
def Fld.RED_STATE_HOLDOFF : Field := ⟨9, 1⟩
def Fld.RED_STATE_RELINQUISHED : Field := ⟨10, 1⟩
def Fld.RED_STATE_PAIR_CONFLICT : Field := ⟨11, 1⟩
def Fld.RED_STATE_COLD : Field := ⟨12, 1⟩
def Fld.RED_STATE_JOIN_FAIL : Field := ⟨13, 4⟩
def Fld.RED_STATE_PAIR_EVT : Field := ⟨17, 1⟩
def Fld.RED_HEALTH_RING_UP : Field := ⟨0, 4⟩
def Fld.RED_HEALTH_RING_OK : Field := ⟨4, 4⟩
def Fld.RED_HEALTH_LATENT : Field := ⟨8, 1⟩
def Fld.RED_HEALTH_OTHER_ACTIVE : Field := ⟨9, 1⟩
def Fld.RED_HEALTH_SILENT : Field := ⟨10, 8⟩
def Fld.RED_HEALTH_ONE_PORT : Field := ⟨18, 8⟩
def Fld.RED_TILE_SEL : Field := ⟨0, 2⟩
def Fld.RED_TILE_WEST_ELIG : Field := ⟨2, 1⟩
def Fld.RED_TILE_EAST_ELIG : Field := ⟨3, 1⟩
def Fld.RED_TILE_DIVERGING : Field := ⟨4, 1⟩
def Fld.RED_CFG_VERIFY_PICS : Field := ⟨0, 8⟩
def Fld.RED_CFG_JOIN_TIMEOUT : Field := ⟨8, 8⟩
def Fld.RED_CFG_HEALTH_S : Field := ⟨16, 4⟩
def Fld.UMB_STATE_PSTATE : Field := ⟨0, 3⟩
def Fld.UMB_STATE_TCXO_OK : Field := ⟨3, 1⟩
def Fld.UMB_STATE_PF_WARN : Field := ⟨4, 1⟩
def Fld.UMB_STATE_PF_EVT : Field := ⟨5, 1⟩
def Fld.UMB_STATE_PWR_FAULT : Field := ⟨6, 1⟩
def Fld.UMB_STATE_LOCKOUT : Field := ⟨7, 1⟩
def Fld.UMB_CTRL_AUTO_RESTART : Field := ⟨0, 1⟩
def Fld.UMB_CTRL_WAKE : Field := ⟨1, 1⟩
def Fld.UMB_CTRL_ALARM_EN : Field := ⟨2, 1⟩
def Fld.UMB_CTRL_BOOT_GO : Field := ⟨3, 1⟩
def Fld.TRU_LIFE_STATE : Field := ⟨0, 3⟩
def Fld.TRU_LIFE_ROOT0_RETIRED : Field := ⟨3, 1⟩
def Fld.TRU_LIFE_REVOKED : Field := ⟨4, 7⟩
def Fld.TRU_LIFE_KEYS : Field := ⟨11, 8⟩
def Fld.TRU_BOOT_FW_SLOT : Field := ⟨0, 1⟩
def Fld.TRU_BOOT_SI_SLOT : Field := ⟨1, 1⟩
def Fld.TRU_BOOT_TRIAL : Field := ⟨2, 2⟩
def Fld.TRU_BOOT_TRIAL_FAILED : Field := ⟨4, 1⟩
def Fld.TRU_BOOT_RECOVERY : Field := ⟨5, 1⟩
def Fld.TRU_BOOT_ACT : Field := ⟨6, 2⟩
def Fld.TRU_STAGE_OPEN : Field := ⟨0, 2⟩
def Fld.TRU_STAGE_VERIFIED : Field := ⟨2, 2⟩
def Fld.TRU_STAGE_RESULT : Field := ⟨4, 4⟩
def Fld.TRU_STAGE_DONE : Field := ⟨8, 1⟩
def Fld.TRU_STAGE_PATH : Field := ⟨9, 2⟩
def Fld.MET_STATE_SEALED : Field := ⟨0, 1⟩
def Fld.MET_STATE_MODE_ON : Field := ⟨1, 1⟩
def Fld.MET_STATE_FW_BAD : Field := ⟨2, 1⟩
def Fld.MET_STATE_SENSE_FAULT : Field := ⟨3, 1⟩
def Fld.MET_STATE_LIGHT_GAP : Field := ⟨4, 1⟩
def Fld.MET_STATE_TIME_VALID : Field := ⟨5, 1⟩
def Fld.MET_STATE_UPDATING : Field := ⟨6, 1⟩
def Fld.MET_STATE_FLOOR_FULL : Field := ⟨7, 1⟩
def Fld.CMD_RING_CFG_SQ_LOG2 : Field := ⟨0, 4⟩
def Fld.CMD_RING_CFG_CQ_LOG2 : Field := ⟨8, 4⟩
def Fld.CMD_RING_CFG_RING_EN : Field := ⟨16, 1⟩
def Fld.CMD_RING_CFG_ERR : Field := ⟨17, 1⟩
def Fld.DBG_STATE_LIFE : Field := ⟨0, 3⟩
def Fld.DBG_STATE_JTAG_EXT : Field := ⟨3, 1⟩
def Fld.DBG_STATE_JTAG_PRIV : Field := ⟨4, 1⟩
def Fld.DBG_STATE_BIST_RUN : Field := ⟨5, 1⟩
def Fld.DBG_STATE_DENIED : Field := ⟨6, 1⟩
def Fld.DBG_TMUX_SEL_SIGNAL : Field := ⟨0, 8⟩
def Fld.DBG_TMUX_SEL_INDEX : Field := ⟨8, 8⟩
def Fld.DBG_TMUX_SEL_INVERT : Field := ⟨16, 1⟩
def Fld.DBG_BIST_STAT_SCOPE : Field := ⟨0, 2⟩
def Fld.DBG_BIST_STAT_RUN : Field := ⟨2, 1⟩
def Fld.DBG_BIST_STAT_PASS : Field := ⟨3, 1⟩
def Fld.DBG_BIST_STAT_ABORTED : Field := ⟨4, 1⟩
def Fld.DBG_BIST_STAT_DETAIL : Field := ⟨8, 8⟩

/-- The rows of block GEN (R45). -/
def regRowsGen : List RegRow :=
  [ ⟨0x200, 0, 1, 0x0, 0x0, 0, 0x0⟩,
    ⟨0x204, 0, 1, 0x0, 0x0, 0, 0x0⟩,
    ⟨0x208, 0, 1, 0x0, 0x0, 0, 0x0⟩,
    ⟨0x210, 0, 1, 0x0, 0x20000, 0, 0x0⟩,
    ⟨0x214, 0, 1, 0x0, 0x0, 0, 0x0⟩,
    ⟨0x218, 0, 1, 0x0, 0x0, 0, 0x0⟩,
    ⟨0x21C, 0, 1, 0x0, 0x0, 0, 0x0⟩,
    ⟨0x400, 4, 41, 0x0, 0x20000, 0, 0x0⟩ ]

/-- The rows of block CMD (R363). -/
def regRowsCmd : List RegRow :=
  [ ⟨0x10000, 0, 1, 0xFFFFFFC0, 0x0, 0, 0x0⟩,
    ⟨0x10004, 0, 1, 0xFFFFFFFF, 0x0, 0, 0x0⟩,
    ⟨0x10008, 0, 1, 0xFFFFFFC0, 0x0, 0, 0x0⟩,
    ⟨0x1000C, 0, 1, 0xFFFFFFFF, 0x0, 0, 0x0⟩,
    ⟨0x10010, 0, 1, 0x10F0F, 0x0, 0, 0xD06⟩,
    ⟨0x10014, 0, 1, 0xFFFF, 0x0, 0, 0x0⟩,
    ⟨0x10018, 0, 1, 0x0, 0x0, 0, 0x0⟩,
    ⟨0x1001C, 0, 1, 0x0, 0x0, 0, 0x0⟩,
    ⟨0x10020, 0, 1, 0x1FFFF, 0x0, 0, 0x0⟩,
    ⟨0x10024, 0, 1, 0x0, 0x0, 0, 0x0⟩,
    ⟨0x10028, 0, 1, 0x0, 0xFF, 0, 0x0⟩,
    ⟨0x1002C, 0, 1, 0xFF, 0x0, 0, 0x0⟩,
    ⟨0x10030, 4, 4, 0x0, 0x0, 0, 0x0⟩,
    ⟨0x10040, 0, 1, 0x0, 0x0, 0, 0x0⟩,
    ⟨0x10044, 0, 1, 0x0, 0x0, 0, 0x0⟩,
    ⟨0x10048, 0, 1, 0x0, 0x0, 0, 0x0⟩,
    ⟨0x10100, 0, 1, 0x0, 0x0, 0, 0x0⟩ ]

/-- The rows of block SCH (R63). -/
def regRowsSch : List RegRow :=
  [ ⟨0x20000, 0, 1, 0x0, 0x0, 0, 0x0⟩,
    ⟨0x20010, 0, 1, 0x0, 0x0, 0, 0x0⟩,
    ⟨0x20014, 0, 1, 0x0, 0x0, 0, 0x0⟩,
    ⟨0x20018, 0, 1, 0x0, 0x0, 0, 0x0⟩,
    ⟨0x2001C, 0, 1, 0x0, 0x0, 0, 0x0⟩,
    ⟨0x20020, 0, 1, 0x0, 0x0, 0, 0x0⟩,
    ⟨0x20024, 0, 1, 0x0, 0x0, 0, 0x0⟩,
    ⟨0x20028, 0, 1, 0x0, 0x0, 0, 0x0⟩,
    ⟨0x2002C, 0, 1, 0x0, 0x0, 0, 0x0⟩,
    ⟨0x20030, 0, 1, 0x0, 0x0, 0, 0x0⟩,
    ⟨0x20040, 0, 1, 0x0, 0x0, 0, 0x0⟩,
    ⟨0x20044, 0, 1, 0x0, 0x0, 0, 0x0⟩,
    ⟨0x20100, 0, 1, 0xFFFFF03, 0x0, 0, 0x800FF00⟩,
    ⟨0x20104, 0, 1, 0x0, 0x0, 0, 0x0⟩,
    ⟨0x20110, 4, 4, 0xFFFFFFFF, 0x0, 0, 0xFFFFFFFF⟩,
    ⟨0x20200, 4, 32, 0x0, 0x0, 0, 0x0⟩,
    ⟨0x20400, 4, 128, 0x0, 0x0, 0, 0x0⟩,
    ⟨0x20600, 4, 128, 0x0, 0x0, 0, 0x0⟩,
    ⟨0x20800, 0, 1, 0x7F, 0x0, 0, 0x0⟩,
    ⟨0x20810, 4, 8, 0x0, 0x0, 0, 0x0⟩,
    ⟨0x20900, 0, 1, 0x7FFF, 0x0, 0, 0x0⟩,
    ⟨0x20904, 0, 1, 0x0, 0x0, 0, 0x0⟩,
    ⟨0x20908, 0, 1, 0x0, 0x0, 0, 0x0⟩ ]

/-- The rows of block DRC (R263). -/
def regRowsDrc : List RegRow :=
  [ ⟨0x30000, 0, 1, 0x0, 0x80, 0, 0x0⟩,
    ⟨0x30004, 0, 1, 0x7, 0x0, 0, 0x0⟩,
    ⟨0x30008, 0, 1, 0xFFFF, 0x0, 0, 0x0⟩,
    ⟨0x30010, 0, 1, 0x0, 0x0, 0, 0x0⟩,
    ⟨0x30014, 0, 1, 0x0, 0x0, 0, 0x0⟩,
    ⟨0x30018, 0, 1, 0x0, 0x0, 0, 0x0⟩,
    ⟨0x3001C, 0, 1, 0x0, 0x0, 0, 0x0⟩,
    ⟨0x30020, 0, 1, 0x0, 0x0, 0, 0x0⟩,
    ⟨0x30024, 0, 1, 0x0, 0x0, 0, 0x0⟩,
    ⟨0x30028, 0, 1, 0x0, 0x0, 0, 0x0⟩,
    ⟨0x3002C, 0, 1, 0x0, 0x0, 0, 0x0⟩,
    ⟨0x30030, 0, 1, 0x0, 0x0, 0, 0x0⟩,
    ⟨0x30040, 4, 8, 0x0, 0x0, 0, 0x0⟩,
    ⟨0x30080, 0, 1, 0x3F, 0x0, 0, 0x0⟩,
    ⟨0x30084, 0, 1, 0x0, 0x0, 0, 0x0⟩,
    ⟨0x30088, 0, 1, 0x0, 0x0, 0, 0x0⟩,
    ⟨0x3008C, 0, 1, 0x0, 0x0, 0, 0x0⟩ ]

/-- The rows of block ING (R70). -/
def regRowsIng : List RegRow :=
  [ ⟨0x40000, 4, 4, 0xF1F, 0x0, 0, 0x8⟩,
    ⟨0x40010, 4, 4, 0x0, 0x0, 0, 0x0⟩,
    ⟨0x40040, 0, 1, 0x0, 0x0, 0, 0x0⟩,
    ⟨0x40044, 0, 1, 0x0, 0x0, 0, 0x0⟩,
    ⟨0x40048, 0, 1, 0x0, 0x0, 0, 0x0⟩,
    ⟨0x4004C, 0, 1, 0x0, 0x0, 0, 0x0⟩,
    ⟨0x40080, 0, 1, 0x7FFFF, 0x0, 0, 0x4BB58⟩,
    ⟨0x40084, 0, 1, 0xFFFFFFFF, 0x0, 0, 0x0⟩,
    ⟨0x40088, 0, 1, 0x0, 0x0, 0, 0x0⟩,
    ⟨0x40100, 64, 16, 0xFFFFFFF, 0x0, 0, 0x0⟩,
    ⟨0x40104, 64, 16, 0xFFFFFFFF, 0x0, 0, 0x0⟩,
    ⟨0x40108, 64, 16, 0xFFFFFFFF, 0x0, 0, 0x0⟩,
    ⟨0x4010C, 64, 16, 0xFFFFFF, 0x0, 0, 0x0⟩,
    ⟨0x40110, 64, 16, 0xFFFFFFFF, 0x0, 0, 0x0⟩,
    ⟨0x40114, 64, 16, 0xFFFFFFFF, 0x0, 0, 0x0⟩,
    ⟨0x40118, 64, 16, 0xFFFFFFFF, 0x0, 0, 0x0⟩,
    ⟨0x4011C, 64, 16, 0xFFFFFFFF, 0x0, 0, 0x0⟩,
    ⟨0x40120, 64, 16, 0x0, 0x0, 0, 0x0⟩,
    ⟨0x40124, 64, 16, 0x0, 0x0, 0, 0x0⟩,
    ⟨0x40128, 64, 16, 0x0, 0x0, 0, 0x0⟩,
    ⟨0x4012C, 64, 16, 0x0, 0x0, 0, 0x0⟩,
    ⟨0x40800, 4, 8, 0x0, 0x0, 0, 0x0⟩,
    ⟨0x40840, 0, 1, 0x0, 0x0, 0, 0x0⟩,
    ⟨0x40C00, 4, 64, 0x3FFFF, 0x0, 0, 0x0⟩,
    ⟨0x40D00, 0, 1, 0x0, 0x0, 0, 0x0⟩,
    ⟨0x40D04, 0, 1, 0x0, 0x0, 0, 0x0⟩ ]

/-- The rows of block CDC (R99). -/
def regRowsCdc : List RegRow :=
  [ ⟨0x50000, 0, 1, 0x0, 0x0, 0, 0x0⟩,
    ⟨0x50004, 0, 1, 0x0, 0x0, 0, 0x0⟩,
    ⟨0x50008, 0, 1, 0x0, 0x1FFFF, 0, 0x0⟩,
    ⟨0x50010, 0, 1, 0x0, 0x0, 0, 0x0⟩,
    ⟨0x50100, 64, 16, 0x3FFFFFF, 0x0, 0, 0x27841E3⟩,
    ⟨0x50104, 64, 16, 0xFFFFFFFF, 0x0, 0, 0x0⟩,
    ⟨0x50108, 64, 16, 0xFFFF, 0x0, 0, 0x0⟩,
    ⟨0x5010C, 64, 16, 0x0, 0x0, 0, 0x0⟩,
    ⟨0x50110, 64, 16, 0x0, 0x0, 0, 0x0⟩,
    ⟨0x50114, 64, 16, 0x0, 0x0, 0, 0x0⟩,
    ⟨0x50118, 64, 16, 0x0, 0x0, 0, 0x0⟩,
    ⟨0x5011C, 64, 16, 0x0, 0x0, 0, 0x0⟩,
    ⟨0x50120, 64, 16, 0x0, 0x0, 0, 0x0⟩,
    ⟨0x50124, 64, 16, 0x0, 0x0, 0, 0x0⟩,
    ⟨0x50128, 64, 16, 0x0, 0x0, 0, 0x0⟩,
    ⟨0x50800, 0, 1, 0x1FFD, 0x0, 0, 0x1004⟩,
    ⟨0x50804, 0, 1, 0xFFFFFFF, 0x0, 0, 0x140C350⟩,
    ⟨0x50808, 0, 1, 0xF3F3F3F, 0x0, 0, 0x61E330A⟩,
    ⟨0x5080C, 0, 1, 0xFFFF, 0x0, 0, 0x0⟩,
    ⟨0x50810, 0, 1, 0xFFFFF000, 0x0, 0, 0x0⟩,
    ⟨0x50814, 0, 1, 0xFFFFFFFF, 0x0, 0, 0x0⟩,
    ⟨0x50818, 0, 1, 0x1F, 0x0, 0, 0x14⟩,
    ⟨0x5081C, 0, 1, 0x0, 0x0, 0, 0x0⟩,
    ⟨0x50820, 0, 1, 0xFFFFFFFF, 0x0, 0, 0x0⟩,
    ⟨0x50824, 0, 1, 0x0, 0x0, 0, 0x0⟩,
    ⟨0x50828, 0, 1, 0x0, 0x0, 0, 0x0⟩,
    ⟨0x5082C, 0, 1, 0x0, 0x0, 0, 0x0⟩ ]

/-- The rows of block CMP (R122). -/
def regRowsCmp : List RegRow :=
  [ ⟨0x60000, 0, 1, 0x0, 0x0, 0, 0x0⟩,
    ⟨0x60004, 0, 1, 0x0, 0x20, 0, 0x0⟩,
    ⟨0x60008, 0, 1, 0x0, 0x0, 0, 0x0⟩,
    ⟨0x6000C, 0, 1, 0x0, 0x0, 0, 0x0⟩,
    ⟨0x60010, 0, 1, 0x0, 0x0, 0, 0x0⟩,
    ⟨0x60014, 0, 1, 0x0, 0x0, 0, 0x0⟩,
    ⟨0x60018, 0, 1, 0xFFFF, 0x0, 0, 0x0⟩,
    ⟨0x60020, 0, 1, 0x0, 0x0, 0, 0x0⟩,
    ⟨0x60024, 0, 1, 0x0, 0x0, 0, 0x0⟩,
    ⟨0x60028, 0, 1, 0x0, 0x0, 0, 0x0⟩,
    ⟨0x6002C, 0, 1, 0x0, 0x0, 0, 0x0⟩,
    ⟨0x60030, 0, 1, 0x0, 0x0, 0, 0x0⟩,
    ⟨0x60034, 0, 1, 0x0, 0xFFFF, 0, 0x0⟩,
    ⟨0x60040, 0, 1, 0xFFFF, 0x0, 0, 0x0⟩,
    ⟨0x60044, 0, 1, 0x0, 0x0, 0, 0x0⟩,
    ⟨0x60048, 0, 1, 0x0, 0x0, 0, 0x0⟩,
    ⟨0x6004C, 0, 1, 0x0, 0x0, 0, 0x0⟩,
    ⟨0x60050, 0, 1, 0x0, 0x0, 0, 0x0⟩,
    ⟨0x60054, 0, 1, 0x0, 0x0, 0, 0x0⟩,
    ⟨0x60058, 0, 1, 0x0, 0x0, 0, 0x0⟩,
    ⟨0x6005C, 0, 1, 0x0, 0x0, 0, 0x0⟩,
    ⟨0x60100, 4, 256, 0xFFFF, 0x0, 0, 0x0⟩,
    ⟨0x60800, 8, 16, 0xFFFFFFFF, 0x0, 0, 0x0⟩,
    ⟨0x60804, 8, 16, 0x0, 0x0, 0, 0x0⟩ ]

/-- The rows of block CHN (R146). -/
def regRowsChn : List RegRow :=
  [ ⟨0x70000, 256, 4, 0x2, 0x0, 0, 0x0⟩,
    ⟨0x70004, 256, 4, 0x0, 0x0, 0, 0x7F0000⟩,
    ⟨0x70008, 256, 4, 0x7F7F7F7F, 0x0, 0, 0x0⟩,
    ⟨0x70010, 4, 4, 0x0, 0x0, 0, 0x0⟩,
    ⟨0x70110, 4, 4, 0x0, 0x0, 0, 0x0⟩,
    ⟨0x70210, 4, 4, 0x0, 0x0, 0, 0x0⟩,
    ⟨0x70310, 4, 4, 0x0, 0x0, 0, 0x0⟩,
    ⟨0x70020, 256, 4, 0x0, 0x0, 0, 0x0⟩,
    ⟨0x70024, 256, 4, 0x0, 0x0, 0, 0x0⟩,
    ⟨0x70040, 256, 4, 0x0, 0x0, 0, 0x0⟩,
    ⟨0x70044, 256, 4, 0x0, 0x0, 0, 0x0⟩,
    ⟨0x70048, 256, 4, 0x0, 0x0, 0, 0x0⟩,
    ⟨0x7004C, 256, 4, 0x0, 0x0, 0, 0x0⟩,
    ⟨0x70050, 256, 4, 0x0, 0x0, 0, 0x0⟩,
    ⟨0x70054, 256, 4, 0x0, 0x0, 0, 0x0⟩,
    ⟨0x70058, 256, 4, 0x0, 0x0, 0, 0x0⟩,
    ⟨0x7005C, 256, 4, 0x0, 0x0, 0, 0x0⟩,
    ⟨0x70060, 256, 4, 0x0, 0x0, 0, 0x0⟩,
    ⟨0x70800, 0, 1, 0x0, 0x0, 0, 0x0⟩,
    ⟨0x70804, 0, 1, 0x0, 0x0, 0, 0x0⟩,
    ⟨0x70808, 0, 1, 0x0, 0x0, 0, 0x7F7FFF⟩,
    ⟨0x7080C, 0, 1, 0x0, 0x0, 0, 0x0⟩,
    ⟨0x70810, 4, 4, 0x0, 0x0, 0, 0x0⟩,
    ⟨0x70820, 0, 1, 0x0, 0x0, 0, 0x0⟩ ]

/-- The rows of block CCX (R166). -/
def regRowsCcx : List RegRow :=
  [ ⟨0x80000, 0, 1, 0x0, 0x0, 0, 0x0⟩,
    ⟨0x80004, 0, 1, 0x0, 0x0, 0, 0x0⟩,
    ⟨0x80008, 0, 1, 0x0, 0x0, 0, 0x0⟩,
    ⟨0x8000C, 0, 1, 0x0, 0x0, 0, 0x0⟩,
    ⟨0x80010, 0, 1, 0x0, 0x0, 0, 0x0⟩,
    ⟨0x80014, 0, 1, 0x0, 0x0, 0, 0x0⟩,
    ⟨0x80018, 0, 1, 0x0, 0x0, 0, 0x0⟩,
    ⟨0x8001C, 0, 1, 0x0, 0x0, 0, 0x0⟩,
    ⟨0x80020, 0, 1, 0x0, 0x0, 0, 0x0⟩,
    ⟨0x80030, 0, 1, 0x0, 0x0, 0, 0x0⟩,
    ⟨0x80040, 0, 1, 0x0, 0x0, 0, 0xFF⟩,
    ⟨0x80080, 4, 16, 0x0, 0x0, 0, 0x0⟩,
    ⟨0x80400, 4, 256, 0x0, 0x0, 0, 0x0⟩,
    ⟨0x80800, 4, 256, 0x0, 0x0, 0, 0x0⟩ ]

/-- The rows of block TIM (R182). -/
def regRowsTim : List RegRow :=
  [ ⟨0x90000, 0, 1, 0x0, 0x0, 0, 0x0⟩,
    ⟨0x90004, 0, 1, 0x0, 0x0, 0, 0x0⟩,
    ⟨0x90008, 0, 1, 0x0, 0x0, 0, 0x0⟩,
    ⟨0x9000C, 0, 1, 0x0, 0x0, 0, 0x0⟩,
    ⟨0x90010, 0, 1, 0x0, 0x70000, 0, 0x0⟩,
    ⟨0x90014, 0, 1, 0x0, 0x0, 0, 0x0⟩,
    ⟨0x90018, 0, 1, 0x0, 0x0, 0, 0x0⟩,
    ⟨0x9001C, 0, 1, 0x1FFFFFF6, 0x0, 0, 0x3C144⟩,
    ⟨0x90020, 0, 1, 0xFFFFFFFF, 0x0, 0, 0x0⟩,
    ⟨0x90024, 0, 1, 0xFFFF, 0x0, 0, 0x0⟩,
    ⟨0x90028, 0, 1, 0x3FFFFFFF, 0x0, 0, 0x0⟩,
    ⟨0x90040, 0, 1, 0xFFFF0FFF, 0x0, 0, 0x67F⟩,
    ⟨0x90044, 0, 1, 0x0, 0x0, 0, 0x0⟩,
    ⟨0x90048, 0, 1, 0x0, 0x0, 0, 0x0⟩,
    ⟨0x9004C, 0, 1, 0x0, 0x0, 0, 0x0⟩,
    ⟨0x90050, 0, 1, 0x0, 0x0, 0, 0x0⟩,
    ⟨0x90054, 0, 1, 0x0, 0x0, 0, 0x0⟩,
    ⟨0x90058, 0, 1, 0x0, 0x0, 0, 0x0⟩,
    ⟨0x90080, 4, 16, 0xFFFFFF, 0x0, 0, 0x0⟩,
    ⟨0x900C0, 4, 4, 0xFFFFFF, 0x0, 0, 0x0⟩,
    ⟨0x900E0, 0, 1, 0x0, 0x0, 0, 0x80000000⟩,
    ⟨0x90100, 32, 8, 0x11F, 0x40, 0, 0x10⟩,
    ⟨0x90104, 32, 8, 0xFFFFFFFF, 0x0, 0, 0x0⟩,
    ⟨0x90108, 32, 8, 0xFFFF, 0x0, 0, 0x0⟩,
    ⟨0x9010C, 32, 8, 0x3FFFFFFF, 0x0, 0, 0x0⟩,
    ⟨0x90110, 32, 8, 0x3FFFFFFF, 0x0, 0, 0x0⟩,
    ⟨0x90114, 32, 8, 0xFFFF, 0x0, 0, 0x0⟩,
    ⟨0x90118, 32, 8, 0xFFFFFFFF, 0x0, 0, 0x0⟩,
    ⟨0x9011C, 32, 8, 0xFFFFFF, 0x0, 0, 0x0⟩,
    ⟨0x90200, 32, 8, 0x7, 0x0, 0, 0x0⟩,
    ⟨0x90204, 32, 8, 0x0, 0x0, 0, 0x0⟩,
    ⟨0x90208, 32, 8, 0x0, 0x0, 0, 0x0⟩,
    ⟨0x9020C, 32, 8, 0x0, 0x0, 0, 0x0⟩,
    ⟨0x90210, 32, 8, 0x0, 0x0, 0, 0x0⟩,
    ⟨0x90214, 32, 8, 0x0, 0x0, 0, 0x0⟩,
    ⟨0x90300, 0, 1, 0x0, 0x0, 0, 0x0⟩ ]

/-- The rows of block FLK (R195). -/
def regRowsFlk : List RegRow :=
  [ ⟨0xA0000, 0, 1, 0x0, 0x20, 0, 0x0⟩,
    ⟨0xA0004, 0, 1, 0x1, 0x0, 0, 0x0⟩,
    ⟨0xA0008, 0, 1, 0x0, 0x0, 0, 0x0⟩,
    ⟨0xA000C, 0, 1, 0x0, 0x0, 0, 0x0⟩,
    ⟨0xA0010, 0, 1, 0x0, 0x0, 0, 0x0⟩,
    ⟨0xA0014, 0, 1, 0x0, 0x0, 0, 0x0⟩,
    ⟨0xA0020, 4, 4, 0x0, 0x0, 0, 0xFFFFFFFF⟩,
    ⟨0xA0030, 4, 4, 0x0, 0x0, 0, 0xFFFFFFFF⟩,
    ⟨0xA0040, 4, 4, 0x0, 0x0, 0, 0x0⟩,
    ⟨0xA0050, 4, 4, 0x0, 0x0, 0, 0xFFFFFFFF⟩,
    ⟨0xA0060, 4, 4, 0x0, 0x0, 0, 0x0⟩,
    ⟨0xA0080, 4, 4, 0x0, 0x0, 0, 0x0⟩,
    ⟨0xA0090, 4, 4, 0x0, 0x0, 0, 0x0⟩,
    ⟨0xA00A0, 0, 1, 0x0, 0x0, 0, 0x0⟩ ]

/-- The rows of block EMC (R212). -/
def regRowsEmc : List RegRow :=
  [ ⟨0xB0000, 0, 1, 0x0, 0x84, 0, 0x2⟩,
    ⟨0xB0004, 0, 1, 0xFF07, 0x0, 0, 0x801⟩,
    ⟨0xB0008, 0, 1, 0xFFFFFFFF, 0x0, 0, 0x0⟩,
    ⟨0xB000C, 0, 1, 0x1FFF1FFF, 0x0, 0, 0x0⟩,
    ⟨0xB0010, 0, 1, 0xFFFFFFFF, 0x0, 0, 0x0⟩,
    ⟨0xB0014, 0, 1, 0x0, 0x0, 0, 0x0⟩,
    ⟨0xB0018, 0, 1, 0x0, 0x0, 0, 0x0⟩,
    ⟨0xB001C, 0, 1, 0x0, 0x0, 0, 0x0⟩,
    ⟨0xB0020, 0, 1, 0x0, 0x0, 0, 0x0⟩,
    ⟨0xB0024, 0, 1, 0x0, 0x0, 0, 0x0⟩,
    ⟨0xB0028, 0, 1, 0x0, 0x0, 0, 0x0⟩,
    ⟨0xB002C, 0, 1, 0x0, 0x0, 0, 0x0⟩,
    ⟨0xB0030, 4, 4, 0xFFFF, 0x0, 0, 0x8000⟩,
    ⟨0xB0040, 0, 1, 0x3FF, 0x0, 0, 0x0⟩,
    ⟨0xB0044, 0, 1, 0x0, 0x0, 0, 0x0⟩,
    ⟨0xB0080, 4, 16, 0x0, 0x0, 0, 0x0⟩,
    ⟨0xB4000, 4, 4096, 0xFFFFFF, 0x0, 0, 0x0⟩,
    ⟨0xB8000, 4, 1025, 0xFFFFF, 0x0, 0, 0x0⟩ ]

/-- The rows of block LMP (R233). -/
def regRowsLmp : List RegRow :=
  [ ⟨0xC0000, 0, 1, 0x0, 0x80, 0, 0x40⟩,
    ⟨0xC0004, 0, 1, 0xFF03, 0x0, 0, 0x6400⟩,
    ⟨0xC0008, 0, 1, 0x1FFFFF, 0x0, 1, 0x0⟩,
    ⟨0xC000C, 0, 1, 0xFFFF, 0x0, 0, 0x0⟩,
    ⟨0xC0010, 0, 1, 0x0, 0x0, 0, 0x0⟩,
    ⟨0xC0014, 0, 1, 0x0, 0x0, 0, 0x0⟩,
    ⟨0xC0018, 0, 1, 0x0, 0x3F0000, 0, 0x30⟩,
    ⟨0xC0020, 0, 1, 0x0, 0x0, 0, 0x0⟩,
    ⟨0xC0024, 0, 1, 0x0, 0x0, 0, 0x0⟩,
    ⟨0xC0028, 0, 1, 0x0, 0x0, 0, 0x0⟩,
    ⟨0xC002C, 0, 1, 0x0, 0x0, 0, 0x0⟩,
    ⟨0xC0030, 0, 1, 0x0, 0x0, 0, 0x0⟩,
    ⟨0xC0034, 0, 1, 0x0, 0x0, 0, 0x0⟩,
    ⟨0xC0038, 0, 1, 0x0, 0x0, 0, 0x0⟩,
    ⟨0xC003C, 0, 1, 0x0, 0x0, 0, 0x0⟩,
    ⟨0xC0100, 0, 1, 0x3F3F3F3F, 0x0, 0, 0x3020100⟩,
    ⟨0xC0104, 0, 1, 0x3F3F3F3F, 0x0, 0, 0x7060504⟩,
    ⟨0xC0108, 0, 1, 0x3F3F3F3F, 0x0, 0, 0xB0A0908⟩,
    ⟨0xC010C, 0, 1, 0x3F3F3F3F, 0x0, 0, 0xF0E0D0C⟩,
    ⟨0xC0110, 0, 1, 0x3F3F3F3F, 0x0, 0, 0x13121110⟩,
    ⟨0xC0114, 0, 1, 0x3F3F3F3F, 0x0, 0, 0x17161514⟩,
    ⟨0xC0118, 0, 1, 0x3F3F3F3F, 0x0, 0, 0x1B1A1918⟩,
    ⟨0xC011C, 0, 1, 0x3F3F3F3F, 0x0, 0, 0x1F1E1D1C⟩,
    ⟨0xC0120, 0, 1, 0x3F3F3F3F, 0x0, 0, 0x23222120⟩,
    ⟨0xC0124, 0, 1, 0x3F3F3F3F, 0x0, 0, 0x27262524⟩,
    ⟨0xC0128, 0, 1, 0x3F3F3F3F, 0x0, 0, 0x2B2A2928⟩,
    ⟨0xC012C, 0, 1, 0x3F3F3F3F, 0x0, 0, 0x2F2E2D2C⟩,
    ⟨0xC0130, 0, 1, 0x3F3F3F3F, 0x0, 0, 0x33323130⟩,
    ⟨0xC0134, 0, 1, 0x3F3F3F3F, 0x0, 0, 0x37363534⟩,
    ⟨0xC0138, 0, 1, 0x3F3F3F3F, 0x0, 0, 0x3B3A3938⟩,
    ⟨0xC013C, 0, 1, 0x3F3F3F3F, 0x0, 0, 0x3F3E3D3C⟩ ]

/-- The rows of block CAL (R247). -/
def regRowsCal : List RegRow :=
  [ ⟨0xD0000, 0, 1, 0x0, 0x80, 0, 0x800⟩,
    ⟨0xD0004, 0, 1, 0x3, 0x0, 0, 0x3⟩,
    ⟨0xD0018, 8, 3, 0x0, 0x0, 0, 0x0⟩,
    ⟨0xD001C, 8, 3, 0x0, 0x0, 0, 0x0⟩,
    ⟨0xD0040, 0, 1, 0xFFFFFF3F, 0x0, 0, 0x620100A⟩,
    ⟨0xD0044, 0, 1, 0xFFFFFFFF, 0x0, 0, 0x90007000⟩,
    ⟨0xD0048, 0, 1, 0x7FF, 0x0, 0, 0x10⟩,
    ⟨0xD0050, 4, 4, 0x0, 0x0, 0, 0x0⟩,
    ⟨0xD0060, 0, 1, 0x0, 0x0, 0, 0x0⟩,
    ⟨0xD0064, 0, 1, 0x0, 0x0, 0, 0x0⟩,
    ⟨0xD0068, 0, 1, 0x0, 0x0, 0, 0x0⟩,
    ⟨0xD006C, 0, 1, 0x0, 0x0, 0, 0x0⟩,
    ⟨0xD0070, 0, 1, 0x0, 0x0, 0, 0x0⟩,
    ⟨0xD0074, 0, 1, 0x0, 0x0, 0, 0x0⟩,
    ⟨0xD0078, 0, 1, 0x0, 0x0, 0, 0x0⟩,
    ⟨0xD0080, 0, 1, 0xFFF03, 0x0, 0, 0x0⟩,
    ⟨0xD0084, 0, 1, 0x0, 0x0, 0, 0x0⟩ ]

/-- The rows of block THM (R277). -/
def regRowsThm : List RegRow :=
  [ ⟨0xE0000, 0, 1, 0x0, 0xF0, 0, 0x0⟩,
    ⟨0xE0004, 0, 1, 0x0, 0x0, 0, 0x0⟩,
    ⟨0xE0008, 0, 1, 0x7FFFFFF, 0x0, 0, 0x40A1020⟩,
    ⟨0xE0010, 0, 1, 0x0, 0x0, 0, 0x0⟩,
    ⟨0xE0020, 0, 1, 0x3FFFF, 0, 0, 0x0⟩,
    ⟨0xE0024, 0, 1, 0x3FFFF, 0, 0, 0x2010⟩,
    ⟨0xE0028, 0, 1, 0x3FFFF, 0, 0, 0x4020⟩,
    ⟨0xE002C, 0, 1, 0x3FFFF, 0, 0, 0x8040⟩,
    ⟨0xE0030, 0, 1, 0x3FFFF, 0, 0, 0xC060⟩,
    ⟨0xE0034, 0, 1, 0x3FFFF, 0, 0, 0x10080⟩,
    ⟨0xE0038, 0, 1, 0x3FFFF, 0, 0, 0x300A0⟩,
    ⟨0xE003C, 0, 1, 0x3FFFF, 0, 0, 0x300C0⟩,
    ⟨0xE0040, 4, 2, 0xFFFFFFFF, 0x0, 1, 0x0⟩,
    ⟨0xE0048, 0, 1, 0xFFFFFF, 0x0, 1, 0x3C0F⟩,
    ⟨0xE004C, 0, 1, 0x0, 0x0, 0, 0x0⟩,
    ⟨0xE0050, 0, 1, 0x0, 0x0, 0, 0x0⟩,
    ⟨0xE0054, 0, 1, 0x0, 0x0, 0, 0x0⟩,
    ⟨0xE0058, 0, 1, 0x0, 0x0, 0, 0x0⟩,
    ⟨0xE0100, 16, 14, 0xFFF, 0x0, 0, 0x120⟩,
    ⟨0xE01E0, 16, 2, 0xFFF, 0x0, 1, 0x121⟩,
    ⟨0xE0104, 16, 16, 0xFFFFFFFF, 0x0, 0, 0x960FD80⟩,
    ⟨0xE0108, 16, 17, 0x0, 0x0, 0, 0x8000⟩,
    ⟨0xE010C, 16, 16, 0xFFF001F, 0x0, 0, 0x1F⟩,
    ⟨0xE0400, 4, 33, 0xFFFF, 0x0, 0, 0x0⟩,
    ⟨0xE0500, 4, 33, 0xFFFF, 0x0, 0, 0x0⟩ ]

/-- The rows of block RED (R297). -/
def regRowsRed : List RegRow :=
  [ ⟨0xF0000, 0, 1, 0x0, 0x20000, 0, 0x0⟩,
    ⟨0xF0004, 0, 1, 0x0, 0x0, 0, 0x0⟩,
    ⟨0xF0008, 0, 1, 0x0, 0x0, 0, 0x0⟩,
    ⟨0xF000C, 0, 1, 0xFFFFF, 0x0, 0, 0x13C08⟩,
    ⟨0xF0010, 0, 1, 0x0, 0x0, 0, 0x0⟩,
    ⟨0xF0014, 0, 1, 0x0, 0x0, 0, 0x0⟩,
    ⟨0xF0018, 0, 1, 0x0, 0x0, 0, 0x0⟩,
    ⟨0xF0020, 0, 1, 0x0, 0x0, 0, 0x0⟩,
    ⟨0xF0024, 0, 1, 0x0, 0x0, 0, 0x0⟩,
    ⟨0xF0028, 0, 1, 0x0, 0x0, 0, 0x0⟩,
    ⟨0xF002C, 0, 1, 0x0, 0x0, 0, 0x0⟩,
    ⟨0xF0030, 0, 1, 0x0, 0x0, 0, 0x0⟩,
    ⟨0xF0034, 0, 1, 0x0, 0x0, 0, 0x0⟩,
    ⟨0xF0038, 0, 1, 0x0, 0x0, 0, 0x0⟩,
    ⟨0xF003C, 0, 1, 0x0, 0x0, 0, 0x0⟩,
    ⟨0xF0040, 0, 1, 0x0, 0x0, 0, 0x0⟩,
    ⟨0xF0044, 0, 1, 0x0, 0x0, 0, 0x0⟩,
    ⟨0xF0080, 0, 1, 0xFF, 0x0, 0, 0x0⟩,
    ⟨0xF0084, 4, 6, 0x0, 0x0, 0, 0x0⟩ ]

/-- The rows of block UMB (R312). -/
def regRowsUmb : List RegRow :=
  [ ⟨0x100000, 0, 1, 0x0, 0x60, 0, 0x5⟩,
    ⟨0x100004, 0, 1, 0x5, 0x0, 0, 0x1⟩,
    ⟨0x100008, 0, 1, 0xFF, 0x0, 0, 0x0⟩,
    ⟨0x10000C, 0, 1, 0x0, 0x7F, 0, 0x0⟩,
    ⟨0x100010, 0, 1, 0x0, 0x0, 0, 0x0⟩,
    ⟨0x100014, 0, 1, 0x0, 0x0, 0, 0x0⟩,
    ⟨0x100018, 0, 1, 0x0, 0x0, 0, 0x0⟩,
    ⟨0x10001C, 0, 1, 0xFFFFFFFF, 0x0, 0, 0x0⟩,
    ⟨0x100020, 0, 1, 0xFFFF, 0x0, 0, 0x0⟩,
    ⟨0x100024, 0, 1, 0x0, 0x7F, 0, 0x0⟩,
    ⟨0x100028, 0, 1, 0x0, 0x0, 0, 0x0⟩,
    ⟨0x10002C, 0, 1, 0x0, 0x0, 0, 0x0⟩,
    ⟨0x100030, 0, 1, 0x0, 0x0, 0, 0x0⟩,
    ⟨0x100034, 0, 1, 0x0, 0x0, 0, 0x0⟩,
    ⟨0x100038, 0, 1, 0x0, 0x0, 0, 0x0⟩ ]

/-- The rows of block TRU (R330). -/
def regRowsTru : List RegRow :=
  [ ⟨0x110000, 0, 1, 0x0, 0x0, 0, 0x0⟩,
    ⟨0x110004, 0, 1, 0x0, 0x0, 0, 0x0⟩,
    ⟨0x110008, 0, 1, 0x0, 0x10, 0, 0x0⟩,
    ⟨0x11000C, 0, 1, 0x0, 0x100, 0, 0x0⟩,
    ⟨0x110010, 0, 1, 0x0, 0x0, 0, 0x0⟩,
    ⟨0x110014, 0, 1, 0x0, 0x0, 0, 0x0⟩,
    ⟨0x110018, 0, 1, 0xFFFFFFFF, 0x0, 0, 0x258⟩,
    ⟨0x110020, 0, 1, 0x0, 0x0, 0, 0x0⟩,
    ⟨0x110024, 0, 1, 0x0, 0x0, 0, 0x0⟩,
    ⟨0x110028, 0, 1, 0x0, 0x0, 0, 0x0⟩,
    ⟨0x110040, 4, 4, 0x0, 0x0, 0, 0x0⟩ ]

/-- The rows of block MET (R344). -/
def regRowsMet : List RegRow :=
  [ ⟨0x120000, 0, 1, 0x0, 0x0, 0, 0x0⟩,
    ⟨0x120004, 0, 1, 0xFFFFF, 0x0, 2, 0xE104⟩,
    ⟨0x120008, 0, 1, 0xFFFF, 0x0, 2, 0x0⟩,
    ⟨0x12000C, 0, 1, 0xFFFFFFFF, 0x0, 2, 0x0⟩,
    ⟨0x120010, 0, 1, 0xFFFFFFFF, 0x0, 2, 0x0⟩,
    ⟨0x120014, 0, 1, 0x0, 0x0, 0, 0x0⟩,
    ⟨0x120018, 0, 1, 0x0, 0x0, 0, 0x0⟩,
    ⟨0x12001C, 0, 1, 0x0, 0x0, 0, 0x0⟩,
    ⟨0x120020, 0, 1, 0x0, 0x0, 0, 0x0⟩,
    ⟨0x120024, 0, 1, 0x0, 0x0, 0, 0x0⟩,
    ⟨0x120028, 0, 1, 0x0, 0x0, 0, 0x0⟩,
    ⟨0x12002C, 0, 1, 0x0, 0x0, 0, 0x0⟩,
    ⟨0x120030, 0, 1, 0x0, 0x0, 0, 0x0⟩,
    ⟨0x120034, 0, 1, 0x0, 0x0, 0, 0x0⟩,
    ⟨0x120040, 4, 4, 0x0, 0x0, 0, 0x0⟩,
    ⟨0x120050, 4, 4, 0x0, 0x0, 0, 0x0⟩,
    ⟨0x120060, 0, 1, 0x0, 0x0, 0, 0x0⟩,
    ⟨0x120064, 0, 1, 0x0, 0x0, 0, 0x0⟩ ]

/-- The rows of block DBG (R394). -/
def regRowsDbg : List RegRow :=
  [ ⟨0x130000, 0, 1, 0x0, 0x40, 0, 0x0⟩,
    ⟨0x130010, 4, 16, 0x1FFFF, 0x0, 0, 0x0⟩,
    ⟨0x130100, 0, 1, 0x0, 0x0, 0, 0x0⟩,
    ⟨0x130104, 0, 1, 0x0, 0x0, 0, 0x0⟩,
    ⟨0x130108, 0, 1, 0x0, 0x0, 0, 0x0⟩,
    ⟨0x13010C, 0, 1, 0x0, 0x0, 0, 0x0⟩,
    ⟨0x130110, 0, 1, 0x0, 0x0, 0, 0x0⟩ ]
/-- The nine words of layer descriptor `l` (Table 6.2); words 9 to 15 are reserved. -/
def layerRow (l : Nat) : List RegRow :=
  [ { base := Reg.CMP_LAYER l, stride := 0, count := 1, rw := 0x3FFF7F, w1c := 0, lock := 0, reset := 0x130000 },
    { base := Reg.CMP_LAYER l + 4, stride := 0, count := 1, rw := 0x0FFFFFFF, w1c := 0, lock := 0, reset := 0 },
    { base := Reg.CMP_LAYER l + 8, stride := 4, count := 4, rw := 0xFFFFFFFF, w1c := 0, lock := 0, reset := 0 },
    { base := Reg.CMP_LAYER l + 24, stride := 0, count := 1, rw := 0xFFFF, w1c := 0, lock := 0, reset := 0x8000 },
    { base := Reg.CMP_LAYER l + 28, stride := 4, count := 2, rw := 0xFFFFFFFF, w1c := 0, lock := 0, reset := 0 } ]

/-- The rows of the block that holds an address (Table 0.8). -/
def blockRows (b : Nat) : List RegRow :=
  match b with
  | 0 => regRowsGen
  | 1 => regRowsCmd
  | 2 => regRowsSch
  | 3 => regRowsDrc
  | 4 => regRowsIng
  | 5 => regRowsCdc
  | 6 => regRowsCmp
  | 7 => regRowsChn
  | 8 => regRowsCcx
  | 9 => regRowsTim
  | 10 => regRowsFlk
  | 11 => regRowsEmc
  | 12 => regRowsLmp
  | 13 => regRowsCal
  | 14 => regRowsThm
  | 15 => regRowsRed
  | 16 => regRowsUmb
  | 17 => regRowsTru
  | 18 => regRowsMet
  | 19 => regRowsDbg
  | _ => []

/-- Whether a row names the address. -/
def rowHas (r : RegRow) (a : Nat) : Bool :=
  if r.stride = 0 then a == r.base
  else decide (r.base ≤ a) && decide (a < r.base + r.stride * r.count) && decide ((a - r.base) % r.stride = 0)

/-- The row of an address, if the map names a register there. -/
def rowOf (a : Nat) : Option RegRow :=
  if 0x61000 ≤ a ∧ a < 0x65000 then (layerRow ((a - 0x61000) / 64)).find? (fun r => rowHas r a)
  else (blockRows (a / 65536)).find? (fun r => rowHas r a)

/-- The guard thresholds at reset by ordering code (Table 15.2): T_BLANK in [15:0], T_HALT in [31:16], in 1/16 °C. -/
def guardReset (g : Nat) : Nat :=
  if g = 0 then (if Config.industrial then 0x7800730 else 0x6E00690) else 0x5F00550

/-- The value a register holds at reset (the tables' Reset column; 0 where the spec gives none, log entry 1). -/
def resetValue (a : Nat) : Word :=
  if a = Reg.THM_GUARD_T 0 then BitVec.ofNat 32 (guardReset 0)
  else if a = Reg.THM_GUARD_T 1 then BitVec.ofNat 32 (guardReset 1)
  else BitVec.ofNat 32 (((rowOf a).map (·.reset)).getD 0)

end Sys2Proof.Machine
end

