-- ==== Sys2Proof/Machine/Ops.lean ====
section
/-! DEFINITION. Named operations over the register file, time, free values, events and outputs, shared by every family. -/
namespace Sys2Proof.Machine

/-- The value held in the register file at an address (its reset value when unlisted). -/
def State.reg (s : State) (a : Nat) : Word := cellGet resetValue s.regs a

/-- Store a value in the register file. -/
def State.setReg (s : State) (a : Nat) (v : Word) : State := { s with regs := cellSet resetValue s.regs a v }

/-- A field of a register. -/
def State.get (s : State) (a : Nat) (f : Field) : Nat := fieldOf (s.reg a) f.lo f.len

/-- A one-bit field of a register. -/
def State.bit (s : State) (a : Nat) (f : Field) : Bool := bitOf (s.reg a) f.lo

/-- Write a field of a register. -/
def State.put (s : State) (a : Nat) (f : Field) (v : Nat) : State := s.setReg a (putField (s.reg a) f.lo f.len v)

/-- Write a one-bit field of a register. -/
def State.putBit (s : State) (a : Nat) (f : Field) (b : Bool) : State := s.put a f (flag b)

/-- Write a register as a number. -/
def State.setNum (s : State) (a v : Nat) : State := s.setReg a (BitVec.ofNat 32 v)

/-- Add to a saturating counter (R63 and the like). -/
def State.bump (s : State) (a k : Nat) : State := s.setReg a (satAdd (s.reg a) k)

/-- Raise a register to a greater number: a maximum. -/
def State.raise (s : State) (a v : Nat) : State := if (s.reg a).toNat < v then s.setNum a v else s

/-- Reset a list of addresses to the value they hold at reset. -/
def State.resetRegs (s : State) (p : Nat → Bool) : State := { s with regs := cellErase p s.regs }

/-- What the frequency reference counts while wall time advances by `d`: wall time runs at 1 + y times its rate, y in units of 2^-40
(R175). -/
def refSpan (y : Int) (d : Nat) : Nat := d * 2 ^ 40 / (2 ^ 40 + y).toNat

/-- Let wall time reach an instant; it never goes back (a step of R176 sets it directly). -/
def State.tick (s : State) (t : Nat) : State :=
  { s with now := Nat.max s.now t, ref := s.ref + refSpan (s.tim.yf + s.tim.yp) (t - s.now) }

/-- Record an output. -/
def State.emit (s : State) (o : Output) : State := { s with out := o :: s.out }

/-- Take a free value: nothing constrains it (log entry 2). -/
def State.takeFree (s : State) : Nat × State := (Config.freeValue s.fresh, { s with fresh := s.fresh + 1 })

/-- CMD_EVT records event `n` and raises MSI-X vector `n` while its enable is 1 (R362). -/
def State.event (s : State) (n : Nat) : State :=
  let s' := s.setReg Reg.CMD_EVT (s.reg Reg.CMD_EVT ||| BitVec.ofNat 32 (2 ^ n))
  if bitOf (s.reg Reg.CMD_EVT_EN) n then s'.emit (.msi n) else s'

/-- The running image, and its role (R1). -/
def State.image? (s : State) : Option Image := s.gen.running
def State.role? (s : State) : Option Role := s.gen.running.map (·.role)
def State.isSender (s : State) : Bool := s.role? == some .sender
def State.isTile (s : State) : Bool := s.role? == some .tile

/-- ROM recovery: GEN_IMG_STATE reads RECOVERY (R329). -/
def State.recovery (s : State) : Bool := s.get Reg.GEN_IMG_STATE Fld.GEN_IMG_STATE_STATE == 4

/-- The TIMELINE of the running image. -/
def State.timeline? (s : State) : Option Timeline := s.gen.running.map (·.timeline)

/-- The WFN of the present instant, 0 with no image running (R168). -/
def State.wfnNow (s : State) : Nat :=
  match s.timeline? with
  | none => 0
  | some tl => wfnAt tl s.now

/-- The value in force of a scalar parameter, or `d` when the image has none (R40). -/
def State.param (s : State) (id d : Nat) : Nat :=
  match s.gen.params.find? (fun p => p.spec.id == id) with
  | some p => p.value.headD d
  | none => d

/-- The elements in force of a BLOB parameter. -/
def State.blob (s : State) (id : Nat) : List Nat :=
  match s.gen.params.find? (fun p => p.spec.id == id) with
  | some p => p.value
  | none => []

/-- A held state that begins at W(a), and ends at W(b) once that is known, is in force at frame `g`. -/
def holdCovers (g a : Nat) (b : Option Nat) : Bool := decide (a ≤ g) && (match b with | none => true | some b => decide (g < b))

/-- The held state is in force at frame `g`: from W(F_h) until W(F_r) (R358). -/
def State.heldAt (s : State) (g : Nat) : Bool :=
  (match s.flk.heldFrom with | none => false | some a => holdCovers g a s.flk.heldTo) || s.flk.ahead.any (fun h => holdCovers g h.1 h.2)

/-- The take-back hold-off restarts while it runs: TAKEBACK_HOLDOFF_MS from now (R294). -/
def State.restartHoldoff (s : State) : State :=
  if s.red.holdoffUntil.isSome then
    { s with red := { s.red with holdoffUntil := some (s.now + s.param 2 10000 * msT) } }
  else s

/-- Replace element `i` of a list by `f` of it. -/
def modifyAt {α : Type} (l : List α) (i : Nat) (f : α → α) : List α := l.modify i f

/-! ### Keys and identity of the device (R318) -/

/-- The 114 bytes of an Ed448ph signature by a secret key under a context string (Table 18.2). -/
def signature (key : List Byte) (context : String) (message : List Byte) : List Byte :=
  firstBytes 114 (Config.ed448phSign key (asciiBytes context) message)

/-- The identity key's secret: SHAKE256 of the fused device secret followed by "DN9600-IDK" (R318). -/
def identityKey : List Byte := Config.shake256 (Config.deviceSecret ++ asciiBytes "DN9600-IDK") 57

/-- The first 16 bytes of SHAKE256 over the public key of a secret key: the identity of the device, and METER_ID (R318, R341). -/
def keyIdentity (key : List Byte) : List Byte := firstBytes 16 (Config.shake256 (firstBytes 57 (Config.ed448Public key)) 16)

/-- The identity (R318). -/
def identity : List Byte := keyIdentity identityKey

end Sys2Proof.Machine
end

