-- ==== Sys2Proof/Machine/Pair.lean ====
section
/-! DEFINITION. The part a sender plays in its pair, read from RED_STATE and PAIR_POSITION (R16, R281, R289 to R291). -/
namespace Sys2Proof.Machine

/-- RED_STATE.LINK: 0 DOWN, 1 JOIN, 2 FORMED (Table 16.7). -/
def State.linkCode (s : State) : Nat := s.get Reg.RED_STATE Fld.RED_STATE_LINK

/-- The lockstep link is FORMED. -/
def State.formed (s : State) : Bool := s.linkCode == 2

/-- PAIR_POSITION is MIRROR (R16). -/
def State.isMirror (s : State) : Bool := s.param 1 0 == 1

/-- FORMED, or in JOIN, where R74, R75, R76, R89 and R111 apply as though the link were formed (chapter 16, Joining). -/
def State.agreed (s : State) : Bool := s.linkCode != 0

/-- The sender whose verdicts, tables and commits count: the primary while FORMED, the source in JOIN. -/
def State.leads (s : State) : Bool :=
  if s.formed then !s.isMirror else s.agreed && !s.bit Reg.RED_STATE Fld.RED_STATE_JOINER

/-- The mirror while FORMED, or the joiner in JOIN: its tables are copies. -/
def State.follows (s : State) : Bool := s.agreed && !s.leads

/-- Write RED_STATE; each change of bits [16:0] sets PAIR_EVT and raises the pair vector (Table 16.7). -/
def State.setRed (s : State) (w : Word) : State :=
  let old := s.reg Reg.RED_STATE
  if fieldOf w 0 17 = fieldOf old 0 17 then s
  else (s.setReg Reg.RED_STATE (putField w 17 1 1)).event 5

/-- Write a field of RED_STATE. -/
def State.putRed (s : State) (f : Field) (v : Nat) : State := s.setRed (putField (s.reg Reg.RED_STATE) f.lo f.len v)

/-- Send a record over the lockstep link while it carries records. -/
def State.sendLink (s : State) (r : LinkRecord) : State := if s.agreed then s.emit (.link r) else s

end Sys2Proof.Machine
end

