-- ==== Sys2Proof/Machine/Messages.lean ====
section
/-! DEFINITION. Chain messages and the queues they wait in (R130, R131, Table 7.5). -/
namespace Sys2Proof.Machine

/-- Message types (Table 7.5). -/
abbrev Msg.REG_RD : Nat := 0x01
abbrev Msg.REG_WR : Nat := 0x02
abbrev Msg.REG_RSP : Nat := 0x03
abbrev Msg.MBOX : Nat := 0x04
abbrev Msg.MBOX_RSP : Nat := 0x05
abbrev Msg.TIME : Nat := 0x06
abbrev Msg.RATE : Nat := 0x07
abbrev Msg.TXSLIP : Nat := 0x08
abbrev Msg.SHADOW : Nat := 0x09
abbrev Msg.BULK : Nat := 0x0A
abbrev Msg.REFRESH_REQ : Nat := 0x0B
abbrev Msg.HEALTH : Nat := 0x0C
abbrev Msg.DIVERGE : Nat := 0x0D
abbrev Msg.ANNOUNCE : Nat := 0x0E
abbrev Msg.HOLD : Nat := 0x0F

/-- Header, body and CRC-32C of a message; LEN is the body's length. -/
def messageBytes (type flags ta tag : Nat) (body : List Byte) : List Byte :=
  let m := [byteOf type, byteOf flags, byteOf ta, byteOf tag] ++ leBytes 2 body.length ++ body
  m ++ leBytes 4 (crc32c m)

/-- Whether received message bytes pass R131: CRC, TYPE and LEN. -/
def messageOk (bs : List Byte) : Bool :=
  decide (10 ≤ bs.length) && decide (leAt bs 4 2 ≤ 1024) && bs.length == 10 + leAt bs 4 2 &&
    decide (1 ≤ byteAt bs 0) && decide (byteAt bs 0 ≤ 0x0F) &&
    crc32c (bs.take (bs.length - 4)) == leAt bs (bs.length - 4) 4

/-- Queue a message on one port, behind those that wait (R130). -/
def State.queueMsg (s : State) (port : Nat) (bs : List Byte) : State :=
  { s with chn := { s.chn with tx := s.chn.tx ++ [{ port := port, bytes := bs, sent := 0 }] } }

/-- The TA a tile took, 0xFF none (CHN_RING, R143). -/
def State.ownTa (s : State) : Nat := fieldOf (s.reg Reg.CHN_RING) 0 8

/-- A tile queues a message on both transmit ports (R130): FROM_TILE, its own TA. -/
def State.tileSend (s : State) (type side tag : Nat) (body : List Byte) : State :=
  let m := messageBytes type (2 + 4 * side) s.ownTa tag body
  (s.queueMsg 0 m).queueMsg 1 m

/-- SIDE of a sender: 0 primary, 1 mirror. -/
def State.side (s : State) : Nat := flag s.isMirror

/-- A sender queues a message to a tile on its chain's port. -/
def State.senderSend (s : State) (type ta tag : Nat) (body : List Byte) : State :=
  s.queueMsg (ta / 64) (messageBytes type (4 * s.side) ta tag body)

/-- A sender broadcasts a message on a chain. -/
def State.broadcast (s : State) (chain type tag : Nat) (body : List Byte) : State :=
  s.queueMsg chain (messageBytes type (1 + 4 * s.side) 0xFF tag body)

/-- The chains of the running sender image. -/
def State.chains (s : State) : List ChainRec := (s.gen.running.map (·.chains)).getD []

/-- A sender broadcasts on every chain of its own. -/
def State.broadcastAll (s : State) (type tag : Nat) (body : List Byte) : State :=
  s.chains.foldl (fun s c => s.broadcast c.chain type tag body) s

/-- The chain record of a TA at a sender: its position is below N. -/
def State.chainOf? (s : State) (ta : Nat) : Option ChainRec :=
  s.chains.find? (fun c => c.chain == ta / 64 && decide (ta % 64 < c.n))

/-- A tile's own chain record. -/
def State.tileChain? (s : State) : Option ChainRec := if s.isTile then s.chains.head? else none

/-- CHN_PORT_STAT of a port reads UP. -/
def State.portUp (s : State) (p : Nat) : Bool := s.get (Reg.CHN_PORT_STAT p) Fld.CHN_PORT_STAT_STATE == 7

/-- The transmit port opposite to a tile's receive port. -/
def opposite (p : Nat) : Nat := 1 - p

/-- The east end of the ring is absent: the east transmitter sends link idle alone (R17). -/
def State.eastAbsent (s : State) : Bool := s.bit (Reg.CHN_PORT_STAT 1) Fld.CHN_PORT_STAT_ABSENT

/-- A tile forwards what it received on a port, unless the opposite transmitter trains, leads to an absent east end (R17), or follows
its boundary cells (R389). -/
def State.forwards (s : State) (port : Nat) : Bool :=
  !s.isSender && s.chn.sending.contains (opposite port) && !(opposite port == 1 && s.eastAbsent) && !s.dbg.forced

/-- The last good control row of a port. -/
def State.lastCtl? (s : State) (p : Nat) : Option LastCtl := s.chn.last.find? (fun l => l.port == p)

/-- R283: port UP, last good control row ACTIVE, not UPSTREAM_LOST, ORIGIN 0 at the west port and 1 at the east. -/
def State.portEligible (s : State) (p : Nat) : Bool :=
  s.portUp p && (s.lastCtl? p).any (fun l =>
    natBit l.row.flags 0 && !natBit l.row.flags 3 && flag (natBit l.row.flags 1) == p)

/-- RED_TILE.SEL: 0 none, 1 west, 2 east. -/
def State.selCode (s : State) : Nat := s.get Reg.RED_TILE Fld.RED_TILE_SEL

/-- The port whose stream a tile shows (R16, R283). -/
def State.shownPort (s : State) : Option Nat :=
  if s.selCode = 1 then some 0 else if s.selCode = 2 then some 1 else none

/-- The shown port has been UP for 1 s (R187). -/
def State.shownLong (s : State) : Bool :=
  s.shownPort.any (fun p => s.portUp p &&
    (s.chn.ports.find? (fun x => x.port == p)).any (fun x => x.upAt.any (fun u => decide (u + secT ≤ s.now))))

/-- A tile's FLK_STATE.ALIGNED falls when its shown port is no longer UP for 1 s (R187); ALIGNED_RISE sets it. -/
def State.syncAligned (s : State) : State :=
  if s.isTile && s.bit Reg.FLK_STATE Fld.FLK_STATE_ALIGNED && !s.shownLong then s.putBit Reg.FLK_STATE Fld.FLK_STATE_ALIGNED false else s

/-- d of a port as last formed (R138), 0 before a first value. -/
def State.lastDelay (s : State) (p : Nat) : Int := ((s.chn.delays.find? (fun x => x.1 == p)).bind (·.2.head?)).getD 0

end Sys2Proof.Machine
end

