-- ==== Sys2Proof/Machine/Mailbox.lean ====
section
/-! DEFINITION. The mailbox every path shares: responses, the PCIe completion ring, credits, long operations and their
completion records (R347 to R354, R360, R362). -/
namespace Sys2Proof.Machine

/-- Status codes (Table 20.8). -/
abbrev St.OK : Nat := 0x00
abbrev St.ACCEPTED : Nat := 0x01
abbrev St.ABORTED : Nat := 0x02
abbrev St.ABORT_LATE : Nat := 0x03
abbrev St.FAILED : Nat := 0x04
abbrev St.BAD_OPCODE : Nat := 0x10
abbrev St.BAD_LENGTH : Nat := 0x11
abbrev St.BAD_FIELD : Nat := 0x12
abbrev St.BAD_STATE : Nat := 0x13
abbrev St.BUSY : Nat := 0x14
abbrev St.ADM_BUSY : Nat := 0x15
abbrev St.NOT_OWNER : Nat := 0x16
abbrev St.TOKEN_UNKNOWN : Nat := 0x17
abbrev St.TIMEOUT : Nat := 0x18
abbrev St.NO_SLACK : Nat := 0x19
abbrev St.TOO_LATE : Nat := 0x1A
abbrev St.IN_CONTROL : Nat := 0x1B
abbrev St.NOT_FORMED : Nat := 0x1C
abbrev St.NOT_PRIMARY : Nat := 0x1D
abbrev St.PARAM_RANGE : Nat := 0x20
abbrev St.PARAM_BUSY : Nat := 0x21
abbrev St.SURF_FORMAT : Nat := 0x28
abbrev St.POOL_EXHAUSTED : Nat := 0x29
abbrev St.SURF_STALE : Nat := 0x2A
abbrev St.SURF_IN_USE : Nat := 0x2B
abbrev St.STAGE_CRC : Nat := 0x30
abbrev St.STAGE_INCOMPLETE : Nat := 0x31
abbrev St.STAGE_FORMAT : Nat := 0x32
abbrev St.STAGE_SIG : Nat := 0x33
abbrev St.STAGE_ROLLBACK : Nat := 0x34
abbrev St.STAGE_ROLE : Nat := 0x35
abbrev St.NOT_ADMITTED : Nat := 0x36
abbrev St.NOT_VERIFIED : Nat := 0x37
abbrev St.MIN_FIRMWARE : Nat := 0x38
abbrev St.KEY_BAD : Nat := 0x39
abbrev St.LC_ORDER : Nat := 0x3A
abbrev St.REVOKE_FULL : Nat := 0x3B
abbrev St.NOT_FOUND : Nat := 0x40

/-- What a command's handler answers: the fields of Table 20.3 it sets. -/
structure Reply where
  status : Nat
  flags : Nat := 0
  token : Nat := 0
  detail : Nat := 0
  wfn : Nat := 0
  body : List Byte := []
  deriving DecidableEq, Repr

/-- A reply that carries a status alone. -/
def Reply.of (status : Nat) : Reply := { status := status }

/-- The response header of Table 20.3 followed by the body. -/
def responseBytes (r : Response) : List Byte :=
  leBytes 2 r.opcode ++ leBytes 2 r.body.length ++ leBytes 4 r.tag ++ leBytes 1 r.status ++ leBytes 1 r.flags ++
    zeroBytes 2 ++ leBytes 4 r.token ++ leBytes 4 r.detail ++ leBytes 6 r.wfn ++ zeroBytes 6 ++ r.body

/-- Pad a byte string with zeros to `n` bytes. -/
def padTo (n : Nat) (bs : List Byte) : List Byte := bs ++ zeroBytes (n - bs.length)

/-! ### Completion ring (R350) -/

/-- Ring sizes in entries. -/
def State.sqSize (s : State) : Nat := 2 ^ s.get Reg.CMD_RING_CFG Fld.CMD_RING_CFG_SQ_LOG2
def State.cqSize (s : State) : Nat := 2 ^ s.get Reg.CMD_RING_CFG Fld.CMD_RING_CFG_CQ_LOG2

/-- Host addresses of the rings. -/
def State.sqBase (s : State) : Nat := (s.reg Reg.CMD_SQ_BASE_LO).toNat + (s.reg Reg.CMD_SQ_BASE_HI).toNat * 2 ^ 32
def State.cqBase (s : State) : Nat := (s.reg Reg.CMD_CQ_BASE_LO).toNat + (s.reg Reg.CMD_CQ_BASE_HI).toNat * 2 ^ 32

/-- The PCIe mailbox runs. -/
def State.ringOn (s : State) : Bool := s.bit Reg.CMD_RING_CFG Fld.CMD_RING_CFG_RING_EN

/-- Entries a message of `n` bytes occupies. -/
def entriesOf (n : Nat) : Nat := ceilDiv n 64

/-- Filler entries before a wrap: none when the message fits before the ring's end. -/
def fillFor (size tail need : Nat) : Nat := if tail % size + need > size then size - tail % size else 0

/-- Whether a response fits the completion ring now. -/
def State.cqRoom (s : State) (r : Response) : Bool :=
  let n := s.cqSize
  let tail := (s.reg Reg.CMD_CQ_TAIL).toNat
  let used := (tail + 2 * n - (s.reg Reg.CMD_CQ_HEAD).toNat) % (2 * n)
  let need := entriesOf (32 + r.body.length)
  decide (used + fillFor n tail need + need ≤ n)

/-- Write a response into the ring: a NOP response fills before a wrap, then the entries, then CMD_CQ_TAIL and vector 0;
a completion record raises vector 1 as well (R350, R352). -/
def State.cqWrite (s : State) (r : Response) : State :=
  let n := s.cqSize
  let tail := (s.reg Reg.CMD_CQ_TAIL).toNat
  let need := entriesOf (32 + r.body.length)
  let fill := fillFor n tail need
  let nop : Response := { opcode := 0, tag := 0, status := 0, flags := 0, token := 0, detail := 0, wfn := 0,
                          body := zeroBytes (64 * fill - 32) }
  let s1 := if fill = 0 then s else s.emit (.hostWrite (s.cqBase + 64 * (tail % n)) (responseBytes nop))
  let t1 := (tail + fill) % (2 * n)
  let s2 := s1.emit (.hostWrite (s.cqBase + 64 * (t1 % n)) (padTo (64 * need) (responseBytes r)))
  (s2.setNum Reg.CMD_CQ_TAIL ((t1 + need) % (2 * n))).event 0

/-- Deliver on PCIe: into the ring while it has room and nothing waits before it, else it waits in order (R350). -/
def State.pcieRespond (s : State) (r : Response) : State :=
  if !s.ringOn then s
  else if s.cmd.waitingRsp = [] ∧ s.cqRoom r then s.cqWrite r
  else { s with cmd := { s.cmd with waitingRsp := s.cmd.waitingRsp ++ [r] } }

/-- Write the waiting responses that fit, in order. -/
def State.cqFlush (s : State) : List Response → State
  | [] => { s with cmd := { s.cmd with waitingRsp := [] } }
  | r :: rs =>
    if s.cqRoom r then (s.cqWrite r).cqFlush rs else { s with cmd := { s.cmd with waitingRsp := r :: rs } }

/-- Put bytes into the SPI response buffer and raise RSP_READY; BUSY falls (R351). -/
def State.spiRespond (s : State) (r : Response) : State :=
  let bytes := padTo 8224 (responseBytes r)
  let s1 := { s with cmd := { s.cmd with spiRsp := cellSetMany (fun _ => 0) [] 0 bytes } }
  s1.setReg Reg.CMD_SPI_CTRL (word 2)

/-- The segments of a message longer than `lim` bytes (Table 20.4): header and up to `lim` bytes each. -/
def segments (lim seq : Nat) (bs : List Byte) : List (List Byte) :=
  let n := Nat.max 1 (ceilDiv bs.length lim)
  (List.range n).map (fun i =>
    leBytes 2 seq ++ leBytes 1 i ++ leBytes 1 n ++ leBytes 4 bs.length ++ slice bs (lim * i) lim)

/-- The bodies of a message: itself up to `lim` bytes, else its segments (Table 20.4, Table 20.5). -/
def bodiesOf (lim seq : Nat) (bs : List Byte) : List (List Byte) := if bs.length ≤ lim then [bs] else segments lim seq bs

/-- The next segmented message takes the next SEQ. -/
def State.nextSeg (s : State) : State := { s with cmd := { s.cmd with segSeq := (s.cmd.segSeq + 1) % 65536 } }

/-- Keep the response a tile gives to one relayed command: the last 8 of each SIDE (R356). -/
def State.keepDup (s : State) (side tag : Nat) (bodies : List (List Byte)) : State :=
  let same := (s.cmd.dups.filter (fun d => d.side == side && d.tag != tag))
  let others := s.cmd.dups.filter (fun d => d.side != side)
  { s with cmd := { s.cmd with dups := others ++ (same.drop (same.length - 7)) ++ [{ side := side, tag := tag, bodies := bodies }] } }

/-- One answer of a management session: the next sequence number and its KMAC256 tag (R79). -/
def State.mgmtSend (s : State) (k : Nat) (body : List Byte) : State :=
  match s.ing.sessions.find? (fun x => x.id == k) with
  | none => s
  | some x =>
    let seq := x.sendSeq + 1
    let l := s.ing.sessions.map (fun (y : Session) => if y.id = k then { y with sendSeq := seq } else y)
    ({ s with ing := { s.ing with sessions := l } } : State).emit (.mgmt k seq (Config.kmac x.key (leBytes 8 seq ++ body) 16) body)

/-- Deliver a response on its path (R348, R350, R351, R355): into the completion ring, on the session in segments past 1,400
bytes, into CMD_SPI_RSP, or in MBOX_RSP messages, segmented past 1,016 bytes and kept for repeats. -/
def State.respond (s : State) (p : MboxPath) (r : Response) : State :=
  match p with
  | .pcie => s.pcieRespond r
  | .mgmt k => (bodiesOf 1400 s.cmd.segSeq (responseBytes r)).foldl (fun (z : State) b => z.mgmtSend k b) s.nextSeg
  | .spi => s.spiRespond r
  | .chain side tag =>
    let bodies := bodiesOf 1016 s.cmd.segSeq (responseBytes r)
    let s1 := if r.flags % 4 < 2 then s.nextSeg.keepDup side tag bodies else s.nextSeg
    bodies.foldl (fun (z : State) b => z.tileSend Msg.MBOX_RSP side tag b) s1

/-! ### Long operations (R352, R353) -/

/-- Whether a further long operation is turned away with BUSY (R352). -/
def State.longFull (s : State) : Bool := decide (16 ≤ s.cmd.longOps.length)

/-- Accept a long operation: a fresh token and the ACCEPTED reply (R352). -/
def State.longStart (s : State) (opcode : Nat) (c : MboxCmd) (detail : Nat) : State × Reply :=
  let tok := s.cmd.nextToken
  let op : LongOp := { token := tok, opcode := opcode, tag := c.tag, owner := some c.path, startWfn := s.wfnNow,
                       detail := detail }
  ({ s with cmd := { s.cmd with longOps := s.cmd.longOps ++ [op], nextToken := tok + 1 } },
    { status := St.ACCEPTED, token := tok })

/-- The long operation of a token. -/
def State.longOp? (s : State) (tok : Nat) : Option LongOp := s.cmd.longOps.find? (fun o => o.token == tok)

/-- End a long operation: its completion record goes to the path that owns it and is kept among the last 32 (R352). SPI is
not pushed. -/
def State.longEnd (s : State) (tok status detail : Nat) (aborted : Bool) : State :=
  match s.longOp? tok with
  | none => s
  | some o =>
    let r : Response := { opcode := o.opcode, tag := o.tag, status := status, flags := 2, token := tok, detail := detail,
                          wfn := 0, body := [] }
    let kept := (s.cmd.kept ++ [{ record := r, owner := o.owner, aborted := aborted }])
    let s1 := { s with cmd := { s.cmd with longOps := s.cmd.longOps.filter (fun x => x.token != tok),
                                           kept := kept.drop (kept.length - 32) } }
    let s2 := match o.owner with
      | none => s1
      | some .spi => s1
      | some p => s1.respond p r
    s2.event 1

/-- Whether an ABORT from a path may name an operation: its owner, or anyone when it has none (R353). -/
def mayAbort (owner : Option MboxPath) (p : MboxPath) : Bool :=
  match owner with
  | none => true
  | some (.chain a _) => (match p with | .chain b _ => a == b | _ => false)
  | some q => q == p

/-- Abandon a path's mailbox: responses not yet written are discarded, its operations run on without an owner (R354). -/
def State.abandonOps (s : State) (p : MboxPath) : State :=
  { s with cmd := { s.cmd with longOps := s.cmd.longOps.map (fun o => if o.owner = some p then { o with owner := none } else o),
                               kept := s.cmd.kept.map (fun o => if o.owner = some p then { o with owner := none } else o),
                               relays := s.cmd.relays.filter (fun r => r.path != p),
                               tileOps := s.cmd.tileOps.filter (fun r => r.path != p) } }

def State.abandonPcie (s : State) : State :=
  let s1 := s.abandonOps .pcie
  { s1 with cmd := { s1.cmd with waitingRsp := [] } }

/-- Turn a handler's answer into the response on the command's path. -/
def State.answer (s : State) (opcode : Nat) (c : MboxCmd) (r : Reply) : State :=
  s.respond c.path { opcode := opcode, tag := c.tag, status := r.status, flags := r.flags, token := r.token,
                     detail := r.detail, wfn := r.wfn, body := r.body }

end Sys2Proof.Machine
end

