-- ==== Sys2Proof/Machine/CommandCheck.lean ====
section
/-! DEFINITION. The checks every command passes before it starts (R347, R359, Tables 20.6 and 20.7), and serving one. -/
namespace Sys2Proof.Machine

/-- UMB_STATE.PSTATE codes (Table 17.6). -/
abbrev Ps.BOOT : Nat := 1
abbrev Ps.RUN : Nat := 2
abbrev Ps.ENTERING : Nat := 3
abbrev Ps.DARK : Nat := 4
abbrev Ps.UMBRA : Nat := 5
abbrev Ps.WAKING : Nat := 6

/-- The power state (R298). -/
def State.pstate (s : State) : Nat := s.get Reg.UMB_STATE Fld.UMB_STATE_PSTATE

/-- The opcodes of Table 20.7. -/
def knownOpcode (op : Nat) : Bool :=
  op ∈ [0, 1, 2, 3, 4, 5, 6, 7, 8, 0x101, 0x102, 0x103, 0x104, 0x105, 0x106, 0x107, 0x108, 0x109, 0x10A, 0x10B,
        0x201, 0x202, 0x301, 0x302, 0x303, 0x401, 0x402, 0x403, 0x404, 0x501, 0x502, 0x503, 0x504, 0x505,
        0x601, 0x602, 0x603, 0x701]

/-- The opcodes a sender alone accepts. -/
def senderOpcode (op : Nat) : Bool := op ∈ [5, 6, 0x201, 0x202, 0x301, 0x302, 0x303, 0x601, 0x602, 0x603]

/-- The long operations of Table 20.7. -/
def longOpcode (op : Nat) : Bool := op ∈ [0x103, 0x105, 0x106, 0x401, 0x502, 0x503, 0x701]

/-- Whether LEN is a length the opcode defines (Table 20.7). -/
def lenOk (op : Nat) (body : List Byte) : Bool :=
  let n := body.length
  match op with
  | 0x000 => true
  | 0x002 | 0x003 => n == 4
  | 0x005 | 0x006 => n == 6
  | 0x007 => decide (8 ≤ n) && n == 8 + 4 * leAt body 4 4
  | 0x008 => n == 4
  | 0x101 => n == 8
  | 0x102 => decide (12 ≤ n) && decide (n ≤ 12 + 8176)
  | 0x103 | 0x104 | 0x107 => n == 4
  | 0x106 => n == 10
  | 0x108 => n == 256
  | 0x109 => n == 146
  | 0x10B => n == 32
  | 0x201 => n == 12
  | 0x202 => n == 4
  | 0x501 => decide (4 ≤ n) && decide (n ≤ 8192)
  | 0x502 => n == 12
  | 0x503 => n == 4
  | 0x504 => n == 24
  | 0x505 => n == 8
  | 0x601 => n == 12
  | 0x602 => decide (4 + 32 ≤ n) && decide (n ≤ 4 + 8160)
  | 0x603 => decide (4 + 32 ≤ n) && decide (n ≤ 4 + 8188)
  | 0x701 => n == 4
  | _ => n == 0

/-- The reserved bytes of a body, as (offset, length). -/
def bodyZeros (op : Nat) : List (Nat × Nat) :=
  match op with
  | 0x007 | 0x008 => [(2, 2)]
  | 0x101 => [(2, 2)]
  | 0x102 => [(1, 1)]
  | 0x103 | 0x104 | 0x107 | 0x503 | 0x505 | 0x502 | 0x701 => [(1, 3)]
  | 0x106 => [(2, 2)]
  | 0x201 => [(3, 1)]
  | 0x202 => [(2, 2)]
  | 0x504 => [(22, 2)]
  | 0x601 | 0x602 | 0x603 => [(2, 2)]
  | _ => []

/-- Whether the present state accepts an opcode from a path (Table 20.6, R304, R329). -/
def State.acceptsOpcode (s : State) (op : Nat) : Bool :=
  if s.recovery then op ∈ [1, 2, 3, 4, 0x101, 0x102, 0x103, 0x104, 0x106, 0x10B]
  else if s.pstate = Ps.UMBRA then op ∈ [0x402, 0x404]
  else if s.pstate = Ps.DARK then
    op ∈ [0x402, 0x403, 0x404, 4, 1, 2, 3, 0x10B] || (s.isSender && op ∈ [0x601, 0x602])
  else !senderOpcode op || s.isSender

/-- Whether a mailbox path answers now (Table 20.1, R10, R303, R304, R329). -/
def State.pathOpen (s : State) (p : MboxPath) : Bool :=
  if !s.umb.powered then false
  else if s.pstate = Ps.UMBRA then p == .spi
  else
    match p with
    | .spi => s.umb.coreOut
    | .pcie => s.ringOn && (s.isSender || s.recovery)
    | .mgmt k => (s.isSender || s.recovery) && s.ing.sessions.any (fun x => x.id == k)
    | .chain _ _ => s.isTile || s.recovery

/-- The first failing check of R347, as its status. -/
def State.checkCommand (s : State) (op : Nat) (c : MboxCmd) : Option Nat :=
  if !knownOpcode op then some St.BAD_OPCODE
  else if c.len > 8192 ∨ c.len ≠ c.body.length ∨ !lenOk op c.body then some St.BAD_LENGTH
  else if !s.acceptsOpcode op then some St.BAD_STATE
  else if !allZero c.reserved ∨ (bodyZeros op).any (fun z => !allZero (slice c.body z.1 z.2)) then some St.BAD_FIELD
  else none

/-- Credits a path holds: responses not yet written and relays not yet answered (R349, R350). Completion records hold none. -/
def State.creditsHeld (s : State) (p : MboxPath) : Nat :=
  let relays := (s.cmd.relays.filter (fun (r : Relay) => r.path == p)).length
  match p with
  | .pcie => (s.cmd.waitingRsp.filter (fun (r : Response) => decide (r.flags < 2))).length + relays
  | _ => relays

/-- The credits of a path (Table 20.1). -/
def creditLimit : MboxPath → Nat
  | .pcie => 32
  | .mgmt _ => 8
  | .spi => 1
  | .chain _ _ => 4

/-- PATH of Table 20.10. -/
def pathCode : MboxPath → Nat
  | .pcie => 0
  | .mgmt _ => 1
  | .spi => 2
  | .chain _ _ => 3

/-- Check a command, run its handler, answer it on its path unless the handler leaves the answer to a relay. A command that finds
no credit is dropped and counted (R347, R349). -/
def State.serveBy (s : State) (op : Nat) (c : MboxCmd) (h : MboxCmd → State → State × Option Reply) : State :=
  let s0 := s.tick c.t
  if !s0.pathOpen c.path then s0
  else if creditLimit c.path ≤ s0.creditsHeld c.path then s0.bump (Reg.CMD_CREDIT_DROP (pathCode c.path)) 1
  else match s0.checkCommand op c with
  | some st => s0.answer op c (Reply.of st)
  | none =>
    match h c s0 with
    | (s1, some r) => s1.answer op c r
    | (s1, none) => s1

/-- Check a command, run its handler, answer it on its path. -/
def State.serve (s : State) (op : Nat) (c : MboxCmd) (h : MboxCmd → State → State × Reply) : State :=
  s.serveBy op c (fun c s => ((h c s).1, some (h c s).2))

end Sys2Proof.Machine
end

