-- ==== Sys2Proof/Machine/Flash.lean ====
section
/-! DEFINITION. The boot flash and the calibration store's slots and commit records (R234 to R236, R319). -/
namespace Sys2Proof.Machine

/-- An unlisted byte of the flash reads 0xFF: erased. -/
def erasedByte (_ : Nat) : Byte := 0xFF

/-- Read bytes of the boot flash. -/
def State.flashRead (s : State) (a n : Nat) : List Byte := cellRead erasedByte s.tru.flash a n

/-- Program bytes into erased flash. -/
def State.flashProgram (s : State) (a : Nat) (bs : List Byte) : State :=
  { s with tru := { s.tru with flash := cellSetMany erasedByte s.tru.flash a bs } }

/-- Erase the 64 KiB sector that starts at an offset. -/
def State.flashErase (s : State) (a : Nat) : State :=
  { s with tru := { s.tru with flash := cellErase (fun x => decide (a ≤ x) && decide (x < a + 65536)) s.tru.flash } }

/-- Umbra's stop of R237 stands: no erase or page program starts. -/
def State.flashStopped (s : State) : Bool := s.umb.stopAt.isSome

/-- Page `k` of a byte string, padded with erased bytes. -/
def pageOf (bs : List Byte) (k : Nat) : List Byte :=
  let p := slice bs (256 * k) 256
  p ++ List.replicate (256 - p.length) 0xFF

/-! ### Firmware and image slots (Table 18.4) -/

/-- Flash offset and size of a staging slot. -/
def stageBase (type k : Nat) : Nat := if type = 0 then 0x40000 + k * 0x400000 else 0x1000000 + k * 0x8000000
def stageSize (type : Nat) : Nat := if type = 0 then 0x400000 else 0x8000000

/-- A byte of a staging slot. -/
def State.slotByte (s : State) (type k : Nat) (i : Nat) : Byte := cellGet erasedByte s.tru.flash (stageBase type k + i)

/-- Whether the image of a slot names the role TILE, as boot firmware reads it before admission (R236). -/
def State.tileSlot (s : State) (k : Nat) : Bool := (s.slotByte 1 k 0x0C).toNat != 1

/-! ### The calibration store (Tables 13.1 and 13.2) -/

/-- CAL_BASE (Table 18.4). -/
abbrev calBase : Nat := 0x11000000

/-- Size of an object's slot, and its largest body. -/
def slotBytes (o : Nat) : Nat := if o = 3 then 0x2010000 else 0x10000
def largestBody (o : Nat) : Nat := slotBytes o - 256

/-- Flash offset of slot `k` (0 A, 1 B) of an object. -/
def slotBase (o k : Nat) : Nat :=
  calBase + (match o with | 1 => 0x0 | 2 => 0x20000 | _ => 0x40000) + k * slotBytes o

/-- Flash offset of a slot's commit page. -/
def commitPage (o k : Nat) : Nat := slotBase o k + largestBody o

/-- A commit record without its CRC (Table 13.2). -/
def commitHead (o k gen len crc secs : Nat) (writer : List Byte) : List Byte :=
  [0x43, 0x41, 0x4C, 0x43] ++ leBytes 1 o ++ leBytes 1 k ++ zeroBytes 2 ++ leBytes 4 gen ++ leBytes 4 len ++ leBytes 4 crc ++
    leBytes 6 secs ++ zeroBytes 2 ++ writer ++ zeroBytes 16

/-- A commit record. -/
def commitRecord (o k gen len crc secs : Nat) (writer : List Byte) : List Byte :=
  let h := commitHead o k gen len crc secs writer
  h ++ leBytes 4 (crc32c h)

/-- A valid commit record of slot `k` of an object: GENERATION, LENGTH, BODY_CRC. -/
def readCommit (o k : Nat) (bs : List Byte) : Option (Nat × Nat × Nat) :=
  let gen := leAt bs 8 4
  let len := leAt bs 12 4
  if (slice bs 0 4).map (·.toNat) = [0x43, 0x41, 0x4C, 0x43] ∧ byteAt bs 4 = o ∧ byteAt bs 5 = k ∧ leAt bs 6 2 = 0 ∧
      1 ≤ gen ∧ gen ≤ 0xFFFFFFFE ∧ 1 ≤ len ∧ len ≤ largestBody o ∧ leAt bs 0x1A 2 = 0 ∧ allZero (slice bs 0x2C 16) ∧
      leAt bs 0x3C 4 = crc32c (slice bs 0 0x3C) then some (gen, len, leAt bs 16 4)
  else none

/-- The commit record of a slot, if valid. -/
def State.commitOf (s : State) (o k : Nat) : Option (Nat × Nat × Nat) := readCommit o k (s.flashRead (commitPage o k) 64)

/-- The highest GENERATION among an object's valid commit records, 0 if none. -/
def State.topGeneration (s : State) (o : Nat) : Nat :=
  Nat.max (((s.commitOf o 0).map (·.1)).getD 0) (((s.commitOf o 1).map (·.1)).getD 0)

/-- The body of a slot whose record is valid and whose BODY_CRC matches. -/
def State.slotBody (s : State) (o k : Nat) : Option (List Byte) :=
  match s.commitOf o k with
  | none => none
  | some (_, len, crc) =>
    let b := s.flashRead (slotBase o k) len
    if crc32c b = crc then some b else none

/-- The slots of an object in the order boot tries them: the higher GENERATION first, A when they are equal (R236). -/
def State.slotOrder (s : State) (o : Nat) : List Nat :=
  match s.commitOf o 0, s.commitOf o 1 with
  | some a, some b => if a.1 < b.1 then [1, 0] else [0, 1]
  | none, some _ => [1, 0]
  | _, _ => [0, 1]

/-- The slot boot selects, with what its body reads as (R236). -/
def State.selectSlot {α : Type} (s : State) (o : Nat) (read : List Byte → Option α) : Option (Nat × α) :=
  (s.slotOrder o).findSome? (fun k => ((s.slotBody o k).bind read).map (fun v => (k, v)))

/-- CAL_GEN(o) and CAL_SLOT(o) with slot `k` in use, or none. -/
def State.reportSlot (s : State) (o : Nat) (k : Option Nat) : State :=
  let a := s.commitOf o 0
  let b := s.commitOf o 1
  let gen := match k with
    | none => 0
    | some n => ((s.commitOf o n).map (·.1)).getD 0
  let eq := match a, b with
    | some x, some y => x.1 == y.1
    | _, _ => false
  (s.setNum (Reg.CAL_GEN o) gen).setNum (Reg.CAL_SLOT o)
    (k.getD 0 + flag a.isSome * 2 + flag b.isSome * 4 + flag eq * 8 + flag k.isNone * 16)

end Sys2Proof.Machine
end

