-- ==== Sys2Proof/Machine/ImageRead.lean ====
section
/-! DEFINITION. Reading a structure image from its bytes: header, section table and sections (R29 to R34, Tables 2.2 to
2.10, 3.1, 3.2, 8.6, 10.1, 10.2, 14.2). `rd n` is byte n of the storage slot. -/
namespace Sys2Proof.Machine

/-- `n` bytes of the slot from offset `off`. -/
def bytesAt (rd : Nat → Byte) (off n : Nat) : List Byte := (List.range n).map (fun i => rd (off + i))

/-- A little-endian field of `n` bytes at offset `off`. -/
def numAt (rd : Nat → Byte) (off n : Nat) : Nat := leNat (bytesAt rd off n)

/-- A section-table entry (Table 2.3). -/
structure SectEntry where
  type : Nat
  flags : Nat
  offset : Nat
  length : Nat
  crc : Nat
  deriving DecidableEq, Repr

/-- The section table of an image with SECTION_COUNT `n` (R30). -/
def sectTable (rd : Nat → Byte) (n : Nat) : List SectEntry :=
  (List.range n).map (fun i =>
    let o := 0x100 + 16 * i
    { type := numAt rd o 2, flags := numAt rd (o + 2) 2, offset := numAt rd (o + 4) 4,
      length := numAt rd (o + 8) 4, crc := numAt rd (o + 12) 4 })

/-- The section of a type, or an empty one at offset 0. -/
def sectOf (t : List SectEntry) (ty : Nat) : SectEntry :=
  (t.find? (fun e => e.type == ty)).getD { type := ty, flags := 0, offset := 0, length := 0, crc := 0 }

/-- ROUTE records (chapter 2, Routing): a count and 8-byte records. -/
def readRoutes (rd : Nat → Byte) (e : SectEntry) : List RouteRec :=
  (List.range (numAt rd e.offset 4)).map (fun i =>
    let o := e.offset + 4 + 8 * i
    { src := numAt rd o 2, dst := numAt rd (o + 2) 2, firstQueue := numAt rd (o + 4) 2,
      queueCount := numAt rd (o + 6) 2 })

/-- ISLANDS records (Table 2.7). -/
def readIslands (rd : Nat → Byte) (e : SectEntry) : List IslandRec :=
  (List.range (numAt rd e.offset 4)).map (fun i =>
    let o := e.offset + 4 + 16 * i
    { island := numAt rd o 1, enabled := natBit (numAt rd (o + 1) 1) 0, queueShare := numAt rd (o + 2) 2,
      floorKhz := numAt rd (o + 4) 4, nominalKhz := numAt rd (o + 8) 4, powerMw := numAt rd (o + 12) 4 })

/-- QUEUES descriptors (Table 2.8). -/
def readQueues (rd : Nat → Byte) (e : SectEntry) : List QueueRec :=
  (List.range (numAt rd e.offset 4)).map (fun i =>
    let o := e.offset + 4 + 8 * i
    { producer := numAt rd o 2, consumer := numAt rd (o + 2) 2, depth := numAt rd (o + 4) 2,
      store := numAt rd (o + 6) 1 })

/-- Operation records (Table 3.1): a count, the records, then the successor list. -/
def readOps (rd : Nat → Byte) (e : SectEntry) : List OpRec :=
  let n := numAt rd e.offset 4
  let succBase := e.offset + 4 + 32 * n
  (List.range n).map (fun i =>
    let o := e.offset + 4 + 32 * i
    let sf := numAt rd (o + 16) 4
    let sc := numAt rd (o + 20) 2
    let qc := numAt rd (o + 22) 2
    let qf := numAt rd (o + 24) 4
    { facet := numAt rd o 1, slot := numAt rd (o + 1) 1, depInit := numAt rd (o + 2) 2,
      issue := numAt rd (o + 4) 4, deadline := numAt rd (o + 8) 4, wcc := numAt rd (o + 12) 4,
      codeEntry := numAt rd (o + 28) 4,
      succs := (List.range sc).map (fun k => numAt rd (succBase + 4 * (sf + k)) 4),
      queues := (List.range qc).map (fun k => numAt rd (e.offset + qf + 2 * k) 2) })

/-- The four arrays of the CONTRACT section start here (Table 3.2): arrival windows, slack, DRAM ports, queue bounds. -/
def contractBases (rd : Nat → Byte) (e : SectEntry) : Nat × Nat × Nat × Nat :=
  let b0 := e.offset
  let b1 := b0 + 4 + 16 * numAt rd b0 4
  let b2 := b1 + 4 + 16 * numAt rd b1 4
  let b3 := b2 + 4 + 16 * numAt rd b2 4
  (b0, b1, b2, b3)

def readWindows (rd : Nat → Byte) (e : SectEntry) : List WindowRec :=
  let b := (contractBases rd e).1
  (List.range (numAt rd b 4)).map (fun i =>
    let o := b + 4 + 16 * i
    { endpoint := numAt rd o 2, ref := numAt rd (o + 2) 1, slot := numAt rd (o + 3) 1,
      opens := numAt rd (o + 4) 4, closes := numAt rd (o + 8) 4, words := numAt rd (o + 12) 4 })

def readSlacks (rd : Nat → Byte) (e : SectEntry) : List SlackRec :=
  let b := (contractBases rd e).2.1
  (List.range (numAt rd b 4)).map (fun i =>
    let o := b + 4 + 16 * i
    let wc := numAt rd (o + 1) 1
    let wf := numAt rd (o + 8) 4
    { island := numAt rd o 1, slackNs := numAt rd (o + 4) 4,
      windows := (List.range wc).map (fun k =>
        (numAt rd (e.offset + wf + 8 * k) 4, numAt rd (e.offset + wf + 8 * k + 4) 4)) })

def readPorts (rd : Nat → Byte) (e : SectEntry) : List PortRec :=
  let b := (contractBases rd e).2.2.1
  (List.range (numAt rd b 4)).map (fun i =>
    let o := b + 4 + 16 * i
    { port := numAt rd o 1, cls := numAt rd (o + 1) 1, channels := numAt rd (o + 2) 1,
      bytesPerFrame := numAt rd (o + 4) 4, latencyTarget := numAt rd (o + 8) 4, deadline := numAt rd (o + 12) 4 })

def readBounds (rd : Nat → Byte) (e : SectEntry) : List BoundRec :=
  let b := (contractBases rd e).2.2.2
  (List.range (numAt rd b 4)).map (fun i =>
    let o := b + 4 + 8 * i
    { queue := numAt rd o 2, maxOcc := numAt rd (o + 2) 2, words := numAt rd (o + 4) 4 })

/-- The DRAM section (Table 14.2). -/
def readDram (rd : Nat → Byte) (e : SectEntry) : DramRec :=
  let o := e.offset
  { chanMask := numAt rd o 1,
    spCodes := (List.range (numAt rd (o + 1) 1)).map (fun i => if i < 3 then numAt rd (o + 2 + i) 1 else 0xFF),
    spBoot := numAt rd (o + 5) 1, trackMs := numAt rd (o + 6) 2, switchStart := numAt rd (o + 8) 4,
    switchLen := numAt rd (o + 12) 4, poolBase := numAt rd (o + 16) 8, poolSize := numAt rd (o + 24) 8,
    density := (List.range 8).map (fun c => numAt rd (o + 0x20 + c) 1),
    ports := (List.range (numAt rd (o + 0x28) 4)).map (fun i =>
      let p := o + 64 + 16 * i
      { port := numAt rd p 1, winStart := numAt rd (p + 4) 4, winLen := numAt rd (p + 8) 4 }) }

/-- A slot record (Table 10.2). -/
def readSlot (rd : Nat → Byte) (o : Nat) : SlotRec :=
  { kind := numAt rd o 1, index := numAt rd (o + 1) 1, passes := numAt rd (o + 2) 2, startNs := numAt rd (o + 4) 4,
    lengthNs := numAt rd (o + 8) 4, lineQ := numAt rd (o + 12) 4, blankNs := numAt rd (o + 16) 2,
    expFirst := numAt rd (o + 18) 2, expPasses := numAt rd (o + 20) 2 }

/-- The TIMELINE section (Table 10.1): a 16-byte header and eight slot records. -/
def readTimeline (rd : Nat → Byte) (e : SectEntry) : Timeline :=
  let o := e.offset
  { num := numAt rd o 4, den := numAt rd (o + 4) 4, lines := numAt rd (o + 8) 2, nImage := numAt rd (o + 10) 1,
    nShadow := numAt rd (o + 11) 1, scan := numAt rd (o + 12) 1, maxLayers := numAt rd (o + 13) 1,
    maxOverlap := numAt rd (o + 14) 1, slots := (List.range 8).map (fun i => readSlot rd (o + 16 + 32 * i)) }

/-- The CHAINS section (Table 8.6). -/
def readChains (rd : Nat → Byte) (e : SectEntry) : List ChainRec :=
  (List.range (numAt rd e.offset 4)).map (fun i =>
    let o := e.offset + 4 + 32 * i
    { chain := numAt rd o 1, rate := numAt rd (o + 1) 1, n := numAt rd (o + 2) 1, mode := numAt rd (o + 3) 1,
      width := numAt rd (o + 4) 2, height := numAt rd (o + 6) 2, emitters := numAt rd (o + 8) 1,
      poolDepth := numAt rd (o + 9) 1, qpMin := numAt rd (o + 10) 1, qpInit := numAt rd (o + 11) 1,
      sliceRows := numAt rd (o + 12) 4, refreshRows := numAt rd (o + 16) 4, roiMax := numAt rd (o + 20) 2 })

/-- The INIT records from `off` to the end `stop` of the section, with their offsets from the section start `base`
(destination word, length word, data padded to 4 bytes). `fuel` bounds the count. -/
def readInits (rd : Nat → Byte) (base stop : Nat) : Nat → Nat → List (Nat × Nat × Nat)
  | 0, _ => []
  | fuel + 1, off =>
    if off + 8 ≤ stop then
      let len := numAt rd (off + 4) 4
      (off - base, numAt rd off 4, len) :: readInits rd base stop fuel (off + 8 + 4 * ceilDiv len 4)
    else []

/-- The raw INIT records: (offset in the section, destination word, length). -/
def initRaws (rd : Nat → Byte) (e : SectEntry) : List (Nat × Nat × Nat) :=
  readInits rd e.offset (e.offset + e.length) (e.length / 8) e.offset

/-- Elements of the BLOB default whose INIT record sits at offset `off` of the INIT section with destination 0xFF. -/
def blobDefaultAt (rd : Nat → Byte) (e : SectEntry) (off : Nat) : List Nat :=
  match (initRaws rd e).find? (fun r => r.1 == off && r.2.1 / 2 ^ 24 == 0xFF) with
  | none => []
  | some r => (List.range (r.2.2 / 4)).map (fun k => numAt rd (e.offset + r.1 + 8 + 4 * k) 4)

/-- The PARAMS section (Table 2.10). -/
def readParams (rd : Nat → Byte) (e init : SectEntry) : List ParamRec :=
  (List.range (numAt rd e.offset 4)).map (fun i =>
    let o := e.offset + 4 + 32 * i
    let ty := numAt rd (o + 2) 1
    let d := numAt rd (o + 16) 4
    { id := numAt rd o 2, type := ty, apply := numAt rd (o + 3) 1, size := numAt rd (o + 4) 2,
      min := numAt rd (o + 8) 4, max := numAt rd (o + 12) 4, dflt := d,
      blobDefault := if ty = 3 then blobDefaultAt rd init d else [] })

/-- The INIT records as data (chapter 2, The container). -/
def readInitRecs (rd : Nat → Byte) (e : SectEntry) : List InitRec :=
  (initRaws rd e).map (fun r =>
    { island := r.2.1 / 2 ^ 24, offset := r.2.1 % 2 ^ 20, data := bytesAt rd (e.offset + r.1 + 8) r.2.2 })

/-- The whole image (its CODE section stays opaque, R6). -/
def readImage (rd : Nat → Byte) : Image :=
  let t := sectTable rd (numAt rd 0x0D 1)
  let sig := sectOf t 0x00FF
  { role := if numAt rd 0x0C 1 = 1 then .sender else .tile
    imageId := numAt rd 0x20 8
    imageLength := numAt rd 0x08 4
    minSilicon := numAt rd 0x14 1
    minFirmware := numAt rd 0x18 4
    securityVersion := numAt rd (sig.offset + 8) 4
    keyId := bytesAt rd sig.offset 8
    routes := readRoutes rd (sectOf t 0x0001)
    islands := readIslands rd (sectOf t 0x0002)
    queues := readQueues rd (sectOf t 0x0003)
    ops := readOps rd (sectOf t 0x0005)
    windows := readWindows rd (sectOf t 0x0006)
    slacks := readSlacks rd (sectOf t 0x0006)
    ports := readPorts rd (sectOf t 0x0006)
    bounds := readBounds rd (sectOf t 0x0006)
    dram := readDram rd (sectOf t 0x0007)
    timeline := readTimeline rd (sectOf t 0x0008)
    chains := readChains rd (sectOf t 0x0009)
    params := readParams rd (sectOf t 0x000A) (sectOf t 0x000B)
    inits := readInitRecs rd (sectOf t 0x000B) }

end Sys2Proof.Machine
end

