-- ==== Sys2Proof/Machine/Admission.lean ====
section
/-! DEFINITION. Admission: the 13 steps of Table 2.9 over an image's bytes, in their order, stopping at the first failure
(R26, R29 to R36, R41, R44, R46, R51, R121, R123, R164, R165, R183, R249, R257, R401). -/
namespace Sys2Proof.Machine

/-- What admission of an image takes from the device. -/
structure AdmCtx where
  /-- silicon revision and running firmware version -/
  siliconRev : Nat
  firmware : Nat
  /-- LENGTH of the staging session that wrote the slot (R29) -/
  recorded : Nat
  /-- public key of a KEY_ID that is known, not revoked and permitted for images in the lifecycle state (R31) -/
  keyOf : List Byte → Option (List Byte)
  /-- structure-image security floor (R31) -/
  floor : Nat
  /-- LMP_MAP as it stands (R216) -/
  map : Word
  /-- training result code of each channel (Table 14.5), at boot -/
  train : Nat → Nat
  /-- the running image, for a staged image (R257) -/
  running : Option Image

/-- A failure: code and step of Table 2.9, GEN_ADM_DETAIL0 as (section type, record), GEN_ADM_DETAIL1. -/
structure AdmFail where
  code : Nat
  step : Nat
  sect : Nat
  rcd : Nat
  elem : Nat
  deriving DecidableEq, Repr

/-- One check: the failure if the condition holds. -/
def failIf (c : Bool) (f : AdmFail) : Option AdmFail := if c then some f else none

/-- The first failure of a list of checks. -/
def firstFail (l : List (Option AdmFail)) : Option AdmFail := l.findSome? id

/-- Step 1, ADM_FORMAT: the header (R29, Table 2.2). -/
def admFormat (rd : Nat → Byte) (ctx : AdmCtx) : Option AdmFail :=
  let len := numAt rd 8 4
  failIf (numAt rd 0 4 != 0x4E555244 || numAt rd 4 2 != 1 ||
      decide (len % 4096 ≠ 0) || decide (len < 65536) || decide (len > 134217728) || decide (len > ctx.recorded) ||
      numAt rd 0x28 4 != 0x100 ||
      !allZero (bytesAt rd 0x0E 2) || !allZero (bytesAt rd 0x15 3) || !allZero (bytesAt rd 0x2C 208) ||
      numAt rd 0xFC 4 != crc32c (bytesAt rd 0 0xFC))
    { code := 1, step := 1, sect := 0, rcd := 0, elem := 0 }

/-- Step 2, ADM_TARGET. -/
def admTarget (rd : Nat → Byte) (ctx : AdmCtx) : Option AdmFail :=
  failIf (numAt rd 0x10 4 != 0x9600 || decide (numAt rd 0x14 1 > ctx.siliconRev) ||
      decide (numAt rd 0x18 4 > ctx.firmware))
    { code := 2, step := 2, sect := 0, rcd := 0, elem := 0 }

/-- The section types of Table 2.4, and those it marks mandatory. -/
def sectTypes : List Nat := [1, 2, 3, 4, 5, 6, 7, 8, 9, 0x0A, 0x0B, 0xFF]
def sectMandatory : List Nat := [1, 2, 3, 4, 5, 6, 7, 8, 9, 0x0A, 0xFF]

/-- A failure of step 3 naming a section type and a record. -/
def sectFail (ty i : Nat) : AdmFail := { code := 3, step := 3, sect := ty, rcd := i, elem := 0 }

/-- Bits [23:20] of an INIT record's destination, which the text gives no meaning and the model takes as reserved (DEDUCED, log entry
18), and its padding, are zero (R29). -/
def initDirty (rd : Nat → Byte) (e : SectEntry) (r : Nat × Nat × Nat) : Bool :=
  decide (r.2.1 / 2 ^ 20 % 16 ≠ 0) || !allZero (bytesAt rd (e.offset + r.1 + 8 + r.2.2) (4 * ceilDiv r.2.2 4 - r.2.2))

/-- One INIT record: inside 1 MiB and the section, clear of the island's queue share (chapter 2). -/
def initBad (e : SectEntry) (isl : List IslandRec) (r : Nat × Nat × Nat) : Bool :=
  let dest := r.2.1 / 2 ^ 24
  let off := r.2.1 % 2 ^ 20
  let share := ((isl.find? (fun x => x.island == dest)).map (·.queueShare)).getD 0
  decide (off + r.2.2 > 2 ^ 20) || (decide (dest < 32) && decide (off < share * 4096) && decide (0 < r.2.2)) ||
    decide (r.1 + 8 + r.2.2 > e.length)

/-- Step 3, ADM_SECTION: the section table, the section CRCs and the INIT records (R30, R31, Table 2.3). -/
def admSection (rd : Nat → Byte) : Option AdmFail :=
  let n := numAt rd 0x0D 1
  let len := numAt rd 8 4
  if n < 11 ∨ n > 32 then some (sectFail 0 0)
  else
    let t := sectTable rd n
    let idx := List.range n
    let ent : Nat → SectEntry := fun i => t.getD i { type := 0, flags := 0, offset := 0, length := 0, crc := 0 }
    let init := sectOf t 0x0B
    firstFail
      [ idx.findSome? (fun i => failIf (decide ((ent i).flags / 2 ≠ 0)) (sectFail (ent i).type 0)),
        idx.findSome? (fun i =>
          let e := ent i
          failIf (decide (e.length = 0) || decide (e.offset % 4096 ≠ 0) || decide (e.offset < 0x100 + 16 * n) ||
              decide (e.offset + e.length > len) ||
              (decide (0 < i) && decide (e.offset < (ent (i - 1)).offset + (ent (i - 1)).length)) ||
              (!sectTypes.contains e.type && decide (e.flags % 2 = 0)) ||
              ((List.range i).any (fun j => (ent j).type == e.type)))
            (sectFail e.type 0)),
        sectMandatory.findSome? (fun ty => failIf (!t.any (fun e => e.type == ty)) (sectFail ty 0)),
        failIf ((ent (n - 1)).type != 0xFF || (sectOf t 0xFF).length != 256 || (sectOf t 0xFF).offset != len - 4096)
          (sectFail 0xFF 0),
        idx.findSome? (fun i =>
          let e := ent i
          failIf (sectTypes.contains e.type &&
              e.crc != crc32c (bytesAt rd e.offset (if e.type = 0xFF then 16 else e.length)))
            (sectFail e.type 0)),
        if init.length = 0 then none
        else
          let isl := readIslands rd (sectOf t 2)
          let recs := initRaws rd init
          (recs.zipIdx.findSome? (fun p => failIf (initDirty rd init p.1) (sectFail 0x0B p.2))).or
            (recs.zipIdx.findSome? (fun p => failIf (initBad init isl p.1) (sectFail 0x0B p.2))) ]

/-- Step 4, ADM_SIGNATURE: reserved bytes, key and signature (R31). -/
def admSignature (rd : Nat → Byte) (ctx : AdmCtx) : Option AdmFail :=
  let sig := numAt rd 8 4 - 4096
  let bad :=
    !allZero (bytesAt rd (sig + 0x0C) 4) || !allZero (bytesAt rd (sig + 0x82) 126) ||
      match ctx.keyOf (bytesAt rd sig 8) with
      | none => true
      | some pub =>
        !Config.ed448phVerify pub (asciiBytes "DN9600-SI") (bytesAt rd 0 (sig + 0x10)) (bytesAt rd (sig + 0x10) 114)
  failIf bad { code := 4, step := 4, sect := 0xFF, rcd := 0, elem := 0 }

/-- Step 5, ADM_ROLLBACK. -/
def admRollback (rd : Nat → Byte) (ctx : AdmCtx) : Option AdmFail :=
  failIf (decide (numAt rd (numAt rd 8 4 - 4096 + 8) 4 < ctx.floor))
    { code := 5, step := 5, sect := 0xFF, rcd := 0, elem := 0 }

/-- The class and the index of an endpoint (Table 2.6). -/
def endClass (e : Nat) : Nat := e / 4096
def endIndex (e : Nat) : Nat := e % 4096

/-- Whether an endpoint is one of Table 2.6 for the role. -/
def endpointOk (role : Role) (e : Nat) : Bool :=
  let i := endIndex e
  match endClass e, role with
  | 0, _ => decide (i ≤ 127)
  | 1, .sender => decide (i ≤ 15)
  | 2, .sender => decide (i ≤ 16)
  | 3, .sender => decide (i ≤ 3)
  | 4, .tile => i == 0
  | 5, .tile => i == 0
  | 6, _ => decide (i ≤ 63)
  | 7, _ => i == 0
  | 8, _ => decide (i ≤ 15)
  | 9, .tile => i == 0
  | _, _ => false

/-- Whether the facet endpoint `e` lies in a declared island. -/
def facetDeclared (isl : List IslandRec) (e : Nat) : Bool := isl.any (fun r => r.island == endIndex e / 4)

/-- Bytes of a section after offset `used` of it are padding and must be zero (R29). -/
def tailClean (rd : Nat → Byte) (e : SectEntry) (used : Nat) : Bool :=
  decide (used ≤ e.length) && allZero (bytesAt rd (e.offset + used) (e.length - used))

/-- One route against R32. -/
def routeBad (im : Image) (r : RouteRec) : Bool :=
  let fs := endClass r.src == 0
  let fd := endClass r.dst == 0
  !endpointOk im.role r.src || !endpointOk im.role r.dst ||
    (fs && !facetDeclared im.islands r.src) || (fd && !facetDeclared im.islands r.dst) ||
    (if fs || fd then
        decide (r.queueCount = 0) ||
          (List.range r.queueCount).any (fun k =>
            match im.queues[r.firstQueue + k]? with
            | none => true
            | some q => q.producer != r.src || q.consumer != r.dst)
      else decide (r.queueCount ≠ 0))

/-- Step 6: ADM_ROLE, then ADM_ROUTE. -/
def admRoute (rd : Nat → Byte) (t : List SectEntry) (im : Image) : Option AdmFail :=
  let e := sectOf t 1
  firstFail
    [ failIf (numAt rd 0x0C 1 != 1 && numAt rd 0x0C 1 != 2) { code := 6, step := 6, sect := 0, rcd := 0, elem := 0 },
      failIf (!tailClean rd e (4 + 8 * im.routes.length)) { code := 7, step := 6, sect := 1, rcd := 0, elem := 0 },
      (List.range im.routes.length).findSome? (fun i =>
        (im.routes[i]?).bind (fun r =>
          failIf (routeBad im r) { code := 7, step := 6, sect := 1, rcd := satTo 0xFFFF i, elem := i })) ]

/-- The identifiers of Table 2.1 that an image of the role may name. -/
def islandIdOk (role : Role) (i : Nat) : Bool :=
  decide (i ≤ 40) &&
    match role with
    | .sender => i != 38
    | .tile => i != 32 && i != 36 && i != 37 && i != 39

/-- The frequency rule of Table 2.1 for one record: range and 6.25 MHz steps, or the fixed or derived values. -/
def islandFreqOk (r : IslandRec) : Bool :=
  let stepOk (lo hi f : Nat) : Bool := decide (lo ≤ f) && decide (f ≤ hi) && decide (f % 6250 = 0)
  let both (lo hi : Nat) : Bool := stepOk lo hi r.floorKhz && stepOk lo hi r.nominalKhz
  if r.island ≤ 31 then both 200000 1600000
  else if r.island = 32 then both 200000 1200000
  else if r.island = 38 then r.floorKhz == 1000000 && r.nominalKhz == 1000000
  else if r.island = 39 then both 400000 1000000
  else if r.island = 40 then both 400000 1200000
  else r.floorKhz == 0 && r.nominalKhz == 0

/-- Sum of POWER_MW over the ENABLED islands plus the role's fixed share, against its limit (R33). -/
def powerOk (im : Image) : Bool :=
  let sum := ((im.islands.filter (·.enabled)).map (·.powerMw)).sum
  match im.role with
  | .sender => decide (sum + 14000 ≤ 62000)
  | .tile => decide (sum + 5000 ≤ 18000)

/-- Step 7: ADM_ISLAND, then ADM_POWER (R26, R33). An operation on a facet of an island that is not declared passes here and fails at step
11 with ADM_SCHEDULE, as Table 2.9 says, although R33 asks that its island be ENABLED (DEDUCED, log entry 18). -/
def admIsland (rd : Nat → Byte) (t : List SectEntry) (im : Image) : Option AdmFail :=
  let e := sectOf t 2
  let f (i : Nat) : AdmFail := { code := 8, step := 7, sect := 2, rcd := satTo 0xFFFF i, elem := i }
  firstFail
    [ (List.range im.islands.length).findSome? (fun i =>
        failIf (decide (numAt rd (e.offset + 4 + 16 * i + 1) 1 / 2 ≠ 0)) (f i)),
      failIf (!tailClean rd e (4 + 16 * im.islands.length)) (f 0),
      (List.range im.islands.length).findSome? (fun i =>
        (im.islands[i]?).bind (fun r =>
          failIf (!islandIdOk im.role r.island || !islandFreqOk r || decide (r.floorKhz > r.nominalKhz) ||
              (if r.island ≤ 31 then decide (r.queueShare > 256) else r.queueShare != 0) ||
              (List.range i).any (fun j => (im.islands[j]?).any (fun x => x.island == r.island)) ||
              (decide (r.island ≤ 31) && !r.enabled && im.ops.any (fun o => o.facet / 4 == r.island)))
            (f i))),
      failIf (!powerOk im) { code := 9, step := 7, sect := 2, rcd := 0, elem := 0 } ]

/-- The facet island that must store a queue: its consumer's, else its producer's (R34). -/
def queueHome (q : QueueRec) : Option Nat :=
  if endClass q.consumer = 0 then some (endIndex q.consumer / 4)
  else if endClass q.producer = 0 then some (endIndex q.producer / 4)
  else none

/-- The first queue at which island `i`'s stored words exceed its share (R34). -/
def firstOverflow (im : Image) (i share : Nat) : Option Nat :=
  let r := im.queues.foldl
    (fun (acc : Nat × Nat × Option Nat) q =>
      let sum := acc.1 + (if q.store = i then q.depth * 64 else 0)
      (sum, acc.2.1 + 1,
        match acc.2.2 with
        | some k => some k
        | none => if q.store = i ∧ sum > share * 4096 then some acc.2.1 else none))
    (0, 0, none)
  r.2.2

/-- Step 8, ADM_QUEUE (R34). -/
def admQueue (rd : Nat → Byte) (t : List SectEntry) (im : Image) : Option AdmFail :=
  let e := sectOf t 3
  let f (i : Nat) : AdmFail := { code := 0x0A, step := 8, sect := 3, rcd := satTo 0xFFFF i, elem := i }
  firstFail
    [ (List.range im.queues.length).findSome? (fun i => failIf (numAt rd (e.offset + 4 + 8 * i + 7) 1 != 0) (f i)),
      failIf (!tailClean rd e (4 + 8 * im.queues.length)) (f 0),
      failIf (decide (im.queues.length > 32512)) (f 32512),
      (List.range im.queues.length).findSome? (fun i =>
        (im.queues[i]?).bind (fun q =>
          failIf (!endpointOk im.role q.producer || !endpointOk im.role q.consumer ||
              queueHome q != some q.store || decide (q.depth < 1) || decide (q.depth > 4096))
            (f i))),
      ((im.islands.filter (fun r => decide (r.island ≤ 31))).filterMap
        (fun r => firstOverflow im r.island r.queueShare)).head?.map f,
      (im.queues.zipIdx.find? (fun p => !im.islands.any (fun r => r.island == p.1.store))).map (fun p => f p.2) ]

/-- GiB of a CH_DENSITY code (Table 14.2). -/
def densityGiB (code : Nat) : Nat := [0, 2, 4, 8, 12, 16].getD (code % 128) 0

/-- The populated DRAM address space in bytes (R248). -/
def dramBytes (d : DramRec) : Nat := (d.density.map (fun c => densityGiB c * 2 ^ 30)).sum

/-- The DRAM section's own conditions (R249). -/
def dramFieldBad (rd : Nat → Byte) (e : SectEntry) (im : Image) : Bool :=
  let d := im.dram
  let sc := numAt rd (e.offset + 1) 1
  let spAt (i : Nat) : Nat := numAt rd (e.offset + 2 + i) 1
  let pool := d.poolBase + d.poolSize
  !allZero (bytesAt rd (e.offset + 0x2C) 20) ||
    (List.range d.ports.length).any (fun i =>
      !allZero (bytesAt rd (e.offset + 64 + 16 * i + 1) 3) || !allZero (bytesAt rd (e.offset + 64 + 16 * i + 12) 4)) ||
    !tailClean rd e (64 + 16 * d.ports.length) ||
    (match im.role with
      | .tile => d.chanMask != 0x03
      | .sender => d.chanMask != 0x0F && d.chanMask != 0xFF) ||
    decide (sc < 1) || decide (sc > 3) ||
    (List.range 3).any (fun i =>
      if i < sc then decide (spAt i > 7) || (decide (0 < i) && decide (spAt i ≤ spAt (i - 1))) else spAt i != 0xFF) ||
    decide (d.spBoot ≥ sc) || decide (d.trackMs < 10) || decide (d.trackMs > 1000) ||
    decide (d.switchStart ≥ periodNs im.timeline) ||
    (d.switchLen != 0 &&
      (decide (d.switchLen < 10000) || decide (d.switchLen > periodNs im.timeline - d.switchStart))) ||
    decide (d.poolBase % 65536 ≠ 0) || decide (d.poolSize % 65536 ≠ 0) ||
    (List.range 8).any (fun c =>
      let k := d.density.getD c 0
      decide (k % 128 > 5) || (k % 128 == 0) == natBit d.chanMask c || (decide (k % 128 = 0) && k != 0)) ||
    decide (pool > dramBytes d) || decide (d.ports.length > 64) ||
    (List.range d.ports.length).any (fun i =>
      (d.ports[i]?).any (fun p =>
        !im.ports.any (fun q => q.port == p.port) ||
          (List.range i).any (fun j => (d.ports[j]?).any (fun x => x.port == p.port))))

/-- A failure of step 9 with a channel and a training result (Table 14.5). -/
def dramFail (chan result : Nat) : AdmFail :=
  { code := 0x0B, step := 9, sect := 7, rcd := 0, elem := chan + 256 * result }

/-- Step 9, ADM_DRAM (R249, R256, R257). -/
def admDram (rd : Nat → Byte) (t : List SectEntry) (ctx : AdmCtx) (im : Image) : Option AdmFail :=
  let e := sectOf t 7
  if dramFieldBad rd e im then some (dramFail 0xF 0x0F)
  else
    match ctx.running with
    | none =>
      ((setBits 8 im.dram.chanMask).find? (fun c => ctx.train c != 0)).map (fun c => dramFail c (ctx.train c))
    | some r =>
      match (List.range 8).find? (fun c =>
        natBit r.dram.chanMask c != natBit im.dram.chanMask c ||
          r.dram.density.getD c 0 != im.dram.density.getD c 0) with
      | some c => some (dramFail c 0x0E)
      | none => failIf (im.dram.spCodes.any (fun k => !r.dram.spCodes.contains k)) (dramFail 0xF 0x0D)

/-- A failure of step 10 with ADM_CHAIN. -/
def chainFail (sect rcd elem : Nat) : AdmFail := { code := 0x0C, step := 10, sect := sect, rcd := rcd, elem := elem }

/-- The header of the TIMELINE section (Table 10.1, R183). -/
def timelineHeaderBad (im : Image) : Bool :=
  let tl := im.timeline
  decide (tl.num < 1) || decide (tl.num > 1000000) || decide (tl.den < 1) || decide (tl.den > 1000000) ||
    decide (tl.lines < 16) || decide (tl.lines > 4096) || decide (tl.nImage < 1) || decide (tl.nImage > 4) ||
    decide (tl.nShadow > 4) || decide (tl.scan < 1) || decide (tl.scan > 64) ||
    (match im.role with
      | .sender => decide (tl.maxLayers < 1) || decide (tl.maxLayers > 64) || decide (tl.maxOverlap < 1) ||
          decide (tl.maxOverlap > 64)
      | .tile => tl.maxLayers != 0 || tl.maxOverlap != 0) ||
    decide (tl.num < 23 * tl.den) || decide (tl.num > 240 * tl.den) || decide (tl.nImage * tl.num > 960 * tl.den)

/-- The reserved bytes of a declared slot record are zero (R29, Table 10.2). -/
def slotDirty (rd : Nat → Byte) (o : Nat) (r : SlotRec) : Bool := r.kind != 0 && !allZero (bytesAt rd (o + 22) 10)

/-- The field ranges of one slot record (Table 10.2). -/
def slotFieldBad (rd : Nat → Byte) (o : Nat) (r : SlotRec) : Bool :=
  match r.kind with
  | 0 => !allZero (bytesAt rd o 32)
  | 1 =>
    decide (r.index > 3) || decide (r.passes < 1) || decide (r.passes > 255) ||
      decide (r.blankNs < 100) || decide (r.blankNs > 10000) || decide (r.blankNs * 8 ≥ r.lineQ) ||
      decide (r.expFirst + r.expPasses > r.passes)
  | 2 => decide (r.index > 3) || r.passes != 0 || r.lineQ != 0 || r.blankNs != 0
  | _ => true

/-- Whether slot record `i` violates the relations of R183 with the other records. -/
def slotRelBad (tl : Timeline) (i : Nat) (r : SlotRec) : Bool :=
  let prior := (tl.slots.take i)
  let lim := if r.kind = 1 then tl.nImage else tl.nShadow
  (r.kind != 0) &&
    (decide (r.index ≥ lim) || prior.any (fun x => x.kind == r.kind && x.index == r.index) ||
      decide (r.startNs + r.lengthNs > periodNs tl) ||
      prior.any (fun x => x.kind != 0 && decide (x.startNs < r.startNs + r.lengthNs) &&
        decide (r.startNs < x.startNs + x.lengthNs)) ||
      (r.kind == 1 &&
        ((tl.slots.any (fun x => x.kind == 1 &&
            ((decide (x.index < r.index) && decide (x.startNs ≥ r.startNs))))) ||
          decide (r.lengthNs * 8 ≠ r.passes * tl.scan * r.lineQ))))

/-- The TIMELINE checks of step 10 (R183). -/
def admTimeline (rd : Nat → Byte) (t : List SectEntry) (ctx : AdmCtx) (im : Image) : Option AdmFail :=
  let e := sectOf t 8
  let tl := im.timeline
  let g := admissionGlint ctx.map im.role tl im.chains
  let recs := tl.slots.zipIdx
  firstFail
    [ failIf (numAt rd (e.offset + 15) 1 != 0 || !tailClean rd e 272) (chainFail 8 0 0xFF),
      recs.findSome? (fun p => failIf (slotDirty rd (e.offset + 16 + 32 * p.2) p.1) (chainFail 8 p.2 p.2)),
      failIf (timelineHeaderBad im) (chainFail 8 0 0xFF),
      recs.findSome? (fun p =>
        failIf (slotFieldBad rd (e.offset + 16 + 32 * p.2) p.1 || slotRelBad tl p.2 p.1) (chainFail 8 p.2 p.2)),
      failIf ((tl.slots.filter (fun r => r.kind == 1)).length != tl.nImage ||
          (tl.slots.filter (fun r => r.kind == 2)).length != tl.nShadow) (chainFail 8 0 0xFF),
      failIf (!blankingLine tl (tl.lines - 1)) (chainFail 8 0 0xFF),
      recs.findSome? (fun p => failIf (p.1.kind == 1 && !deliveryOk tl p.1.index g) (chainFail 8 p.2 p.2)) ]

/-- The full-raw bound F of R165. -/
def fullRawRows (c : Nat) : Nat := ceilDiv (48 + 9220 * c) 256

/-- The field ranges of one CHAINS record (Table 8.6, R123). -/
def chainFieldBad (role : Role) (r : ChainRec) : Bool :=
  (match role with
      | .sender => decide (r.chain > 3)
      | .tile => r.chain != 0xFF) ||
    decide (r.rate > 7) || decide (r.n < 1) || decide (r.n > 64) || decide (r.mode > 1) ||
    decide (r.width < 16) || decide (r.width > 512) || decide (r.width % 16 ≠ 0) ||
    decide (r.height < 16) || decide (r.height > 512) || decide (r.height % 16 ≠ 0) ||
    decide (r.emitters < 1) || decide (r.emitters > 4) || decide (r.qpMin > 47) || decide (r.qpInit < r.qpMin) ||
    decide (r.qpInit > 47) || decide (r.sliceRows < 1) || decide (r.roiMax > cellCount r)

/-- The inequalities of R165. -/
def chainBudgetBad (tl : Timeline) (r : ChainRec) : Bool :=
  let c := cellCount r
  let f := fullRawRows c
  (if r.mode = 0 then decide (r.sliceRows < f) || r.refreshRows != 0
    else decide (r.sliceRows + r.refreshRows < f) ||
      decide (48 + 9220 * r.roiMax + uMax c * (r.roiMax + 1) > 256 * r.sliceRows)) ||
    decide (r.n * (r.sliceRows + 1) + r.refreshRows + 64 > windowRows tl r.rate)

/-- The CHAINS checks and ADM_CAPACITY of step 10 (R121, R164, R165). -/
def admChains (rd : Nat → Byte) (t : List SectEntry) (im : Image) : Option AdmFail :=
  let e := sectOf t 9
  let k := im.chains.length
  let tl := im.timeline
  let load := (im.chains.map (fun c => c.n * c.width * c.height)).sum * tl.nImage * ceilDiv tl.maxOverlap 4
  firstFail
    [ failIf (!tailClean rd e (4 + 32 * k)) (chainFail 9 0 0xFF),
      im.chains.zipIdx.findSome? (fun p =>
        failIf (!allZero (bytesAt rd (e.offset + 4 + 32 * p.2 + 22) 10)) (chainFail 9 p.2 p.1.chain)),
      failIf (match im.role with
        | .sender => decide (k < 1) || decide (k > 4)
        | .tile => k != 1) (chainFail 9 0 0xFF),
      im.chains.zipIdx.findSome? (fun p =>
        failIf (chainFieldBad im.role p.1 || chainBudgetBad tl p.1 ||
            (im.chains.take p.2).any (fun x => x.chain == p.1.chain))
          (chainFail 9 p.2 p.1.chain)),
      match im.role with
      | .sender => failIf (decide (load * tl.num > 16106127360 * tl.den))
          { code := 0x0D, step := 10, sect := 9, rcd := 0, elem := 0 }
      | .tile => none ]

/-- The queues an operation reads: those in its list whose consumer is its facet (R401). -/
def opReads (im : Image) (o : OpRec) : List Nat :=
  o.queues.filter (fun q => (im.queues[q]?).any (fun r => r.consumer == o.facet))

/-- The queues an operation writes (R401). -/
def opWrites (im : Image) (o : OpRec) : List Nat :=
  o.queues.filter (fun q => (im.queues[q]?).any (fun r => r.producer == o.facet))

/-- The queues of an arrival window: those whose producer is its endpoint (R401). -/
def windowQueues (im : Image) (w : WindowRec) : List Nat :=
  (im.queues.zipIdx.filter (fun p => p.1.producer == w.endpoint)).map (·.2)

/-- Whether an operation reads at least one queue of a window (R401). -/
def opWaits (im : Image) (w : WindowRec) (o : OpRec) : Bool :=
  let qs := windowQueues im w
  (opReads im o).any (fun q => qs.contains q)

/-- DEP_INIT as the image's own records give it: naming entries of successor lists, plus windows read. -/
def depCount (im : Image) (i : Nat) (o : OpRec) : Nat :=
  ((im.ops.map (fun p => (p.succs.filter (· == i)).length)).sum) +
    (im.windows.filter (fun w => opWaits im w o)).length

/-- One round of removing the operations without a predecessor left; what stays after as many rounds as operations has
a dependence cycle. -/
def removeReady (im : Image) (left : List Nat) : List Nat :=
  left.filter (fun i => left.any (fun j => (im.ops[j]?).any (fun p => p.succs.contains i)))

def cycleLeft (im : Image) : Nat → List Nat → List Nat
  | 0, left => left
  | n + 1, left =>
    let l := removeReady im left
    if l.length = left.length then l else cycleLeft im n l

/-- A failure of step 11. -/
def schedFail (sect i : Nat) : AdmFail := { code := 0x0E, step := 11, sect := sect, rcd := satTo 0xFFFF i, elem := i }

/-- Every byte of a section that no record, list entry or reserved field holds is padding and zero (R29): `held` lists the pieces in use
as (offset, length), all of them inside the section. -/
def gapsClean (rd : Nat → Byte) (e : SectEntry) (held : List (Nat × Nat)) : Bool :=
  held.all (fun p => decide (p.1 + p.2 ≤ e.length)) &&
    (List.range e.length).all (fun k => rd (e.offset + k) == 0 || held.any (fun p => decide (p.1 ≤ k) && decide (k < p.1 + p.2)))

/-- The pieces of the SCHEDULE section: the count and the records, the successor list up to the last entry an operation uses, the queue
lists (Table 3.1). -/
def scheduleHeld (rd : Nat → Byte) (e : SectEntry) : List (Nat × Nat) :=
  let n := numAt rd e.offset 4
  let ops := (List.range n).map (fun i => e.offset + 4 + 32 * i)
  let succs := ops.foldl (fun m o => if numAt rd (o + 20) 2 = 0 then m else Nat.max m (numAt rd (o + 16) 4 + numAt rd (o + 20) 2)) 0
  (0, 4 + 32 * n + 4 * succs) :: (ops.map (fun o => (numAt rd (o + 24) 4, 2 * numAt rd (o + 22) 2))).filter (fun p => p.2 != 0)

/-- The pieces of the CONTRACT section: its four arrays and the window lists of its slack records (Table 3.2). -/
def contractHeld (rd : Nat → Byte) (e : SectEntry) : List (Nat × Nat) :=
  let b := contractBases rd e
  let lists := (List.range (numAt rd b.2.1 4)).map (fun i =>
    (numAt rd (b.2.1 + 4 + 16 * i + 8) 4, 8 * numAt rd (b.2.1 + 4 + 16 * i + 1) 1))
  (0, b.2.2.2 + 4 + 8 * numAt rd b.2.2.2 4 - e.offset) :: lists.filter (fun p => p.2 != 0)

/-- Reserved bytes and padding of the CONTRACT section are zero (R29, Table 3.2). -/
def contractClean (rd : Nat → Byte) (e : SectEntry) : Bool :=
  let b := contractBases rd e
  gapsClean rd e (contractHeld rd e) &&
  (List.range (numAt rd b.2.1 4)).all (fun i =>
      allZero (bytesAt rd (b.2.1 + 4 + 16 * i + 2) 2) && allZero (bytesAt rd (b.2.1 + 4 + 16 * i + 12) 4)) &&
    (List.range (numAt rd b.2.2.1 4)).all (fun i => numAt rd (b.2.2.1 + 4 + 16 * i + 3) 1 == 0)

/-- Step 11, ADM_SCHEDULE (chapter 3, Admission arithmetic). -/
def admSchedule (rd : Nat → Byte) (t : List SectEntry) (im : Image) : Option AdmFail :=
  let n := im.ops.length
  let nImg := im.timeline.nImage
  firstFail
    [ failIf (!gapsClean rd (sectOf t 5) (scheduleHeld rd (sectOf t 5))) (schedFail 5 0),
      failIf (!contractClean rd (sectOf t 6)) (schedFail 6 0),
      failIf (decide (n > 1048576)) (schedFail 5 0),
      im.ops.zipIdx.findSome? (fun p =>
        failIf (!facetDeclared im.islands p.1.facet || decide (p.1.facet > 127) || decide (p.1.wcc < 1) ||
            decide (p.1.queues.length > 64) || p.1.succs.any (fun k => decide (k ≥ n)) ||
            p.1.queues.any (fun q => (im.queues[q]?).all
              (fun r => r.producer != p.1.facet && r.consumer != p.1.facet)) ||
            (p.1.slot != 0xFF && decide (p.1.slot ≥ nImg)))
          (schedFail 5 p.2)),
      im.windows.zipIdx.findSome? (fun p =>
        failIf (decide (p.1.ref > 2) || (p.1.ref != 0 && decide (p.1.slot ≥ nImg)) || (windowQueues im p.1).isEmpty)
          (schedFail 6 p.2)),
      im.ops.zipIdx.findSome? (fun p => failIf (p.1.depInit != depCount im p.2 p.1) (schedFail 5 p.2)),
      ((cycleLeft im n (List.range n)).head?).map (schedFail 5) ]

/-- The floor of the island holding a facet (R47). -/
def facetFloor (im : Image) (f : Nat) : Nat :=
  ((im.islands.find? (fun r => r.island == f / 4)).map (·.floorKhz)).getD 0

/-- t_op of an operation in ns: ceil(WCC × 1,000,000 / FLOOR_KHZ) + 24 (R47). -/
def opTime (im : Image) (o : OpRec) : Nat := ceilDiv (o.wcc * 1000000) (facetFloor im o.facet) + 24

/-- Whether half-open intervals [a, a + la) and [b, b + lb) overlap modulo `p` (R51); intervals at most a few periods long. -/
def overlapMod (p a la b lb : Nat) : Bool :=
  decide (0 < la) && decide (0 < lb) && decide (0 < p) &&
    (let a' := a % p
     let b' := b % p
     [0, 1, 2, 3].any (fun k =>
       (decide (a' < b' + k * p + lb) && decide (b' + k * p < a' + la)) ||
         (decide (a' + k * p < b' + lb) && decide (b' < a' + k * p + la))))

/-- The slack record of an island (R51). -/
def slackOf (im : Image) (i : Nat) : SlackRec :=
  (im.slacks.find? (fun s => s.island == i)).getD { island := i, slackNs := 0, windows := [] }

def loadFail (sect rcd elem : Nat) : AdmFail :=
  { code := 0x0F, step := 12, sect := sect, rcd := satTo 0xFFFF rcd, elem := elem }

/-- The ADM_LOAD checks of one facet island (R51). The spec names no facet for a slack-window failure, and no record for an island without
one: the model gives the island's first facet, 4i, and the number of slack records (DEDUCED, log entry 18). -/
def islandLoad (im : Image) (i : Nat) : Option AdmFail :=
  let p := periodNs im.timeline
  let sl := slackOf im i
  let rec' := (im.slacks.findIdx (fun s => s.island == i))
  let f (facet : Nat) : AdmFail := loadFail 6 rec' facet
  let ws := sl.windows
  firstFail
    ([ failIf (decide (sl.slackNs > p) || (ws.map (·.2)).sum != sl.slackNs) (f (4 * i)),
       failIf (ws.zipIdx.any (fun a => ws.zipIdx.any (fun b =>
         decide (a.2 < b.2) && overlapMod p a.1.1 a.1.2 b.1.1 b.1.2))) (f (4 * i)) ] ++
      (List.range 4).map (fun k =>
        let fc := 4 * i + k
        let ops := im.ops.filter (fun o => o.facet == fc)
        failIf (ops.any (fun o => ws.any (fun w => overlapMod p o.issue (o.deadline - o.issue) w.1 w.2)) ||
            decide ((ops.map (opTime im)).sum + sl.slackNs > p))
          (f fc)))

/-- sched_cap of a channel at the lowest declared set point, in bytes per second (R255): 1.9 × D × 10^6. -/
def setPointRate (code : Nat) : Nat := [3200, 4800, 6400, 8533, 9600, 10667, 12000, 12800].getD code 0
def schedCap (d : DramRec) : Nat := 1900000 * setPointRate (d.spCodes.headD 0)

/-- Whether the demand on channel `c` exceeds its capacity: the sum over its ports of BYTES_PER_FRAME / popcount(CHANNELS),
taken exactly over the common denominator 840 (R51). -/
def bandwidthBad (im : Image) (c : Nat) : Bool :=
  let demand840 := ((im.ports.filter (fun p => natBit p.channels c)).map
    (fun p => p.bytesPerFrame * (840 / popcount 8 p.channels))).sum
  decide (demand840 * 1000000000 > schedCap im.dram * periodNs im.timeline * 840)

/-- Step 12: ADM_LOAD, ADM_QUEUE_BOUND, ADM_BANDWIDTH (R46, R51). For ADM_BANDWIDTH the spec gives DETAIL1 alone; DETAIL0 names section 6
and record 0 (DEDUCED, log entry 18). -/
def admSums (im : Image) : Option AdmFail :=
  let p := periodNs im.timeline
  firstFail
    [ im.ops.zipIdx.findSome? (fun q =>
        failIf (decide (q.1.issue ≥ q.1.deadline) || decide (q.1.deadline + 1 > 2 * p) ||
            decide (q.1.issue + opTime im q.1 > q.1.deadline))
          (loadFail 5 q.2 q.2)),
      im.slacks.zipIdx.findSome? (fun q =>
        failIf ((im.slacks.take q.2).any (fun s => s.island == q.1.island)) (loadFail 6 q.2 (4 * q.1.island))),
      ((im.islands.filter (fun r => decide (r.island ≤ 31))).findSome? (fun r => islandLoad im r.island)),
      im.queues.zipIdx.findSome? (fun q =>
        let at_ := satTo 0xFFFF (im.bounds.findIdx (fun b => b.queue == q.2))
        match im.bounds.filter (fun b => b.queue == q.2) with
        | [b] => failIf (decide (b.maxOcc < 1) || decide (b.maxOcc > q.1.depth))
            { code := 0x10, step := 12, sect := 6, rcd := at_, elem := q.2 }
        | _ => some { code := 0x10, step := 12, sect := 6, rcd := at_, elem := q.2 }),
      ((setBits 8 im.dram.chanMask).find? (bandwidthBad im)).map (fun c =>
        { code := 0x11, step := 12, sect := 6, rcd := 0, elem := c }) ]

/-- A row of Table 2.11 for an image: identifier, role (none for both), type, envelope, apply point. -/
structure BuiltIn where
  id : Nat
  role : Option Role
  type : Nat
  min : Nat
  max : Nat
  apply : Nat
  deriving DecidableEq, Repr

/-- Table 2.11, with L_LATCH's envelope from TIMELINE. -/
def builtIns (tl : Timeline) : List BuiltIn :=
  [ { id := 1, role := some .sender, type := 2, min := 0, max := 1, apply := 1 },
    { id := 2, role := some .sender, type := 0, min := 1000, max := 3600000, apply := 1 },
    { id := 3, role := none, type := 0, min := 1, max := 500, apply := 0 },
    { id := 4, role := none, type := 0, min := 0, max := tl.lines - 1, apply := 1 },
    { id := 5, role := none, type := 2, min := 0, max := 1, apply := 0 },
    { id := 6, role := none, type := 0, min := 8, max := 1024, apply := 1 },
    { id := 7, role := some .sender, type := 3, min := 0, max := 0xFFFFF, apply := 2 } ]

/-- The built-in parameters a role has. -/
def builtInsOf (im : Image) : List BuiltIn :=
  (builtIns im.timeline).filter (fun b => b.role == none || b.role == some im.role)

/-- Value comparison of a parameter type: signed for S32 (R41). -/
def paramLe (type a b : Nat) : Bool :=
  if type = 1 then decide (signedOf 32 a ≤ signedOf 32 b) else decide (a ≤ b)

/-- A value lies in the envelope of a record. -/
def inEnvelope (r : ParamRec) (v : Nat) : Bool := paramLe r.type r.min v && paramLe r.type v r.max

/-- Cells of a tile that can be region of interest in one slot: ROI_MAX, or every cell in a LOSSLESS chain, where each is coded lossless
(R163, Table 8.6). -/
def roiCells (c : ChainRec) : Nat := if c.mode = 0 then c.width / 16 * (c.height / 16) else c.roiMax

/-- The image's worst-case region of interest: the cells of every tile and slot of its chains (Table 2.11; DEDUCED, log entry 89). -/
def worstRoi (im : Image) : Nat := (im.chains.map (fun c => c.n * roiCells c)).sum * im.timeline.nImage

/-- One parameter record against R41 and R44. A BLOB record with MIN above MAX, a default longer than SIZE, or a SIZE that is no multiple
of 4 fails too, which R41 does not list (DEDUCED, log entry 18). -/
def paramBad (im : Image) (i : Nat) (r : ParamRec) : Bool :=
  decide (r.id < 1) || decide (r.id > 0xFFF) || decide (r.type > 3) || decide (r.apply > 3) ||
    (if r.type = 3 then decide (r.size > 4096) || decide (r.size % 4 ≠ 0) else r.size != 4) ||
    (if r.type = 3 then !paramLe 0 r.min r.max || decide (r.blobDefault.length * 4 > r.size) ||
        r.blobDefault.any (fun v => !inEnvelope r v)
      else !inEnvelope r r.dflt) ||
    (im.params.take i).any (fun x => x.id == r.id) ||
    (if r.id ≤ 0xFF then
        match (builtInsOf im).find? (fun b => b.id == r.id) with
        | none => true
        | some b => b.type != r.type || b.apply != r.apply || decide (r.min < b.min) || decide (r.max > b.max) ||
          (r.id == 7 && decide (worstRoi im < r.size / 4))
      else false)

/-- Step 13, ADM_PARAM (R41, R44). -/
def admParam (rd : Nat → Byte) (t : List SectEntry) (im : Image) : Option AdmFail :=
  let e := sectOf t 0x0A
  let f (i : Nat) : AdmFail := { code := 0x12, step := 13, sect := 0x0A, rcd := satTo 0xFFFF i, elem := i }
  firstFail
    [ (List.range im.params.length).findSome? (fun i =>
        failIf (!allZero (bytesAt rd (e.offset + 4 + 32 * i + 6) 2) || !allZero (bytesAt rd (e.offset + 4 + 32 * i + 20) 12))
          (f i)),
      failIf (!tailClean rd e (4 + 32 * im.params.length)) (f 0),
      im.params.zipIdx.findSome? (fun p => failIf (paramBad im p.2 p.1) (f p.2)),
      failIf ((builtInsOf im).any (fun b => !im.params.any (fun r => r.id == b.id))) (f im.params.length) ]

/-- Admission of the image in a slot (R36): the first failure, or none when all 13 steps pass. The later steps read the
image only once the earlier ones passed. -/
def admitBytes (rd : Nat → Byte) (ctx : AdmCtx) : Option AdmFail :=
  (admFormat rd ctx).or <| (admTarget rd ctx).or <| (admSection rd).or <| (admSignature rd ctx).or <|
    (admRollback rd ctx).or <|
      let t := sectTable rd (numAt rd 0x0D 1)
      let im := readImage rd
      (admRoute rd t im).or <| (admIsland rd t im).or <| (admQueue rd t im).or <| (admDram rd t ctx im).or <|
        (admTimeline rd t ctx im).or <| (admChains rd t im).or <| (admSchedule rd t im).or <| (admSums im).or <|
          admParam rd t im

end Sys2Proof.Machine
end

