-- ==== Sys2Proof/Machine/Sched.lean ====
section
/-! DEFINITION. The static schedule at run time: instances, dependence counters, dispatchers, arrival windows, breach and
shedding, slack windows, statistics and the dispatch trace (R46 to R66, R401). -/
namespace Sys2Proof.Machine

/-- The frame lock is HELD, code 4 of Table 10.9. -/
def State.held (s : State) : Bool := s.get Reg.FLK_STATE Fld.FLK_STATE_STATE == 4

/-- The operation record of index `op`. -/
def State.opRec? (s : State) (op : Nat) : Option OpRec := s.gen.running.bind (fun im => im.ops[op]?)

/-- The instance of a WFN in progress. -/
def State.inst? (s : State) (wfn : Nat) : Option Instance := s.sch.instances.find? (fun i => i.wfn == wfn)

/-- The run of an operation in an instance. -/
def State.opRun? (s : State) (wfn op : Nat) : Option OpRun := (s.inst? wfn).bind (fun i => i.ops[op]?)

/-- Change the instance of a WFN. -/
def State.modInst (s : State) (wfn : Nat) (f : Instance → Instance) : State :=
  { s with sch := { s.sch with instances := s.sch.instances.map (fun i => if i.wfn = wfn then f i else i) } }

/-- Change an operation's run. -/
def State.modOp (s : State) (wfn op : Nat) (f : OpRun → OpRun) : State :=
  s.modInst wfn (fun i => { i with ops := modifyAt i.ops op f })

/-- The reference R(F), the absolute issue slot, deadline and latest start of an operation (R46, R54). -/
def refAt (im : Image) (wfn : Nat) : Nat := reference im.timeline wfn
def issueAt (im : Image) (wfn : Nat) (o : OpRec) : Nat := refAt im wfn + o.issue * nsT
def deadlineAt (im : Image) (wfn : Nat) (o : OpRec) : Nat := refAt im wfn + o.deadline * nsT
def latestStartAt (im : Image) (wfn : Nat) (o : OpRec) : Nat := deadlineAt im wfn o - opTime im o * nsT
def shedAt (im : Image) (wfn : Nat) (o : OpRec) : Nat := deadlineAt im wfn o + periodNs im.timeline * nsT

/-- Words a queue holds, over every instance (R34). -/
def State.queueDepth (s : State) (q : Nat) : Nat :=
  ((s.sch.queueWords.filter (fun w => w.1 == q)).map (fun w => w.2.2)).sum

/-- Words of one instance in a queue. -/
def State.queueOf (s : State) (q wfn : Nat) : Nat :=
  ((s.sch.queueWords.filter (fun w => w.1 == q && w.2.1 == wfn)).map (fun w => w.2.2)).sum

/-- Set the words of one instance in a queue; a count of 0 leaves no entry. -/
def State.setQueue (s : State) (q wfn n : Nat) : State :=
  let l := s.sch.queueWords.filter (fun w => !(w.1 == q && w.2.1 == wfn))
  { s with sch := { s.sch with queueWords := if n = 0 then l else (q, wfn, n) :: l } }

/-- Follow the watched queue's depth and maximum (SCH_QW_DEPTH). -/
def State.watchQueue (s : State) : State :=
  let d := s.queueDepth (s.reg Reg.SCH_QW_SEL).toNat
  let m := Nat.max d (fieldOf (s.reg Reg.SCH_QW_DEPTH) 16 13)
  s.setNum Reg.SCH_QW_DEPTH (satTo 0x1FFF d + (satTo 0x1FFF m) * 65536)

/-! ### Dispatch trace (R64, R65, Table 3.9) -/

/-- Wall time of a record: (s × 10^9 + ns) modulo 2^32. -/
def traceTime (t : Nat) : Nat := (t / nsT) % 2 ^ 32

/-- Whether SCH_TRACE_FMASK admits a facet; an event without a facet has no mask. -/
def State.traceFacet (s : State) (f : Nat) : Bool := f == 0xFF || bitOf (s.reg (Reg.SCH_TRACE_FMASK (f / 32))) (f % 32)

/-- The trigger has happened. -/
def State.triggered (s : State) : Bool := bitOf (s.reg Reg.SCH_TRACE_PTR) 28

/-- Append a record at the buffer's pointer; after a trigger it is one of the POST_COUNT records still to come (R64, R65). -/
def State.traceAppend (s : State) (t : Nat) (r : TraceRec) : State :=
  let rec' := { r with time := traceTime t, object := r.object + (if s.sch.traceLost then 2 ^ 21 else 0) }
  let p := s.sch.tracePtr
  let buf := if p < s.sch.trace.length then s.sch.trace.set p rec' else s.sch.trace ++ [rec']
  let p' := (p + 1) % 4096
  let wrapped := bitOf (s.reg Reg.SCH_TRACE_PTR) 12 || p' == 0
  let s1 := { s with sch := { s.sch with trace := buf, tracePtr := p', traceAt := some t, traceLost := false } }
  let s2 := s1.setReg Reg.SCH_TRACE_PTR (putField (putField (s1.reg Reg.SCH_TRACE_PTR) 0 12 p') 12 1 (flag wrapped))
  if s2.triggered then
    if s2.sch.postLeft ≤ 1 then
      { s2 with sch := { s2.sch with postLeft := 0 } }.putBit Reg.SCH_TRACE_CTRL Fld.SCH_TRACE_CTRL_FROZEN true
    else { s2 with sch := { s2.sch with postLeft := s2.sch.postLeft - 1 } }
  else s2

/-- An event less than 2 ns after the last record is excess: one of the two is discarded, and the next record carries LOST. Events of
one nanosecond are ordered by facet, so the lower facet's record stays (R64). -/
def State.traceExcess (s : State) (t last : Nat) (r : TraceRec) : State :=
  let p := (s.sch.tracePtr + 4095) % 4096
  let buf := match s.sch.trace[p]? with
    | some l =>
      if t / nsT = last / nsT ∧ r.facet < l.facet then
        s.sch.trace.set p { r with time := traceTime t, object := r.object + l.object / 2 ^ 21 % 2 * 2 ^ 21 }
      else s.sch.trace
    | none => s.sch.trace
  { s with sch := { s.sch with trace := buf, traceLost := true } }

/-- Write one record if ENABLE, EVENT_MASK and SCH_TRACE_FMASK admit it and the buffer is not FROZEN (R64). -/
def State.trace (s : State) (t : Nat) (r : TraceRec) : State :=
  let c := s.reg Reg.SCH_TRACE_CTRL
  if !bitOf c 0 || bitOf c 4 || !bitOf c (8 + (r.event - 1)) || !s.traceFacet r.facet then s
  else
    match s.sch.traceAt with
    | none => s.traceAppend t r
    | some l => if t < l + 2 * nsT then s.traceExcess t l r else s.traceAppend t r

/-- Trigger the trace unless it is TRIGGERED or FROZEN (R65): POST_COUNT further records, none of them when it is 0. -/
def State.traceTrigger (s : State) : State :=
  if s.triggered || s.bit Reg.SCH_TRACE_CTRL Fld.SCH_TRACE_CTRL_FROZEN then s
  else
    let n := s.get Reg.SCH_TRACE_CTRL Fld.SCH_TRACE_CTRL_POST_COUNT
    let s1 := { s with sch := { s.sch with postLeft := n } }
    let s2 := s1.setReg Reg.SCH_TRACE_PTR
      (putField (putField (s1.reg Reg.SCH_TRACE_PTR) 28 1 1) 16 12 ((s1.sch.tracePtr + 4095) % 4096))
    if n = 0 then s2.putBit Reg.SCH_TRACE_CTRL Fld.SCH_TRACE_CTRL_FROZEN true else s2

/-- REARM: empty the buffer, clear FROZEN and TRIGGERED (Table 3.6). -/
def State.traceRearm (s : State) : State :=
  let s1 := { s with sch := { s.sch with trace := [], tracePtr := 0, postLeft := 0, traceAt := none, traceLost := false } }
  (s1.setReg Reg.SCH_TRACE_PTR 0).putBit Reg.SCH_TRACE_CTRL Fld.SCH_TRACE_CTRL_FROZEN false

/-- OBJECT of a record about an operation: its index and the instance's breach tag (Table 3.9). -/
def State.traceObject (s : State) (wfn op : Nat) : Nat :=
  op % 2 ^ 20 + (if (s.inst? wfn).any (·.tag) then 2 ^ 20 else 0)

/-! ### Breach (R54, R55) -/

/-- Counter register of a breach cause: 1 DEP, 2 BUSY, 3 OVERRUN (Table 3.5). -/
def causeReg (cause : Nat) : Nat :=
  if cause = 1 then Reg.SCH_BRC_DEP else if cause = 2 then Reg.SCH_BRC_BUSY else Reg.SCH_BRC_OVERRUN

/-- The operation feeds a picture that the held state repeats: its breach is not counted, recorded or traced (R358). -/
def State.exempt (s : State) (wfn : Nat) (o : OpRec) : Bool := o.slot != 0xFF && s.heldAt wfn

/-- The four actions of R54 and the tag of R55, once per operation and instance; an operation of an instance shed as a whole counts
as none (R56). -/
def State.breach (s : State) (wfn op cause t : Nat) : State :=
  match s.opRec? op, s.opRun? wfn op with
  | some o, some r =>
    if r.breached || (s.inst? wfn).any (·.abandoned) then s
    else
      let s1 := (s.modOp wfn op (fun r => { r with breached := true, tainted := true })).modInst wfn
        (fun i => { i with tag := true })
      if s1.exempt wfn o then s1
      else
        let s2 := (((s1.bump Reg.SCH_BRC_TOTAL 1).bump (causeReg cause) 1).event 6).restartHoldoff
        let s3 :=
          if s2.bit Reg.SCH_BRC_FIRST0 Fld.SCH_BRC_FIRST0_VALID then s2
          else
            (s2.setNum Reg.SCH_BRC_FIRST0 (op % 2 ^ 20 + (o.facet % 128) * 2 ^ 20 + cause * 2 ^ 27 + 2 ^ 30)).setNum
              Reg.SCH_BRC_FIRST1 wfn
        let s4 := s3.setReg (Reg.SCH_FCT_MARGIN o.facet) (s3.reg (Reg.SCH_FCT_MARGIN o.facet) ||| 0x80000000#32)
        let s5 := s4.trace t { time := 0, wfn := wfn % 65536, facet := o.facet, event := 3, cause := cause,
                               object := s4.traceObject wfn op, value := r.counter }
        if s5.param 5 1 = 1 then s5.traceTrigger else s5
  | _, _ => s

/-! ### Dispatch (R48, R49) -/

/-- The operations a facet holds issued: (WFN, operation index). -/
def State.facetBusy (s : State) (im : Image) (f : Nat) : Bool :=
  s.sch.instances.any (fun i => i.ops.zipIdx.any (fun p =>
    match p.1.status with
    | .issued _ => (im.ops[p.2]?).any (fun o => o.facet == f)
    | _ => false))

/-- The ready list of a facet at `t`: (absolute deadline, operation index, WFN), counter 0 and slot arrived (R48). -/
def State.readyList (s : State) (im : Image) (f t : Nat) : List (Nat × Nat × Nat) :=
  s.sch.instances.flatMap (fun i => i.ops.zipIdx.filterMap (fun p =>
    match p.1.status, im.ops[p.2]? with
    | .waiting, some o =>
      if o.facet = f ∧ p.1.counter = 0 ∧ issueAt im i.wfn o ≤ t then some (deadlineAt im i.wfn o, p.2, i.wfn) else none
    | _, _ => none))

/-- The earlier of two ready operations: earliest absolute deadline, ties to the lower operation index (R49). -/
def earlier (a b : Nat × Nat × Nat) : Nat × Nat × Nat :=
  if a.1 < b.1 ∨ (a.1 = b.1 ∧ (a.2.1 < b.2.1 ∨ (a.2.1 = b.2.1 ∧ a.2.2 ≤ b.2.2))) then a else b

/-- The bin of a wait in ns (Table 3.8). -/
def waitBin (ns : Nat) : Nat := ([32, 128, 512, 2048, 8192, 32768, 131072].filter (fun b => decide (b ≤ ns))).length

/-- Issue an operation of a facet (R49), record its wait and its trace. The dispatch overhead of R47 is part of its time (log
entry 15). -/
def State.issue (s : State) (im : Image) (f t op wfn : Nat) : State :=
  match im.ops[op]?, s.opRun? wfn op with
  | some o, some r =>
    let waitNs := (t - Nat.max r.zeroAt (issueAt im wfn o)) / nsT
    let s1 := s.modOp wfn op (fun r => { r with status := .issued t })
    let s2 := if (s1.reg Reg.SCH_HIST_SEL).toNat = f then s1.bump (Reg.SCH_HIST (waitBin waitNs)) 1 else s1
    s2.trace t { time := 0, wfn := wfn % 65536, facet := f, event := 1, cause := 0, object := s2.traceObject wfn op,
                 value := satTo 0xFFFFFFFF waitNs }
  | _, _ => s

/-- A throttle pause gates the island at an instant (R58). -/
def State.paused (s : State) (island t : Nat) : Bool := s.sch.pauses.any (fun p => p.island == island && decide (t < p.ends))

/-- An idle facet whose island is not paused issues its earliest ready operation (R49, R58). -/
def State.dispatch (s : State) (f t : Nat) : State :=
  match s.gen.running with
  | none => s
  | some im =>
    if s.facetBusy im f || s.paused (f / 4) t then s
    else
      match s.readyList im f t with
      | [] => s
      | x :: xs =>
        let b := xs.foldl earlier x
        s.issue im f t b.2.1 b.2.2

/-! ### Slack (R58 to R60) -/

/-- PAUSE_FRAC of the throttle level in force (R270); values above 256 act as 256. -/
def State.pauseFrac (s : State) : Nat :=
  Nat.min 256 (fieldOf (s.reg (Reg.THM_LEVEL_ACT (fieldOf (s.reg Reg.THM_LEVEL) 0 3))) 8 9)

/-- The oldest background job an island may run now. -/
def State.nextJob (s : State) (island : Nat) : Option BgJob :=
  s.sch.jobs.find? (fun j => j.islands.contains island && j.left != some 0 && !s.sch.chunks.any (fun c => c.token == j.token))

/-- The longest chunk of a job in ns: at most 2 µs, the work left, and what the window still holds (R58). -/
def chunkNs (j : BgJob) (t windowEnds : Nat) : Nat := Nat.min ((j.left.map (Nat.min 2000)).getD 2000) ((windowEnds - t) / nsT)

/-- An idle island starts a chunk of its oldest job, so long that it ends before the window ends (R58, R60). -/
def State.startChunk (s : State) (island t windowEnds : Nat) : State :=
  match s.nextJob island with
  | none => s
  | some j =>
    let n := chunkNs j t windowEnds
    if n = 0 ∨ s.sch.chunks.any (fun c => c.island == island) then s
    else { s with sch := { s.sch with chunks := s.sch.chunks ++
            [{ island := island, starts := t, ends := t + n * nsT, windowEnds := windowEnds, token := j.token, kind := j.kind }] } }

/-- A pause ends: the window's background work follows, and the island's facets dispatch again (R58). -/
def State.endPause (s : State) (p : PauseRun) : State :=
  let s1 := { s with sch := { s.sch with pauses := s.sch.pauses.filter (· != p),
                                         pauseAcc := tabAdd s.sch.pauseAcc p.island ((p.ends - Nat.max p.starts s.sch.frameAt) / nsT) } }
  let s2 := s1.startChunk p.island p.ends p.windowEnds
  (List.range 4).foldl (fun (z : State) k => z.dispatch (4 * p.island + k) p.ends) s2

/-- Let wall time reach an instant, the pauses that end by then first (R58). -/
def State.advance (s : State) (t : Nat) : State :=
  (s.sch.pauses.filter (fun p => decide (p.ends ≤ t))).foldl State.endPause (s.tick t)

/-! ### Instances and decrements (R48, R49) -/

/-- Fire a window's arrival event: one pending decrement for each operation of the instance that reads a queue of the
window (R401). -/
def State.fireWindow (s : State) (im : Image) (wfn : Nat) (w : WindowRec) : State :=
  let ops := (im.ops.zipIdx.filter (fun p => opWaits im w p.1)).map (·.2)
  { s with sch := { s.sch with decrements := s.sch.decrements ++ ops.map (fun k => (wfn, k)) } }

/-- Words a window took for an instance before it was loaded (R52). -/
def State.earlyOf (s : State) (wfn window : Nat) : Nat :=
  ((s.sch.early.find? (fun e => e.1 == wfn && e.2.1 == window)).map (fun e => e.2.2)).getD 0

/-- Load the counters of instance F at R(F) - 1 µs, the words that came earlier with it (R48, R52). -/
def execInstanceLoad (wfn : Nat) (s : State) : Host.Outcome State Fault Refusal :=
  match s.gen.running with
  | none => .next s
  | some im =>
    if (s.inst? wfn).isSome ∨ s.dbg.bist.isSome ∨ s.gen.loadDue ∨ s.get Reg.FLK_STATE Fld.FLK_STATE_STATE < 2 ∨ wfn < s.flk.f0 then .next s
    else
      let t := refAt im wfn - usT
      let s0 := s.advance t
      let got := (List.range im.windows.length).map (s0.earlyOf wfn)
      let i : Instance :=
        { wfn := wfn, delivered := got, fired := (im.windows.zip got).map (fun p => p.2 == p.1.words), tag := false, abandoned := false,
          ops := im.ops.map (fun o => { status := .waiting, counter := o.depInit, zeroAt := t, breached := false,
                                        tainted := false, stalled := none }) }
      let s1 := { s0 with sch := { s0.sch with instances := s0.sch.instances ++ [i], newest := wfn,
                                               early := s0.sch.early.filter (fun e => e.1 != wfn) } }
      let s2 := ((im.windows.zip got).foldl (fun (z : State) p => if p.2 = p.1.words then z.fireWindow im wfn p.1 else z) s1).setNum
        Reg.SCH_INSTANCE wfn
      .next (s2.trace t { time := 0, wfn := wfn % 65536, facet := 0xFF, event := 8, cause := 0, object := 0,
                          value := (wfn / 65536) % 2 ^ 32 })

/-- The absolute issue slot of an operation arrives (R49). -/
def execIssueSlot (wfn op : Nat) (s : State) : Host.Outcome State Fault Refusal :=
  match s.gen.running, s.opRec? op with
  | some im, some o => .next ((s.advance (issueAt im wfn o)).dispatch o.facet (issueAt im wfn o))
  | _, _ => .next s

/-- A decrement reaches an operation's counter (R48): at 0 it stays 0 and breaches with cause DEP. -/
def execDependenceDecrement (wfn op t : Nat) (s : State) : Host.Outcome State Fault Refusal :=
  let s0 := s.advance t
  match s0.opRec? op, s0.opRun? wfn op with
  | some o, some r =>
    if !s0.sch.decrements.contains (wfn, op) then .next s0
    else
      let s1 := { s0 with sch := { s0.sch with decrements := s0.sch.decrements.erase (wfn, op) } }
      if r.counter = 0 then .next (s1.breach wfn op 1 t)
      else
        let s2 := s1.modOp wfn op (fun r => { r with counter := r.counter - 1, zeroAt := if r.counter = 1 then t else r.zeroAt })
        .next (s2.dispatch o.facet t)
  | _, _ => .next s0

/-- Send a completion on to an operation's successors: a pending decrement for each, and the breach tag when the words are
tagged (R48, R55, R56). -/
def State.feedSuccessors (s : State) (wfn : Nat) (o : OpRec) (tagged : Bool) : State :=
  o.succs.foldl (fun s k =>
      let s1 := { s with sch := { s.sch with decrements := s.sch.decrements ++ [(wfn, k)] } }
      if tagged then s1.modOp wfn k (fun r => { r with tainted := true }) else s1)
    s

/-- Whether every produced word finds room (R35). -/
def State.roomFor (s : State) (im : Image) (produced : List (Nat × Nat)) : Bool :=
  produced.all (fun p => (im.queues[p.1]?).any (fun q => decide (s.queueDepth p.1 + p.2 ≤ q.depth)))

/-- MARGIN of a facet: the smallest DEADLINE minus completion since clear, in ns (Table 3.4). -/
def State.noteMargin (s : State) (f deadline t : Nat) : State :=
  let m := satTo 0x7FFFFFFF ((deadline - t) / nsT)
  let old := fieldOf (s.reg (Reg.SCH_FCT_MARGIN f)) 0 31
  let v := if s.sch.marginSeen.contains f then Nat.min m old else m
  let s1 := s.setReg (Reg.SCH_FCT_MARGIN f) (putField (s.reg (Reg.SCH_FCT_MARGIN f)) 0 31 v)
  if s.sch.marginSeen.contains f then s1 else { s1 with sch := { s1.sch with marginSeen := f :: s1.sch.marginSeen } }

/-- An operation of an instance is over. -/
def opEnded (r : OpRun) : Bool := match r.status with | .completed => true | .shed => true | _ => false

/-- Whether an instance has ended: every operation completed or shed (R62). -/
def instanceEnded (i : Instance) : Bool := i.ops.all opEnded

/-- The operations of an instance that read a queue, none of them over yet, or none declared (R53, R401). -/
def queueWanted (im : Image) (i : Instance) (q : Nat) : Bool :=
  let rs := i.ops.zipIdx.filter (fun p => (im.ops[p.2]?).any (fun o => (opReads im o).contains q))
  !i.abandoned && !instanceEnded i && (rs.isEmpty || rs.any (fun p => !opEnded p.1))

/-- A queue whose consumer is a facet; a fixed-function unit takes its words as they are accepted (log entry 87). -/
def keepsWords (im : Image) (q : Nat) : Bool := (im.queues[q]?).any (fun r => decide (r.consumer < 0x1000))

/-- Put words into a queue for an instance: they stay while an operation that may read them is still to come (R53, R56, R62). -/
def State.pushWords (s : State) (im : Image) (i : Instance) (p : Nat × Nat) : State :=
  if keepsWords im p.1 && queueWanted im i p.1 then s.setQueue p.1 i.wfn (s.queueOf p.1 i.wfn + p.2) else s

/-- No queue word outlives its instance (R62). -/
def State.sweepInstance (s : State) (wfn : Nat) : State :=
  if (s.inst? wfn).any instanceEnded then
    { s with sch := { s.sch with queueWords := s.sch.queueWords.filter (fun w => w.2.1 != wfn) } }.watchQueue
  else s

/-- A producer waits on a full queue: SCH_QW_FULLWAIT counts it once when the watched queue is full (R35, R63). -/
def State.stall (s : State) (im : Image) (d : OpDone) (r : OpRun) : State :=
  let q := (s.reg Reg.SCH_QW_SEL).toNat
  let full := d.produced.any (fun p => p.1 == q && !s.roomFor im [p])
  if full && r.stalled != some q then (s.bump Reg.SCH_QW_FULLWAIT 1).modOp d.wfn d.op (fun r => { r with stalled := some q }) else s

/-- An issued operation completes (R49): its words move, its successors are decremented, its facet issues the next. A
producer that finds a queue full waits and completes nothing (R35). -/
def State.completeOp (s : State) (d : OpDone) : State :=
  let s := s.advance d.t
  match s.gen.running, s.opRec? d.op, s.opRun? d.wfn d.op, s.inst? d.wfn with
  | some im, some o, some r, some i =>
    match r.status with
    | .issued t0 =>
      let s0 := d.consumed.foldl (fun s p => s.setQueue p.1 d.wfn (s.queueOf p.1 d.wfn - p.2)) s
      let kept := d.produced.filter (fun p => keepsWords im p.1 && queueWanted im i p.1)
      if !s0.roomFor im kept then s.stall im d r
      else
        let s1 := kept.foldl (fun s p => s.pushWords im i p) s0
        let s2 := s1.watchQueue.modOp d.wfn d.op (fun r => { r with status := .completed })
        let s3 := { s2 with sch := { s2.sch with busy := tabAdd s2.sch.busy o.facet (d.t - Nat.max t0 s.sch.frameAt) } }
        let s4 := s3.noteMargin o.facet (deadlineAt im d.wfn o) d.t
        let s5 := if i.abandoned then s4 else s4.feedSuccessors d.wfn o r.tainted
        let s6 := s5.trace d.t { time := 0, wfn := d.wfn % 65536, facet := o.facet, event := 2,
                                 cause := if d.cycles > o.wcc then 3 else 0, object := s5.traceObject d.wfn d.op,
                                 value := satTo 0xFFFFFFFF d.cycles }
        (s6.sweepInstance d.wfn).dispatch o.facet d.t
    | _ => s
  | _, _, _, _ => s

/-- An operation runs on some facet: a step that follows a shedding of every instance waits for it (R56). -/
def State.anyIssued (s : State) : Bool :=
  s.sch.instances.any (fun i => i.ops.any (fun r => match r.status with | .issued _ => true | _ => false))

/-- The counter came to 0 in the nanosecond of the latest start: one DEP breach results (R57; a cycle is taken as a nanosecond, log
entry 18). -/
def zeroAtStart (im : Image) (wfn : Nat) (o : OpRec) (r : OpRun) : Bool :=
  o.depInit != 0 && r.counter == 0 && r.zeroAt / nsT == latestStartAt im wfn o / nsT

/-- The cause of a breach at the latest start, 0 for none (R54, R57). -/
def State.startCause (s : State) (im : Image) (wfn : Nat) (o : OpRec) (r : OpRun) : Nat :=
  if zeroAtStart im wfn o r then 1
  else match r.status with
    | .waiting =>
      if r.counter ≠ 0 then 1
      else if s.facetBusy im o.facet || s.paused (o.facet / 4) (latestStartAt im wfn o) then 2 else 0
    | _ => 0

/-- An operation reaches its latest start (R54): DEP while its counter is not 0 or came to 0 in this same cycle (R57), BUSY when it has
not issued because its facet is occupied. -/
def execLatestStart (wfn op : Nat) (s : State) : Host.Outcome State Fault Refusal :=
  match s.gen.running, s.opRec? op with
  | some im, some o =>
    let ls := latestStartAt im wfn o
    let s0 := s.advance ls
    match s0.opRun? wfn op with
    | none => .next s0
    | some r =>
      let c := s0.startCause im wfn o r
      .next (if c = 0 then s0 else s0.breach wfn op c ls)
  | _, _ => .next s

/-- The last instant of a deadline's nanosecond: a completion up to it is on time (R50). -/
def overrunAt (im : Image) (wfn : Nat) (o : OpRec) : Nat := (deadlineAt im wfn o / nsT + 1) * nsT - 1

/-- An issued operation has not completed by the end of its deadline's nanosecond (R50, R54): OVERRUN. -/
def execOperationDeadline (wfn op : Nat) (s : State) : Host.Outcome State Fault Refusal :=
  match s.gen.running, s.opRec? op with
  | some im, some o =>
    let dl := overrunAt im wfn o
    let s0 := s.advance dl
    match (s0.opRun? wfn op).map (fun r => r.status) with
    | some (OpStatus.issued _) => .next (s0.breach wfn op 3 dl)
    | _ => .next s0
  | _, _ => .next s

/-! ### Sinks, and the decoding of a picture (R55, R194) -/

/-- An operation feeds an image slot: its own, or every slot for SLOT 0xFF. -/
def opFeeds (o : OpRec) (slot : Nat) : Bool := o.slot == slot || o.slot == 0xFF

/-- Whether a sink takes (F, s) as breached: an operation that feeds it words for the slot is tainted, or no instance is left to
deliver them (R55). -/
def State.sinkTainted (s : State) (wfn slot endpoint : Nat) : Bool :=
  match s.gen.running with
  | none => false
  | some im =>
    let feeds (o : OpRec) : Bool := opFeeds o slot && (opWrites im o).any (fun q => (im.queues[q]?).any (fun r => r.consumer == endpoint))
    match s.inst? wfn with
    | some i => i.ops.zipIdx.any (fun p => p.1.tainted && (im.ops[p.2]?).any feeds)
    | none => im.ops.any feeds

/-- The decoding of (F, s) at a tile is shed: its instance is gone or shed, or so is every operation that reads the chain decoder's words
for the slot (R56, R194). -/
def State.decodeShed (s : State) (f slot : Nat) : Bool :=
  match s.gen.running with
  | none => true
  | some im =>
    match s.inst? f with
    | none => decide (f ≤ s.sch.newest)
    | some i =>
      let rs := i.ops.zipIdx.filter (fun p => (im.ops[p.2]?).any (fun o => opFeeds o slot &&
        (opReads im o).any (fun q => (im.queues[q]?).any (fun r => r.producer == 0x4000))))
      i.abandoned || (!rs.isEmpty && rs.all (fun p => p.1.status == .shed))

/-- Pictures whose slice never came before their decoding was shed: FLK_ABSENT (Table 10.7). Slices held for a shed decoding go with
it. -/
def State.settleDecodes (s : State) : State :=
  let gone := s.lmp.undecided.filter (fun p => s.decodeShed p.1 p.2)
  let s1 := gone.foldl (fun (z : State) p => z.bump (Reg.FLK_ABSENT p.2) 1) s
  { s1 with lmp := { s1.lmp with undecided := s1.lmp.undecided.filter (fun p => !gone.contains p) },
            ccx := { s1.ccx with rx := s1.ccx.rx.filter (fun r => !s.decodeShed r.wfn r.slot) } }

/-- Shed one waiting operation: completed as shed, its instance's words in its input queues discarded by their tag, WFN
modulo 4 (R56). -/
def State.shedOp (s : State) (im : Image) (wfn op : Nat) (o : OpRec) (t : Nat) : State :=
  let s1 := s.modOp wfn op (fun r => { r with status := .shed, tainted := true })
  let qs := opReads im o
  let s2 := { s1 with sch := { s1.sch with
    queueWords := s1.sch.queueWords.filter (fun w => !(qs.contains w.1 && w.2.1 % 4 == wfn % 4)) } }
  let s3 := (s2.watchQueue.feedSuccessors wfn o true).bump Reg.SCH_SHED 1
  (s3.trace t { time := 0, wfn := wfn % 65536, facet := o.facet, event := 4, cause := 0, object := s3.traceObject wfn op,
                value := 0 }).sweepInstance wfn

/-- An operation that has not issued by its absolute deadline plus P_ns is shed (R56). -/
def execShedExpiry (wfn op : Nat) (s : State) : Host.Outcome State Fault Refusal :=
  match s.gen.running, s.opRec? op with
  | some im, some o =>
    let s0 := s.advance (shedAt im wfn o)
    match (s0.opRun? wfn op).map (fun r => r.status) with
    | some OpStatus.waiting => .next ((s0.shedOp im wfn op o (shedAt im wfn o)).settleDecodes)
    | _ => .next s0
  | _, _ => .next s

/-- Shed every instance in progress at once: standby entry, activation, BIST (R56). No breach is counted, and operations
already issued run to completion with their words discarded. -/
def State.shedAll (s : State) (t : Nat) : State :=
  match s.gen.running with
  | none => s
  | some im =>
    let s1 := s.sch.instances.foldl (fun s i =>
        (i.ops.zipIdx).foldl (fun s p =>
            match p.1.status, im.ops[p.2]? with
            | .waiting, some o => s.shedOp im i.wfn p.2 o t
            | _, _ => s) s) s
    let lost (i : Instance) : Instance := { i with abandoned := true, ops := i.ops.map (fun r => if opEnded r then r else { r with tainted := true }) }
    ({ s1 with sch := { s1.sch with instances := s1.sch.instances.map lost, decrements := [], queueWords := [] } } : State).watchQueue.settleDecodes

/-- Every instance up to and including a WFN has ended (R107): none of them is in progress with work left. -/
def State.endedUpTo (s : State) (wfn : Nat) : Bool :=
  s.sch.instances.all (fun i => decide (wfn < i.wfn) || instanceEnded i)

/-! ### Inputs (R52, R53, R401) -/

/-- A word of an instance not yet loaded is kept for it when its window and its queue have room (R52). -/
def State.takeEarly (s : State) (im : Image) (w : IngressIn) (win : WindowRec) (q : QueueRec) : State :=
  let got := s.earlyOf w.wfn w.window
  if win.words ≤ got || decide (q.depth ≤ s.queueDepth w.queue) then s.bump Reg.SCH_ARR_DROP 1
  else
    let s1 := if keepsWords im w.queue then (s.setQueue w.queue w.wfn (s.queueOf w.queue w.wfn + 1)).watchQueue else s
    let rest := s1.sch.early.filter (fun e => !(e.1 == w.wfn && e.2.1 == w.window))
    { s1 with sch := { s1.sch with early := (w.wfn, w.window, got + 1) :: rest } }

/-- A word at the ingress of an instance in progress: dropped and counted when its window has its WORDS or its queue is full; the
remainder of a shed instance is discarded (R52, R53; counted as well, log entry 17). The last of WORDS fires the arrival event. -/
def State.takeWord (s : State) (im : Image) (w : IngressIn) (i : Instance) (win : WindowRec) (q : QueueRec) : State :=
  let got := i.delivered.getD w.window 0
  if win.words ≤ got || !queueWanted im i w.queue || decide (q.depth ≤ s.queueDepth w.queue) then s.bump Reg.SCH_ARR_DROP 1
  else
    let s1 := (s.pushWords im i (w.queue, 1)).watchQueue
    let s2 := s1.modInst w.wfn (fun i => { i with delivered := i.delivered.set w.window (got + 1) })
    if got + 1 = win.words then
      (s2.modInst w.wfn (fun i => { i with fired := i.fired.set w.window true })).fireWindow im w.wfn win
    else s2

/-- A word at a bounded ingress (R52): for an instance in progress, or for one still to come of the present run; the words of one that
is over are discarded. -/
def State.takeIngress (s : State) (w : IngressIn) : State :=
  match s.gen.running with
  | none => s
  | some im =>
    match im.windows[w.window]?, im.queues[w.queue]? with
    | some win, some q =>
      if q.producer ≠ win.endpoint then s
      else match s.inst? w.wfn with
        | some i => s.takeWord im w i win q
        | none =>
          if w.t < refAt im w.wfn ∧ s.flk.f0 ≤ w.wfn ∧ 2 ≤ s.get Reg.FLK_STATE Fld.FLK_STATE_STATE then s.takeEarly im w win q
          else s.bump Reg.SCH_ARR_DROP 1
    | _, _ => s

def execIngressWord (w : IngressIn) (s : State) : Host.Outcome State Fault Refusal :=
  .next ((s.advance w.t).takeIngress w)

/-- The event named by a window's REF, in wall time: R(F), the chain window of its SLOT or the latch of its SLOT (Table 3.2). -/
def windowRef (im : Image) (wfn : Nat) (w : WindowRec) : Nat :=
  if w.ref = 0 then refAt im wfn
  else if w.ref = 1 then windowOpen im.timeline wfn w.slot
  else latchTime im.timeline wfn w.slot

/-- An arrival window reaches CLOSE with fewer than WORDS words delivered: SCH_ARR_LATE (R53). -/
def execArrivalWindowClose (wfn window : Nat) (s : State) : Host.Outcome State Fault Refusal :=
  match s.gen.running with
  | none => .next s
  | some im =>
    match s.inst? wfn, im.windows[window]? with
    | some i, some w =>
      let t := windowRef im wfn w + w.closes * nsT
      let s0 := s.advance t
      let got := i.delivered.getD window 0
      if got < w.words then
        let s1 := s0.bump Reg.SCH_ARR_LATE 1
        .next (s1.trace t { time := 0, wfn := wfn % 65536, facet := 0xFF, event := 7, cause := 0,
                            object := w.endpoint + (if i.tag then 2 ^ 20 else 0), value := got })
      else .next s0
    | _, _ => .next s

/-! ### Slack windows and chunks (R58 to R60) -/

/-- The starts of a slack window in the frames round an instant: START modulo P_ns after a frame start, every P_ns (R46, R58). -/
def windowStarts (tl : Timeline) (w : Nat × Nat) (t : Nat) : List Nat :=
  let f := wfnAt tl t
  [f - 1, f].map (fun g => frameStart tl g + w.1 % periodNs tl * nsT)

/-- The island's slack window open at an instant, as (start, end). -/
def openWindow (im : Image) (island t : Nat) : Option (Nat × Nat) :=
  ((slackOf im island).windows.flatMap (fun w => (windowStarts im.timeline w t).map (fun a => (a, a + w.2 * nsT)))).find?
    (fun p => decide (p.1 ≤ t) && decide (t < p.2))

/-- Facet islands have power and no BIST runs on them: slack is taken (R299, R393). -/
def State.slackTaken (s : State) : Bool := s.dbg.bist.isNone && decide (s.get Reg.UMB_STATE Fld.UMB_STATE_PSTATE < 4)

/-- A throttle pause begins with the window (R58); OBJECT of its record is a free value. -/
def State.startPause (s : State) (island t ns windowEnds : Nat) : State :=
  let r := s.takeFree
  let p : PauseRun := { island := island, starts := t, ends := t + ns * nsT, windowEnds := windowEnds }
  State.trace { r.2 with sch := { r.2.sch with pauses := r.2.sch.pauses ++ [p] } } t
    { time := 0, wfn := s.wfnNow % 65536, facet := 0xFF, event := 5, cause := 0, object := r.1 % 2 ^ 20, value := ns }

/-- A slack window begins: its thermal pause first, at the level in force now (chapter 15), then background chunks (R58). -/
def execSlackWindowStart (island window t : Nat) (s : State) : Host.Outcome State Fault Refusal :=
  let s0 := s.advance t
  match s0.gen.running with
  | none => .next s0
  | some im =>
    match (slackOf im island).windows[window]? with
    | none => .next s0
    | some w =>
      if !(windowStarts im.timeline w t).contains t ∨ !s0.slackTaken then .next s0
      else
        let pause := w.2 * s0.pauseFrac / 256
        .next (if pause = 0 then s0.startChunk island t (t + w.2 * nsT) else s0.startPause island t pause (t + w.2 * nsT))

/-- A chunk ends: its job's work shrinks, and the next chunk starts if the window has room (R58). Answers the job that finished. -/
def State.endChunk (s : State) (island t : Nat) : State × Option BgJob :=
  match s.sch.chunks.find? (fun c => c.island == island) with
  | none => (s, none)
  | some c =>
    let ns := (c.ends - c.starts) / nsT
    let dec (j : BgJob) : BgJob := if j.token = c.token then { j with left := j.left.map (· - ns) } else j
    let s0 := s.advance t
    let s1 := { s0 with sch := { s0.sch with
      chunks := s0.sch.chunks.filter (fun x => x.island != island), jobs := s0.sch.jobs.map dec,
      bgAcc := tabAdd s0.sch.bgAcc island ((c.ends - Nat.max c.starts s0.sch.frameAt) / nsT) } }
    let (v, s2) := s1.takeFree
    let s3 := s2.trace t { time := 0, wfn := s2.wfnNow % 65536, facet := 0xFF, event := 6, cause := 0,
                           object := v % 2 ^ 20, value := ns }
    let fin := s3.sch.jobs.find? (fun j => j.token == c.token && j.left == some 0)
    let s4 := { s3 with sch := { s3.sch with jobs := s3.sch.jobs.filter (fun j => !(j.left == some 0)) } }
    (s4.startChunk island t c.windowEnds, fin)

/-- A job put on the fabric inside an open window of one of its islands starts there at once (R58, R60). -/
def State.offerWork (s : State) (islands : List Nat) : State :=
  match s.gen.running with
  | none => s
  | some im =>
    islands.foldl (fun (z : State) i =>
      match openWindow im i z.now with
      | some w => if z.paused i z.now || !z.slackTaken then z else z.startChunk i z.now w.2
      | none => z) s

/-- Whether every island of the image declares no slack: background work is rejected with NO_SLACK (R38, R60). -/
def noSlack (im : Image) : Bool :=
  (im.islands.filter (fun r => decide (r.island ≤ 31))).all (fun r => (slackOf im r.island).slackNs == 0)

/-! ### Work put in slack (R246) -/

/-- Unused slack of an island in the last frame, in ns (R246). -/
def State.unusedSlack (s : State) (im : Image) (i : Nat) : Nat :=
  let w := s.reg (Reg.SCH_ISL_SLACK i)
  (slackOf im i).slackNs - 128 * (fieldOf w 0 16 + fieldOf w 16 16)

/-- The enabled island with the most unused slack in the last frame, the lower identifier on a tie (R246). -/
def State.roomiest (s : State) (im : Image) : List Nat :=
  let cand := ((im.islands.filter (fun r => decide (r.island ≤ 31) && r.enabled)).map (·.island))
  let best := cand.foldl (fun a i => match a with
    | none => some i
    | some j =>
      let u := s.unusedSlack im i
      let v := s.unusedSlack im j
      if v < u ∨ (u = v ∧ i < j) then some i else some j) none
  best.toList

/-- Put background work on the fabric (R246). -/
def State.background (s : State) (kind : BgKind) (token : Nat) (work : Option Nat) (islands : List Nat) : State :=
  let j : BgJob := { kind := kind, token := token, left := work, work := work, islands := islands }
  State.offerWork { s with sch := { s.sch with jobs := s.sch.jobs ++ [j] } } islands

/-- Work in ns of a rate in µs per MiB. -/
def perMiB (us bytes : Nat) : Nat := ceilDiv (us * 1000 * bytes) (2 ^ 20)

/-- Drop background work by its token. -/
def State.dropJob (s : State) (token : Nat) : State :=
  { s with sch := { s.sch with jobs := s.sch.jobs.filter (fun j => j.token != token) } }

/-- A long operation's background work is still under way; work of no stated figure ends by its own command. -/
def State.workLeft (s : State) (token : Nat) : Bool := s.sch.jobs.any (fun j => j.token == token && j.left.isSome)

/-! ### Frame statistics (R63, Table 3.7) -/

/-- At a frame start: LAST and PEAK of every facet, SCH_ISL_SLACK, and a fresh interval. -/
def State.rollFrame (s : State) (im : Image) (t : Nat) : State :=
  let p := periodNs im.timeline
  let running (f : Nat) : Nat := (s.sch.instances.map (fun i => (i.ops.zipIdx.map (fun q =>
    match q.1.status, im.ops[q.2]? with
    | .issued t0, some o => if o.facet = f then t - Nat.max t0 s.sch.frameAt else 0
    | _, _ => 0)).sum)).sum
  let s1 := (List.range 128).foldl (fun s' f =>
      if im.islands.any (fun r => r.island == f / 4) then
        let ns := (tabGet s.sch.busy f + running f) / nsT
        let last := if p = 0 then 0 else satTo 0xFFFF (ns * 65536 / p)
        let peak := Nat.max last (fieldOf (s'.reg (Reg.SCH_FCT_LOAD f)) 16 16)
        s'.setNum (Reg.SCH_FCT_LOAD f) (last + peak * 65536)
      else s'.setReg (Reg.SCH_FCT_LOAD f) (putField (s'.reg (Reg.SCH_FCT_LOAD f)) 0 16 0)) s
  let s2 := (List.range 32).foldl (fun s' i =>
      let part (a b : Nat) : Nat := (Nat.min b t - Nat.max a s.sch.frameAt) / nsT
      let pause := tabGet s.sch.pauseAcc i + ((s.sch.pauses.filter (·.island == i)).map (fun p => part p.starts p.ends)).sum
      let bg := tabGet s.sch.bgAcc i + ((s.sch.chunks.filter (·.island == i)).map (fun c => part c.starts c.ends)).sum
      s'.setNum (Reg.SCH_ISL_SLACK i) (satTo 0xFFFF (pause / 128) + (satTo 0xFFFF (bg / 128)) * 65536)) s1
  { s2 with sch := { s2.sch with frameAt := t, busy := [], pauseAcc := [], bgAcc := [] } }

/-- Forget the instances that have ended and whose time is over (three periods after the reference, R62). -/
def State.pruneInstances (s : State) (wfn : Nat) : State :=
  ({ s with sch := { s.sch with
      instances := s.sch.instances.filter (fun i => !(instanceEnded i && decide (i.wfn + 2 ≤ wfn))),
      early := s.sch.early.filter (fun e => decide (wfn ≤ e.1)) } } : State).settleDecodes

/-! ### Register writes of the SCH block (R63) -/

/-- The counters SCH_CNT_CLEAR bit 0 clears: 0x0010 to 0x002C and SCH_BRC_FIRST0/1 (Table 3.4). -/
def schCounter (a : Nat) : Bool :=
  (decide (0x20010 ≤ a) && decide (a ≤ 0x2002C)) || a == Reg.SCH_BRC_FIRST0 || a == Reg.SCH_BRC_FIRST1

/-- The histogram bins. -/
def schHist (a : Nat) : Bool := decide (Reg.SCH_HIST 0 ≤ a) && decide (a ≤ Reg.SCH_HIST 7)

/-- PEAK and MARGIN of every facet cleared; LAST stays. -/
def State.clearPeaks (s : State) : State :=
  let s1 := (List.range 128).foldl (fun s f =>
    s.setReg (Reg.SCH_FCT_LOAD f) (putField (s.reg (Reg.SCH_FCT_LOAD f)) 16 16 0)) s
  let s2 := s1.resetRegs (fun a => decide (Reg.SCH_FCT_MARGIN 0 ≤ a) && decide (a ≤ Reg.SCH_FCT_MARGIN 127))
  { s2 with sch := { s2.sch with marginSeen := [] } }

/-- A write of SCH_CNT_CLEAR (Table 3.4). -/
def State.schClear (s : State) (v : Word) : State :=
  let s1 := if bitOf v 0 then s.resetRegs schCounter else s
  let s2 := if bitOf v 1 then s1.clearPeaks else s1
  if bitOf v 2 then s2.resetRegs schHist else s2

end Sys2Proof.Machine
end

