-- ==== Sys2Proof/Machine/Surfaces.lean ====
section
/-! DEFINITION. Surfaces: formats, layouts, packed bricks, the surface table and its lifecycle (R100 to R108). -/
namespace Sys2Proof.Machine

/-! ### Device DRAM -/

/-- Read and write device DRAM by byte address; an unlisted byte reads 0 (log entry 12). -/
def State.dramRead (s : State) (a n : Nat) : List Byte := cellRead (fun _ => 0) s.dram a n
def State.dramWrite (s : State) (a : Nat) (bs : List Byte) : State := { s with dram := cellSetMany (fun _ => 0) s.dram a bs }

/-! ### Formats (Table 6.1) -/

/-- Container bytes of a sample. -/
def fmtContainer (f : Nat) : Nat := if f ∈ [2, 4, 6, 8, 0x0A] then 2 else 1

/-- Twice the bytes per pixel, b, of Table 6.1 (twice, for the 1.5 of 4:2:0); 0 for the formats without samples. -/
def fmtBytes2 (f : Nat) : Nat := ([0, 6, 12, 6, 12, 4, 8, 3, 6, 8, 16] : List Nat).getD f 0

/-- Sampling of a format: 0 4:2:0, 1 4:2:2, 2 4:4:4 or RGB, 3 none. -/
def fmtSampling (f : Nat) : Nat :=
  if f = 7 ∨ f = 8 then 0 else if f = 5 ∨ f = 6 then 1 else if 1 ≤ f ∧ f ≤ 0x0A then 2 else 3

/-- RGB formats, and those with an alpha sample. -/
def fmtRgb (f : Nat) : Bool := f == 1 || f == 2 || f == 9 || f == 0x0A
def fmtAlpha (f : Nat) : Bool := f == 9 || f == 0x0A

/-- A format that holds a picture. -/
def fmtPicture (f : Nat) : Bool := decide (1 ≤ f) && decide (f ≤ 0x0A)

/-- A format of the pools, meshes, tables and host data. -/
def fmtData (f : Nat) : Bool := decide (0x11 ≤ f) && decide (f ≤ 0x14)

/-- Planes a brick is coded in. -/
def fmtPlanes (f : Nat) : Nat := if fmtAlpha f then 4 else 3

/-- Sample depth in bits of a depth code. -/
def depthBits (c : Nat) : Nat := if c = 0 then 8 else if c = 1 then 10 else 12

/-- Depth code of a depth in bits, as SURFACE_ALLOC gives it, for a format (R100); a data format lists none. -/
def depthCode (f bits : Nat) : Option Nat :=
  if fmtData f then (if bits = 0 then some 0 else none)
  else if !fmtPicture f then none
  else if fmtContainer f = 1 then (if bits = 8 then some 0 else none)
  else if bits = 10 then some 1 else if bits = 12 then some 2 else none

/-- Whether a format allows a layout (R100): 0 LINEAR, 1 BRICK, 2 PACKED. -/
def layoutOk (f l : Nat) : Bool := if fmtData f then l == 0 else fmtPicture f && decide (l ≤ 2)

/-- Rounded up to a multiple. -/
def roundUp (m v : Nat) : Nat := ceilDiv v m * m

/-- Bricks across and down, and bytes of a brick (chapter 6). -/
def brickCols (w : Nat) : Nat := ceilDiv w 64
def brickRows (h : Nat) : Nat := ceilDiv h 16
def brickBytes (f : Nat) : Nat := 64 * 16 * fmtBytes2 f / 2

/-- The least STRIDE of a LINEAR surface (R101): a multiple of 64 at least W × b, W even for 4:2:2 and 4:2:0. -/
def strideOf (f w : Nat) : Nat :=
  let w' := if fmtSampling f ≤ 1 then roundUp 2 w else w
  roundUp 64 (ceilDiv (w' * fmtBytes2 f) 2)

/-- Size in bytes of a picture surface (R101 to R103). -/
def surfaceBytes (f l w h : Nat) : Nat :=
  if l = 0 then
    let h16 := roundUp 16 h
    if fmtSampling f = 0 then strideOf f w * (h16 + h16 / 2) else strideOf f w * h
  else
    let bricks := brickCols w * brickRows h
    bricks * brickBytes f + (if l = 2 then roundUp 64 bricks else 0)

/-! ### Packed bricks (R103) -/

/-- Width and height of plane `p` of a brick. -/
def planeSize (f p : Nat) : Nat × Nat :=
  if p = 0 ∨ fmtSampling f = 2 then (64, 16) else if fmtSampling f = 1 then (32, 16) else (32, 8)

/-- The prediction of a sample of depth `d` at column `i`, row `j`, from its neighbours (R103). -/
def packPred (d i j : Nat) (left above aboveLeft : Nat) : Nat :=
  if i = 0 ∧ j = 0 then 2 ^ (d - 1)
  else if j = 0 then left
  else if i = 0 then above
  else
    let a := left
    let b := above
    let c := aboveLeft
    if c ≥ Nat.max a b then Nat.min a b else if c ≤ Nat.min a b then Nat.max a b else a + b - c

/-- The code u of a residual (R103). -/
def packU (d x pred : Nat) : Nat :=
  let e : Int := (((x : Int) - pred + 2 ^ (d - 1)) % (2 ^ d : Nat)) - 2 ^ (d - 1)
  if 0 ≤ e then (2 * e).toNat else (-2 * e - 1).toNat

/-- The sample of a code u (R103). -/
def packX (d u pred : Nat) : Nat :=
  let e : Int := if u % 2 = 0 then ((u / 2 : Nat) : Int) else -(((u + 1) / 2 : Nat) : Int)
  intMod ((pred : Int) + e) (2 ^ d)

/-- Bits of a number, most significant first. -/
def bitsOf (w v : Nat) : List Bool := (List.range w).map (fun k => natBit v (w - 1 - k))

/-- Bytes of a bit string, MSB first, padded with zeros to whole 64-byte units. -/
def packBytes (bs : List Bool) : List Byte :=
  let n := roundUp 64 (ceilDiv bs.length 8)
  (List.range n).map (fun k => byteOf ((List.range 8).foldl (fun a i => 2 * a + flag (bs.getD (8 * k + i) false)) 0))

/-- The codes u of a plane in raster order. -/
def planeCodes (d w h : Nat) (x : Nat → Nat → Nat) : List Nat :=
  (List.range (w * h)).map (fun k =>
    let i := k % w
    let j := k / w
    packU d (x i j) (packPred d i j (x (i - 1) j) (x i (j - 1)) (x (i - 1) (j - 1))))

/-- Bits of one group of 8 codes: w in 4 bits, then the codes. -/
def groupBits (us : List Nat) : List Bool :=
  let m := us.foldl Nat.max 0
  let w := if m = 0 then 0 else Nat.log2 m + 1
  bitsOf 4 w ++ us.flatMap (bitsOf w)

/-- The coded bits of a brick whose planes are given. -/
def brickBits (f d : Nat) (x : Nat → Nat → Nat → Nat) : List Bool :=
  (List.range (fmtPlanes f)).flatMap (fun p =>
    let sz := planeSize f p
    let us := planeCodes d sz.1 sz.2 (x p)
    (List.range (us.length / 8)).flatMap (fun g => groupBits ((us.drop (8 * g)).take 8)))

/-- Take `w` bits off a bit string, MSB first. -/
def takeBits (w : Nat) (bs : List Bool) : Nat × List Bool :=
  ((bs.take w).foldl (fun a b => 2 * a + flag b) 0, bs.drop w)

/-- Take `n` codes of `w` bits each. -/
def takeCodes (w : Nat) : Nat → List Bool → List Nat × List Bool
  | 0, bs => ([], bs)
  | n + 1, bs =>
    let (u, r) := takeBits w bs
    let (us, r') := takeCodes w n r
    (u :: us, r')

/-- Decode `g` groups of 8 codes; none when a width exceeds `d` or the data run out (R103). -/
def takeGroups (d : Nat) : Nat → List Bool → Option (List Nat × List Bool)
  | 0, bs => some ([], bs)
  | g + 1, bs =>
    let (w, r) := takeBits 4 bs
    if bs.length < 4 ∨ w > d ∨ r.length < 8 * w then none
    else
      let (us, r') := takeCodes w 8 r
      match takeGroups d g r' with
      | none => none
      | some (rest, r'') => some (us ++ rest, r'')

/-- Samples of a plane from its codes, in raster order (most recent first while they are built). -/
def planeSamples (d w : Nat) (us : List Nat) : List Nat :=
  (us.foldl (fun (acc : List Nat × Nat) u =>
      let k := acc.2
      let i := k % w
      let j := k / w
      let prev (n : Nat) : Nat := acc.1.getD (n - 1) 0
      let x := packX d u (packPred d i j (prev 1) (prev w) (prev (w + 1)))
      (x :: acc.1, k + 1)) ([], 0)).1.reverse

/-- Decode the planes of a brick (R103). -/
def takePlanes (f d : Nat) : List Nat → List Bool → Option (List (List Nat))
  | [], _ => some []
  | p :: ps, bs =>
    let sz := planeSize f p
    match takeGroups d (sz.1 * sz.2 / 8) bs with
    | none => none
    | some (us, r) =>
      match takePlanes f d ps r with
      | none => none
      | some rest => some (planeSamples d sz.1 us :: rest)

/-- What a brick read finds (R103): every sample 0, raw data, coded planes, or a failure that reads as 0 and is counted. -/
inductive BrickView where
  | zero
  | raw
  | coded (planes : List (List Nat))
  | bad
  deriving DecidableEq, Repr

/-- Read the header and data of a PACKED brick. -/
def brickView (f d : Nat) (header : Nat) (data : Nat → Nat → List Byte) : BrickView :=
  if header = 0 then .zero
  else if header = 0xFF then .raw
  else if header ≥ brickBytes f / 64 then .bad
  else
    match takePlanes f d (List.range (fmtPlanes f)) ((data 0 (64 * header)).flatMap (fun b => bitsOf 8 b.toNat)) with
    | none => .bad
    | some ps => .coded ps

/-! ### Sample addresses (R101, R102) -/

/-- Offset of a sample inside a picture stored with row pitch `pitch` and `lumaRows` luma rows before the chroma rows:
component `c` at its own column `x` and row `y` (chroma columns and rows counted in chroma samples). -/
def sampleOffset (f pitch lumaRows c x y : Nat) : Nat :=
  let b := fmtContainer f
  match fmtSampling f with
  | 0 => if c = 0 then y * pitch + x * b else (lumaRows + y) * pitch + x * 2 * b + (c - 1) * b
  | 1 => if c = 0 then y * pitch + (x / 2) * 4 * b + (x % 2) * 2 * b else y * pitch + x * 4 * b + (2 * c - 1) * b
  | _ => y * pitch + x * (fmtBytes2 f / 2) + c * b

/-- Brick column, brick row, and the place inside the brick, of a component sample. -/
def brickPlace (f c x y : Nat) : Nat × Nat × Nat × Nat :=
  let cw := if c ≠ 0 ∧ fmtSampling f ≤ 1 then 32 else 64
  let ch := if c ≠ 0 ∧ fmtSampling f = 0 then 8 else 16
  (x / cw, y / ch, x % cw, y % ch)

/-- Row pitch inside a brick: 64 × b, or 64 container bytes for 4:2:0 (R102). -/
def brickPitch (f : Nat) : Nat := if fmtSampling f = 0 then 64 * fmtContainer f else 64 * fmtBytes2 f / 2

/-- Address of a component sample in LINEAR or raw brick storage. -/
def sampleAddr (v : Surface) (c x y : Nat) : Nat :=
  if v.layout = 0 then v.base + sampleOffset v.fmt v.stride (roundUp 16 v.height) c x y
  else
    let (bx, by', i, j) := brickPlace v.fmt c x y
    v.base + (by' * brickCols v.width + bx) * brickBytes v.fmt + sampleOffset v.fmt (brickPitch v.fmt) 16 c i j

/-- Address of the header byte of a PACKED brick. -/
def headerAddr (v : Surface) (brick : Nat) : Nat :=
  v.base + brickCols v.width * brickRows v.height * brickBytes v.fmt + brick

/-- A sample from its container (R100). -/
def State.containerAt (s : State) (v : Surface) (a : Nat) : Nat :=
  if fmtContainer v.fmt = 1 then byteAt (s.dramRead a 1) 0 else leNat (s.dramRead a 2) / 2 ^ (16 - depthBits v.depth)

/-- Read one component sample of a surface; a damaged brick reads as 0 (R103). -/
def State.sampleAt (s : State) (v : Surface) (c x y : Nat) : Nat :=
  if v.layout = 2 then
    let (bx, by', i, j) := brickPlace v.fmt c x y
    let brick := by' * brickCols v.width + bx
    let at' := v.base + brick * brickBytes v.fmt
    match brickView v.fmt (depthBits v.depth) (byteAt (s.dramRead (headerAddr v brick) 1) 0)
        (fun o n => s.dramRead (at' + o) n) with
    | .raw => s.containerAt v (sampleAddr v c x y)
    | .coded ps => (ps.getD c []).getD (j * (planeSize v.fmt c).1 + i) 0
    | _ => 0
  else s.containerAt v (sampleAddr v c x y)

/-- Bricks of a PACKED surface whose read fails (R103), for CMP_PACK_ERR. -/
def State.badBrick (s : State) (v : Surface) (brick : Nat) : Bool :=
  v.layout == 2 &&
    (match brickView v.fmt (depthBits v.depth) (byteAt (s.dramRead (headerAddr v brick) 1) 0)
        (fun o n => s.dramRead (v.base + brick * brickBytes v.fmt + o) n) with
     | .bad => true
     | _ => false)

/-- A read of bricks of a PACKED surface counts each that fails R103 once. -/
def State.readBricks (s : State) (v : Surface) (bricks : List Nat) : State :=
  s.bump Reg.CMP_PACK_ERR (bricks.dedup.filter (s.badBrick v)).length

/-- Write one component sample in raw storage (R100): the low bits of its container are 0. -/
def State.putSample (s : State) (v : Surface) (c x y val : Nat) : State :=
  let a := sampleAddr v c x y
  if fmtContainer v.fmt = 1 then s.dramWrite a [byteOf val]
  else s.dramWrite a (leBytes 2 ((val % 2 ^ depthBits v.depth) * 2 ^ (16 - depthBits v.depth)))

/-- Width and height of component `c` of a surface in its own samples. -/
def compSize (v : Surface) (c : Nat) : Nat × Nat :=
  if c = 0 ∨ fmtSampling v.fmt = 2 then (v.width, v.height)
  else if fmtSampling v.fmt = 1 then (ceilDiv v.width 2, v.height)
  else (ceilDiv v.width 2, ceilDiv v.height 2)

/-- Width and height of component `c` of a surface's storage: whole bricks in BRICK and PACKED layout (R102). -/
def storedSize (v : Surface) (c : Nat) : Nat × Nat :=
  if v.layout = 0 then compSize v c
  else (brickCols v.width * (planeSize v.fmt c).1, brickRows v.height * (planeSize v.fmt c).2)

/-- Store 0 in the pixels of edge bricks beyond the picture (R102). -/
def State.padEdges (s : State) (v : Surface) : State :=
  (List.range (fmtPlanes v.fmt)).foldl (fun s c =>
    let sz := compSize v c
    let full := storedSize v c
    (List.range full.2).foldl (fun s y =>
      (List.range (full.1 - (if y < sz.2 then sz.1 else 0))).foldl (fun s k =>
        s.putSample v c ((if y < sz.2 then sz.1 else 0) + k) y 0) s) s) s

/-- Code one brick of a PACKED surface from a picture `x c i j` and write its slot and header byte (R103, R104). Pixels
beyond the picture are 0 (R102). -/
def State.writeBrick (s : State) (v : Surface) (bx by' : Nat) (x : Nat → Nat → Nat → Nat) : State :=
  let f := v.fmt
  let cell (p i j : Nat) : Nat :=
    let sz := compSize v p
    let bs := planeSize f p
    let xx := bx * bs.1 + i
    let yy := by' * bs.2 + j
    if xx < sz.1 ∧ yy < sz.2 then x p xx yy else 0
  let brick := by' * brickCols v.width + bx
  let bytes := packBytes (brickBits f (depthBits v.depth) cell)
  let units := bytes.length / 64
  if units ≥ brickBytes f / 64 then
    let s1 := (List.range (fmtPlanes f)).foldl (fun s p =>
        let bs := planeSize f p
        (List.range (bs.1 * bs.2)).foldl (fun s k =>
          s.putSample v p (bx * bs.1 + k % bs.1) (by' * bs.2 + k / bs.1) (cell p (k % bs.1) (k / bs.1))) s) s
    s1.dramWrite (headerAddr v brick) [0xFF]
  else (s.dramWrite (v.base + brick * brickBytes f) bytes).dramWrite (headerAddr v brick) [byteOf units]

/-- Write a whole picture into a surface in its layout: `x c i j` is the sample of component c (R88, R102, R104). -/
def State.writePicture (s : State) (v : Surface) (x : Nat → Nat → Nat → Nat) : State :=
  if v.layout = 2 then
    (List.range (brickRows v.height)).foldl (fun s r =>
      (List.range (brickCols v.width)).foldl (fun s b => s.writeBrick v b r x) s) s
  else
    (List.range (fmtPlanes v.fmt)).foldl (fun s c =>
      let sz := compSize v c
      (List.range (sz.1 * sz.2)).foldl (fun s k => s.putSample v c (k % sz.1) (k / sz.1) (x c (k % sz.1) (k / sz.1))) s) (s.padEdges v)

/-! ### Surface table (R105 to R107) -/

/-- The handle of a surface: index in [11:0], generation in [15:12]. -/
def handleOf (v : Surface) : Nat := v.index + v.gen * 4096

/-- The LIVE or RETIRING surface a handle names; a stale handle names none. -/
def State.surface? (s : State) (h : Nat) : Option Surface := s.cmp.surfaces.find? (fun v => handleOf v == h % 65536)

/-- The LIVE surface a handle names. -/
def State.live? (s : State) (h : Nat) : Option Surface := (s.surface? h).filter (fun v => !v.retiring)

/-- Change the surface of a handle. -/
def State.modSurface (s : State) (h : Nat) (f : Surface → Surface) : State :=
  { s with cmp := { s.cmp with surfaces := s.cmp.surfaces.map (fun v => if handleOf v = h then f v else v) } }

/-- The host pool in 64 KiB units: (base, size) (R105). -/
def State.pool (s : State) : Nat × Nat :=
  match s.gen.running with
  | none => (0, 0)
  | some im => (im.dram.poolBase / 65536, im.dram.poolSize / 65536)

/-- The start addresses worth trying: the pool's base and the end of every allocation, in units. -/
def State.poolStarts (s : State) : List Nat :=
  s.pool.1 :: s.cmp.surfaces.map (fun v => v.base / 65536 + v.units)

/-- Whether `n` units fit at unit `a`. -/
def State.poolFits (s : State) (a n : Nat) : Bool :=
  decide (s.pool.1 ≤ a) && decide (a + n ≤ s.pool.1 + s.pool.2) &&
    s.cmp.surfaces.all (fun v => decide (a + n ≤ v.base / 65536) || decide (v.base / 65536 + v.units ≤ a))

/-- The lowest unit where `n` units fit in one contiguous range (R105). -/
def State.poolFind (s : State) (n : Nat) : Option Nat :=
  (s.poolStarts.filter (fun a => s.poolFits a n)).foldl (fun m a => match m with | none => some a | some b => some (Nat.min a b)) none

/-- The largest free range of the pool (CMP_POOL_FREE). -/
def State.poolFree (s : State) : Nat :=
  let stop (a : Nat) : Nat :=
    ((s.cmp.surfaces.map (fun v => v.base / 65536)).filter (fun b => decide (a ≤ b))).foldl Nat.min (s.pool.1 + s.pool.2)
  ((s.poolStarts.filter (fun a => s.poolFits a 0)).map (fun a => stop a - a)).foldl Nat.max 0

/-- The lowest free table index from 1 to 4,095. -/
def State.freeIndex (s : State) : Option Nat :=
  (List.range 4096).find? (fun i => i != 0 && !s.cmp.surfaces.any (fun v => v.index == i))

/-- SURFACE_ALLOC (R100, R105): at the lowest free index and the lowest address that holds it; the generation of the index
rises by 1. A follower's tables are copies, so it answers NOT_PRIMARY (R111). -/
def doSurfaceAlloc (c : MboxCmd) (s : State) : State × Reply :=
  let f := byteAt c.body 0
  let l := byteAt c.body 1
  let w := leAt c.body 4 2
  let h := leAt c.body 6 2
  if s.follows then (s, Reply.of St.NOT_PRIMARY)
  else
    match depthCode f (byteAt c.body 2) with
    | none => (s, Reply.of St.SURF_FORMAT)
    | some d =>
      if !layoutOk f l then (s, Reply.of St.SURF_FORMAT)
      else
        let size := if fmtData f then leAt c.body 8 4 else surfaceBytes f l w h
        let units := ceilDiv size 65536
        match s.freeIndex, s.poolFind units with
        | some i, some a =>
          let g := (tabGet s.cmp.gens i + 1) % 16
          let v : Surface :=
            { index := i, gen := g, fmt := f, layout := l, depth := d, width := w, height := h,
              stride := if l = 0 ∧ fmtPicture f then strideOf f w else 0, base := a * 65536, size := size, units := units,
              retiring := false, fence := 0, damaged := false, generated := false, patched := false, rtp := none, colour := none, lastNamed := none }
          let s1 := { s with cmp := { s.cmp with surfaces := s.cmp.surfaces ++ [v], gens := tabSet s.cmp.gens i g } }
          (s1.sendLink (.config (.surface v)),
            { status := St.OK, body := leBytes 2 (handleOf v) ++ zeroBytes 2 ++ leBytes 8 v.base })
        | _, _ => (s, Reply.of St.POOL_EXHAUSTED)

/-! ### Writes of the image's graphs (R104, R108) -/

/-- Byte `a` of a raw brick, as a graph wrote it or as it is stored. -/
def State.graphByte (s : State) (a : Nat) : Nat :=
  match s.cmp.graphRaw.find? (fun c => c.1 == a) with
  | some c => c.2.toNat
  | none => byteAt (s.dramRead a 1) 0

/-- Code the brick of a PACKED surface from the containers a graph wrote, which are then forgotten (R104). -/
def State.codeGraphBrick (s : State) (v : Surface) (brick : Nat) : State :=
  let lo := v.base + brick * brickBytes v.fmt
  let sample (c x y : Nat) : Nat :=
    let a := sampleAddr v c x y
    if fmtContainer v.fmt = 1 then s.graphByte a else (s.graphByte a + 256 * s.graphByte (a + 1)) / 2 ^ (16 - depthBits v.depth)
  let s1 := s.writeBrick v (brick % brickCols v.width) (brick / brickCols v.width) sample
  { s1 with cmp := { s1.cmp with graphRaw := s1.cmp.graphRaw.filter (fun c => !(decide (lo ≤ c.1) && decide (c.1 < lo + brickBytes v.fmt))) } }

/-- A graph writes bytes. In the host pool they reach a LIVE surface or are dropped and counted (R108), a pool surface being the codec's own;
in a PACKED surface they are raw bricks, each coded with its header byte once all of it is there (R104; log entry 94). -/
def State.graphWrite (s : State) (a : Nat) (bs : List Byte) : State :=
  let units := s.pool
  match s.cmp.surfaces.find? (fun v => decide (v.base ≤ a) && decide (a < v.base + v.size)) with
  | none => if units.1 * 65536 ≤ a ∧ a < (units.1 + units.2) * 65536 then s.bump Reg.CMP_RETIRED_DROP 1 else s.dramWrite a bs
  | some v =>
    if v.retiring ∧ v.fmt ≠ 0x11 then s.bump Reg.CMP_RETIRED_DROP 1
    else if v.layout ≠ 2 then s.dramWrite a bs
    else
      let b := brickBytes v.fmt
      let fresh := bs.zipIdx.map (fun x => (a + x.2, x.1))
      let kept := s.cmp.graphRaw.filter (fun c => !(decide (a ≤ c.1) && decide (c.1 < a + bs.length)))
      let s1 := { s with cmp := { s.cmp with graphRaw := kept ++ fresh } }
      let whole (s : State) (k : Nat) : Bool :=
        (s.cmp.graphRaw.filter (fun c => decide (v.base + k * b ≤ c.1) && decide (c.1 < v.base + (k + 1) * b))).length == b
      let touched := (fresh.map (fun c => (c.1 - v.base) / b)).dedup.filter (fun k => decide (k < brickCols v.width * brickRows v.height))
      touched.foldl (fun s k => if whole s k then s.codeGraphBrick v k else s) s1

/-! ### Use of a surface (R106, R107) -/

/-- The addresses of the pending set: CMP_COLOUR, CMP_TILE_MESH and the layers (R109, R112). -/
def pendingAddr (a : Nat) : Bool :=
  a == Reg.CMP_COLOUR || (decide (Reg.CMP_TILE_MESH 0 ≤ a) && decide (a ≤ Reg.CMP_TILE_MESH 255)) ||
    (decide (Reg.CMP_LAYER 0 ≤ a) && decide (a < 0x65000))

/-- The words of the pending set. -/
def State.pendingSet (s : State) : List (Nat × Word) := s.regs.filter (fun c => pendingAddr c.1)

/-- A word of a set. -/
def setWord (words : List (Nat × Word)) (a : Nat) : Word := cellGet resetValue words a

/-- Word `k` of layer `l` of a set. -/
def layerWord (words : List (Nat × Word)) (l k : Nat) : Word := setWord words (Reg.CMP_LAYER l + 4 * k)

/-- Layer fields of Table 6.2. -/
def layerOn (words : List (Nat × Word)) (l : Nat) : Bool := bitOf (layerWord words l 0) 0
def layerSlots (words : List (Nat × Word)) (l : Nat) : Nat := fieldOf (layerWord words l 0) 1 4
def layerKind (words : List (Nat × Word)) (l : Nat) : Nat := fieldOf (layerWord words l 0) 5 2
def layerSource (words : List (Nat × Word)) (l : Nat) : Nat := fieldOf (layerWord words l 1) 0 16

/-- The ring handles of a stream: three, or four with RING4 (Table 4.5). -/
def State.ringOf (s : State) (str : Nat) : List Nat :=
  let a := s.reg (Reg.ING_STR_SURF01 str)
  let b := s.reg (Reg.ING_STR_SURF23 str)
  let three := [fieldOf a 0 16, fieldOf a 16 16, fieldOf b 0 16]
  if s.bit (Reg.ING_STR_CTRL str) Fld.ING_STR_CTRL_RING4 then three ++ [fieldOf b 16 16] else three

/-- Whether a set names a surface: as a layer's source, through a stream whose ring holds it, as a tile mesh or as the
colour table (R106, R107). -/
def State.setNames (s : State) (words : List (Nat × Word)) (h : Nat) : Bool :=
  (List.range 256).any (fun l =>
      layerOn words l &&
        ((layerKind words l == 0 && layerSource words l == h) ||
          (layerKind words l == 1 && decide (layerSource words l < 16) && (s.ringOf (layerSource words l)).contains h))) ||
    (List.range 256).any (fun t => fieldOf (setWord words (Reg.CMP_TILE_MESH t)) 0 16 == h) ||
    fieldOf (setWord words Reg.CMP_COLOUR) 0 16 == h

/-- Whether stream `str` is enabled. -/
def State.streamOn (s : State) (str : Nat) : Bool := s.bit (Reg.ING_STR_CTRL str) Fld.ING_STR_CTRL_ENABLE

/-- The newest committed set. -/
def State.newestSet (s : State) : Option CommitSet := s.cmp.sets.getLast?

/-- Whether a surface is in use (R106): the newest committed set, the pending set under validation, or an enabled stream. -/
def State.inUse (s : State) (h : Nat) : Bool :=
  (s.newestSet).any (fun c => s.setNames c.words h) ||
    (s.bit Reg.CMP_COMMIT_STAT Fld.CMP_COMMIT_STAT_BUSY && s.setNames s.pendingSet h) ||
    (List.range 16).any (fun str => s.streamOn str && (s.ringOf str).contains h)

/-- The last instance each older set governs, with its set: the one before the next set's WFN. -/
def setSpans : List CommitSet → List (CommitSet × Nat)
  | a :: b :: rest => (a, b.wfn - 1) :: setSpans (b :: rest)
  | _ => []

/-- The fence of a release (R107): the highest WFN of an instance that names the surface, else the newest instance. -/
def State.fenceOf (s : State) (v : Surface) : Nat :=
  let spans := (setSpans s.cmp.sets).filter (fun p => s.setNames p.1.words (handleOf v))
  match (spans.map (·.2)).foldl (fun m x => match m with | none => some x | some y => some (Nat.max x y)) v.lastNamed with
  | some f => f
  | none => s.sch.newest

/-- A channel reports an error: LAST_ERR and its bit in CDC_ERR_EVT (Table 5.5). -/
def State.codecErr (s : State) (c code : Nat) : State :=
  (s.put (Reg.CDC_CH_STAT c) Fld.CDC_CH_STAT_LAST_ERR code).setReg Reg.CDC_ERR_EVT
    (s.reg Reg.CDC_ERR_EVT ||| BitVec.ofNat 32 (2 ^ c))

/-- A channel enters CONFIG_ERR (R85, R88, R93). -/
def State.codecConfigErr (s : State) (c : Nat) : State :=
  (s.put (Reg.CDC_CH_STAT c) Fld.CDC_CH_STAT_STATE 3).codecErr c 9

/-- A pool that becomes RETIRING stops the channels that use it: at once, or when the picture in progress is done (R93). -/
def State.poolRetired (s : State) (h : Nat) : State :=
  (List.range 16).foldl (fun s c =>
      if fieldOf (s.reg (Reg.CDC_CH_POOL c)) 0 16 = h ∧ s.streamOn c ∧
          s.get (Reg.ING_STR_CTRL c) Fld.ING_STR_CTRL_FORMAT = 2 ∧
          s.get (Reg.CDC_CH_STAT c) Fld.CDC_CH_STAT_STATE ≠ 3 ∧
          !(s.cdc.decoding.any (fun d => d.pic.channel == c))
      then s.codecConfigErr c else s) s

/-- SURFACE_RELEASE (R106, R107). -/
def doSurfaceRelease (c : MboxCmd) (s : State) : State × Reply :=
  let h := leAt c.body 0 2
  if s.follows then (s, Reply.of St.NOT_PRIMARY)
  else
    match s.surface? h with
    | none => (s, Reply.of St.SURF_STALE)
    | some v =>
      if v.retiring then (s, { status := St.OK, wfn := v.fence })
      else if v.fmt ≠ 0x11 ∧ s.inUse h then (s, Reply.of St.SURF_IN_USE)
      else
        let f := s.fenceOf v
        let s0 := s.modSurface h (fun v => { v with retiring := true, fence := f })
        let s1 := if v.fmt = 0x11 then s0.poolRetired h else s0
        (s1.sendLink (.config (.surface { v with retiring := true, fence := f })), { status := St.OK, wfn := f })

def execSurfaceAlloc (c : MboxCmd) (s : State) : Host.Outcome State Fault Refusal :=
  .next (s.serve 0x0201 c doSurfaceAlloc)

def execSurfaceRelease (c : MboxCmd) (s : State) : Host.Outcome State Fault Refusal :=
  .next (s.serve 0x0202 c doSurfaceRelease)

/-- Whether a codec channel still reads a pool: it decodes with that handle (R93, R107). -/
def State.codecReads (s : State) (h : Nat) : Bool :=
  (List.range 16).any (fun c => fieldOf (s.reg (Reg.CDC_CH_POOL c)) 0 16 == h && s.cdc.decoding.any (fun d => d.pic.channel == c))

/-- A RETIRING surface becomes FREE once every instance up to its fence has ended and no codec channel reads it (R107). -/
def execSurfaceFree (handle t : Nat) (s : State) : Host.Outcome State Fault Refusal :=
  let s1 := s.tick t
  match s.surface? handle with
  | none => .next s1
  | some v =>
    if v.retiring ∧ v.fence ≤ s.sch.newest ∧ s.endedUpTo v.fence ∧ !s.codecReads handle then
      .next (({ s1 with cmp := { s1.cmp with surfaces := s1.cmp.surfaces.filter (fun x => handleOf x != handleOf v) } }).sendLink
        (.config (.freed handle)))
    else .next s1

/-! ### Registers that show the table (Table 6.6) -/

/-- CMP_SURF_D0 to D3 and the fence of the selected handle, all 0 for a handle that names no surface; the pool's largest free range; the
limits of the running image (R109). -/
def State.surfView (s : State) (a : Nat) : Option Word :=
  let sel := (s.reg Reg.CMP_SURF_SEL).toNat
  let v? := s.surface? sel
  let pick (f : Surface → Nat) : Option Word := some (word ((v?.map f).getD 0))
  if a = Reg.CMP_SURF_D0 then pick (fun v => v.base / 64)
  else if a = Reg.CMP_SURF_D1 then pick (fun v => v.width + v.height * 65536)
  else if a = Reg.CMP_SURF_D2 then
    pick (fun v => v.fmt + v.layout * 32 + v.depth * 128 + (if v.retiring then 2 else 1) * 512 + flag v.damaged * 2048 +
      flag v.generated * 4096 + flag v.patched * 8192 + (v.stride / 64) * 65536)
  else if a = Reg.CMP_SURF_D3 then pick (fun v => v.units)
  else if a = Reg.CMP_SURF_FENCE_LO then pick (fun v => if v.retiring then v.fence else 0)
  else if a = Reg.CMP_SURF_FENCE_HI then pick (fun v => if v.retiring then v.fence / 2 ^ 32 else 0)
  else if a = Reg.CMP_POOL_FREE then some (word s.poolFree)
  else if a = Reg.CMP_ENVELOPE then
    some (match s.gen.running with
      | none => 0
      | some im => if im.role = .sender then word (im.timeline.maxLayers + 256 * im.timeline.maxOverlap) else 0)
  else none

end Sys2Proof.Machine
end

