-- ==== Sys2Proof/Machine/Compose.lean ====
section
/-! DEFINITION. From a tile pixel to a 36-bit chain pixel: mesh, layers, colour tables, blending and the output table
(R109, R114 to R119, R121). -/
namespace Sys2Proof.Machine

/-- What the composition of one tile in one slot reads beside DRAM: the committed words, the colour table, the tile's mesh
and the pictures its window took (R113 to R115). -/
structure ComposeIn where
  words : List (Nat × Word)
  table : List Byte
  mesh : List Byte
  pics : List (Nat × Nat)
  deriving DecidableEq, Repr

/-! ### Colour tables (Table 6.5) -/

/-- A 32-bit little-endian word of the table, 0 past its end. -/
def tableWord (t : List Byte) (off : Nat) : Nat := leAt t off 4

/-- Entry `k` of YCbCr matrix `m`: 9 coefficients, then 3 offsets. -/
def yccEntry (t : List Byte) (m k : Nat) : Int := signedOf 20 (tableWord t (64 * m + 4 * k))

/-- Coefficient `k` of gamut matrix `g`. -/
def gamutEntry (t : List Byte) (g k : Nat) : Int := signedOf 20 (tableWord t (0x400 + 64 * g + 4 * k))

/-- Entry `i` of input transfer table `n`. -/
def transferEntry (t : List Byte) (n i : Nat) : Int := ((tableWord t (0x800 + 4160 * n + 4 * i) % 2 ^ 24 : Nat) : Int)

/-- Entry `i` of the output table. -/
def outputEntry (t : List Byte) (i : Nat) : Nat := leAt t (0x10C00 + 2 * i) 2

/-! ### Mesh (R116) -/

/-- Mesh point (i, j) of a raster `w` wide. -/
def meshPoint (mesh : List Byte) (w i j : Nat) : Int × Int :=
  let o := 8 * (j * (w / 16 + 1) + i)
  (signedOf 32 (leAt mesh o 4), signedOf 32 (leAt mesh (o + 4) 4))

/-- Canvas position of tile pixel (u, v), in S23.8 (R116). -/
def meshPos (mesh : List Byte) (w u v : Nat) : Int × Int :=
  let i := u / 16
  let j := v / 16
  let p : Int := ((u % 16 : Nat) : Int)
  let q : Int := ((v % 16 : Nat) : Int)
  let a := meshPoint mesh w i j
  let b := if u % 16 = 0 then a else meshPoint mesh w (i + 1) j
  let c := if v % 16 = 0 then a else meshPoint mesh w i (j + 1)
  let d := if u % 16 = 0 ∨ v % 16 = 0 then a else meshPoint mesh w (i + 1) (j + 1)
  let mix (f : Int × Int → Int) : Int :=
    ((16 - p) * (16 - q) * f a + p * (16 - q) * f b + (16 - p) * q * f c + p * q * f d + 128) / 256
  (mix (·.1), mix (·.2))

/-! ### Layer fields (Table 6.2) -/

/-- Signed 16-bit reading of a half word. -/
def half (w : Word) (hi : Bool) : Int := signedOf 16 (fieldOf w (if hi then 16 else 0) 16)
def halfNat (w : Word) (hi : Bool) : Nat := fieldOf w (if hi then 16 else 0) 16

/-- PLANE_ALPHA; values above 0x8000 act as 0x8000. -/
def planeAlpha (words : List (Nat × Word)) (l : Nat) : Nat := Nat.min 0x8000 (fieldOf (layerWord words l 6) 0 16)

/-- Whether a layer covers a canvas coordinate along one axis (R117). -/
def coversAxis (dst : Int) (size : Nat) (x : Int) : Bool := decide (dst * 256 ≤ x) && decide (x < (dst + size) * 256)

/-- Whether a layer covers a canvas position. -/
def layerCovers (words : List (Nat × Word)) (l : Nat) (x y : Int) : Bool :=
  coversAxis (half (layerWord words l 4) false) (halfNat (layerWord words l 5) false) x &&
    coversAxis (half (layerWord words l 4) true) (halfNat (layerWord words l 5) true) y

/-- The source coordinate tx (or ty) of R117. -/
def sourceCoord (src srcSize : Nat) (dst : Int) (dstSize : Nat) (x : Int) : Int :=
  let step := (srcSize * 65536 + dstSize / 2) / dstSize
  src * 256 + (((x - dst * 256) * step + 32768) / 65536) - 128

/-- The two indices and the weight of one axis: nearest or bilinear, clamped to [lo, hi] (R117). -/
def axisTaps (bilinear : Bool) (t : Int) (lo hi : Nat) : Nat × Nat × Nat :=
  let k := t / 256
  let f := (t % 256).toNat
  let clamp (v : Int) : Nat := (clampInt lo hi v).toNat
  if bilinear then (clamp k, clamp (k + 1), f)
  else let i := clamp (k + if f ≥ 128 then 1 else 0); (i, i, 0)

/-- A sample of depth D widened to 16 bits by bit replication (R117). -/
def widen (d v : Nat) : Nat := (v * 2 ^ (16 - d)) ||| (v / 2 ^ (2 * d - 16))

/-- The taps of component `c` of a layer on its surface at a canvas position. -/
def layerTaps (words : List (Nat × Word)) (l : Nat) (v : Surface) (c : Nat) (x y : Int) : (Nat × Nat × Nat) × (Nat × Nat × Nat) :=
  let w2 := layerWord words l 2
  let w3 := layerWord words l 3
  let w4 := layerWord words l 4
  let w5 := layerWord words l 5
  let bil := fieldOf (layerWord words l 0) 20 2 == 1
  let tx := sourceCoord (halfNat w2 false) (halfNat w3 false) (half w4 false) (halfNat w5 false) x
  let ty := sourceCoord (halfNat w2 true) (halfNat w3 true) (half w4 true) (halfNat w5 true) y
  let sx := halfNat w2 false
  let ex := sx + halfNat w3 false - 1
  let sy := halfNat w2 true
  let ey := sy + halfNat w3 true - 1
  let chroma := c == 1 || c == 2
  let hx := chroma && decide (fmtSampling v.fmt ≤ 1)
  let hy := chroma && fmtSampling v.fmt == 0
  (axisTaps bil (if hx then tx / 2 else tx) (if hx then sx / 2 else sx) (if hx then ex / 2 else ex),
   axisTaps bil (if hy then (ty - 128) / 2 else ty) (if hy then sy / 2 else sy) (if hy then ey / 2 else ey))

/-- A filtered 16-bit component of a layer at a canvas position (R117). -/
def State.layerSample (s : State) (words : List (Nat × Word)) (l : Nat) (v : Surface) (c : Nat) (x y : Int) : Nat :=
  let (tx, ty) := layerTaps words l v c x y
  let at' (i j : Nat) : Nat := widen (depthBits v.depth) (s.sampleAt v c i j)
  let fx := tx.2.2
  let fy := ty.2.2
  ((256 - fx) * (256 - fy) * at' tx.1 ty.1 + fx * (256 - fy) * at' tx.2.1 ty.1 + (256 - fx) * fy * at' tx.1 ty.2.1 +
    fx * fy * at' tx.2.1 ty.2.1 + 32768) / 65536

/-! ### Colour stages (R118, R119) -/

/-- R'G'B' of a YCbCr sample through matrix `m`. -/
def yccToRgb (t : List Byte) (m : Nat) (y cb cr : Nat) : List Nat :=
  [0, 1, 2].map (fun r =>
    (clampInt 0 65535 ((yccEntry t m (3 * r) * y + yccEntry t m (3 * r + 1) * cb + yccEntry t m (3 * r + 2) * cr +
      yccEntry t m (9 + r) + 8192) / 16384)).toNat)

/-- Linear light of a 16-bit code through input table `n`. -/
def toLinear (t : List Byte) (n v : Nat) : Int :=
  let i := v / 64
  let fr : Int := ((v % 64 : Nat) : Int)
  transferEntry t n i + (((transferEntry t n (i + 1) - transferEntry t n i) * fr + 32) / 64)

/-- The gamut stage. -/
def toGamut (t : List Byte) (g : Nat) (lin : List Int) : List Nat :=
  [0, 1, 2].map (fun r =>
    (clampInt 0 (2 ^ 24 - 1) ((gamutEntry t g (3 * r) * lin.getD 0 0 + gamutEntry t g (3 * r + 1) * lin.getD 1 0 +
      gamutEntry t g (3 * r + 2) * lin.getD 2 0 + 16384) / 32768)).toNat)

/-- One primary blended over `d` (R118). -/
def blend (mode rgb alpha plane d : Nat) : Nat :=
  if mode = 0 then rgb
  else if mode = 1 then (rgb * alpha + d * (65536 - alpha) + 32768) / 65536
  else if mode = 2 then Nat.min ((rgb * plane + 16384) / 32768 + (d * (65536 - alpha) + 32768) / 65536) (2 ^ 24 - 1)
  else Nat.min (d + (rgb * alpha + 32768) / 65536) (2 ^ 24 - 1)

/-- The 12-bit code of a blended value through the output table (R119). -/
def encodeOut (t : List Byte) (v : Nat) : Nat :=
  if v < 64 then Nat.min ((outputEntry t v * 256 + 2048) / 4096) 4095
  else
    let e := Nat.log2 v
    let i := 64 * (e - 5) + (v / 2 ^ (e - 6)) % 64
    let r := v % 2 ^ (e - 6)
    let fr := if e ≥ 14 then r / 2 ^ (e - 14) else r * 2 ^ (14 - e)
    Nat.min ((outputEntry t i * (256 - fr) + outputEntry t (i + 1) * fr + 2048) / 4096) 4095

/-! ### Composition -/

/-- The surface a layer reads: its own, or the latest complete picture its window took; none is transparent (R109, R115). -/
def State.layerSurface (s : State) (inp : ComposeIn) (l : Nat) : Option Surface :=
  if layerKind inp.words l = 0 then s.surface? (layerSource inp.words l)
  else (inp.pics.find? (fun p => p.1 == layerSource inp.words l)).bind (fun p => s.surface? p.2)

/-- 16-bit R'G'B' codes and alpha of a layer at a position it covers; none when its source has no picture. -/
def State.layerCodes (s : State) (inp : ComposeIn) (l : Nat) (x y : Int) : Option (List Nat × Nat) :=
  let alpha16 (a : Nat) : Nat := a + a / 2 ^ 15
  if layerKind inp.words l = 2 then
    let w7 := layerWord inp.words l 7
    let w8 := layerWord inp.words l 8
    some ([halfNat w7 false, halfNat w7 true, halfNat w8 false], alpha16 (halfNat w8 true))
  else
    match s.layerSurface inp l with
    | none => none
    | some v =>
      let smp (c : Nat) : Nat := s.layerSample inp.words l v c x y
      let a := if fmtAlpha v.fmt then alpha16 (smp 3) else 65536
      if fmtRgb v.fmt then some ([smp 0, smp 1, smp 2], a)
      else some (yccToRgb inp.table (fieldOf (layerWord inp.words l 1) 16 4) (smp 0) (smp 1) (smp 2), a)

/-- Blend layer `l` over `d` at a canvas position. -/
def State.blendLayer (s : State) (inp : ComposeIn) (x y : Int) (d : List Nat) (l : Nat) : List Nat :=
  if !layerCovers inp.words l x y then d
  else
    match s.layerCodes inp l x y with
    | none => d
    | some (codes, a) =>
      let w0 := layerWord inp.words l 0
      let w1 := layerWord inp.words l 1
      let lin := codes.map (toLinear inp.table (fieldOf w1 20 4))
      let rgb := toGamut inp.table (fieldOf w1 24 4) lin
      let pa := planeAlpha inp.words l
      let alpha := (a * pa + 16384) / 32768
      [0, 1, 2].map (fun k => blend (fieldOf w0 18 2) (rgb.getD k 0) alpha pa (d.getD k 0))

/-- The enabled layers of a slot in drawing order: ascending Z, ties by layer index (R109). -/
def drawOrder (words : List (Nat × Word)) (slot : Nat) : List Nat :=
  let on := (List.range 256).filter (fun l => layerOn words l && natBit (layerSlots words l) slot)
  on.mergeSort (fun a b =>
    let za := fieldOf (layerWord words a 0) 8 8
    let zb := fieldOf (layerWord words b 0) 8 8
    decide (za < zb) || (za == zb && decide (a ≤ b)))

/-- The three 12-bit codes of tile pixel (u, v) of a slot (R116 to R119). -/
def State.composePixel (s : State) (inp : ComposeIn) (order : List Nat) (w u v : Nat) : List Nat :=
  let p := meshPos inp.mesh w u v
  ((order.foldl (s.blendLayer inp p.1 p.2) [0, 0, 0]).map (encodeOut inp.table))

/-- The 36-bit pixel passed to the chain encoder: R, G, B in 12 bits apiece. -/
def packPixel (c : List Nat) : Nat := c.getD 0 0 * 2 ^ 24 + c.getD 1 0 * 2 ^ 12 + c.getD 2 0

/-- A tile's picture for one slot, in raster order (R109, R115). -/
def State.composeTile (s : State) (inp : ComposeIn) (slot w h : Nat) : List Nat :=
  let order := drawOrder inp.words slot
  (List.range (w * h)).map (fun k => packPixel (s.composePixel inp order w (k % w) (k / w)))

/-- The bricks of PACKED sources a tile's composition reads that fail R103, as (handle, brick), each once. -/
def State.badBricks (s : State) (inp : ComposeIn) (slot w h : Nat) : List (Nat × Nat) :=
  let order := drawOrder inp.words slot
  let touched := (List.range (w * h)).flatMap (fun k =>
    let p := meshPos inp.mesh w (k % w) (k / w)
    order.flatMap (fun l =>
      if !layerCovers inp.words l p.1 p.2 || layerKind inp.words l == 2 then []
      else
        match s.layerSurface inp l with
        | none => []
        | some v =>
          if v.layout ≠ 2 then []
          else (List.range (fmtPlanes v.fmt)).flatMap (fun c =>
            let (tx, ty) := layerTaps inp.words l v c p.1 p.2
            [(tx.1, ty.1), (tx.2.1, ty.1), (tx.1, ty.2.1), (tx.2.1, ty.2.1)].map (fun q =>
              let (bx, by', _, _) := brickPlace v.fmt c q.1 q.2
              (handleOf v, by' * brickCols v.width + bx)))))
  touched.dedup.filter (fun p => (s.surface? p.1).any (fun v => s.badBrick v p.2))

/-- The committed set instance F reads (R113). -/
def State.setFor (s : State) (f : Nat) : List (Nat × Word) :=
  (((s.cmp.sets.filter (fun c => decide (c.wfn ≤ f))).getLast?).map (·.words)).getD []

/-- Bytes of the surface a handle names, or none. -/
def State.surfaceBytesOf (s : State) (h : Nat) : List Byte :=
  match s.surface? h with
  | none => []
  | some v => s.dramRead v.base v.size

/-- The latest complete pictures as they stand: (stream, handle). -/
def State.latestPics (s : State) : List (Nat × Nat) := s.ing.streams.filterMap (fun x => x.latest.map (fun h => (x.stream, h)))

/-- What the composition of tile `ta` in (F, slot) reads: the prefill of instance F, or the surfaces as they stand, and the
pictures taken when its chain window opened (R114, R115). -/
def State.composeIn (s : State) (f slot ta : Nat) : ComposeIn :=
  let words := s.setFor f
  let pics := (((s.cmp.windows.find? (fun w => w.wfn == f && w.slot == slot)).map (·.pics))).getD []
  match s.cmp.prefills.find? (fun p => p.wfn == f) with
  | some p => { words := words, table := p.table, mesh := ((p.meshes.find? (fun m => m.1 == ta)).map (·.2)).getD [], pics := pics }
  | none =>
    { words := words, table := s.surfaceBytesOf (fieldOf (setWord words Reg.CMP_COLOUR) 0 16),
      mesh := s.surfaceBytesOf (fieldOf (setWord words (Reg.CMP_TILE_MESH ta)) 0 16), pics := pics }

/-! ### Which layers meet a tile (R121) -/

/-- The tile's bounding box on the canvas: the extreme mesh points widened by 1 pixel: (x lo, x hi, y lo, y hi). -/
def meshBox (mesh : List Byte) (w h : Nat) : Int × Int × Int × Int :=
  let pts := (List.range ((w / 16 + 1) * (h / 16 + 1))).map (fun k => meshPoint mesh w (k % (w / 16 + 1)) (k / (w / 16 + 1)))
  let p0 := pts.headD (0, 0)
  let mn (f : Int × Int → Int) : Int := pts.foldl (fun m p => min m (f p)) (f p0)
  let mx (f : Int × Int → Int) : Int := pts.foldl (fun m p => max m (f p)) (f p0)
  (mn (·.1) - 256, mx (·.1) + 256, mn (·.2) - 256, mx (·.2) + 256)

/-- Whether a layer's destination rectangle meets a bounding box. -/
def layerMeets (words : List (Nat × Word)) (l : Nat) (b : Int × Int × Int × Int) : Bool :=
  let x := half (layerWord words l 4) false
  let y := half (layerWord words l 4) true
  let w := halfNat (layerWord words l 5) false
  let h := halfNat (layerWord words l 5) true
  decide (x * 256 ≤ b.2.1) && decide (b.1 < (x + w) * 256) && decide (y * 256 ≤ b.2.2.2) && decide (b.2.2.1 < (y + h) * 256)

end Sys2Proof.Machine
end

