-- ==== Sys2Proof/Machine/Params.lean ====
section
/-! DEFINITION. Runtime-editable parameters: writes, reads, apply points and carry-over (R40 to R44). -/
namespace Sys2Proof.Machine

/-- The least F with W(F) ≥ t. -/
def frameFrom (tl : Timeline) (t : Nat) : Nat :=
  let f := wfnAt tl t
  if frameStart tl f = t then f else f + 1

/-- The parameter record of an ID in the running image. -/
def State.paramVal? (s : State) (id : Nat) : Option ParamVal := s.gen.params.find? (fun p => p.spec.id == id)

/-- Whether COUNT and values satisfy R40 for a record. -/
def paramValuesOk (r : ParamRec) (vs : List Nat) : Bool :=
  (if r.type = 3 then decide (vs.length * 4 ≤ r.size) else vs.length == 1) && vs.all (inEnvelope r)

/-- The apply point of a write accepted now, and the WFN its response carries (R40). -/
def State.applyPoint (s : State) (r : ParamRec) : Option ApplyAt × Nat :=
  match r.apply with
  | 0 => (none, s.wfnNow)
  | 1 =>
    match s.timeline? with
    | none => (none, 0)
    | some tl => let f := frameFrom tl (s.now + 50 * usT); (some (.frame f), f)
  | 2 => (some .commit, 0)
  | _ => (some .restart, 0xFFFFFFFFFFFF)

/-- Put a parameter's value into force. -/
def State.setParam (s : State) (id : Nat) (vs : List Nat) : State :=
  { s with gen := { s.gen with params := s.gen.params.map (fun p => if p.spec.id = id then { p with value := vs } else p) } }

/-- PARAM_WRITE: checked against the envelope, then accepted for its apply point; the last write for one apply point takes
effect, and a write that replaces a waiting one is answered with SUPERSEDED (R40, R42). The lockstep link formed refuses
PAIR_POSITION (Table 2.11), before its value is judged: the spec gives no order of the two refusals (DESIGN CHOICE, log entry 91). -/
def doParamWrite (formed : Bool) (c : MboxCmd) (s : State) : State × Reply :=
  let id := leAt c.body 0 2
  let count := leAt c.body 4 4
  let vs := (List.range count).map (fun i => leAt c.body (8 + 4 * i) 4)
  if s.gen.activating then (s, Reply.of St.PARAM_BUSY)
  else
    match s.paramVal? id with
    | none => (s, Reply.of St.PARAM_RANGE)
    | some p =>
      if id = 1 ∧ formed then (s, Reply.of St.PARAM_BUSY)
      else if !paramValuesOk p.spec vs then (s, Reply.of St.PARAM_RANGE)
      else
        match s.applyPoint p.spec with
        | (none, w) => (s.setParam id vs, { status := St.OK, wfn := w })
        | (some a, w) =>
          let sup := s.gen.pendingParams.any (fun q => q.id == id && q.apply == a)
          let rest := s.gen.pendingParams.filter (fun q => !(q.id == id && q.apply == a))
          ({ s with gen := { s.gen with pendingParams := rest ++ [{ id := id, value := vs, apply := a }] } },
            { status := St.OK, wfn := w, flags := flag sup })

/-- PARAM_READ: the value in force, never one that waits for its apply point (R40). -/
def doParamRead (c : MboxCmd) (s : State) : State × Reply :=
  match s.paramVal? (leAt c.body 0 2) with
  | none => (s, Reply.of St.PARAM_RANGE)
  | some p =>
    (s, { status := St.OK,
            body := leBytes 1 p.spec.type ++ zeroBytes 3 ++ leBytes 4 p.value.length ++ p.value.flatMap (leBytes 4) })

/-- The values waiting for an apply point take effect, in order (R42). -/
def State.applyParams (s : State) (due : ApplyAt → Bool) : State :=
  let now := s.gen.pendingParams.filter (fun q => due q.apply)
  let s1 := now.foldl (fun s q => s.setParam q.id q.value) s
  { s1 with gen := { s1.gen with pendingParams := s1.gen.pendingParams.filter (fun q => !due q.apply) } }

/-- FRAME writes due at the start of frame F. -/
def dueAtFrame (f : Nat) : ApplyAt → Bool
  | .frame g => decide (g ≤ f)
  | _ => false

/-- The value a parameter has at image start (R41). -/
def defaultOf (r : ParamRec) : List Nat := if r.type = 3 then r.blobDefault else [r.dflt]

/-- Parameters of a new image: kept where ID and TYPE agree and the value lies in the new envelope, else the default; the
counts go to GEN_PARAM_CARRY (R43). Accepted writes still waiting count as the value carried (R42). -/
def State.carryParams (s : State) (im : Image) : State :=
  let s1 := s.applyParams (fun _ => true)
  let take (r : ParamRec) : List Nat × Bool :=
    match s1.gen.params.find? (fun p => p.spec.id == r.id && p.spec.type == r.type) with
    | some p => if paramValuesOk r p.value then (p.value, true) else (defaultOf r, false)
    | none => (defaultOf r, false)
  let kept := (im.params.filter (fun r => (take r).2)).length
  let s2 := { s1 with gen := { s1.gen with params := im.params.map (fun r => { spec := r, value := (take r).1 }) } }
  s2.setNum Reg.GEN_PARAM_CARRY (satTo 0xFFFF kept + satTo 0xFFFF (im.params.length - kept) * 65536)

/-- Parameters of an image that starts at boot: its defaults. An ACTIVATE with REBOOT comes this way too: it carries no parameter, and
GEN_PARAM_CARRY stays at reset (DEDUCED, log entry 90). -/
def State.freshParams (s : State) (im : Image) : State :=
  { s with gen := { s.gen with params := im.params.map (fun r => { spec := r, value := defaultOf r }), pendingParams := [] } }

end Sys2Proof.Machine
end

