-- ==== Sys2Proof/Machine/RegAccess.lean ====
section
/-! DEFINITION. The plain effect of a register write by its access code (R7 to R9, Table 0.7). -/
namespace Sys2Proof.Machine

/-- A register after a write: the writable bits take the data, each written 1 of a W1C bit clears it, the rest stays. -/
def writeMask (r : RegRow) (old data : Word) : Word :=
  let rw := BitVec.ofNat 32 r.rw
  let w1c := BitVec.ofNat 32 r.w1c
  ((old &&& ~~~ rw) ||| (data &&& rw)) &&& ~~~ (data &&& w1c)

/-- Write a register by its access code; an address that names no register ignores it (R9). -/
def State.plainWrite (s : State) (a : Nat) (data : Word) : State :=
  match rowOf a with
  | none => s
  | some r => s.setReg a (writeMask r (s.reg a) data)

/-- Whether an address lies in a run of registers. -/
def inRange (a lo hi : Nat) : Bool := decide (lo ≤ a) && decide (a ≤ hi)

/-- Clear the counters a predicate names when bit 0 of the data is 1. -/
def State.clearCounters (s : State) (data : Word) (p : Nat → Bool) : State := if bitOf data 0 then s.resetRegs p else s

end Sys2Proof.Machine
end

