-- ==== Sys2Proof/Machine/Commit.lean ====
section
/-! DEFINITION. The pending set, its ownership, commit, latch and prefill, and the CMP registers (R109 to R115, R121,
R122). -/
namespace Sys2Proof.Machine

/-! ### Validation (Table 6.3) -/

/-- Size of the source of a layer, when it can be judged. -/
def State.sourceSize (s : State) (words : List (Nat × Word)) (l : Nat) : Option (Nat × Nat) :=
  if layerKind words l = 0 then (s.live? (layerSource words l)).map (fun v => (v.width, v.height))
  else if layerSource words l ≥ 16 then none
  else (s.live? ((s.ringOf (layerSource words l)).headD 0)).map (fun v => (v.width, v.height))

/-- Check 1: a field of Table 6.2 outside its range. -/
def State.badLayer (s : State) (words : List (Nat × Word)) (l : Nat) : Bool :=
  let w0 := layerWord words l 0
  let w2 := layerWord words l 2
  let w3 := layerWord words l 3
  let w5 := layerWord words l 5
  layerKind words l == 3 || decide (2 ≤ fieldOf w0 20 2) ||
    halfNat w3 false == 0 || halfNat w3 true == 0 || halfNat w5 false == 0 || halfNat w5 true == 0 ||
    (layerKind words l != 2 &&
      (match s.sourceSize words l with
       | none => false
       | some (w, h) => decide (w < halfNat w2 false + halfNat w3 false) || decide (h < halfNat w2 true + halfNat w3 true)))

/-- Check 2: a source not usable. -/
def State.badSource (s : State) (words : List (Nat × Word)) (l : Nat) : Bool :=
  if layerKind words l = 2 then false
  else if layerKind words l = 1 then decide (layerSource words l ≥ 16)
  else match s.live? (layerSource words l) with
    | none => true
    | some v => !fmtPicture v.fmt

/-- The declared tile addresses of a sender image with their rasters: (TA, chain). -/
def declaredTiles (im : Image) : List (Nat × ChainRec) :=
  im.chains.flatMap (fun c => (List.range c.n).map (fun p => (c.chain * 64 + p, c)))

/-- The first failure of Table 6.3 as (code, detail), or (0, 0). -/
def State.validate (s : State) (im : Image) : Nat × Nat :=
  let words := s.pendingSet
  let on := (List.range 256).filter (fun l => layerOn words l)
  let tl := im.timeline
  let mesh? (ta : Nat) : Option Surface := s.live? (fieldOf (setWord words (Reg.CMP_TILE_MESH ta)) 0 16)
  let slotLayers (k : Nat) : List Nat := on.filter (fun l => natBit (layerSlots words l) k)
  match on.find? (s.badLayer words) with
  | some l => (1, l)
  | none =>
  match on.find? (s.badSource words) with
  | some l => (2, l)
  | none =>
  match (declaredTiles im).find? (fun t =>
      !(mesh? t.1).any (fun v => v.fmt == 0x12 && decide ((t.2.width / 16 + 1) * (t.2.height / 16 + 1) * 8 ≤ v.size))) with
  | some t => (3, t.1)
  | none =>
  if !(s.live? (fieldOf (setWord words Reg.CMP_COLOUR) 0 16)).any (fun v => v.fmt == 0x13 && decide (71042 ≤ v.size)) then (4, 0)
  else
  match on.find? (fun l => decide (layerSlots words l ≥ 2 ^ tl.nImage)) with
  | some l => (5, l + 256 * ((setBits 4 (layerSlots words l)).find? (fun k => decide (tl.nImage ≤ k))).getD 0)
  | none =>
  match (List.range tl.nImage).find? (fun k => decide (tl.maxLayers < (slotLayers k).length)) with
  | some k => (5, (slotLayers k).getD tl.maxLayers 0 + 256 * k)
  | none =>
  match ((declaredTiles im).flatMap (fun t => (List.range tl.nImage).map (fun k => (t, k)))).find? (fun q =>
      let bytes := ((mesh? q.1.1).map (fun v => s.dramRead v.base ((q.1.2.width / 16 + 1) * (q.1.2.height / 16 + 1) * 8))).getD []
      let box := meshBox bytes q.1.2.width q.1.2.height
      decide (tl.maxOverlap < ((slotLayers q.2).filter (fun l => layerMeets words l box)).length)) with
  | some q => (6, q.1.1 + 256 * q.2)
  | none => (0, 0)

/-! ### Commit (R112, R113) -/

/-- L_LATCH in force (Table 2.11). -/
def State.lLatch (s : State) (tl : Timeline) : Nat := s.param 4 (firstBlankingLine tl)

/-- The latch instant Λ(G). -/
def State.latchInstant (s : State) (tl : Timeline) (g : Nat) : Nat := gridLine tl g (s.lLatch tl)

/-- The WFN a handshake at `t` takes effect at (R113). -/
def State.commitWfn (s : State) (tl : Timeline) (t : Nat) : Nat :=
  let g := wfnAt tl t
  if t < s.latchInstant tl g then g + 2 else g + 3

/-- Hand a set to the latch logic for instance `f`: an earlier set of the same WFN is replaced. The parameters whose apply
point is COMMIT go with it and take effect at R(f) (R40, R113). Answers whether a set was replaced. -/
def State.installSet (s : State) (f : Nat) : State × Bool :=
  let replaced := s.cmp.sets.any (fun c => c.wfn == f)
  let sets := s.cmp.sets.filter (fun c => c.wfn != f) ++ [{ wfn := f, words := s.pendingSet }]
  let moved := s.gen.pendingParams.filter (fun q => q.apply == .commit)
  let rest := s.gen.pendingParams.filter (fun q =>
    !(q.apply == .commit) && !(q.apply == .frame (f - 1) && moved.any (fun m => m.id == q.id)))
  ({ s with cmp := { s.cmp with sets := sets },
            gen := { s.gen with pendingParams := rest ++ moved.map (fun m => { m with apply := ApplyAt.frame (f - 1) }) } }, replaced)

/-- CMP_COMMIT_WFN of a set (R113). -/
def State.putCommitWfn (s : State) (f : Nat) : State :=
  (s.setNum Reg.CMP_COMMIT_WFN_LO f).setNum Reg.CMP_COMMIT_WFN_HI (f / 2 ^ 32)

/-- CMP_COMMIT_STAT after a validation: CODE, DONE, PASS; SUPERSEDED as given. -/
def State.commitStat (s : State) (code : Nat) (superseded : Bool) : State :=
  s.setNum Reg.CMP_COMMIT_STAT (code + 32 + 64 * flag (code == 0) + 128 * flag superseded)

/-- Validation ends at `t`, not before the BAR2 writes accepted before the GO are applied; a passed set reaches the latch logic at
`handshake` (R112, R113). -/
def execCommitValidationEnd (t handshake : Nat) (s : State) : Host.Outcome State Fault Refusal :=
  let s1 := s.tick t
  match s.gen.running with
  | none => .next s1
  | some im =>
    if !s.bit Reg.CMP_COMMIT_STAT Fld.CMP_COMMIT_STAT_BUSY ∨ t < s.cmp.goAfter then .next s1
    else
      let (code, detail) := s1.validate im
      let sup := s.bit Reg.CMP_COMMIT_STAT Fld.CMP_COMMIT_STAT_SUPERSEDED
      if code ≠ 0 then .next ((s1.commitStat code sup).setNum Reg.CMP_COMMIT_DETAIL detail)
      else
        let f := s1.commitWfn im.timeline handshake
        let (s2, replaced) := (s1.tick handshake).installSet f
        .next ((((s2.putCommitWfn f).commitStat 0 replaced).setNum Reg.CMP_COMMIT_DETAIL 0).sendLink (.commit f))

/-- A COMMIT record: the follower's copy of the pending set takes effect at the same WFN (R111, R113). -/
def execCommitRecord (wfn t : Nat) (s : State) : Host.Outcome State Fault Refusal :=
  let s1 := s.tick t
  if !s.follows then .next s1
  else
    let (s2, replaced) := s1.installSet wfn
    .next ((s2.putCommitWfn wfn).commitStat 0 replaced)

/-- Forget the sets whose every instance has ended, noting on each surface they named the last instance that did (R107). -/
def State.pruneSets (s : State) : State :=
  let drop := (setSpans s.cmp.sets).filter (fun p => decide (p.2 < s.sch.newest) && s.endedUpTo p.2)
  let note (v : Surface) : Surface :=
    let named := drop.filter (fun p => s.setNames p.1.words (handleOf v))
    { v with lastNamed := named.foldl (fun m p => some (Nat.max (m.getD 0) p.2)) v.lastNamed }
  { s with cmp := { s.cmp with
      surfaces := s.cmp.surfaces.map note,
      sets := s.cmp.sets.filter (fun c => !drop.any (fun p => p.1.wfn == c.wfn)),
      prefills := s.cmp.prefills.filter (fun p => decide (s.sch.newest ≤ p.wfn + 3)),
      windows := s.cmp.windows.filter (fun w => decide (s.sch.newest ≤ w.wfn + 3)) } }

/-- The surfaces slot 0 of a set reads: its own, and the latest complete pictures of its streams as they stand. -/
def State.slotSources (s : State) (words : List (Nat × Word)) : List Surface :=
  let on := (List.range 256).filter (fun l => layerOn words l && natBit (layerSlots words l) 0 && decide (layerKind words l ≤ 1))
  let handle (l : Nat) : Option Nat :=
    if layerKind words l = 0 then some (layerSource words l) else (s.latestPics.find? (fun p => p.1 == layerSource words l)).map (·.2)
  (on.filterMap handle).dedup.filterMap s.surface?

/-- The first cell row of a surface, as stored. -/
def State.firstRow (s : State) (v : Surface) : List Byte :=
  s.dramRead v.base (if v.layout = 0 then Nat.min v.size (16 * v.stride) else brickCols v.width * brickBytes v.fmt)

/-- The latch instant Λ(G): the prefill of instance G + 2 fetches its set's colour table and meshes, and the first cell row of every source
that slot 0 reads (R113, R114). What is composed is the source as R115 has it: the fetch changes no pixel (DEDUCED, log entry 95). -/
def execLatchInstant (wfn : Nat) (s : State) : Host.Outcome State Fault Refusal :=
  match s.gen.running with
  | none => .next s
  | some im =>
    let s1 := s.tick (s.latchInstant im.timeline wfn)
    if im.role ≠ .sender then .next s1
    else
      let f := wfn + 2
      let words := s.setFor f
      let p : Prefill :=
        { wfn := f, table := s.surfaceBytesOf (fieldOf (setWord words Reg.CMP_COLOUR) 0 16),
          meshes := (declaredTiles im).map (fun t =>
            (t.1, s.surfaceBytesOf (fieldOf (setWord words (Reg.CMP_TILE_MESH t.1)) 0 16))),
          rows := (s.slotSources words).map (fun v => (handleOf v, s.firstRow v)) }
      .next { s1 with cmp := { s1.cmp with prefills := s1.cmp.prefills.filter (fun q => q.wfn != f) ++ [p] } }

/-! ### CMP register writes (R110 to R112, R122) -/

/-- The path code an OWNER field names: 0 PCIe, 1 management, 2 SPI; 4 for a path that can own no layer. -/
def ownerCode : Path → Nat
  | .pcie => 0
  | .mgmt _ => 1
  | .spi => 2
  | _ => 4

/-- The counters of the block. -/
def cmpCounter (a : Nat) : Bool := inRange a Reg.CMP_OWN_REJ Reg.CMP_MIRROR_DROP

/-- A write to the pending set: ignored while BUSY and at a follower; a layer write from a path that is not its owner is
dropped whole and counted (R110 to R112). -/
def State.pendingWrite (s : State) (p : Path) (a : Nat) (data : Word) : State :=
  if s.bit Reg.CMP_COMMIT_STAT Fld.CMP_COMMIT_STAT_BUSY ∨ s.follows then s
  else
    let layer := decide (Reg.CMP_LAYER 0 ≤ a) && decide (a < 0x65000)
    let l := (a - Reg.CMP_LAYER 0) / 64
    let owner := fieldOf (s.reg (Reg.CMP_LAYER l)) 16 2
    if layer && owner != 3 && owner != ownerCode p then s.bump Reg.CMP_OWN_REJ 1
    else
      let s1 := s.plainWrite a data
      if s1.leads then s1.sendLink (.config (.register a (s1.reg a))) else s1

/-- A write to a register of the CMP block that the gates of the register arbiter let through. -/
def State.cmpWrite (s : State) (p : Path) (a : Nat) (data : Word) : State :=
  if pendingAddr a then (if (rowOf a).isSome then s.pendingWrite p a data else s)
  else if a = Reg.CMP_COMMIT then
    (if bitOf data 0 && !s.bit Reg.CMP_COMMIT_STAT Fld.CMP_COMMIT_STAT_BUSY && !s.follows then
      let s1 := s.putBit Reg.CMP_COMMIT_STAT Fld.CMP_COMMIT_STAT_BUSY true
      { s1 with cmp := { s1.cmp with goAfter := s.ing.barUntil } } else s)
  else if a = Reg.CMP_CNT_CLEAR then s.clearCounters data cmpCounter
  else s.plainWrite a data

/-! ### Stillness (R120) -/

/-- The 10-bit luma samples (G for RGB) of a picture at (8i, 8j). -/
def State.stillSamples (s : State) (v : Surface) : List Nat :=
  let d := depthBits v.depth
  let c := if fmtRgb v.fmt then 1 else 0
  let n := ceilDiv v.width 8
  (List.range (n * ceilDiv v.height 8)).map (fun k => widen d (s.sampleAt v c (8 * (k % n)) (8 * (k / n))) / 64)

/-- MAD16 of two sample lists of one size, rounded half up, at most 255. -/
def mad16 (a b : List Nat) : Nat :=
  let sum := ((a.zip b).map (fun p => if p.1 < p.2 then p.2 - p.1 else p.1 - p.2)).sum
  if a.length = 0 then 0 else satTo 255 ((32 * sum + a.length) / (2 * a.length))

/-- A rise of STILL or STALE of a stream: its event bit and the stillness vector (R120). -/
def State.stillEvent (s : State) (str : Nat) : State :=
  (s.setReg Reg.CMP_STILL_EVT (s.reg Reg.CMP_STILL_EVT ||| BitVec.ofNat 32 (2 ^ str))).event 3

/-- The stillness check at a promotion (R120): MAD16, the run, STILL; STALE clears. It reads every brick of a PACKED picture (R103). -/
def State.stillCheck (s : State) (str : Nat) (v : Surface) (t : Nat) : State :=
  let old := s.cmp.still.find? (fun x => x.stream == str)
  let now := s.stillSamples v
  let s := if v.layout = 2 then s.readBricks v (List.range (brickCols v.width * brickRows v.height)) else s
  let m := match old with
    | some o => if o.width = v.width ∧ o.height = v.height then mad16 now o.samples else 255
    | none => 255
  let cfg := s.reg (Reg.CMP_STILL_CFG str)
  let st := s.reg (Reg.CMP_STILL_STAT str)
  let low := decide (m ≤ fieldOf cfg 16 8)
  let run := if low then satTo 0xFFFF (fieldOf st 16 16 + 1) else 0
  let was := bitOf st 0
  let is := if low then was || (decide (fieldOf cfg 0 16 ≠ 0) && decide (fieldOf cfg 0 16 ≤ run)) else false
  let s1 := s.setNum (Reg.CMP_STILL_STAT str) (flag is + m * 256 + run * 65536)
  let x : StillSt := { stream := str, width := v.width, height := v.height, samples := now, lastAt := t }
  let s2 := { s1 with cmp := { s1.cmp with still := s1.cmp.still.filter (fun y => y.stream != str) ++ [x] } }
  if is && !was then s2.stillEvent str else s2

/-- No picture promoted for STALE × 10 ms (R120); before a first promotion the time counts from reset. -/
def execStaleTimeout (stream t : Nat) (s : State) : Host.Outcome State Fault Refusal :=
  let s1 := s.tick t
  let stale := fieldOf (s.reg (Reg.CMP_STILL_CFG stream)) 24 8
  let last := ((s.cmp.still.find? (fun x => x.stream == stream)).map (·.lastAt)).getD 0
  if stream < 16 ∧ stale ≠ 0 ∧ last + stale * 10 * msT ≤ t ∧ !bitOf (s.reg (Reg.CMP_STILL_STAT stream)) 1 then
    .next ((s1.setReg (Reg.CMP_STILL_STAT stream) (putField (s1.reg (Reg.CMP_STILL_STAT stream)) 1 1 1)).stillEvent stream)
  else .next s1

end Sys2Proof.Machine
end

