-- ==== Sys2Proof/Machine/Streams.lean ====
section
/-! DEFINITION. From settled packets to pictures: the ring, the surface being filled, resolution, promotion, and the coded
buffer of a decode channel (R71, R74, R86, R120). -/
namespace Sys2Proof.Machine

/-! ### Stream state -/

/-- A stream as it stands with nothing received. -/
def freshStream (str : Nat) : StreamSt :=
  { stream := str, tokens := 0, tokensAt := 0, nextSeq := none, held := [], kept := [], digests := [],
    learned := [], verdicts := [], asked := [], fill := none, nextPicture := none, lastRtp := none, latest := none }

/-- The receive state of a stream. -/
def State.stream (s : State) (str : Nat) : StreamSt :=
  (s.ing.streams.find? (fun x => x.stream == str)).getD (freshStream str)

/-- Replace the receive state of a stream. -/
def State.setStream (s : State) (x : StreamSt) : State :=
  { s with ing := { s.ing with streams := s.ing.streams.filter (fun y => y.stream != x.stream) ++ [x] } }

/-- Change the receive state of a stream. -/
def State.modStream (s : State) (str : Nat) (f : StreamSt → StreamSt) : State := s.setStream (f (s.stream str))

/-- FORMAT of a stream: 0 ST 2110-20, 1 ST 2110-22, 2 RTP HEVC. -/
def State.streamFormat (s : State) (str : Nat) : Nat := s.get (Reg.ING_STR_CTRL str) Fld.ING_STR_CTRL_FORMAT

/-- `a` comes before `b` among 32-bit sequence numbers. -/
def seqBefore (a b : Nat) : Bool := a % 2 ^ 32 != b % 2 ^ 32 && decide ((b + 2 ^ 32 - a % 2 ^ 32) % 2 ^ 32 < 2 ^ 31)

/-- The next sequence number. -/
def seqNext (a : Nat) : Nat := (a + 1) % 2 ^ 32

/-- Sequence numbers from `b` up to `a`. -/
def seqSub (a b : Nat) : Nat := (a + 2 ^ 32 - b % 2 ^ 32) % 2 ^ 32

/-- Whether a sequence number of a stream is settled (test 7 of Table 4.2). -/
def settledSeq (x : StreamSt) (q : Nat) : Bool :=
  x.nextSeq.any (fun n => seqBefore q n)

/-! ### RTP (R68, R71) -/

/-- The RTP payload after the fixed header, CSRC list and header extension. -/
def rtpPayload (p : List Byte) : List Byte :=
  let cc := byteAt p 0 % 16
  let o := 12 + 4 * cc
  if bitOf (word (byteAt p 0)) 4 then p.drop (o + 4 + 4 * beNat (slice p (o + 2) 2)) else p.drop o

/-- RTP fields: version, marker, payload type, sequence number, timestamp, SSRC. -/
def rtpVersion (p : List Byte) : Nat := byteAt p 0 / 64
def rtpMarker (p : List Byte) : Bool := decide (128 ≤ byteAt p 1)
def rtpType (p : List Byte) : Nat := byteAt p 1 % 128
def rtpSeq (p : List Byte) : Nat := beNat (slice p 2 2)
def rtpTime (p : List Byte) : Nat := beNat (slice p 4 4)
def rtpSsrc (p : List Byte) : Nat := beNat (slice p 8 4)

/-- A sample row data header of ST 2110-20: data bytes, field bit, row, offset in pixels (PRESUMED layout of the named
standard, log entry 20). -/
structure RowHeader where
  len : Nat
  field : Bool
  row : Nat
  offset : Nat
  deriving DecidableEq, Repr

/-- The sample row data headers of a payload, up to `fuel` of them, with the bytes after them. -/
def rowHeaders : Nat → List Byte → List RowHeader × List Byte
  | 0, bs => ([], bs)
  | n + 1, bs =>
    let r := beNat (slice bs 2 2)
    let o := beNat (slice bs 4 2)
    let h : RowHeader := { len := beNat (slice bs 0 2), field := decide (32768 ≤ r), row := r % 32768, offset := o % 32768 }
    if 32768 ≤ o then
      let (hs, rest) := rowHeaders n (bs.drop 6)
      (h :: hs, rest)
    else ([h], bs.drop 6)

/-- Samples of `d` bits, MSB first. -/
def unpackBits (d : Nat) (bs : List Byte) : List Nat :=
  let bits := bs.flatMap (fun b => bitsOf 8 b.toNat)
  (List.range (bits.length / d)).map (fun k => ((bits.drop (d * k)).take d).foldl (fun a b => 2 * a + flag b) 0)

/-- Pixels of a row segment for a surface format and depth. -/
def segmentPixels (f d len : Nat) : Nat := len * 8 / (if fmtSampling f = 1 then 2 * d else 3 * d)

/-- The (component, column, value) writes of a row segment at pixel `off`: Cb Y0 Cr Y1 groups for 4:2:2, Cb Y Cr for 4:4:4,
R G B (PRESUMED, log entry 20). -/
def segmentWrites (f d off : Nat) (samples : List Nat) : List (Nat × Nat × Nat) :=
  if fmtSampling f = 1 then
    samples.zipIdx.map (fun p =>
      let g := p.2 / 4
      match p.2 % 4 with
      | 0 => (1, off / 2 + g, p.1)
      | 1 => (0, off + 2 * g, p.1)
      | 2 => (2, off / 2 + g, p.1)
      | _ => (0, off + 2 * g + 1, p.1))
  else
    samples.zipIdx.flatMap (fun p =>
      let x := off + p.2 / 3
      let k := p.2 % 3
      let c := if fmtRgb f then k else ([1, 0, 2] : List Nat).getD k 0
      (c, x, p.1) :: (if fmtAlpha f && k == 2 then [(3, x, 2 ^ d - 1)] else []))

/-- Whether every row header of a packet lies inside a surface, without a field bit (test 4 of Table 4.2). -/
def rowsInside (v : Surface) (hs : List RowHeader) (data : List Byte) : Bool :=
  fmtPicture v.fmt && fmtSampling v.fmt != 0 &&
    hs.all (fun h => !h.field && decide (h.row < v.height) &&
      decide (h.offset + segmentPixels v.fmt (depthBits v.depth) h.len ≤ v.width)) &&
    decide ((hs.map (·.len)).sum ≤ data.length)

/-! ### Promotion (R71, R88, R120) -/

/-- A stream has been promoted, which CONVERGE waits for (R291). -/
def State.notePromoted (s : State) (str : Nat) : State :=
  { s with red := { s.red with promoted := str :: s.red.promoted.filter (· != str) } }

/-- Make a surface the latest complete picture of a stream. -/
def State.promotePicture (s : State) (str h rtp : Nat) (patched : Bool) (t : Nat) : State :=
  let s1 := ((s.notePromoted str).modStream str (fun x => { x with latest := some h })).setNum (Reg.ING_STR_LASTPIC str) rtp
  let s2 := s1.modSurface h (fun v => { v with patched := patched, rtp := some rtp })
  match s2.surface? h with
  | none => s2
  | some v => s2.stillCheck str v t

/-- The surfaces a chain window in progress has taken of a stream. -/
def State.windowTook (s : State) (h : Nat) : Bool :=
  (s.cmp.windows.getLast?).any (fun w => w.pics.any (fun p => p.2 == h))

/-- A ring surface free to be filled while `latest` is the latest complete picture: LIVE, another, taken by no chain window in progress,
holding no decoded picture that waits (R71). -/
def State.ringFreeBut (s : State) (str : Nat) (latest : Option Nat) : Option Nat :=
  (s.ringOf str).find? (fun h => (s.live? h).isSome && latest != some h && !s.windowTook h && !s.cdc.written.any (fun w => w.handle == h))

/-- The ring surface the next picture fills. -/
def State.ringFree (s : State) (str : Nat) : Option Nat := s.ringFreeBut str (s.stream str).latest

/-! ### Samples of an ST 2110-20 picture (R71, R104) -/

/-- Whether a picture's written regions, as (row, first pixel, pixels), hold the luma position (x, y). -/
def regionCovers (regions : List (Nat × Nat × Nat)) (x y : Nat) : Bool :=
  regions.any (fun r => r.1 == y && decide (r.2.1 ≤ x) && decide (x < r.2.1 + r.2.2))

/-- Luma columns of a component's column. -/
def lumaColumn (v : Surface) (c x : Nat) : Nat := if c ≠ 0 ∧ c ≠ 3 ∧ fmtSampling v.fmt = 1 then 2 * x else x

/-- All 16 rows of a brick are complete, those below and right of the picture apart. -/
def brickWhole (v : Surface) (regions : List (Nat × Nat × Nat)) (bx by' : Nat) : Bool :=
  (List.range (16 * 64)).all (fun k =>
    let x := 64 * bx + k % 64
    let y := 16 * by' + k / 64
    decide (v.width ≤ x) || decide (v.height ≤ y) || regionCovers regions x y)

/-- Sample of a picture being filled in a PACKED surface: as received, else as stored. -/
def State.fillSample (s : State) (v : Surface) (f : Fill) (c x y : Nat) : Nat :=
  match f.raw.find? (fun r => r.1 == (c, x, y)) with
  | some r => r.2
  | none => s.sampleAt v c x y

/-- Code a brick of a picture being filled and forget its samples (R104). -/
def State.codeFillBrick (s : State) (v : Surface) (z : Fill) (bx by' : Nat) (x : Nat → Nat → Nat → Nat) : State × Fill :=
  let inside (r : (Nat × Nat × Nat) × Nat) : Bool :=
    let p := brickPlace v.fmt r.1.1 r.1.2.1 r.1.2.2
    p.1 == bx && p.2.1 == by'
  (s.writeBrick v bx by' x, { z with raw := z.raw.filter (fun r => !inside r) })

/-- The bricks a row segment lies in. -/
def regionBricks (r : Nat × Nat × Nat) : List (Nat × Nat) :=
  (List.range ((r.2.1 + r.2.2 - 1) / 64 + 1 - r.2.1 / 64)).map (fun k => (r.2.1 / 64 + k, r.1 / 16))

/-- Samples of the whole pixels of a row segment: those of a pixel it does not complete are not part of it. -/
def segmentSamples (f d len : Nat) (samples : List Nat) : List Nat :=
  samples.take (segmentPixels f d len * (if fmtSampling f = 1 then 2 else 3))

/-- What a packet writes: (component, column, row, value), and its regions as (row, first pixel, pixels). -/
def rowWrites (v : Surface) (payload : List Byte) : List (Nat × Nat × Nat × Nat) × List (Nat × Nat × Nat) :=
  let (hs, data) := rowHeaders 3 ((rtpPayload payload).drop 2)
  let d := depthBits v.depth
  let r := hs.foldl (fun (acc : List Byte × List (Nat × Nat × Nat × Nat) × List (Nat × Nat × Nat)) h =>
      let ws := segmentWrites v.fmt d h.offset (segmentSamples v.fmt d h.len (unpackBits d (acc.1.take h.len)))
      (acc.1.drop h.len, acc.2.1 ++ ws.map (fun w => (w.1, w.2.1, h.row, w.2.2)),
        (h.row, h.offset, segmentPixels v.fmt d h.len) :: acc.2.2)) (data, [], [])
  r.2

/-- Write a packet of an ST 2110-20 picture into its surface, in the surface's layout (R71, R104). -/
def State.writeRows (s : State) (v : Surface) (f : Fill) (payload : List Byte) : State × Fill :=
  let w := rowWrites v payload
  let g := { f with regions := w.2 ++ f.regions }
  if v.layout ≠ 2 then (w.1.foldl (fun s q => s.putSample v q.1 q.2.1 q.2.2.1 q.2.2.2) s, g)
  else
    let g1 := { g with raw := w.1.map (fun q => ((q.1, q.2.1, q.2.2.1), q.2.2.2)) ++ g.raw }
    ((w.2.flatMap regionBricks).dedup).foldl (fun z b =>
      if brickWhole v z.2.regions b.1 b.2 then z.1.codeFillBrick v z.2 b.1 b.2 (z.1.fillSample v z.2) else z) (s, g1)

/-- Copy every position a picture's regions leave unwritten from the previous latest complete picture; with none, what the surface held
stays (R71, R104, log entry 96). The bricks read count under R103. -/
def State.patchPicture (s : State) (v : Surface) (f : Fill) (prev : Option Surface) : State :=
  let from' (c x y : Nat) : Nat := match prev with | none => s.sampleAt v c x y | some p => s.sampleAt p c x y
  let bricks := (List.range (brickRows v.height)).flatMap (fun r => (List.range (brickCols v.width)).map (fun b => (b, r)))
  let open' := bricks.filter (fun b => !brickWhole v f.regions b.1 b.2)
  let s0 := match prev with
    | some p => if p.layout = 2 then s.readBricks p (open'.map (fun b => b.2 * brickCols p.width + b.1)) else s
    | none => s
  if v.layout = 2 then
    (open'.foldl (fun z b =>
      z.1.codeFillBrick v z.2 b.1 b.2 (fun c x y => if regionCovers f.regions (lumaColumn v c x) y then s.fillSample v f c x y else from' c x y))
      (s0, f)).1
  else
    (List.range (fmtPlanes v.fmt)).foldl (fun s1 c =>
      let sz := compSize v c
      (List.range (sz.1 * sz.2)).foldl (fun s2 k =>
        let x := k % sz.1
        let y := k / sz.1
        if regionCovers f.regions (lumaColumn v c x) y then s2 else s2.putSample v c x y (from' c x y)) s1) s0

/-! ### Pictures (R71, R85, R86) -/

/-- Packets of its picture that come before a packet, where its payload tells: in -20 the pixels before its first row segment, counted in
packets of its own size; in -22 the packet and SEP counters of RFC 9134 (DEDUCED, log entry 96). -/
def State.packetsBefore (s : State) (str : Nat) (payload : List Byte) : Option Nat :=
  let body := rtpPayload payload
  if s.streamFormat str = 0 then
    match s.surface? ((s.ringOf str).headD 0) with
    | none => none
    | some v =>
      let (hs, _) := rowHeaders 3 (body.drop 2)
      let n := (hs.map (fun h => segmentPixels v.fmt (depthBits v.depth) h.len)).sum
      if n = 0 then none else hs.head?.map (fun h => (h.row * v.width + h.offset) / n)
  else if s.streamFormat str = 1 then
    let h := beNat (slice body 0 4)
    let sep := h / 2048 % 2048
    if h / 2 ^ 30 % 2 = 0 then some (sep * 2048 + h % 2048) else if sep = 0 then some (h % 2048) else none
  else none

/-- A picture ends at packet `last`: promoted, promoted PATCHED, or LOST (R71); a coded one is handed to its channel (R85, R86). -/
def State.endPicture (s : State) (str last t : Nat) : State :=
  let x := s.stream str
  match x.fill with
  | none => s
  | some f =>
    let total := seqSub last f.firstSeq + 1
    let s1 := (s.setStream { x with fill := none, nextPicture := some (seqNext last) }).putBit (Reg.ING_STR_CTRL str)
      Fld.ING_STR_CTRL_ACTIVE false
    if s.streamFormat str = 0 then
      match f.target.bind (fun h => s1.surface? h) with
      | none => s1.bump (Reg.ING_STR_LOST str) 1
      | some v =>
        if total ≤ f.present then s1.promotePicture str (handleOf v) f.rtp false t
        else if 3 * total ≤ 4 * f.present then
          ((s1.patchPicture v f (x.latest.bind (fun p => s1.surface? p))).promotePicture str (handleOf v) f.rtp true t).bump
            (Reg.ING_STR_PATCH str) 1
        else s1.bump (Reg.ING_STR_LOST str) 1
    else
      match f.target with
      | none => s1.bump (Reg.CDC_CH_SKIPPED str) 1
      | some _ =>
        let p : CodedPic := { channel := str, rtp := f.rtp, packets := f.packets, bytes := f.bytes, readyAt := t, absent := total - f.present,
                              afterLoss := s1.cdc.overflowed.contains str }
        { s1 with cdc := { s1.cdc with coded := s1.cdc.coded ++ [p], overflowed := s1.cdc.overflowed.filter (· != str) } }

/-- Bytes a channel holds in its coded buffer of 32 MiB (R86). -/
def State.codedBytes (s : State) (c : Nat) : Nat :=
  ((s.cdc.coded.filter (fun p => p.channel == c)).map (·.bytes)).sum +
    ((s.cdc.decoding.filter (fun d => d.pic.channel == c)).map (·.pic.bytes)).sum

/-- Start a picture with the packet at hand (R71): its ring surface, or none; a coded picture keeps a place in the channel. Of the packets
missing before it since the last picture, those the payload counts are its own; where it does not tell, all are. -/
def State.startPicture (s : State) (str : Nat) (p : HeldPacket) : State :=
  let x := s.stream str
  let tgt := if s.streamFormat str = 0 then s.ringFree str else some 0
  let gap := x.nextPicture.map (fun n => seqSub p.seq n)
  let own := match gap, s.packetsBefore str p.payload with
    | some g, some b => Nat.min g b
    | some g, none => g
    | none, some b => b
    | none, none => 0
  let f : Fill := { rtp := rtpTime p.payload, firstSeq := seqSub p.seq own, last := p.seq, present := 0, regions := [], raw := [],
                    target := tgt, packets := [], bytes := 0 }
  let s1 := s.setStream { x with fill := some f, lastRtp := some f.rtp }
  match tgt.bind (fun h => s1.surface? h) with
  | some v => if s.streamFormat str = 0 ∧ v.layout = 1 then s1.padEdges v else s1
  | none => s1

/-- A packet of the picture in progress is written: into its surface, or into the coded buffer (R71, R86); one whose rows lie outside the
surface counts as FORMAT (Table 4.2), and one of a discarded picture is not written. -/
def State.writeInto (s : State) (str : Nat) (f : Fill) (p : HeldPacket) : State :=
  let g := { f with present := f.present + 1, last := p.seq }
  let wrote (s : State) : State := (s.bump (Reg.ING_STR_RX str) 1).putBit (Reg.ING_STR_CTRL str) Fld.ING_STR_CTRL_ACTIVE true
  let put (s : State) (f : Fill) : State := s.modStream str (fun x => { x with fill := some f })
  if s.streamFormat str = 0 then
    match f.target.bind (fun h => s.surface? h) with
    | none => put s g
    | some v =>
      let (hs, data) := rowHeaders 3 ((rtpPayload p.payload).drop 2)
      if !rowsInside v hs data then (put s { f with last := p.seq }).bump (Reg.ING_DROP 4) 1
      else
        let w := s.writeRows v g p.payload
        wrote (put w.1 w.2)
  else
    let n := (rtpPayload p.payload).length
    if f.target.isNone then put s g
    else if 33554432 < s.codedBytes str + f.bytes + n then
      let s' := (put s { g with target := none, packets := [], bytes := 0 }).codecErr str 7
      { s' with cdc := { s'.cdc with overflowed := if s'.cdc.overflowed.contains str then s'.cdc.overflowed else str :: s'.cdc.overflowed } }
    else wrote (put s { g with packets := f.packets ++ [p.payload], bytes := f.bytes + n })

/-- A settled packet of a stream: the first of a later timestamp ends the picture before it, and the marker ends its own (R71). -/
def State.writePacket (s : State) (str : Nat) (p : HeldPacket) (t : Nat) : State :=
  let s1 := match (s.stream str).fill with
    | some f =>
      if seqBefore f.rtp (rtpTime p.payload) then
        let gap := seqSub p.seq (seqNext f.last)
        s.endPicture str (seqSub p.seq (1 + Nat.min gap ((s.packetsBefore str p.payload).getD 0))) t
      else s
    | none => s
  let s2 := if (s1.stream str).fill.isNone then s1.startPicture str p else s1
  let s3 := match (s2.stream str).fill with
    | none => s2
    | some f => s2.writeInto str f p
  if rtpMarker p.payload then s3.endPicture str p.seq t else s3

end Sys2Proof.Machine
end

