-- ==== Sys2Proof/Machine/Codec.lean ====
section
/-! DEFINITION. The codec engine: decode channels, deadlines, output and promotion, and the return stream (R80 to R99). -/
namespace Sys2Proof.Machine

/-! ### Channels -/

/-- CH_STAT.STATE codes (Table 5.8). -/
abbrev Ch.IDLE : Nat := 0
abbrev Ch.WAIT_IRAP : Nat := 1
abbrev Ch.DECODING : Nat := 2
abbrev Ch.CONFIG_ERR : Nat := 3

def State.chState (s : State) (c : Nat) : Nat := s.get (Reg.CDC_CH_STAT c) Fld.CDC_CH_STAT_STATE
def State.setChState (s : State) (c v : Nat) : State := s.put (Reg.CDC_CH_STAT c) Fld.CDC_CH_STAT_STATE v

/-- The reservation r_c in luma samples per second (chapter 5). -/
def State.reservation (s : State) (c : Nat) : Nat :=
  let d := s.reg (Reg.CDC_CH_DIM c)
  fieldOf d 0 16 * fieldOf d 16 16 * s.get (Reg.CDC_CH_CFG c) Fld.CDC_CH_CFG_MAX_PICS

/-- The decoder of a stream's FORMAT: 0 HEVC, 1 JPEG XS, none for ST 2110-20. -/
def State.decoderOf (s : State) (c : Nat) : Option Nat :=
  if s.streamFormat c = 2 then some 0 else if s.streamFormat c = 1 then some 1 else none

/-- The enabled channels of a decoder. -/
def State.channelsOf (s : State) (d : Nat) : List Nat :=
  (List.range 16).filter (fun c => s.streamOn c && s.decoderOf c == some d)

/-- LIVE and all reservations of a decoder. -/
def State.reserved (s : State) (d : Nat) (live : Bool) : Nat :=
  ((s.channelsOf d).filter (fun c => !live || s.bit (Reg.CDC_CH_STAT c) Fld.CDC_CH_STAT_LIVE)).map s.reservation |>.sum

/-- CDC_CAP_HEVC and CDC_CAP_JXS, in units of 10^6 samples per second, saturating. -/
def State.capView (s : State) (d : Nat) : Word :=
  word (satTo 0xFFFF (s.reserved d true / 1000000) + satTo 0xFFFF (s.reserved d false / 1000000) * 65536)

/-- Whether a channel's configuration puts it in CONFIG_ERR at enable (R85, Tables 5.6 and 5.7). -/
def State.chConfigBad (s : State) (c : Nat) : Bool :=
  let dim := s.reg (Reg.CDC_CH_DIM c)
  let dl := s.get (Reg.CDC_CH_CFG c) Fld.CDC_CH_CFG_DEADLINE_US
  let pics := s.get (Reg.CDC_CH_CFG c) Fld.CDC_CH_CFG_MAX_PICS
  !(inRange (fieldOf dim 0 16) 64 8192 && inRange (fieldOf dim 16 16) 64 4352 && inRange dl 1000 100000 &&
    inRange pics 1 240 && decide (ceilDiv 1000000 pics + 200 ≤ dl))

/-- A stream with a coded FORMAT is enabled: its channel is classed and starts (R83, R85, R91). -/
def State.startChannel (s : State) (c : Nat) : State :=
  match s.decoderOf c with
  | none => s
  | some d =>
    let wants := s.bit (Reg.ING_STR_CTRL c) Fld.ING_STR_CTRL_LIVE
    let others := (((s.channelsOf d).filter (fun x => x != c && s.bit (Reg.CDC_CH_STAT x) Fld.CDC_CH_STAT_LIVE)).map
      s.reservation).sum
    let live := wants && decide (others + s.reservation c ≤ 4000000000)
    let err := s.get (Reg.CDC_CH_STAT c) Fld.CDC_CH_STAT_LAST_ERR
    let dmg := s.get (Reg.CDC_CH_STAT c) Fld.CDC_CH_STAT_DAMAGED_NOW
    let s1 := s.setNum (Reg.CDC_CH_STAT c)
      ((if d = 0 then Ch.WAIT_IRAP else Ch.DECODING) + 8 * flag (wants && !live) + 16 * flag live + 256 * err + 4096 * dmg)
    let s2 := { s1 with cdc := { s1.cdc with overflowed := s1.cdc.overflowed.filter (· != c),
                                             lastDone := tabSet s1.cdc.lastDone c 0 } }
    if s2.chConfigBad c then s2.codecConfigErr c else s2

/-- The reference pool of a channel as it stands (R87). -/
def State.poolOf (s : State) (c : Nat) : PoolState :=
  (s.cdc.pools.find? (fun p => p.channel == c)).getD { channel := c, total := 0, bufs := [], noRasl := false }

/-- Set the pool of a channel, and CDC_CH_POOLMARK with it: FREE, SHORT, LONG, WAIT. -/
def State.setPool (s : State) (p : PoolState) : State :=
  let count (m : FrameMark) : Nat := satTo 31 (p.bufs.filter (fun b => b.mark == m)).length
  ({ s with cdc := { s.cdc with pools := p :: s.cdc.pools.filter (fun q => q.channel != p.channel) } } : State).setNum
    (Reg.CDC_CH_POOLMARK p.channel)
    (satTo 31 (p.total - p.bufs.length) + count .short * 256 + count .long * 65536 + count .wait * 2 ^ 24)

/-- A stream is disabled: the picture in progress is abandoned, every frame buffer is FREE, the channel is IDLE (R93). -/
def State.stopChannel (s : State) (c : Nat) : State :=
  let s1 := s.setReg (Reg.CDC_CH_STAT c) (putField (s.reg (Reg.CDC_CH_STAT c)) 0 5 0)
  let s2 := s1.setPool { s1.poolOf c with bufs := [], noRasl := false }
  { s2 with cdc := { s2.cdc with
      coded := s2.cdc.coded.filter (fun p => p.channel != c), decoding := s2.cdc.decoding.filter (fun p => p.pic.channel != c),
      written := s2.cdc.written.filter (fun w => w.channel != c),
      announced := s2.cdc.announced.filter (fun a => a.1 != c),
      otherWritten := s2.cdc.otherWritten.filter (fun a => a.1 != c), overflowed := s2.cdc.overflowed.filter (· != c) } }

/-! ### Serving pictures (R84, R85) -/

/-- The deadline of a coded picture: the later of its last verdict and the previous completion, plus DEADLINE_US. -/
def State.pictureDeadline (s : State) (p : CodedPic) : Nat :=
  Nat.max p.readyAt (tabGet s.cdc.lastDone p.channel) +
    s.get (Reg.CDC_CH_CFG p.channel) Fld.CDC_CH_CFG_DEADLINE_US * usT

/-- The ready pictures of a decoder: each channel's oldest, while the channel decodes nothing and is not stopped. -/
def State.readyPictures (s : State) (d : Nat) (live : Bool) : List (Nat × CodedPic) :=
  (s.channelsOf d).filterMap (fun c =>
    if s.bit (Reg.CDC_CH_STAT c) Fld.CDC_CH_STAT_LIVE != live || s.chState c == Ch.CONFIG_ERR ||
        s.cdc.decoding.any (fun x => x.pic.channel == c) then none
    else (s.cdc.coded.find? (fun p => p.channel == c)).map (fun p => (s.pictureDeadline p, p)))

/-- The picture of earliest deadline, ties to the lower channel. -/
def firstDue : List (Nat × CodedPic) → Option (Nat × CodedPic)
  | [] => none
  | x :: xs =>
    match firstDue xs with
    | none => some x
    | some y => if y.1 < x.1 ∨ (y.1 = x.1 ∧ y.2.channel < x.2.channel) then some y else some x

/-- Begin a coded picture on a decoder. -/
def State.beginDecode (s : State) (d : Nat) (x : Nat × CodedPic) : State :=
  { s with cdc := { s.cdc with
      coded := s.cdc.coded.erase x.2,
      decoding := s.cdc.decoding ++ [{ decoder := d, pic := x.2, deadline := x.1, suspended := false }] } }

/-- A decoder takes the next picture (R84): LIVE work by deadline, suspending RECORDED work; RECORDED work in what remains. -/
def execDecodeStart (decoder t : Nat) (s : State) : Host.Outcome State Fault Refusal :=
  let s1 := s.tick t
  let running := s.cdc.decoding.find? (fun x => x.decoder == decoder && !x.suspended)
  let runsLive := running.any (fun x => s.bit (Reg.CDC_CH_STAT x.pic.channel) Fld.CDC_CH_STAT_LIVE)
  match firstDue (s.readyPictures decoder true) with
  | some x =>
    if runsLive then .next s1
    else
      let park (y : Decoding) : Decoding := if y.decoder = decoder then { y with suspended := true } else y
      .next (({ s1 with cdc := { s1.cdc with decoding := s1.cdc.decoding.map park } }).beginDecode decoder x)
  | none =>
    if running.isSome then .next s1
    else
      match s.cdc.decoding.find? (fun x => x.decoder == decoder) with
      | some y =>
        let wake (z : Decoding) : Decoding := if z = y then { z with suspended := false } else z
        .next { s1 with cdc := { s1.cdc with decoding := s1.cdc.decoding.map wake } }
      | none =>
        match firstDue (s.readyPictures decoder false) with
        | some x => .next (s1.beginDecode decoder x)
        | none => .next s1

/-! ### Output and promotion (R88, R89) -/

/-- Size of a frame buffer in bytes (R87). -/
def frameBufferBytes (w h chroma : Nat) : Nat :=
  let a := roundUp 64 w * roundUp 64 h
  (if chroma = 0 then a * 3 else a * 4) + a / 16

/-- A frame buffer of an SPS, and the pool surface a channel names (R87). -/
def spsBufferBytes (p : HevcSps) : Nat := frameBufferBytes p.width p.height p.chroma
def State.poolSurface (s : State) (c : Nat) : Option Surface :=
  (s.surface? (fieldOf (s.reg (Reg.CDC_CH_POOL c)) 0 16)).filter (fun v => v.fmt == 0x11)

/-- Frame buffers of an SPS the pool of a channel is divided into. -/
def State.poolBuffers (s : State) (c : Nat) (p : HevcSps) : Nat :=
  match s.poolSurface c with
  | none => 0
  | some v => v.size / spsBufferBytes p

/-- A picture the decoding process outputs (R88): its planes in raster order at the stream's depth; `chroma` 0 4:2:0, 1 4:2:2, 2 4:4:4,
3 RGB; `enough`: the 75 % of R92. -/
structure OutPic where
  rtp : Nat
  width : Nat
  height : Nat
  chroma : Nat
  depth : Nat
  planes : List (List Nat)
  damaged : Bool
  generated : Bool
  enough : Bool
  colour : Option ColourInfo
  deriving DecidableEq, Repr

/-- Whether a surface can hold a decoded picture (R88). -/
def surfaceHolds (v : Surface) (p : OutPic) : Bool :=
  fmtPicture v.fmt && fmtSampling v.fmt == Nat.min p.chroma 2 && (fmtRgb v.fmt == (p.chroma == 3)) &&
    decide (p.depth ≤ depthBits v.depth) && decide (p.width ≤ v.width) && decide (p.height ≤ v.height)

/-- The first chain-window opening at or after an instant: (F, s). -/
def nextOpening (tl : Timeline) (t : Nat) : Nat × Nat :=
  let f := wfnAt tl t + 1
  match (List.range tl.nImage).find? (fun k => decide (t ≤ windowOpen tl f k)) with
  | some k => (f, k)
  | none => (f + 1, 0)

/-- A written picture becomes latest complete (R88, R89). -/
def State.promoteWritten (s : State) (w : WrittenPic) (t : Nat) : State :=
  let s1 := s.promotePicture w.channel w.handle w.rtp false t
  (s1.setNum (Reg.CDC_CH_LASTPIC w.channel) w.rtp).putBit (Reg.CDC_CH_STAT w.channel) Fld.CDC_CH_STAT_DAMAGED_NOW w.damaged

/-- The later of two openings (F, slot). -/
def laterOpening (a b : Nat × Nat) : Nat × Nat := if a.1 < b.1 ∨ (a.1 = b.1 ∧ a.2 < b.2) then b else a

/-- The leader announces the promotion of a channel's next picture once both senders have written it: at the later of the two openings at
least 50 µs after their writes (R89; the mirror's own comes as its PROMOTE record: DEDUCED, log entry 97). -/
def State.announceReady (s : State) (c : Nat) : State :=
  match s.cdc.written.find? (fun w => w.channel == c && !w.announced), s.cdc.otherWritten.find? (fun o => o.1 == c) with
  | some w, some o =>
    let x := laterOpening w.opening o.2
    let mark (y : WrittenPic) : WrittenPic := if y = w then { y with announced := true } else y
    ({ s with cdc := { s.cdc with written := s.cdc.written.map mark, otherWritten := s.cdc.otherWritten.erase o,
                                  announced := s.cdc.announced ++ [(c, x)] } } : State).sendLink (.promote c x.1 x.2)
  | _, _ => s

/-- A picture is written: promoted at once, or while the pair agrees kept for the opening the leader announces (R89). -/
def State.keepWritten (s : State) (w : WrittenPic) : State :=
  let s1 := { s with cdc := { s.cdc with written := s.cdc.written ++ [w] } }
  if s.leads then s1.announceReady w.channel else s1.sendLink (.promote w.channel w.opening.1 w.opening.2)

/-- The previous write of every picture is promoted when the link goes down (R89). -/
def State.promoteAll (s : State) : State :=
  let s1 := { s with cdc := { s.cdc with written := [], announced := [], otherWritten := [] } }
  s.cdc.written.foldl (fun s w => s.promoteWritten w s.now) s1

/-- Write one output picture into the ring and promote it, or keep it for its opening (R88, R89). -/
def State.outputPicture (s : State) (c t : Nat) (p : OutPic) : State :=
  if s.chState c = Ch.CONFIG_ERR then s
  else
    match (s.ringFree c).bind s.surface? with
    | none => s.bump (Reg.CDC_CH_SKIPPED c) 1
    | some v =>
      if !surfaceHolds v p then s.codecConfigErr c
      else
        let h := handleOf v
        let shift := depthBits v.depth - p.depth
        let val (k x y : Nat) : Nat :=
          if fmtAlpha v.fmt ∧ k = 3 then 2 ^ depthBits v.depth - 1
          else
            let cw := (compSize { v with width := p.width, height := p.height } k).1
            let ch := (compSize { v with width := p.width, height := p.height } k).2
            if x < cw ∧ y < ch then (p.planes.getD k []).getD (y * cw + x) 0 * 2 ^ shift else 0
        let s1 := (s.writePicture v val).modSurface h (fun v =>
          { v with damaged := p.damaged, generated := p.generated, rtp := some p.rtp, colour := p.colour })
        let s2 := if p.damaged then s1.bump (Reg.CDC_CH_DAMAGED c) 1 else s1
        if (p.damaged && !s.bit (Reg.CDC_CH_CFG c) Fld.CDC_CH_CFG_CONCEAL_PROMOTE) || !p.enough then s2.bump (Reg.CDC_CH_SKIPPED c) 1
        else
          let o := match s2.timeline? with
            | some tl => nextOpening tl (t + 50 * usT)
            | none => (0, 0)
          let w : WrittenPic := { channel := c, handle := h, rtp := p.rtp, damaged := p.damaged, t := t, opening := o, announced := false }
          if s2.agreed then s2.keepWritten w else s2.promoteWritten w t

/-- A picture is discarded: counted, the code reported, and a HEVC channel may then wait for an IRAP picture (Table 5.5). -/
def State.chSkip (s : State) (c code : Nat) (waitIrap : Bool) : State :=
  let s1 := (s.bump (Reg.CDC_CH_SKIPPED c) 1)
  let s2 := if code = 0 then s1 else s1.codecErr c code
  if waitIrap then s2.setChState c Ch.WAIT_IRAP else s2

/-! ### Pictures and samples -/

/-- Size of component `c` of a picture. -/
def planeDims (chroma w h c : Nat) : Nat × Nat :=
  if c = 0 ∨ 2 ≤ chroma then (w, h) else if chroma = 1 then (ceilDiv w 2, h) else (ceilDiv w 2, ceilDiv h 2)

/-- The planes of a picture from its samples. -/
def planesBy (chroma w h : Nat) (x : Nat → Nat → Nat → Nat) : List (List Nat) :=
  [0, 1, 2].map (fun c =>
    let d := planeDims chroma w h c
    (List.range (d.1 * d.2)).map (fun k => x c (k % d.1) (k / d.1)))

/-- A sample of black: Y'CbCr 64, 512, 512 at 10 bits (R92). -/
def blackSample (depth c : Nat) : Nat := (if c = 0 then 64 else 512) * 2 ^ depth / 1024

/-- A sample of a frame buffer. -/
def FrameBuf.at' (b : FrameBuf) (c x y : Nat) : Nat := (b.planes.getD c []).getD (y * (planeDims b.chroma b.width b.height c).1 + x) 0

/-! ### HEVC (R80, R87, R90 to R92) -/

/-- An IRAP picture. -/
def hevcIrap : HevcKind → Bool
  | .idr => true
  | .bla => true
  | .cra => true
  | _ => false

/-- An SPS that uses an excluded profile, level, size, structure or buffering (Table 5.1). -/
def spsExcluded (p : HevcSps) : Bool :=
  p.profile == .other || decide (186 < p.levelIdc) || !inRange p.width 64 8192 || !inRange p.height 64 4352 || decide (1 < p.chroma) ||
    decide (10 < p.depth) || p.fieldSeq || decide (16 < p.buffers)

/-- The pool picture nearest in output order, the earlier on a tie (R91). -/
def nearestBuf (l : List FrameBuf) (poc : Int) : Option FrameBuf :=
  l.foldl (fun m b => match m with
    | none => some b
    | some a =>
      let da := (a.poc - poc).natAbs
      let db := (b.poc - poc).natAbs
      if db < da ∨ (db = da ∧ b.poc < a.poc) then some b else some a) none

/-- The marks a reference picture set leaves (R87): a buffer that is neither a reference nor waiting for output is FREE. -/
def applyRefs (refs : List HevcRef) (l : List FrameBuf) : List FrameBuf :=
  l.filterMap (fun b => match refs.find? (fun r => r.poc == b.poc) with
    | some r => some { b with mark := if r.long then .long else .short }
    | none => if b.needed then some { b with mark := .wait } else none)

/-- The waiting picture first in output order. -/
def firstNeeded (l : List FrameBuf) : Option FrameBuf :=
  (l.filter (·.needed)).foldl (fun m b => match m with | none => some b | some a => if b.poc < a.poc then some b else some a) none

/-- Output a buffer: it no longer waits, and is FREE unless a reference. -/
def outputBuf (l : List FrameBuf) (b : FrameBuf) : List FrameBuf :=
  l.filterMap (fun x => if x.needed ∧ x.poc = b.poc then (if x.mark = .wait then none else some { x with needed := false }) else some x)

/-- Whether the output process of clause C.5.2 bumps: more wait than may be reordered, one has waited its limit, or, before a picture is
decoded, no buffer is free (PRESUMED, log entry 93). -/
def mustBump (p : HevcSps) (before : Bool) (l : List FrameBuf) : Bool :=
  decide (p.reorder < (l.filter (·.needed)).length) ||
    (p.latencyPlus1 != 0 && l.any (fun b => b.needed && decide (p.reorder + p.latencyPlus1 - 1 ≤ b.waited))) ||
    (before && decide (p.buffers ≤ l.length))

/-- Bump until the process asks for no more: the outputs in order, and the buffers left. -/
def bumpAll (p : HevcSps) (before : Bool) : Nat → List FrameBuf → List FrameBuf × List FrameBuf
  | 0, l => ([], l)
  | n + 1, l =>
    match firstNeeded l with
    | none => ([], l)
    | some b => if mustBump p before l then (let r := bumpAll p before n (outputBuf l b); (b :: r.1, r.2)) else ([], l)

/-- All waiting pictures in output order. -/
def drainBufs : Nat → List FrameBuf → List FrameBuf
  | 0, _ => []
  | n + 1, l => match firstNeeded l with
    | none => []
    | some b => b :: drainBufs n (outputBuf l b)

/-- A buffer that takes the place of a reference the pool does not hold: generated (R90), or a copy of the nearest picture, DAMAGED (R91). -/
def standIn (p : HevcPic) (rtp : Nat) (pool : List FrameBuf) (generate : Bool) (r : HevcRef) : FrameBuf :=
  let base : FrameBuf :=
    { poc := r.poc, mark := if r.long then .long else .short, needed := false, waited := 0, generated := generate, damaged := !generate,
      rtp := rtp, width := p.sps.width, height := p.sps.height, chroma := p.sps.chroma, depth := p.sps.depth, colour := p.colour,
      planes := planesBy p.sps.chroma p.sps.width p.sps.height (fun c _ _ =>
        if generate then 2 ^ (p.sps.depth - 1) else blackSample p.sps.depth c) }
  match if generate then none else nearestBuf pool r.poc with
  | some b => { base with width := b.width, height := b.height, chroma := b.chroma, depth := b.depth, planes := b.planes }
  | none => base

/-- What the decoding of one HEVC picture does to its pool: the buffers after it, the pictures output, the references generated and
substituted. -/
structure HevcStep where
  bufs : List FrameBuf
  outs : List FrameBuf
  generated : Nat
  substituted : Nat
  deriving DecidableEq, Repr

/-- Decode a HEVC picture (R82, R87, R90 to R92). `start`: an IRAP picture with NoRaslOutputFlag 1, which empties the pool; `shown`: its
PicOutputFlag; `lost`: the CTUs left undecoded. -/
def hevcStep (p : HevcPic) (pic : CodedPic) (pool : List FrameBuf) (start shown : Bool) (lost : List Nat) : HevcStep :=
  let outs0 := if start ∧ !(p.kind == .cra || p.noPriorOutput) then drainBufs pool.length pool else []
  let kept := if start then [] else applyRefs p.refs pool
  let missing := p.refs.filter (fun r => !kept.any (fun b => b.poc == r.poc))
  let filled := kept ++ missing.map (standIn p pic.rtp pool start)
  let before := bumpAll p.sps true filled.length filled
  let cur := p.refs.filter (·.current)
  let refs := filled.filter (fun b => cur.any (fun r => r.poc == b.poc))
  let w := ceilDiv p.sps.width p.sps.ctu
  let near := nearestBuf filled p.poc
  let sample (c x y : Nat) : Nat :=
    let sx := if c ≠ 0 then 2 else 1
    let sy := if c ≠ 0 ∧ p.sps.chroma = 0 then 2 else 1
    if lost.contains (sy * y / p.sps.ctu * w + sx * x / p.sps.ctu) then
      match near with
      | some b => b.at' c x y
      | none => blackSample p.sps.depth c
    else Config.hevcSample p.sps pic.packets (refs.map (·.planes)) c x y % 2 ^ p.sps.depth
  let b : FrameBuf :=
    { poc := p.poc, mark := .short, needed := shown, waited := 0, generated := false, damaged := !lost.isEmpty || refs.any (·.damaged),
      rtp := pic.rtp, width := p.sps.width, height := p.sps.height, chroma := p.sps.chroma, depth := p.sps.depth, colour := p.colour,
      planes := planesBy p.sps.chroma p.sps.width p.sps.height sample }
  let aged := before.2.map (fun x => if shown ∧ x.needed ∧ p.poc < x.poc then { x with waited := x.waited + 1 } else x)
  let after := bumpAll p.sps false (aged.length + 1) (aged ++ [b])
  { bufs := after.2, outs := outs0 ++ before.1 ++ after.1, generated := if start then missing.length else 0,
    substituted := if start then 0 else missing.length }

/-- A frame buffer as it is output. -/
def FrameBuf.out (b : FrameBuf) : OutPic :=
  { rtp := b.rtp, width := b.width, height := b.height, chroma := b.chroma, depth := b.depth, planes := b.planes, damaged := b.damaged,
    generated := b.generated, enough := true, colour := b.colour }

/-- Report a code `n` times. -/
def State.reportErr (s : State) (c code : Nat) (n : Nat) : State := if n = 0 then s else s.codecErr c code

/-- A picture that completes after its deadline is counted and reported (R85). -/
def State.noteLate (s : State) (c t deadline : Nat) : State :=
  if deadline < t then (s.bump (Reg.CDC_CH_LATE c) 1).codecErr c 8 else s

/-- The decoding of a HEVC picture ends (R80, R83, R85 to R92). -/
def State.finishHevc (s : State) (c t : Nat) (p : HevcPic) (run : Decoding) : State :=
  let s1 := if run.pic.afterLoss then s.setChState c Ch.WAIT_IRAP else s
  let waiting := s1.chState c == Ch.WAIT_IRAP
  let dim := s1.reg (Reg.CDC_CH_DIM c)
  let n := s1.poolBuffers c p.sps
  if waiting && !(hevcIrap p.kind) then s1.chSkip c 0 false
  else if spsExcluded p.sps then s1.chSkip c 1 true
  else if fieldOf dim 0 16 < p.sps.width ∨ fieldOf dim 16 16 < p.sps.height then s1.chSkip c 2 true
  else if n < p.sps.buffers then (s1.chSkip c 3 true).setPool { channel := c, total := n, bufs := [], noRasl := false }
  else
    let pool := s1.poolOf c
    let start := p.kind == .idr || p.kind == .bla || (p.kind == .cra && (waiting || p.afterEos))
    let noRasl := if hevcIrap p.kind then start else pool.noRasl
    let lost := if run.pic.absent = 0 ∧ !p.syntaxBad then [] else p.lostCtus
    let r := hevcStep p run.pic pool.bufs start (p.output && !(p.kind == .rasl && noRasl)) lost
    let s2 := ((s1.setChState c Ch.DECODING).bump (Reg.CDC_CH_DECODED c) 1).bump (Reg.CDC_CH_GENERATED c) r.generated
    let s3 := ((((s2.reportErr c 4 (flag p.syntaxBad)).reportErr c 5 r.substituted).reportErr c 6 lost.length).reportErr c 0xA
      (flag p.hashBad)).noteLate c t run.deadline
    let s4 : State := if hevcIrap p.kind then { s3 with red := { s3.red with iraps := c :: s3.red.iraps.filter (· != c) } } else s3
    r.outs.foldl (fun s b => s.outputPicture c t b.out) (s4.setPool { channel := c, total := n, bufs := r.bufs, noRasl := noRasl })

/-! ### JPEG XS (R81, R92) -/

/-- A codestream header that names an excluded profile, level or option (Table 5.2). -/
def jxsExcluded (p : JxsPic) : Bool :=
  p.profile == .other || p.tenK || p.starTetrix || p.temporal || p.losslessBad

/-- Slice packetisation mode, the K bit of a packet's payload header (RFC 9134). -/
def CodedPic.sliceMode (p : CodedPic) : Bool := (p.packets.head?).any (fun q => decide (beNat (slice (rtpPayload q) 0 4) / 2 ^ 30 % 2 = 1))

/-- The rows of a lost slice are copied from the previous latest complete picture; with none they are black (R92, log entry 93). -/
def State.jxsSampleAt (s : State) (prev : Option Surface) (p : JxsPic) (pic : CodedPic) (lost : List Nat) (c x y : Nat) : Nat :=
  if lost.contains (y / p.sliceRows) then
    match prev with
    | some v => s.sampleAt v c x y / 2 ^ (depthBits v.depth - p.depth)
    | none => blackSample p.depth c
  else Config.jxsSample pic.packets c x y % 2 ^ p.depth

/-- The decoding of a JPEG XS picture ends (R81, R83, R85, R92). -/
def State.finishJxs (s : State) (c t : Nat) (p : JxsPic) (run : Decoding) : State :=
  let dim := s.reg (Reg.CDC_CH_DIM c)
  let lost := if run.pic.absent = 0 then [] else p.lost.dedup.filter (fun k => decide (k < p.slices))
  if jxsExcluded p then s.chSkip c 1 false
  else if fieldOf dim 0 16 < p.width ∨ fieldOf dim 16 16 < p.height then s.chSkip c 2 false
  else if p.syntaxBad then s.chSkip c 4 false
  else if run.pic.absent ≠ 0 ∧ !run.pic.sliceMode then s.chSkip c 0 false
  else
    let prev := (s.stream c).latest.bind s.surface?
    let rows (k : Nat) : List Nat := (List.range p.sliceRows).map (fun y => (k * p.sliceRows + y) / 16)
    let s0 := match prev with
      | some v => if v.layout = 2 ∧ lost ≠ [] then
          s.readBricks v ((lost.flatMap rows).dedup.flatMap (fun r => (List.range (brickCols v.width)).map (fun b => r * brickCols v.width + b)))
        else s
      | none => s
    let o : OutPic :=
      { rtp := run.pic.rtp, width := p.width, height := p.height, chroma := p.chroma, depth := p.depth,
        planes := planesBy p.chroma p.width p.height (s.jxsSampleAt prev p run.pic lost), damaged := !lost.isEmpty, generated := false,
        enough := decide (3 * p.slices ≤ 4 * (p.slices - lost.length)), colour := p.colour }
    ((((s0.setChState c Ch.DECODING).bump (Reg.CDC_CH_DECODED c) 1).reportErr c 6 lost.length).noteLate c t run.deadline).outputPicture c t o

/-- A picture's decode ends; coded data of another standard than the channel's do not conform (Table 5.5). -/
def State.finishDecode (s : State) (d : DecodeDone) (run : Decoding) : State :=
  let c := d.channel
  let s1 := { s with cdc := { s.cdc with decoding := s.cdc.decoding.filter (fun x => x.pic.channel != c),
                                         lastDone := tabSet s.cdc.lastDone c d.t } }
  let hevc := run.decoder == 0
  let s2 := match d.content with
    | .hevc p => if hevc then s1.finishHevc c d.t p run else s1.chSkip c 4 false
    | .jxs p => if hevc then s1.chSkip c 4 false else s1.finishJxs c d.t p run
  -- a pool released meanwhile stops the channel once the picture is done (R93)
  if hevc ∧ (s.live? (fieldOf (s.reg (Reg.CDC_CH_POOL c)) 0 16)).isNone ∧
      (s.surface? (fieldOf (s.reg (Reg.CDC_CH_POOL c)) 0 16)).isSome then s2.codecConfigErr c else s2

def execPictureDecodeComplete (d : DecodeDone) (s : State) : Host.Outcome State Fault Refusal :=
  match s.cdc.decoding.find? (fun x => x.pic.channel == d.channel && !x.suspended) with
  | none => .next (s.tick d.t)
  | some run => .next ((s.tick d.t).finishDecode d run)

/-- A PROMOTE record: the follower promotes at the announced opening; at the leader it is the other sender's own write (R89). -/
def execPromote (target wfn slot t : Nat) (s : State) : Host.Outcome State Fault Refusal :=
  let s1 := s.tick t
  if s.follows then .next { s1 with cdc := { s1.cdc with announced := s1.cdc.announced ++ [(target, wfn, slot)] } }
  else if s.leads then
    let s2 := { s1 with cdc := { s1.cdc with otherWritten := s1.cdc.otherWritten ++ [(target, wfn, slot)] } }
    .next (s2.announceReady target)
  else .next s1

/-- At the opening of (F, slot) the announced pictures become latest complete (R89). -/
def State.promoteAnnounced (s : State) (f slot t : Nat) : State :=
  s.cdc.announced.foldl (fun s a =>
    if a.2.1 < f ∨ (a.2.1 = f ∧ a.2.2 ≤ slot) then
      match s.cdc.written.find? (fun w => w.channel == a.1) with
      | none => s
      | some w =>
        ({ s with cdc := { s.cdc with written := s.cdc.written.erase w, announced := s.cdc.announced.erase a } }).promoteWritten w t
    else s) s

/-! ### Return stream (R94 to R98) -/

/-- Fields of CDC_RET_CTRL. -/
def State.retOn (s : State) : Bool := bitOf (s.reg Reg.CDC_RET_CTRL) 0
def State.retSliceRows (s : State) : Nat := fieldOf (s.reg Reg.CDC_RET_CTRL) 2 4
def State.retSlot (s : State) : Nat := fieldOf (s.reg Reg.CDC_RET_CTRL) 6 2
def State.retDivide (s : State) : Nat := fieldOf (s.reg Reg.CDC_RET_CTRL) 8 4

/-- This sender is in control (RED_STATE.IN_CONTROL, R98). -/
def State.inControl (s : State) : Bool := s.bit Reg.RED_STATE Fld.RED_STATE_IN_CONTROL

/-- Whether ENABLE is refused (R94 and the limits of Table 5.6). -/
def State.retRefused (s : State) (ctrl : Word) : Bool :=
  match s.gen.running with
  | none => true
  | some im =>
    let wh := Config.returnSize im.imageId
    let rate := s.reg Reg.CDC_RET_RATE
    let qp := s.reg Reg.CDC_RET_QP
    let div := fieldOf ctrl 8 4 + 1
    !(decide (wh.1 ≤ 8192) && decide (wh.2 ≤ 4320) &&
      decide (roundUp 64 wh.1 * roundUp 64 wh.2 * im.timeline.num ≤ 1000000000 * im.timeline.den * div) &&
      decide (fieldOf ctrl 6 2 < im.timeline.nImage) &&
      inRange (fieldOf rate 0 20) 1000 400000 && inRange (fieldOf rate 20 8) 1 200 &&
      decide (fieldOf qp 0 6 ≤ fieldOf qp 16 6) && decide (fieldOf qp 16 6 ≤ fieldOf qp 8 6) &&
      decide (fieldOf qp 8 6 ≤ 51) && decide (fieldOf qp 24 4 ≤ 12) &&
      inRange (fieldOf (s.reg Reg.CDC_RET_RING_SIZE) 0 5) 16 28)

/-- Bit 16 of CDC_ERR_EVT: return encoder ERR or overflow. -/
def State.retErrEvt (s : State) : State := s.setReg Reg.CDC_ERR_EVT (s.reg Reg.CDC_ERR_EVT ||| 0x10000#32)

/-- The HRD buffer's size in bits × 2^16 × 10^9 (R96): CPB_MS at BITRATE_KBPS. -/
def State.hrdDepth (s : State) : Nat :=
  fieldOf (s.reg Reg.CDC_RET_RATE) 0 20 * fieldOf (s.reg Reg.CDC_RET_RATE) 20 8 * secT

/-- The return stream starts: with an IDR picture, no picture in progress, and its HRD buffer full (R94, R96). -/
def State.retStart (s : State) : State :=
  { s with cdc := { s.cdc with idrDue := true, sinceIdr := 0, retNext := 0, ret := [], hrd := s.hrdDepth, hrdAt := s.now } }

/-- A write of CDC_RET_CTRL (Table 5.9). -/
def State.retCtrlWrite (s : State) (data : Word) : State :=
  let rows := fieldOf data 2 4
  if rows = 0 ∨ 8 < rows then s
  else
    let old := s.reg Reg.CDC_RET_CTRL
    let s1 := (s.plainWrite Reg.CDC_RET_CTRL data)
    let s2 := if bitOf data 1 then { s1 with cdc := { s1.cdc with idrDue := true } } else s1
    if bitOf data 0 && !bitOf old 0 then
      if s.retRefused data then
        ((s2.setReg Reg.CDC_RET_CTRL (putField (putField (s2.reg Reg.CDC_RET_CTRL) 0 1 0) 13 1 1))).retErrEvt
      else (s2.setReg Reg.CDC_RET_CTRL (putField (putField (s2.reg Reg.CDC_RET_CTRL) 0 1 1) 13 1 0)).retStart
    else if !bitOf data 0 then { s2 with cdc := { s2.cdc with ret := [] } }
    else s2

/-- The follower takes the leader's CDC_RET_CTRL with what it brings: the start with an IDR picture, the stop, FORCE_IDR in bit 1 (R98). -/
def State.retCtrlCopy (s : State) (data : Word) : State :=
  let on := s.retOn
  let s1 := s.setReg Reg.CDC_RET_CTRL (putField data 1 1 0)
  let s2 := if bitOf data 1 then { s1 with cdc := { s1.cdc with idrDue := true } } else s1
  if bitOf data 0 && !on then s2.retStart else if !bitOf data 0 then { s2 with cdc := { s2.cdc with ret := [] } } else s2

/-- CDC_RET_CTRL as it reads: EMITTING is 1 while this sender is in control and writes its host ring (Table 5.9). -/
def State.retCtrlView (s : State) : Word :=
  putField (s.reg Reg.CDC_RET_CTRL) 14 1 (flag (s.retOn && s.inControl))

/-- Ring size in bytes, and a position modulo twice of it. -/
def State.retRing (s : State) : Nat := 2 ^ fieldOf (s.reg Reg.CDC_RET_RING_SIZE) 0 5

/-- A write of CDC_RET_RD: ignored beyond CDC_RET_WR or outside the ring (R97). -/
def State.retRdWrite (s : State) (data : Word) : State :=
  let m := 2 * s.retRing
  let wr := (s.reg Reg.CDC_RET_WR).toNat
  let rd := (s.reg Reg.CDC_RET_RD).toNat
  let v := data.toNat
  if v < m ∧ (wr + m - v) % m ≤ (wr + m - rd % m) % m then s.setNum Reg.CDC_RET_RD v else s

/-- The registers that an enabled return stream locks (R99). -/
def retLocked (a : Nat) : Bool :=
  a == Reg.CDC_RET_RATE || a == Reg.CDC_RET_QP || a == Reg.CDC_RET_GOP || a == Reg.CDC_RET_RING_LO ||
    a == Reg.CDC_RET_RING_HI || a == Reg.CDC_RET_RING_SIZE

/-- The counters of the block. -/
def cdcCounter (a : Nat) : Bool :=
  (inRange a (Reg.CDC_CH_CFG 0) (Reg.CDC_CH_LASTPIC 15) &&
    (let o := (a - Reg.CDC_CH_CFG 0) % 0x40; decide (0x14 ≤ o) && decide (o ≤ 0x24))) ||
    a == Reg.CDC_RET_PICS || a == Reg.CDC_RET_OVF || a == Reg.CDC_RET_ROI_LIFT

/-- A write to a register of the CDC block that the register arbiter lets through (R99). -/
def State.cdcWrite (s : State) (a : Nat) (data : Word) : State :=
  let s' :=
    if a = Reg.CDC_RET_CTRL then s.retCtrlWrite data
    else if a = Reg.CDC_RET_RD then s.retRdWrite data
    else if a = Reg.CDC_CNT_CLEAR then s.clearCounters data cdcCounter
    else if retLocked a then (if s.retOn then s else s.plainWrite a data)
    else if inRange a (Reg.CDC_CH_CFG 0) (Reg.CDC_CH_LASTPIC 15) then
      (if s.streamOn ((a - Reg.CDC_CH_CFG 0) / 0x40) then s else s.plainWrite a data)
    else s.plainWrite a data
  let force := a == Reg.CDC_RET_CTRL && bitOf data 1 && inRange (fieldOf data 2 4) 1 8
  if s'.leads && (retLocked a || a == Reg.CDC_RET_CTRL) then s'.sendLink (.config (.register a (putField (s'.reg a) 1 1
    (if a == Reg.CDC_RET_CTRL then flag force else fieldOf (s'.reg a) 1 1)))) else s'

/-- d of R95 in units of 2^-16 ns: SLICE_ROWS × 64 × W64 samples at 1.0 G per second. -/
def State.retSliceTime (s : State) : Nat :=
  match s.gen.running with
  | none => 0
  | some im => s.retSliceRows * 64 * roundUp 64 (Config.returnSize im.imageId).1 * nsT

/-- Slices of a return picture. -/
def State.retSlices (s : State) : Nat :=
  match s.gen.running with
  | none => 0
  | some im => ceilDiv (roundUp 64 (Config.returnSize im.imageId).2 / 64) s.retSliceRows

/-- A return slice starts coding at s_k = max(a_k, s_(k-1) + d), slices and pictures in order (R95); the first of a picture fixes its kind
(R94, R98). -/
def execReturnSliceStart (wfn slice arrival : Nat) (s : State) : Host.Outcome State Fault Refusal :=
  if !s.retOn ∨ wfn % (s.retDivide + 1) ≠ 0 then .next s
  else if slice = 0 then
    if s.cdc.ret.any (fun p => p.started != s.retSlices || decide (wfn ≤ p.wfn)) then .next s
    else
      let period := fieldOf (s.reg Reg.CDC_RET_GOP) 0 16
      let due := s.cdc.idrDue || (decide (period ≠ 0) && decide (period ≤ s.cdc.sinceIdr))
      let rep := s.sinkTainted wfn s.retSlot 0x2010
      let idr := due && !rep
      let s1 := s.tick arrival
      let p : RetPic := { wfn := wfn, slot := s.retSlot, started := 1, next := 0, lastStart := arrival, idr := idr, isRepeat := rep,
                          lift := false, cut := false }
      let s2 := if rep && !s.held then s1.bump Reg.SCH_SLOT_REPEAT 1 else s1
      .next { s2 with cdc := { s2.cdc with ret := s2.cdc.ret ++ [p], retNext := arrival + s.retSliceTime,
                                           idrDue := if idr then false else due,
                                           sinceIdr := if idr then 1 else s.cdc.sinceIdr + 1 } }
  else if !s.cdc.ret.any (fun p => p.wfn == wfn && p.started == slice) ∨ s.retSlices ≤ slice then .next s
  else
    let at' := Nat.max arrival s.cdc.retNext
    let s1 := s.tick at'
    let go (p : RetPic) : RetPic := if p.wfn = wfn then { p with started := slice + 1, lastStart := at' } else p
    .next { s1 with cdc := { s1.cdc with ret := s1.cdc.ret.map go, retNext := at' + s.retSliceTime } }

/-- The 32-byte header of a return-ring record (Table 5.3). -/
def retHeader (len wfn slot flags row t : Nat) (data : List Byte) : List Byte :=
  let h := leBytes 4 len ++ leBytes 6 wfn ++ leBytes 1 slot ++ leBytes 1 flags ++ leBytes 2 row ++ zeroBytes 2 ++
    leBytes 6 (t / secT) ++ leBytes 4 (t % secT / nsT) ++ leBytes 2 (t % nsT)
  h ++ leBytes 4 (crc32c (h ++ data))

/-- Write a record into the host ring after a PAD that fills the ring's end when it would cross it; none when the space is
missing (R97). -/
def State.retWrite (s : State) (bytes : List Byte) : Option State :=
  let size := s.retRing
  let m := 2 * size
  let wr := (s.reg Reg.CDC_RET_WR).toNat % m
  let rd := (s.reg Reg.CDC_RET_RD).toNat % m
  let n := bytes.length
  let room := size - (wr + m - rd) % m
  let left := size - wr % size
  let pad := if left < n then left else 0
  let base := (s.reg Reg.CDC_RET_RING_LO).toNat + (s.reg Reg.CDC_RET_RING_HI).toNat * 2 ^ 32
  if room < pad + n then none
  else
    let s1 := if pad = 0 then s
      else s.emit (.hostWrite (base + wr % size) (padTo pad (retHeader 0 0 0 0x80 0 0 [])))
    let wr1 := (wr + pad) % m
    let s2 := s1.emit (.hostWrite (base + wr1 % size) bytes)
    some (s2.setNum Reg.CDC_RET_WR ((wr1 + n) % m))

/-- Types of the NAL units of an Annex B byte stream. -/
def nalTypes : List Byte → List Nat
  | [] => []
  | a :: rest => if a = 0 ∧ rest.take 2 = [0, 1] then byteAt rest 2 / 2 % 64 :: nalTypes rest else nalTypes rest

/-- The NAL units of a slice: VPS, SPS and PPS before an IDR picture, an IDR slice of it, else a P slice (R94). -/
def sliceNals (p : RetPic) (slice : Nat) (nal : List Byte) : Bool :=
  let head := if p.idr ∧ slice = 0 then [32, 33, 34] else []
  if p.idr then nalTypes nal == head ++ [19] || nalTypes nal == head ++ [20] else nalTypes nal == [1]

/-- The CTUs of a slice. -/
def State.sliceCtus (s : State) (slice : Nat) : List Nat :=
  match s.gen.running with
  | none => []
  | some im =>
    let w := roundUp 64 (Config.returnSize im.imageId).1 / 64
    let rows := roundUp 64 (Config.returnSize im.imageId).2 / 64
    let n := Nat.min s.retSliceRows (rows - slice * s.retSliceRows)
    (List.range (n * w)).map (fun k => slice * s.retSliceRows * w + k)

/-- A region-of-interest CTU while ROI_EN is set (R96): ROI_CELLS as in force since its COMMIT point. -/
def State.roiCtu (s : State) (ctu : Nat) : Bool :=
  bitOf (s.reg Reg.CDC_RET_CTRL) 12 && s.gen.running.any (fun im => Config.roiCtu im.imageId (s.blob 7) ctu)

/-- The QP of a CTU under rate control (R96): stage 1 raises those outside the region of interest, stage 2 those inside. -/
def State.returnQp (s : State) (r : RetSlice) (ctu : Nat) : Nat :=
  let q := s.reg Reg.CDC_RET_QP
  let top := fieldOf q 8 6
  if s.roiCtu ctu then Nat.min top (Nat.max (fieldOf q 0 6) (Nat.min (fieldOf q 16 6) (r.baseQp - fieldOf q 24 4)) + r.lift)
  else Nat.min top (Nat.max (fieldOf q 0 6) (r.baseQp + r.raise))

/-- The HRD buffer's content at an instant. -/
def State.hrdAtTime (s : State) (t : Nat) : Nat :=
  Nat.min s.hrdDepth (s.cdc.hrd + (t - s.cdc.hrdAt) * (fieldOf (s.reg Reg.CDC_RET_RATE) 0 20 * 1000))

/-- A slice the encoder can produce: its NAL units and QPs are R94's and R96's, region-of-interest CTUs are lifted only once every other is at
QP_MAX, and the HRD buffer holds its bits. -/
def State.sliceCoded (s : State) (p : RetPic) (r : RetSlice) : Bool :=
  sliceNals p r.slice r.nal && (p.isRepeat || r.qps == (s.sliceCtus r.slice).map (s.returnQp r)) &&
    (r.lift == 0 || (!p.isRepeat && decide (fieldOf (s.reg Reg.CDC_RET_QP) 8 6 ≤ r.baseQp + r.raise))) &&
    decide (r.nal.length * 8 * secT ≤ s.hrdAtTime r.t)

/-- The ring record of a slice (Table 5.3). -/
def State.retRecord (s : State) (p : RetPic) (r : RetSlice) (lift : Bool) : List Byte :=
  let last := decide (s.retSlices ≤ r.slice + 1)
  let flags := flag (r.slice == 0) + 2 * flag last + 4 * flag p.idr + 8 * flag p.isRepeat + 16 * flag lift
  let raw := retHeader r.nal.length p.wfn p.slot flags (r.slice * s.retSliceRows) r.t r.nal ++ r.nal
  padTo (roundUp 32 raw.length) raw

/-- A coded return slice is complete: written by the sender in control, or its picture cut on a full ring (R96 to R98). -/
def execReturnSliceWritten (r : RetSlice) (s : State) : Host.Outcome State Fault Refusal :=
  let s1 := s.tick r.t
  match s.cdc.ret.find? (fun p => p.wfn == r.wfn && p.next == r.slice && decide (r.slice < p.started)) with
  | none => .next s1
  | some p =>
    if !s.sliceCoded p r then .next s1
    else
      let last := decide (s.retSlices ≤ r.slice + 1)
      let lift := p.lift || (r.lift != 0 && (s.sliceCtus r.slice).any s.roiCtu)
      let coded := { s1 with cdc := { s1.cdc with hrd := s.hrdAtTime r.t - r.nal.length * 8 * secT, hrdAt := r.t } }
      let bytes := s.retRecord p r lift
      let s2 :=
        if p.cut ∨ !s.inControl then coded
        else match coded.retWrite bytes with
          | some s' => if last then s'.event 2 else s'
          | none => { ((coded.bump Reg.CDC_RET_OVF 1).retErrEvt) with cdc := { coded.cdc with idrDue := true } }
      let cut := p.cut || (s.inControl && (coded.retWrite bytes).isNone)
      let s3 := if last then
          (let a := s2.bump Reg.CDC_RET_PICS 1; if lift then a.bump Reg.CDC_RET_ROI_LIFT 1 else a) else s2
      let rest := s3.cdc.ret.filter (fun q => q.wfn != p.wfn)
      let done (q : RetPic) : RetPic := if q.wfn = p.wfn then { q with next := r.slice + 1, lift := lift, cut := cut } else q
      .next { s3 with cdc := { s3.cdc with ret := if last then rest else s3.cdc.ret.map done } }

end Sys2Proof.Machine
end

