-- ==== Sys2Proof/Machine/Ingest.lean ====
section
/-! DEFINITION. Ethernet ports, the ingress tests, the stream table, the agreement of the pair, BAR2 windows, ARP and ICMP
(R67 to R76, R78, R79). -/
namespace Sys2Proof.Machine

/-! ### Ports (R67, Table 4.6) -/

def State.portMode (s : State) (p : Nat) : Nat := s.get (Reg.ING_PORT_CFG p) Fld.ING_PORT_CFG_MODE

/-- Whether a port in its mode provides a sub-port. -/
def State.portHas (s : State) (p sub : Nat) : Bool :=
  decide (p < 4) && (if s.portMode p = 1 then sub == 0 else s.portMode p == 2 && decide (sub < 4))

/-- Whether a stream is received at a port and sub-port: its own, or the second with DUAL. -/
def State.streamAt (s : State) (str p sub : Nat) : Bool :=
  let c := Reg.ING_STR_CTRL str
  (s.get c Fld.ING_STR_CTRL_PORT == p && s.get c Fld.ING_STR_CTRL_SUB == sub) ||
    (s.bit c Fld.ING_STR_CTRL_DUAL && s.get c Fld.ING_STR_CTRL_PORT_B == p && s.get c Fld.ING_STR_CTRL_SUB_B == sub)

/-- Whether an enabled stream names a port. -/
def State.portUsed (s : State) (p : Nat) : Bool :=
  (List.range 16).any (fun str => s.streamOn str && (List.range 4).any (fun sub => s.streamAt str p sub))

/-- A write of ING_PORT_CFG: MODE 3 is ignored; a change of MODE or MEDIUM is ignored while an enabled stream names the port,
else it takes the port's links down (R67). -/
def State.portCfgWrite (s : State) (p : Nat) (data : Word) : State :=
  let old := s.reg (Reg.ING_PORT_CFG p)
  let change := decide (fieldOf data 0 3 ≠ fieldOf old 0 3)
  if fieldOf data 0 2 = 3 ∨ (change ∧ s.portUsed p) then s
  else
    let s1 := s.plainWrite (Reg.ING_PORT_CFG p) data
    if change then s1.setReg (Reg.ING_PORT_STAT p) 0 else s1

/-- Whether a port runs clause 73 auto-negotiation, and its links an RS-FEC: always in ONE_100G, in FOUR_25G unless NOFEC25 (R67, Table 4.6). -/
def State.portNegotiates (s : State) (p : Nat) : Bool := s.bit (Reg.ING_PORT_CFG p) Fld.ING_PORT_CFG_AN_EN
def State.portFec (s : State) (p : Nat) : Bool := s.portMode p == 1 || !s.bit (Reg.ING_PORT_CFG p) Fld.ING_PORT_CFG_NOFEC25

/-- A port or sub-port gains or loses link, auto-negotiation and FEC lock (R67, Table 4.5). -/
def execSubPortLinkChange (port sub : Nat) (up anDone fecLock : Bool) (s : State) : Host.Outcome State Fault Refusal :=
  if !s.portHas port sub then .next s
  else
    let r := s.reg (Reg.ING_PORT_STAT port)
    .next (s.setReg (Reg.ING_PORT_STAT port)
      (putField (putField (putField r sub 1 (flag up)) (4 + sub) 1 (flag (anDone && s.portNegotiates port)))
        (8 + sub) 1 (flag (fecLock && s.portFec port))))

/-! ### Stream enable and disable (R70, Table 4.7) -/

/-- The image's stream envelope, which no section defines: the model counts its distinct ingest-stream endpoints (class 0x1 of Table
2.6), at most 16 (DEDUCED, log entry 92). -/
def streamEnvelope (im : Image) : Nat :=
  let eps := im.routes.map (·.src) ++ im.routes.map (·.dst) ++ im.queues.map (·.producer)
  Nat.min 16 ((eps.filter (fun e => e / 4096 == 1)).dedup.length)

/-- Whether setting ENABLE with these fields is refused (R70, Table 4.7). -/
def State.enableRefused (s : State) (str : Nat) (data : Word) : Bool :=
  let port := fieldOf data 1 2
  let sub := fieldOf data 3 2
  let dual := bitOf data 8
  let portB := fieldOf data 9 2
  let subB := fieldOf data 11 2
  let rate := fieldOf (s.reg (Reg.ING_STR_RATE str)) 0 20
  let ring4 := bitOf data 14
  let names := (s.setReg (Reg.ING_STR_CTRL str) (putField data 14 1 (flag ring4))).ringOf str
  let on := ((List.range 16).filter (fun x => x != str && s.streamOn x)).length + 1
  decide (2 < fieldOf data 5 3) || !s.portHas port sub || (dual && !s.portHas portB subB) ||
    (dual && portB == port && subB == sub) || rate == 0 || decide (100000 < rate) ||
    (bitOf data 15 && (fieldOf data 16 12 == 0 || fieldOf data 16 12 == 4095)) ||
    names.any (fun h => (s.live? h).isNone) ||
    (match s.gen.running with
     | none => true
     | some im => decide (streamEnvelope im < on))

/-- Full bucket of a stream (test 5): BURST_KIB × 8,192 bits. -/
def State.bucketDepth (s : State) (str : Nat) : Nat :=
  fieldOf (s.reg (Reg.ING_STR_RATE str)) 20 12 * 8192 * 20000 * 65536

/-- A stream is enabled: ENABLE set and ERR cleared, its receive state fresh but for its latest picture, its bucket full (R70). -/
def State.streamStart (s : State) (str : Nat) : State :=
  let a := Reg.ING_STR_CTRL str
  let s1 := s.setReg a (putField (putField (s.reg a) 0 1 1) 28 1 0)
  let x := s1.stream str
  (s1.setStream { freshStream str with latest := x.latest, verdicts := x.verdicts, tokens := s1.bucketDepth str, tokensAt := s1.now }).startChannel str

/-- A stream is disabled: ENABLE and ACTIVE cleared, and all it received forgotten but its latest picture (R70). -/
def State.streamStop (s : State) (str : Nat) : State :=
  let a := Reg.ING_STR_CTRL str
  let s1 := s.setReg a (putField (putField (s.reg a) 0 1 0) 29 1 0)
  let x := s1.stream str
  (s1.setStream { freshStream str with latest := x.latest, verdicts := x.verdicts }).stopChannel str

/-- A write of ING_STR_CTRL (R70): setting ENABLE may be refused, which leaves it 0 and sets ERR, and the other fields of the write are
stored all the same (DESIGN CHOICE, log entry 92); while it is 1 only a write that clears it acts. -/
def State.strCtrlWrite (s : State) (str : Nat) (data : Word) : State :=
  let a := Reg.ING_STR_CTRL str
  if s.streamOn str then (if bitOf data 0 then s else s.streamStop str)
  else if !bitOf data 0 then s.plainWrite a data
  else
    let s1 := s.plainWrite a data
    if s.enableRefused str data then s1.setReg a (putField (putField (s1.reg a) 0 1 0) 28 1 1)
    else s1.streamStart str

/-- The registers of a stream's descriptor. -/
def streamReg (a : Nat) : Bool := inRange a (Reg.ING_STR_CTRL 0) (Reg.ING_STR_SURF23 15) && decide ((a - Reg.ING_STR_CTRL 0) % 0x40 ≤ 0x1C)

/-- The follower takes a register of the leader's stream table (R76): the copy of ING_STR_CTRL enables or disables its stream and is never
refused; ACTIVE stays its own. -/
def State.copyStreamReg (s : State) (a : Nat) (data : Word) : State :=
  let str := (a - Reg.ING_STR_CTRL 0) / 0x40
  if !streamReg a then s
  else if a ≠ Reg.ING_STR_CTRL str then s.setReg a data
  else
    let own := putField data 29 1 (fieldOf (s.reg a) 29 1)
    if s.streamOn str then (if bitOf data 0 then s.setReg a own else (s.setReg a (putField own 0 1 1)).streamStop str)
    else
      let s1 := s.setReg a (putField own 0 1 0)
      if bitOf data 0 then s1.streamStart str else s1

/-- The counters of the block. -/
def ingCounter (a : Nat) : Bool :=
  inRange a Reg.ING_LS_FWD Reg.ING_LS_MISMATCH || a == Reg.ING_MGMT_AUTHFAIL || inRange a (Reg.ING_DROP 0) (Reg.ING_DROP 7) ||
    a == Reg.ING_WIN_OOR || a == Reg.ING_WIN_RETIRED ||
    (inRange a (Reg.ING_STR_CTRL 0) (Reg.ING_STR_LOST 15) &&
      (let o := (a - Reg.ING_STR_CTRL 0) % 0x40; o == 0x24 || o == 0x28 || o == 0x2C))

/-- A write to a register of the ING block that the register arbiter lets through. -/
def State.ingWrite (s : State) (a : Nat) (data : Word) : State :=
  if a = Reg.ING_CNT_CLEAR then s.clearCounters data ingCounter
  else if inRange a (Reg.ING_PORT_CFG 0) (Reg.ING_PORT_CFG 3) then s.portCfgWrite ((a - Reg.ING_PORT_CFG 0) / 4) data
  else if a = Reg.ING_MGMT_CFG then (if inRange (fieldOf data 16 3) 1 4 then s.plainWrite a data else s)
  else if streamReg a then
    if s.follows then s
    else
      let str := (a - Reg.ING_STR_CTRL 0) / 0x40
      let s1 :=
        if a = Reg.ING_STR_CTRL str then s.strCtrlWrite str data
        else if s.streamOn str then s else s.plainWrite a data
      if s1.leads then s1.sendLink (.config (.register a (s1.reg a))) else s1
  else s.plainWrite a data

/-! ### The PCIe endpoint (R77) -/

/-- Device ID and class code of the endpoint. -/
def pcieDeviceId : Nat := 0x9600
def pcieClass : Nat := 0x0480

/-- A byte of the endpoint's configuration space: what software wrote, else the Device ID in bytes 2 and 3 and the class code in 10 and 11, the
standard's places (PRESUMED, log entry 99); the spec states no other byte. -/
def State.pcieConfig (s : State) (a : Nat) : Byte :=
  let fixed : Nat := if a = 2 then pcieDeviceId % 256 else if a = 3 then pcieDeviceId / 256 else if a = 10 then pcieClass % 256
    else if a = 11 then pcieClass / 256 else (Config.pcieConfig a).toNat
  if a = 2 ∨ a = 3 ∨ a = 10 ∨ a = 11 then byteOf fixed else cellGet Config.pcieConfig s.ing.pcie.config a

/-! ### Frames (R68, R69) -/

/-- What a frame carries, as far as the tests read it. -/
structure FrameView where
  dst : Nat
  vlan : Option Nat
  /-- 1 ARP, 2 IPv4, 0 neither -/
  kind : Nat
  ipDst : Nat
  ipSrc : Nat
  fragment : Bool
  proto : Nat
  dport : Nat
  sumOk : Bool
  udp : List Byte
  icmpEcho : Bool
  deriving DecidableEq, Repr

/-- Ones'-complement sum of 16-bit big-endian words. -/
def sum16 : List Byte → Nat
  | [] => 0
  | [a] => a.toNat * 256
  | a :: b :: rest =>
    let x := a.toNat * 256 + b.toNat + sum16 rest
    x % 65536 + x / 65536

/-- Read a frame: one 802.1Q tag at most, IPv4, UDP (R68). -/
def viewFrame (bs : List Byte) : FrameView :=
  let et0 := beNat (slice bs 12 2)
  let tagged := et0 == 0x8100
  let et := if tagged then beNat (slice bs 16 2) else et0
  let ip := bs.drop (if tagged then 18 else 14)
  let ihl := 4 * (byteAt ip 0 % 16)
  let total := beNat (slice ip 2 2)
  let seg := slice ip ihl (total - ihl)
  let proto := byteAt ip 9
  let isIp := et == 0x0800 && decide (byteAt ip 0 / 16 = 4)
  let udpLen := beNat (slice seg 4 2)
  let sum := sum16 (slice ip 12 8 ++ [0, 17] ++ slice seg 4 2 ++ seg.take udpLen)
  { dst := beNat (slice bs 0 6), vlan := if tagged then some (beNat (slice bs 14 2) % 4096) else none,
    kind := if et == 0x0806 then 1 else if isIp then 2 else 0,
    ipSrc := beNat (slice ip 12 4), ipDst := beNat (slice ip 16 4),
    fragment := decide (beNat (slice ip 6 2) % 16384 ≠ 0), proto := proto,
    dport := if proto = 17 then beNat (slice seg 2 2) else 0,
    sumOk := beNat (slice seg 6 2) == 0 || sum == 0xFFFF,
    udp := slice seg 8 (udpLen - 8), icmpEcho := proto == 1 && byteAt seg 0 == 8 }

/-- The multicast MAC address of an IPv4 group. -/
def groupMac (ip : Nat) : Nat := 0x01005E000000 + ip % 2 ^ 23

/-- The management address: that of ING_MGMT_IP, in ROM recovery RECOVERY_IP (R79, R329). -/
def State.mgmtIp (s : State) : Nat := if s.recovery then s.tru.desc.recoveryIp else (s.reg Reg.ING_MGMT_IP).toNat

/-- Whether management is answered at a sub-port: an address is set and MGMT_EN names it (R79, Table 4.6); in ROM recovery port E0
alone (R329). -/
def State.mgmtAt (s : State) (p sub : Nat) : Bool :=
  s.mgmtIp != 0 && (if s.recovery then p == 0 else s.isSender && s.portHas p sub && bitOf (s.reg (Reg.ING_PORT_CFG p)) (8 + sub))

/-- A PTP packet: UDP port 319 or 320 (Table 4.1), and its messageType. -/
def ptpFrame (f : FrameView) : Bool := f.proto == 17 && (f.dport == 319 || f.dport == 320)
def ptpType (f : FrameView) : Nat := byteAt f.udp 0 % 16

/-- A PTP message a follower takes: Sync, Follow_Up, Delay_Resp, Announce; and one of an excluded option of Table 9.1: the peer delay
messages and management (messageType values PRESUMED from the named standard, log entry 86). -/
def ptpTaken (f : FrameView) : Bool := [0, 8, 9, 0xB].contains (ptpType f)
def ptpExcludedType (f : FrameView) : Bool := [2, 3, 0xA, 0xD].contains (ptpType f)

/-- Control traffic of Table 4.1. -/
def State.controlFrame (s : State) (f : FrameView) : Bool :=
  let ip := s.mgmtIp
  f.kind == 1 ||
    (f.kind == 2 && !f.fragment &&
      (ptpFrame f ||
        (f.proto == 17 && f.ipDst == ip && f.dport == fieldOf (s.reg Reg.ING_MGMT_CFG) 0 16) ||
        (f.icmpEcho && f.ipDst == ip)))

/-- Test 1: the destination is the port's own, broadcast ARP or a joined multicast group (PTP's, an enabled stream's). -/
def State.addressOk (s : State) (p sub : Nat) (f : FrameView) : Bool :=
  f.dst == Config.portMac p sub || (f.kind == 1 && f.dst == 0xFFFFFFFFFFFF) ||
    f.dst == groupMac 0xE0000181 || f.dst == groupMac 0xE000006B ||
    (List.range 16).any (fun str => s.streamOn str && s.streamAt str p sub &&
      decide ((s.reg (Reg.ING_STR_DST str)).toNat / 2 ^ 28 = 14) && f.dst == groupMac (s.reg (Reg.ING_STR_DST str)).toNat)

/-- Test 3: whether a frame matches a stream; a fragment is matched by its addresses alone, as it need carry no UDP header. -/
def State.matchesStream (s : State) (p sub : Nat) (f : FrameView) (str : Nat) : Bool :=
  let c := s.reg (Reg.ING_STR_CTRL str)
  let src := (s.reg (Reg.ING_STR_SRC str)).toNat
  s.streamOn str && s.streamAt str p sub && f.kind == 2 && f.ipDst == (s.reg (Reg.ING_STR_DST str)).toNat &&
    (src == 0 || src == f.ipSrc) &&
    (match f.vlan with
     | none => !bitOf c 15
     | some v => bitOf c 15 && v == fieldOf c 16 12) &&
    (f.fragment || (f.proto == 17 && f.dport == fieldOf (s.reg (Reg.ING_STR_PORTS str)) 0 16 &&
      rtpSsrc f.udp == (s.reg (Reg.ING_STR_SSRC str)).toNat))

/-- The target surface of a -20 packet of a timestamp: the one being filled, or for a later picture the one that will be filled once it
is; none for a picture that is discarded. -/
def State.packetTarget (s : State) (str rtp : Nat) : Option Surface :=
  match (s.stream str).fill with
  | some f => (if seqBefore f.rtp rtp then s.ringFreeBut str f.target else f.target).bind (fun h => s.surface? h)
  | none => (s.ringFree str).bind (fun h => s.surface? h)

/-- ST 2110-20 beyond Table 4.1: rows or pixels outside 7680 × 4320, or a picture less than 1/120 s of the 90 kHz clock after the one before. -/
def State.rowsExcluded (s : State) (str : Nat) (p : List Byte) (hs : List RowHeader) : Bool :=
  hs.any (fun h => decide (4320 ≤ h.row) || decide (7680 ≤ h.offset)) ||
    (s.stream str).lastRtp.any (fun r => seqBefore r (rtpTime p) && decide (seqSub (rtpTime p) r < 750))

/-- Test 4: fragment, checksum, RTP version, payload type, excluded options, rows outside the target surface. -/
def State.formatBad (s : State) (str : Nat) (f : FrameView) : Bool :=
  let ports := s.reg (Reg.ING_STR_PORTS str)
  let body := rtpPayload f.udp
  f.fragment || !f.sumOk || decide (rtpVersion f.udp ≠ 2) || (bitOf ports 23 && rtpType f.udp != fieldOf ports 16 7) ||
    (if s.streamFormat str = 0 then
      let (hs, data) := rowHeaders 3 (body.drop 2)
      s.rowsExcluded str f.udp hs || (s.packetTarget str (rtpTime f.udp)).any (fun v => !rowsInside v hs data ||
        hs.any (fun h => decide (7680 < h.offset + segmentPixels v.fmt (depthBits v.depth) h.len)))
     else s.streamFormat str == 2 && byteAt body 0 / 2 % 64 == 50)

/-- The bucket of a stream at an instant (test 5): RATE_MBPS × 1.05 fill, in units of 1/(20,000 × 65,536) bit. -/
def State.bucketAt (s : State) (str t : Nat) : Nat :=
  let x := s.stream str
  Nat.min (s.bucketDepth str) (x.tokens + (t - x.tokensAt) * fieldOf (s.reg (Reg.ING_STR_RATE str)) 0 20 * 21)

/-- Enabled streams on a port. -/
def State.streamsOnPort (s : State) (p : Nat) : Nat :=
  ((List.range 16).filter (fun str => s.streamOn str && (List.range 4).any (fun sub => s.streamAt str p sub))).length

/-- Bytes of a stream held in a port's buffer. -/
def heldBytes (x : StreamSt) (p : Nat) : Nat := ((x.held.filter (fun h => h.port == p)).map (·.payload.length)).sum

/-- The extended sequence number of a packet: carried in a -20 payload, else the one nearest to the last known. -/
def extendedSeq (x : StreamSt) (fmt : Nat) (p : List Byte) : Nat :=
  let lo := rtpSeq p
  if fmt = 0 then beNat (slice (rtpPayload p) 0 2) * 65536 + lo
  else
    match x.nextSeq with
    | none => lo
    | some n =>
      let d := (lo + 65536 - n % 65536) % 65536
      if d < 32768 then (n + d) % 2 ^ 32 else (n + d + 2 ^ 32 - 65536) % 2 ^ 32

/-- Count a dropped frame against its cause (Table 4.2). -/
def State.dropFrame (s : State) (c : Nat) : State := s.bump (Reg.ING_DROP c) 1

/-! ### Agreement with the other sender (R74, R75) -/

/-- Learn of a sequence number of a stream. -/
def learn (x : StreamSt) (q t : Nat) : StreamSt :=
  { x with nextSeq := some (x.nextSeq.getD q),
           learned := if x.learned.any (fun p => p.1 == q) then x.learned else x.learned ++ [(q, t)] }

/-- Settle the lowest sequence number of a stream. -/
def settleNext (x : StreamSt) (q : Nat) : StreamSt :=
  { x with nextSeq := some (seqNext q), learned := x.learned.filter (fun p => !seqBefore p.1 (seqNext q)),
           held := x.held.filter (fun h => h.seq != q), asked := x.asked.filter (fun a => a.1 != q),
           digests := x.digests.filter (fun d => !seqBefore d.1 (seqNext q)) }

/-- Write a settled packet and keep it for a REQUEST for 1 ms. -/
def State.settlePresent (s : State) (str : Nat) (p : HeldPacket) (t : Nat) : State :=
  let s1 := s.modStream str (fun x => let y := settleNext x p.seq
    { y with kept := y.kept.filter (fun k => decide (t < k.stamp + msT)) ++ [p] })
  s1.writePacket str p t

/-- A packet settled MISSING is absent (R71, R74). -/
def State.settleAbsent (s : State) (str q : Nat) : State :=
  (s.modStream str (fun x => settleNext x q)).bump Reg.ING_LS_MISSING 1

/-- The leader issues verdicts in sequence order while it holds the next packet (R74). -/
def State.leadVerdicts (s : State) (str t : Nat) : Nat → State
  | 0 => s
  | n + 1 =>
    let x := s.stream str
    match x.nextSeq.bind (fun q => x.held.find? (fun h => h.seq == q)) with
    | none => s
    | some p =>
      ((s.sendLink (.verdict str p.seq true (crc32c p.payload))).settlePresent str p t).leadVerdicts str t n

/-- The follower carries out verdicts and table changes in order: its copy is written only if it matches the digest, else the leader's is
requested (R74, R76). -/
def State.followVerdicts (s : State) (str t : Nat) : Nat → State
  | 0 => s
  | n + 1 =>
    let x := s.stream str
    match x.verdicts with
    | [] => s
    | .table a d :: rest =>
      ((s.modStream str (fun x => { x with verdicts := rest })).copyStreamReg a d).followVerdicts str t n
    | .verdict q hasCopy crc :: rest =>
      if !hasCopy then
        ((s.modStream str (fun x => { x with verdicts := rest })).settleAbsent str q).followVerdicts str t n
      else
        match x.held.find? (fun h => h.seq == q) with
        | some p =>
          if crc32c p.payload = crc then
            ((s.modStream str (fun x => { x with verdicts := rest })).settlePresent str p t).followVerdicts str t n
          else
            ((s.modStream str (fun x => { x with held := x.held.filter (fun h => h.seq != q), asked := (q, t) :: x.asked })).bump
              Reg.ING_LS_MISMATCH 1).sendLink (.request str q)
        | none =>
          if x.asked.any (fun a => a.1 == q) then s
          else (s.modStream str (fun x => { x with asked := (q, t) :: x.asked })).sendLink (.request str q)

/-- Bring the verdicts of a stream up to date on this sender's side. -/
def State.runVerdicts (s : State) (str t : Nat) : State :=
  let x := s.stream str
  if s.leads then s.leadVerdicts str t (x.held.length + 1) else s.followVerdicts str t (x.verdicts.length + 1)

/-- ING_LS_STAT: the forwarding load of the last 1 ms in % of 108 Gbit/s. -/
def State.noteForward (s : State) (bits t : Nat) : State :=
  let log := s.ing.fwdLog.filter (fun p => decide (t < p.1 + msT)) ++ [(t, bits)]
  let load := satTo 255 ((log.map (·.2)).sum * 100 / 108000000)
  let s1 := { s with ing := { s.ing with fwdLog := log } }
  s1.setReg Reg.ING_LS_STAT (putField (s1.reg Reg.ING_LS_STAT) 8 8 load)

/-- Instant by which the forwarding share of 108 Gbit/s has carried `bits` more (R75). -/
def State.shareDone (s : State) (bits t : Nat) : Nat := Nat.max t s.ing.fwdUntil + ceilDiv (bits * nsT) 108

/-- Take the forwarding share for `bits`, by age. -/
def State.takeShare (s : State) (bits t : Nat) : State :=
  ({ s with ing := { s.ing with fwdUntil := s.shareDone bits t } } : State).noteForward bits t

/-- Forward a packet to the other sender; one the 108 Gbit/s share cannot carry within 8 µs is not queued (R75). -/
def State.forwardPacket (s : State) (str : Nat) (p : HeldPacket) (t : Nat) : State :=
  let bits := (p.payload.length + 16) * 8
  if !s.agreed ∨ t + 8 * usT < s.shareDone bits t then s
  else (((s.takeShare bits t).bump Reg.ING_LS_FWD 1)).sendLink (.packet str p.seq p.payload)

/-- The lowest sequence number of a list. -/
def firstSeqOf (l : List HeldPacket) : Option Nat :=
  l.foldl (fun m h => match m with | none => some h.seq | some q => if seqBefore h.seq q then some h.seq else some q) none

/-- Without the pair's agreement a sender writes what it holds in sequence order; 4 µs after a packet's arrival those missing before it are
absent (R71, R72; log entry 96). -/
def State.writeInOrder (s : State) (str t : Nat) : Nat → State
  | 0 => s
  | n + 1 =>
    let x := s.stream str
    match x.nextSeq.bind (fun q => x.held.find? (fun h => h.seq == q)) with
    | some p => (s.settlePresent str p t).writeInOrder str t n
    | none =>
      match x.held.any (fun h => decide (h.stamp + 4 * usT ≤ t)), firstSeqOf x.held with
      | true, some q => (s.modStream str (fun x => { x with nextSeq := some q })).writeInOrder str t n
      | _, _ => s

/-- Bring an unpaired stream's writes up to date. -/
def State.runUnpaired (s : State) (str t : Nat) : State := s.writeInOrder str t (2 * (s.stream str).held.length + 1)

/-- A table change that waits for verdicts that will not come acts. -/
def Settle.apply (s : State) : Settle → State
  | .table a d => s.copyStreamReg a d
  | .verdict _ _ _ => s

/-- The pair's agreement on packets ends: what a stream holds is settled as an unpaired sender settles it (R72), waiting table changes act
(R76), and decoded pictures that wait for an opening are promoted (R89). -/
def State.endAgreement (s : State) : State :=
  let drain (s : State) (str : Nat) : State :=
    if !s.streamOn str ∧ (s.stream str).verdicts = [] then s
    else
      let v := (s.stream str).verdicts
      let s1 := s.modStream str (fun x => { x with verdicts := [], asked := [], digests := [], learned := [] })
      (v.foldl Settle.apply s1).runUnpaired str s.now
  ((List.range 16).foldl drain s).promoteAll

/-- A stream packet that passed tests 0 to 7: held for a verdict while the pair agrees, else written in sequence order (R71, R72, R74). -/
def State.acceptPacket (s : State) (str : Nat) (p : HeldPacket) (t : Nat) : State :=
  let s1 := s.modStream str (fun x => let y := learn x p.seq t
    { y with held := y.held ++ [{ p with answered := x.digests.any (fun d => d.1 == p.seq) }] })
  if s.agreed then
    (s1.sendLink (.digest str p.seq (crc32c p.payload) (p.stamp / nsT % 2 ^ 48))).runVerdicts str t
  else (s1.modStream str (fun x => { x with learned := [] })).runUnpaired str t

/-- A frame longer than the 9,600 bytes R67 accepts, its FCS included; Table 4.2 has no cause of its own for it, and it counts as FORMAT
(DESIGN CHOICE, log entry 98). -/
def oversize (f : EthFrame) : Bool := decide (9600 < f.bytes.length + 4)

/-- A control frame that passed tests 0 to 2: dropped as FORMAT for its length or a bad UDP checksum (R67, R68), a PTP message of an excluded
option discarded and counted at a PTP port (R169), one that concerns no follower taken without effect, else kept for its endpoint. -/
def State.acceptControl (s : State) (f : EthFrame) (v : FrameView) : State :=
  if oversize f || (v.kind == 2 && v.proto == 17 && !v.sumOk) then s.dropFrame 4
  else if ptpFrame v && !ptpTaken v then
    if ptpExcludedType v && bitOf (s.reg Reg.TIM_PTP_CFG) (16 + 4 * f.port + f.sub) then s.bump Reg.TIM_PTP_DISCARD 1 else s
  else { s with ing := { s.ing with ctrl := s.ing.ctrl ++ [(f.port, f.bytes.length)] } }

/-- A received frame passes the tests of Table 4.2 in order and is dispatched, or is dropped and counted (R69). -/
def execEthernetFrameRx (f : EthFrame) (s : State) : Host.Outcome State Fault Refusal :=
  let s1 := s.tick f.t
  let v := viewFrame f.bytes
  if !s.isSender ∨ !s.portHas f.port f.sub then .next s1
  else if !f.fcsOk then .next (s1.dropFrame 0)
  else if !s.addressOk f.port f.sub v then .next (s1.dropFrame 1)
  else if s.controlFrame v then
    if 65536 < ((s.ing.ctrl.filter (fun c => c.1 == f.port)).map (·.2)).sum + f.bytes.length then .next (s1.dropFrame 2)
    else .next (s1.acceptControl f v)
  else
    match (List.range 16).find? (s.matchesStream f.port f.sub v) with
    | none => .next (s1.dropFrame 3)
    | some str =>
      let x := s.stream str
      let need := v.udp.length * 8 * 20000 * 65536
      let have' := s.bucketAt str f.t
      if oversize f || s.formatBad str v then .next (s1.dropFrame 4)
      else if have' < need then
        .next ((s1.setStream { x with tokens := have', tokensAt := f.t }).dropFrame 5)
      else
        let y := { x with tokens := have' - need, tokensAt := f.t }
        let s2 := s1.setStream y
        let q := extendedSeq x (s.streamFormat str) v.udp
        if 2097152 / s.streamsOnPort f.port < heldBytes x f.port + v.udp.length then .next (s2.dropFrame 6)
        else if settledSeq x q || x.held.any (fun h => h.seq == q) then .next (s2.dropFrame 7)
        else .next (s2.acceptPacket str { seq := q, stamp := f.t, payload := v.udp, port := f.port, answered := false } f.t)

/-- The oldest control frame of a port leaves its buffer. -/
def dropFirst (p : Nat) : List (Nat × Nat) → List (Nat × Nat)
  | [] => []
  | c :: cs => if c.1 = p then cs else c :: dropFirst p cs
def State.takeControl (s : State) (p : Nat) : State := { s with ing := { s.ing with ctrl := dropFirst p s.ing.ctrl } }

/-- The other sender's digest of a packet has come, or the packet has gone out unasked. -/
def answer (q : Nat) (l : List HeldPacket) : List HeldPacket := l.map (fun h => if h.seq = q then { h with answered := true } else h)

/-- A digest of the other sender (R74); that of a packet already settled only says that its copy need not be forwarded. -/
def execDigest (d : DigestRec) (s : State) : Host.Outcome State Fault Refusal :=
  let s1 := s.tick d.t
  if !s.agreed ∨ !s.streamOn d.stream then .next s1
  else
    let seen (x : StreamSt) : StreamSt := { x with held := answer d.seq x.held, kept := answer d.seq x.kept }
    if settledSeq (s.stream d.stream) d.seq then .next (s1.modStream d.stream seen)
    else .next (s1.modStream d.stream (fun x => let y := learn (seen x) d.seq d.t
      { y with digests := y.digests ++ [(d.seq, d.crc)] }))

/-- A verdict joins those to carry out; a MISSING takes the place of the HAVE it withdraws (R75). -/
def addVerdict (q : Nat) (hasCopy : Bool) (crc : Nat) (l : List Settle) : List Settle :=
  let same : Settle → Bool
    | .verdict k h _ => k == q && h && !hasCopy
    | .table _ _ => false
  if l.any same then l.map (fun x => if same x then .verdict q false crc else x) else l ++ [.verdict q hasCopy crc]

/-- A verdict of the leader (R74). -/
def execVerdict (v : VerdictRec) (s : State) : Host.Outcome State Fault Refusal :=
  let s1 := s.tick v.t
  if !s.follows ∨ !s.streamOn v.stream then .next s1
  else .next ((s1.modStream v.stream (fun x => { x with verdicts := addVerdict v.seq v.hasCopy v.crc x.verdicts })).runVerdicts
    v.stream v.t)

/-- A forwarded packet is taken over the link and held like an own one (R74). -/
def execPacket (r : PacketRec) (s : State) : Host.Outcome State Fault Refusal :=
  let s1 := s.tick r.t
  let x := s.stream r.stream
  if !s.agreed ∨ !s.streamOn r.stream ∨ settledSeq x r.seq ∨ x.held.any (fun h => h.seq == r.seq) then .next s1
  else
    let p : HeldPacket := { seq := r.seq, stamp := r.t, payload := r.payload, port := 4, answered := true }
    .next ((s1.modStream r.stream (fun x => let y := learn x r.seq r.t
      { y with held := y.held ++ [p], asked := y.asked.filter (fun a => a.1 != r.seq) })).runVerdicts r.stream r.t)

/-- The picture in progress without one of its packets. -/
def Fill.without (v : Option Surface) (p : HeldPacket) (f : Fill) : Fill :=
  match v with
  | some v =>
    let l := (rowWrites v p.payload).2
    { f with present := f.present - 1, regions := f.regions.filter (fun r => !l.contains r),
             raw := f.raw.filter (fun r => !regionCovers l (lumaColumn v r.1.1 r.1.2.1) r.1.2.2) }
  | none => { f with present := f.present - 1, packets := f.packets.erase p.payload, bytes := f.bytes - (rtpPayload p.payload).length }

/-- The leader withdraws a packet that the link cannot carry to the follower in time: MISSING at both, and absent from the picture in
progress (R75; one whose picture has ended stays in it: log entry 104). -/
def State.withdraw (s : State) (str : Nat) (p : HeldPacket) : State :=
  let drop (x : StreamSt) : StreamSt :=
    let v (f : Fill) : Option Surface := if s.streamFormat str = 0 then f.target.bind (fun h => s.surface? h) else none
    { x with kept := x.kept.filter (fun h => h.seq != p.seq),
             fill := x.fill.map (fun f => if f.rtp = rtpTime p.payload then f.without (v f) p else f) }
  ((s.modStream str drop).bump Reg.ING_LS_MISSING 1).sendLink (.verdict str p.seq false 0)

/-- A request of the other sender: the packet is forwarded if it is held or kept and the link can carry it in time (R74, R75). -/
def execRequest (stream seq t : Nat) (s : State) : Host.Outcome State Fault Refusal :=
  let s1 := s.tick t
  let x := s.stream stream
  match (x.held ++ x.kept).find? (fun h => h.seq == seq) with
  | none => .next s1
  | some p =>
    if s1.leads ∧ t + 8 * usT < s1.shareDone ((p.payload.length + 16) * 8) t ∧ x.kept.contains p then .next (s1.withdraw stream p)
    else .next (s1.forwardPacket stream p t)

/-- A REQUEST unanswered for 4 µs is sent again (Table 16.1). -/
def execRequestRepeat (stream seq t : Nat) (s : State) : Host.Outcome State Fault Refusal :=
  let s1 := s.tick t
  match (s.stream stream).asked.find? (fun a => a.1 == seq) with
  | none => .next s1
  | some a =>
    if t < a.2 + 4 * usT then .next s1
    else
      let again (x : StreamSt) : StreamSt := { x with asked := x.asked.map (fun b => if b.1 = seq then (seq, t) else b) }
      .next ((s1.modStream stream again).sendLink (.request stream seq))

/-- 2 µs after a sender's own digest without the other's, the packet is forwarded unasked, once (R74). -/
def execForwardUnasked (stream seq t : Nat) (s : State) : Host.Outcome State Fault Refusal :=
  let s1 := s.tick t
  let x := s.stream stream
  match (x.held ++ x.kept).find? (fun h => h.seq == seq && h.port != 4) with
  | none => .next s1
  | some p =>
    if !s.agreed ∨ p.answered ∨ t < p.stamp + 2 * usT then .next s1
    else
      .next ((s1.modStream stream (fun x => { x with held := answer seq x.held, kept := answer seq x.kept })).forwardPacket stream p t)

/-- The leader holds no copy 8 µs after it learnt of a higher sequence number: MISSING (R74). An unpaired sender writes what has waited its
4 µs for a packet that is absent (R72). -/
def execMissing (stream t : Nat) (s : State) : Host.Outcome State Fault Refusal :=
  let s1 := s.tick t
  let x := s.stream stream
  if !s.agreed then .next (s1.runUnpaired stream t)
  else
  match x.nextSeq with
  | none => .next s1
  | some q =>
    if s.leads ∧ !(x.held.any (fun h => h.seq == q)) ∧ x.learned.any (fun p => seqBefore q p.1 && decide (p.2 + 8 * usT ≤ t)) then
      .next (((s1.sendLink (.verdict stream q false 0)).settleAbsent stream q).runVerdicts stream t)
    else .next s1

/-! ### BAR2 (R78, R108, R111) -/

/-- A BAR2 write at the leader goes to the follower by age within the forwarding share of the link, after what has taken it (R111); there it
is applied when the share has carried it. -/
def State.carryWrite (s : State) (addr : Nat) (data : List Byte) (t : Nat) : State :=
  let bits := (data.length + 16) * 8
  let s1 := (s.takeShare bits t).sendLink (.config (.memory addr data))
  { s1 with ing := { s1.ing with barUntil := s.shareDone bits t } }

/-- A host access through a surface window. -/
def execBar2Access (a : Bar2) (s : State) : Host.Outcome State Fault Refusal :=
  let s1 := s.tick a.t
  let w := s.reg (Reg.ING_WIN a.window)
  let n := if a.write then a.data.length else a.len
  let dropped (s : State) : State := if a.write then s else s.emit (.readData (zeroBytes a.len))
  if !s.isSender then .next (dropped s1)
  else if a.write ∧ s.follows then .next (s1.bump Reg.CMP_MIRROR_DROP 1)
  else
    match s.surface? (fieldOf w 0 16) with
    | none => .next (dropped (s1.bump Reg.ING_WIN_OOR 1))
    | some v =>
      if !bitOf w 17 ∨ v.size < a.offset + n ∨ (a.write ∧ !bitOf w 16) then .next (dropped (s1.bump Reg.ING_WIN_OOR 1))
      else if a.write then
        if v.retiring then .next (s1.bump Reg.ING_WIN_RETIRED 1)
        else
          let s2 := s1.dramWrite (v.base + a.offset) a.data
          .next (if s2.leads then s2.carryWrite (v.base + a.offset) a.data a.t else s2)
      else .next (s1.emit (.readData (s.dramRead (v.base + a.offset) a.len)))

/-! ### ARP and ICMP (R79) -/

/-- An ARP request for the management address is answered. -/
def execArpRequest (port sub target t : Nat) (s : State) : Host.Outcome State Fault Refusal :=
  let s1 := (s.tick t).takeControl port
  if s.mgmtAt port sub ∧ target = s.mgmtIp then .next (s1.emit (.arpReply port sub))
  else .next s1

/-- An ICMP echo to the management address is answered. -/
def execIcmpEcho (port sub target : Nat) (data : List Byte) (t : Nat) (s : State) : Host.Outcome State Fault Refusal :=
  let s1 := (s.tick t).takeControl port
  if s.mgmtAt port sub ∧ target = s.mgmtIp then .next (s1.emit (.icmpReply port sub data))
  else .next s1

end Sys2Proof.Machine
end

