-- ==== Sys2Proof/Machine/MeterCore.lean ====
section
/-! DEFINITION. The metering island as the rest of the chip reaches it: events, records and offers (R331, R337 to R341). -/
namespace Sys2Proof.Machine

/-- Umbra's real-time count in units of 2^-16 ns, on its 40 ns grid (R302). -/
def State.umbraCount (s : State) : Nat := ((s.now : Int) + s.umb.skew).toNat / (40 * nsT) * (40 * nsT)

/-- Close causes in the order of R340. -/
abbrev Cause.TAG : Nat := 0
abbrev Cause.PERIOD : Nat := 1
abbrev Cause.SEAL : Nat := 2
abbrev Cause.MODE : Nat := 3
abbrev Cause.TIME_STEP : Nat := 4
abbrev Cause.FW : Nat := 5
abbrev Cause.SUPPLY : Nat := 6

/-- The time state is no longer LOCKED or HOLDOVER: TIME_VALID of the open record falls (Table 19.4). -/
def MetSt.timeLost (m : MetSt) : MetSt := { m with opened := { m.opened with timeValid := false } }

/-- MODE is ON. -/
def State.meterOn (s : State) : Bool := s.get Reg.MET_CFG ⟨0, 2⟩ == 1

/-- The fuses blown at an event count, and the floor of a number of fuses (R337). -/
def fusesAt (count : Nat) : Nat :=
  if count < 131072 then count / 128 else 1024 + Nat.min 1024 ((count - 131072) / 4096)
def fuseFloor (n : Nat) : Nat := 128 * Nat.min n 1024 + 4096 * (n - 1024)

/-- Every counter fuse is blown. -/
def State.floorFull (s : State) : Bool := decide (2048 ≤ s.met.fuses)

/-- Seconds (6 bytes) and nanoseconds (4 bytes) of an instant. -/
def timeBytes (t : Nat) : List Byte := leBytes 6 (t / secT) ++ leBytes 4 (t % secT / nsT)

/-- METER_ID (R341). -/
def meterId : List Byte := keyIdentity Config.meterKey

/-- First frame that starts at or after the present instant; all ones while no frame-lock run is in progress (R340). -/
def State.wfnFrom (s : State) : Nat :=
  let st := s.get Reg.FLK_STATE Fld.FLK_STATE_STATE
  if st ≠ 3 ∧ st ≠ 4 then 0xFFFFFFFFFFFF
  else match s.timeline? with
    | none => 0xFFFFFFFFFFFF
    | some tl => let f := wfnAt tl s.now; if frameStart tl f < s.now then f + 1 else f

/-- An event of Table 19.3: the counter rises, a due fuse is blown, and a signed entry waits for the flash (R337). -/
def State.meterEvent (s : State) (code : Nat) (data : List Byte) : State :=
  let n := s.met.eventCount + 1
  let body := [0x44, 0x4E, 0x4D, 0x45] ++ leBytes 2 1 ++ leBytes 2 code ++ leBytes 4 n ++ meterId ++ timeBytes s.umbraCount ++
    (data ++ zeroBytes (16 - data.length)) ++ zeroBytes 74
  let page : MetPage := { event := true, number := n, closed := s.umbraCount, causes := 0, body := body }
  { s with met := { s.met with eventCount := n, fuses := Nat.max s.met.fuses (fusesAt n), toWrite := s.met.toWrite ++ [page] } }

/-- FLAGS of a record without the cause mask (Table 19.4). -/
def State.recordFlags (s : State) (o : MetOpen) : Nat :=
  flag o.timeValid + 2 * flag o.sealOpen + 4 * flag o.energyGap + 8 * flag o.lightGap + 16 * flag o.lampOff + 32 * flag s.floorFull

/-- Bytes 0 to 0x7F of the record of an open interval that closes now, its cause mask 0 (Table 19.4). -/
def State.recordBody (s : State) (o : MetOpen) : List Byte :=
  [0x44, 0x4E, 0x50, 0x44] ++ leBytes 2 1 ++ leBytes 2 (s.recordFlags o) ++ leBytes 4 s.met.nextSeq ++ leBytes 4 s.met.eventCount ++
    meterId ++ o.tag ++ timeBytes o.start ++ zeroBytes 2 ++ timeBytes s.umbraCount ++ zeroBytes 2 ++
    leBytes 6 o.wfnStart ++ zeroBytes 2 ++ leBytes 6 s.wfnFrom ++ zeroBytes 2 ++ leBytes 8 (s.met.energy - o.energy0) ++
    (List.range 4).flatMap (fun e => leBytes 8 (o.light.getD e 0))

/-- A new record opens now. -/
def State.meterOpen (s : State) (tag : List Byte) : State :=
  let ts := s.get Reg.TIM_STATE Fld.TIM_STATE_STATE
  { s with met := { s.met with
      opened := { tag := tag, start := s.umbraCount, wfnStart := s.wfnFrom, energy0 := s.met.energy, light := [0, 0, 0, 0],
                  timeValid := ts == 2 || ts == 3, sealOpen := !s.met.sealed, energyGap := s.met.senseFault != 0,
                  lightGap := false, lampOff := s.lmp.pwrAt.isNone } } }

/-- The record that closed at this very instant, if one did: it takes a further cause. -/
def addCause (now cause : Nat) : List MetPage → Option (List MetPage)
  | [] => none
  | p :: ps =>
    match addCause now cause ps with
    | some qs => some (p :: qs)
    | none => if !p.event && p.closed == now then some ({ p with causes := p.causes ||| 2 ^ cause } :: ps) else none

/-- The open record closes with a cause, and a new one opens with a tag; causes of one instant close one record (R340). With MODE
OFF none closes, and the interval goes on under the tag (R335). -/
def State.meterClose (s : State) (cause : Nat) (tag : List Byte) (on : Bool) : State :=
  if !on then { s with met := { s.met with opened := { s.met.opened with tag := tag, sealOpen := s.met.opened.sealOpen || !s.met.sealed } } }
  else
    let again := if s.met.opened.start = s.umbraCount then addCause s.umbraCount cause s.met.toWrite else none
    match again with
    | some ps => { s with met := { s.met with toWrite := ps, opened := { s.met.opened with tag := tag } } }
    | none =>
      let page : MetPage := { event := false, number := s.met.nextSeq, closed := s.umbraCount, causes := 2 ^ cause,
                              body := s.recordBody s.met.opened }
      { s with met := { s.met with toWrite := s.met.toWrite ++ [page], nextSeq := s.met.nextSeq + 1 } }.meterOpen tag

/-- A time step, seen as a change of EPOCH: TIME_SET, and the record closes (R337, R340). -/
def State.meterStep (s : State) (before after : Nat) (size : Int) : State :=
  if !s.met.powered then s
  else
    let ns := size / (nsT : Int)
    let s1 := s.meterEvent 6 (leBytes 4 before ++ leBytes 4 after ++ leBytes 8 (codeOf 64 ns))
    { s1 with met := { s1.met with epoch := after } }.meterClose Cause.TIME_STEP s1.met.opened.tag s1.meterOn

/-- Tags that take effect at W(f) close the open record (R338). -/
def State.meterFrame (s : State) (f : Nat) : State :=
  let due := s.met.tags.filter (fun x => decide (x.1 ≤ f))
  match due.getLast? with
  | none => s
  | some x =>
    if !s.met.powered then s
    else { s with met := { s.met with tags := s.met.tags.filter (fun y => decide (f < y.1)) } }.meterClose Cause.TAG x.2 s.meterOn

/-- A picture is latched: its offer is due, and that of the one before it is missing if it never came while LAMP_PWR_EN is high
(R339). -/
def State.offerLatch (s : State) : State :=
  let gap := s.met.offerDue && s.lmp.pwrAt.isSome && s.met.powered
  { s with met := { s.met with offerDue := true, opened := { s.met.opened with lightGap := s.met.opened.lightGap || gap } } }

end Sys2Proof.Machine
end

