-- ==== Sys2Proof/Machine/Rebase.lean ====
section
/-! DEFINITION. A jump of wall time (R173, R176, R178): the state holds the start of each running interval as an instant of wall
time, and a jump moves those instants with it, so that no interval is lengthened or cut (log entry 53). Instants that are wall
times of their own, such as frame starts and pulse edges, stay. -/
namespace Sys2Proof.Machine

/-- An instant of the old time in the new one. -/
def rebased (old new t : Nat) : Nat := t + new - old

def SchSt.rebase (m : Nat → Nat) (x : SchSt) : SchSt :=
  let op (r : OpRun) : OpRun :=
    { r with zeroAt := m r.zeroAt, status := match r.status with | .issued t => .issued (m t) | other => other }
  { x with instances := x.instances.map (fun i => { i with ops := i.ops.map op }),
           pauses := x.pauses.map (fun p => { p with starts := m p.starts, ends := m p.ends, windowEnds := m p.windowEnds }),
           frameAt := m x.frameAt, traceAt := x.traceAt.map m,
           chunks := x.chunks.map (fun c => { c with starts := m c.starts, ends := m c.ends, windowEnds := m c.windowEnds }) }

def IngSt.rebase (m : Nat → Nat) (x : IngSt) : IngSt :=
  let packet (h : HeldPacket) : HeldPacket := { h with stamp := m h.stamp }
  let stream (y : StreamSt) : StreamSt :=
    { y with tokensAt := m y.tokensAt, held := y.held.map packet, kept := y.kept.map packet,
             learned := y.learned.map (fun p => (p.1, m p.2)), asked := y.asked.map (fun p => (p.1, m p.2)) }
  { x with streams := x.streams.map stream, sessions := x.sessions.map (fun k => { k with lastAt := m k.lastAt }),
           fwdUntil := m x.fwdUntil, barUntil := m x.barUntil, fwdLog := x.fwdLog.map (fun p => (m p.1, p.2)) }

def CdcSt.rebase (m : Nat → Nat) (x : CdcSt) : CdcSt :=
  let pic (p : CodedPic) : CodedPic := { p with readyAt := m p.readyAt }
  { x with coded := x.coded.map pic, decoding := x.decoding.map (fun d => { d with pic := pic d.pic, deadline := m d.deadline }),
           written := x.written.map (fun w => { w with t := m w.t }), lastDone := x.lastDone.map (fun p => (p.1, m p.2)),
           hrdAt := m x.hrdAt, retNext := m x.retNext, ret := x.ret.map (fun r => { r with lastStart := m r.lastStart }) }

def CcxSt.rebase (m : Nat → Nat) (x : CcxSt) : CcxSt :=
  { x with refresh := x.refresh.map (fun j => { j with ready := m j.ready }), rx := x.rx.map (fun r => { r with t := m r.t }),
           decoded := x.decoded.map (fun d => { d with t := m d.t }), asks := x.asks.map (fun a => { a with sentAt := m a.sentAt }) }

def ChnSt.rebase (m : Nat → Nat) (x : ChnSt) : ChnSt :=
  { x with last := x.last.map (fun l => { l with t := m l.t }), departed := x.departed.map (fun d => (d.1, d.2.1, m d.2.2)),
           timeOwed := x.timeOwed.map (fun d => (d.1, d.2.1, m d.2.2)),
           timeRows := x.timeRows.map (fun r => (r.1, r.2.1, m r.2.2.1, r.2.2.2)), bringUp := x.bringUp.map (fun p => (p.1, m p.2)),
           eastAt := m x.eastAt, holdoverAt := x.holdoverAt.map (fun p => (p.1, m p.2)),
           ports := x.ports.map (fun p => { p with upAt := p.upAt.map m }) }

def RedSt.rebase (m : Nat → Nat) (x : RedSt) : RedSt :=
  { x with health := x.health.map (fun h => { h with t := m h.t }), badAt := x.badAt.map (fun p => (p.1, m p.2)), stateAt := m x.stateAt,
           hello := x.hello.map (fun h => { h with t := m h.t }), runAt := m x.runAt, ringAt := x.ringAt.map m,
           standbyUntil := m x.standbyUntil, holdoffUntil := x.holdoffUntil.map m, joinAt := x.joinAt.map m,
           failedAt := x.failedAt.map m }

def TimSt.rebase (m : Nat → Nat) (x : TimSt) : TimSt :=
  { x with masters := x.masters.map (fun k => { k with lastAt := m k.lastAt }), eAt := m x.eAt, timeAt := m x.timeAt, holdoverAt := m x.holdoverAt,
           lastEdge := x.lastEdge.map (fun p => (p.1, m p.2)) }

def DrcSt.rebase (m : Nat → Nat) (x : DrcSt) : DrcSt :=
  { x with ports := x.ports.map (fun p => { p with lastGrant := p.lastGrant.map m, head := p.head.map (fun h => { h with t := m h.t }) }),
           rows := x.rows.map (fun r => { r with lastAt := m r.lastAt }),
           chans := x.chans.map (fun c => { c with idleSince := m c.idleSince, trackDue := m c.trackDue, srCommit := c.srCommit.map m }) }

def ThmSt.rebase (m : Nat → Nat) (x : ThmSt) : ThmSt :=
  { x with chans := x.chans.map (fun c => { c with history := c.history.map (fun h => (m h.1, h.2)) }), fallSince := x.fallSince.map m,
           guards := x.guards.map (fun g => { g with history := g.history.map (fun h => (m h.1, h.2)) }),
           pairs := x.pairs.map (fun p => { p with belowSince := p.belowSince.map m }), coolSince := x.coolSince.map m }

def LmpSt.rebase (m : Nat → Nat) (x : LmpSt) : LmpSt :=
  { x with pwrAt := x.pwrAt.map m, pgAt := x.pgAt.map m, clearedAt := m x.clearedAt,
           write := x.write.map (fun w => { w with endsAt := m w.endsAt }) }

def TruSt.rebase (m : Nat → Nat) (x : TruSt) : TruSt :=
  { x with sessions := x.sessions.map (fun k => { k with lastAt := m k.lastAt }), runSince := m x.runSince }

def UmbSt.rebase (m : Nat → Nat) (x : UmbSt) : UmbSt :=
  { x with reqAt := m x.reqAt, corePg := x.corePg.map m, retryAt := x.retryAt.map m, powerOnAt := m x.powerOnAt, stopAt := x.stopAt.map m,
           pfAbove := x.pfAbove.map m }

/-- The held state lasts through a jump of wall time: the frames it names keep their distance from the present one (R193, log entry 82). -/
def FlkSt.rebase (m g : Nat → Nat) (x : FlkSt) : FlkSt :=
  { x with heldFrom := x.heldFrom.map g, heldTo := x.heldTo.map g, ahead := x.ahead.map (fun h => (g h.1, h.2.map g)),
           holdSends := x.holdSends.map (fun h => { h with t := m h.t, wfn := g h.wfn }) }

/-- The frame of the new time as far from its present frame as `f` was in the old time. -/
def State.reframed (s : State) (old new f : Nat) : Nat :=
  match s.gen.running with
  | none => f
  | some im => f + wfnAt im.timeline new - wfnAt im.timeline old

/-- Wall time has jumped from `old` to `new`. -/
def State.rebase (s : State) (old new : Nat) : State :=
  let m := rebased old new
  { s with gen := { s.gen with bootAt := m s.gen.bootAt }, sch := s.sch.rebase m,
           cmd := { s.cmd with relays := s.cmd.relays.map (fun r => { r with sentAt := r.sentAt.map m }) },
           cmp := { s.cmp with still := s.cmp.still.map (fun x => { x with lastAt := m x.lastAt }), goAfter := m s.cmp.goAfter },
           ing := s.ing.rebase m, cdc := s.cdc.rebase m, ccx := s.ccx.rebase m, chn := s.chn.rebase m, red := s.red.rebase m,
           tim := s.tim.rebase m, flk := s.flk.rebase m (s.reframed old new),
           drc := s.drc.rebase m, thm := s.thm.rebase m, lmp := s.lmp.rebase m,
           emc := { s.emc with finished := s.emc.finished.map (fun f => (f.1, m f.2)) },
           cal := { s.cal with codes := s.cal.codes.map (fun t => { t with steppedAt := t.steppedAt.map m }) },
           tru := s.tru.rebase m, umb := s.umb.rebase m }

end Sys2Proof.Machine
end

