-- ==== Sys2Proof/Machine/Time.lean ====
section
/-! DEFINITION. Wall time: PTP, the chain's TIME messages, the correction law, steps, holdover, pulse and capture units
(R167 to R182). Offsets are in units of 2^-16 ns; y_f and y_p in units of 2^-40. -/
namespace Sys2Proof.Machine

/-- TIM_STATE.STATE: 0 FREE, 1 ACQUIRING, 2 LOCKED, 3 HOLDOVER, 4 EXPIRED (Table 9.4). -/
def State.timeState (s : State) : Nat := s.get Reg.TIM_STATE Fld.TIM_STATE_STATE

/-- TIME_VALID (R177): a sender in LOCKED or HOLDOVER; a tile so while its shown stream's last good control row said so. -/
def State.timeValid (s : State) : Bool :=
  (s.timeState == 2 || s.timeState == 3) &&
    (!s.isTile || (s.shownPort.bind s.lastCtl?).any (fun l => natBit l.row.flags 4))

/-- FLK_STATE.ALIGNED (R187): at a sender, LOCKED; at a tile, the bit ALIGNED_RISE set, until a condition ends. -/
def State.aligned (s : State) : Bool :=
  s.timeState == 2 && (if s.isTile then s.bit Reg.FLK_STATE Fld.FLK_STATE_ALIGNED else s.isSender)

/-- Enter a time state: leaving LOCKED sets LOCK_LOST and ends ALIGNED; HOLDOVER and EXPIRED slew no phase (Table 9.2). A
sender not LOCKED restarts its take-back hold-off (R294). -/
def State.setTime (s : State) (code : Nat) : State :=
  let old := s.timeState
  if old = code then s
  else
    let s1 := s.put Reg.TIM_STATE Fld.TIM_STATE_STATE code
    let s2 := if old = 2 then (s1.putBit Reg.TIM_STATE Fld.TIM_STATE_LOCK_LOST true).putBit Reg.FLK_STATE Fld.FLK_STATE_ALIGNED false
      else s1
    let s3 := if code = 3 then { s2 with tim := { s2.tim with holdoverAt := s2.now } } else s2
    let s4 := if code = 0 ∨ 3 ≤ code then { s3 with tim := { s3.tim with yp := 0 } } else s3
    { s4 with tim := { s4.tim with good := 0, bad := 0 }, met := if code = 2 ∨ code = 3 then s4.met else s4.met.timeLost }.restartHoldoff

/-! ### The servo (R171, R175) -/

/-- 1 ppm and 100 ppm in units of 2^-40. -/
def ppm1 : Int := 1099511
def ppm100 : Int := 109951162

/-- y_p of an offset (R175). -/
def State.phaseSlew (s : State) (e : Int) : Int :=
  let lim : Int := ((s.param 3 200 * 1099511627776 / 1000000 : Nat) : Int)
  clampInt (-lim) lim (e * 16777216 / 125000000)

/-- The estimate of the proportional-integral filter on e: its gain times e plus the integral of e over 8 s. The spec states no gain
(R175, log entry 22). -/
def frequencyEstimate (e integral : Int) : Int := Config.frequencyGain * (e + integral / (8 * secT : Nat)) / 4294967296

/-- The frequency estimate y_f moves at a sender: at most 1 ppm per second, within 100 ppm (R175). -/
def State.slewFrequency (s : State) (e : Int) (t : Nat) : State :=
  if s.isTile then s
  else
    let dt := ((t - s.tim.eAt : Nat) : Int)
    let acc := s.tim.integral + (if s.tim.started then e * dt else 0)
    let raw := frequencyEstimate e acc
    let step : Int := ppm1 * dt / (secT : Nat)
    let lim := clampInt (s.tim.yf - step) (s.tim.yf + step) raw
    let yf := clampInt (-ppm100) ppm100 lim
    let s2 := { s with tim := { s.tim with yf := yf, integral := acc } }
    (s2.setNum Reg.TIM_FREQ (codeOf 32 yf)).putBit Reg.TIM_STATE Fld.TIM_STATE_FREQ_RANGE (raw < -ppm100 || ppm100 < raw)

/-- A new e: TIM_OFFSET, LARGE_OFFSET, the slews, and the state it brings (R175, R177). `near` and `far` are the lock and loss
thresholds. -/
def State.newOffset (s : State) (e : Int) (t near far : Nat) : State :=
  let s1 := (s.slewFrequency e t).setNum Reg.TIM_OFFSET (codeOf 32 (satSigned 32 (e / 4096)))
  let s2 := s1.putBit Reg.TIM_STATE Fld.TIM_STATE_LARGE_OFFSET (decide (msT < e.natAbs))
  let good := if e.natAbs ≤ near then s2.tim.good + 1 else 0
  let bad := if far < e.natAbs then s2.tim.bad + 1 else 0
  let s3 := { s2 with tim := { s2.tim with e := some e, eAt := t, started := true, good := good, bad := bad,
                                           yp := s2.phaseSlew e } }
  if s3.timeState = 1 ∧ 16 ≤ good ∧ ¬ s3.bit Reg.TIM_STATE Fld.TIM_STATE_FREQ_RANGE then s3.setTime 2
  else if s3.timeState = 2 ∧ 4 ≤ bad then s3.setTime 1
  else s3

/-! ### Steps (R176) -/

/-- FLK_STATE.STATE (Table 10.6). -/
def State.lockState (s : State) : Nat := s.get Reg.FLK_STATE Fld.FLK_STATE_STATE

/-- The mirror of a formed pair, whose own requests the rules of a pair set aside. -/
def State.formedMirror (s : State) : Bool := s.formed && s.isMirror

/-- The time of the stepped clock at a boundary of the old time: STEP_MODE 0 takes time + e, 1 takes TIM_SET. -/
def State.stepTarget (s : State) (boundary : Nat) : Int :=
  if s.bit Reg.TIM_CTRL Fld.TIM_CTRL_STEP_MODE then
    ((((s.reg Reg.TIM_SET_S_LO).toNat + (s.reg Reg.TIM_SET_S_HI).toNat % 65536 * 2 ^ 32) * secT +
      (s.reg Reg.TIM_SET_NS).toNat % 2 ^ 30 * nsT : Nat) : Int)
  else (boundary : Int) + s.tim.e.getD 0

/-- Accept a step at a boundary; the frame lock returns to WAIT_TIME from ARMED and HELD (R176, R193). -/
def State.armStep (s : State) (boundary : Nat) : State :=
  let s1 := { s with tim := { s.tim with step := some (boundary, s.stepTarget boundary) } }
  if s1.lockState = 2 ∨ s1.lockState = 4 then s1.put Reg.FLK_STATE Fld.FLK_STATE_STATE 1 else s1

/-- A request to step: accepted only while the outputs are held, with no step waiting, STEP_MODE 1 only with no source, and
never at the mirror of a formed pair (R176). The primary relays it. -/
def State.requestStep (s : State) : State :=
  if s.tim.step.isSome || s.lockState == 3 || (s.bit Reg.TIM_CTRL Fld.TIM_CTRL_STEP_MODE && s.get Reg.TIM_STATE Fld.TIM_STATE_SOURCE != 0) ||
      s.formedMirror || s.isTile then
    s.putBit Reg.TIM_STATE Fld.TIM_STATE_STEP_REJ true
  else
    let b := (s.now / usT + 1) * usT
    let s1 := s.armStep b
    if s1.formed then s1.sendLink (.step ((s.get Reg.TIM_STATE Fld.TIM_STATE_EPOCH + 1) % 256) b) else s1

/-- First edge at or after an instant of START + k × PERIOD. -/
def periodicEdge (start period t : Nat) : Nat :=
  if period = 0 ∨ t ≤ start then start else start + ceilDiv (t - start) period * period

/-- START, PERIOD and OFFSET of a unit, in units of 2^-16 ns. -/
def State.pulseStart (s : State) (u : Nat) : Nat :=
  ((s.reg (Reg.TIM_OUT_S_LO u)).toNat + (s.reg (Reg.TIM_OUT_S_HI u)).toNat % 65536 * 2 ^ 32) * secT +
    (s.reg (Reg.TIM_OUT_NS u)).toNat % 2 ^ 30 * nsT
def State.pulsePeriod (s : State) (u : Nat) : Nat :=
  (s.reg (Reg.TIM_OUT_PER u)).toNat % 2 ^ 30 * nsT + (s.reg (Reg.TIM_OUT_PERFRAC u)).toNat % 65536
def State.pulseOffset (s : State) (u : Nat) : Nat := (s.reg (Reg.TIM_OUT_NS u)).toNat % 2 ^ 30 * nsT
def State.pulseMode (s : State) (u : Nat) : Nat := s.get (Reg.TIM_OUT_CTRL u) Fld.TIM_OUT_CTRL_MODE

/-- WIDTH in units of 2^-16 ns (R179). -/
def State.pulseWidth (s : State) (u : Nat) : Nat :=
  (s.reg (Reg.TIM_OUT_WIDTH u)).toNat * (if s.bit (Reg.TIM_OUT_CTRL u) Fld.TIM_OUT_CTRL_WIDTH_X16 then 16 else 1) * nsT

/-- First edge of FRAME mode at or after an instant: W(F) + OFFSET with F mod (DIVIDE + 1) = PHASE. -/
def frameEdge (tl : Timeline) (offset divide phase t : Nat) : Nat :=
  let f0 := wfnAt tl (t - offset)
  let n := divide + 1
  let g := f0 / n * n + phase
  let cands := [g - n, g, g + n, g + 2 * n].filter (fun f => f % n == phase && decide (t ≤ frameStart tl f + offset))
  frameStart tl (cands.headD (g + 2 * n)) + offset

/-- The first edge of a unit at or after an instant; a ONCE unit has START alone. -/
def State.edgeFrom (s : State) (u t : Nat) : Option Nat :=
  match s.pulseMode u with
  | 0 => if t ≤ s.pulseStart u then some (s.pulseStart u) else none
  | 1 => some (periodicEdge (s.pulseStart u) (s.pulsePeriod u) t)
  | 2 =>
    match s.timeline? with
    | none => none
    | some tl => some (frameEdge tl (s.pulseOffset u) (fieldOf (s.reg (Reg.TIM_OUT_PER u)) 0 8) (fieldOf (s.reg (Reg.TIM_OUT_PER u)) 8 8) t)
  | _ => none

/-- What a step does to a pulse unit (R180): a pulse in progress keeps its old-time length; forward, a ONCE edge passed over
is not produced and sets MISSED; PERIODIC and FRAME resume at least 1 µs after the step. -/
def State.stepPulse (s : State) (old new : Nat) (p : Pulse) : State × Pulse :=
  let p1 := { p with endAt := p.endAt.map (fun e => new + (e - old)) }
  match p.next with
  | none => (s, p1)
  | some e =>
    if s.pulseMode p.unit = 0 then
      if e < new then (s.putBit (Reg.TIM_OUT_CTRL p.unit) Fld.TIM_OUT_CTRL_MISSED true, { p1 with next := none }) else (s, p1)
    else if old ≤ new then (s, { p1 with next := s.edgeFrom p.unit (new + usT) })
    else (s, { p1 with next := s.edgeFrom p.unit (Nat.max (new + usT) e) })

def State.stepPulses (s : State) (old new : Nat) : List Pulse → State × List Pulse
  | [] => (s, [])
  | p :: ps =>
    let a := s.stepPulse old new p
    let b := a.1.stepPulses old new ps
    (b.1, a.2 :: b.2)

/-- Move wall time to a value, with the instants that intervals are counted from, and restart the offset filter: exchanges stamped in the
old time are dropped (R176, R173, log entry 53). -/
def State.applyStep (s : State) (old new : Nat) : State :=
  let a := s.stepPulses old new s.tim.pulses
  ({ a.1 with now := new, tim := { a.1.tim with pulses := a.2, offsets := [], exchanges := [], e := none, good := 0, bad := 0, yp := 0, step := none } } : State).rebase old new

/-- STEP_BOUNDARY: an accepted step takes effect at its boundary: EPOCH, STEP_DONE. -/
def execStepBoundary (s : State) : Host.Outcome State Fault Refusal :=
  match s.tim.step with
  | none => .next s
  | some (b, v) =>
    let s1 := s.applyStep b v.toNat
    let was := s1.get Reg.TIM_STATE Fld.TIM_STATE_EPOCH
    let s2 := (s1.put Reg.TIM_STATE Fld.TIM_STATE_EPOCH ((was + 1) % 256)).putBit Reg.TIM_STATE Fld.TIM_STATE_STEP_DONE true
    let s3 : State := { s2 with umb := { s2.umb with skew := s2.umb.skew + ((b : Int) - v) } }
    .next (s3.meterStep was ((was + 1) % 256) (v - (b : Int)))

/-- STEP_RECORD: the mirror steps at the primary's boundary with the same EPOCH (R176); the value is the one its own STEP_MODE
selects (log entry 23). -/
def execStepRecord (epoch boundary t : Nat) (s : State) : Host.Outcome State Fault Refusal :=
  if !s.formedMirror ∨ s.tim.step.isSome then .next (s.tick t)
  else
    let s1 := (s.tick t).armStep boundary
    .next (s1.put Reg.TIM_STATE Fld.TIM_STATE_EPOCH ((epoch + 255) % 256))

/-! ### PTP (R169 to R171, R177) -/

/-- PTP port q = 4p + n runs: PORT_EN, and the port has that sub-port (R170). -/
def State.ptpPort (s : State) (q : Nat) : Bool :=
  s.isSender && bitOf (s.reg Reg.TIM_PTP_CFG) (16 + q) && s.portHas (q / 4) (q % 4)

/-- Order of masters: the data-set comparison of IEEE 1588-2019 clause 9.3 as one lexicographic key. -/
def Master.key (m : Master) : List Nat := [m.priority1, m.quality, m.priority2, m.gm, m.steps, m.source, m.port]
def keyLess : List Nat → List Nat → Bool
  | a :: as, b :: bs => if a < b then true else if b < a then false else keyLess as bs
  | _, _ => false

/-- The best qualified master. -/
def bestMaster (l : List Master) : Option Master :=
  (l.filter (·.qualified)).foldl (fun b m => match b with | none => some m | some x => if keyLess m.key x.key then some m else b) none

/-- The parent, the best qualified master of the domain heard on a PTP port. -/
def State.parent? (s : State) : Option Master :=
  bestMaster (s.tim.masters.filter (fun m => s.ptpPort m.port && m.domain == s.get Reg.TIM_PTP_CFG Fld.TIM_PTP_CFG_DOMAIN))

/-- Follow the parent in the registers and in the state (R170, R177): a parent selected gives ACQUIRING from FREE, HOLDOVER
and EXPIRED; every parent lost gives FREE from ACQUIRING and HOLDOVER from LOCKED. -/
def State.followParent (s : State) : State :=
  match s.parent? with
  | some m =>
    let s1 := (s.setNum Reg.TIM_PTP_STAT (m.port % 16 + 16 + m.steps % 256 * 256 + m.utc % 65536 * 65536)).setNum
      Reg.TIM_PTP_GM_HI (m.gm / 2 ^ 32)
    let s2 := (s1.setNum Reg.TIM_PTP_GM_LO m.gm).put Reg.TIM_STATE Fld.TIM_STATE_SOURCE 1
    if s2.timeState = 0 ∨ s2.timeState = 3 ∨ s2.timeState = 4 then s2.setTime 1 else s2
  | none =>
    let s1 := (s.putBit Reg.TIM_PTP_STAT ⟨4, 1⟩ false).put Reg.TIM_STATE Fld.TIM_STATE_SOURCE 0
    if s1.timeState = 1 then s1.setTime 0 else if s1.timeState = 2 then s1.setTime 3 else s1

/-- Options of Table 9.1 that are excluded: a transport other than UDP over IPv4, the alternate best master clock algorithm, and the
security TLV. -/
def ptpExcluded (o : PtpOptions) : Bool := o.transport != .udpIpv4 || o.alternate || o.tlvs.contains .security

/-- A Sync faster than logSyncInterval -7 is excluded too (Table 9.1). -/
def syncExcluded (m : PtpMsg) : Bool := ptpExcluded m.options || decide (m.logInterval < -7)

/-- 2^k seconds, in units of 2^-16 ns. -/
def ptpInterval (k : Int) : Nat := if 0 ≤ k then secT * 2 ^ k.toNat else secT / 2 ^ (-k).toNat

/-- A message that uses an excluded option is discarded and counted (R169). -/
def State.ptpDiscard (s : State) : State := s.bump Reg.TIM_PTP_DISCARD 1

/-- A message of the parent in this domain, on a running PTP port. -/
def State.ptpFromParent (s : State) (m : PtpMsg) : Bool :=
  s.ptpPort m.port && m.domain == s.get Reg.TIM_PTP_CFG Fld.TIM_PTP_CFG_DOMAIN &&
    s.parent?.any (fun p => p.source == m.source && p.port == m.port)

/-- Change or begin the exchange of a port. -/
def State.setExchange (s : State) (x : Exchange) : State :=
  { s with tim := { s.tim with exchanges := x :: s.tim.exchanges.filter (fun y => y.port != x.port) } }

/-- SYNC (R171): stamped; a one-step Sync carries t1, a two-step one waits for its Follow_Up. -/
def execSync (m : PtpMsg) (s : State) : Host.Outcome State Fault Refusal :=
  let s1 := (s.tick m.t).takeControl (m.port / 4)
  if !s1.ptpPort m.port then .next s1
  else if syncExcluded m then .next s1.ptpDiscard
  else if !s1.ptpFromParent m then .next s1
  else
    let x : Exchange := { port := m.port, syncSeq := m.seq, t1 := if m.twoStep then none else some (m.stamp : Int),
                          syncCorr := m.correction, t2 := (m.t : Int), reqSeq := none, t3 := 0 }
    let s2 := (s1.setExchange x).bump Reg.TIM_PTP_RX 1
    .next { s2 with tim := { s2.tim with syncLog := m.logInterval } }

/-- FOLLOW_UP (R171): the precise origin time of a two-step Sync. -/
def execFollowUp (m : PtpMsg) (s : State) : Host.Outcome State Fault Refusal :=
  let s1 := (s.tick m.t).takeControl (m.port / 4)
  if !s1.ptpPort m.port then .next s1
  else if ptpExcluded m.options then .next s1.ptpDiscard
  else
    match s1.tim.exchanges.find? (fun x => x.port == m.port && x.syncSeq == m.seq && x.t1.isNone) with
    | some x =>
      if s1.ptpFromParent m then
        .next (s1.setExchange { x with t1 := some (m.stamp : Int), syncCorr := x.syncCorr + m.correction })
      else .next s1
    | none => .next s1

/-- DELAY_REQ (R170): sent from ING_MGMT_IP, which must not be 0; its departure is t3. -/
def execDelayReq (port seq t : Nat) (s : State) : Host.Outcome State Fault Refusal :=
  let s1 := s.tick t
  if s1.reg Reg.ING_MGMT_IP = 0 ∨ !s1.ptpPort port ∨ !s1.parent?.any (fun p => p.port == port) then .next s1
  else
    let s2 := s1.emit (.delayReq port seq (s1.bit Reg.TIM_PTP_CFG Fld.TIM_PTP_CFG_UNICAST_DREQ))
    match s2.tim.exchanges.find? (fun x => x.port == port) with
    | some x => .next (s2.setExchange { x with reqSeq := some seq, t3 := (t : Int) })
    | none => .next s2

/-- Mean of the 8 most recent offsets without the 2 of highest path delay (R171). -/
def filteredOffset (l : List (Int × Int)) : Option Int :=
  if l.length < 8 then none
  else
    let drop1 (l : List (Int × Int)) : List (Int × Int) :=
      match l with
      | [] => []
      | x :: xs => let worst := xs.foldl (fun w y => if w.2 < y.2 then y else w) x; l.erase worst
    let k := drop1 (drop1 (l.take 8))
    some ((k.map (·.1)).foldl (· + ·) 0 / 6)

/-- ASYM_ETH(q) in units of 2^-16 ns (Table 9.3). -/
def State.asymEth (s : State) (q : Nat) : Int := signedOf 24 (s.reg (Reg.TIM_ASYM_ETH q)).toNat * 256

/-- AUTO_STEP: a step to the PTP reference at the first acquisition, before the frame timeline starts; as for any accepted step, ARMED
returns to WAIT_TIME and the primary of a pair relays it (R176, Table 9.5). -/
def State.autoStep (s : State) (first : Bool) : State :=
  if first && s.bit Reg.TIM_CTRL Fld.TIM_CTRL_AUTO_STEP && decide (s.lockState < 3) && s.tim.step.isNone && !s.formedMirror then
    let b := (s.now / usT + 1) * usT
    let s1 : State := { s with tim := { s.tim with step := some (b, (b : Int) + s.tim.e.getD 0) } }
    let s2 := if s1.lockState = 2 then s1.put Reg.FLK_STATE Fld.FLK_STATE_STATE 1 else s1
    if s2.formed then s2.sendLink (.step ((s.get Reg.TIM_STATE Fld.TIM_STATE_EPOCH + 1) % 256) b) else s2
  else s

/-- DELAY_RESP (R171): the end-to-end exchange is complete, and a new offset is formed with the port's asymmetry. -/
def execDelayResp (m : PtpMsg) (s : State) : Host.Outcome State Fault Refusal :=
  let s1 := (s.tick m.t).takeControl (m.port / 4)
  if !s1.ptpPort m.port then .next s1
  else if ptpExcluded m.options then .next s1.ptpDiscard
  else
    match s1.tim.exchanges.find? (fun x => x.port == m.port && x.reqSeq == some m.seq), s1.ptpFromParent m with
    | some x, true =>
      match x.t1 with
      | none => .next s1
      | some t1 =>
        let fwd := x.t2 - t1 - x.syncCorr
        let back := (m.stamp : Int) - m.correction - x.t3
        let mpd := (fwd + back) / 2
        let off := mpd + s1.asymEth m.port - fwd
        let s2 := (s1.setExchange { x with reqSeq := none }).setNum Reg.TIM_PTP_MPD (codeOf 32 (satSigned 32 (mpd / 4096)))
        let l := ((off, mpd) :: s2.tim.offsets).take 8
        let s3 := { s2 with tim := { s2.tim with offsets := l } }
        match filteredOffset l with
        | none => .next s3
        | some e =>
          let first := !s3.tim.started
          let lock := s3.get Reg.TIM_CTRL Fld.TIM_CTRL_LOCK_NS * nsT
          .next ((s3.newOffset e m.t lock (4 * lock)).autoStep first)
    | _, _ => .next s1

/-- PTP_ANNOUNCE (R170): a master is qualified, as clause 9.3 has it, by its second Announce within four intervals and never with a
stepsRemoved of 255 or more (log entry 86); the best becomes the parent. -/
def execPtpAnnounce (a : PtpAnnounce) (s : State) : Host.Outcome State Fault Refusal :=
  let s1 := (s.tick a.t).takeControl (a.port / 4)
  if !s1.ptpPort a.port then .next s1
  else if ptpExcluded a.options then .next s1.ptpDiscard
  else if a.domain ≠ s1.get Reg.TIM_PTP_CFG Fld.TIM_PTP_CFG_DOMAIN then .next s1
  else
    let old := s1.tim.masters.find? (fun m => m.domain == a.domain && m.port == a.port && m.source == a.source)
    let q := decide (a.steps < 255) && old.any (fun m => m.qualified || decide (a.t ≤ m.lastAt + 4 * m.interval))
    let m : Master := { domain := a.domain, port := a.port, source := a.source, priority1 := a.priority1, quality := a.quality,
                        priority2 := a.priority2, gm := a.gm, steps := a.steps, utc := a.utc, lastAt := a.t,
                        interval := ptpInterval a.logInterval, qualified := q }
    let rest := s1.tim.masters.filter (fun x => !(x.domain == a.domain && x.port == a.port && x.source == a.source))
    .next ({ s1 with tim := { s1.tim with masters := rest ++ [m] } }.followParent)

/-- ANNOUNCE_RECEIPT_TIMEOUT (R177): masters silent for announceReceiptTimeout intervals are forgotten; with none left the
sender goes to FREE or HOLDOVER. -/
def execAnnounceReceiptTimeout (t : Nat) (s : State) : Host.Outcome State Fault Refusal :=
  let s1 := s.tick t
  if !s1.isSender then .next s1
  else
    let k := s1.get Reg.TIM_PTP_CFG Fld.TIM_PTP_CFG_ANN_TIMEOUT
    let live := s1.tim.masters.filter (fun m => decide (t < m.lastAt + k * m.interval))
    .next ({ s1 with tim := { s1.tim with masters := live } }.followParent)

/-! ### Time along a chain (R172, R173) -/

/-- TIME_SEND (R172): for a control row whose SFN is a multiple of 16,384, with its departure stamp, once and within 4,096 superframes of
it; TAG is EPOCH. -/
def execTimeSend (chain sfn t : Nat) (s : State) : Host.Outcome State Fault Refusal :=
  let s0 := s.tick t
  match s0.chn.timeOwed.find? (fun r => r.1 == chain && r.2.1 == sfn) with
  | none => .next s0
  | some (_, _, d) =>
    if !s0.isSender ∨ 4096 < (tabGet s0.chn.sfn chain + 65536 - sfn % 65536) % 65536 then .next s0
    else
      let s1 : State := { s0 with chn := { s0.chn with timeOwed := s0.chn.timeOwed.filter (fun r => r.1 != chain) } }
      let ns := d / nsT
      let body := leBytes 2 sfn ++ leBytes 6 (ns / 1000000000) ++ leBytes 4 (ns % 1000000000) ++ leBytes 2 (d % 65536)
      .next (s1.broadcast chain Msg.TIME (s1.get Reg.TIM_STATE Fld.TIM_STATE_EPOCH) body)

/-- The expected interval of TIME messages on a port: 16,384 superframes of 2,112 / r ns at its lane rate of r Gbit/s (R165, R172). -/
def State.timeInterval (s : State) (p : Nat) : Nat :=
  16384 * 2112 * 10 * nsT / laneRate (s.get (Reg.CHN_PORT_STAT p) Fld.CHN_PORT_STAT_RATE)

/-- The expected interval of e (R175): at a tile that of the TIME messages of its shown stream, at a sender that of the parent's Sync
messages (log entry 83). -/
def State.offsetInterval (s : State) : Nat :=
  if s.isTile then s.timeInterval (s.shownPort.getD 0) else ptpInterval s.tim.syncLog

/-- PHASE_SLEW_TIMEOUT (R175): no e for 4 expected intervals. -/
def execPhaseSlewTimeout (t : Nat) (s : State) : Host.Outcome State Fault Refusal :=
  let s1 := s.tick t
  if t < s1.tim.eAt + 4 * s1.offsetInterval then .next s1 else .next { s1 with tim := { s1.tim with yp := 0 } }

/-- HOLDOVER_EXPIRY (R177): HOLDOVER_S has passed in HOLDOVER. -/
def execHoldoverExpiry (t : Nat) (s : State) : Host.Outcome State Fault Refusal :=
  let s1 := s.tick t
  if s1.timeState = 3 ∧ s1.tim.holdoverAt + s1.get Reg.TIM_CTRL Fld.TIM_CTRL_HOLDOVER_S * secT ≤ t then .next (s1.setTime 4)
  else .next s1

/-- A tile that takes no TIME message any more: LOCKED to HOLDOVER; ACQUIRING stays, with y_p at 0 (R177). -/
def State.timeLost (s : State) : State :=
  if s.timeState = 2 then s.setTime 3 else if s.timeState = 1 then { s with tim := { s.tim with yp := 0 } } else s

/-- TIME_MESSAGE_TIMEOUT (R177): no TIME message on the shown stream for 64 expected intervals. -/
def execTimeMessageTimeout (t : Nat) (s : State) : Host.Outcome State Fault Refusal :=
  let s1 := s.tick t
  if s1.isTile && s1.shownPort.any (fun p => decide (s1.tim.timeAt + 64 * s1.timeInterval p ≤ t)) then .next s1.timeLost else .next s1

/-! ### Pulse units (R179, R180) -/

/-- The pulse unit's run. -/
def State.pulse? (s : State) (u : Nat) : Option Pulse := s.tim.pulses.find? (fun p => p.unit == u)
def State.setPulse (s : State) (p : Pulse) : State :=
  { s with tim := { s.tim with pulses := p :: s.tim.pulses.filter (fun x => x.unit != p.unit) } }

/-- Whether a write that sets ENABLE is refused (R179), with the other fields already written. -/
def State.pulseRefused (s : State) (u : Nat) : Bool :=
  let w := s.pulseWidth u
  let p := match s.timeline? with | none => 0 | some tl => periodNs tl * nsT
  match s.pulseMode u with
  | 0 => decide (w < 4 * nsT) || decide (s.pulseStart u < s.now + usT)
  | 1 => decide (w < 4 * nsT) || decide (s.pulsePeriod u < w + 4 * nsT)
  | 2 =>
    let div := fieldOf (s.reg (Reg.TIM_OUT_PER u)) 0 8
    let ph := fieldOf (s.reg (Reg.TIM_OUT_PER u)) 8 8
    decide (w < 4 * nsT) || decide (p * (div + 1) < w + 4 * nsT) || decide (p ≤ s.pulseOffset u) || decide (div < ph)
  | _ => true

/-- A write of TIM_OUT_CTRL(u): while ENABLE is 1 only ENABLE acts; setting it starts the unit or is refused with ERR. -/
def State.outCtrlWrite (s : State) (u : Nat) (data : Word) : State :=
  let a := Reg.TIM_OUT_CTRL u
  if s.bit a Fld.TIM_OUT_CTRL_ENABLE then
    if bitOf data 0 then s
    else
      let s1 := s.putBit a Fld.TIM_OUT_CTRL_ENABLE false
      match s1.pulse? u with
      | none => s1
      | some p => s1.setPulse { p with next := none }
  else
    let s1 := (s.plainWrite a data).putBit a Fld.TIM_OUT_CTRL_ENABLE false
    if !bitOf data 0 then s1
    else if s1.pulseRefused u then s1.putBit a Fld.TIM_OUT_CTRL_ERR true
    else
      let s2 := (s1.putBit a Fld.TIM_OUT_CTRL_ERR false).putBit a Fld.TIM_OUT_CTRL_ENABLE true
      let from' := if s2.pulseMode u = 1 then s2.now + usT else s2.now + 1
      let left := (s2.reg (Reg.TIM_OUT_COUNT u)).toNat % 2 ^ 24
      s2.setPulse { unit := u, next := s2.edgeFrom u from', left := left, endAt := (s2.pulse? u).bind (·.endAt) }

/-- The pin of a unit with a pulse in progress or not. -/
def State.drivePulse (s : State) (u : Nat) (active : Bool) : State :=
  let s1 := s.putBit (Reg.TIM_OUT_CTRL u) Fld.TIM_OUT_CTRL_ACTIVE active
  s1.emit (.timeOut u (active != s1.bit (Reg.TIM_OUT_CTRL u) Fld.TIM_OUT_CTRL_POLARITY))

/-- PULSE_EDGE: a leading edge falls due (R179, R180). -/
def execPulseEdge (unit : Nat) (s : State) : Host.Outcome State Fault Refusal :=
  match s.pulse? unit with
  | none => .next s
  | some p =>
    match p.next with
    | none => .next s
    | some e =>
      let s1 := s.tick e
      let a := Reg.TIM_OUT_CTRL unit
      let after := if s1.pulseMode unit = 0 then none else s1.edgeFrom unit (e + 1)
      if s1.bit a Fld.TIM_OUT_CTRL_REQUIRE_VALID && !s1.timeValid then
        .next ((s1.putBit a Fld.TIM_OUT_CTRL_MISSED true).setPulse { p with next := after })
      else
        let s2 := s1.drivePulse unit true
        let endAt := some (e + s2.pulseWidth unit)
        if s2.pulseMode unit = 1 ∧ p.left = 1 then
          .next ((s2.putBit a Fld.TIM_OUT_CTRL_ENABLE false).setPulse { p with next := none, left := 0, endAt := endAt })
        else .next (s2.setPulse { p with next := after, left := p.left - 1, endAt := endAt })

/-- PULSE_END: WIDTH has passed and the trailing edge is driven (R180). -/
def execPulseEnd (unit : Nat) (s : State) : Host.Outcome State Fault Refusal :=
  match s.pulse? unit with
  | none => .next s
  | some p =>
    match p.endAt with
    | none => .next s
    | some e => .next (((s.tick e).drivePulse unit false).setPulse { p with endAt := none })

/-! ### Capture units (R181) -/

/-- The store of a capture unit, oldest first. -/
def State.captures (s : State) (c : Nat) : List Capture := ((s.tim.captures.find? (fun x => x.1 == c)).map (·.2)).getD []
def State.setCaptures (s : State) (c : Nat) (l : List Capture) : State :=
  { s with tim := { s.tim with captures := (c, l) :: s.tim.captures.filter (fun x => x.1 != c) } }

/-- CAPTURE_EDGE: the pin of a unit takes a level that it holds for `e.holds`. The unit rejects a pulse shorter than 3 ns, both its edges; a
selected edge is stamped to 0.125 ns and stored, and one closer than 20 ns to the last captured, or finding 16 entries, is lost and
counted. -/
def execCaptureEdge (unit : Nat) (falling : Bool) (e : PinEdge) (s : State) : Host.Outcome State Fault Refusal :=
  let s0 := s.tick e.t
  let level := if falling then 1 else 2
  let edge := decide (3 * nsT ≤ e.holds) && tabGet s0.tim.inLevel unit != level
  let s1 : State := if edge then { s0 with tim := { s0.tim with inLevel := tabSet s0.tim.inLevel unit level } } else s0
  let c := s1.reg (Reg.TIM_IN_CTRL unit)
  if !edge || !bitOf c 0 || !bitOf c (if falling then 2 else 1) then .next s1
  else
    let last := tabGet s1.tim.lastEdge unit
    if (last ≠ 0 ∧ e.t < last + 20 * nsT) ∨ 16 ≤ (s1.captures unit).length then .next (s1.bump (Reg.TIM_IN_OVF unit) 1)
    else
      let x : Capture := { t := e.t / 8192 * 8192, falling := falling, epoch := s1.get Reg.TIM_STATE Fld.TIM_STATE_EPOCH }
      let s2 := s1.setCaptures unit (s1.captures unit ++ [x])
      .next { s2 with tim := { s2.tim with lastEdge := tabSet s2.tim.lastEdge unit e.t } }

/-- The head-entry registers of a capture unit: k = 0 S_LO, 1 S_HI, 2 NS, 3 FRAC (Table 9.3). -/
def State.captureView (s : State) (c k : Nat) : Nat :=
  match (s.captures c).head? with
  | none => 0
  | some x =>
    let ns := x.t / nsT
    let sec := ns / 1000000000
    match k with
    | 0 => sec % 2 ^ 32
    | 1 => sec / 2 ^ 32 % 65536 + flag x.falling * 65536 + x.epoch % 256 * 2 ^ 17 + 2 ^ 31
    | 2 => ns % 1000000000
    | _ => x.t % 65536

/-- The read of FRAC returns it and removes the head entry (R181). -/
def State.capturePop (s : State) (c : Nat) : State := s.setCaptures c (s.captures c).tail

/-! ### Registers (R182) -/

/-- The part of wall time a register shows: k = 0 s[31:0], 1 s[47:32], 2 ns, 3 frac. -/
def timeWord (t k : Nat) : Nat :=
  match k with
  | 0 => t / secT % 2 ^ 32
  | 1 => t / secT / 2 ^ 32 % 65536
  | 2 => t / nsT % 1000000000
  | _ => t % 65536

/-- What a path reads in TIM_NOW_S_HI, NS and FRAC: what its last read of S_LO latched (R345). -/
def State.timeLatched (s : State) (p : Path) : Nat := ((s.tim.latched.find? (fun x => x.1 == p)).map (·.2)).getD 0
def State.latchTime (s : State) (p : Path) : State :=
  { s with tim := { s.tim with latched := (p, s.now) :: s.tim.latched.filter (fun x => x.1 != p) } }

/-- The counters of the TIM block. -/
def timCounter (a : Nat) : Bool :=
  a == Reg.TIM_PTP_RX || a == Reg.TIM_PTP_DISCARD || (List.range 8).any (fun c => a == Reg.TIM_IN_OVF c)

/-- A write in the TIM block: TIM_CTRL and TIM_PTP_CFG ignore a value out of range as a whole; TIM_SET_NS, TIM_OUT_NS and TIM_OUT_PER
ignore a nanosecond of 10^9 or more (R167; in FRAME mode TIM_OUT_PER holds none); a running pulse unit ignores all but ENABLE (R180). -/
def State.timWrite (s : State) (a : Nat) (data : Word) : State :=
  if a = Reg.TIM_CTRL then
    let lock := fieldOf data 4 8
    let hold := fieldOf data 12 17
    if lock = 0 ∨ hold = 0 ∨ 86400 < hold then s
    else
      let s1 := s.plainWrite a data
      if bitOf data 0 then s1.requestStep else s1
  else if a = Reg.TIM_PTP_CFG then
    if 127 < fieldOf data 0 8 ∨ fieldOf data 9 3 < 2 then s else (s.plainWrite a data).followParent
  else if a = Reg.TIM_SET_NS then
    if 1000000000 ≤ fieldOf data 0 30 then s else s.plainWrite a data
  else if a = Reg.TIM_CNT_CLEAR then s.clearCounters data timCounter
  else if inRange a (Reg.TIM_OUT_CTRL 0) (Reg.TIM_OUT_COUNT 7) then
    let u := (a - Reg.TIM_OUT_CTRL 0) / 0x20
    if a = Reg.TIM_OUT_CTRL u then s.outCtrlWrite u data
    else if s.bit (Reg.TIM_OUT_CTRL u) Fld.TIM_OUT_CTRL_ENABLE then s
    else if (a = Reg.TIM_OUT_NS u ∨ (a = Reg.TIM_OUT_PER u ∧ s.pulseMode u ≠ 2)) ∧ 1000000000 ≤ fieldOf data 0 30 then s
    else s.plainWrite a data
  else s.plainWrite a data

/-- TIM registers computed at a read: TIM_STATE's TIME_VALID, the wall-time registers, the capture heads. -/
def State.timView (s : State) (p : Path) (a : Nat) : Option Nat :=
  if a = Reg.TIM_NOW_S_LO then some (timeWord s.now 0)
  else if a = Reg.TIM_NOW_S_HI then some (timeWord (s.timeLatched p) 1)
  else if a = Reg.TIM_NOW_NS then some (timeWord (s.timeLatched p) 2)
  else if a = Reg.TIM_NOW_FRAC then some (timeWord (s.timeLatched p) 3)
  else if a = Reg.TIM_STATE then some (putField (s.reg a) 5 1 (flag s.timeValid)).toNat
  else if inRange a (Reg.TIM_IN_CTRL 0) (Reg.TIM_IN_OVF 7) then
    let c := (a - Reg.TIM_IN_CTRL 0) / 0x20
    if a = Reg.TIM_IN_CTRL c then some (putField (s.reg a) 8 5 (s.captures c).length).toNat
    else if a = Reg.TIM_IN_OVF c then none
    else some (s.captureView c ((a - Reg.TIM_IN_S_LO c) / 4))
  else none

end Sys2Proof.Machine
end

