-- ==== Sys2Proof/Machine/FrameLock.lean ====
section
/-! DEFINITION. The frame timeline: what an image declares in the FLK registers, the start of a run, and the held state
(R183 to R195, R358). -/
namespace Sys2Proof.Machine

/-- The exposure window of an image slot in units of 0.125 ns: opening after W(F), length (R185). -/
def exposureOpen (tl : Timeline) (r : SlotRec) : Nat := r.startNs * 8 + r.expFirst * tl.scan * r.lineQ
def exposureLen (tl : Timeline) (r : SlotRec) : Nat := r.expPasses * tl.scan * r.lineQ

/-- Units of 0.125 ns rounded to whole ns, halves upward (R186). -/
def roundNs (q : Nat) : Nat := (q + 4) / 8

/-- FLK_SLOT_START, EXP_OPEN, EXP_LEN, SHADOW_START, SHADOW_LEN and the counts of a running image (Tables 10.8, 10.9). -/
def State.setTimeline (s : State) (tl : Timeline) : State :=
  let s1 := (s.put Reg.FLK_STATE Fld.FLK_STATE_N_IMAGE tl.nImage).put Reg.FLK_STATE Fld.FLK_STATE_N_SHADOW tl.nShadow
  (List.range 4).foldl (fun s k =>
      let s2 := match imageSlot tl k with
        | none => ((s.setNum (Reg.FLK_SLOT_START k) 0xFFFFFFFF).setNum (Reg.FLK_EXP_OPEN k) 0xFFFFFFFF).setNum (Reg.FLK_EXP_LEN k) 0
        | some r =>
          let s3 := s.setNum (Reg.FLK_SLOT_START k) r.startNs
          if r.expPasses = 0 then (s3.setNum (Reg.FLK_EXP_OPEN k) 0xFFFFFFFF).setNum (Reg.FLK_EXP_LEN k) 0
          else (s3.setNum (Reg.FLK_EXP_OPEN k) (roundNs (exposureOpen tl r))).setNum (Reg.FLK_EXP_LEN k) (roundNs (exposureLen tl r))
      match shadowSlot tl k with
      | none => (s2.setNum (Reg.FLK_SHADOW_START k) 0xFFFFFFFF).setNum (Reg.FLK_SHADOW_LEN k) 0
      | some r => (s2.setNum (Reg.FLK_SHADOW_START k) r.startNs).setNum (Reg.FLK_SHADOW_LEN k) r.lengthNs) s1

/-- FLK_LLATCH as it reads: L_LATCH in force, and the first blanking line. -/
def State.llatchView (s : State) : Nat :=
  match s.timeline? with
  | none => 0
  | some tl => s.param 4 (firstBlankingLine tl) % 4096 + firstBlankingLine tl % 4096 * 65536

/-! ### The held state (R358) -/

/-- A HOLD accepted for W(f), a copy of a known one changing nothing: it joins a held state that lasts until f or has no end, else it waits behind it (log entry 49). -/
def FlkSt.hold (x : FlkSt) (f : Nat) : FlkSt :=
  if x.heldFrom = some f ∨ x.ahead.any (fun h => h.1 == f) then x
  else match x.heldFrom, x.heldTo with
  | none, _ => { x with heldFrom := some f, heldTo := none }
  | some _, none => x
  | some _, some b =>
    if f ≤ b then { x with heldTo := none, ahead := [] }
    else if x.ahead.any (fun h => h.2.isNone) then x
    else { x with ahead := x.ahead ++ [(f, none)] }

/-- A RELEASE accepted for W(f) ends the held state that has no end yet; with none it changes nothing. -/
def FlkSt.release (x : FlkSt) (f : Nat) : FlkSt :=
  if x.heldFrom.isNone ∨ x.heldTo = some f ∨ x.ahead.any (fun h => h.2 == some f) then x
  else if x.heldTo.isNone then { x with heldTo := some f }
  else { x with ahead := x.ahead.map (fun h => if h.2.isNone then (h.1, some f) else h) }

/-- HOLD (kind 0) or RELEASE (kind 1) of Table 7.5. -/
def FlkSt.take (x : FlkSt) (kind f : Nat) : FlkSt := if kind = 0 then x.hold f else if kind = 1 then x.release f else x

/-- The held state has ended; the next one accepted takes its place. -/
def FlkSt.endHold (x : FlkSt) : FlkSt :=
  match x.ahead with
  | [] => { x with heldFrom := none, heldTo := none }
  | h :: hs => { x with heldFrom := some h.1, heldTo := h.2, ahead := hs }

/-- A picture of WFN F is not coded: its chain windows open in the held state, and it comes before F_r. -/
def State.uncoded (s : State) (f : Nat) : Bool := s.heldAt (f - 1) && s.heldAt f

/-- The held state begins or ends at the start of frame F: RUNNING and HELD follow it (Table 10.6). -/
def State.holdEffect (s : State) (f : Nat) : State :=
  if s.heldAt f then (if s.lockState = 3 then s.put Reg.FLK_STATE Fld.FLK_STATE_STATE 4 else s)
  else
    let s1 := if s.lockState = 4 then s.put Reg.FLK_STATE Fld.FLK_STATE_STATE 3 else s
    match s1.flk.heldTo with
    | some b => if b ≤ f then { s1 with flk := s1.flk.endHold } else s1
    | none => s1

/-- A tile that missed the RELEASE leaves the held state at its first NORMAL or REFRESH slice. -/
def State.leaveHeld (s : State) : State :=
  if s.lockState = 4 then
    { s.put Reg.FLK_STATE Fld.FLK_STATE_STATE 3 with flk := s.flk.endHold }
  else s

/-- The body of a HOLD message (Table 7.5). -/
def holdBody (kind wfn : Nat) : List Byte := leBytes 1 kind ++ leBytes 6 wfn

/-- A sender schedules a HOLD or RELEASE for W(f) and sends the first of its three messages (R358). -/
def State.startHold (s : State) (kind f : Nat) : State :=
  let s1 : State := { s with flk := s.flk.take kind f }
  let s2 := s1.broadcastAll Msg.HOLD 0 (holdBody kind f)
  { s2 with flk := { s2.flk with holdSends := s2.flk.holdSends ++ [{ kind := kind, wfn := f, t := s.now, sends := 1 }] } }

/-- HOLD_MESSAGE: a tile takes the first copy of a HOLD or RELEASE, and a repeat changes nothing; at a formed mirror it is the
primary's relay, which the mirror sends on its own chains (log entry 49). -/
def execHoldMessage (kind wfn t : Nat) (s : State) : Host.Outcome State Fault Refusal :=
  let s1 := s.tick t
  if s1.isTile then .next { s1 with flk := s1.flk.take kind wfn }
  else if s1.isSender && s1.formed && s1.isMirror && decide (kind < 2) then .next (s1.startHold kind wfn)
  else .next s1

/-- HOLD_MESSAGE_REPEAT: the second and third sendings, 500 µs and 1 ms after acceptance. -/
def execHoldMessageRepeat (t : Nat) (s : State) : Host.Outcome State Fault Refusal :=
  let s1 := s.tick t
  let due (h : HoldSend) : Bool := decide (h.sends < 3) && decide (h.t + h.sends * 500 * usT ≤ t)
  let s2 := s1.flk.holdSends.foldl (fun s h => if due h then s.broadcastAll Msg.HOLD 0 (holdBody h.kind h.wfn) else s) s1
  let l := (s1.flk.holdSends.map (fun h => if due h then { h with sends := h.sends + 1 } else h)).filter (fun h => decide (h.sends < 3))
  .next { s2 with flk := { s2.flk with holdSends := l } }

/-! ### Starting (R191, R192) -/

/-- The least F with W(F - 1) at least `d` after an instant. -/
def startFrame (tl : Timeline) (t d : Nat) : Nat :=
  let f := wfnAt tl (t + d)
  if frameStart tl f = t + d then f + 1 else f + 2

/-- Choose F0 and enter ARMED. -/
def State.arm (s : State) (f0 : Nat) : State :=
  let s1 := { s with flk := { s.flk with f0 := f0 } }
  ((s1.setReg Reg.FLK_START_WFN_LO (loWord f0)).setNum Reg.FLK_START_WFN_HI (f0 / 2 ^ 32 % 65536)).put
    Reg.FLK_STATE Fld.FLK_STATE_STATE 2

/-- ALIGNED_RISE: a LOCKED tile's shown port has been UP for 1 s (R187). -/
def execAlignedRise (t : Nat) (s : State) : Host.Outcome State Fault Refusal :=
  let s1 := s.tick t
  if s1.isTile ∧ s1.timeState = 2 ∧ s1.shownLong then .next (s1.putBit Reg.FLK_STATE Fld.FLK_STATE_ALIGNED true) else .next s1

/-! ### Registers (R195) -/

/-- The counters of the FLK block; FLK_RUNS counts since reset and is not cleared (log entry 25). -/
def flkCounter (a : Nat) : Bool := inRange a (Reg.FLK_LATE 0) (Reg.FLK_ABSENT 3)

/-- A write in the FLK block: START_FREE is ignored at a tile and at the mirror of a formed pair. -/
def State.flkWrite (s : State) (a : Nat) (data : Word) : State :=
  if a = Reg.FLK_CTRL then (if s.isTile || s.formedMirror then s else s.plainWrite a data)
  else if a = Reg.FLK_CNT_CLEAR then s.clearCounters data flkCounter
  else s.plainWrite a data

/-- FLK registers computed at a read. -/
def State.flkView (s : State) (a : Nat) : Option Nat :=
  if a = Reg.FLK_STATE then some (putField (s.reg a) 3 1 (flag s.aligned)).toNat
  else if a = Reg.FLK_LLATCH then some s.llatchView
  else if a = Reg.FLK_CTRL then some (if s.isTile || s.formedMirror then 0 else (s.reg a).toNat)
  else none

end Sys2Proof.Machine
end

