-- ==== Sys2Proof/Machine/PairCheck.lean ====
section
/-! DEFINITION. Divergence reports, the comparison of the two senders' slices, tile records, and reaching FORMED (R286, R287,
R291, R292, R294). -/
namespace Sys2Proof.Machine

/-- Position of a picture of the wall in (WFN, slot) order. -/
def pictureIndex (n f slot : Nat) : Nat := f * n + slot

/-- A divergence report on a picture: counted, the hold-off restarts, and two consecutive pictures ask the sender not in
control to resynchronise (R286, R287, R294). -/
def State.report (s : State) (f slot : Nat) : State :=
  let n := (s.timeline?.map (·.nImage)).getD 1
  let i := pictureIndex n f slot
  let pair := s.red.reports.any (fun r => pictureIndex n r.1 r.2 == i + 1 || pictureIndex n r.1 r.2 + 1 == i)
  let s1 := (s.bump Reg.RED_DIVERGE 1).restartHoldoff
  { s1 with red := { s1.red with
      reports := (f, slot) :: (s1.red.reports.filter (· != (f, slot))).take 63,
      resync := s1.red.resync || (pair && !s.bit Reg.RED_STATE Fld.RED_STATE_IN_CONTROL) } }

/-- RED_CFG.VERIFY_PICS. -/
def State.verifyPics (s : State) : Nat := s.get Reg.RED_CFG Fld.RED_CFG_VERIFY_PICS

/-- Verification pictures of a tile and slot. -/
def State.matchCount (s : State) (ta slot : Nat) : Nat := ((s.red.matches_.find? (fun m => m.1 == (ta, slot))).map (·.2)).getD 0

/-- FORMED is reached: pair state, RED_JOINS, CURRENT; a primary that joined flags STANDBY under its hold-off, and
RELINQUISHED ends (R281, R294, R295). -/
def State.reachFormed (s : State) (joined : Bool) : State :=
  let joiner := s.bit Reg.RED_STATE Fld.RED_STATE_JOINER
  let w0 := s.reg Reg.RED_STATE
  let hold := joined && joiner && !s.isMirror
  let w1 := putField (putField (putField w0 0 2 2) 4 1 1) 5 4 0
  let w2 := if hold then putField (putField w1 9 1 1) 10 1 0 else w1
  let s1 := s.setRed w2
  let s2 := { s1 with red := { s1.red with
    holdoffUntil := if hold then some (s.now + s.param 2 10000 * msT) else s1.red.holdoffUntil,
    joinAt := none, joinFailed := false, toRecord := [], applied := [], matches_ := [], verified := [], others := [], reports := [] } }
  if joined then s2.bump Reg.RED_JOINS 1 else s2

/-- Compare this sender's slice with the other's signature: FORMED reports a mismatch; in REFERENCE and VERIFY it verifies the
tile or queues it again (R286, R292). -/
def State.compareSig (s : State) (a b : SliceSig) : State :=
  let same := a.scrc == b.scrc && a.fsig == b.fsig
  if s.formed then (if same then s else s.report a.wfn a.slot)
  else if s.linkCode = 1 ∧ s.red.applied.contains a.ta then
    let n := (s.timeline?.map (·.nImage)).getD 1
    if same then
      let k := s.matchCount a.ta a.slot + 1
      let ms := ((a.ta, a.slot), k) :: s.red.matches_.filter (fun m => m.1 != (a.ta, a.slot))
      let s1 : State := { s with red := { s.red with matches_ := ms } }
      let done : Bool := (List.range n).all (fun q => decide (s1.verifyPics ≤ s1.matchCount a.ta q))
      if done = false ∨ s1.red.verified.contains a.ta = true then s1
      else
        let s2 : State := { s1 with red := { s1.red with verified := a.ta :: s1.red.verified } }
        let tas : List Nat := s2.chains.flatMap (fun c => (List.range c.n).map (fun p => c.chain * 64 + p))
        if tas.all (fun x => s2.red.verified.contains x) then s2.reachFormed true else s2
    else
      { s with red := { s.red with
          matches_ := s.red.matches_.filter (fun m => m.1.1 != a.ta),
          verified := s.red.verified.filter (· != a.ta),
          applied := if s.bit Reg.RED_STATE Fld.RED_STATE_JOINER then s.red.applied.filter (· != a.ta) else s.red.applied,
          toRecord := if s.bit Reg.RED_STATE Fld.RED_STATE_JOINER then s.red.toRecord else s.red.toRecord ++ [a.ta] } }
  else s

/-- Whether two signatures name one picture of one tile. -/
def sameSlice (a b : SliceSig) : Bool := a.ta == b.ta && a.wfn == b.wfn && a.slot == b.slot

/-- This sender coded a slice: compare it with the other's signature if that came first. -/
def State.ownSig (s : State) (a : SliceSig) : State :=
  let keep := s.red.sigs.filter (fun y => !(y.ta == a.ta && y.slot == a.slot && decide (y.wfn + 4 ≤ a.wfn)))
  let s1 := { s with red := { s.red with sigs := a :: keep } }
  match s1.red.others.find? (sameSlice a) with
  | none => s1
  | some b => { s1 with red := { s1.red with others := s1.red.others.erase b } }.compareSig a b

/-- The other sender's SLICE_SIG: compared with this sender's slice, or kept until that is coded (R286). -/
def State.otherSig (s : State) (b : SliceSig) : State :=
  match s.red.sigs.find? (sameSlice b) with
  | some a => s.compareSig a b
  | none => { s with red := { s.red with others := b :: s.red.others.filter (fun y => !(y.ta == b.ta && y.slot == b.slot && decide (y.wfn + 4 ≤ b.wfn))) } }

/-- SLICE_SIG. -/
def execSliceSig (ta wfn slot scrc fsig t : Nat) (s : State) : Host.Outcome State Fault Refusal :=
  let s1 := s.tick t
  if s1.isSender ∧ s1.agreed then .next (s1.otherSig { ta := ta, wfn := wfn, slot := slot, scrc := scrc, fsig := fsig })
  else .next s1

/-- The tile record of a coder (Table 16.4). -/
def State.recordOf (s : State) (x : TileCoder) (f slot : Nat) : TileRec :=
  let job := s.ccx.refresh.find? (fun j => j.ta == x.ta)
  let entries := x.pools.flatMap (fun p => p.entries.zipIdx.map (fun e => (4 * p.slot + e.2, e.1)))
  { ta := x.ta, slots := x.pools.length, wfn := f, slot := slot, qp := x.qp, firstCell := x.firstCell,
    lastSeq := x.pools.map (fun p => p.lastSeq.getD 0),
    unusable := entries.foldl (fun v e => if e.2.usable then v else v ||| 2 ^ e.1) 0,
    refreshPending := job.isSome, refreshDue := (job.map (fun j => j.due.length)).getD 0,
    entries := entries.map (fun e => { index := e.1, state := e.2.state, seq := e.2.seq, wfn := e.2.wfn,
                                       unresolved := e.2.unresolved, pixels := e.2.pixels }) }

/-- Bytes of the largest tile record (R292). -/
def largestRecord (im : Image) : Nat :=
  (im.chains.map (fun c =>
    256 + ((List.range im.timeline.nImage).map (fun k => poolDepthOf c k)).sum *
      (16 + ceilDiv (cellCount c) 8 + c.width * c.height * 9 / 2))).foldl Nat.max 1

/-- Records the link can deliver in one chain window: floor(link rate × P / n ÷ 8 ÷ largest record) (R292), at the 4 × 32 × 64/66
Gbit/s of the link's rows. -/
def recordsPerWindow (im : Image) : Nat :=
  let tl := im.timeline
  4 * 32 * 64 * tl.den * 1000000000 / (66 * tl.num * tl.nImage * 8 * largestRecord im)

/-- The source sends the record of a tile directly after coding its slice, while the window has room (R292). -/
def State.sendTileRecord (s : State) (im : Image) (x : TileCoder) (f slot : Nat) : State :=
  let phase := s.get Reg.RED_STATE Fld.RED_STATE_PHASE
  if s.linkCode ≠ 1 ∨ s.bit Reg.RED_STATE Fld.RED_STATE_JOINER ∨ phase < 4 ∨ !s.red.toRecord.contains x.ta then s
  else
    let used := if s.red.recTaken.1 = f ∧ s.red.recTaken.2.1 = slot then s.red.recTaken.2.2 else 0
    if recordsPerWindow im ≤ used then s
    else
      let left := s.red.toRecord.filter (· != x.ta)
      let s1 := { s with red := { s.red with recTaken := (f, slot, used + 1), toRecord := left,
                                             applied := x.ta :: s.red.applied.filter (· != x.ta) } }
      let s2 := s1.sendLink (.tileRecord (s1.recordOf x f slot))
      if left = [] ∧ phase = 4 then s2.putRed Fld.RED_STATE_PHASE 5 else s2

end Sys2Proof.Machine
end

