-- ==== Sys2Proof/Machine/SliceCode.lean ====
section
/-! DEFINITION. The slice bit string: fields, cells, transform, and the reconstruction of a picture from a pool (R147 to
R153, R279). -/
namespace Sys2Proof.Machine

/-! ### Pools (R148, R154) -/

/-- An entry with nothing stored, and one for a picture that was due and not decoded. -/
def emptyEntry : PoolEntry := { state := 0, seq := 0, wfn := 0, unresolved := [], pixels := [], usable := true }
def missingEntry (seq wfn : Nat) : PoolEntry := { emptyEntry with state := 2, seq := seq, wfn := wfn, usable := false }

/-- The pools of every declared slot at image start: every entry EMPTY. -/
def freshPools (c : ChainRec) (n : Nat) : List SlotPool :=
  (List.range n).map (fun s => { slot := s, lastSeq := none, received := false, entries := List.replicate (poolDepthOf c s) emptyEntry })

/-- The entry of reference index `e`, if it exists. -/
def poolEntry? (ps : List SlotPool) (e : Nat) : Option PoolEntry :=
  (ps.find? (fun p => p.slot == e / 4)).bind (fun p => p.entries[e % 4]?)

/-- The pool of a slot. -/
def slotPool? (ps : List SlotPool) (s : Nat) : Option SlotPool := ps.find? (fun p => p.slot == s)

/-- Shift a picture into a slot: the newest entry is the picture, the oldest leaves (R154). -/
def shiftIn (p : SlotPool) (x : PoolEntry) : SlotPool := { p with entries := (x :: p.entries).take p.entries.length }

/-- Shift `n` MISSING pictures into a slot, numbered from `seq`; the SEQ and WFN an entry of a MISSING picture shows are
the model's choice (log entry 21). -/
def shiftMissing (p : SlotPool) (seq wfn : Nat) : Nat → SlotPool
  | 0 => p
  | n + 1 => shiftMissing (shiftIn p (missingEntry (seq % 256) wfn)) (seq + 1) wfn n

/-- Change the pool of a slot. -/
def modPool (ps : List SlotPool) (s : Nat) (f : SlotPool → SlotPool) : List SlotPool :=
  ps.map (fun p => if p.slot = s then f p else p)

/-! ### Bit fields (R149) -/

/-- Bits of a byte string, MSB of each byte first. -/
def byteBits (bs : List Byte) : List Bool :=
  bs.flatMap (fun b => (List.range 8).map (fun k => b.toNat.testBit (7 - k)))

/-- u(n). -/
def readU (n : Nat) (bs : List Bool) : Option (Nat × List Bool) :=
  if bs.length < n then none else some ((bs.take n).foldl (fun a b => 2 * a + flag b) 0, bs.drop n)

/-- Zero bits before the first 1, at most 20 of them. -/
def readZeros : Nat → List Bool → Option (Nat × List Bool)
  | 0, _ => none
  | _ + 1, [] => none
  | _ + 1, true :: bs => some (0, bs)
  | n + 1, false :: bs => (readZeros n bs).map (fun r => (r.1 + 1, r.2))

/-- ue(v); a z above 20 is a syntax error. -/
def readUe (bs : List Bool) : Option (Nat × List Bool) :=
  match readZeros 21 bs with
  | none => none
  | some (z, r) => (readU z r).map (fun i => (2 ^ z - 1 + i.1, i.2))

/-- The signed reading of a ue(v) value. -/
def signedUe (k : Nat) : Int := if k % 2 = 1 then (((k + 1) / 2 : Nat) : Int) else -((k / 2 : Nat) : Int)

/-- se(v). -/
def readSe (bs : List Bool) : Option (Int × List Bool) := (readUe bs).map (fun r => (signedUe r.1, r.2))

/-- Write u(n), ue(v) and se(v). -/
def putU (n v : Nat) : List Bool := (List.range n).map (fun k => v.testBit (n - 1 - k))
def putUe (v : Nat) : List Bool :=
  let z := Nat.log2 (v + 1)
  List.replicate z false ++ true :: putU z (v + 1 - 2 ^ z)
def ueOfSigned (v : Int) : Nat := if 0 < v then (2 * v - 1).toNat else (-2 * v).toNat
def putSe (v : Int) : List Bool := putUe (ueOfSigned v)

/-! ### Cells (Tables 8.3 and 8.4) -/

/-- A coded cell; an INHERIT run stands as one `inherit` for each of its cells. -/
inductive Cell where
  | inherit
  | move (ref : Nat) (mvx mvy : Int)
  /-- `flat` or a prediction, then 48 blocks of 16 coefficients in raster order: R, G, B by sub-block -/
  | resid (flat : Bool) (ref : Nat) (mvx mvy : Int) (coefs : List (List Int))
  /-- 256 pixels in raster order within the cell -/
  | raw (pixels : List Nat)
  deriving DecidableEq, Repr

/-- Scan order of the coefficients (Table 8.4). -/
def scanOrder : List Nat := [0, 1, 4, 8, 5, 2, 3, 6, 9, 12, 13, 10, 7, 11, 14, 15]

/-- `n` se(v) coefficients, none above 4,095 in magnitude (R152). -/
def readCoefs : Nat → List Bool → Option (List Int × List Bool)
  | 0, bs => some ([], bs)
  | n + 1, bs =>
    match readSe bs with
    | none => none
    | some (v, r) =>
      if v < -4095 ∨ 4095 < v then none
      else (readCoefs n r).map (fun q => (v :: q.1, q.2))

/-- The raster coefficients of a block from those sent in scan order. -/
def rasterCoefs (sent : List Int) : List Int :=
  (List.range 16).map (fun pos => sent.getD (scanOrder.idxOf pos) 0)

/-- One block of Table 8.4. -/
def readBlock (bs : List Bool) : Option (List Int × List Bool) :=
  match bs with
  | [] => none
  | false :: r => some (List.replicate 16 0, r)
  | true :: r =>
    match readU 4 r with
    | none => none
    | some (last, r2) => (readCoefs (last + 1) r2).map (fun q => (rasterCoefs q.1, q.2))

/-- `n` blocks. -/
def readBlocks : Nat → List Bool → Option (List (List Int) × List Bool)
  | 0, bs => some ([], bs)
  | n + 1, bs =>
    match readBlock bs with
    | none => none
    | some (b, r) => (readBlocks n r).map (fun q => (b :: q.1, q.2))

/-- `n` raw pixels of 36 bits. -/
def readPixels : Nat → List Bool → Option (List Nat × List Bool)
  | 0, bs => some ([], bs)
  | n + 1, bs =>
    match readU 36 bs with
    | none => none
    | some (p, r) => (readPixels n r).map (fun q => (p :: q.1, q.2))

/-- REF, MVX, MVY; a vector outside ±64 or a REF to no entry is a syntax error (R151). -/
def readVector (exists' : Nat → Bool) (bs : List Bool) : Option ((Nat × Int × Int) × List Bool) :=
  match readU 4 bs with
  | none => none
  | some (ref, r1) =>
    match readSe r1 with
    | none => none
    | some (x, r2) =>
      match readSe r2 with
      | none => none
      | some (y, r3) =>
        if x < -64 ∨ 64 < x ∨ y < -64 ∨ 64 < y ∨ !exists' ref then none else some ((ref, x, y), r3)

/-- One cell with its prefix; an INHERIT run answers with its further cells. -/
def readCell (exists' : Nat → Bool) (bs : List Bool) : Option ((Cell × Nat) × List Bool) :=
  match bs with
  | false :: r => (readUe r).map (fun q => ((.inherit, q.1), q.2))
  | true :: false :: r => (readVector exists' r).map (fun q => ((.move q.1.1 q.1.2.1 q.1.2.2, 0), q.2))
  | true :: true :: false :: true :: r => (readBlocks 48 r).map (fun q => ((.resid true 0 0 0 q.1, 0), q.2))
  | true :: true :: false :: false :: r =>
    match readVector exists' r with
    | none => none
    | some (v, r2) => (readBlocks 48 r2).map (fun q => ((.resid false v.1 v.2.1 v.2.2 q.1, 0), q.2))
  | true :: true :: true :: false :: r => (readPixels 256 r).map (fun q => ((.raw q.1, 0), q.2))
  | _ => none

/-- The cells of a slice: `n` still to come, `run` of them covered by an open INHERIT run. -/
def readCells (exists' : Nat → Bool) : Nat → Nat → List Bool → Option (List Cell)
  | 0, _, _ => some []
  | n + 1, run + 1, bs => (readCells exists' n run bs).map (fun l => .inherit :: l)
  | n + 1, 0, bs =>
    match readCell exists' bs with
    | none => none
    | some ((c, more), r) => if n < more then none else (readCells exists' n more r).map (fun l => c :: l)

/-- The slice header (Table 8.2). -/
structure SliceHead where
  version : Nat
  kind : Nat
  lossy : Nat
  qp : Nat
  firstCell : Nat
  seq : Nat
  reserved : Nat
  deriving DecidableEq, Repr

/-- The header of a slice's bytes: none when the 48 bits are not all there. -/
def readHead (bs : List Byte) : Option SliceHead :=
  if bs.length < 6 then none
  else
    let v := beNat (bs.take 6)
    some { version := v / 2 ^ 44, kind := v / 2 ^ 42 % 4, lossy := v / 2 ^ 41 % 2, qp := v / 2 ^ 35 % 64,
           firstCell := v / 2 ^ 25 % 1024, seq := v / 2 ^ 17 % 256, reserved := v % 2 ^ 17 }

/-- Whether a cell kind may stand in a slice (R150). -/
def cellAllowed (h : SliceHead) (c : Cell) : Bool :=
  match c with
  | .inherit => h.kind != 2
  | .move _ _ _ => h.kind == 0
  | .resid flat _ _ _ _ => h.lossy == 1 && (h.kind == 0 || (h.kind == 2 && flat))
  | .raw _ => h.kind != 1

/-- Read a slice: none on a syntax error (R149 to R152, R155). A REPEAT slice is one INHERIT run from cell 0. -/
def readSlice (lossless : Bool) (c : Nat) (exists' : Nat → Bool) (flags : Nat) (bs : List Byte) : Option (SliceHead × List Cell) :=
  match readHead bs with
  | none => none
  | some h =>
    if h.version ≠ 1 ∨ h.kind = 3 ∨ h.qp > 47 ∨ h.firstCell ≥ c ∨ h.reserved ≠ 0 ∨ (lossless ∧ h.lossy = 1) ∨
        h.kind ≠ flags / 4 % 4 ∨ h.lossy ≠ flags / 16 % 2 ∨ (flags / 32 % 2 = 1) ≠ (h.firstCell ≠ 0) ∨ flags / 64 ≠ 0 then none
    else
      let bits := (byteBits bs).drop 48
      if h.kind = 1 then
        match readCell exists' bits with
        | some ((.inherit, more), _) => if h.firstCell = 0 ∧ more + 1 = c then some (h, List.replicate c .inherit) else none
        | _ => none
      else
        match readCells exists' c 0 bits with
        | none => none
        | some cells => if cells.all (cellAllowed h) then some (h, cells) else none

/-! ### Writing a slice -/

/-- Bits of a block. -/
def putBlock (co : List Int) : List Bool :=
  let sent := scanOrder.map (fun p => co.getD p 0)
  let last := (sent.zipIdx.filter (fun p => p.1 != 0)).foldl (fun m p => Nat.max m p.2) 0
  if sent.all (· == 0) then [false] else true :: putU 4 last ++ (sent.take (last + 1)).flatMap putSe

/-- Bits of a cell other than INHERIT. -/
def putCell : Cell → List Bool
  | .inherit => []
  | .move ref x y => [true, false] ++ putU 4 ref ++ putSe x ++ putSe y
  | .resid true _ _ _ cs => [true, true, false, true] ++ cs.flatMap putBlock
  | .resid false ref x y cs => [true, true, false, false] ++ putU 4 ref ++ putSe x ++ putSe y ++ cs.flatMap putBlock
  | .raw ps => [true, true, true, false] ++ ps.flatMap (putU 36)

/-- Bits of the cells in coding order; `run` counts the INHERIT cells of the open run. -/
def putCells : Nat → List Cell → List Bool
  | run, [] => if run = 0 then [] else false :: putUe (run - 1)
  | run, .inherit :: cs => putCells (run + 1) cs
  | run, c :: cs => (if run = 0 then [] else false :: putUe (run - 1)) ++ putCell c ++ putCells 0 cs

/-- Bytes of a bit string padded with zeros to whole rows of 32 bytes (R149). -/
def rowBytes (bits : List Bool) : List Byte :=
  let n := 32 * ceilDiv bits.length 256
  (List.range n).map (fun k => BitVec.ofNat 8 ((List.range 8).foldl (fun a i => 2 * a + flag (bits.getD (8 * k + i) false)) 0))

/-- Header bits (Table 8.2). -/
def putHead (h : SliceHead) : List Bool :=
  putU 4 h.version ++ putU 2 h.kind ++ putU 1 h.lossy ++ putU 6 h.qp ++ putU 10 h.firstCell ++ putU 8 h.seq ++ putU 17 h.reserved

/-- The rows of a slice. -/
def writeSlice (h : SliceHead) (cells : List Cell) : List Byte := rowBytes (putHead h ++ putCells 0 cells)

/-! ### Reconstruction (R151 to R153) -/

/-- Component `k` (0 R, 1 G, 2 B) of a 36-bit pixel. -/
def pixComp (p k : Nat) : Nat := p / 2 ^ (24 - 12 * k) % 4096

/-- Origin of cell `x` of a raster `w` wide. -/
def cellOrigin (w x : Nat) : Nat × Nat := (16 * (x % (w / 16)), 16 * (x / (w / 16)))

/-- The reference sample position of R151, clamped to the raster. -/
def refPos (w h : Nat) (x y : Int) : Nat := (clampInt 0 ((h : Int) - 1) y).toNat * w + (clampInt 0 ((w : Int) - 1) x).toNat

/-- The 256 reference positions of a cell moved by a vector. -/
def refPositions (w h x : Nat) (mvx mvy : Int) : List Nat :=
  let o := cellOrigin w x
  (List.range 256).map (fun k => refPos w h (((o.1 + k % 16 : Nat) : Int) + mvx) (((o.2 + k / 16 : Nat) : Int) + mvy))

/-- The cell a raster position lies in. -/
def cellOf (w pos : Nat) : Nat := (pos % w) / 16 + (pos / w) / 16 * (w / 16)

/-- The Hadamard-like transform H of R152 on a 4 × 4 block in raster order: H × M × H. -/
def hRow (a b c d : Int) : List Int := [a + b + c + d, a + b - c - d, a - b - c + d, a - b + c - d]
def hTransform (m : List Int) : List Int :=
  let g (l : List Int) (i : Nat) : Int := l.getD i 0
  let rows := (List.range 4).map (fun r => hRow (g m (4 * r)) (g m (4 * r + 1)) (g m (4 * r + 2)) (g m (4 * r + 3)))
  let at' (r c : Nat) : Int := g (rows.getD r []) c
  let cols := (List.range 4).map (fun c => hRow (at' 0 c) (at' 1 c) (at' 2 c) (at' 3 c))
  (List.range 16).map (fun k => g (cols.getD (k % 4) []) (k / 4))

/-- S of a QP (R152). -/
def quantStep (qp : Nat) : Nat := ([16, 18, 20, 23, 25, 29] : List Nat).getD (qp % 6) 16 * 2 ^ (qp / 6)

/-- The residual of a block. -/
def blockResidual (qp : Nat) (co : List Int) : List Int :=
  (hTransform (co.map (· * (quantStep qp : Int)))).map (fun z => (z + 8) / 16)

/-- Position of a pixel's sub-block and of its place in it. -/
def subBlock (k : Nat) : Nat × Nat := ((k % 16) / 4 + 4 * (k / 64), k % 4 + 4 * (k / 16 % 4))

/-- The residuals of component `c` of a cell, as 256 values in raster order. -/
def cellResidual (qp : Nat) (coefs : List (List Int)) (c : Nat) : List Int :=
  let blocks := (List.range 16).map (fun b => blockResidual qp (coefs.getD (16 * c + b) []))
  (List.range 256).map (fun k => (blocks.getD (subBlock k).1 []).getD (subBlock k).2 0)

/-- A pixel from a prediction and residuals. -/
def reconstruct (pred : Nat) (r : List Int) : Nat :=
  (List.range 3).foldl (fun a k => a * 4096 + (clampInt 0 4095 (((pixComp pred k : Nat) : Int) + r.getD k 0)).toNat) 0

/-- FLAT prediction: every sample 2,048. -/
def flatPixel : Nat := 2048 * 2 ^ 24 + 2048 * 2 ^ 12 + 2048

/-- A decoded cell: its pixels (none when unresolved) and the reference index that left it unresolved. -/
structure CellOut where
  pixels : Option (List Nat)
  cause : Nat
  deriving DecidableEq, Repr

/-- Whether an entry gives resolved samples at positions (R153). -/
def entryResolves (w : Nat) (e : Option PoolEntry) (ps : List Nat) : Bool :=
  match e with
  | none => false
  | some p => p.state == 1 && (p.unresolved = [] || ps.all (fun q => !p.unresolved.contains (cellOf w q)))

/-- Read positions of an entry as pixels. -/
def entryPixels (e : Option PoolEntry) (ps : List Nat) : List Nat :=
  match e with
  | none => ps.map (fun _ => 0)
  | some p => let v := p.pixels.toArray; ps.map (fun q => v.getD q 0)

/-- The first slice of a slot since the image started: its cells that predict are unresolved (R153, case 3). -/
def firstOfSlot (pools : List SlotPool) (slot : Nat) : Bool := (slotPool? pools slot).any (fun p => !p.received)

/-- Decode one cell against a pool (R151 to R153). -/
def decodeCell (w h qp slot : Nat) (pools : List SlotPool) (x : Nat) (c : Cell) : CellOut :=
  let moved (ref : Nat) (mvx mvy : Int) (f : List Nat → List Nat) : CellOut :=
    let ps := refPositions w h x mvx mvy
    let e := poolEntry? pools ref
    if !firstOfSlot pools slot && entryResolves w e ps then { pixels := some (f (entryPixels e ps)), cause := 0 } else { pixels := none, cause := ref }
  let add (coefs : List (List Int)) (pred : List Nat) : List Nat :=
    let r0 := (cellResidual qp coefs 0).toArray
    let r1 := (cellResidual qp coefs 1).toArray
    let r2 := (cellResidual qp coefs 2).toArray
    pred.zipIdx.map (fun p => reconstruct p.1 [r0.getD p.2 0, r1.getD p.2 0, r2.getD p.2 0])
  match c with
  | .inherit => moved (4 * slot) 0 0 id
  | .move ref mvx mvy => moved ref mvx mvy id
  | .raw ps => { pixels := some ps, cause := 0 }
  | .resid true _ _ _ coefs => { pixels := some (add coefs (List.replicate 256 flatPixel)), cause := 0 }
  | .resid false ref mvx mvy coefs => moved ref mvx mvy (add coefs)

/-- A decoded picture: pixels in raster order, the unresolved cells, the lowest reference index that caused one. -/
structure PictureOut where
  pixels : List Nat
  unresolved : List Nat
  cause : Option Nat
  deriving DecidableEq, Repr

/-- Decode the cells of a picture, given in coding order; unresolved cells take the values `shown` holds there (R153). -/
def decodePicture (w h qp slot first : Nat) (pools : List SlotPool) (shown : List Nat) (cells : List Cell) : PictureOut :=
  let c := cells.length
  let outs := cells.zipIdx.map (fun p => decodeCell w h qp slot pools ((first + p.2) % c) p.1)
  let outArr := outs.toArray
  let at' (x : Nat) : CellOut := outArr.getD ((x + c - first) % c) { pixels := none, cause := 0 }
  let px := (List.range c).map (fun x => ((at' x).pixels.map List.toArray))
  let pxArr := px.toArray
  let shownArr := shown.toArray
  let unres := (List.range c).filter (fun x => (at' x).pixels.isNone)
  { pixels := (List.range (w * h)).map (fun q =>
      match pxArr.getD (cellOf w q) none with
      | some a => a.getD ((q / w % 16) * 16 + q % w % 16) 0
      | none => shownArr.getD q 0),
    unresolved := unres,
    cause := (unres.map (fun x => (at' x).cause)).foldl (fun m e => some (match m with | none => e | some y => Nat.min y e)) none }

/-- FSIG: the CRC-32C of a picture packed at 36 bits per pixel, MSB first (R279). -/
def frameSignature (pixels : List Nat) : Nat :=
  let bits := pixels.flatMap (putU 36)
  crc32c ((List.range (bits.length / 8)).map (fun k =>
    BitVec.ofNat 8 (((bits.drop (8 * k)).take 8).foldl (fun a b => 2 * a + flag b) 0)))

end Sys2Proof.Machine
end

