-- ==== Sys2Proof/Machine/ChainCode.lean ====
section
/-! DEFINITION. Chain coding at a sender and at a tile: the encoder's choices and rate control, pools, refresh, slices received
and decoded (R147 to R166, R278, R279, R284 to R286). -/
namespace Sys2Proof.Machine

/-! ### The tile: slices received (R127, R128, R286) -/

/-- The WFN nearest to `near` with the low 40 bits a row carries. -/
def wfn48 (near w : Nat) : Nat :=
  let b := near / 2 ^ 40 * 2 ^ 40 + w % 2 ^ 40
  if b + 2 ^ 39 < near then b + 2 ^ 40 else if near + 2 ^ 39 < b ∧ 2 ^ 40 ≤ b then b - 2 ^ 40 else b

/-- Add to a tile's count of its next HEALTH record (Table 16.3): 0 SCRC_W, 1 SCRC_E, 2 DIVERGE, 3 FSIG_FAIL, 4 REPEAT,
5 RELOCK. -/
def State.noteHealth (s : State) (k n : Nat) : State :=
  { s with red := { s.red with since := (List.range 6).map (fun i => s.red.since.getD i 0 + (if i = k then n else 0)) } }

/-- Both ports eligible and the two slices of (F, s) carry different FSIG (R286). -/
def State.divergent (s : State) (f slot : Nat) : Bool :=
  s.portEligible 0 && s.portEligible 1 &&
    s.ccx.rx.any (fun a => a.port == 0 && a.wfn == f && a.slot == slot &&
      s.ccx.rx.any (fun b => b.port == 1 && b.wfn == f && b.slot == slot && a.fsig != b.fsig))

/-- A divergent picture is reported once: RED_DIVERGE, RED_TILE.DIVERGING, one DIVERGE message (R286). -/
def State.noteDivergent (s : State) (f slot : Nat) : State :=
  if !s.divergent f slot || s.red.diverged.contains (f, slot) then s
  else
    let s1 := { s with red := { s.red with diverged := (f, slot) :: s.red.diverged.take 15 } }
    ((s1.bump Reg.RED_DIVERGE 1).noteHealth 2 1).tileSend Msg.DIVERGE 0 0 (leBytes 6 f ++ leBytes 1 slot)

/-- Whether the tile would decode a slice of (F, s) from a port as things stand (R284). -/
def State.acceptsSlice (s : State) (port f slot : Nat) (ok : Bool) : Bool :=
  ok && (s.shownPort == some port ||
    (s.shownPort.isSome && s.portEligible port && !s.divergent f slot &&
      !s.ccx.rx.any (fun r => s.shownPort == some r.port && r.wfn == f && r.slot == slot && r.scrcOk)))

/-- A slice that a tile takes from a port (R128, R398): its own TA, in a run, of a picture from F0 on. -/
def State.consumes (s : State) (port ta wfn40 : Nat) : Bool :=
  s.isTile && s.portUp port && s.ownTa != 0xFF && ta == s.ownTa && decide (2 ≤ s.lockState) && decide (s.flk.f0 ≤ wfn48 s.wfnNow wfn40)

/-- A slice sent on unchanged, where the tile forwards (R128). -/
def State.passSlice (s : State) (r : SliceIn) : State :=
  if s.forwards r.port then s.emit (.slice r.port r.ta r.flags r.wfn r.rows r.scrc r.fsig r.bytes) else s

/-- SLICE_RX: a slice of the tile's own TA is taken, its RECEIPT and IDLE rows forwarded in its place, its SCRC and divergence
checked (R128, R286). A SLICE_START that fails its HCRC, or has ROWS 0, is a row error and forwarded unchanged, as is every slice
before F0 of the current run (R398). A good slice of a picture already repeated counts it late (R194). -/
def execSliceRx (r : SliceIn) (s : State) : Host.Outcome State Fault Refusal :=
  let s0 := s.tick r.t
  if !s0.isTile ∨ 2 ≤ r.port ∨ !s0.portUp r.port then .next s0
  else if !r.hcrcOk ∨ r.rows = 0 then
    .next ((s0.bump (Reg.CHN_ROW_ERR r.port) 1).passSlice r)
  else if !s0.consumes r.port r.ta r.wfn then .next (s0.passSlice r)
  else
    let c := crc32c r.bytes
    let ok := c == r.scrc
    let f := wfn48 s0.wfnNow r.wfn
    let slot := r.flags % 4
    let s1 := if ok then s0 else (s0.bump (Reg.CHN_SCRC_ERR r.port) 1).noteHealth r.port 1
    let x : RxSlice := { port := r.port, wfn := f, slot := slot, flags := r.flags, scrcOk := ok, fsig := r.fsig, bytes := r.bytes, t := r.t }
    let rest := s1.ccx.rx.filter (fun y => !(y.port == r.port && y.wfn == f && y.slot == slot))
    let asks := if ok ∧ r.flags / 4 % 4 = 2 then s1.ccx.asks.filter (fun a => a.slot != slot) else s1.ccx.asks
    let acc := s1.acceptsSlice r.port f slot ok
    let s2 := { s1 with ccx := { s1.ccx with rx := if s1.decodeShed f slot then rest else rest ++ [x], asks := asks } }
    let s3 := (s2.putBit Reg.RED_TILE Fld.RED_TILE_DIVERGING (s2.divergent f slot)).noteDivergent f slot
    let s4 : State := if ok ∧ s3.lmp.undecided.contains (f, slot) then
        { s3.bump (Reg.FLK_LATE slot) 1 with lmp := { s3.lmp with undecided := s3.lmp.undecided.filter (· != (f, slot)) } }
      else s3
    .next (if s4.forwards r.port then s4.emit (.receipt r.port r.ta r.flags r.wfn r.rows c (flag ok + 2 * flag acc)) else s4)

/-! ### The tile: decoding (R154, R155, R284, R285) -/

/-- The slice a tile decodes for (F, s): the selected port's when its SCRC passes, else the other eligible port's unless the
picture is divergent (R284). -/
def State.chosenSlice (s : State) (f slot : Nat) : Option RxSlice :=
  match s.shownPort with
  | none => none
  | some p =>
    match s.ccx.rx.find? (fun r => r.port == p && r.wfn == f && r.slot == slot && r.scrcOk) with
    | some r => some r
    | none =>
      if s.divergent f slot ∨ !s.portEligible (1 - p) then none
      else s.ccx.rx.find? (fun r => r.port == 1 - p && r.wfn == f && r.slot == slot && r.scrcOk)

/-- A picture later in (WFN, slot) order than the last decoded. -/
def State.laterPicture (s : State) (f slot : Nat) : Bool :=
  match s.ccx.lastDecoded with
  | none => true
  | some (g, k) => decide (g < f) || (g == f && decide (k < slot))

/-- Send a REFRESH_REQ and count it (R156, Table 7.5). -/
def State.sendRefreshReq (s : State) (f slot ref : Nat) : State :=
  (s.bump Reg.CCX_REFRESH_REQ 1).tileSend Msg.REFRESH_REQ 0 0 (leBytes 6 f ++ leBytes 1 slot ++ leBytes 1 ref)

/-- Ask for a refresh, unless a request is outstanding: then further causes, of any slot, do not send again (R156). -/
def State.askRefresh (s : State) (f slot ref t : Nat) : State :=
  if s.ccx.asks != [] then s
  else
    let s1 := { s with ccx := { s.ccx with asks := [{ slot := slot, wfn := f, ref := ref, sentAt := t, again := false }] } }
    s1.sendRefreshReq f slot ref

/-- Shift MISSING pictures in and set L_s; each is counted (R154). -/
def State.shiftMissingPics (s : State) (slot seq f n : Nat) (last : Nat) : State :=
  let p := modPool s.ccx.pools slot (fun p => { shiftMissing p (last + 1) f n with lastSeq := some seq })
  { s with ccx := { s.ccx with pools := p } }.bump Reg.CCX_MISSING_PICS n

/-- A slice of the slot has been received since the image started (R153). -/
def State.noteReceived (s : State) (slot : Nat) : State :=
  { s with ccx := { s.ccx with pools := modPool s.ccx.pools slot (fun p => { p with received := true }) } }

/-- A rejected slice (R155): with a readable SEQ and d from 1 to 127, d MISSING pictures are shifted in. -/
def State.rejectSlice (s : State) (slot f : Nat) (bytes : List Byte) : State :=
  let s0 := s.bump Reg.CCX_SYNTAX_ERR 1
  let s1 : State := { s0 with lmp := { s0.lmp with rejected := (f, slot) :: s0.lmp.rejected } }
  match readHead bytes, (slotPool? s.ccx.pools slot).bind (·.lastSeq) with
  | some h, some last =>
    let d := (h.seq + 256 - last) % 256
    (if h.version = 1 ∧ 1 ≤ d ∧ d ≤ 127 then s1.shiftMissingPics slot h.seq f d last else s1).noteReceived slot
  | _, _ => s1.noteReceived slot

/-- Decode a slice whose syntax holds and whose d is allowed: `gap` MISSING pictures come first (R153, R154, R285). -/
def State.decodeInto (s : State) (c : ChainRec) (r : RxSlice) (h : SliceHead) (cells : List Cell) (gap last t : Nat) : State :=
  let s1 := if gap = 0 then s else s.shiftMissingPics r.slot h.seq r.wfn gap last
  let shown := ((s1.ccx.shown.find? (fun x => x.1 == r.slot)).map (·.2)).getD (List.replicate (c.width * c.height) 0)
  let out := decodePicture c.width c.height h.qp r.slot h.firstCell s1.ccx.pools shown cells
  let bad := h.kind != 1 && out.unresolved == [] && frameSignature out.pixels != r.fsig
  let entry : PoolEntry :=
    if bad then missingEntry h.seq r.wfn
    else { state := 1, seq := h.seq, wfn := r.wfn, unresolved := out.unresolved, pixels := out.pixels, usable := true }
  let pools := if h.kind = 1 then modPool s1.ccx.pools r.slot (fun p => { p with lastSeq := some h.seq })
    else modPool s1.ccx.pools r.slot (fun p => { shiftIn p entry with lastSeq := some h.seq })
  let pic : DecodedPic := { wfn := r.wfn, slot := r.slot, pixels := out.pixels, breached := false, t := t }
  let s2 := { s1 with ccx := { s1.ccx with pools := pools, decoded := if bad then s1.ccx.decoded else s1.ccx.decoded ++ [pic] } }
  let s3 := s2.bump Reg.CCX_UNRESOLVED out.unresolved.length
  let s4 := if bad then (s3.bump Reg.RED_FSIG_FAIL 1).noteHealth 3 1 else s3
  let s5 := if h.kind = 1 then s4.bump Reg.CCX_REPEAT 1 else if h.kind = 2 then s4.bump Reg.CCX_REFRESH_SLICES 1 else s4
  let s6 := if h.kind = 1 then s5 else s5.leaveHeld
  match out.cause with
  | none => s6
  | some e => s6.askRefresh r.wfn r.slot e t

/-- A picture comes before another in (WFN, slot) order. -/
def earlierPicture (a b : Nat × Nat) : Bool := decide (a.1 < b.1) || (a.1 == b.1 && decide (a.2 < b.2))

/-- A slice of an earlier picture waits to be decoded: it goes first, however late it came (R154, R194). -/
def State.earlierWaits (s : State) (f slot : Nat) : Bool :=
  s.ccx.rx.any (fun r => earlierPicture (r.wfn, r.slot) (f, slot) && s.laterPicture r.wfn r.slot && (s.chosenSlice r.wfn r.slot).isSome)

/-- SLICE_DECODE: the tile decodes its next slice in (WFN, slot) order (R154). -/
def execSliceDecode (wfn slot t : Nat) (s : State) : Host.Outcome State Fault Refusal :=
  let s0 := s.tick t
  match s0.tileChain?, s0.chosenSlice wfn slot with
  | some c, some r =>
    if !s0.laterPicture wfn slot || s0.earlierWaits wfn slot then .next s0
    else
      let s1 := { s0 with ccx := { s0.ccx with lastDecoded := some (wfn, slot),
                                               rx := s0.ccx.rx.filter (fun y => !earlierPicture (y.wfn, y.slot) (wfn, slot)) } }
      match readSlice (c.mode == 0) (cellCount c) (fun e => (poolEntry? s1.ccx.pools e).isSome) r.flags r.bytes with
      | none => .next (s1.rejectSlice slot wfn r.bytes)
      | some (h, cells) =>
        match (slotPool? s1.ccx.pools slot).bind (·.lastSeq) with
        | none => .next ((s1.decodeInto c r h cells 0 0 t).noteReceived slot)
        | some last =>
          let d := (h.seq + 256 - last) % 256
          if 128 ≤ d ∨ (d = 0 ∧ h.kind ≠ 1) then .next (s1.rejectSlice slot wfn r.bytes)
          else .next ((s1.decodeInto c r h cells (if h.kind = 1 then d else d - 1) last t).noteReceived slot)
  | _, _ => .next s0

/-- REFRESH_REQ_RETRY: no REFRESH slice came within 16 chain windows, and the request is sent once more (R156). -/
def execRefreshReqRetry (slot t : Nat) (s : State) : Host.Outcome State Fault Refusal :=
  let s0 := s.tick t
  match s0.ccx.asks.find? (fun a => a.slot == slot), s0.timeline? with
  | some a, some tl =>
    if a.again ∨ tl.nImage = 0 ∨ t < a.sentAt + 16 * periodNs tl * nsT / tl.nImage then .next s0
    else
      let l := s0.ccx.asks.map (fun x => if x.slot = slot then { x with again := true } else x)
      .next ({ s0 with ccx := { s0.ccx with asks := l } }.sendRefreshReq a.wfn slot a.ref)
  | _, _ => .next s0

/-! ### The sender: pools and refresh (R148, R157, R158) -/

/-- The coder of a tile at image start: pools EMPTY, QP at QP_INIT, FIRST_CELL 0 (R148, R161, R162). A sender's SEQ starts at
0, which the spec leaves open (log entry 24). -/
def freshCoder (c : ChainRec) (n ta : Nat) : TileCoder :=
  { ta := ta, pools := (freshPools c n).map (fun p => { p with lastSeq := some 0, received := true }),
    qp := List.replicate 4 (if c.mode = 0 then 0 else c.qpInit), firstCell := [0, 0, 0, 0] }

/-- Every tile pending refresh in ascending TA, as at image start and at a cold takeover (R158, R282). -/
def refreshAll (im : Image) (t : Nat) : List RefreshJob :=
  (im.chains.flatMap (fun c => (List.range c.n).map (fun p => c.chain * 64 + p))).mergeSort.map (fun ta =>
    { ta := ta, due := List.range im.timeline.nImage, ready := t, startup := true })

/-- Chain coding at image start: a sender's coders and refreshes, or a tile's pool (R148, R158). -/
def State.startCoding (s : State) (im : Image) (t : Nat) : State :=
  let n := im.timeline.nImage
  let coders := im.chains.flatMap (fun c => (List.range c.n).map (fun p => freshCoder c n (c.chain * 64 + p)))
  let base : CcxSt := { tiles := [], refresh := [], repeated := [], pools := [], rx := [], lastDecoded := none, decoded := [],
                        shown := s.ccx.shown, asks := [] }
  match im.role with
  | .sender => { s with ccx := { base with tiles := coders, refresh := refreshAll im t } }
  | .tile => { s with ccx := { base with pools := (match im.chains with | [] => [] | c :: _ => freshPools c n) } }

/-- The coder of a tile. -/
def State.coder? (s : State) (ta : Nat) : Option TileCoder := s.ccx.tiles.find? (fun x => x.ta == ta)
def State.setCoder (s : State) (x : TileCoder) : State :=
  { s with ccx := { s.ccx with tiles := s.ccx.tiles.map (fun y => if y.ta = x.ta then x else y) } }

/-- A chain whose refreshes need the reserve: SLICE_ROWS below the full-raw bound (R158). -/
def needsReserve (c : ChainRec) : Bool := decide (c.sliceRows < fullRawRows (cellCount c))

/-- The tile that holds the reserve of a chain: the oldest pending one (R158). -/
def State.reserveHolder (s : State) (chain : Nat) : Option RefreshJob :=
  s.ccx.refresh.find? (fun j => j.ta / 64 == chain)

/-- Whether a refresh job may use the window of (F, s): it has opened by the window's instant, and holds the reserve where
one is needed. -/
def State.refreshServed (s : State) (tl : Timeline) (c : ChainRec) (j : RefreshJob) (f slot : Nat) : Bool :=
  decide (j.ready ≤ windowOpen tl f slot) && (!needsReserve c || s.reserveHolder c.chain == some j)

/-- Mark every entry a tile holds unusable for prediction (R157). -/
def State.markUnusable (s : State) (ta : Nat) : State :=
  match s.coder? ta with
  | none => s
  | some x => s.setCoder { x with pools := x.pools.map (fun p => { p with entries := p.entries.map (fun e => { e with usable := false }) }) }

/-- Owe a tile a refresh from an instant, unless it is already being refreshed (R157). -/
def State.oweRefresh (s : State) (ta ready n : Nat) : State :=
  if s.ccx.refresh.any (fun j => j.ta == ta) then s
  else { s with ccx := { s.ccx with refresh := s.ccx.refresh ++ [{ ta := ta, due := List.range n, ready := ready, startup := false }] } }

/-- REFRESH_REQ: the sender marks the tile's pool and schedules REFRESH slices from the first window at least 200 µs later; the
primary of a formed pair tells the mirror that window (R157). -/
def execRefreshReq (_chain ta _wfn _slot _ref t : Nat) (s : State) : Host.Outcome State Fault Refusal :=
  let s0 := s.tick t
  match s0.image?, s0.chainOf? ta with
  | some im, some _ =>
    if !s0.isSender then .next s0
    else
      let s1 := s0.bump Reg.CCX_REFRESH_REQ 1
      if s1.ccx.refresh.any (fun j => j.ta == ta) then .next s1
      else
        let s2 := s1.markUnusable ta
        if s2.follows then .next s2
        else
          let o := nextOpening im.timeline (t + 200 * usT)
          .next ((s2.oweRefresh ta (t + 200 * usT) im.timeline.nImage).sendLink (.refresh ta o.1 o.2))
  | _, _ => .next s0

/-- REFRESH_RECORD: the mirror codes the same REFRESH slices from the same window (R157). -/
def execRefreshRecord (ta wfn slot t : Nat) (s : State) : Host.Outcome State Fault Refusal :=
  let s0 := s.tick t
  match s0.image? with
  | none => .next s0
  | some im =>
    if !s0.follows then .next s0
    else .next ((s0.markUnusable ta).oweRefresh ta (windowOpen im.timeline wfn slot) im.timeline.nImage)

/-! ### The encoder (R159 to R163) -/

/-- An element of ROI_CELLS names TA, slot and cell (R163). -/
def roiTa (v : Nat) : Nat := v % 256
def roiSlot (v : Nat) : Nat := v / 256 % 4
def roiCell (v : Nat) : Nat := v / 1024 % 1024

/-- The valid cells of ROI_CELLS for a tile and slot, each once, ascending. -/
def roiNamed (cs : List ChainRec) (n : Nat) (vs : List Nat) (ta slot : Nat) : List Nat :=
  match cs.find? (fun c => c.chain == ta / 64 && decide (ta % 64 < c.n)) with
  | none => []
  | some c =>
    if n ≤ slot then []
    else ((vs.filter (fun v => roiTa v == ta && roiSlot v == slot && decide (roiCell v < cellCount c))).map roiCell).dedup.mergeSort

/-- Elements of a newly written ROI_CELLS that are ignored or beyond ROI_MAX; duplicates count once (R163). -/
def roiOver (cs : List ChainRec) (n : Nat) (vs : List Nat) : Nat :=
  let once := (vs.map (· % 2 ^ 20)).dedup
  let valid (v : Nat) : Bool := (roiNamed cs n [v] (roiTa v) (roiSlot v)) != []
  let bad := (once.filter (fun v => !valid v)).length
  let keys := ((once.filter valid).map (· % 1024)).dedup
  bad + (keys.map (fun k =>
    let max' := ((cs.find? (fun c => c.chain == roiTa k / 64)).map (·.roiMax)).getD 0
    (roiNamed cs n vs (roiTa k) (roiSlot k)).length - max')).sum

/-- The ROI cells of (slot, TA) in force (R163). -/
def State.roiCells (s : State) (c : ChainRec) (ta slot : Nat) : List Nat :=
  (roiNamed s.chains ((s.timeline?.map (·.nImage)).getD 0) (s.blob 7) ta slot).take c.roiMax

/-- What the encoder reads of an entry for a cell moved by a vector: none unless every sample is available (R159). -/
def available (w h : Nat) (pools : List SlotPool) (x ref : Nat) (mvx mvy : Int) : Option (List Nat) :=
  match poolEntry? pools ref with
  | none => none
  | some e =>
    let ps := refPositions w h x mvx mvy
    if e.usable ∧ entryResolves w (some e) ps then some (entryPixels (some e) ps) else none

/-- The candidate vectors of a cell that may be read: the zero vector in each usable entry by rising index, then the hints. -/
def candidates (w h : Nat) (pools : List SlotPool) (x : Nat) (hints : List Hint) : List ((Nat × Int × Int) × List Nat) :=
  let vs := ((List.range 16).map (fun e => (e, (0 : Int), (0 : Int)))) ++
    (hints.filter (fun t => t.cell == x && decide (t.ref < 16) && decide (t.mvx.natAbs ≤ 64) && decide (t.mvy.natAbs ≤ 64))).map
      (fun t => (t.ref, t.mvx, t.mvy))
  vs.filterMap (fun v => (available w h pools x v.1 v.2.1 v.2.2).map (fun p => (v, p)))

/-- Sum of absolute differences over the three components. -/
def sad (a b : List Nat) : Nat :=
  ((a.zip b).map (fun p => ((List.range 3).map (fun k =>
    (((pixComp p.1 k : Nat) : Int) - ((pixComp p.2 k : Nat) : Int)).natAbs)).sum)).sum

/-- Coefficients of one block: Y = H (x - p) H, COEF = sign(Y) floor((|Y| + floor(S / 3)) / S) (R152). -/
def quantBlock (qp : Nat) (diff : List Int) : List Int :=
  let st := quantStep qp
  (hTransform diff).map (fun y =>
    let m : Int := (((y.natAbs + st / 3) / st : Nat) : Int)
    if y < 0 then -m else m)

/-- The 48 coefficient blocks of a cell against a prediction. -/
def quantCell (qp : Nat) (pix pred : List Nat) : List (List Int) :=
  let a := pix.toArray
  let b := pred.toArray
  (List.range 48).map (fun k =>
    let c := k / 16
    let sb := k % 16
    quantBlock qp ((List.range 16).map (fun i =>
      let q := (4 * (sb / 4) + i / 4) * 16 + 4 * (sb % 4) + i % 4
      ((pixComp (a.getD q 0) c : Nat) : Int) - ((pixComp (b.getD q 0) c : Nat) : Int))))

/-- The RESID candidate of least SAD, ties to the earlier, FLAT last (R159, 3). -/
def bestResid (flatOnly : Bool) (cands : List ((Nat × Int × Int) × List Nat)) (pix : List Nat) (qp : Nat) : Cell :=
  let flat := List.replicate 256 flatPixel
  let start : Option ((Nat × Int × Int) × List Nat × Nat) := none
  let best := if flatOnly then none else cands.foldl (fun b c =>
    let d := sad pix c.2
    match b with
    | none => some (c.1, c.2, d)
    | some x => if d < x.2.2 then some (c.1, c.2, d) else b) start
  match best with
  | some (v, p, d) =>
    if sad pix flat < d then .resid true 0 0 0 (quantCell qp pix flat) else .resid false v.1 v.2.1 v.2.2 (quantCell qp pix p)
  | none => .resid true 0 0 0 (quantCell qp pix flat)

/-- The mode R159 chooses for a cell. `lossy`: RESID may be used; `refresh`: only FLAT RESID and RAW. -/
def chooseCell (w h qp slot : Nat) (lossy refresh : Bool) (pools : List SlotPool) (hints : List Hint) (pix : List Nat) (x : Nat) : Cell :=
  let cands := if refresh then [] else candidates w h pools x hints
  let same := !refresh && (match available w h pools x (4 * slot) 0 0 with | some p => p == pix | none => false)
  if same then .inherit
  else
    match cands.find? (fun c => c.2 == pix) with
    | some c => .move c.1.1 c.1.2.1 c.1.2.2
    | none =>
      if lossy then
        let r := bestResid refresh cands pix qp
        if (putCell r).length ≤ 9220 then r else .raw pix
      else .raw pix

/-- The charge of a cell: a run is charged when it opens (R160). -/
def chargeOf (um : Nat) (runOpen : Bool) (c : Cell) : Nat :=
  match c with
  | .inherit => if runOpen then 0 else um
  | c => (putCell c).length

/-- Rate control in progress (R160): bits spent, raw bits kept for ROI cells, starvation, the open run, the cells coded so far,
newest first, the owed cells. -/
structure RateSt where
  spent : Nat
  roiLeft : Nat
  starved : Bool
  runOpen : Bool
  cells : List Cell
  owed : List Nat
  deriving DecidableEq, Repr

/-- One cell of the loop of R160. `budget` is none where no budget test applies. `mode` is R159's choice for the cell, and
`lossless` its choice as an ROI cell. -/
def rateStep (um : Nat) (budget : Option Nat) (r : RateSt) (x q : Nat) (isRoi : Bool) (mode lossless : Cell) : RateSt :=
  let take (c : Cell) (r : RateSt) : RateSt :=
    { r with spent := r.spent + chargeOf um r.runOpen c, runOpen := c == .inherit, cells := c :: r.cells }
  match budget with
  | none => take (if isRoi then lossless else mode) r
  | some b =>
    if isRoi then take lossless { r with roiLeft := r.roiLeft - 9220 }
    else if r.starved then take .inherit { r with owed := r.owed ++ [x] }
    else
      let k := chargeOf um r.runOpen mode
      let opens := if mode = .inherit then 0 else 1
      if b < r.spent + k + r.roiLeft + um * (q + opens) then
        take .inherit { r with starved := true, owed := r.owed ++ [x] }
      else take mode r

/-- The loop of R160 over the cells in coding order. -/
def rateLoop (um : Nat) (budget : Option Nat) (roi : List Nat) (mode lossless : Nat → Cell) : List Nat → RateSt → RateSt
  | [], r => r
  | x :: xs, r =>
    let q := (xs.filter roi.contains).length
    rateLoop um budget roi mode lossless xs (rateStep um budget r x q (roi.contains x) (mode x) (lossless x))

/-- The QP after a NORMAL or REFRESH slice of a lossy chain (R162): charge `f`, budget `b`. -/
def nextQp (qpMin qp f b : Nat) (starved : Bool) : Nat :=
  let v : Int := if starved then qp + 12
    else if 15 * b ≤ 16 * f then qp + 4
    else if 7 * b ≤ 8 * f then qp + 1
    else if 2 * f < b then (qp : Int) - 2
    else if 4 * f < 3 * b then (qp : Int) - 1
    else qp
  (clampInt qpMin 47 v).toNat

/-- The KIND due for a tile's slice (R158, R160): 1 REPEAT for a breached picture or a tile not yet refreshed, 2 REFRESH when a
refresh is due and served, else 0; and whether REPEAT stands for a breach. -/
def State.sliceKind (s : State) (im : Image) (c : ChainRec) (ta f slot : Nat) : Nat × Bool :=
  if s.sinkTainted f slot (0x3000 + c.chain) then (1, true)
  else
    match s.ccx.refresh.find? (fun j => j.ta == ta && j.due.contains slot) with
    | none => (0, false)
    | some j => if s.refreshServed im.timeline c j f slot then (2, false) else (if j.startup then 1 else 0, false)

/-- What a coder makes of a picture: the new coder state, FLAGS, bytes, FSIG, cells owed. -/
structure CodedSlice where
  coder : TileCoder
  flags : Nat
  bytes : List Byte
  fsig : Nat
  owed : Nat
  deriving DecidableEq, Repr

/-- Replace element `i` of a list of four. -/
def setAt (l : List Nat) (i v : Nat) : List Nat := l.set i v

/-- Code a REPEAT slice: one INHERIT run; pool, SEQ and owed cells stay (R150, R154, R161). -/
def codeRepeat (c : ChainRec) (x : TileCoder) (slot : Nat) : CodedSlice :=
  let n := cellCount c
  let seq := ((slotPool? x.pools slot).bind (·.lastSeq)).getD 0
  let qp := if c.mode = 0 then 0 else x.qp.getD slot 0
  let h : SliceHead := { version := 1, kind := 1, lossy := 0, qp := qp, firstCell := 0, seq := seq, reserved := 0 }
  let px := match poolEntry? x.pools (4 * slot) with
    | some e => if e.state = 1 then e.pixels else List.replicate (c.width * c.height) 0
    | none => List.replicate (c.width * c.height) 0
  { coder := x, flags := slot + 4, bytes := writeSlice h (List.replicate n .inherit), fsig := frameSignature px, owed := 0 }

/-- Code a NORMAL (kind 0) or REFRESH (kind 2) slice of a picture (R159 to R162). -/
def codePicture (c : ChainRec) (x0 : TileCoder) (slot kind f : Nat) (roi : List Nat) (hints : List Hint) (pic : List Nat) : CodedSlice :=
  let n := cellCount c
  let lossy := c.mode == 1
  let x := if kind = 2 ∧ lossy then { x0 with qp := setAt x0.qp slot c.qpInit } else x0
  let qp := if lossy then x.qp.getD slot 0 else 0
  let first := x.firstCell.getD slot 0
  let seq := (((slotPool? x.pools slot).bind (·.lastSeq)).getD 0 + 1) % 256
  let order := (List.range n).map (fun i => (first + i) % n)
  let arr := pic.toArray
  let pix (i : Nat) : List Nat :=
    let o := cellOrigin c.width i
    (List.range 256).map (fun k => arr.getD ((o.2 + k / 16) * c.width + o.1 + k % 16) 0)
  let rows := c.sliceRows + (if kind = 2 then c.refreshRows else 0)
  let um := uMax n
  let budget := if lossy ∧ kind = 0 then some (256 * rows) else none
  let mode (i : Nat) : Cell := chooseCell c.width c.height qp slot lossy (kind == 2) x.pools hints (pix i) i
  let lossless (i : Nat) : Cell := chooseCell c.width c.height qp slot false (kind == 2) x.pools hints (pix i) i
  let r := rateLoop um budget roi mode lossless order
    { spent := 48, roiLeft := 9220 * (roi.filter (fun i => decide (i < n))).length, starved := false, runOpen := false, cells := [], owed := [] }
  let cells := r.cells.reverse
  let h : SliceHead := { version := 1, kind := kind, lossy := flag lossy, qp := qp, firstCell := first, seq := seq, reserved := 0 }
  let shown := match poolEntry? x.pools (4 * slot) with
    | some e => if e.state = 1 then e.pixels else List.replicate (c.width * c.height) 0
    | none => List.replicate (c.width * c.height) 0
  let out := decodePicture c.width c.height qp slot first x.pools shown cells
  let entry : PoolEntry := { state := 1, seq := seq, wfn := f, unresolved := out.unresolved, pixels := out.pixels, usable := true }
  let qp' := if lossy then nextQp c.qpMin qp r.spent (256 * rows) r.starved else qp
  { coder := { x with pools := modPool x.pools slot (fun p => { shiftIn p entry with lastSeq := some seq }),
                      qp := setAt x.qp slot qp', firstCell := setAt x.firstCell slot (r.owed.headD 0) },
    flags := slot + 4 * kind + (if lossy then 16 else 0) + (if first ≠ 0 then 32 else 0),
    bytes := writeSlice h cells, fsig := frameSignature out.pixels, owed := r.owed.length }

/-- A REFRESH slice was coded: the slot is no longer due, and a tile with none due leaves the queue; COLD ends with the last
start-up refresh (R158, Table 16.7). -/
def State.refreshDone (s : State) (ta slot : Nat) : State :=
  let l := (s.ccx.refresh.map (fun j => if j.ta = ta then { j with due := j.due.filter (· != slot) } else j)).filter (fun j => j.due != [])
  let s1 := { s with ccx := { s.ccx with refresh := l } }
  if s1.bit Reg.RED_STATE Fld.RED_STATE_COLD ∧ !l.any (·.startup) then s1.putRed Fld.RED_STATE_COLD 0 else s1

/-- CHN_CHAIN of a chain: UP, the tiles agree, not reported down; a sender sends slices on no other chain (R15, R144). -/
def State.chainRuns (s : State) (chain : Nat) : Bool :=
  let w := s.reg (Reg.CHN_CHAIN chain)
  bitOf w 7 && !bitOf w 8 && !bitOf w 9

/-- A joiner codes a tile only once it has applied its record, and then without transmitting (R292). -/
def State.codesTile (s : State) (ta : Nat) : Bool :=
  if s.linkCode = 1 ∧ s.bit Reg.RED_STATE Fld.RED_STATE_JOINER then s.red.applied.contains ta else true
def State.transmits (s : State) : Bool := !(s.linkCode == 1 && s.bit Reg.RED_STATE Fld.RED_STATE_JOINER)

/-- The chain window of (F, s) is open at an instant: it opened, and the next one has not (R20). -/
def State.inWindow (s : State) (im : Image) (f slot t : Nat) : Bool :=
  s.cmp.windows.any (fun w => w.wfn == f && w.slot == slot) && decide (windowOpen im.timeline f slot ≤ t) &&
    decide (t < windowOpen im.timeline f (slot + 1))

/-- SLICE_ENCODE: the sender codes a tile's slice of (F, s) (R157 to R162, R278, R279), sends it, and reports its signatures to
the other sender. A picture whose windows open in the held state is not coded (R358). -/
def execSliceEncode (e : EncodeIn) (s : State) : Host.Outcome State Fault Refusal :=
  let s0 := s.tick e.t
  match s0.image?, s0.chainOf? e.ta, s0.coder? e.ta with
  | some im, some c, some x =>
    if !s0.inWindow im e.wfn e.slot e.t ∨ im.role ≠ .sender ∨ !s0.chainRuns c.chain ∨ s0.uncoded e.wfn ∨ !s0.codesTile e.ta ∨ im.timeline.nImage ≤ e.slot then .next s0
    else
      let k := s0.sliceKind im c e.ta e.wfn e.slot
      let inp := s0.composeIn e.wfn e.slot e.ta
      let r := if k.1 = 1 then codeRepeat c x e.slot
        else codePicture c x e.slot k.1 e.wfn (s0.roiCells c e.ta e.slot) e.hints (s0.composeTile inp e.slot c.width c.height)
      let s1 := s0.setCoder r.coder
      let s2 := if k.1 = 1 then s1.bump Reg.CCX_REPEAT 1
        else s1.bump Reg.CMP_PACK_ERR (s1.badBricks inp e.slot c.width c.height).length
      let s3 := if k.1 = 2 then (s2.bump Reg.CCX_REFRESH_SLICES 1).refreshDone e.ta e.slot else s2
      let s4 := if r.owed = 0 then s3 else (s3.bump Reg.CCX_STARVED_CELLS r.owed).bump Reg.CCX_STARVED_SLICES 1
      let s5 := if k.2 ∧ !s4.ccx.repeated.contains (e.wfn, e.slot) then
          let s' := { s4 with ccx := { s4.ccx with repeated := (e.wfn, e.slot) :: s4.ccx.repeated.take 15 } }
          s'.bump Reg.SCH_SLOT_REPEAT 1
        else s4
      let scrc := crc32c r.bytes
      let sig : SliceSig := { ta := e.ta, wfn := e.wfn, slot := e.slot, scrc := scrc, fsig := r.fsig }
      let s6 := if s5.transmits then s5.emit (.slice c.chain e.ta r.flags (e.wfn % 2 ^ 40) (r.bytes.length / 32) scrc r.fsig r.bytes) else s5
      .next (((s6.sendLink (.sliceSig e.ta e.wfn e.slot scrc r.fsig)).ownSig sig).sendTileRecord im r.coder e.wfn e.slot)
  | _, _, _ => .next s0

/-! ### Registers (R166) -/

/-- CCX_POOL(e) (Table 8.11). -/
def State.poolView (s : State) (e : Nat) : Nat :=
  match poolEntry? s.ccx.pools e with
  | none => 0
  | some p => if p.state = 0 then 0 else p.state + (if p.unresolved = [] then 0 else 4) + p.seq % 256 * 256 + p.wfn % 65536 * 65536

/-- Whether a refresh still waits: for the reserve where its chain needs one, else for its first window to open (R158). -/
def State.refreshWaits (s : State) (holders : List RefreshJob) (j : RefreshJob) : Bool :=
  if s.chains.any (fun c => c.chain == j.ta / 64 && needsReserve c) then !holders.contains j
  else match s.timeline? with
    | none => true
    | some tl => let o := nextOpening tl j.ready; decide (s.now < windowOpen tl o.1 o.2)

/-- CCX_REFRESH_STAT (Table 8.10). -/
def State.refreshView (s : State) : Nat :=
  let holders := (s.chains.filter needsReserve).filterMap (fun c => s.reserveHolder c.chain)
  let waiting := (s.ccx.refresh.filter (s.refreshWaits holders)).length
  match holders with
  | [] => 0xFF + satTo 511 waiting * 65536
  | j :: _ => j.ta % 256 + j.ta / 64 % 4 * 256 + (j.due.length - 1) % 4 * 1024 + satTo 511 waiting * 65536

/-- CCX registers computed at a read. -/
def State.ccxView (s : State) (a : Nat) : Option Nat :=
  if a = Reg.CCX_REFRESH_STAT then some s.refreshView
  else if inRange a (Reg.CCX_POOL 0) (Reg.CCX_POOL 15) then some (s.poolView ((a - Reg.CCX_POOL 0) / 4))
  else if inRange a (Reg.CCX_QP 0) (Reg.CCX_QP 255) then
    some (match s.coder? ((a - Reg.CCX_QP 0) / 4) with
      | none => 0
      | some x => (List.range 4).foldl (fun v k => v + x.qp.getD k 0 % 64 * 2 ^ (8 * k)) 0)
  else if inRange a (Reg.CCX_FIRST 0) (Reg.CCX_FIRST 255) then
    some (match s.coder? ((a - Reg.CCX_FIRST 0) / 4) with
      | none => 0
      | some x => (List.range 4).foldl (fun v k => v + x.firstCell.getD k 0 / 4 % 256 * 2 ^ (8 * k)) 0)
  else none

/-- The counters of the CCX block, and its one writable register. -/
def ccxCounter (a : Nat) : Bool := inRange a Reg.CCX_STARVED_CELLS Reg.CCX_ROI_OVER
def State.ccxWrite (s : State) (a : Nat) (data : Word) : State :=
  if a = Reg.CCX_CNT_CLEAR then s.clearCounters data ccxCounter else s

end Sys2Proof.Machine
end

