-- ==== Sys2Proof/Machine/Dram.lean ====
section
/-! DEFINITION. The LPDDR6 memory controller (chapter 14): urgency and grants, pages, refresh, gather bursts, set points and
self-refresh. -/
namespace Sys2Proof.Machine

/-- The DRAM section of the running image. -/
def State.dramRec? (s : State) : Option DramRec := s.gen.running.map (·.dram)

/-- Channels of a mask, ascending. -/
def chanList (mask : Nat) : List Nat := setBits 8 mask

/-- CONTRACT record of a DRAM port. -/
def State.portRec? (s : State) (p : Nat) : Option PortRec := s.gen.running.bind (fun im => im.ports.find? (fun r => r.port == p))

/-- The channel that holds an address for a port: 4 KiB units in ascending order of its CHANNELS (R248). -/
def State.channelOf (s : State) (p addr : Nat) : Nat :=
  match s.portRec? p with
  | none => 0
  | some r => let l := chanList r.channels; l.getD (addr / 4096 % Nat.max 1 l.length) 0

/-- The index of the active set point, and its controller cycle in units of 2^-16 ns: 8 data transfers (Table 14.3). -/
def State.spActive (s : State) : Nat := s.get Reg.DRC_STAT Fld.DRC_STAT_SP_ACTIVE
def State.cycleT (s : State) : Nat :=
  match s.dramRec? with
  | none => 0
  | some d => 8000 * nsT / Nat.max 1 (setPointRate (d.spCodes.getD s.spActive 0))

/-- A channel's state, and its replacement. -/
def State.dramChan? (s : State) (c : Nat) : Option DramChan := s.drc.chans.find? (fun x => x.channel == c)
def State.modChan (s : State) (c : Nat) (f : DramChan → DramChan) : State :=
  { s with drc := { s.drc with chans := s.drc.chans.map (fun x => if x.channel = c then f x else x) } }

/-- A port's state, created at its first use. -/
def freshPort (p : Nat) : DramPort :=
  { port := p, head := none, lastGrant := none, served := 0, lastServed := 0, maxLat := 0, l3 := 0 }
def State.dramPort (s : State) (p : Nat) : DramPort := (s.drc.ports.find? (fun x => x.port == p)).getD (freshPort p)
def State.putPort (s : State) (q : DramPort) : State :=
  { s with drc := { s.drc with ports := s.drc.ports.filter (fun x => x.port != q.port) ++ [q] } }

/-- Pending heads. -/
def State.heads (s : State) : List DramReq := s.drc.ports.filterMap (·.head)

/-! ### Urgency and grants (R250, R251) -/

/-- Age level of a request (R250): a against T/2, 3T/4 and T. -/
def ageLevel (latencyNs age : Nat) : Nat :=
  let tT := latencyNs * nsT
  if 2 * age < tT then 0 else if 4 * age < 3 * tT then 1 else if age < tT then 2 else 3

/-- Progress level of a real-time port (R250): served / BYTES_PER_FRAME against elapsed / DEADLINE, multiplied out. -/
def progressLevel (r : PortRec) (served elapsed : Nat) : Nat :=
  let dl := r.deadline * nsT
  let have_ := served * dl
  let want := elapsed * r.bytesPerFrame
  let unit := r.bytesPerFrame * dl
  if want ≤ have_ then 0 else if 8 * want ≤ 8 * have_ + unit then 1 else if 4 * want ≤ 4 * have_ + unit then 2 else 3

/-- R(F) of the current instance: the latest frame start. -/
def State.instanceStart (s : State) (t : Nat) : Nat :=
  match s.timeline? with
  | none => 0
  | some tl => frameStart tl (wfnAt tl t)

/-- Urgency level of a head at an instant; a bulk port's is its age level capped at 1. -/
def State.urgency (s : State) (q : DramReq) (t : Nat) : Nat :=
  match s.portRec? q.port with
  | none => 0
  | some r =>
    let a := ageLevel r.latencyTarget (t - q.t)
    if r.cls = 1 then Nat.min a 1
    else Nat.max a (progressLevel r (s.dramPort q.port).served (t - s.instanceStart t))

/-- R251: a head is ineligible while an older pending request was already pending at the previous grant to its port. -/
def State.eligibleHead (s : State) (h : DramReq) : Bool :=
  match (s.dramPort h.port).lastGrant with
  | none => true
  | some g => !s.heads.any (fun r => decide (r.t < h.t) && decide (r.t ≤ g))

/-- A channel serves requests: no change runs, no gather burst, not in self-refresh (R258, R259, R262). -/
def State.serves (s : State) (c : Nat) : Bool :=
  !s.bit Reg.DRC_STAT Fld.DRC_STAT_SWITCHING &&
    (match s.dramChan? c with
     | none => true
     | some x => x.burst.isNone && x.srCommit.isNone)

/-- The order of grants: highest level, then oldest, then lowest port index. -/
def State.better (s : State) (t : Nat) (a b : DramReq) : DramReq :=
  let la := s.urgency a t
  let lb := s.urgency b t
  if la < lb then b else if lb < la then a
  else if b.t < a.t then b else if a.t < b.t then a else if b.port < a.port then b else a

/-- The head the arbiter grants. -/
def State.grantee? (s : State) (t : Nat) : Option DramReq :=
  match s.heads.filter (fun h => s.eligibleHead h && s.serves (s.channelOf h.port h.addr)) with
  | [] => none
  | h :: hs => some (hs.foldl (s.better t) h)

/-- An access opens its row; another open row of the bank is precharged first (R252). -/
def State.openRow (s : State) (c : Nat) (q : DramReq) (t : Nat) : State :=
  let rest := s.drc.rows.filter (fun r => !(r.channel == c && r.sub == q.sub && r.bank == q.bank))
  { s with drc := { s.drc with rows := rest ++
      [{ channel := c, sub := q.sub, bank := q.bank, row := q.row, lastAt := t, cycles := s.param 6 64 }] } }

/-- DRAM_REQUEST: a port presents its head; it abandons an entry into self-refresh that is not committed, or forces the exit
of one that is (R250, R262). An address outside the populated space does not exist (R248). -/
def execDramRequest (r : DramReq) (s : State) : Host.Outcome State Fault Refusal :=
  let s1 := s.tick r.t
  match s1.dramRec? with
  | none => .next s1
  | some d =>
    if dramBytes d < r.addr + 64 * r.words then .fault .unpopulatedDram
    else if (s1.portRec? r.port).isNone ∨ (s1.dramPort r.port).head.isSome then .next s1
    else
      let c := s1.channelOf r.port r.addr
      let s2 := s1.putPort { s1.dramPort r.port with head := some r }
      match s2.dramChan? c with
      | none => .next s2
      | some x =>
        match x.srCommit with
        | none => .next (s2.modChan c (fun y => { y with idleSince := r.t }))
        | some k =>
          if r.t < k then
            .next ((s2.bump Reg.DRC_SR_ABANDON 1).modChan c (fun y => { y with srCommit := none, idleSince := r.t }))
          else if x.exiting then .next s2
          else .next ((s2.bump Reg.DRC_SR_COLLIDE 1).modChan c (fun y => { y with exiting := true }))

/-- DRAM_GRANT: the arbiter serves the eligible head of highest urgency (R251). -/
def execDramGrant (t : Nat) (s : State) : Host.Outcome State Fault Refusal :=
  let s1 := s.tick t
  match s1.grantee? t with
  | none => .next s1
  | some q =>
    let p := s1.dramPort q.port
    let c := s1.channelOf q.port q.addr
    let lvl := s1.urgency q t
    let lat := satTo 65535 ((t - q.t) / nsT)
    let p1 : DramPort := { p with head := none, lastGrant := some t, served := p.served + 64 * q.words, maxLat := Nat.max p.maxLat lat, l3 := satTo 0xFFFFFFFF (p.l3 + flag (lvl == 3)) }
    let s2 := ((s1.putPort p1).openRow c q t).modChan c (fun y => { y with idleSince := t })
    if q.write then .next (s2.graphWrite q.addr (q.data.take (64 * q.words)))
    else .next s2

/-- DRAM_READ_RETURN: a burst failing its check code is read once more; a word failing again carries the breach tag of R55
and is counted (R248), and the operation that reads it works on tagged data (R55). -/
def execDramReadReturn (r : DramRead) (s : State) : Host.Outcome State Fault Refusal :=
  let s1 := s.tick r.t
  let bad := r.failedAgain.filter (fun w => r.failed.contains w && decide (w < r.words))
  let s2 := s1.bump Reg.DRC_META_ERR bad.length
  let s3 := match r.op with
    | some o => if bad = [] then s2 else s2.modOp o.1 o.2 (fun x => { x with tainted := true })
    | none => s2
  .next (s3.emit (.dramData r.port (cellRead (fun _ => 0) s3.dram r.addr (64 * r.words)) bad))

/-! ### Pages and refresh (R252 to R254) -/

/-- The idle timer of a row has run out by an instant. -/
def State.rowExpired (s : State) (r : OpenRow) (t : Nat) : Bool := decide (r.lastAt + r.cycles * s.cycleT ≤ t)

/-- PAGE_IDLE_EXPIRY: the bank precharges its row once its timer has run out (R252). -/
def execPageIdleExpiry (channel sub bank t : Nat) (s : State) : Host.Outcome State Fault Refusal :=
  let s1 := s.tick t
  .next { s1 with drc := { s1.drc with rows := s1.drc.rows.filter (fun r =>
    !(r.channel == channel && r.sub == sub && r.bank == bank && s1.rowExpired r t)) } }

/-- An idle bank: precharged or its timer run out, and named by no pending request of level 1 or above (R253). -/
def State.idleBank (s : State) (c sub b t : Nat) : Bool :=
  s.drc.rows.all (fun r => !(r.channel == c && r.sub == sub && r.bank == b) || s.rowExpired r t) &&
    s.heads.all (fun h => !(s.channelOf h.port h.addr == c && h.sub == sub && h.bank == b && decide (1 ≤ s.urgency h t)))

/-- The debt of a sub-channel. -/
def State.subRefresh (s : State) (c sub : Nat) : SubRefresh :=
  (s.drc.refresh.find? (fun r => r.channel == c && r.sub == sub)).getD { channel := c, sub := sub, debt := 0, nextBank := 0 }
def State.putRefresh (s : State) (r : SubRefresh) : State :=
  { s with drc := { s.drc with refresh := s.drc.refresh.filter (fun x => !(x.channel == r.channel && x.sub == r.sub)) ++ [r] } }

/-- REFRESH_DUE: one more interval is due. With every bank idle refresh is pulled in to -8; each idle bank takes a due
refresh; with none it is postponed, and at debt +8 it is forced on the next bank (R253, R254). -/
def execRefreshDue (channel sub t : Nat) (s : State) : Host.Outcome State Fault Refusal :=
  let s1 := s.tick t
  match s1.dramChan? channel with
  | none => .next s1
  | some x =>
    if x.srCommit.any (fun k => decide (k ≤ t)) then .next s1
    else
      let r := s1.subRefresh channel sub
      let idle := ((List.range Config.dramBanks).filter (fun b => s1.idleBank channel sub b t)).length
      if idle = Config.dramBanks then .next (s1.putRefresh { r with debt := -8 })
      else if 0 < idle then .next (s1.putRefresh { r with debt := r.debt + 1 - (Nat.min idle (Nat.max 1 (r.debt + 1).toNat) : Nat) })
      else if 8 ≤ r.debt then
        let s2 := s1.bump Reg.DRC_REF_FORCED 1
        let s3 := { s2 with drc := { s2.drc with rows := s2.drc.rows.filter (fun o => !(o.channel == channel && o.sub == sub && o.bank == r.nextBank)) } }
        .next (s3.putRefresh { r with nextBank := (r.nextBank + 1) % Nat.max 1 Config.dramBanks })
      else .next ((s1.putRefresh { r with debt := r.debt + 1 }).raise Reg.DRC_REF_DEBT_MAX (r.debt + 1).toNat)

/-! ### Set points (R259, R260) -/

/-- Every gather burst in progress is abandoned (R260). -/
def State.abandonBursts (s : State) : State :=
  let n := (s.drc.chans.filter (fun x => x.burst.isSome)).length
  let track := ((s.dramRec?.map (·.trackMs)).getD 0) * msT
  { s.bump Reg.DRC_TRACK_ABANDON n with drc := { s.drc with chans := s.drc.chans.map (fun x =>
      if x.burst.isSome then { x with burst := none, trackDue := x.trackDue + track } else x) } }

/-- Populated channels take a state. -/
def State.chanStates (s : State) (st : Nat) : State :=
  (chanList ((s.dramRec?.map (·.chanMask)).getD 0)).foldl (fun s c => s.put (Reg.DRC_CH_STAT c) Fld.DRC_CH_STAT_STATE st) s

/-- The pending change starts. -/
def State.startSwitch (s : State) : State :=
  let s1 := ((s.putBit Reg.DRC_STAT Fld.DRC_STAT_SWITCHING true).putBit Reg.DRC_STAT Fld.DRC_STAT_PENDING false).chanStates 4
  { s1 with drc := { s1.drc with inWindow := false, switchTo := s.get Reg.DRC_STAT Fld.DRC_STAT_SP_PENDING } }

/-- Some populated channel is in self-refresh. -/
def State.anySelfRefresh (s : State) : Bool := s.drc.chans.any (fun x => x.srCommit.isSome)

/-- A change waits. -/
def State.spWaiting (s : State) : Bool := s.bit Reg.DRC_STAT Fld.DRC_STAT_PENDING

/-- A request for a set-point change (R259): it replaces one not yet started; the active set point cancels it; an undeclared
target is ignored. An urgent change starts at once, or during the exit of a channel in self-refresh (R262). -/
def State.requestSetPoint (s : State) (target : Nat) (urgent : Bool) : State :=
  match s.dramRec? with
  | none => s
  | some d =>
    if d.spCodes.length ≤ target then s
    else if target = s.spActive then
      let s1 := s.putBit Reg.DRC_STAT Fld.DRC_STAT_PENDING false
      { s1 with drc := { s1.drc with urgent := false, inWindow := false } }
    else if !urgent ∧ d.switchLen = 0 then s.putBit Reg.DRC_STAT Fld.DRC_STAT_REJECT true
    else
      let s1 := (s.put Reg.DRC_STAT Fld.DRC_STAT_SP_PENDING target).putBit Reg.DRC_STAT Fld.DRC_STAT_PENDING true
      let s2 : State := { s1 with drc := { s1.drc with urgent := urgent, inWindow := false } }
      if urgent && !s2.bit Reg.DRC_STAT Fld.DRC_STAT_SWITCHING && !s2.anySelfRefresh then s2.abandonBursts.startSwitch else s2

/-- SWITCH_WINDOW: a pending non-urgent change starts at R(F) + SWITCH_START, after a burst in progress; it waits for a later
window while a channel is in self-refresh (R259, R260, R262). -/
def execSwitchWindow (t : Nat) (s : State) : Host.Outcome State Fault Refusal :=
  let s1 := s.tick t
  match s1.dramRec? with
  | none => .next s1
  | some d =>
    if d.switchLen = 0 ∨ t ≠ s1.instanceStart t + d.switchStart * nsT ∨ !s1.spWaiting ∨ s1.drc.urgent ∨ s1.anySelfRefresh ∨ s1.bit Reg.DRC_STAT Fld.DRC_STAT_SWITCHING then .next s1
    else if s1.drc.chans.any (fun x => x.burst.isSome) then .next { s1 with drc := { s1.drc with inWindow := true } }
    else .next s1.startSwitch

/-- A change that waits for the set point now active is cancelled (R259). -/
def State.cancelReached (s : State) : State :=
  if s.get Reg.DRC_STAT Fld.DRC_STAT_SP_PENDING = s.spActive then s.putBit Reg.DRC_STAT Fld.DRC_STAT_PENDING false else s

/-- SET_POINT_SWITCH_COMPLETE: every populated channel runs at the new set point (R259). -/
def execSetPointSwitchComplete (t : Nat) (s : State) : Host.Outcome State Fault Refusal :=
  let s1 := s.tick t
  if !s1.bit Reg.DRC_STAT Fld.DRC_STAT_SWITCHING then .next s1
  else
    let s2 := ((s1.put Reg.DRC_STAT Fld.DRC_STAT_SP_ACTIVE s1.drc.switchTo).putBit Reg.DRC_STAT Fld.DRC_STAT_SWITCHING false).bump Reg.DRC_SW_COUNT 1
    let s3 := (s2.chanStates 2).cancelReached
    if s3.spWaiting && s3.drc.urgent then .next s3.startSwitch else .next s3

/-- GATHER_BURST: due, and no request of level 2 or above pends on the channel, or 10 ms have passed (R258). -/
def execGatherBurst (channel t : Nat) (s : State) : Host.Outcome State Fault Refusal :=
  let s1 := s.tick t
  match s1.dramChan? channel with
  | none => .next s1
  | some x =>
    let busy := s1.heads.any (fun h => s1.channelOf h.port h.addr == channel && decide (2 ≤ s1.urgency h t))
    if t < x.trackDue ∨ x.burst.isSome ∨ x.srCommit.isSome ∨ s1.bit Reg.DRC_STAT Fld.DRC_STAT_SWITCHING ∨ (busy ∧ t < x.trackDue + 10 * msT) then .next s1
    else .next (s1.modChan channel (fun y => { y with burst := some s1.spActive }))

/-- GATHER_BURST_COMPLETE: its data go to the table of the set point they were gathered at; a change that waited in its window
starts (R258, R260). -/
def execGatherBurstComplete (g : GatherDone) (s : State) : Host.Outcome State Fault Refusal :=
  let s1 := s.tick g.t
  match s1.dramChan? g.channel with
  | none => .next s1
  | some x =>
    match x.burst with
    | none => .next s1
    | some sp =>
      let track := ((s1.dramRec?.map (·.trackMs)).getD 0) * msT
      let s2 := (s1.bump Reg.DRC_TRACK_DONE 1).modChan g.channel (fun y => { y with burst := none, trackDue := y.trackDue + track, refOver := g.refOver })
      let s3 : State := { s2 with drc := { s2.drc with trained := s2.drc.trained.filter (fun e => e.1 != (g.channel, sp)) ++ [((g.channel, sp), g.osc)] } }
      let s4 := s3.putBit Reg.DRC_STAT Fld.DRC_STAT_REF_OVER (s3.drc.chans.any (·.refOver))
      if s4.drc.inWindow && s4.drc.chans.all (fun y => y.burst.isNone) then .next s4.startSwitch else .next s4

/-! ### Self-refresh (R261, R262) -/

/-- A real-time port's traffic window is open, or it has no port record (R261). -/
def State.trafficOpen (s : State) (im : Image) (c t : Nat) : Bool :=
  let off := t - s.instanceStart t
  let p := periodNs im.timeline * nsT
  im.ports.any (fun r => r.cls == 0 && natBit r.channels c &&
    (match im.dram.ports.find? (fun q => q.port == r.port) with
     | none => true
     | some q =>
       decide (q.winStart * nsT ≤ off ∧ off < (q.winStart + q.winLen) * nsT) ||
       decide (q.winStart * nsT ≤ off + p ∧ off + p < (q.winStart + q.winLen) * nsT)))

/-- A channel enters self-refresh: the debts are served by one all-bank refresh, then the commit point (chapter 14). -/
def State.enterSelfRefresh (s : State) (c commitAt : Nat) : State :=
  let s1 := s.modChan c (fun y => { y with srCommit := some commitAt, exiting := false })
  { s1 with drc := { s1.drc with rows := s1.drc.rows.filter (fun r => r.channel != c), refresh := s1.drc.refresh.map (fun r => if r.channel = c then { r with debt := 0 } else r) } }

/-- SELF_REFRESH_IDLE: idle for SR_IDLE outside traffic windows (R261). -/
def execSelfRefreshIdle (channel commitAt t : Nat) (s : State) : Host.Outcome State Fault Refusal :=
  let s1 := s.tick t
  let idle := fieldOf (s1.reg Reg.DRC_SR_CTRL) 0 16
  match s1.gen.running, s1.dramChan? channel with
  | some im, some x =>
    if idle = 0 ∨ x.srCommit.isSome ∨ x.burst.isSome ∨ s1.bit Reg.DRC_STAT Fld.DRC_STAT_SWITCHING ∨ t < x.idleSince + idle * 64 * s1.cycleT ∨ s1.heads.any (fun h => s1.channelOf h.port h.addr == channel) ∨ s1.trafficOpen im channel t ∨ commitAt < t then .next s1
    else .next (s1.enterSelfRefresh channel commitAt)
  | _, _ => .next s1

/-- A channel leaves self-refresh; an urgent change that waited is made during the exit (R262). -/
def State.leaveSelfRefresh (s : State) (c t : Nat) : State :=
  let s1 := (s.modChan c (fun y => { y with srCommit := none, exiting := false, idleSince := t })).put (Reg.DRC_CH_STAT c) Fld.DRC_CH_STAT_STATE 2
  if s1.spWaiting && s1.drc.urgent && !s1.anySelfRefresh && !s1.bit Reg.DRC_STAT Fld.DRC_STAT_SWITCHING then s1.startSwitch else s1

/-- SELF_REFRESH_EXIT: the forced exit ends and the waiting request can be served. -/
def execSelfRefreshExit (channel t : Nat) (s : State) : Host.Outcome State Fault Refusal :=
  let s1 := s.tick t
  if (s1.dramChan? channel).any (·.exiting) then .next (s1.leaveSelfRefresh channel t) else .next s1

/-! ### Image start, frame starts and registers -/

/-- The controller at an image's start (R249, R258): its populated channels active at SP_BOOT. -/
def State.startDram (s : State) (im : Image) (t : Nat) : State :=
  let cs := chanList im.dram.chanMask
  let s1 : State := { s with drc := { s.drc with rows := [], refresh := [], urgent := false, inWindow := false, ports := im.ports.map (fun r => freshPort r.port), chans := cs.map (fun c => { channel := c, idleSince := t, burst := none, trackDue := t + im.dram.trackMs * msT, srCommit := none, exiting := false, refOver := false }) } }
  let s2 := s1.put Reg.DRC_STAT Fld.DRC_STAT_SP_ACTIVE im.dram.spBoot
  cs.foldl (fun s c =>
    let d := im.dram.density.getD c 0
    ((s.put (Reg.DRC_CH_STAT c) Fld.DRC_CH_STAT_STATE 2).put (Reg.DRC_CH_STAT c) Fld.DRC_CH_STAT_DENSITY d).put (Reg.DRC_CH_STAT c) Fld.DRC_CH_STAT_RANKS2 (d / 128)) s2

/-- A frame start: the bytes of the instance that ends become DRC_PORT_BYTES (R263). -/
def State.rollPorts (s : State) : State :=
  { s with drc := { s.drc with ports := s.drc.ports.map (fun p => { p with lastServed := p.served, served := 0 }) } }

/-- Counters of the DRC block (R263). -/
def drcCounter (a : Nat) : Bool :=
  a == Reg.DRC_SR_COLLIDE || a == Reg.DRC_SR_ABANDON || a == Reg.DRC_REF_FORCED || a == Reg.DRC_REF_DEBT_MAX ||
  a == Reg.DRC_TRACK_DONE || a == Reg.DRC_TRACK_ABANDON || a == Reg.DRC_SW_COUNT || a == Reg.DRC_META_ERR

/-- A write in the DRC block: GO requests the change; a TARGET not declared is ignored as a whole. -/
def State.drcWrite (s : State) (a : Nat) (data : Word) : State :=
  if a = Reg.DRC_SP_CTRL then
    let n := (s.dramRec?.map (·.spCodes.length)).getD 0
    if n ≤ fieldOf data 0 2 then s
    else
      let s1 := s.plainWrite a data
      if bitOf data 3 then s1.requestSetPoint (fieldOf data 0 2) (bitOf data 2) else s1
  else if a = Reg.DRC_CNT_CLEAR then
    if bitOf data 0 then
      let s1 := s.resetRegs drcCounter
      { s1 with drc := { s1.drc with ports := s1.drc.ports.map (fun p => { p with maxLat := 0, l3 := 0 }) } }
    else s
  else s.plainWrite a data

/-- A channel is in self-refresh: its entry is committed (R262). -/
def DramChan.inSelfRefresh (x : DramChan) (now : Nat) : Bool := x.srCommit.any (fun k => decide (k ≤ now))

/-- DRC registers computed at a read: the port shown, and SR_MAP and the channel state from the commit points. -/
def State.drcView (s : State) (a : Nat) : Option Nat :=
  let p := s.dramPort (fieldOf (s.reg Reg.DRC_PORT_SEL) 0 6)
  if a = Reg.DRC_PORT_LAT then some p.maxLat
  else if a = Reg.DRC_PORT_L3 then some p.l3
  else if a = Reg.DRC_PORT_BYTES then some (p.lastServed / 64)
  else if a = Reg.DRC_STAT then
    let m := (s.drc.chans.filter (·.inSelfRefresh s.now)).foldl (fun m x => m + 2 ^ x.channel) 0
    some (putField (s.reg a) 8 8 m).toNat
  else if inRange a (Reg.DRC_CH_STAT 0) (Reg.DRC_CH_STAT 7) then
    some (if (s.dramChan? ((a - Reg.DRC_CH_STAT 0) / 4)).any (·.inSelfRefresh s.now) then putField (s.reg a) 0 3 3 else s.reg a).toNat
  else none

end Sys2Proof.Machine
end

