-- ==== Sys2Proof/Machine/Sense.lean ====
section
/-! DEFINITION. Temperature conversions, sensor failures, substitutes and throttle levels (R264 to R270). -/
namespace Sys2Proof.Machine

/-- Failure causes of R266. -/
abbrev Cause.OPEN : Nat := 0
abbrev Cause.SHORT : Nat := 1
abbrev Cause.RANGE : Nat := 2
abbrev Cause.SLOPE : Nat := 3

/-- MODE of a channel; channel 16 always converts, as a diode. -/
def State.tempMode (s : State) (i : Nat) : Nat := if i = 16 then 1 else s.get (Reg.THM_CH_CFG i) Fld.THM_CH_CFG_MODE

/-- LIMIT_LO and LIMIT_HI of a channel in 1/16 °C; channel 16 keeps the defaults (R266, R277). -/
def State.tempLimits (s : State) (i : Nat) : Int × Int :=
  if 16 ≤ i then (-640, 2400)
  else (signedOf 16 (fieldOf (s.reg (Reg.THM_CH_LIM i)) 0 16), signedOf 16 (fieldOf (s.reg (Reg.THM_CH_LIM i)) 16 16))

/-- θ of a thermistor code by table `t` (R264). -/
def State.ntcTheta (s : State) (t code : Nat) : Int :=
  let n (k : Nat) : Int := signedOf 16 (s.reg (Reg.THM_NTC t k)).toNat
  let k := code / 128
  n k + ((n (k + 1) - n k) * ((code % 128 : Nat) : Int) + 64) / 128

/-- The reading 128 ms older than one at instant `t`, in a history of readings `cycle` apart (R265, R266). -/
def olderReading (h : List (Nat × Int)) (t cycle : Nat) : Option Int :=
  (h.find? (fun e => decide (e.1 + 128 * msT ≤ t) && decide (t < e.1 + 128 * msT + cycle))).map (·.2)

/-- The forced-current voltage is above 1.0 V, or below 0.1 V (R266). -/
def openVolts (c : Conv) : Bool := decide (1000000 < c.uv)
def shortVolts (c : Conv) : Bool := decide (c.uv < 100000)

/-- The temperature of a DIODE conversion at the ideality ETA sets (R264). -/
def diodeTheta (eta : Nat) (c : Conv) : Int := if eta = 0 then c.theta else Config.idealTheta eta c.theta

/-- ETA and TABLE of an input; a die junction has neither (R264). -/
def State.etaOf (s : State) (i : Nat) : Nat := if 16 ≤ i then 0 else s.get (Reg.THM_CH_CFG i) Fld.THM_CH_CFG_ETA
def State.ntcTable (s : State) (i : Nat) : Nat := if 16 ≤ i then 0 else flag (s.bit (Reg.THM_CH_CFG i) Fld.THM_CH_CFG_TABLE)

/-- What a conversion of an input in `mode` gives: the first cause of R266 that holds, and its θ where there is one. -/
def State.measure (s : State) (mode : Nat) (lim : Int × Int) (h : List (Nat × Int)) (cycle t : Nat) (c : Conv) : Option Nat × Option Int :=
  if mode = 2 ∧ 4095 ≤ c.code then (some Cause.OPEN, none)
  else if mode = 2 ∧ c.code = 0 then (some Cause.SHORT, none)
  else if mode ≠ 2 ∧ openVolts c then (some Cause.OPEN, none)
  else if mode ≠ 2 ∧ shortVolts c then (some Cause.SHORT, none)
  else
    let th := if mode = 2 then s.ntcTheta (s.ntcTable c.input) c.code else diodeTheta (s.etaOf c.input) c
    let cause :=
      if th < lim.1 ∨ lim.2 < th then some Cause.RANGE
      else match olderReading h t cycle with
        | none => none
        | some o => if 41 ≤ (th - o).natAbs then some Cause.SLOPE else none
    (cause, some th)

/-- A history with a new reading, kept back to the one 128 ms older. -/
def pushReading (h : List (Nat × Int)) (t : Nat) (th : Option Int) : List (Nat × Int) :=
  let kept := h.filter (fun e => decide (t < e.1 + 140 * msT))
  match th with
  | none => kept
  | some v => (t, v) :: kept

/-- A channel's state, fresh where it has none. -/
def freshTemp (i : Nat) : TempChan := { channel := i, use := none, history := [], rechecking := false, clean := 0 }
def State.tempChan (s : State) (i : Nat) : TempChan := (s.thm.chans.find? (fun c => c.channel == i)).getD (freshTemp i)
def State.setTemp (s : State) (c : TempChan) : State :=
  { s with thm := { s.thm with chans := s.thm.chans.filter (fun x => x.channel != c.channel) ++ [c] } }

/-- FAIL and ACKED of a channel. -/
def State.tempFailed (s : State) (i : Nat) : Bool := s.bit (Reg.THM_CH_VAL i) Fld.THM_CH_VAL_FAIL
def State.tempAcked (s : State) (i : Nat) : Bool := s.bit (Reg.THM_CH_VAL i) Fld.THM_CH_VAL_ACKED

/-- The reading of a channel that takes part in R200, R241 and R269 (R265, R266, R267). -/
def State.usable (s : State) (i : Nat) : Option Int := if s.tempMode i = 0 then none else (s.tempChan i).use

/-- Substitute channel and OFFSET of a channel's THM_SUB, if it names one. -/
def subOf (w : Word) : Option (Nat × Int) :=
  let n := fieldOf w 0 5
  if n = 0x1F then none else some (n, signedOf 12 (fieldOf w 16 12))

/-- Put θ into THM_CH_VAL. -/
def State.putTheta (s : State) (i : Nat) (th : Int) : State := s.put (Reg.THM_CH_VAL i) Fld.THM_CH_VAL_THETA (codeOf 16 th)

/-- A failure is latched (R266). -/
def State.latchFailure (s : State) (i cause : Nat) : State :=
  let s1 := ((s.putBit (Reg.THM_CH_VAL i) Fld.THM_CH_VAL_FAIL true).put (Reg.THM_CH_VAL i) Fld.THM_CH_VAL_CAUSE cause).putBit (Reg.THM_CH_VAL i) Fld.THM_CH_VAL_ACKED false
  let s2 := (s1.putBit Reg.THM_STATE Fld.THM_STATE_SENSOR_EVT true).bump Reg.THM_FAILS 1
  (s2.setTemp { s2.tempChan i with use := none, rechecking := false, clean := 0 }).event 4

/-- One channel's conversion (R264 to R266). -/
def State.convertChannel (s : State) (i t : Nat) (m : Option Nat × Option Int) : State :=
  let c := s.tempChan i
  let s1 := s.setTemp { c with history := pushReading c.history t m.2 }
  if !s1.tempFailed i then
    match m with
    | (some k, _) => s1.latchFailure i k
    | (none, some th) => (s1.setTemp { s1.tempChan i with use := some th }).putTheta i th
    | _ => s1
  else
    let c1 := s1.tempChan i
    let n := if m.1.isNone then c1.clean + 1 else 0
    if c1.rechecking ∧ 16 ≤ n then
      match m.2 with
      | some th =>
        let s2 := (s1.setTemp { c1 with use := some th, rechecking := false, clean := 0 }).putTheta i th
        (s2.putBit (Reg.THM_CH_VAL i) Fld.THM_CH_VAL_FAIL false).putBit (Reg.THM_CH_VAL i) Fld.THM_CH_VAL_ACKED false
      | none => s1
    else s1.setTemp { c1 with clean := if c1.rechecking then n else 0 }

/-- Channel 16 reads the higher of its valid junctions (inputs 16 and 17); with none valid it has the first junction's
cause. -/
def State.measureDie (s : State) (t : Nat) (convs : List Conv) : Option (Option Nat × Option Int) :=
  let one (k : Nat) := convs.find? (fun c => c.input == k)
  let valid := [one 16, one 17].filterMap (fun c => match c with | some x => (if openVolts x || shortVolts x then none else some x) | none => none)
  match valid with
  | [] => (one 16).map (fun x => (some (if openVolts x then Cause.OPEN else Cause.SHORT), none))
  | x :: xs =>
    let best := xs.foldl (fun a b => if a.theta < b.theta then b else a) x
    some (s.measure 1 (s.tempLimits 16) (s.tempChan 16).history (4 * msT) t best)

/-- R268: a substitute that fails in the cycle of the write that named it makes that write refused. -/
def State.undoSubs (s : State) : State :=
  let s1 := s.thm.subWrites.foldl (fun s w =>
    match subOf (s.reg (Reg.THM_SUB w.1)) with
    | some (n, _) =>
      if s.tempFailed n then
        ((s.setReg (Reg.THM_SUB w.1) w.2.1).putBit Reg.THM_STATE Fld.THM_STATE_SUB_BAD true).putBit (Reg.THM_CH_VAL w.1) Fld.THM_CH_VAL_ACKED (w.2.2 && s.tempFailed w.1)
      else s
    | none => s) s
  { s1 with thm := { s1.thm with subWrites := [] } }

/-- A failed pin channel acknowledged by a substitute reports θ_S + OFFSET and takes part; a failed substitute makes it
unacknowledged again (R267). A sum outside 16 bits is a free value (log entry 72). -/
def State.substituteChannel (s : State) (i : Nat) : State :=
  if !s.tempFailed i ∨ 14 ≤ i then s
  else
    match (if s.tempAcked i then subOf (s.reg (Reg.THM_SUB i)) else none) with
    | none => s.setTemp { s.tempChan i with use := none }
    | some (n, off) =>
      if s.tempFailed n then
        (s.putBit (Reg.THM_CH_VAL i) Fld.THM_CH_VAL_ACKED false).setTemp { s.tempChan i with use := none }
      else
        match s.usable n with
        | none => s.setTemp { s.tempChan i with use := none }
        | some th =>
          let v := th + off
          if satSigned 16 v = v then (s.setTemp { s.tempChan i with use := some v }).putTheta i v
          else
            let f := s.takeFree
            let w := signedOf 16 f.1
            (f.2.setTemp { f.2.tempChan i with use := some w }).putTheta i w

/-- Levels passed by θ with thresholds lowered by `low` (R269). -/
def State.levelOf (s : State) (i : Nat) (th low : Int) : Nat :=
  let step : Int := ((fieldOf (s.reg Reg.THM_THR) 0 8 : Nat) : Int)
  ((List.range 7).filter (fun k => decide (Config.thrBase i - low + (k : Int) * step ≤ th))).length

/-- Channels that throttle: THR_EN set. -/
def State.throttling (s : State) (i : Nat) : Bool := i < 16 && s.tempMode i != 0 && s.bit (Reg.THM_CH_CFG i) Fld.THM_CH_CFG_THR_EN

/-- Actions of a level that change with it (R270): the DRAM set point. The fabric pause and the dark stretch are read where
they act. -/
def State.levelChanged (s : State) (old new : Nat) : State :=
  let low (l : Nat) : Bool := bitOf (s.reg (Reg.THM_LEVEL_ACT l)) 17
  if low new then s.requestSetPoint 0 false
  else if new < old ∧ low old then s.requestSetPoint ((s.dramRec?.map (·.spBoot)).getD 0) false
  else s

/-- HELD: a throttling channel is failed and not acknowledged (R267). -/
def State.tempHeld (s : State) : Bool := (List.range 16).any (fun i => s.throttling i && s.tempFailed i && !s.tempAcked i)

/-- HELD follows a write that acknowledges a failure or makes a failed channel throttle; while it is set the fall timer is broken. -/
def State.syncHeld (s : State) : State :=
  let s1 := s.setReg Reg.THM_LEVEL (putField (s.reg Reg.THM_LEVEL) 16 1 (flag s.tempHeld))
  if s.tempHeld then { s1 with thm := { s1.thm with fallSince := none } } else s1

/-- L. -/
def State.level (s : State) : Nat := fieldOf (s.reg Reg.THM_LEVEL) 0 3

/-- The level computation at a conversion (R267, R269). Where no one channel alone gives c, the channel field is a free value
(log entry 72). -/
def State.computeLevels (s : State) (t : Nat) : State :=
  let chans := (List.range 16).filter s.throttling
  let cs := chans.filterMap (fun i => (s.usable i).map (fun th => (i, s.levelOf i th 0)))
  let hyst : Int := ((fieldOf (s.reg Reg.THM_THR) 8 8 : Nat) : Int)
  let low := (chans.filterMap (fun i => (s.usable i).map (fun th => s.levelOf i th hyst))).foldl Nat.max 0
  let held := s.tempHeld
  let top := (cs.map (·.2)).foldl Nat.max 0
  let ref := if s.bit Reg.DRC_STAT Fld.DRC_STAT_REF_OVER then fieldOf (s.reg Reg.THM_THR) 24 3 else 0
  let c := Nat.max top ref
  let owners := cs.filter (fun p => p.2 == c)
  let f := s.takeFree
  let s0 : State := if owners.length = 1 then s else f.2
  let chan := match owners with | [p] => p.1 | _ => f.1 % 32
  let l := s.level
  let l' := if l < c then c else l
  let s1 := (List.range 16).foldl (fun s i => s.put (Reg.THM_CH_VAL i) Fld.THM_CH_VAL_C (((cs.find? (fun p => p.1 == i)).map (·.2)).getD 0)) s0
  let s2 := s1.setNum Reg.THM_LEVEL (l' + c * 16 + chan * 256 + flag held * 65536)
  let since := if low < l' ∧ !held then (if l < l' then some t else (s.thm.fallSince.orElse (fun _ => some t))) else none
  let s3 : State := { s2 with thm := { s2.thm with fallSince := since, hystLevel := low } }
  if l < l' then s3.levelChanged l l' else s3

/-- CONVERSION: while the core runs, every enabled pin channel and channel 16 are converted, checked, substituted, and the levels
computed. -/
def execConversion (c : Conversion) (s : State) : Host.Outcome State Fault Refusal :=
  let s0 := s.tick c.t
  if !s0.umb.coreOut then .next s0 else
  let pins := (List.range 16).filter (fun i => s0.tempMode i != 0)
  let s1 := pins.foldl (fun s i =>
    match c.convs.find? (fun x => x.input == i) with
    | none => s
    | some x => s.convertChannel i c.t (s.measure (s.tempMode i) (s.tempLimits i) (s.tempChan i).history (4 * msT) c.t x)) s0
  let s2 := match s1.measureDie c.t c.convs with
    | none => s1
    | some m => s1.convertChannel 16 c.t m
  let s3 := (List.range 14).foldl (fun s i => s.substituteChannel i) s2.undoSubs
  .next (s3.computeLevels c.t)

/-- LEVEL_FALL: FALL_HOLD_S seconds passed with every hysteresis level below L and HELD clear; L falls by 1 (R269). -/
def execLevelFall (t : Nat) (s : State) : Host.Outcome State Fault Refusal :=
  let s0 := s.tick t
  let l := s0.level
  match s0.thm.fallSince with
  | none => .next s0
  | some u =>
    if l = 0 ∨ t < u + fieldOf (s0.reg Reg.THM_THR) 16 8 * secT then .next s0
    else
      let s1 := s0.setReg Reg.THM_LEVEL (putField (s0.reg Reg.THM_LEVEL) 0 3 (l - 1))
      let s2 : State := { s1 with thm := { s1.thm with fallSince := if s1.thm.hystLevel < l - 1 then some t else none } }
      .next (s2.levelChanged l (l - 1))

/-! ### Register writes (R265, R267, R277) -/

/-- A write of THM_SUB(i): refused with SUB_BAD in the four cases of R267. -/
def State.subWrite (s : State) (i : Nat) (data : Word) : State :=
  let n := fieldOf data 0 5
  let bad := decide (14 ≤ i) || (n != 0x1F && (decide (17 ≤ n) || n == i || n == 14 || n == 15 || s.tempFailed n))
  if bad then s.putBit Reg.THM_STATE Fld.THM_STATE_SUB_BAD true
  else
    let old := s.reg (Reg.THM_SUB i)
    let s1 := s.plainWrite (Reg.THM_SUB i) data
    let s2 := s1.putBit (Reg.THM_CH_VAL i) Fld.THM_CH_VAL_ACKED (s1.tempFailed i && n != 0x1F)
    { s2 with thm := { s2.thm with subWrites := (i, old, s.tempAcked i) :: s2.thm.subWrites } }.syncHeld

/-- GUARD_ACK and RECHECK (THM_CTRL). -/
def State.thmCtrl (s : State) (data : Word) : State :=
  let s1 := if bitOf data 0 then
      ([14, 15].foldl (fun (s : State) i => if s.tempFailed i then s.putBit (Reg.THM_CH_VAL i) Fld.THM_CH_VAL_ACKED true else s) s).syncHeld
    else s
  if bitOf data 1 then
    let i := fieldOf data 8 5
    let s2 := if i ≤ 16 ∧ s1.tempFailed i then s1.setTemp { s1.tempChan i with rechecking := true, clean := 0 } else s1
    { s2 with thm := { s2.thm with guards := s2.thm.guards.map (fun g =>
        if g.input = i ∧ g.fail.isSome ∧ (i = 14 ∨ i = 15) then { g with rechecking := true, clean := 0 } else g) } }
  else s1

/-- A write in the THM block. -/
def State.thmWrite (s : State) (a : Nat) (data : Word) : State :=
  if a = Reg.THM_CTRL then s.thmCtrl data
  else if a = Reg.THM_THR then
    if fieldOf data 0 8 = 0 ∨ fieldOf data 16 8 = 0 then s else s.plainWrite a data
  else if inRange a (Reg.THM_GUARD_T 0) (Reg.THM_GUARD_T 1) then
    let g := (a - Reg.THM_GUARD_T 0) / 4
    let b := signedOf 16 (fieldOf data 0 16)
    let h := signedOf 16 (fieldOf data 16 16)
    let lim : Int := if g = 1 then 1760 else if Config.industrial then 2000 else 1840
    if h ≤ b ∨ lim < h then s else s.plainWrite a data
  else if a = Reg.THM_RESTART then
    let hy := fieldOf data 0 8
    let rs := fieldOf data 8 16
    if hy < 5 ∨ 50 < hy ∨ rs < 10 ∨ 3600 < rs then s else s.plainWrite a data
  else if a = Reg.THM_CNT_CLEAR then s.clearCounters data (fun r => r == Reg.THM_FAILS)
  else if inRange a (Reg.THM_CH_CFG 0) (Reg.THM_SUB 15) then
    let i := (a - Reg.THM_CH_CFG 0) / 16
    if a = Reg.THM_CH_CFG i then
      if fieldOf data 0 2 = 3 then s
      else
        let was := s.tempMode i
        let s1 := s.plainWrite a data
        let m := fieldOf data 0 2
        let s2 := if m = 0 ∨ was = 0 then
            (s1.setTemp { s1.tempChan i with use := none, history := [] }).put (Reg.THM_CH_VAL i) Fld.THM_CH_VAL_THETA 0x8000
          else s1
        s2.syncHeld
    else if a = Reg.THM_CH_LIM i then
      if signedOf 16 (fieldOf data 16 16) ≤ signedOf 16 (fieldOf data 0 16) then s else s.plainWrite a data
    else if a = Reg.THM_SUB i then s.subWrite i data
    else s.plainWrite a data
  else s.plainWrite a data

end Sys2Proof.Machine
end

