-- ==== Sys2Proof/Machine/Emitter.lean ====
section
/-! DEFINITION. Per-emitter correction (chapter 11): calibration sets, cell temperatures, live sets, ramps, tables, fades and
the correction path. -/
namespace Sys2Proof.Machine

/-! ### Calibration sets (R197 to R199) -/

/-- Bytes of a calibration set. -/
def calSetLength (points w h : Nat) : Nat := 4096 + points * w * h * 32

/-- The checks of R197 on a set's bytes against the running image's CHAINS record; none when one fails. -/
def readCalSet (c : ChainRec) (bs : List Byte) : Option CalSet :=
  let w := leAt bs 8 2
  let h := leAt bs 10 2
  let n := byteAt bs 13
  let temps := (List.range n).map (fun k => signedOf 16 (leAt bs (0x18 + 2 * k) 2))
  let pos := (List.range 16).map (fun i => (signedOf 16 (leAt bs (0x30 + 4 * i) 2), signedOf 16 (leAt bs (0x32 + 4 * i) 2)))
  let inPos (v : Int) : Bool := decide (-2048 ≤ v) && decide (v ≤ 2047)
  let ok :=
    (slice bs 0 4).map (·.toNat) == [0x44, 0x4E, 0x43, 0x53] && leAt bs 4 2 == 1 && leAt bs 6 2 == 0 &&
    w == c.width && h == c.height && byteAt bs 12 == c.emitters && decide (1 ≤ n) && decide (n ≤ 4) &&
    decide (byteAt bs 14 ≤ 7) && byteAt bs 15 == 0 && bs.length == calSetLength n w h &&
    (List.range (n - 1)).all (fun k => decide (temps.getD k 0 + 16 ≤ temps.getD (k + 1) 0)) &&
    allZero (slice bs (0x18 + 2 * n) (8 - 2 * n)) && allZero (slice bs (0x20 + 4 * n) (16 - 4 * n)) &&
    pos.all (fun p => inPos p.1 && inPos p.2) && allZero (slice bs 0x72 3978) &&
    leAt bs 0xFFC 4 == crc32c (slice bs 0 0xFFC) &&
    (List.range n).all (fun k => leAt bs (0x20 + 4 * k) 4 == crc32c (slice bs (4096 + k * w * h * 32) (w * h * 32)))
  if ok then
    some { id := leAt bs 0x10 8, width := w, height := h, emitters := byteAt bs 12, points := n, shift := byteAt bs 14,
           temps := temps, chPos := pos, chUse := leAt bs 0x70 2, body := bs.drop 4096 }
  else none

/-- A pixel record as sixteen fields: K[e][j] at 3e + j, OFS[e] at 12 + e (Table 11.2); rows e ≥ E read 0 (R198). -/
def readRecord (emitters : Nat) (bs : List Byte) : List Int :=
  (List.range 16).map (fun k =>
    let e := if k < 12 then k / 3 else k - 12
    if emitters ≤ e then 0 else signedOf 16 (leAt bs (2 * k) 2))

/-- The default record of R199. -/
def defaultRecord (emitters : Nat) : List Int :=
  (List.range 16).map (fun k => if k < 12 ∧ k / 3 = k % 3 ∧ k / 3 < Nat.min emitters 3 then 0x4000 else 0)

/-- The record of pixel (x, y) at point k. -/
def CalSet.record (c : CalSet) (k x y : Nat) : List Int :=
  readRecord c.emitters (slice c.body ((k * c.width * c.height + y * c.width + x) * 32) 32)

/-- a + ((b - a) × α + 32,768) >> 16, for each field (R201, R203). -/
def mixFields (alpha : Int) (a b : List Int) : List Int :=
  (a.zip b).map (fun p => p.1 + ((p.2 - p.1) * alpha + 32768) / 65536)

/-- The bracketing point and α of a temperature (R201): `none` for a point taken as it is. -/
def bracket (temps : List Int) (theta : Int) : Nat × Option Int :=
  let n := temps.length
  if n ≤ 1 ∨ theta ≤ temps.getD 0 0 then (0, none)
  else if temps.getD (n - 1) 0 ≤ theta then (n - 1, none)
  else
    let k := ((List.range n).filter (fun i => decide (temps.getD i 0 ≤ theta))).length - 1
    let lo := temps.getD k 0
    (k, some ((theta - lo) * 65536 / (temps.getD (k + 1) 0 - lo)))

/-- The live record of a pixel (R199, R201, R397). -/
def liveRecord (emitters : Nat) (l : LiveSet) (x y : Nat) : List Int :=
  match l.set with
  | none => defaultRecord emitters
  | some c =>
    match l.theta with
    | none => c.record 0 x y
    | some th =>
      let b := bracket c.temps (th.getD (y / 16 * (c.width / 16) + x / 16) 0)
      match b.2 with
      | none => c.record b.1 x y
      | some a => mixFields a (c.record b.1 x y) (c.record (b.1 + 1) x y)

/-- SH of a live set; the default set has 0. -/
def liveShift (l : LiveSet) : Nat := (l.set.map (·.shift)).getD 0

/-! ### Cell temperatures (R200) -/

/-- θ of cell (cx, cy) from the positions and readings of the channels that take part. -/
def cellTheta (chans : List ((Int × Int) × Int)) (cx cy : Nat) : Int :=
  let ws := chans.map (fun c =>
    let dx := 32 * (cx : Int) + 15 - 2 * c.1.1
    let dy := 32 * (cy : Int) + 15 - 2 * c.1.2
    ((2 : Int) ^ 40 / (dx * dx + dy * dy + 1024), c.2))
  let sw := (ws.map (·.1)).sum
  ((ws.map (fun p => p.1 * p.2)).sum + sw / 2) / sw

/-- The channels that take part with a set: its CH_USE bits and a reading that is used. -/
def State.tempInputs (s : State) (c : CalSet) : List ((Int × Int) × Int) :=
  (List.range 16).filterMap (fun i => if natBit c.chUse i then (s.usable i).map (fun th => (c.chPos.getD i (0, 0), th)) else none)

/-- θ of every cell, none when no channel takes part; the default set uses no channel. -/
def State.cellThetas (s : State) : Option (List Int) :=
  match s.emc.accepted with
  | none => none
  | some c =>
    match s.tempInputs c with
    | [] => none
    | l => some ((List.range (c.height / 16)).flatMap (fun cy => (List.range (c.width / 16)).map (fun cx => cellTheta l cx cy)))

/-! ### Recomputes and ramps (R202, R203, R205) -/

/-- The work of a recompute, where the image declares it as background work (R202, Table 13.6); where it is scheduled operations, none. -/
def State.recomputeWork (s : State) : State :=
  match s.gen.running with
  | none => s
  | some im =>
    match Config.recomputeWork im.imageId with
    | none => s
    | some w => s.background .liveSet 0 (some w) (s.roomiest im)

/-- A recompute that will not finish leaves the fabric. -/
def State.endRecompute (s : State) : State := { s.dropJob 0 with emc := { s.emc with running := none } }

/-- A recompute starts: the channels are sampled; with none NO_TEMP is set and nothing is computed (R200, R202). -/
def State.startRecompute (s : State) : State :=
  match s.cellThetas with
  | none => s.putBit Reg.EMC_STATE Fld.EMC_STATE_NO_TEMP true
  | some th =>
    let s1 := s.putBit Reg.EMC_STATE Fld.EMC_STATE_NO_TEMP false
    State.recomputeWork { s1 with emc := { s1.emc with running := some { set := s1.emc.accepted, theta := some th }, theta := th } }

/-- A recompute runs, a finished live set waits, or a ramp is in progress (R202). -/
def State.recomputeBusy (s : State) : Bool := s.emc.running.isSome || s.emc.finished.isSome || s.emc.ramp.isSome

/-- A tick at the tile (R202): a recompute starts, or is deferred and counted. -/
def State.tickRecompute (s : State) : State :=
  if s.recomputeBusy then
    let s1 := (s.bump Reg.EMC_RECOMP_DEFER 1).putBit Reg.EMC_STATE Fld.EMC_STATE_DEFERRED true
    { s1 with emc := { s1.emc with deferred := true } }
  else s.startRecompute

/-- RECOMPUTE_COMPLETE: the live set is finished, its background work done where it has any, and waits for its publication (R202). -/
def execRecomputeComplete (t : Nat) (s : State) : Host.Outcome State Fault Refusal :=
  let s0 := s.tick t
  match s0.emc.running with
  | none => .next s0
  | some l => .next (if s0.workLeft 0 then s0 else { s0 with emc := { s0.emc with running := none, finished := some (l, t) } })

/-- A live set takes effect for picture F, with a ramp of R pictures or at once. -/
def State.publish (s : State) (l : LiveSet) (f : Nat) (ramp : Option Nat) : State :=
  let s1 := (s.setReg Reg.EMC_LIVE_WFN (loWord f)).bump Reg.EMC_LIVE_CNT 1
  { s1 with emc := { s1.emc with old := s.emc.live, live := l, ramp := ramp.map (fun r => (f, r)) } }

/-- The first live set of a run (R205, R397): computed before its first picture F0 and effective at once; point 0 for every
pixel when no channel takes part. -/
def State.firstLive (s : State) (f0 : Nat) : State :=
  let th := s.cellThetas
  let s1 := s.putBit Reg.EMC_STATE Fld.EMC_STATE_NO_TEMP th.isNone
  let s2 := s1.endRecompute.publish { set := s1.emc.accepted, theta := th } f0 none
  { s2 with emc := { s2.emc with finished := none, ramp := none, deferred := false, theta := th.getD s2.emc.theta } }

/-- The end of a ramp at R(F_1 + R), where the old buffer frees, and the start of a deferred recompute (R202, R203). -/
def State.endRamp (s : State) (f : Nat) : State :=
  let s1 : State := match s.emc.ramp with
    | some (f1, r) => if f1 + r ≤ f then { s with emc := { s.emc with ramp := none } } else s
    | none => s
  if s1.emc.deferred && !s1.recomputeBusy then { s1 with emc := { s1.emc with deferred := false } }.startRecompute else s1

/-- LIVE_SET_PUBLISH (R203): a live set finished before R(F) is published to F. -/
def State.publishDue (s : State) (f t : Nat) : State :=
  match s.emc.finished with
  | none => s
  | some (l, at_) =>
    if at_ < t then
      let s1 := s.publish l f (some (s.get Reg.EMC_CTRL Fld.EMC_CTRL_RAMP_FRAMES))
      { s1 with emc := { s1.emc with finished := none } }
    else s

/-- r_j of picture F (R203): 65,536 outside a ramp. -/
def State.rampStep (s : State) (f : Nat) : Nat :=
  match s.emc.ramp with
  | none => 65536
  | some (f1, r) => if f1 ≤ f then Nat.min 65536 (65536 * (f - f1 + 1) / r) else 65536

/-! ### Tables and fades (R206, R208, R209) -/

/-- The reset tables. -/
def incDefault (c : Nat) : Nat := c * 4096
def gammaDefault (i : Nat) : Nat := Nat.min (i * 1024) (2 ^ 20 - 1)

/-- WFN F has reached a 32-bit WFN: (F - a) mod 2^32 below 2^31. -/
def wfnReached (f a : Nat) : Bool := decide ((f % 2 ^ 32 + 2 ^ 32 - a) % 2 ^ 32 < 2 ^ 31)

/-- The active bank. -/
def State.bank (s : State) : Nat := s.get Reg.EMC_STATE Fld.EMC_STATE_BANK

/-- BANK_EXCHANGE (R206) at R(F). -/
def State.exchangeBank (s : State) (f : Nat) : State :=
  if s.bit Reg.EMC_STATE Fld.EMC_STATE_SWAP_PENDING && wfnReached f (s.reg Reg.EMC_BANK_WFN).toNat then
    (s.put Reg.EMC_STATE Fld.EMC_STATE_BANK (1 - s.bank)).putBit Reg.EMC_STATE Fld.EMC_STATE_SWAP_PENDING false
  else s

/-- FADE_ADOPT (R209) at R(F): the armed target is adopted, then FADE moves by FADE_STEP. -/
def State.stepFade (s : State) (f : Nat) : State :=
  let e := s.emc
  let e1 : EmcSt := match e.armed with
    | some (tg, w) => if wfnReached f w then { e with target := tg, armed := none } else e
    | none => e
  let st := s.get Reg.EMC_FADE_CTRL Fld.EMC_FADE_CTRL_FADE_STEP
  let v := if st = 0 then e1.target
    else if e1.fade < e1.target then Nat.min (e1.fade + st) e1.target
    else Nat.max (e1.fade - st) e1.target
  { s with emc := { e1 with fade := v } }.setNum Reg.EMC_FADE_NOW v

/-- The first SCAN entries of LMP_ROW_MAP. -/
def State.rowEntries (s : State) (scan : Nat) : List Nat :=
  (List.range scan).map (fun k => fieldOf (s.reg (Reg.LMP_ROW_MAP (k / 4))) (8 * (k % 4)) 6)

/-- R228 at R(F): a row map that is a permutation is taken, else MAP_BAD is set and the one in force kept. -/
def State.sampleRowMap (s : State) (scan : Nat) : State :=
  let e := s.rowEntries scan
  if (List.range scan).all (fun k => e.contains k) then { s with lmp := { s.lmp with rowMap := e } }
  else s.putBit Reg.LMP_STATE Fld.LMP_STATE_MAP_BAD true

/-- PICTURE_SAMPLE (R204): everything the pictures of F use, taken at R(F). -/
def State.takeSample (s : State) (f : Nat) : State :=
  let x : EmcSample :=
    { wfn := f, dither := s.bit Reg.EMC_CTRL Fld.EMC_CTRL_DITHER_EN, mode := s.get Reg.EMC_CTRL Fld.EMC_CTRL_CURVE_MODE
      inc := s.emc.inc.getD s.bank [], gamma := s.emc.gamma.getD s.bank [], fade := s.emc.fade
      gains := (List.range 4).map (fun e => fieldOf (s.reg (Reg.EMC_GAIN e)) 0 16)
      old := s.emc.old, new := s.emc.live, r := s.rampStep f, rowMap := s.lmp.rowMap }
  let s1 := s.putBit Reg.EMC_STATE Fld.EMC_STATE_RAMPING (decide (x.r < 65536))
  { s1 with emc := { s1.emc with samples := x :: s1.emc.samples.take 7 } }

/-- Everything R(F) does to the correction of a tile (R202 to R204, R206, R209, R228). -/
def State.emitterFrame (s : State) (tl : Timeline) (f t : Nat) : State :=
  ((((s.endRamp f).publishDue f t).exchangeBank f).stepFade f |>.sampleRowMap tl.scan).takeSample f

/-! ### The correction path (R196, R206 to R211) -/

/-- EXP[k] = round(2^20 × 2^(-k/256)) (R209): the greatest n with (2n - 1)^256 × 2^k ≤ 2^(21 × 256). -/
def expEntry (k : Nat) : Nat :=
  ((List.range 21).reverse).foldl (fun n b =>
    let m := n + 2 ^ b
    if (2 * m - 1) ^ 256 * 2 ^ k ≤ 2 ^ (21 * 256) then m else n) 0

/-- The fade gain g. -/
def fadeGain (fade : Nat) : Nat := expEntry (fade % 256) >>> (fade / 256)

/-- The curve stage (R208). -/
def curve (x : EmcSample) (v : Nat) : Nat :=
  if x.mode = 1 then
    let g (i : Nat) : Int := (cellGet gammaDefault x.gamma i : Nat)
    let i := v / 1024
    (g i + ((g (i + 1) - g i) * ((v % 1024 : Nat) : Int) + 512) / 1024).toNat
  else if x.mode = 2 then (v * fadeGain x.fade + 2 ^ 19) / 2 ^ 20
  else v

/-- The dither matrix B (R211). -/
def ditherB (y x : Nat) : Nat :=
  ([[0, 8, 2, 10], [12, 4, 14, 6], [3, 11, 1, 9], [15, 7, 13, 5]].getD (y % 4) []).getD (x % 4) 0

/-- The 20-bit value of emitter e after matrix, offset, curve and gain (R207, R208, R210), from the effective record `rec` and the
linear codes `l`. -/
def emitterGained (p : EmcSample) (rec : List Int) (l : List Nat) (e : Nat) : Nat :=
  let sh := liveShift p.new
  let a : Int := ((List.range 3).map (fun j => rec.getD (3 * e + j) 0 * ((l.getD j 0 : Nat) : Int))).sum
  let v0 := (clampInt 0 (2 ^ 20 - 1) ((a + 2 ^ (13 + sh)) / 2 ^ (14 + sh) + rec.getD (12 + e) 0)).toNat
  Nat.min ((curve p v0 * p.gains.getD e 0 + 2 ^ 14) / 2 ^ 15) (2 ^ 20 - 1)

/-- The glint value of emitter e of pixel (x, y) whose effective record is `rec` and whose codes linearise to `l` (R211). -/
def emitterValue (p : EmcSample) (rec : List Int) (l : List Nat) (x y e : Nat) : Nat :=
  let th := if p.dither then (ditherB y x + 5 * (p.wfn % 16) + 4 * e) % 16 else 8
  Nat.min ((emitterGained p rec l e + th) / 16) 65535

/-- The effective record of a pixel (R203). -/
def effectiveRecord (emitters : Nat) (p : EmcSample) (x y : Nat) : List Int :=
  let n := liveRecord emitters p.new x y
  if 65536 ≤ p.r then n else mixFields (p.r : Int) (liveRecord emitters p.old x y) n

/-- The glint values of a pixel from its 36-bit code (R196). -/
def correctPixel (emitters : Nat) (p : EmcSample) (x y pix : Nat) : List Nat :=
  let l := [pix / 2 ^ 24 % 4096, pix / 2 ^ 12 % 4096, pix % 4096].map (fun c => cellGet incDefault p.inc c)
  let rec_ := effectiveRecord emitters p x y
  (List.range emitters).map (fun e => emitterValue p rec_ l x y e)

/-- The sample of picture F. -/
def State.sampleOf (s : State) (f : Nat) : Option EmcSample := s.emc.samples.find? (fun x => x.wfn == f)

/-! ### Sets in use -/

/-- A set is accepted (R197, R205): used from the next recompute. -/
def State.acceptSet (s : State) (c : CalSet) : State :=
  let s1 := (s.putBit Reg.EMC_STATE Fld.EMC_STATE_CAL_VALID true).putBit Reg.EMC_STATE Fld.EMC_STATE_NO_CAL false
  { s1 with emc := { s1.emc with accepted := some c } }

/-- A set is refused (R197): the one in use stays. -/
def State.refuseSet (s : State) : State := s.putBit Reg.EMC_STATE Fld.EMC_STATE_SET_MISMATCH true

/-! ### Registers (R212) -/

def emcCounter (a : Nat) : Bool := a == Reg.EMC_LIVE_CNT || a == Reg.EMC_RECOMP_DEFER

/-- Write an entry of the inactive bank. -/
def State.tableWrite (s : State) (gamma : Bool) (n v : Nat) : State :=
  if s.bit Reg.EMC_STATE Fld.EMC_STATE_SWAP_PENDING then s
  else
    let b := 1 - s.bank
    if gamma then { s with emc := { s.emc with gamma := modifyAt s.emc.gamma b (fun l => cellSet gammaDefault l n v) } }
    else { s with emc := { s.emc with inc := modifyAt s.emc.inc b (fun l => cellSet incDefault l n v) } }

/-- A write in the EMC block. -/
def State.emcWrite (s : State) (a : Nat) (data : Word) : State :=
  if a = Reg.EMC_CTRL then
    if fieldOf data 1 2 = 3 ∨ fieldOf data 8 8 < 8 then s
    else
      let s1 := s.plainWrite a data
      if bitOf data 3 then s1.putBit Reg.EMC_STATE Fld.EMC_STATE_SWAP_PENDING true else s1
  else if a = Reg.EMC_FADE_CTRL then
    if 4096 < fieldOf data 16 13 then s
    else
      let s1 := s.plainWrite a data
      if bitOf data 29 then { s1 with emc := { s1.emc with armed := some (fieldOf data 0 13, (s1.reg Reg.EMC_FADE_WFN).toNat) } } else s1
  else if a = Reg.EMC_TEMP_SEL then
    match s.tileChain? with
    | none => s
    | some c => if cellCount c ≤ fieldOf data 0 10 then s else s.plainWrite a data
  else if inRange a (Reg.EMC_INC_WIN 0) (Reg.EMC_INC_WIN 4095) then s.tableWrite false ((a - Reg.EMC_INC_WIN 0) / 4) (fieldOf data 0 24)
  else if inRange a (Reg.EMC_GAM_WIN 0) (Reg.EMC_GAM_WIN 1024) then s.tableWrite true ((a - Reg.EMC_GAM_WIN 0) / 4) (fieldOf data 0 20)
  else if a = Reg.EMC_CNT_CLEAR then s.clearCounters data emcCounter
  else s.plainWrite a data

/-- EMC registers computed at a read. -/
def State.emcView (s : State) (a : Nat) : Option Nat :=
  if a = Reg.EMC_SET_ID_LO then some (((s.emc.accepted.map (·.id)).getD 0) % 2 ^ 32)
  else if a = Reg.EMC_SET_ID_HI then some (((s.emc.accepted.map (·.id)).getD 0) / 2 ^ 32)
  else if a = Reg.EMC_TEMP_VAL then some (codeOf 16 (s.emc.theta.getD (fieldOf (s.reg Reg.EMC_TEMP_SEL) 0 10) 0))
  else if inRange a (Reg.EMC_CH_POS 0) (Reg.EMC_CH_POS 15) then
    let i := (a - Reg.EMC_CH_POS 0) / 4
    match s.emc.accepted with
    | none => some 0
    | some c => let p := c.chPos.getD i (0, 0); some (codeOf 12 p.1 + codeOf 12 p.2 * 65536 + flag (natBit c.chUse i) * 2 ^ 31)
  else if inRange a (Reg.EMC_INC_WIN 0) (Reg.EMC_INC_WIN 4095) then some (cellGet incDefault (s.emc.inc.getD (1 - s.bank) []) ((a - Reg.EMC_INC_WIN 0) / 4))
  else if inRange a (Reg.EMC_GAM_WIN 0) (Reg.EMC_GAM_WIN 1024) then some (cellGet gammaDefault (s.emc.gamma.getD (1 - s.bank) []) ((a - Reg.EMC_GAM_WIN 0) / 4))
  else none

end Sys2Proof.Machine
end

