-- ==== Sys2Proof/Machine/Gate.lean ====
section
/-! DEFINITION. What each lifecycle state allows to JTAG, TMUX, trace and BIST (R387, Table 23.1). -/
namespace Sys2Proof.Machine

/-- Lifecycle codes (Table 18.1). -/
abbrev Lc.TEST : Nat := 1
abbrev Lc.SECURE : Nat := 2
abbrev Lc.RETURNED : Nat := 3
abbrev Lc.SCRAPPED : Nat := 4

/-- TAP instructions (Table 23.2). -/
abbrev Ir.BYPASS : Nat := 0xFF
abbrev Ir.IDCODE : Nat := 0x01
abbrev Ir.SAMPLE : Nat := 0x02
abbrev Ir.EXTEST : Nat := 0x03
abbrev Ir.EXTEST_PULSE : Nat := 0x04
abbrev Ir.EXTEST_TRAIN : Nat := 0x05
abbrev Ir.CLAMP : Nat := 0x06
abbrev Ir.HIGHZ : Nat := 0x07
abbrev Ir.DBG_ACCESS : Nat := 0x10
abbrev Ir.INT_SCAN : Nat := 0x11

def irListed (i : Nat) : Bool := i ∈ [0xFF, 1, 2, 3, 4, 5, 6, 7, 0x10, 0x11]
def irExtest (i : Nat) : Bool := decide (3 ≤ i) && decide (i ≤ 7)
def irPrivate (i : Nat) : Bool := i == 0x10 || i == 0x11

/-- The lifecycle state lets an instruction through (Table 23.1). -/
def State.jtagAllowed (s : State) (i : Nat) : Bool :=
  let lc := s.tru.lifecycle
  let open_ := lc == Lc.TEST || lc == Lc.RETURNED
  if i = Ir.SAMPLE then lc != Lc.SCRAPPED
  else if irExtest i then
    let st := s.get Reg.GEN_IMG_STATE Fld.GEN_IMG_STATE_STATE
    open_ || (lc == Lc.SECURE && (st == 0 || st == 4))
  else if irPrivate i then open_
  else true

/-- A TMUX code of Table 23.3, and its private part. -/
def tmuxPrivate (code : Nat) : Bool := decide (0x20 ≤ code) && decide (code ≤ 0x24)

/-- The greatest INDEX of a TMUX code, none for an unlisted code. -/
def tmuxIndex (code : Nat) : Option Nat :=
  match code with
  | 0x00 | 0x01 | 0x04 | 0x05 | 0x08 | 0x09 | 0x24 => some 255
  | 0x02 | 0x03 | 0x06 | 0x07 => some 3
  | 0x20 => some 40
  | 0x21 => some 191
  | 0x22 => some 7
  | 0x23 => some 127
  | _ => none

/-- The lifecycle state lets a TMUX selection through. -/
def State.tmuxAllowed (s : State) (code : Nat) : Bool :=
  let lc := s.tru.lifecycle
  if code = 0 then true else if tmuxPrivate code then lc == Lc.TEST || lc == Lc.RETURNED else lc != Lc.SCRAPPED

/-- What TMUX_k drives for a selection: none is low. -/
def State.tmuxDrives (s : State) (sel : Word) : Option Word :=
  let code := fieldOf sel 0 8
  match tmuxIndex code with
  | none => none
  | some m => if s.tmuxAllowed code && decide (fieldOf sel 8 8 ≤ m) && code != 0 then some sel else none

/-- Umbra's inhibit while an EXTEST-class instruction is loaded, and DBG_STATE's JTAG bits (R389). -/
def State.showIr (s : State) : State :=
  (s.putBit Reg.DBG_STATE Fld.DBG_STATE_JTAG_EXT (irExtest s.dbg.ir)).putBit Reg.DBG_STATE Fld.DBG_STATE_JTAG_PRIV (irPrivate s.dbg.ir)

/-- Every output returns to functional control. -/
def State.functional (s : State) : State :=
  if s.dbg.forced then { s with dbg := { s.dbg with forced := false } }.emit .functional else s

/-- The lifecycle state has advanced: an instruction or a selection that has become disallowed reverts at once (R387). -/
def State.regate (s : State) : State :=
  let s1 := if s.jtagAllowed s.dbg.ir then s else ({ s with dbg := { s.dbg with ir := Ir.BYPASS } }.functional).showIr
  (s1.dbg.tmux.foldl (fun (z : State) p => if z.tmuxAllowed (fieldOf p.2 0 8) then z else z.emit (.tmux p.1 none)) s1)

end Sys2Proof.Machine
end

