-- ==== Sys2Proof/Machine/Lamp.lean ====
section
/-! DEFINITION. Lamp drive (chapter 12): the blank net, the lamp supply, glint writes, LATCH sequences, CONFIG frames, lines and
shadow slots. -/
namespace Sys2Proof.Machine

/-! ### The blank net (R231, Table 12.7) -/

/-- The level at which a row output is inactive: none, high-impedance, before a map has set ROW_POL (R2). -/
def State.rowIdle (s : State) : Option Bool := s.lmp.rowPol

/-- A map in LMP_MAP sets the polarity of the row outputs, which are driven from then on (R2, R213). -/
def State.takePolarity (s : State) : State :=
  let m := s.reg Reg.LMP_MAP
  if mapLanes m = 0 ∨ s.lmp.rowPol = some (mapRowPol m) then s
  else { s with lmp := { s.lmp with rowPol := some (mapRowPol m) } }.emit (.rowsOff (some (mapRowPol m)))

/-- Any source is asserted. -/
def State.blanked (s : State) : Bool := fieldOf (s.reg Reg.LMP_BLANK_SRC) 0 6 != 0

/-- Assert or clear blank source `n` at an instant. -/
def State.setBlank (s : State) (n : Nat) (on : Bool) (t : Nat) : State :=
  let w := s.reg Reg.LMP_BLANK_SRC
  if bitOf w n = on then s
  else
    let w1 := putField w n 1 (flag on)
    let w2 := if on then putField w1 (16 + n) 1 1 else w1
    let was := s.blanked
    let s1 := s.setReg Reg.LMP_BLANK_SRC w2
    let s2 := s1.putBit Reg.LMP_STATE Fld.LMP_STATE_BLANKED s1.blanked
    if on then
      if was then s2
      else { s2.bump Reg.LMP_BLANK_EVT 1 with lmp := { s2.lmp with rowOn := none } }.emit (.rowsOff s2.rowIdle)
    else if s2.blanked then s2
    else { s2 with lmp := { s2.lmp with clearedAt := t } }

/-! ### The map and the supply (R213 to R216, R230, R373) -/

/-- The cell period T of the map in force, in units of 2^-16 ns. -/
def State.cellT (s : State) : Nat := (s.lmp.map.map (fun m => glintPeriodNs (mapRate m) * nsT)).getD 0

/-- G_s of the map in force in ns: 0 with no map (R216). -/
def State.glintNs (s : State) : Nat :=
  match s.lmp.map, s.timeline? with
  | some m, some tl => glintWriteNs m tl.scan
  | _, _ => 0

/-- Umbra's inhibit on LAMP_PWR_EN (R373), kept while an EXTEST-class instruction is loaded (R389). -/
def State.umbInhibit (s : State) : Bool :=
  s.pstate != Ps.RUN || s.umb.stopAt.isSome || s.bit Reg.THM_STATE Fld.THM_STATE_T_BLANK || s.bit Reg.THM_STATE Fld.THM_STATE_BLANK_ONLY ||
    irExtest s.dbg.ir

/-- A replay runs: of R326 until W(F0), or in the held state (R358). -/
def State.replayAt (s : State) (f : Nat) : Bool := s.heldAt f || (s.lmp.replaying.isSome && decide (f < s.flk.f0 ∨ s.lockState < 2))

/-- The timeline the lamp drive follows for frame `f`: the outgoing image's while a replay of R326 runs. -/
def State.drivenTimeline? (s : State) (f : Nat) : Option Timeline :=
  match s.lmp.replaying with
  | some tl => if s.replayAt f then some tl else s.timeline?
  | none => s.timeline?

/-- The timeline driven at an instant. -/
def State.drivenNow? (s : State) (t : Nat) : Option Timeline :=
  match s.lmp.replaying with
  | some tl => s.drivenTimeline? (wfnAt tl t)
  | none => s.timeline?

/-- Ring bring-up found this tile miscabled: its outputs stay as in R2 (R14). -/
def State.ringMiscabled (s : State) : Bool :=
  s.bit (Reg.CHN_PORT_STAT 0) Fld.CHN_PORT_STAT_MISCABLED || s.bit (Reg.CHN_PORT_STAT 1) Fld.CHN_PORT_STAT_MISCABLED

/-- This tile's chain has come up (R15, R144): a sender switches a direction to its declared rate only when every hop is UP and N tiles have
announced themselves, so a tile knows it by the switch, or by a stream at a declared rate above the bring-up rate. Until then its outputs
stay as in R2 (DEDUCED, log entry 80). -/
def State.chainWhole (s : State) : Bool :=
  [0, 1].any (fun p => s.chn.rated.contains p || s.tileChain?.any (fun c => c.rate != 0 && s.get (Reg.CHN_PORT_STAT p) Fld.CHN_PORT_STAT_RATE == c.rate))

/-- The lamp drive is out of the state of R2 (R192): an image runs as tile with an accepted map, from the choice of F0 or while the held
state or a replay keeps the old picture; a miscabled tile and one whose chain is not up stay in that state (R14, R15). -/
def State.lampLive (s : State) : Bool :=
  s.isTile && s.lmp.map.isSome && (decide (2 ≤ s.lockState) || s.lmp.replaying.isSome || s.flk.heldFrom.isSome) && !s.ringMiscabled && s.chainWhole

/-- The lamp drive's request (R230): LAMP_ON is 1 and no fault is latched. -/
def State.lampRequest (s : State) : Bool := s.lampLive && s.bit Reg.LMP_CTRL Fld.LMP_CTRL_LAMP_ON && !s.lmp.fault

/-- The glint lanes send cells, or are held low, and source 4 holds the rows of R2 (R192, R217, Table 12.7). -/
def State.driveLanes (s : State) (t : Nat) : State :=
  let n := if s.lampLive then (s.lmp.map.map mapLanes).getD 0 else 0
  let s1 := if n = s.lmp.lanes then s else { s with lmp := { s.lmp with lanes := n } }.emit (.glintLanes n)
  if s.lampLive then s1 else s1.setBlank 4 true t

/-- Drive the lanes, and LAMP_PWR_EN to what its conditions give: with it low, or LAMP_PG not yet high for 1 ms, source 5 is asserted. -/
def State.lampPower (s0 : State) (t : Nat) : State :=
  let s := s0.driveLanes t
  let want := s.lampRequest && !s.umbInhibit
  if want = s.lmp.pwrAt.isSome then s
  else
    let s1 := (s.putBit Reg.LMP_STATE Fld.LMP_STATE_PWR_EN want).emit (.lampPower want)
    if want then
      let g := s1.bit Reg.LMP_STATE Fld.LMP_STATE_PG
      { s1 with lmp := { s1.lmp with pwrAt := some t, settled := false, pgAt := if g then some t else none },
                met := { s1.met with opened := { s1.met.opened with lampOff := false } } }
    else { s1 with lmp := { s1.lmp with pwrAt := none, settled := false } }.setBlank 5 true t

/-- A lamp fault is latched. -/
def State.latchLampFault (s : State) (t : Nat) : State := ({ s with lmp := { s.lmp with fault := true } }.event 7).lampPower t

/-- MAP_CHECK (R215): the map that LMP_MAP holds is checked when an image starts to run. -/
def State.checkMap (s : State) (im : Image) (t : Nat) : State :=
  match im.role, im.chains with
  | .tile, c :: _ =>
    let m := s.reg Reg.LMP_MAP
    let none_ := mapLanes m == 0
    let k := if none_ then 0 else mapCause m im.timeline c
    let s1 := s.put Reg.LMP_STATE Fld.LMP_STATE_MAP_CAUSE k
    let ok := !none_ && k == 0
    let s2 : State := { s1 with lmp := { s1.lmp with map := if ok then some m else none } }
    let s3 := if ok then s2 else s2.setBlank 4 true t
    s3.lampPower t
  | _, _ => ({ s with lmp := { s.lmp with map := none } }.setBlank 4 true t).lampPower t

/-- LMP_STATE.STATE (Table 12.10; with LAMP_PWR_EN low it reads HELD, log entry 30). -/
def State.lampState (s : State) : Nat :=
  if s.get Reg.LMP_STATE Fld.LMP_STATE_MAP_CAUSE ≠ 0 then 1
  else if s.lmp.map.isNone then 0
  else if s.lmp.fault then 4
  else if s.lmp.pwrAt.isNone then 0
  else if bitOf (s.reg Reg.LMP_BLANK_SRC) 5 then 2
  else 3

/-- LAMP_PG_RISE. -/
def execLampPgRise (t : Nat) (s : State) : Host.Outcome State Fault Refusal :=
  let s0 := s.tick t
  if s0.bit Reg.LMP_STATE Fld.LMP_STATE_PG then .next s0
  else
    let s1 := s0.putBit Reg.LMP_STATE Fld.LMP_STATE_PG true
    .next { s1 with lmp := { s1.lmp with pgAt := some t, settled := false } }

/-- LAMP_PG_SETTLED: LAMP_PG has been high for 1 ms after LAMP_PWR_EN rose; source 5 clears. -/
def execLampPgSettled (t : Nat) (s : State) : Host.Outcome State Fault Refusal :=
  let s0 := s.tick t
  match s0.lmp.pwrAt, s0.lmp.pgAt with
  | some p, some g =>
    if !s0.bit Reg.LMP_STATE Fld.LMP_STATE_PG ∨ s0.lmp.settled ∨ t < Nat.max p g + msT then .next s0
    else .next ({ s0 with lmp := { s0.lmp with settled := true } }.setBlank 5 false t)
  | _, _ => .next s0

/-- LAMP_PG_TIMEOUT: LAMP_PG is not high within PG_TIMEOUT of LAMP_PWR_EN; the fault is latched and LAMP_PWR_EN drops. -/
def execLampPgTimeout (t : Nat) (s : State) : Host.Outcome State Fault Refusal :=
  let s0 := s.tick t
  match s0.lmp.pwrAt with
  | none => .next s0
  | some p =>
    if s0.bit Reg.LMP_STATE Fld.LMP_STATE_PG ∨ t < p + s0.get Reg.LMP_CTRL Fld.LMP_CTRL_PG_TIMEOUT * msT then .next s0
    else .next (s0.latchLampFault t)

/-- LAMP_PG_FALL: while LAMP_PWR_EN is high it asserts source 5, drops LAMP_PWR_EN and latches LAMP_FAULT. -/
def execLampPgFall (t : Nat) (s : State) : Host.Outcome State Fault Refusal :=
  let s0 := s.tick t
  if !s0.bit Reg.LMP_STATE Fld.LMP_STATE_PG then .next s0
  else
    let s1 := s0.putBit Reg.LMP_STATE Fld.LMP_STATE_PG false
    let s2 : State := { s1 with lmp := { s1.lmp with pgAt := none, settled := false } }
    if s2.lmp.pwrAt.isSome then .next ((s2.setBlank 5 true t).latchLampFault t) else .next s2

/-- LMP_CTRL (Table 12.11): PG_TIMEOUT 0 is ignored as a whole; FAULT_CLR acts while LAMP_ON, as the write leaves it, is 0. -/
def State.lampCtrl (s : State) (data : Word) (t : Nat) : State :=
  if fieldOf data 8 8 = 0 then s
  else
    let s1 := s.plainWrite Reg.LMP_CTRL data
    let s2 := s1.setBlank 3 (bitOf data 1) t
    let s3 : State := if bitOf data 2 ∧ !bitOf data 0 then { s2 with lmp := { s2.lmp with fault := false } } else s2
    s3.lampPower t

/-! ### Chain-express state (R132, R134, R224) -/

/-- DARK is set or cleared: a DARK goes out at once, and a data frame in progress is delayed by 3T. -/
def State.setDark (s : State) (on : Bool) : State :=
  let was := s.bit Reg.LMP_STATE Fld.LMP_STATE_DARK
  let s1 := s.putBit Reg.LMP_STATE Fld.LMP_STATE_DARK on
  if on ∧ !was ∧ s1.lmp.map.isSome then
    { s1 with lmp := { s1.lmp with write := s1.lmp.write.map (fun (w : GlintWrite) => { w with endsAt := w.endsAt + 3 * s.cellT }) } }.emit .glintDark
  else s1

/-! ### CONFIG frames, dark stretch and shadow slots (R223, R227, R229, R270) -/

/-- LINE_T and BLANK_T of an image slot in T/16 units (Table 12.3). -/
def lineUnits (m : Word) (r : SlotRec) : Nat := 2 * r.lineQ / glintPeriodNs (mapRate m)
def blankUnits (m : Word) (r : SlotRec) : Nat := 16 * r.blankNs / glintPeriodNs (mapRate m)

/-- The dark stretch wanted at the present level (R227, R270), limited by the shortest line declared. -/
def State.darkWanted (s : State) (m : Word) (tl : Timeline) : Nat :=
  let rs := tl.slots.filter (fun r => r.kind == 1)
  let short := rs.foldl (fun a r => Nat.min a (lineUnits m r)) 65535
  let line := (rs.find? (fun r => lineUnits m r == short)).map (fun r => lineUnits m r - blankUnits m r)
  let n := line.getD 0
  Nat.min (fieldOf (s.reg (Reg.THM_LEVEL_ACT s.level)) 0 8 * n / 256) (n - 16)

/-- The 17 words of a driver's CONFIG share (Table 12.3). -/
def configShare (m : Word) (tl : Timeline) (j dark drvData : Nat) (sh : Option ShadowEntry) : List Nat :=
  let slotOf (k : Nat) : Option SlotRec := imageSlot tl k
  let pass (k : Nat) : Nat := ((slotOf k).map (·.passes)).getD 0 % 256
  let line (k : Nat) : Nat := ((slotOf k).map (lineUnits m)).getD 0
  let blank (k : Nat) : Nat := ((slotOf k).map (blankUnits m)).getD 0
  let w13 := match sh with | some e => 0x8000 + (e.channel % 64) * 512 | none => 0
  let w14 := match sh with | some e => e.value % 65536 | none => 0
  let ws := [0x1000 + j * 256 + (mapDrivers m - 1) * 16 + (tl.nImage - 1) * 4, (mapChannels m - 1) * 1024 + (tl.scan - 1) * 16,
    pass 0 * 256 + pass 1, pass 2 * 256 + pass 3, line 0, line 1, line 2, line 3, blank 0, blank 1, blank 2, blank 3,
    dark, w13, w14, drvData]
  ws ++ [crc16 (ws.flatMap (beBytes 2))]

/-- The entry that lights a driver: the last that names it, inside the map (R229). -/
def entryFor (m : Word) (es : List ShadowEntry) (ln j : Nat) : Option ShadowEntry :=
  (es.reverse).find? (fun e => e.lane == ln && e.driver == j && decide (e.channel < mapChannels m))

/-- Length of a CONFIG frame in units of 2^-16 ns. -/
def State.configLength (s : State) (m : Word) : Nat := (2 + 272 * mapDrivers m) * s.cellT

/-- Exposure windows of frame g as (opening, close). -/
def exposures (tl : Timeline) (g : Nat) : List (Nat × Nat) :=
  (tl.slots.filter (fun r => r.kind == 1 && r.expPasses != 0)).map (fun r =>
    let a := frameStart tl g + exposureOpen tl r * 8192
    (a, a + exposureLen tl r * 8192))

/-- A CONFIG frame over [a, b) would overlap an exposure window or the next aligned-symbol sequence of the frames the tile drives (R223). -/
def State.configBlocked (s : State) (tl : Timeline) (a b : Nat) : Bool :=
  let g := wfnAt tl a
  let frames := [g - 1, g, g + 1].filter (fun k => decide (s.flk.f0 ≤ k) || s.replayAt k)
  frames.any (fun k => (exposures tl k).any (fun e => decide (a < e.2 ∧ e.1 < b))) ||
    frames.any (fun k => (List.range tl.nImage).any (fun n =>
      let at_ := Sys2Proof.Machine.latchTime tl k n
      decide (a < at_ - 16 * s.cellT ∧ at_ - 22 * s.cellT < b)))

/-- The reference entry a SHADOW request measures: exactly one entry, equal to entry r below REF_COUNT, and a line (R243). -/
def State.measuredEntry (s : State) (q : ShadowMsg) : Option Nat :=
  match q.entries, s.cal.cabinet with
  | [e], some c =>
    if q.lineCount = 0 then none
    else c.refs.findIdx? (fun r => r.lane == e.lane && r.driver == e.driver && r.channel == e.channel && r.value == e.value && r.row == q.row)
  | _, _ => none

/-- A CONFIG frame goes out at an instant, with a shadow slot's request where one stands (R223, R229). -/
def State.sendConfig (s : State) (m : Word) (tl : Timeline) (t : Nat) (slot : Option SlotRec) : State :=
  let g := wfnAt tl t
  let req := if s.lmp.replaying.isSome || s.heldAt g then none
    else slot.bind (fun r => s.lmp.shadows.find? (fun q => q.slot == r.index && q.wfn == g))
  let dark := s.darkWanted m tl
  let es := (req.map (·.entries)).getD []
  let drv := fieldOf (s.reg Reg.LMP_DRV_DATA) 0 16
  let shares := (List.range (mapLanes m)).map (fun ln =>
    (List.range (mapDrivers m)).map (fun j => configShare m tl j dark drv (entryFor m es ln j)))
  let s1 := s.emit (.glintConfig t shares)
  let s2 : State := { s1 with lmp := { s1.lmp with darkSent := some dark } }
  match req, slot with
  | some q, some r =>
    let entry := s2.measuredEntry q
    let run : ShadowRun :=
      { req := q, firstLine := t + s2.configLength m + 18 * s2.cellT, cut := 0, ramping := s2.bit Reg.EMC_STATE Fld.EMC_STATE_RAMPING,
        starts := frameStart tl g + r.startNs * nsT, ends := frameStart tl g + (r.startNs + r.lengthNs) * nsT, entry := entry }
    let s3 : State := { s2 with lmp := { s2.lmp with run := some run, shadows := s2.lmp.shadows.filter (fun x => x != q) } }
    match entry.bind (fun k => s3.cal.cabinet.bind (fun c => c.refs[k]?)), s3.cal.cabinet with
    | some e, some c =>
      match c.sensors[e.port]? with
      | some p => s3.emit (.i2cWrite e.port p.addr p.start)
      | none => s3
    | _, _ => s3
  | _, _ => s2

/-- The tile drives its lanes in frame `f`: a run has chosen its F0, or the held state or a replay keeps the old picture. -/
def State.drives (s : State) (f : Nat) : Bool := decide (2 ≤ s.lockState) || s.lmp.replaying.isSome || s.heldAt f

/-- An instant of a timeline is a config point: each shadow-slot start, or, when no shadow slot is declared, the close of the exposure
window of image slot n - 1, or its latch if it declares none (R223). -/
def configPoint (tl : Timeline) (t : Nat) : Bool :=
  let g := wfnAt tl t
  if tl.nShadow ≠ 0 then tl.slots.any (fun r => r.kind == 2 && t == frameStart tl g + r.startNs * nsT)
  else (imageSlot tl (tl.nImage - 1)).any (fun r =>
    [g - 1, g].any (fun k =>
      t == (if r.expPasses = 0 then latchTime tl k (tl.nImage - 1)
        else frameStart tl k + (exposureOpen tl r + exposureLen tl r) * 8192)))

/-- The CONFIG frame due at an instant: delayed by a write in progress, skipped and counted where it would overlap, or sent with the
request of the shadow slot that runs (R223). -/
def State.tryConfig (s : State) (m : Word) (tl : Timeline) (t : Nat) : State :=
  if s.lmp.write.isSome then { s with lmp := { s.lmp with cfgDue := some t } }
  else
    let s1 : State := { s with lmp := { s.lmp with cfgDue := none } }
    if s1.configBlocked tl t (t + s1.configLength m) then s1.bump Reg.LMP_CFG_SKIP 1
    else
      let g := wfnAt tl t
      s1.sendConfig m tl t (tl.slots.find? (fun r => r.kind == 2 && decide (frameStart tl g + r.startNs * nsT ≤ t) &&
        decide (t < frameStart tl g + (r.startNs + r.lengthNs) * nsT)))

/-- The write that delayed a CONFIG frame has ended: the frame is due now (R223). -/
def State.lateConfig (s : State) (t : Nat) : State :=
  match s.lmp.cfgDue, s.lmp.map, s.drivenNow? t with
  | some _, some m, some tl => s.tryConfig m tl t
  | _, _, _ => s

/-! ### Glint writes and latches (R214, R216, R219, R222, R22, R194) -/

/-- The data of every mapped lane, in the order of R219, by the wiring rule of R214. `glint x y e` is the value of emitter e of
pixel (x, y). -/
def laneData (m : Word) (scan w h e : Nat) (rowMap : List Nat) (glint : Nat → Nat → Nat → Nat) : List (List Nat) :=
  (List.range (mapLanes m)).map (fun ln =>
    (List.range (mapDrivers m)).flatMap (fun j =>
      (List.range scan).flatMap (fun k =>
        (List.range (mapChannels m)).map (fun ch =>
          let c := (ln * mapDrivers m + j) * mapChannels m + ch
          let b := c / (e * w)
          if h / scan ≤ b then 0 else glint (c / e % w) (b * scan + rowMap.getD k 0) (c % e)))))

/-- The glint stream of a decoded picture. A row map kept from an image of a greater SCAN may name a pixel row that does not exist; its
values are free (log entry 84). -/
def State.streamOf (s : State) (c : ChainRec) (p : DecodedPic) : GlintStream :=
  match s.lmp.map, s.sampleOf p.wfn, s.timeline? with
  | some m, some x, some tl =>
    { wfn := p.wfn, slot := p.slot,
      lanes := laneData m tl.scan c.width c.height c.emitters x.rowMap (fun px py e =>
        if c.height ≤ py then Config.strayGlint px py e
        else (correctPixel c.emitters x px py (p.pixels.getD (py * c.width + px) 0)).getD e 0) }
  | _, _, _ => { wfn := p.wfn, slot := p.slot, lanes := [] }

/-- The stream a replay sends for a slot: the slot's own, or slot 0's for a slot the old image did not declare (R326). -/
def State.replayStream (s : State) (f slot : Nat) : Option GlintStream :=
  match s.lmp.replay.find? (fun g => g.slot == slot) with
  | some g => some { g with wfn := f }
  | none => (s.lmp.replay.find? (fun g => g.slot == 0)).map (fun g => { g with wfn := f, slot := slot })

/-- The latch of the image slot before (F, s). -/
def previousLatch (tl : Timeline) (f slot : Nat) : Nat :=
  if slot = 0 then latchTime tl (f - 1) (tl.nImage - 1) else latchTime tl f (slot - 1)

/-- GLINT_WRITE_START: the data frame of (F, s) starts at the later of the correction's completion and the preceding latch
(R22, R219); in a replay the frame comes from the replay buffer (R326). -/
def execGlintWriteStart (wfn slot t : Nat) (s : State) : Host.Outcome State Fault Refusal :=
  let s0 := s.tick t
  match s0.tileChain?, s0.drivenTimeline? wfn with
  | some c, some tl =>
    let late := decide (latchTime tl wfn slot ≤ t + 22 * s0.cellT)
    let st := if s0.replayAt wfn then s0.replayStream wfn slot
      else (s0.ccx.decoded.find? (fun p => p.wfn == wfn && p.slot == slot)).map (s0.streamOf c)
    match st with
    | none => .next s0
    | some g =>
      if late ∨ t < previousLatch tl wfn slot ∨ s0.lmp.write.isSome ∨ s0.lmp.done.any (fun d => d.wfn == wfn && d.slot == slot) then .next s0
      else
        let s1 : State := { s0 with lmp := { s0.lmp with write := some { stream := g, endsAt := t + s0.glintNs * nsT } } }
        .next (if s1.lmp.map.isSome then s1.emit (.glintFrame slot t g.lanes) else s1)
  | _, _ => .next s0

/-- GLINT_WRITE_COMPLETE: the last data cell has left the ball (R216), and a CONFIG frame that the write delayed is due (R223). -/
def execGlintWriteComplete (t : Nat) (s : State) : Host.Outcome State Fault Refusal :=
  let s0 := s.tick t
  match s0.lmp.write with
  | none => .next s0
  | some w =>
    if t < w.endsAt then .next s0
    else
      let rest := s0.lmp.done.filter (fun d => d.slot != w.stream.slot)
      .next ({ s0 with lmp := { s0.lmp with write := none, done := rest ++ [w.stream] } }.lateConfig t)

/-- The write of (F, s) is complete. -/
def State.written (s : State) (f slot : Nat) : Option GlintStream := s.lmp.done.find? (fun d => d.wfn == f && d.slot == slot)

/-- The picture carries a breach tag at the lamp drive (R55): endpoint class 5. -/
def State.pictureTagged (s : State) (f slot : Nat) : Bool := s.sinkTainted f slot 0x5000

/-- LATCH_SEQUENCE, at T_L(F, s) - 22T (R221, R222, R224): a write still in progress is cut; SWAP is 1 for a complete, untagged
picture; with DARK set a DARK goes out instead. DARK_T of the last CONFIG frame comes into force with the latch (R227). -/
def execLatchSequence (wfn slot : Nat) (s : State) : Host.Outcome State Fault Refusal :=
  match s.drivenTimeline? wfn, s.lmp.map with
  | some tl, some _ =>
    let at_ := latchTime tl wfn slot
    let s0 := s.tick (at_ - 22 * s.cellT)
    if !s0.isTile ∨ tl.nImage ≤ slot ∨ !s0.drives wfn ∨ (wfn < s0.flk.f0 ∧ !s0.replayAt wfn) then .next s0
    else
      let cutNow := s0.lmp.write.isSome
      let s1 : State := if cutNow then { s0.bump Reg.LMP_CUT 1 with lmp := { s0.lmp with write := none } }.lateConfig s0.now else s0
      if s1.bit Reg.LMP_STATE Fld.LMP_STATE_DARK then
        let s2 := (s1.bump Reg.LMP_DARK_EVT 1).emit .glintDark
        .next { s2 with lmp := { s2.lmp with lastLatch := some (wfn, slot, false) } }
      else
        let g := s1.written wfn slot
        let swap := g.isSome && (s1.replayAt wfn || !s1.pictureTagged wfn slot)
        let s2 := if swap then s1 else s1.bump Reg.LMP_NOSWAP 1
        let rep := match g with
          | some x => if swap then s2.lmp.replay.filter (fun y => y.slot != slot) ++ [x] else s2.lmp.replay
          | none => s2.lmp.replay
        let s3 : State := { s2 with lmp := { s2.lmp with lastLatch := some (wfn, slot, swap), replay := rep, darkSent := none } }
        let s4 := match s2.lmp.darkSent with
          | some d => s3.setNum Reg.LMP_DARK d
          | none => s3
        .next (s4.emit (.glintLatch slot swap at_))
  | _, _ => .next s

/-- How a picture not shown by its latch is counted (Table 10.7). -/
def State.countRepeat (s : State) (f slot : Nat) : State :=
  let s1 := (s.bump Reg.SCH_SLOT_REPEAT 1).noteHealth 4 1
  if s1.lmp.rejected.contains (f, slot) ∨ (s1.written f slot).isSome then s1
  else if s1.ccx.decoded.any (fun p => p.wfn == f && p.slot == slot) || s1.ccx.rx.any (fun r => r.wfn == f && r.slot == slot && r.scrcOk) then
    s1.bump (Reg.FLK_LATE slot) 1
  else { s1 with lmp := { s1.lmp with undecided := (f, slot) :: s1.lmp.undecided } }.settleDecodes

/-- IMAGE_SLOT_LATCH, at T_L(F, s) (R22, R24, R194): the drivers latch the picture, or run the last complete stream of the slot,
which is counted unless the held state or a replay is in force. -/
def execImageSlotLatch (wfn slot : Nat) (s : State) : Host.Outcome State Fault Refusal :=
  match s.timeline? with
  | none => .next s
  | some tl =>
    let s0 := s.tick (latchTime tl wfn slot)
    if !s0.isTile ∨ tl.nImage ≤ slot ∨ s0.lockState < 3 ∨ (wfn < s0.flk.f0 ∧ !s0.replayAt wfn) then .next s0
    else
      let s1 := s0.offerLatch
      let good := (s1.written wfn slot).isSome && !s1.pictureTagged wfn slot
      let s2 : State := if good ∨ s1.replayAt wfn ∨ s1.held then s1 else s1.countRepeat wfn slot
      let pic := s2.ccx.decoded.find? (fun p => p.wfn == wfn && p.slot == slot)
      let latched := if s2.lmp.map.isNone then good else s2.lmp.lastLatch == some (wfn, slot, true)
      let shown := match pic with
        | some p => if latched && !s2.replayAt wfn then (s2.ccx.shown.filter (fun x => x.1 != slot)) ++ [(slot, p.pixels)] else s2.ccx.shown
        | none => s2.ccx.shown
      let s3 : State := { s2 with ccx := { s2.ccx with shown := shown, decoded := s2.ccx.decoded.filter (fun p => !(p.slot == slot && decide (p.wfn ≤ wfn))) } }
      .next { s3 with lmp := { s3.lmp with done := s3.lmp.done.filter (fun d => !(d.slot == slot && decide (d.wfn ≤ wfn))),
                                           rejected := s3.lmp.rejected.filter (fun p => !(p.2 == slot && decide (p.1 ≤ wfn))),
                                           replaying := if s3.flk.f0 ≤ wfn then none else s3.lmp.replaying } }

/-! ### The CONFIG_FRAME_SEND and SHADOW commands (R223, R229) -/

/-- CONFIG_FRAME_SEND at a config point, or at the choice of F0: the CONFIG frame is sent, skipped and counted, or delayed by a write
(R223). -/
def execConfigFrameSend (t : Nat) (s : State) : Host.Outcome State Fault Refusal :=
  let s0 := s.tick t
  match s0.lmp.map, s0.drivenNow? t with
  | some m, some tl => .next (if s0.drives (wfnAt tl t) && (configPoint tl t || s0.lmp.cfgDue == some t) then s0.tryConfig m tl t else s0)
  | _, _ => .next s0

/-- SHADOW (R229): kept for its slot; one that comes less than 100 µs before the slot starts is discarded and counted; a ROW of
SCAN or above voids it. -/
def State.takeShadow (s : State) (q : ShadowMsg) : State :=
  match s.timeline? with
  | none => s
  | some tl =>
    match shadowSlot tl q.slot with
    | none => s
    | some r =>
      if frameStart tl q.wfn + r.startNs * nsT < q.t + 100 * usT then s.bump Reg.LMP_SHADOW_LATE 1
      else if tl.scan ≤ q.row then s
      else { s with lmp := { s.lmp with shadows := s.lmp.shadows.filter (fun x => !(x.slot == q.slot && x.wfn == q.wfn)) ++ [q] } }

def execShadow (m : ShadowMsg) (s : State) : Host.Outcome State Fault Refusal :=
  let s0 := s.tick m.t
  if s0.isTile then .next (s0.takeShadow m) else .next s0

/-! ### Lines (R226, R229, R231) -/

/-- A row's active interval [a, b): driven to the level ROW_POL selects, unless the net is blanked or cleared less than 50 ns before the line
start; outputs numbered SCAN and above stay inactive (R226, R231). -/
def State.lightRow (s : State) (scan row start a b : Nat) : State :=
  let ok := !s.blanked && decide (s.lmp.clearedAt + 50 * nsT ≤ start) && decide (a < b) && decide (row < scan)
  if ok then { s with lmp := { s.lmp with rowOn := some row } }.emit (.rowOn row (s.lmp.rowPol != some true) a b)
  else { s with lmp := { s.lmp with rowOn := none } }

/-- The timeline a line belongs to. -/
def State.drivenLine? (s : State) : LineIn → Option Timeline
  | .image wfn _ _ => s.drivenTimeline? wfn
  | .shadow _ => s.timeline?

/-- The tile walks the lines of frame `f`: a frame of its run, or of a replay (R192). -/
def State.runsLines (s : State) (f : Nat) : Bool := (decide (3 ≤ s.lockState) && decide (s.flk.f0 ≤ f)) || s.replayAt f

/-- LINE_START: line i of an image slot starts at T_L + i × LINE_Q / 8 ns and enables output ROW_MAP[k]; a shadow line, which a LINE
sequence announces (R221), enables ROW, and a line that would end after the slot end less 22T is not sent, nor are the ones after it. -/
def execLineStart (l : LineIn) (s : State) : Host.Outcome State Fault Refusal :=
  match s.lmp.map, s.drivenLine? l with
  | some _, some tl =>
    let dark := (s.reg Reg.LMP_DARK).toNat * s.cellT / 16
    match l with
    | .image wfn slot i =>
      match imageSlot tl slot with
      | none => .next s
      | some r =>
        let t := latchTime tl wfn slot + i * r.lineQ * 8192
        let s0 := s.tick t
        let rows := ((s0.sampleOf wfn).map (·.rowMap)).getD s0.lmp.rowMap
        if r.passes * tl.scan ≤ i ∨ tl.scan = 0 ∨ !s0.runsLines wfn then .next s0
        else .next (s0.lightRow tl.scan (rows.getD (i % tl.scan) 0) t (t + r.blankNs * nsT) (t + r.lineQ * 8192 - dark))
    | .shadow i =>
      match s.lmp.run, imageSlot tl 0 with
      | some u, some r =>
        let t := u.firstLine + i * r.lineQ * 8192
        let s0 := s.tick t
        if u.req.lineCount ≤ i ∨ u.cut ≠ 0 then .next s0
        else if u.ends < t + r.lineQ * 8192 + 22 * s0.cellT then
          let n := u.req.lineCount - i
          .next { s0.bump Reg.LMP_SHADOW_CUT n with lmp := { s0.lmp with run := some { u with cut := n } } }
        else .next ((s0.emit (.glintLine (t - 18 * s0.cellT) t)).lightRow tl.scan u.req.row t (t + r.blankNs * nsT) (t + r.lineQ * 8192 - dark))
      | _, _ => .next s
  | _, _ => .next s

/-! ### The start of a run, and a jump of time at a tile (R173, R191 to R193) -/

/-- F0 is chosen: at a tile the lanes send idle cells, LAMP_PWR_EN may rise, and a CONFIG frame is due (R192, R223). -/
def State.armRun (s : State) (f0 t : Nat) : State :=
  let s1 := s.arm f0
  if s1.isTile then { s1 with lmp := { s1.lmp with cfgDue := some t } }.lampPower t else s1

/-- START_CONDITION: a sender with TIME_VALID or START_FREE, a tile LOCKED with its shown port UP; the mirror of a formed pair
takes F0 from the primary. A step that waits comes first (R176, R191). -/
def execStartCondition (t : Nat) (primaryF0 : Option Nat) (s : State) : Host.Outcome State Fault Refusal :=
  let s1 := s.tick t
  match s1.gen.running with
  | none => .next s1
  | some im =>
    if s1.lockState ≠ 1 ∨ s1.tim.step.isSome then .next s1
    else
      match im.role with
      | .sender =>
        if s1.formedMirror then
          match primaryF0 with
          | none => .next s1
          | some f => .next ((s1.putBit Reg.FLK_STATE Fld.FLK_STATE_FREE_RUN (!s1.timeValid)).armRun f t)
        else if s1.timeValid || s1.bit Reg.FLK_CTRL Fld.FLK_CTRL_START_FREE then
          .next ((s1.putBit Reg.FLK_STATE Fld.FLK_STATE_FREE_RUN (!s1.timeValid)).armRun (startFrame im.timeline t (2 * msT)) t)
        else .next s1
      | .tile =>
        if s1.timeState = 2 ∧ (s1.shownPort.any s1.portUp) then .next (s1.armRun (startFrame im.timeline t msT) t) else .next s1

/-- A tile whose time has jumped starts a new run (R173, R193): its outputs go back to the state of R2 until F0 is chosen again, but in the
held state and in a replay, which keep the picture (R192, R326). -/
def State.endTileRun (s : State) : State :=
  if s.lockState < 2 then s
  else
    let s1 := s.put Reg.FLK_STATE Fld.FLK_STATE_STATE 1
    s1.lampPower s1.now

/-- TIME (R173): a tile takes e from its shown, UP port. The first e, and a new TAG of the same stream, set the time
directly, after which e is 0; a new TAG ends the run (R193). -/
def execTime (m : TimeMsg) (s : State) : Host.Outcome State Fault Refusal :=
  let s0 := s.tick m.t
  if s0.shownPort ≠ some m.port ∨ !s0.portUp m.port then .next s0
  else
    let s1 : State := { s0 with tim := { s0.tim with timeAt := m.t } }
    match s1.chn.timeRows.find? (fun r => r.1 == m.port && r.2.1 == m.sfn) with
    | none => .next s1
    | some (_, _, arr, corr) =>
      let e := (m.departs : Int) + ((corr : Int) + s1.lastDelay m.port) * 256 - (arr : Int)
      let sameStream := s1.tim.tagPort == some m.port
      let epoch := s1.get Reg.TIM_STATE Fld.TIM_STATE_EPOCH
      let tagged (s : State) : State :=
        ({ s with tim := { s.tim with tagPort := some m.port } }.put Reg.TIM_STATE Fld.TIM_STATE_EPOCH m.tag).put
          Reg.TIM_STATE Fld.TIM_STATE_SOURCE (2 + m.port)
      let jump := !s1.tim.started || (sameStream && epoch != m.tag % 256)
      if jump then
        let s2 := tagged (s1.applyStep s1.now ((s1.now : Int) + e).toNat)
        let s3 := if s1.tim.started then s2.endTileRun else s2
        let s4 := if s3.timeState = 0 ∨ 3 ≤ s3.timeState then s3.setTime 1 else s3
        .next (s4.newOffset 0 m.t (4 * nsT) (16 * nsT))
      else
        let s2 := tagged s1
        let s3 := if s2.timeState = 0 ∨ 3 ≤ s2.timeState then s2.setTime 1 else s2
        .next (s3.newOffset e m.t (4 * nsT) (16 * nsT))

/-! ### Frame starts and registers -/

/-- W(F0) of a run with an accepted map clears source 4 (Table 12.7); it is not asserted while a replay runs (R326). -/
def State.lampFrame (s : State) (g t : Nat) : State :=
  if s.lampLive && ((decide (3 ≤ s.lockState) && decide (s.flk.f0 ≤ g)) || s.lmp.replaying.isSome || s.flk.heldFrom.isSome) then s.setBlank 4 false t else s

/-- Counters of the LMP block (R233). -/
def lmpCounter (a : Nat) : Bool := inRange a Reg.LMP_NOSWAP Reg.LMP_DARK_EVT

/-- A write in the LMP block. -/
def State.lmpWrite (s : State) (a : Nat) (data : Word) : State :=
  if a = Reg.LMP_CTRL then s.lampCtrl data s.now
  else if a = Reg.LMP_MAP then (if 192 < fieldOf data 0 8 then s else (s.plainWrite a data).takePolarity)
  else if a = Reg.LMP_CNT_CLEAR then s.clearCounters data lmpCounter
  else s.plainWrite a data

/-- LMP registers computed at a read. -/
def State.lmpView (s : State) (a : Nat) : Option Nat :=
  if a = Reg.LMP_STATE then some (putField (s.reg a) 0 3 s.lampState).toNat
  else if a = Reg.LMP_GS then some s.glintNs
  else none

end Sys2Proof.Machine
end

