-- ==== Sys2Proof/Machine/Calibration.lean ====
section
/-! DEFINITION. Calibration storage, tap trims and the colour loop (chapter 13). -/
namespace Sys2Proof.Machine

/-- CAL_STATE.RESULT codes (Table 13.8). -/
abbrev Rs.OK : Nat := 0
abbrev Rs.CRC : Nat := 1
abbrev Rs.FORMAT : Nat := 2
abbrev Rs.MISMATCH : Nat := 3
abbrev Rs.ROLE : Nat := 4
abbrev Rs.GEN : Nat := 5
abbrev Rs.FLASH : Nat := 6
abbrev Rs.POWER : Nat := 7
abbrev Rs.ABORTED : Nat := 8

/-! ### Objects (R239, R240) -/

/-- One sensor port of a cabinet record; none when a field is outside its range. -/
def readSensor (b : List Byte) : Option SensorCfg :=
  if byteAt b 0 ≤ 127 ∧ byteAt b 1 ≤ 2 ∧ byteAt b 2 ≤ 8 ∧ 1 ≤ byteAt b 12 ∧ byteAt b 12 ≤ 4 ∧ leAt b 14 2 = 0 then
    some { addr := byteAt b 0, speed := byteAt b 1, start := slice b 3 (byteAt b 2), resultReg := byteAt b 11,
           chCount := byteAt b 12, satHi := byteAt b 13 }
  else none

/-- One reference entry, against E, SCAN and the sensor ports. -/
def readRef (emitters scan : Nat) (sensors : List SensorCfg) (b : List Byte) : Option RefEntry :=
  if byteAt b 0 < emitters ∧ byteAt b 4 < scan ∧ byteAt b 5 ≤ 1 ∧
      byteAt b 6 < ((sensors[byteAt b 5]?).map (·.chCount)).getD 0 ∧ byteAt b 7 = 0 then
    some { emitter := byteAt b 0, lane := byteAt b 1, driver := byteAt b 2, channel := byteAt b 3, row := byteAt b 4,
           port := byteAt b 5, sensorCh := byteAt b 6, value := leAt b 8 2, minCount := leAt b 10 2,
           targets := (List.range 4).map (fun k => leAt b (12 + 2 * k) 2) }
  else none

/-- The CABINET checks (Table 13.3), all 64 reference entries included; the entries in use are the first REF_COUNT. -/
def readCabinet (emitters scan : Nat) (b : List Byte) : Option Cabinet :=
  let gmin := leAt b 0x52 2
  let gmax := leAt b 0x54 2
  let gains := (List.range 4).map (fun e => leAt b (0x58 + 2 * e) 2)
  let sensors := (List.range 2).map (fun p => readSensor (slice b (0x60 + 16 * p) 16))
  let n := byteAt b 0x56
  let rows := (slice b 0x0C 64).map (·.toNat)
  let ok := b.length == 1536 && (slice b 0 4).map (·.toNat) == [0x44, 0x4E, 0x43, 0x42] && leAt b 4 2 == 1 && leAt b 6 2 == 0 &&
    rows.all (fun r => decide (r ≤ 63)) && decide (1 ≤ leAt b 0x4C 2) && decide (leAt b 0x4C 2 ≤ 60) && decide (1 ≤ byteAt b 0x4F) &&
    decide (byteAt b 0x4F ≤ 128) && decide (1 ≤ leAt b 0x50 2) && decide (leAt b 0x50 2 ≤ 1024) && decide (gmin ≤ gmax) &&
    decide (n ≤ 64) && decide (1 ≤ byteAt b 0x57) && gains.all (fun g => decide (gmin ≤ g) && decide (g ≤ gmax)) &&
    sensors.all (·.isSome) && allZero (slice b 0x80 128) && decide (leAt b 8 4 % 256 ≤ 192)
  let ss := sensors.filterMap id
  let refs := (List.range 64).map (fun r => readRef emitters scan ss (slice b (0x100 + 20 * r) 20))
  if ok && refs.all (·.isSome) then
    some { lampMap := leAt b 8 4, rowMap := rows, loopS := leAt b 0x4C 2, ki := byteAt b 0x4E, outlier := byteAt b 0x4F,
           stepMax := leAt b 0x50 2, gainMin := gmin, gainMax := gmax, stale := byteAt b 0x57, gains := gains, sensors := ss,
           refs := (refs.take n).filterMap id }
  else none

/-- Lanes that carry trims (R240). -/
def trimLane (n : Nat) : Bool := decide (n < 40) || (decide (56 ≤ n) && decide (n < 60))

/-- A point block holds codes of Table 13.4 in every entry that is not ignored (R240). -/
def trimBlockOk (tile : Bool) (b : List Byte) : Bool :=
  (List.range 64).all (fun n => !trimLane n ||
    (decide (byteAt b (16 * n) ≤ 14) && decide (byteAt b (16 * n + 1) ≤ 31) && decide (byteAt b (16 * n + 2) ≤ 31) &&
      decide (byteAt b (16 * n + 3) ≤ 36))) &&
  (!tile || (List.range 320).all (fun k => decide (byteAt b (0x400 + k) ≤ 63))) && allZero (slice b 0x540 704)

/-- The TRIMS checks (Table 13.4). -/
def readTrims (tile : Bool) (b : List Byte) : Option TrimSet :=
  let n := byteAt b 6
  let temps := (List.range n).map (fun k => signedOf 16 (leAt b (8 + 2 * k) 2))
  let blocks := (List.range n).map (fun k => slice b (256 + 2048 * k) 2048)
  if (slice b 0 4).map (·.toNat) = [0x44, 0x4E, 0x54, 0x52] ∧ leAt b 4 2 = 1 ∧ 1 ≤ n ∧ n ≤ 4 ∧ byteAt b 7 ≤ 16 ∧
      b.length = 256 + 2048 * n ∧ (List.range (n - 1)).all (fun k => decide (temps.getD k 0 + 16 ≤ temps.getD (k + 1) 0)) ∧
      allZero (slice b (8 + 2 * n) (248 - 2 * n)) ∧ blocks.all (trimBlockOk tile) then
    some { src := byteAt b 7, temps := temps, blocks := blocks }
  else none

/-- E and SCAN for the CABINET checks: the running image's, else the greatest of Tables 10.1 and 8.6. -/
def State.cabinetLimits (s : State) : Nat × Nat :=
  match s.gen.running.bind (fun im => im.chains.head?.map (fun c => (c.emitters, im.timeline.scan))) with
  | some x => x
  | none => (4, 64)

def State.readCab (s : State) (b : List Byte) : Option Cabinet := readCabinet s.cabinetLimits.1 s.cabinetLimits.2 b

/-- A set's checks against the running image. -/
def State.readSet (s : State) (b : List Byte) : Option CalSet := s.tileChain?.bind (fun c => readCalSet c b)

/-! ### The staging area (R238) -/

/-- Size of the staging area. -/
def State.stageBytes (s : State) : Nat := if s.isTile then 32 * 2 ^ 20 + 128 * 1024 else 64 * 1024

/-- Bytes reach the staging area; while a store runs they are dropped and counted. -/
def State.calStage (s : State) (off : Nat) (bs : List Byte) : State :=
  if s.cal.store.isSome then s.bump Reg.CAL_STAGE_DROP 1
  else { s with cal := { s.cal with staging := cellSetMany (fun _ => (0 : Byte)) s.cal.staging off bs } }

/-- CAL_STAGE_DATA. -/
def doCalStageData (c : MboxCmd) (s : State) : State × Reply :=
  let off := leAt c.body 0 4
  let bs := c.body.drop 4
  if s.stageBytes < off + bs.length then (s, Reply.of St.BAD_FIELD) else (s.calStage off bs, Reply.of St.OK)

def execCalStageData (b : StageBytes) (s : State) : Host.Outcome State Fault Refusal :=
  let s0 := s.tick b.t
  if s0.stageBytes < b.offset + b.bytes.length then .next s0 else .next (s0.calStage b.offset b.bytes)

/-! ### Stores (R235, R237, R238) -/

/-- Record how a store ended in CAL_STATE. -/
def State.storeResult (s : State) (object result : Nat) : State :=
  let s1 := (s.put Reg.CAL_STATE Fld.CAL_STATE_OBJECT object).put Reg.CAL_STATE Fld.CAL_STATE_RESULT result
  let s2 := (s1.putBit Reg.CAL_STATE Fld.CAL_STATE_DONE true).putBit Reg.CAL_STATE Fld.CAL_STATE_BUSY false
  if result = Rs.OK then s2 else s2.bump Reg.CAL_STORE_FAIL 1

/-- A store ends with a result: its completion record follows. -/
def State.endStore (s : State) (x : CalStore) (result : Nat) : State :=
  let s1 : State := { s.dropJob x.token with cal := { s.cal with store := none } }
  let s2 := s1.storeResult x.object result
  if result = Rs.OK then s2.longEnd x.token St.OK 0 false
  else if result = Rs.ABORTED then s2.longEnd x.token St.ABORTED 0 true
  else s2.longEnd x.token St.FAILED result false

/-- CAL_STORE (R234, R235, R238, R246). -/
def doCalStore (c : MboxCmd) (s : State) : State × Reply :=
  let o := byteAt c.body 0
  let len := leAt c.body 4 4
  let refuse (r : Nat) : State × Reply := (s.storeResult o r, { status := St.FAILED, detail := r })
  if o = 0 ∨ 3 < o ∨ len = 0 ∨ largestBody o < len then (s, Reply.of St.BAD_FIELD)
  else if s.cal.store.isSome ∨ s.longFull then (s, Reply.of St.BUSY)
  else if s.isSender ∧ o ≠ 2 then refuse Rs.ROLE
  else if 0xFFFFFFFE ≤ s.topGeneration o then refuse Rs.GEN
  else
    match s.gen.running with
    | none => (s, Reply.of St.NO_SLACK)
    | some im =>
      if noSlack im then (s, Reply.of St.NO_SLACK)
      else
        let w := s.reg (Reg.CAL_SLOT o)
        let target := if bitOf w 4 then 0 else 1 - fieldOf w 0 1
        let r := s.longStart 0x502 c o
        let x : CalStore := { object := o, slot := target, length := len, crc := leAt c.body 8 4, generation := s.topGeneration o + 1,
                              body := cellRead (fun _ => (0 : Byte)) s.cal.staging 0 len, token := r.2.token, phase := .checking }
        let s1 : State := { r.1 with cal := { r.1.cal with store := some x } }
        let s2 := (s1.putBit Reg.CAL_STATE Fld.CAL_STATE_BUSY true).put Reg.CAL_STATE Fld.CAL_STATE_OBJECT o
        (s2.background .calStore r.2.token (some (perMiB 250 len)) (s.roomiest im), r.2)

def execCalStore (c : MboxCmd) (s : State) : Host.Outcome State Fault Refusal := .next (s.serve 0x502 c doCalStore)

/-- The first failing check of a staged object (R238). -/
def State.storeFails (s : State) (x : CalStore) : Option Nat :=
  if crc32c x.body ≠ x.crc then some Rs.CRC
  else if x.object = 1 then (if (s.readCab x.body).isNone then some Rs.FORMAT else none)
  else if x.object = 2 then (if (readTrims s.isTile x.body).isNone then some Rs.FORMAT else none)
  else if (s.readSet x.body).isNone then some Rs.MISMATCH
  else none

/-- STORE_CHECK: the background checks are complete; the store erases its target or ends. -/
def State.storeChecked (s : State) : State :=
  match s.cal.store with
  | none => s
  | some x =>
    if x.phase ≠ .checking then s
    else
      match s.storeFails x with
      | some r => (if r = Rs.MISMATCH then s.refuseSet else s).endStore x r
      | none =>
        if s.flashStopped then s.endStore x Rs.POWER
        else { s with cal := { s.cal with store := some { x with phase := .erasing 0 } } }

/-- CAL_STORE_COMPLETE (R238): the new slot is in use and the object takes effect. -/
def State.storeDone (s : State) (x : CalStore) : State :=
  let s1 := s.reportSlot x.object (some x.slot)
  let s2 : State :=
    if x.object = 1 then s1.putBit Reg.CAL_STATE Fld.CAL_STATE_CAB_PENDING true
    else if x.object = 2 then { s1 with cal := { s1.cal with trimsNext := readTrims s1.isTile x.body } }
    else match s1.readSet x.body with
      | some v => s1.acceptSet v
      | none => s1.refuseSet
  s2.endStore x Rs.OK

/-- A page program or sector erase of the store ends well; the next step begins (R235). -/
def State.storeStep (s : State) (x : CalStore) : State :=
  let base := slotBase x.object x.slot
  let go (s : State) (p : StorePhase) : State :=
    if s.flashStopped then s.endStore x Rs.POWER else { s with cal := { s.cal with store := some { x with phase := p } } }
  match x.phase with
  | .checking => s
  | .erasing n =>
    let s1 := s.flashErase (base + 65536 * n)
    if slotBytes x.object / 65536 ≤ n + 1 then
      let w := s.reg (Reg.CAL_SLOT x.object)
      go (s1.reportSlot x.object (if bitOf w 4 then none else some (fieldOf w 0 1))) (.programming 0)
    else go s1 (.erasing (n + 1))
  | .programming k =>
    let s1 := s.flashProgram (base + 256 * k) (pageOf x.body k)
    if ceilDiv x.length 256 ≤ k + 1 then
      if crc32c (s1.flashRead base x.length) ≠ x.crc then s1.endStore x (if s.flashStopped then Rs.POWER else Rs.FLASH) else go s1 .commit
    else go s1 (.programming (k + 1))
  | .commit =>
    let r := commitRecord x.object x.slot x.generation x.length x.crc (s.now / secT) identity
    let s1 := s.flashProgram (commitPage x.object x.slot) r
    if s.flashStopped then s1.endStore x Rs.POWER else s1.storeDone x

/-- An abort that wins (R238, R353). -/
def State.abortStore (s : State) : State :=
  match s.cal.store with
  | none => s
  | some x => s.endStore x Rs.ABORTED

/-- The stop of R237 as it acts on a store: an erase is abandoned, a page program in progress completes first. -/
def State.stopStore (s : State) : State :=
  match s.cal.store with
  | none => s
  | some x =>
    match x.phase with
    | .programming _ => s
    | .commit => s
    | _ => s.endStore x Rs.POWER

/-- A page program of a store runs. -/
def State.storeProgramming (s : State) : Bool :=
  match s.cal.store with
  | none => false
  | some x => match x.phase with
    | .programming _ => true
    | .commit => true
    | _ => false

/-! ### Boot (R236, R239, R240) -/

/-- A CABINET in use gives LMP_MAP (its reserved bits read 0), LMP_ROW_MAP, the gains and the loop registers (R239). -/
def State.loadCabinet (s : State) (c : Cabinet) : State :=
  let s1 := if s.umb.mapWritten then s else (s.setNum Reg.LMP_MAP (c.lampMap % 2 ^ 21)).takePolarity
  let s2 := (List.range 16).foldl (fun (z : State) k =>
    z.setNum (Reg.LMP_ROW_MAP k) (leNat ((slice (c.rowMap.map byteOf) (4 * k) 4)))) s1
  let s3 := (List.range 4).foldl (fun (z : State) e => z.setReg (Reg.EMC_GAIN e) (putField (z.reg (Reg.EMC_GAIN e)) 0 16 (c.gains.getD e 0))) s2
  let s4 := s3.setNum Reg.CAL_LOOP_CFG (c.loopS + c.ki * 2 ^ 8 + c.outlier * 2 ^ 16 + c.stale * 2 ^ 24)
  (s4.setNum Reg.CAL_LOOP_LIM (c.gainMin + c.gainMax * 2 ^ 16)).setNum Reg.CAL_LOOP_STEP c.stepMax

/-- Boot selects each object (R236). -/
def State.selectCal (s : State) (tile : Bool) : State :=
  let trims := s.selectSlot 2 (readTrims tile)
  let s1 : State := { s.reportSlot 2 (trims.map (·.1)) with cal := { s.cal with trims := trims.map (·.2), trimsNext := none } }
  if !tile then { s1 with cal := { s1.cal with cabinet := none } }
  else
    let cab := s1.selectSlot 1 s1.readCab
    let s2 := (s1.reportSlot 1 (cab.map (·.1))).putBit Reg.CAL_STATE Fld.CAL_STATE_CAB_PENDING false
    let s3 : State := { s2 with cal := { s2.cal with cabinet := cab.map (·.2) } }
    match cab with
    | some (_, c) => (s3.loadCabinet c).putBit Reg.CAL_STATE Fld.CAL_STATE_LOOP_OFF false
    | none => s3.putBit Reg.CAL_STATE Fld.CAL_STATE_LOOP_OFF true

/-- A slot that boot tries holds a whole set that fails R197. -/
def State.setRefused (s : State) : Bool :=
  ((s.slotOrder 3).takeWhile (fun k => ((s.slotBody 3 k).bind s.readSet).isNone)).any (fun k => (s.slotBody 3 k).isSome)

/-- Boot firmware starts to copy the CALSET in use into DRAM once the image runs (R236, R397); an absent one leaves the default set,
and a set refused on the way sets SET_MISMATCH (R197). -/
def State.startCopy (s : State) : State :=
  let set := s.selectSlot 3 s.readSet
  let s1 := (if s.setRefused then s.refuseSet else s).reportSlot 3 (set.map (·.1))
  match set with
  | some (_, c) => { s1 with emc := { s1.emc with copying := some c } }
  | none => (s1.putBit Reg.EMC_STATE Fld.EMC_STATE_NO_CAL true).putBit Reg.EMC_STATE Fld.EMC_STATE_CAL_VALID false

/-- CALSET_COPY_COMPLETE (R397). -/
def execCalsetCopyComplete (t : Nat) (s : State) : Host.Outcome State Fault Refusal :=
  let s0 := s.tick t
  match s0.emc.copying with
  | none => .next s0
  | some c => .next { s0.acceptSet c with emc := { (s0.acceptSet c).emc with copying := none } }

/-! ### Trims (R241, R242) -/

/-- The reset code of a trim (Table 13.4). -/
def trimReset (i : TrimId) : Nat := if i.kind = 0 then [8, 4, 10, 16].getD i.sub 0 else 0

/-- A trim of Table 13.4. -/
def trimNamed (i : TrimId) : Bool :=
  match i.kind with
  | 0 => decide (i.index < 64) && decide (i.sub < 16)
  | 1 => decide (i.index < 192) && i.sub == 0
  | 2 => decide (i.index < 64) && decide (i.sub < 2)
  | _ => false

/-- The trims a role has (R240; DFE entries are ignored, so those stay at their reset code). -/
def trimIds (tile : Bool) : List TrimId :=
  let lanes := (if tile then List.range 20 else List.range 40 ++ [56, 57, 58, 59]).flatMap (fun n =>
    (List.range 4).map (fun b => { kind := 0, index := n, sub := b : TrimId }))
  if tile then
    lanes ++ (List.range 192).map (fun n => { kind := 1, index := n, sub := 0 }) ++
      (List.range 64).flatMap (fun k => [{ kind := 2, index := k, sub := 0 }, { kind := 2, index := k, sub := 1 }])
  else lanes

/-- Offset of a trim's code in a point block. -/
def trimOffset (i : TrimId) : Nat :=
  match i.kind with
  | 0 => 16 * i.index + i.sub
  | 1 => 0x400 + i.index
  | _ => 0x4C0 + 2 * i.index + i.sub

/-- A trim's codes. -/
def State.trim (s : State) (i : TrimId) : Trim :=
  (s.cal.codes.find? (fun x => x.id == i)).getD { id := i, current := trimReset i, target := trimReset i, steppedAt := none, before := trimReset i }

def State.setTrim (s : State) (x : Trim) : State :=
  { s with cal := { s.cal with codes := s.cal.codes.filter (fun y => y.id != x.id) ++ [x] } }

/-- The target of a trim at a temperature (R241, R201). -/
def trimTarget (z : TrimSet) (i : TrimId) (theta : Int) : Nat :=
  let b := bracket z.temps theta
  let code (k : Nat) : Int := (byteAt (z.blocks.getD k []) (trimOffset i) : Nat)
  match b.2 with
  | none => (code b.1).toNat
  | some a => ((mixFields a [code b.1] [code (b.1 + 1)]).headD 0).toNat

/-- Whether the part carries a tile's trims: by the role of the running image, or of the image boot firmware takes before one runs. -/
def State.tileSide (s : State) : Bool :=
  match s.role? with
  | some r => r == .tile
  | none => s.tileSlot s.tru.siSlot

/-- The trims' part of a tick (R238, R241). -/
def State.tickTrims (s : State) : State :=
  let s1 : State := match s.cal.trimsNext with
    | some z => { s with cal := { s.cal with trims := some z, trimsNext := none } }
    | none => s
  match s1.cal.trims with
  | none => s1.putBit Reg.CAL_STATE Fld.CAL_STATE_TRIM_NO_TEMP false
  | some z =>
    match s1.usable z.src with
    | none => s1.putBit Reg.CAL_STATE Fld.CAL_STATE_TRIM_NO_TEMP true
    | some th =>
      (trimIds s1.tileSide).foldl (fun (q : State) i => q.setTrim { q.trim i with target := trimTarget z i th })
        (s1.putBit Reg.CAL_STATE Fld.CAL_STATE_TRIM_NO_TEMP false)

/-- CORRECTION_TICK: a wall time whose ns is a multiple of 100,000,000 (R202, R241); the trims follow their targets whether or not an
image runs. -/
def execCorrectionTick (t : Nat) (s : State) : Host.Outcome State Fault Refusal :=
  let s0 := s.tick t
  .next (if t % (100000000 * nsT) ≠ 0 then s0 else (if s0.isTile then s0.tickRecompute else s0).tickTrims)

/-- The port of a lane: 0 to 3, or 4 for the lockstep link. -/
def lanePort (n : Nat) : Nat := if 56 ≤ n then 4 else n / 10

/-- A receive port that steps its receive taps: brought up in SLIP, or the lockstep link (Table 13.5). -/
def State.stepsReceive (s : State) (p : Nat) : Bool := p == 4 || s.bit (Reg.CHN_PORT_STAT p) Fld.CHN_PORT_STAT_MODE

/-- Move a code one step towards its target; DFE codes are two's complement. -/
def stepCode (i : TrimId) (a b : Nat) : Nat :=
  if i.kind = 0 ∧ 4 ≤ i.sub then
    if signedOf 8 a < signedOf 8 b then codeOf 8 (signedOf 8 a + 1) else codeOf 8 (signedOf 8 a - 1)
  else if a < b then a + 1 else a - 1

/-- One tap of a lane's side, transmit or receive, steps per 1 ms (Table 13.5). -/
def State.laneStepDue (s : State) (i : TrimId) (t : Nat) : Bool :=
  s.cal.codes.all (fun y => !(y.id.kind == 0 && y.id.index == i.index && decide (3 ≤ y.id.sub) == decide (3 ≤ i.sub)) ||
    y.steppedAt.all (fun t0 => decide (t0 + msT ≤ t)))

/-- A glint lane steps in an idle cell at least 22T after the latest LATCH of image slot 0, once after each (Table 13.5). -/
def State.glintStepDue (s : State) (x : Trim) (t : Nat) : Bool :=
  match s.drivenNow? t with
  | none => false
  | some tl =>
    let f := wfnAt tl t
    let point (k : Nat) : Nat := Sys2Proof.Machine.latchTime tl k 0 + 22 * s.cellT
    let at_ := if point f ≤ t then point f else point (f - 1)
    s.lmp.map.isSome && s.lmp.write.isNone && decide (at_ ≤ t) && x.steppedAt.all (fun t0 => decide (t0 < at_))

/-- An instant is the start of a line of the frame, an image slot's or a shadow slot's, that lies outside every exposure window. -/
def State.lineOutside (s : State) (tl : Timeline) (t : Nat) : Bool :=
  let f := wfnAt tl t
  let outside (q : Nat) : Bool :=
    [f - 1, f, f + 1].all (fun k => (exposures tl k).all (fun e => !(decide (t < e.2) && decide (e.1 < t + q * 8192))))
  let starts (q first n : Nat) : Bool := decide (first ≤ t) && decide (q ≠ 0) && (t - first) % (q * 8192) == 0 && decide ((t - first) / (q * 8192) < n)
  (List.range tl.nImage).any (fun k => (imageSlot tl k).any (fun r => starts r.lineQ (Sys2Proof.Machine.latchTime tl f k) (r.passes * tl.scan) && outside r.lineQ)) ||
    s.lmp.run.any (fun u => (imageSlot tl 0).any (fun r => starts r.lineQ u.firstLine u.req.lineCount && outside r.lineQ))

/-- A row output steps at the start of a line's blanking interval outside every exposure window, once in a frame (Table 13.5). -/
def State.rowStepDue (s : State) (x : Trim) (t : Nat) : Bool :=
  match s.drivenNow? t with
  | none => false
  | some tl => s.lineOutside tl t && x.steppedAt.all (fun t0 => decide (wfnAt tl t0 < wfnAt tl t))

/-- Whether Table 13.5 lets a trim step at an instant. -/
def State.mayStep (s : State) (x : Trim) (t : Nat) : Bool :=
  match x.id.kind with
  | 0 =>
    let p := lanePort x.id.index
    (decide (x.id.sub < 3) || (s.stepsReceive p && !s.cal.frozen.contains p)) && s.laneStepDue x.id t
  | 1 => s.glintStepDue x t
  | _ => s.rowStepDue x t

/-- TRIM_STEP. -/
def execTrimStep (trim : TrimId) (t : Nat) (s : State) : Host.Outcome State Fault Refusal :=
  let s0 := s.tick t
  let x := s0.trim trim
  if !s0.bit Reg.CAL_CTRL Fld.CAL_CTRL_TRIM_EN ∨ !(trimIds s0.tileSide).contains trim ∨ x.current = x.target ∨ !s0.mayStep x t then .next s0
  else
    .next ((s0.setTrim { x with current := stepCode trim x.current x.target, steppedAt := some t, before := x.current }).bump Reg.CAL_TRIM_STEPS 1)

/-- TRIM_REVERT (R242): a receive lane counts a header error within 1 ms after a step of one of its own taps. -/
def State.trimRevert (s : State) (lane t : Nat) : State :=
  let hit := s.cal.codes.filter (fun y => y.id.kind == 0 && y.id.index == lane && decide (3 ≤ y.id.sub) && y.current != y.before &&
    match y.steppedAt with | none => false | some t0 => decide (t < t0 + msT))
  match hit with
  | [] => s
  | _ :: _ =>
    let s1 := hit.foldl (fun (z : State) y => (z.setTrim { y with current := y.before }).bump Reg.CAL_TRIM_REVERT 1) s
    let s2 : State := { s1 with cal := { s1.cal with frozen := lanePort lane :: s1.cal.frozen.filter (· != lanePort lane) } }
    s2.putBit Reg.CAL_STATE Fld.CAL_STATE_TRIM_FROZEN true

/-- A bring-up of a port ends its freeze; in SLIP it loads its receive targets (R241, R242). -/
def State.trimBringUp (s : State) (p : Nat) (slip : Bool) : State :=
  let fr := s.cal.frozen.filter (· != p)
  let load (y : Trim) : Trim := if slip && y.id.kind == 0 && lanePort y.id.index == p && decide (3 ≤ y.id.sub) then { y with current := y.target, before := y.target } else y
  { s with cal := { s.cal with frozen := fr, codes := s.cal.codes.map load } }.putBit Reg.CAL_STATE Fld.CAL_STATE_TRIM_FROZEN (!fr.isEmpty)

/-! ### Colour feedback (R243 to R245) -/

/-- SHADOW_SLOT_END: the slot that runs ends; a measured one has its results read (R243). -/
def execShadowSlotEnd (t : Nat) (s : State) : Host.Outcome State Fault Refusal :=
  let s0 := s.tick t
  match s0.lmp.run with
  | none => .next s0
  | some u =>
    let s1 : State := { s0 with lmp := { s0.lmp with run := none, rowOn := none } }
    match u.entry, s1.cal.cabinet with
    | some k, some c =>
      match c.refs[k]? with
      | none => .next s1
      | some e =>
        match c.sensors[e.port]? with
        | none => .next s1
        | some p => .next ({ s1 with cal := { s1.cal with measuring := some (k, u.cut != 0, u.ramping) } }.emit (.i2cRead e.port p.addr p.resultReg p.chCount))
    | _, _ => .next s1

/-- The pixel of a reference entry: R214 with ROW in place of ROW_MAP[k]. -/
def refPixel (m : Word) (scan w e : Nat) (r : RefEntry) : Nat × Nat :=
  let c := (r.lane * mapDrivers m + r.driver) * mapChannels m + r.channel
  (c / e % w, c / (e * w) * scan + r.row)

/-- x_r: the expected reading at θ_cell of the entry's pixel, by the newest live set (R244); TARGET[0] where that set has no
points or no temperature. -/
def State.expectedReading (s : State) (r : RefEntry) : Int :=
  let t (k : Nat) : Int := (r.targets.getD k 0 : Nat)
  match s.emc.live.set, s.emc.live.theta, s.lmp.map, s.timeline? with
  | some c, some th, some m, some tl =>
    let p := refPixel m tl.scan c.width c.emitters r
    let b := bracket c.temps (th.getD (p.2 / 16 * (c.width / 16) + p.1 / 16) 0)
    match b.2 with
    | none => t b.1
    | some a => (mixFields a [t b.1] [t (b.1 + 1)]).headD 0
  | _, _, _, _ => t 0

/-- COLOUR_MEASUREMENT: the sensor's results reach the tile (R244). -/
def execColourMeasurement (r : SensorRead) (t : Nat) (s : State) : Host.Outcome State Fault Refusal :=
  let s0 := s.tick t
  match s0.cal.measuring, s0.cal.cabinet with
  | some (k, cut, ramping), some c =>
    let s1 : State := { s0 with cal := { s0.cal with measuring := none } }
    match c.refs[k]? with
    | none => .next s1
    | some e =>
      match r with
      | .failed => .next (s1.bump Reg.CAL_MEAS_DROP 1)
      | .results vs =>
        let m := vs.getD e.sensorCh 0
        let sat := ((c.sensors[e.port]?).map (·.satHi)).getD 0
        let rho := s1.expectedReading e * 65536 / (m : Int)
        let lim : Int := ((fieldOf (s1.reg Reg.CAL_LOOP_CFG) 16 8 * 256 : Nat) : Int)
        if m < e.minCount ∨ vs.any (fun v => decide (sat * 256 ≤ v)) ∨ cut ∨ ramping ∨ lim < rho - 65536 ∨ lim < 65536 - rho then
          .next (s1.bump Reg.CAL_MEAS_DROP 1)
        else .next { s1.bump Reg.CAL_MEAS_OK 1 with cal := { s1.cal with rhos := s1.cal.rhos ++ [(e.emitter, rho)] } }
  | _, _ => .next s0

/-- The loop runs: LOOP_EN reads 1. -/
def State.loopOn (s : State) : Bool := s.bit Reg.CAL_CTRL Fld.CAL_CTRL_LOOP_EN && !s.bit Reg.CAL_STATE Fld.CAL_STATE_LOOP_OFF

/-- The gain update of an emitter (R245). -/
def loopGain (gain rho ki stepMax lo hi : Int) : Int :=
  let d := clampInt (-stepMax) stepMax ((gain * (rho - 65536) * ki) / 2 ^ 24)
  clampInt lo hi (gain + d)

/-- One emitter at the end of a period. -/
def State.closeEmitter (s : State) (hostWrote : List Nat) (e : Nat) : State :=
  let rs := (s.cal.rhos.filter (fun p => p.1 == e)).map (·.2)
  let a := Reg.CAL_LOOP_STAT e
  let s1 := s.setReg a (putField (s.reg a) 16 8 (satTo 255 rs.length))
  let cfg := s.reg Reg.CAL_LOOP_CFG
  if !s.loopOn then s1
  else if rs.isEmpty then
    let n := s.cal.quiet.getD e 0 + 1
    let s2 : State := { s1 with cal := { s1.cal with quiet := s1.cal.quiet.set e n } }
    if fieldOf cfg 24 8 ≤ n then s2.setReg a (putField (s2.reg a) 24 1 1) else s2
  else
    let s2 : State := { s1 with cal := { s1.cal with quiet := s1.cal.quiet.set e 0 } }
    if hostWrote.contains e then s2
    else
      let rho := rs.sum / (rs.length : Int)
      let lim := s.reg Reg.CAL_LOOP_LIM
      let g := loopGain (fieldOf (s.reg (Reg.EMC_GAIN e)) 0 16 : Nat) rho (fieldOf cfg 8 8 : Nat)
        (fieldOf (s.reg Reg.CAL_LOOP_STEP) 0 11 : Nat) (fieldOf lim 0 16 : Nat) (fieldOf lim 16 16 : Nat)
      let s3 := s2.setReg (Reg.EMC_GAIN e) (putField (s2.reg (Reg.EMC_GAIN e)) 0 16 g.toNat)
      s3.setReg a (putField (putField (s3.reg a) 0 16 (codeOf 16 (satSigned 16 (rho - 65536)))) 24 1 0)

/-- COLOUR_LOOP_PERIOD: a wall time whose s is a multiple of LOOP_S and whose ns is 0; `hostWrote` names the emitters whose
EMC_GAIN a host write reaches in the same cycle (R245). -/
def execColourLoopPeriod (t : Nat) (hostWrote : List Nat) (s : State) : Host.Outcome State Fault Refusal :=
  let s0 := s.tick t
  let n := fieldOf (s0.reg Reg.CAL_LOOP_CFG) 0 6
  if n = 0 ∨ t % (n * secT) ≠ 0 ∨ !s0.isTile then .next s0
  else
    let e := (s0.tileChain?.map (·.emitters)).getD 0
    let s1 := (List.range e).foldl (fun (z : State) k => z.closeEmitter hostWrote k) s0
    .next { s1 with cal := { s1.cal with rhos := [] } }

/-! ### Registers (R247) -/

def calCounter (a : Nat) : Bool := inRange a Reg.CAL_MEAS_OK Reg.CAL_STAGE_DROP

/-- Registers a sender does not use. -/
def calTileOnly (a : Nat) : Bool :=
  a == Reg.CAL_GEN 1 || a == Reg.CAL_SLOT 1 || a == Reg.CAL_GEN 3 || a == Reg.CAL_SLOT 3 || inRange a Reg.CAL_LOOP_CFG (Reg.CAL_LOOP_STAT 3) ||
    a == Reg.CAL_MEAS_OK || a == Reg.CAL_MEAS_DROP

/-- The trim CAL_TRIM_SEL names. -/
def trimSel (w : Word) : TrimId := { kind := fieldOf w 0 2, index := fieldOf w 8 8, sub := fieldOf w 16 4 }

/-- A write in the CAL block. -/
def State.calWrite (s : State) (a : Nat) (data : Word) : State :=
  if s.isSender && calTileOnly a then s
  else if a = Reg.CAL_CTRL then
    let d := if s.bit Reg.CAL_STATE Fld.CAL_STATE_LOOP_OFF then putField data 0 1 (fieldOf (s.reg a) 0 1) else data
    s.plainWrite a d
  else if a = Reg.CAL_LOOP_CFG then
    if fieldOf data 0 6 = 0 ∨ 60 < fieldOf data 0 6 ∨ fieldOf data 16 8 = 0 ∨ 128 < fieldOf data 16 8 ∨ fieldOf data 24 8 = 0 then s
    else s.plainWrite a data
  else if a = Reg.CAL_LOOP_LIM then (if fieldOf data 16 16 < fieldOf data 0 16 then s else s.plainWrite a data)
  else if a = Reg.CAL_LOOP_STEP then
    (if fieldOf data 0 11 = 0 ∨ 1024 < fieldOf data 0 11 then s else s.plainWrite a data)
  else if a = Reg.CAL_TRIM_SEL then (if trimNamed (trimSel data) then s.plainWrite a data else s)
  else if a = Reg.CAL_CNT_CLEAR then s.clearCounters data calCounter
  else s.plainWrite a data

/-- CAL registers computed at a read. -/
def State.calView (s : State) (a : Nat) : Option Nat :=
  if s.isSender && calTileOnly a then some 0
  else if a = Reg.CAL_CTRL then
    some (if s.bit Reg.CAL_STATE Fld.CAL_STATE_LOOP_OFF then (putField (s.reg a) 0 1 0).toNat else (s.reg a).toNat)
  else if a = Reg.CAL_TRIM_VAL then
    let i := trimSel (s.reg Reg.CAL_TRIM_SEL)
    let x := s.trim i
    some (x.current + x.target * 256 + flag (i.kind == 0 && s.cal.frozen.contains (lanePort i.index)) * 65536)
  else none

end Sys2Proof.Machine
end

