-- ==== Sys2Proof/Machine/Redundancy.lean ====
section
/-! DEFINITION. The sender pair: the stream flag, the lockstep link's records, joining, ring check, health and hand-over
(R280 to R297). -/
namespace Sys2Proof.Machine

/-! ### The stream flag (R281, R282, Table 16.2) -/

/-- Ring returns of chain ports with the other sender's stream (R282). -/
def State.ringEligible (s : State) (c : Nat) : Bool :=
  s.portUp c && (s.lastCtl? c).any (fun l =>
    natBit l.row.flags 0 && !natBit l.row.flags 3 && (natBit l.row.flags 1 != s.isMirror))

/-- An eligible ring return exists on a chain, or existed within the last 40 µs. -/
def State.ringRecent (s : State) : Bool :=
  s.chains.any (fun c => s.ringEligible c.chain) || s.red.ringAt.any (fun a => decide (s.now < a + 40 * usT))

/-- The run executes frames: RUNNING or HELD. -/
def State.runs (s : State) : Bool := s.lockState == 3 || s.lockState == 4

/-- The flag Table 16.2 gives now. -/
def State.wantedFlag (s : State) : Bool :=
  let w := s.reg Reg.RED_STATE
  if !s.runs then false
  else if s.formed then
    s.isMirror || !(bitOf w 9 || bitOf w 10 || s.red.takeBack)
  else if s.linkCode = 1 then !bitOf w 5
  else if !s.isMirror && bitOf w 4 then true
  else if s.isMirror && decide (s.now < s.red.standbyUntil) then false
  else !s.ringRecent

/-- The sender in control: the primary if ACTIVE, else the mirror if ACTIVE (R281). At a change of control the picture is coded as IDR, while
the link is FORMED or in JOIN at both senders, else at the one that takes control (R98). -/
def State.syncControl (s : State) : State :=
  let act := s.bit Reg.RED_STATE Fld.RED_STATE_ACTIVE
  let other := s.bit Reg.RED_HEALTH Fld.RED_HEALTH_OTHER_ACTIVE
  let ctl := act && (!s.isMirror || !other)
  let s1 := s.putRed Fld.RED_STATE_IN_CONTROL (flag ctl)
  let was := s.bit Reg.RED_STATE Fld.RED_STATE_IN_CONTROL
  if ctl != was && (ctl || s.agreed) then { s1 with cdc := { s1.cdc with idrDue := true } } else s1

/-- A cold takeover marks every tile pending refresh (R282). -/
def State.coldTakeover (s : State) : State :=
  match s.image? with
  | none => s
  | some im => { s with ccx := { s.ccx with refresh := refreshAll im s.now } }.putRed Fld.RED_STATE_COLD 1

/-- Set the flag of Table 16.2: a change counts in RED_SWITCHES, turning ACTIVE while not current is a cold takeover, and
turning STANDBY with the link not FORMED ends CURRENT (R281, R282). -/
def State.applyFlag (s : State) : State :=
  let want := s.wantedFlag
  let s1 :=
    if want = s.bit Reg.RED_STATE Fld.RED_STATE_ACTIVE then s
    else
      let a := (s.putRed Fld.RED_STATE_ACTIVE (flag want)).bump Reg.RED_SWITCHES 1
      if want then (if a.bit Reg.RED_STATE Fld.RED_STATE_CURRENT then a else a.coldTakeover)
      else if a.formed then a else a.putRed Fld.RED_STATE_CURRENT 0
  s1.syncControl

/-! ### Health (R289, Table 16.8) -/

/-- A tile is silent: no record for 3 × HEALTH_S s, counted from the run start when none ever came (R288). -/
def State.tileSilent (s : State) (ta : Nat) : Bool :=
  let last := match s.red.health.find? (fun h => h.ta == ta) with | some h => h.t | none => s.red.runAt
  s.runs && decide (last + 3 * s.get Reg.RED_CFG Fld.RED_CFG_HEALTH_S * secT ≤ s.now)

/-- A tile reports a port not eligible. -/
def State.onePort (s : State) (ta : Nat) : Bool :=
  (s.red.health.find? (fun h => h.ta == ta)).any (fun h => byteAt h.bytes 0 / 4 % 4 != 3)

/-- A chain had CODE_DIFF, UNCLAIMED or NO_RECEIPT in the last second. -/
def State.ringBad (s : State) (c : Nat) : Bool :=
  s.red.badAt.any (fun b => b.1 == c && decide (s.now < b.2 + secT))

/-- Every declared TA. -/
def State.tas (s : State) : List Nat := s.chains.flatMap (fun c => (List.range c.n).map (fun p => c.chain * 64 + p))

/-- RED_HEALTH as it stands. -/
def State.healthWord (s : State) : Word :=
  if !s.isSender then 0
  else
    let up := (s.chains.filter (fun c => s.ringEligible c.chain)).map (fun c => 2 ^ c.chain)
    let ok := ((List.range 4).filter (fun c => s.chains.any (fun r => r.chain == c) && !s.ringBad c)).map (2 ^ ·)
    let silent := (s.tas.filter s.tileSilent).length
    let one := (s.tas.filter s.onePort).length
    let latent := !s.formed || s.chains.any (fun c => !s.portUp c.chain) || decide (0 < silent) || decide (0 < one) ||
      s.chains.any (fun c => s.ringBad c.chain) || s.red.joinFailed
    word (up.sum + ok.sum * 16 + flag latent * 256 + flag (s.bit Reg.RED_HEALTH Fld.RED_HEALTH_OTHER_ACTIVE) * 512 +
      satTo 255 silent * 1024 + satTo 255 one * 2 ^ 18)

/-- Bring RED_HEALTH up to date; LATENT rising raises the pair vector (R289). -/
def State.syncHealth (s : State) : State :=
  let w := s.healthWord
  let s1 := s.setReg Reg.RED_HEALTH w
  if bitOf w 8 && !s.bit Reg.RED_HEALTH Fld.RED_HEALTH_LATENT then s1.event 5 else s1

/-! ### The link goes down; joins end (R280, R281, R293) -/

/-- End FORMED or JOIN without a cause of R293; the DOWN rows of Table 16.2 act at once, and the agreement on packets and pictures ends. -/
def State.unform (s : State) : State :=
  let w := putField (putField (s.reg Reg.RED_STATE) 0 2 0) 5 4 0
  let s1 := (s.setRed (putField w 9 1 0)).setReg Reg.TIM_PAIR_OFFSET (resetValue Reg.TIM_PAIR_OFFSET)
  let s2 := { s1 with red := { s1.red with joinAt := none, holdoffUntil := none, takeBack := false, resync := false } }
  s2.endAgreement.applyFlag.syncHealth

/-- A join ends without FORMED: the cause, RED_JOIN_FAIL, and a further try 10 s later (R293). -/
def State.failJoin (s : State) (cause : Nat) : State :=
  let s1 := (s.bump Reg.RED_JOIN_FAIL 1).putRed Fld.RED_STATE_JOIN_FAIL cause
  { s1 with red := { s1.red with failedAt := some s1.now, joinFailed := true } }.unform

/-- Lockstep ends while the link was FORMED or in JOIN. -/
def State.lockstepEnd (s : State) (cause : Nat) : State :=
  if s.linkCode = 1 then s.failJoin cause else if s.formed then s.unform else s

/-- The lockstep link goes DOWN (R280). -/
def State.linkLost (s : State) : State := ({ s with red := { s.red with linkUp := false, hello := none } }.lockstepEnd 4).syncHealth

/-- Send LEAVE with a cause and end lockstep (R281). -/
def State.sendLeave (s : State) (cause : Nat) : State :=
  if !s.agreed then s
  else
    let s1 := (s.sendLink (.leave cause)).put Reg.RED_LEAVE ⟨8, 8⟩ cause
    s1.lockstepEnd (if cause = 1 then 6 else 4)

/-! ### Joining (R290 to R293) -/

/-- This sender's HELLO. -/
def State.sendHello (s : State) : State :=
  s.emit (.link (.hello identity (flag s.isMirror) ((s.image?.map (·.imageId)).getD 0)
    (s.get Reg.TIM_STATE Fld.TIM_STATE_EPOCH) (s.bit Reg.RED_STATE Fld.RED_STATE_CURRENT)))

/-- The registers of the stream table, each descriptor's ING_STR_CTRL last, so that a copy that enables a stream finds its ring (R76). -/
def streamTable : List Nat :=
  (List.range 16).flatMap (fun k => [4, 8, 12, 16, 20, 24, 28, 0].map (fun o => Reg.ING_STR_CTRL 0 + 0x40 * k + o))

/-- The stream table as records. -/
def State.streamTableObjects (s : State) : List ConfigObj := streamTable.map (fun a => .register a (s.reg a))

/-- The other registers CONFIG carries (R291): return encoder, pending set, colour and meshes. -/
def configRegister (a : Nat) : Bool := retLocked a || a == Reg.CDC_RET_CTRL || pendingAddr a

/-- The objects the source sends in CONFIG, its last record at the end. -/
def State.configObjects (s : State) : List ConfigObj :=
  let rings := (List.range 16).flatMap s.ringOf
  let live := s.cmp.surfaces.filter (fun v => !v.retiring && !rings.contains (handleOf v) && v.fmt != 0x11)
  s.cmp.surfaces.map .surface ++ live.map (fun v => .memory v.base (s.dramRead v.base v.size)) ++ s.streamTableObjects ++
    (s.regs.filter (fun c => configRegister c.1)).map (fun c => .register c.1 c.2) ++
    (s.gen.params.filter (fun p => p.spec.id != 1)).map (fun p => .param p.spec.id p.value) ++
    s.cmp.sets.map .committed ++
    s.chn.exp.map (fun x => .express x.chain (fieldOf (s.reg Reg.CHN_EXP_STATE) (2 * x.chain) 2) x.eseq) ++
    s.ccx.tiles.map (fun x => .coder x.ta x.qp x.firstCell) ++ [.refreshQueue s.ccx.refresh, .last]

/-- The joiner discards its own tables (R290): surfaces, committed sets, device DRAM, its streams and what it received on them. -/
def State.discardTables (s : State) : State :=
  let s1 := (List.range 16).foldl (fun s k => if s.streamOn k then s.streamStop k else s) s
  let s2 := streamTable.foldl (fun s a => s.setReg a (resetValue a)) s1
  { s2 with cmp := { s2.cmp with surfaces := [], sets := [] }, ing := { s2.ing with streams := [] }, dram := [] }

/-- CONFIG has ended: CONVERGE counts promotions and IRAP pictures from here (R291). -/
def State.startConverge (s : State) : State :=
  { s with red := { s.red with promoted := [], iraps := [] } }.putRed Fld.RED_STATE_PHASE 3

/-- Every enabled stream has been promoted, a decoded one at an announced opening (R89; log entry 102), and every HEVC channel has decoded an IRAP picture, since CONFIG
ended (R291). -/
def State.converged (s : State) : Bool :=
  (List.range 16).all (fun k => !s.streamOn k || s.red.promoted.contains k) &&
  (s.channelsOf 0).all s.red.iraps.contains

/-- Start JOIN (R290, R291): the sender in control is the source and sends CONFIG; the other is the joiner, is no longer current,
and discards its own tables. -/
def State.startJoin (s : State) : State :=
  let source := s.bit Reg.RED_STATE Fld.RED_STATE_IN_CONTROL
  let w := putField (putField (putField (s.reg Reg.RED_STATE) 0 2 1) 5 1 (flag (!source))) 6 3 2
  let w1 := putField (putField w 13 4 0) 11 1 0
  let s1 := s.setRed (if source then w1 else putField w1 4 1 0)
  let s2 := { s1 with red := { s1.red with joinAt := some s1.now, stateAt := s1.now, toRecord := [], applied := [], matches_ := [],
                                           verified := [], others := [], reports := [] } }
  if source then
    let s3 := s2.configObjects.foldl (fun s o => s.sendLink (.config o)) s2
    s3.startConverge
  else s2.discardTables.applyFlag

/-- Check the conditions of R290 against the other's HELLO, and start JOIN, or FORMED when neither sender runs yet (R281), where the primary
sends its stream table (R76). -/
def State.tryJoin (s : State) : State :=
  match s.red.hello with
  | none => s
  | some h =>
    let fail (c : Nat) (s : State) : State := { s.putRed Fld.RED_STATE_JOIN_FAIL c with red := { s.red with joinFailed := true } }.syncHealth
    if !s.red.linkUp ∨ s.agreed then s
    else if h.position = flag s.isMirror then (fail 7 s).putRed Fld.RED_STATE_PAIR_CONFLICT 1
    else if h.imageId ≠ (s.image?.map (·.imageId)).getD 0 then (fail 1 s).putRed Fld.RED_STATE_PAIR_CONFLICT 0
    else if 1600 < s.red.pairOffset.natAbs then (fail 2 s).putRed Fld.RED_STATE_PAIR_CONFLICT 0
    else
      let s1 := { s with red := { s.red with stateAt := s.now } }
      if !s1.runs ∧ !h.current then
        let s2 := (s1.putRed Fld.RED_STATE_PAIR_CONFLICT 0).reachFormed false
        if s2.leads then s2.streamTableObjects.foldl (fun s o => s.sendLink (.config o)) s2 else s2
      else s1.startJoin

/-- The other sender's wall time minus this one's, in 2^-4 ns: the departure of its row plus the cable's delay d, against the arrival (R138,
R178). -/
def pairOffset (p : PairStamps) : Int := (p.departed + ((p.arrived - p.sent) - p.turn) / 2 - p.arrived) / 16

/-- HELLO: taken with the offset measured over the link, and JOIN tried (R290); one that fails its CRC is dropped (R280). -/
def execHello (r : HelloRec) (s : State) : Host.Outcome State Fault Refusal :=
  let s1 := s.tick r.t
  if !s1.isSender then .next s1
  else if !r.crcOk then .next (s1.bump Reg.RED_LINK_ERR 1)
  else
    let h : HelloIn := { position := r.position, imageId := r.imageId, current := r.current, t := r.t }
    .next { s1 with red := { s1.red with hello := some h, linkUp := true, pairOffset := pairOffset r.stamps } }.tryJoin

/-- HELLO_RECHECK: the IMAGE and TIME checks repeat; PAIR_CONFLICT only with another PAIR_POSITION, which the check sees. -/
def execHelloRecheck (p : PairStamps) (t : Nat) (s : State) : Host.Outcome State Fault Refusal :=
  let s1 := s.tick t
  if s1.isSender ∧ s1.linkCode = 0 then .next { s1 with red := { s1.red with pairOffset := pairOffset p } }.tryJoin else .next s1

/-- STATE_RECORD: the other sender's state as seen (R280), a breach there or a time state other than LOCKED restarting the hold-off (R294). The joiner loses a source that is no longer ACTIVE (R293); a source whose
joiner reports FORMED is FORMED too. -/
def execStateRecord (r : StateRec) (s : State) : Host.Outcome State Fault Refusal :=
  let s1 := s.tick r.t
  if !s1.isSender ∨ !s1.red.linkUp then .next s1
  else if !r.crcOk then .next (s1.bump Reg.RED_LINK_ERR 1)
  else
    let off := pairOffset r.stamps
    let s2 := { s1 with red := { s1.red with stateAt := r.t, otherState := r.redState, otherWfn := r.wfn, pairOffset := off } }
    let s3 := s2.putBit Reg.RED_HEALTH Fld.RED_HEALTH_OTHER_ACTIVE (bitOf r.redState 2)
    let s4 := if s3.formed then s3.setNum Reg.TIM_PAIR_OFFSET (codeOf 32 (satSigned 32 off)) else s3
    let s5 := (if r.breached ∨ !r.locked then s4.restartHoldoff else s4).syncControl
    if s5.linkCode = 1 ∧ s5.bit Reg.RED_STATE Fld.RED_STATE_JOINER ∧ !bitOf r.redState 2 ∧ fieldOf r.redState 0 2 = 1 then
      .next (s5.failJoin 5)
    else if s5.linkCode = 1 ∧ !s5.bit Reg.RED_STATE Fld.RED_STATE_JOINER ∧ fieldOf r.redState 0 2 = 2 then .next (s5.reachFormed true)
    else .next s5

/-- STATE_RECORD_SEND: a STATE record every 1 µs while the link runs. -/
def execStateRecordSend (t : Nat) (s : State) : Host.Outcome State Fault Refusal :=
  let s1 := s.tick t
  if s1.isSender ∧ s1.red.linkUp then .next (s1.emit (.link (.state (s1.reg Reg.RED_STATE) s1.healthWord s1.wfnNow))) else .next s1

/-- LINK_STATE_TIMEOUT: 8 µs without a good STATE record (R280). -/
def execLinkStateTimeout (t : Nat) (s : State) : Host.Outcome State Fault Refusal :=
  let s1 := s.tick t
  if s1.isSender ∧ s1.red.linkUp ∧ s1.red.stateAt + 8 * usT ≤ t then .next s1.linkLost else .next s1

/-- CONFIG_RECORD: the mirror or the joiner applies what the primary or source sends (R111, R291). -/
def execConfigRecord (o : ConfigObj) (t : Nat) (s : State) : Host.Outcome State Fault Refusal :=
  let s1 := s.tick t
  if !s1.follows then .next s1
  else
    match o with
    | .register a d =>
      if streamReg a then
        -- behind the verdicts that came before it, so that it acts at the same packet (R76)
        let str := (a - Reg.ING_STR_CTRL 0) / 0x40
        if (s1.stream str).verdicts = [] then .next (s1.copyStreamReg a d)
        else .next (s1.modStream str (fun x => { x with verdicts := x.verdicts ++ [.table a d] }))
      else if a = Reg.CDC_RET_CTRL then .next (s1.retCtrlCopy d)
      else .next (s1.setReg a d)
    | .param id v => .next (s1.setParam id v)
    | .surface v =>
      let s2 := { s1 with cmp := { s1.cmp with surfaces := v :: s1.cmp.surfaces.filter (fun x => x.index != v.index),
                                               gens := tabSet s1.cmp.gens v.index v.gen } }
      .next (if v.retiring ∧ v.fmt = 0x11 then s2.poolRetired (handleOf v) else s2)
    | .freed h => .next { s1 with cmp := { s1.cmp with surfaces := s1.cmp.surfaces.filter (fun x => handleOf x != h) } }
    | .memory a bs => .next (s1.dramWrite a bs)
    | .committed c => .next { s1 with cmp := { s1.cmp with sets := s1.cmp.sets.filter (fun x => decide (x.wfn < c.wfn)) ++ [c] } }
    | .express c st e =>
      let l := s1.chn.exp.map (fun x => if x.chain = c then { x with eseq := e } else x)
      .next ({ s1 with chn := { s1.chn with exp := l } }.put Reg.CHN_EXP_STATE ⟨2 * c, 2⟩ st)
    | .coder ta qp fc =>
      match s1.coder? ta with
      | none => .next s1
      | some x => .next (s1.setCoder { x with qp := qp, firstCell := fc })
    | .refreshQueue jobs => .next { s1 with ccx := { s1.ccx with refresh := jobs } }
    | .last => if s1.linkCode = 1 then .next s1.startConverge else .next s1

/-- CONVERGE_END: this sender has converged, and the other too, which the event says; REFERENCE begins (R291). -/
def execConvergeEnd (t : Nat) (s : State) : Host.Outcome State Fault Refusal :=
  let s1 := s.tick t
  if s1.linkCode ≠ 1 ∨ s1.get Reg.RED_STATE Fld.RED_STATE_PHASE ≠ 3 ∨ !s1.converged then .next s1
  else
    let s2 := s1.putRed Fld.RED_STATE_PHASE 4
    if s2.bit Reg.RED_STATE Fld.RED_STATE_JOINER then .next s2
    else .next { s2 with red := { s2.red with toRecord := s2.tas } }

/-- The pools a tile record describes (Table 16.4). -/
def poolsOf (r : TileRec) (c : ChainRec) : List SlotPool :=
  (List.range r.slots).map (fun k =>
    { slot := k, lastSeq := some (r.lastSeq.getD k 0), received := true,
      entries := (List.range (poolDepthOf c k)).map (fun i =>
        match r.entries.find? (fun e => e.index == 4 * k + i) with
        | none => emptyEntry
        | some e => { state := e.state, seq := e.seq, wfn := e.wfn, unresolved := e.unresolved, pixels := e.pixels,
                      usable := !natBit r.unusable e.index }) })

/-- TILE_RECORD: the joiner applies the record and codes the tile silently from its next picture (R292). -/
def execTileRecord (r : TileRec) (t : Nat) (s : State) : Host.Outcome State Fault Refusal :=
  let s1 := s.tick t
  match s1.chainOf? r.ta with
  | none => .next s1
  | some c =>
    if s1.linkCode ≠ 1 ∨ !s1.bit Reg.RED_STATE Fld.RED_STATE_JOINER then .next s1
    else
      let x : TileCoder := { ta := r.ta, pools := poolsOf r c, qp := r.qp, firstCell := r.firstCell }
      let n := r.slots
      let rest := s1.ccx.refresh.filter (fun j => j.ta != r.ta)
      let due := (List.range n).drop (n - r.refreshDue)
      let jobs := if r.refreshPending then rest ++ [{ ta := r.ta, due := due, ready := t, startup := false }] else rest
      let s2 : State := { s1 with
        ccx := { s1.ccx with tiles := x :: s1.ccx.tiles.filter (fun y => y.ta != r.ta), refresh := jobs },
        red := { s1.red with applied := r.ta :: s1.red.applied.filter (· != r.ta),
                             matches_ := s1.red.matches_.filter (fun m => m.1.1 != r.ta) } }
      if s2.tas.all (fun x => s2.red.applied.contains x) ∧ s2.get Reg.RED_STATE Fld.RED_STATE_PHASE = 4 then .next (s2.putRed Fld.RED_STATE_PHASE 5)
      else .next s2

/-- LEAVE: lockstep ends at once; the cause is recorded as received (R281). -/
def execLeave (cause t : Nat) (s : State) : Host.Outcome State Fault Refusal :=
  let s1 := s.tick t
  if !s1.isSender then .next s1
  else .next ((s1.put Reg.RED_LEAVE ⟨0, 8⟩ cause).lockstepEnd (if cause = 1 then 6 else 4))

/-- JOIN_TIMEOUT: JOIN_TIMEOUT s have passed since HELLO (R293). -/
def execJoinTimeout (t : Nat) (s : State) : Host.Outcome State Fault Refusal :=
  let s1 := s.tick t
  if s1.linkCode = 1 ∧ s1.red.joinAt.any (fun a => decide (a + s1.get Reg.RED_CFG Fld.RED_CFG_JOIN_TIMEOUT * secT ≤ t)) then
    .next (s1.failJoin 3)
  else .next s1

/-- JOIN_RETRY: 10 s after a failed join (R293). -/
def execJoinRetry (t : Nat) (s : State) : Host.Outcome State Fault Refusal :=
  let s1 := s.tick t
  if s1.linkCode = 0 ∧ s1.red.linkUp ∧ s1.red.failedAt.any (fun a => decide (a + 10 * secT ≤ t)) then
    .next ({ s1 with red := { s1.red with failedAt := none } }.sendHello).tryJoin
  else .next s1

/-! ### Divergence, ring check (R286 to R288) -/

/-- DIVERGE: a tile's message is a divergence report. -/
def execDiverge (_chain _ta wfn slot t : Nat) (s : State) : Host.Outcome State Fault Refusal :=
  let s1 := s.tick t
  if s1.isSender then .next (s1.report wfn slot) else .next s1

/-- At a chain-window opening the sender not in control acts on R287: STANDBY, LEAVE with cause DIVERGE, JOIN as joiner. -/
def State.resyncNow (s : State) : State :=
  if !s.red.resync then s
  else if s.bit Reg.RED_STATE Fld.RED_STATE_IN_CONTROL ∨ !s.agreed then { s with red := { s.red with resync := false } }
  else
    let s1 := { s with red := { s.red with resync := false, reports := [], takeBack := false } }
    let s2 := if s1.bit Reg.RED_STATE Fld.RED_STATE_ACTIVE then (s1.putRed Fld.RED_STATE_ACTIVE 0).bump Reg.RED_SWITCHES 1 else s1
    (s2.sendLeave 1).sendHello.tryJoin

/-- A bad outcome of the ring check: RING_OK, LATENT and the hold-off follow it (R289, R294). -/
def State.ringFault (s : State) (chain : Nat) : State :=
  ({ s with red := { s.red with badAt := (chain, s.now) :: s.red.badAt.filter (fun b => b.1 != chain) } }.restartHoldoff).syncHealth

/-- RECEIPT_CHECK: at the close of the chain window plus 20 µs, the other sender's slice of (TA, WFN, slot) is classified
(R288). A picture this sender did not code has no SCRC to compare with and is not classified (log entry 26). -/
def execReceiptCheck (ta wfn slot : Nat) (s : State) : Host.Outcome State Fault Refusal :=
  match s.timeline?, s.red.sigs.find? (fun g => g.ta == ta && g.wfn == wfn && g.slot == slot) with
  | some tl, some g =>
    let close := if slot + 1 < tl.nImage then windowOpen tl wfn (slot + 1) else frameStart tl wfn
    let s1 := s.tick (close + 20 * usT)
    if !s1.isSender ∨ !s1.agreed then .next s1
    else
      let mine (r : Receipt) : Bool := r.ta == ta && r.wfn40 == wfn % 2 ^ 40 && r.slot == slot
      let s2 := { s1 with red := { s1.red with receipts := s1.red.receipts.filter (fun r => !mine r) } }
      match s1.red.receipts.find? mine with
      | none => .next ((s2.bump Reg.RED_UNCLAIMED 1).ringFault (ta / 64))
      | some r =>
        if !r.consumed then .next ((s2.bump Reg.RED_UNCLAIMED 1).ringFault (ta / 64))
        else if r.result % 2 = 0 then .next (s2.bump Reg.RED_RING_LINK 1)
        else if r.scrc = g.scrc then .next s2
        else .next (((s2.bump Reg.RED_CODE_DIFF 1).report wfn slot).ringFault (ta / 64))
  | _, _ => .next s

/-- RING_RETURN_LOSS: no eligible ring return for 40 µs; the flag follows Table 16.2. -/
def execRingReturnLoss (t : Nat) (s : State) : Host.Outcome State Fault Refusal :=
  let s1 := s.tick t
  if s1.isSender ∧ s1.linkCode = 0 then .next s1.applyFlag.syncHealth else .next s1

/-- HEALTH: a tile's record is kept (R288). -/
def execHealth (ta : Nat) (body : List Byte) (t : Nat) (s : State) : Host.Outcome State Fault Refusal :=
  let s1 := s.tick t
  if !s1.isSender then .next s1
  else
    let h : HealthRec := { ta := ta, bytes := body.take 24, t := t }
    .next { s1 with red := { s1.red with health := h :: s1.red.health.filter (fun x => x.ta != ta) } }.syncHealth

/-- SILENT_TIMEOUT: a tile without a record for 3 × HEALTH_S s counts as silent. -/
def execSilentTimeout (_ta t : Nat) (s : State) : Host.Outcome State Fault Refusal := .next (s.tick t).syncHealth

/-! ### Hand-over (R294 to R296) -/

/-- HOLDOFF_EXPIRY: the hold-off has run out with the time LOCKED and every ring-return port UP; the flag turns ACTIVE at the next
frame boundary. -/
def execHoldoffExpiry (t : Nat) (s : State) : Host.Outcome State Fault Refusal :=
  let s1 := s.tick t
  match s1.red.holdoffUntil with
  | none => .next s1
  | some u =>
    if t < u then .next s1
    else if s1.timeState ≠ 2 ∨ s1.chains.any (fun c => !s1.portUp c.chain) then .next s1.restartHoldoff
    else .next ({ s1 with red := { s1.red with holdoffUntil := none, takeBack := true } }.putRed Fld.RED_STATE_HOLDOFF 0)

/-- At a frame boundary: a relinquish wins over a take-back (R295, R296). -/
def State.handOver (s : State) : State :=
  if s.red.relinquish then
    let s1 := { s with red := { s.red with relinquish := false, takeBack := false, holdoffUntil := none } }
    if s1.formed ∧ !s1.isMirror then s1.setRed (putField (putField (s1.reg Reg.RED_STATE) 9 1 0) 10 1 1) else s1
  else if s.red.takeBack then { s with red := { s.red with takeBack := false } }
  else s

/-- STARTUP_STANDBY_EXPIRY: a mirror's first second of a run ends (R282). -/
def execStartupStandbyExpiry (t : Nat) (s : State) : Host.Outcome State Fault Refusal :=
  let s1 := s.tick t
  if s1.isSender ∧ s1.isMirror ∧ s1.linkCode = 0 ∧ s1.red.standbyUntil ≤ t then .next s1.applyFlag else .next s1

/-- PAIR_REJOIN (R296). -/
def doPairRejoin (_ : MboxCmd) (s : State) : State × Reply :=
  if s.bit Reg.RED_STATE Fld.RED_STATE_IN_CONTROL then (s, Reply.of St.IN_CONTROL)
  else if s.linkCode = 1 ∨ s.dbg.bist.isSome then (s, Reply.of St.BUSY)
  else ((s.sendLeave 3).sendHello.tryJoin, Reply.of St.OK)

/-- PAIR_TAKEBACK skips what remains of the hold-off and ends the relinquished state (R294, R295). -/
def doPairTakeback (_ : MboxCmd) (s : State) : State × Reply :=
  if !s.formed then (s, Reply.of St.NOT_FORMED)
  else if s.isMirror then (s, Reply.of St.NOT_PRIMARY)
  else
    let s1 := s.setRed (putField (s.reg Reg.RED_STATE) 9 2 0)
    ({ s1 with red := { s1.red with holdoffUntil := none,
                                    takeBack := !s.bit Reg.RED_STATE Fld.RED_STATE_ACTIVE } }, Reply.of St.OK)

/-- PAIR_RELINQUISH takes effect at the next frame boundary (R295). -/
def doPairRelinquish (_ : MboxCmd) (s : State) : State × Reply :=
  if !s.formed then (s, Reply.of St.NOT_FORMED)
  else if s.isMirror then (s, Reply.of St.NOT_PRIMARY)
  else ({ s with red := { s.red with relinquish := true } }, Reply.of St.OK)

def execPairRejoin (c : MboxCmd) (s : State) : Host.Outcome State Fault Refusal := .next (s.serve 0x301 c doPairRejoin)
def execPairTakeback (c : MboxCmd) (s : State) : Host.Outcome State Fault Refusal := .next (s.serve 0x302 c doPairTakeback)
def execPairRelinquish (c : MboxCmd) (s : State) : Host.Outcome State Fault Refusal := .next (s.serve 0x303 c doPairRelinquish)

/-! ### Choice at a tile (R283) -/

/-- At a chain-window opening the tile selects a port: west, else east, else none; a change is counted, and the next good control
row of the new stream gives its express state (R135). -/
def State.selectPort (s : State) : State :=
  let w := s.portEligible 0
  let e := s.portEligible 1
  let sel := if w then 1 else if e then 2 else 0
  let s1 := s.setReg Reg.RED_TILE (putField (putField (putField (s.reg Reg.RED_TILE) 0 2 sel) 2 1 (flag w)) 3 1 (flag e))
  if sel = s.selCode then s1
  else
    let s2 := { s1.bump Reg.RED_SWITCHES 1 with chn := { s1.chn with adopt := true }, red := { s1.red with selectedAt := some s1.now } }
    if sel = 0 then s2.timeLost else s2.syncAligned

/-! ### The run (R281, R282) -/

/-- A sender's run starts: it becomes current with the link formed, or as primary at the first run of its image with no eligible
ring return; a mirror without a formed link starts 1 s of STANDBY. -/
def State.pairRunStart (s : State) : State :=
  let first := s.red.firstRun
  let s1 := { s with red := { s.red with runAt := s.now, firstRun := false,
                                         standbyUntil := if s.isMirror && !s.formed then s.now + secT else 0 } }
  if s1.formed ∨ (!s1.isMirror ∧ first ∧ s1.linkCode = 0 ∧ !s1.chains.any (fun c => s1.ringEligible c.chain)) then
    s1.putRed Fld.RED_STATE_CURRENT 1
  else s1

/-! ### Registers (R297) -/

/-- A write in the RED block: RED_CFG ignores a value out of range as a whole. -/
def redCounter (a : Nat) : Bool := inRange a Reg.RED_DIVERGE Reg.RED_FSIG_FAIL
def State.redWrite (s : State) (a : Nat) (data : Word) : State :=
  if a = Reg.RED_CFG then
    if fieldOf data 0 8 = 0 ∨ fieldOf data 8 8 < 10 ∨ fieldOf data 16 4 = 0 then s else s.plainWrite a data
  else if a = Reg.RED_CNT_CLEAR then s.clearCounters data redCounter
  else s.plainWrite a data

/-- RED registers computed at a read. -/
def State.redView (s : State) (a : Nat) : Option Nat :=
  if a = Reg.RED_HEALTH then some s.healthWord.toNat
  else if a = Reg.RED_HOLDOFF_LEFT then
    some (match s.red.holdoffUntil with | none => 0 | some u => ceilDiv (u - s.now) msT)
  else if a = Reg.RED_JOIN_PROG then
    some (if s.isSender then satTo 511 s.red.verified.length + satTo 511 s.tas.length * 65536 else 0)
  else if inRange a (Reg.RED_HREC 0) (Reg.RED_HREC 5) then
    let k := (a - Reg.RED_HREC 0) / 4
    some (match s.red.health.find? (fun h => h.ta == s.get Reg.RED_HREC_SEL ⟨0, 8⟩) with
      | none => 0
      | some h => leAt h.bytes (4 * k) 4)
  else if a = Reg.RED_TILE then
    some (putField (putField (s.reg a) 2 1 (flag (s.isTile && s.portEligible 0))) 3 1 (flag (s.isTile && s.portEligible 1))).toNat
  else none

end Sys2Proof.Machine
end

