-- ==== Sys2Proof/Machine/Trust.lean ====
section
/-! DEFINITION. Keys, lifecycle, staging and attestation (chapter 18). -/
namespace Sys2Proof.Machine

/-! ### Keys (R315, R316) -/

/-- The public key of ROOTr: its digest matches the fuse and it is not retired (R315). -/
def State.rootKey? (s : State) (r : Nat) : Option (List Byte) :=
  match s.tru.keys.roots[r]? with
  | none => none
  | some k => if Config.shake256 k 32 = Config.rootDigest r ∧ ¬ (r = 0 ∧ s.tru.root0Retired = true) then some k else none

/-- ROOTr as an ISSUER_ID. -/
def rootIndex (issuer : List Byte) : Option Nat :=
  let v := leNat issuer
  if v = 0xFFFFFFFFFFFFFF00 then some 0 else if v = 0xFFFFFFFFFFFFFF01 then some 1 else none

/-- Fields of a certificate (Table 18.3). -/
def certUsage (c : List Byte) : Nat := leAt c 6 2
def certId (c : List Byte) : List Byte := slice c 8 8
def certIssuer (c : List Byte) : List Byte := slice c 16 8
def certKey (c : List Byte) : List Byte := slice c 0x20 57

/-- USAGE bits (Table 18.3). -/
abbrev Us.IMAGE : Nat := 0
abbrev Us.FIRMWARE : Nat := 1
abbrev Us.MGMT : Nat := 2
abbrev Us.LIFECYCLE : Nat := 3
abbrev Us.OWNER : Nat := 5

/-- The certificate of a KEY_ID that is not revoked. -/
def State.cert? (s : State) (id : List Byte) : Option (List Byte) :=
  if s.tru.revoked.contains id then none else s.tru.keys.certs.find? (fun c => certId c == id)

/-- The public key of an issuer that may sign a USAGE: a known root signs every usage, a known OWNER key MGMT alone (R316). -/
def State.issuerKey (s : State) (issuer : List Byte) (usage : Nat) : Option (List Byte) :=
  match rootIndex issuer with
  | some r => s.rootKey? r
  | none =>
    match s.cert? issuer with
    | none => none
    | some c =>
      if natBit (certUsage c) Us.OWNER && usage == 2 ^ Us.MGMT then
        match (rootIndex (certIssuer c)).bind s.rootKey? with
        | some _ => some (certKey c)
        | none => none
      else none

/-- The certificate of a known key. -/
def State.known (s : State) (id : List Byte) : Option (List Byte) :=
  match s.cert? id with
  | none => none
  | some c => if (s.issuerKey (certIssuer c) (certUsage c)).isSome then some c else none

/-- The present lifecycle state accepts a certificate (Table 18.1). -/
def State.lifecycleAccepts (s : State) (c : List Byte) : Bool :=
  decide (s.tru.lifecycle ≤ 3) && natBit (byteAt c 0x18) (s.tru.lifecycle - 1)

/-- The public key of a KEY_ID with a usage, accepted in the lifecycle state (R316). -/
def State.keyFor (s : State) (usage : Nat) (id : List Byte) : Option (List Byte) :=
  match s.known id with
  | none => none
  | some c => if natBit (certUsage c) usage && s.lifecycleAccepts c then some (certKey c) else none

/-- A signature has failed. -/
def State.sigFailed (s : State) : State := s.bump Reg.TRU_SIG_FAIL 1

/-- The form of a certificate (Table 18.3). -/
def certForm (c : List Byte) : Bool :=
  (slice c 0 4).map (·.toNat) == [0x44, 0x4E, 0x4B, 0x43] && leAt c 4 2 == 1 && decide (certUsage c < 64) && !allZero (certId c) &&
    allZero (slice c 0x19 7) && allZero (slice c 0x59 39) && allZero (slice c 0xF2 14)

/-- The key store with its generation advanced: it is written to the slot not in use and committed (R319). -/
def State.writeKeys (s : State) (k : KeyStore) : State :=
  { s with tru := { s.tru with keys := { k with generation := s.tru.keys.generation + 1 } } }

/-- KEY_INSTALL (R316); BUSY after the stop of R237, when nothing is written (log entry 40), and KEY_BAD past 200 certificates (log
entry 41). -/
def doKeyInstall (m : MboxCmd) (s : State) : State × Reply :=
  let c := m.body
  if s.flashStopped then (s, Reply.of St.BUSY)
  else if !certForm c then (s, Reply.of St.KEY_BAD)
  else
    match s.issuerKey (certIssuer c) (certUsage c) with
    | none => (s, Reply.of St.KEY_BAD)
    | some pub =>
      if !Config.ed448phVerify pub (asciiBytes "DN9600-KC") (c.take 0x80) (slice c 0x80 114) then (s.sigFailed, Reply.of St.KEY_BAD)
      else
        let rest := s.tru.keys.certs.filter (fun x => certId x != certId c)
        if 200 ≤ rest.length then (s, Reply.of St.KEY_BAD)
        else (s.writeKeys { s.tru.keys with certs := rest ++ [c] }, Reply.of St.OK)

def execKeyInstall (c : MboxCmd) (s : State) : Host.Outcome State Fault Refusal := .next (s.serve 0x108 c doKeyInstall)

/-! ### Lifecycle (R313, R314, R317) -/

/-- The LIFECYCLE certificate under which a token verifies. -/
def State.tokenCert (s : State) (tok : List Byte) : Option (List Byte) :=
  s.tru.keys.certs.find? (fun c =>
    (s.keyFor Us.LIFECYCLE (certId c)).any (fun pub => Config.ed448phVerify pub (asciiBytes "DN9600-LT") (tok.take 32) (slice tok 32 114)))

/-- The lifecycle state advances: the new gating applies at once (R313, R387). -/
def State.setLifecycle (s : State) (k : Nat) : State :=
  ({ s with tru := { s.tru with lifecycle := k } }.regate).lampPower s.now

/-- LC_TOKEN. -/
def doLcToken (m : MboxCmd) (s : State) : State × Reply :=
  let tok := m.body
  let type := byteAt tok 0
  let target := byteAt tok 1
  let dev := slice tok 2 16
  let mine := dev == identity
  if type = 0 ∨ 3 < type ∨ !allZero (slice tok 26 6) ∨ !(mine || allZero dev) ∨
      (type = 1 ∧ (target = 0 ∨ 4 < target ∨ (target = Lc.RETURNED ∧ !mine))) then (s, Reply.of St.BAD_FIELD)
  else
    match s.tokenCert tok with
    | none => (s.sigFailed, Reply.of St.KEY_BAD)
    | some c =>
      if type = 1 then
        if target ≤ s.tru.lifecycle then (s, Reply.of St.LC_ORDER) else (s.setLifecycle target, Reply.of St.OK)
      else if type = 2 then
        if 64 ≤ s.tru.revoked.length then (s, Reply.of St.REVOKE_FULL)
        else ({ s with tru := { s.tru with revoked := s.tru.revoked ++ [slice tok 18 8] } }, Reply.of St.OK)
      else if rootIndex (certIssuer c) = some 1 then ({ s with tru := { s.tru with root0Retired := true } }, Reply.of St.OK)
      else (s, Reply.of St.KEY_BAD)

def execLcToken (c : MboxCmd) (s : State) : Host.Outcome State Fault Refusal := .next (s.serve 0x109 c doLcToken)

/-- SCRAP: in RETURNED alone (Table 18.1). -/
def doScrap (_ : MboxCmd) (s : State) : State × Reply :=
  if s.tru.lifecycle = Lc.RETURNED then (s.setLifecycle Lc.SCRAPPED, Reply.of St.OK) else (s, Reply.of St.BAD_STATE)

def execScrap (c : MboxCmd) (s : State) : Host.Outcome State Fault Refusal := .next (s.serve 0x10A c doScrap)

/-! ### Attestation (R318) -/

/-- The key store's bytes as its digest covers them: root keys, certificates, identity certificate (log entry 41). -/
def keyStoreBytes (k : KeyStore) : List Byte := k.roots.flatten ++ k.certs.flatten ++ k.idCert

/-- The WFN an attestation record carries: all ones outside a run. -/
def State.runWfn (s : State) : Nat := if s.runs then s.wfnNow else 0xFFFFFFFFFFFF

/-- The attestation record (Table 18.3a). -/
def State.attestRecord (s : State) (nonce : List Byte) : List Byte :=
  [0x44, 0x4E, 0x41, 0x54] ++ leBytes 2 1 ++ leBytes 1 s.tru.lifecycle ++ zeroBytes 1 ++ identity ++
    leBytes 8 ((s.image?.map (·.imageId)).getD 0) ++ leBytes 4 (if s.recovery then 0 else s.tru.fwVersion) ++
    leBytes 1 s.tru.siFloor ++ leBytes 1 s.tru.fwFloor ++ leBytes 6 s.runWfn ++ zeroBytes 4 ++
    Config.shake256 (keyStoreBytes s.tru.keys) 32 ++ nonce ++ zeroBytes 16

/-- ATTEST. -/
def doAttest (m : MboxCmd) (s : State) : State × Reply :=
  let r := s.attestRecord m.body
  (s, { status := St.OK, body := r ++ signature identityKey "DN9600-AT" r })

def execAttest (c : MboxCmd) (s : State) : Host.Outcome State Fault Refusal := .next (s.serve 0x10B c doAttest)

/-! ### Slots (R319, R322, R323) -/

/-- Whether a firmware header passes (R319), within a recorded length. -/
def fwHeaderOk (rd : Nat → Byte) (len : Nat) : Bool :=
  let n := numAt rd 8 4
  numAt rd 0 4 == 0x57464E44 && numAt rd 4 2 == 1 && n % 4096 == 0 && decide (4096 ≤ n) && decide (n ≤ 0x400000) && decide (n ≤ len) &&
    allZero (bytesAt rd 6 2) && allZero (bytesAt rd 0x11 235) && numAt rd 0x10 1 % 4 == numAt rd 0x10 1 && numAt rd 0xFC 4 == crc32c (bytesAt rd 0 0xFC)

/-- Whether a firmware signature verifies (R316, Table 18.2). -/
def State.fwSigOk (s : State) (rd : Nat → Byte) : Bool :=
  let sig := numAt rd 8 4 - 4096
  allZero (bytesAt rd (sig + 0x0C) 4) && allZero (bytesAt rd (sig + 0x82) 126) &&
    (s.keyFor Us.FIRMWARE (bytesAt rd sig 8)).any (fun pub =>
      Config.ed448phVerify pub (asciiBytes "DN9600-FW") (bytesAt rd 0 (sig + 0x10)) (bytesAt rd (sig + 0x10) 114))

/-- SECURITY_VERSION of the object in a slot. -/
def slotSecurity (rd : Nat → Byte) : Nat := numAt rd (numAt rd 8 4 - 4096 + 8) 4

/-- FW_VERSION of the firmware in a slot. -/
def State.fwVersionOf (s : State) (k : Nat) : Nat := numAt (s.slotByte 0 k) 0x0C 4

/-- The firmware in a slot may run. -/
def State.fwValid (s : State) (k : Nat) : Bool :=
  let rd := s.slotByte 0 k
  fwHeaderOk rd 0x400000 && s.fwSigOk rd && decide (s.tru.fwFloor ≤ slotSecurity rd)

/-- What admission takes from the device (R36). -/
def State.admCtx (s : State) (k : Nat) (train : List Nat) (staged : Bool) : AdmCtx :=
  { siliconRev := Config.siliconRevision, firmware := s.tru.fwVersion, recorded := s.tru.desc.lengths.getD k 0,
    keyOf := fun id => s.keyFor Us.IMAGE id, floor := s.tru.siFloor, map := s.reg Reg.LMP_MAP,
    train := fun c => train.getD c 0, running := if staged then s.gen.running else none }

/-- The outcome of STAGE_END's check of a slot, as its status and its TRU_STAGE.RESULT (R322). -/
def State.stageCheck (s : State) (x : StageSession) : Nat × Nat :=
  let rd := s.slotByte x.type x.slot
  if x.type = 0 then
    if !fwHeaderOk rd x.length then (St.STAGE_FORMAT, 2)
    else if !s.fwSigOk rd then (St.STAGE_SIG, 3)
    else if slotSecurity rd < s.tru.fwFloor then (St.STAGE_ROLLBACK, 4)
    else if (s.isSender && !natBit (numAt rd 0x10 1) 0) || (s.isTile && !natBit (numAt rd 0x10 1) 1) then (St.STAGE_ROLE, 5)
    else (St.OK, 0)
  else
    let ctx := s.admCtx x.slot [] false
    if (admFormat rd ctx).isSome then (St.STAGE_FORMAT, 2)
    else if (admSignature rd ctx).isSome then (St.STAGE_SIG, 3)
    else if (admRollback rd ctx).isSome then (St.STAGE_ROLLBACK, 4)
    else (St.OK, 0)

/-! ### Staging (R320 to R322, R399) -/

/-- Two mailbox paths are one access path: a session of management, a SIDE of the chain. -/
def samePath : MboxPath → MboxPath → Bool
  | .pcie, .pcie => true
  | .spi, .spi => true
  | .mgmt a, .mgmt b => a == b
  | .chain a _, .chain b _ => a == b
  | _, _ => false

/-- The running slot of a type; none in recovery. -/
def State.runningSlot (s : State) (type : Nat) : Option Nat :=
  if s.recovery then none else some (if type = 0 then s.tru.fwSlot else s.tru.siSlot)

def State.session? (s : State) (type : Nat) : Option StageSession := s.tru.sessions.find? (fun x => x.type == type)

def State.setSession (s : State) (x : StageSession) : State :=
  { s with tru := { s.tru with sessions := s.tru.sessions.filter (fun y => y.type != x.type) ++ [x] } }

/-- Record how a session or a STAGE_END ended. -/
def State.stageResult (s : State) (result : Nat) (done : Bool) : State :=
  let s1 := s.put Reg.TRU_STAGE Fld.TRU_STAGE_RESULT result
  if done then s1.putBit Reg.TRU_STAGE Fld.TRU_STAGE_DONE true else s1

/-- Close a session; a STAGE_END under way ends with it. -/
def State.closeSession (s : State) (x : StageSession) (result status : Nat) : State :=
  let s1 : State := { s with tru := { s.tru with sessions := s.tru.sessions.filter (fun y => y.type != x.type) } }
  let s2 := s1.stageResult result x.ending.isSome
  match x.ending with
  | none => s2
  | some tok => (s2.dropJob tok).longEnd tok status 0 (status == St.ABORTED)

/-- STAGE_BEGIN (R320); BUSY after the stop of R237 too, when no session could write (log entry 40). -/
def doStageBegin (m : MboxCmd) (s : State) : State × Reply :=
  let type := byteAt m.body 0
  let k := byteAt m.body 1
  let len := leAt m.body 4 4
  if 1 < type ∨ 1 < k ∨ len = 0 ∨ stageSize type < len ∨ s.runningSlot type = some k then (s, Reply.of St.BAD_FIELD)
  else if s.flashStopped ∨ (s.session? type).isSome ∨ s.tru.activation.isSome ∨
      (type = 1 ∧ s.gen.admission.any (fun a => a.slot == k)) then (s, Reply.of St.BUSY)
  else
    let x : StageSession := { type := type, slot := k, length := len, path := m.path, parts := [], accepted := [], lastAt := s.now, buffer := [], ending := none }
    let s1 := s.setSession x
    let d := s1.tru.desc
    let s2 : State := { s1 with tru := { s1.tru with
      verified := s1.tru.verified.filter (· != (type, k)),
      desc := if type = 1 then { d with lengths := d.lengths.set k len } else d } }
    let s3 : State := if type = 1 then { s2 with gen := { s2.gen with admitted := none, rebootOnly := none } } else s2
    (s3.put Reg.TRU_STAGE Fld.TRU_STAGE_PATH (pathCode m.path), Reply.of St.OK)

def execStageBegin (c : MboxCmd) (s : State) : Host.Outcome State Fault Refusal := .next (s.serve 0x101 c doStageBegin)

/-- Blocks of a session, and the bytes of one. -/
def blockCount (len : Nat) : Nat := ceilDiv len 65536
def blockBytes (len b : Nat) : Nat := Nat.min 65536 (len - 65536 * b)

/-- The parts of a block cover it. -/
def covered (parts : List (Nat × Nat × List Byte)) (b n : Nat) : Bool :=
  (List.range n).all (fun i => parts.any (fun p => p.1 == b && decide (p.2.1 ≤ i) && decide (i < p.2.1 + p.2.2.length)))

/-- The bytes of a block from its parts, later ones over earlier. -/
def gather (parts : List (Nat × Nat × List Byte)) (b n : Nat) : List Byte :=
  cellRead erasedByte ((parts.filter (fun p => p.1 == b)).foldl (fun l p => cellSetMany erasedByte l p.2.1 p.2.2) []) 0 n

/-- An accepted block is erased into and programmed at its place; a tile's FIRMWARE block waits in the DRAM buffer (R321, R399). After
the stop nothing is written and the session ends with POWER (R237, R321). -/
def State.acceptBlock (s : State) (x : StageSession) (b : Nat) (bytes : List Byte) : State :=
  let base := stageBase x.type x.slot + 65536 * b
  let y : StageSession := { x with parts := x.parts.filter (fun p => p.1 != b), accepted := b :: x.accepted.filter (· != b), lastAt := s.now }
  if s.flashStopped then s.closeSession x 6 St.FAILED
  else if s.isTile && x.type == 0 then s.setSession { y with buffer := y.buffer ++ [{ block := b, bytes := bytes, done := 0 }] }
  else ((s.setSession y).flashErase base).flashProgram base bytes

/-- STAGE_DATA (R321). -/
def doStageData (m : MboxCmd) (s : State) : State × Reply :=
  let type := byteAt m.body 0
  let b := leAt m.body 2 2
  let off := leAt m.body 4 4
  let data := m.body.drop 12
  match s.session? type with
  | none => (s, Reply.of (if 1 < type then St.BAD_FIELD else St.BAD_STATE))
  | some x =>
    let n := blockBytes x.length b
    if !samePath m.path x.path then (s, Reply.of St.NOT_OWNER)
    else if x.ending.isSome then (s, Reply.of St.BAD_STATE)
    else if blockCount x.length ≤ b ∨ off % 4 ≠ 0 ∨ n < off + data.length then (s, Reply.of St.BAD_FIELD)
    else
      let parts := x.parts ++ [(b, off, data)]
      if !covered parts b n then (s.setSession { x with parts := parts }, Reply.of St.OK)
      else
        let bytes := gather parts b n
        if crc32c bytes ≠ leAt m.body 8 4 then
          ((s.setSession { x with parts := x.parts.filter (fun p => p.1 != b) }).bump Reg.TRU_CRC_ERR 1, Reply.of St.STAGE_CRC)
        else (s.acceptBlock x b bytes, Reply.of St.OK)

def execStageData (c : MboxCmd) (s : State) : Host.Outcome State Fault Refusal := .next (s.serve 0x102 c doStageData)

/-- STAGE_END (R322, R246). -/
def doStageEnd (m : MboxCmd) (s : State) : State × Reply :=
  let type := byteAt m.body 0
  match s.session? type with
  | none => (s, Reply.of (if 1 < type then St.BAD_FIELD else St.BAD_STATE))
  | some x =>
    if !samePath m.path x.path then (s, Reply.of St.NOT_OWNER)
    else if x.ending.isSome ∨ s.longFull then (s, Reply.of St.BUSY)
    else if (List.range (blockCount x.length)).any (fun b => !x.accepted.contains b) then (s.stageResult 1 true, Reply.of St.STAGE_INCOMPLETE)
    else if s.gen.running.any noSlack then (s, Reply.of St.NO_SLACK)
    else
      let r := s.longStart 0x103 m type
      let s1 := r.1.setSession { x with ending := some r.2.token }
      let w := if type = 0 then some (20000000 + perMiB 250 x.length) else none
      (match s1.gen.running with
        | some im => s1.background (.stage type) r.2.token w (s1.roomiest im)
        | none => s1, r.2)

def execStageEnd (c : MboxCmd) (s : State) : Host.Outcome State Fault Refusal := .next (s.serve 0x103 c doStageEnd)

/-- STAGE_VERIFY_COMPLETE: read-back and signature check end, after the last block is programmed and the check's background work is
done (R246, R322, R399). -/
def execStageVerifyComplete (type t : Nat) (s : State) : Host.Outcome State Fault Refusal :=
  let s0 := s.tick t
  match s0.session? type with
  | none => .next s0
  | some x =>
    match x.ending with
    | none => .next s0
    | some tok =>
      if !x.buffer.isEmpty ∨ s0.workLeft tok then .next s0
      else
        let r := s0.stageCheck x
        if r.1 = St.OK then
          let s1 := s0.closeSession x 0 St.OK
          .next { s1 with tru := { s1.tru with verified := (type, x.slot) :: s1.tru.verified } }
        else
          let s1 := if r.1 = St.STAGE_SIG then s0.sigFailed else s0
          .next (((s1.setSession { x with ending := none }).stageResult r.2 true).dropJob tok |>.longEnd tok r.1 0 false)

/-- An ABORT of STAGE_END that wins: the slot keeps its blocks and is not VERIFIED (R322). -/
def State.abortStage (s : State) (tok : Nat) : State :=
  match s.tru.sessions.find? (fun x => x.ending == some tok) with
  | none => s
  | some x => (((s.setSession { x with ending := none }).stageResult 7 true).dropJob tok).longEnd tok St.ABORTED 0 true

/-- STAGE_ABORT (R320). -/
def doStageAbort (m : MboxCmd) (s : State) : State × Reply :=
  let type := byteAt m.body 0
  match s.session? type with
  | none => (s, Reply.of (if 1 < type then St.BAD_FIELD else St.BAD_STATE))
  | some x =>
    if !samePath m.path x.path then (s, Reply.of St.NOT_OWNER) else (s.closeSession x 7 St.ABORTED, Reply.of St.OK)

def execStageAbort (c : MboxCmd) (s : State) : Host.Outcome State Fault Refusal := .next (s.serve 0x104 c doStageAbort)

/-- STAGE_TIMEOUT: 60 s without an accepted block (R320). -/
def execStageTimeout (type t : Nat) (s : State) : Host.Outcome State Fault Refusal :=
  let s0 := s.tick t
  match s0.session? type with
  | none => .next s0
  | some x => if x.ending.isSome ∨ t < x.lastAt + 60 * secT then .next s0 else .next (s0.closeSession x 8 St.ABORTED)

/-- The stop of R237 ends every session with result POWER (R321). -/
def State.stopStages (s : State) : State := s.tru.sessions.foldl (fun (z : State) x => z.closeSession x 6 St.FAILED) s

/-- A page program of a buffered block runs. -/
def State.stageProgramming (s : State) : Bool :=
  s.tru.sessions.any (fun x => match x.buffer with | b :: _ => decide (0 < b.done) | [] => false)

/-- One flash operation of the oldest buffered block ends: its sector is erased, or its next page programmed (R399). -/
def State.stageStep (s : State) (ok : Bool) : State :=
  match s.tru.sessions.find? (fun x => !x.buffer.isEmpty) with
  | none => s
  | some x =>
    if s.flashStopped then s.closeSession x 6 St.FAILED else
    match x.buffer with
    | [] => s
    | b :: rest =>
      let base := stageBase x.type x.slot + 65536 * b.block
      let s1 := if !ok then s
        else if b.done = 0 then s.flashErase base
        else s.flashProgram (base + 256 * (b.done - 1)) (slice b.bytes (256 * (b.done - 1)) 256)
      let left := if ceilDiv b.bytes.length 256 ≤ b.done then rest else { b with done := b.done + 1 } :: rest
      s1.setSession { x with buffer := left }

/-- FLASH_OPERATION_COMPLETE: a sector erase or page program ends, of a store or of a buffered staging block, well or with a
flash status error (R235, R237, R399). -/
def execFlashOperationComplete (staging ok : Bool) (t : Nat) (s : State) : Host.Outcome State Fault Refusal :=
  let s0 := s.tick t
  if staging then .next (s0.stageStep ok)
  else
    match s0.cal.store with
    | none => .next s0
    | some x =>
      match x.phase with
      | .checking => .next s0
      | _ => .next (if ok then s0.storeStep x else s0.endStore x (if s0.flashStopped then Rs.POWER else Rs.FLASH))

/-! ### Registers (R330) -/

def truCounter (a : Nat) : Bool := a == Reg.TRU_CRC_ERR || a == Reg.TRU_SIG_FAIL

/-- A write in the TRU block. -/
def State.truWrite (s : State) (a : Nat) (data : Word) : State :=
  if a = Reg.TRU_CNT_CLEAR then s.clearCounters data truCounter else s.plainWrite a data

/-- TRU registers computed at a read. -/
def State.truView (s : State) (a : Nat) : Option Nat :=
  let u := s.tru
  if a = Reg.TRU_LIFE then
    some (u.lifecycle + flag u.root0Retired * 8 + satTo 127 u.revoked.length * 16 + satTo 255 u.keys.certs.length * 2048)
  else if a = Reg.TRU_FLOOR then some (u.siFloor + u.fwFloor * 256)
  else if a = Reg.TRU_BOOT then
    let w := s.reg a
    some (u.fwSlot + u.siSlot * 2 + flag u.fwTrial * 4 + flag u.siTrial * 8 + fieldOf w 4 1 * 16 + flag s.recovery * 32 + fieldOf w 6 2 * 64)
  else if a = Reg.TRU_STAGE then
    let openBit (k : Nat) : Nat := flag (s.session? k).isSome
    let ver (k : Nat) : Nat := flag (u.verified.any (fun p => p.1 == k && some p.2 != s.runningSlot k))
    some ((putField (putField (s.reg a) 0 2 (openBit 0 + openBit 1 * 2)) 2 2 (ver 0 + ver 1 * 2)).toNat)
  else if a = Reg.TRU_STAGE_MAP then
    some (match u.sessions.getLast? with
      | none => 0
      | some x => satTo 0xFFFF x.accepted.length + satTo 0xFFFF (blockCount x.length) * 65536)
  else if a = Reg.TRU_FW_VER then some u.fwVersion
  else if inRange a (Reg.TRU_ID 0) (Reg.TRU_ID 3) then some (leAt identity (a - Reg.TRU_ID 0) 4)
  else none

end Sys2Proof.Machine
end

