-- ==== Sys2Proof/Machine/Reset.lean ====
section
/-! DEFINITION. Core resets (R310, Table 17.4) and what outlives them: Umbra, the meter, the flash and the fuses. -/
namespace Sys2Proof.Machine

/-! ### The flash stop (R237) -/

/-- Umbra's stop: no erase or page program starts from here on; a page program in progress completes; staging sessions end. -/
def State.issueStop (s : State) (t : Nat) : State :=
  if s.umb.stopAt.isSome then s
  else
    let s1 := if s.stageProgramming then s.stageStep true else s
    let s2 : State := { s1 with umb := { s1.umb with stopAt := some t } }
    s2.stopStore.stopStages

/-- A reset acts on a flash write as the stop does before it takes effect, so a page program in progress completes (R310). -/
def State.settleFlash (s : State) : State :=
  let s1 := s.issueStop s.now
  match s1.cal.store with
  | some x => if s1.storeProgramming then s1.storeStep x else s1
  | none => s1

/-! ### The core's state -/

/-- THM registers the guard converter uses: thresholds, restart, and channels 14 and 15 with the tables (log entry 43). -/
def guardReg (a : Nat) : Bool :=
  inRange a (Reg.THM_GUARD_T 0) Reg.THM_GUARD_VAL || a == Reg.THM_CH_CFG 14 || a == Reg.THM_CH_CFG 15 ||
    a == Reg.THM_CH_LIM 14 || a == Reg.THM_CH_LIM 15 || inRange a (Reg.THM_NTC 0 0) (Reg.THM_NTC 1 32)

/-- Registers a core reset keeps: Umbra's, the meter's, and the guard's. -/
def keptReg (a : Nat) : Bool := inRange a 0x100000 0x10FFFF || inRange a 0x120000 0x12FFFF || guardReg a || a == Reg.THM_STATE

/-- Guard bits of THM_STATE; SENSOR_EVT and SUB_BAD are the core's. -/
def guardBits (w : Word) : Word := w &&& 0xFCF#32

/-- Levels of input pins, which a reset does not change: BLANK_N, LAMP_PG and REFCLK_CORE. -/
def State.keepPins (s : State) (old : State) : State :=
  let s1 := (s.putBit Reg.LMP_STATE Fld.LMP_STATE_PG (old.bit Reg.LMP_STATE Fld.LMP_STATE_PG)).setReg Reg.LMP_BLANK_SRC
    (putField (s.reg Reg.LMP_BLANK_SRC) 0 1 (fieldOf (old.reg Reg.LMP_BLANK_SRC) 0 1))
  { s1 with chn := { s1.chn with blankLow := old.chn.blankLow, refclk := old.chn.refclk } }

/-- What the chip is after a core reset: every block of the core as at power-up, Umbra, the meter, the guard, the flash and the
fuses kept. A power cycle resets the test access port too. -/
def State.clearCore (s : State) (cycle : Bool) : State :=
  let kept := s.regs.filter (fun c => keptReg c.1)
  let st := guardBits (s.reg Reg.THM_STATE)
  let u := s.tru
  let s1 : State :=
    { State.reset with
      pending := s.pending, now := s.now, ref := s.ref, fresh := s.fresh, out := s.out, regs := kept, umb := s.umb, met := s.met.timeLost,
      tru := { TruSt.reset with flash := u.flash, lifecycle := u.lifecycle, root0Retired := u.root0Retired, revoked := u.revoked,
                                siFloor := u.siFloor, fwFloor := u.fwFloor, desc := u.desc, keys := u.keys },
      thm := { ThmSt.reset with guards := s.thm.guards, pairs := s.thm.pairs, stamps := s.thm.stamps, halts := s.thm.halts,
                                waiting := s.thm.waiting, coolSince := s.thm.coolSince, restarted := s.thm.restarted,
                                umbLost := s.thm.umbLost },
      dbg := if cycle then DbgSt.reset else { s.dbg with bist := none, tmux := [] } }
  let s2 := ((s1.setReg Reg.THM_STATE st).showIr).keepPins s
  let s3 := if s.lmp.pwrAt.isSome then s2.emit (.lampPower false) else s2
  let s4 := if s.lmp.lanes = 0 then s3 else s3.emit (.glintLanes 0)
  if s.lmp.rowPol.isSome then s4.emit (.rowsOff none) else s4

/-- Set the power state (R298). -/
def State.setPower (s : State) (p : Nat) : State := s.put Reg.UMB_STATE Fld.UMB_STATE_PSTATE p

/-- The core enters reset for a cause of Table 17.4; it leaves it at CORE_RESET_RELEASE. A stop under way still ends in the drop (R305). -/
def State.coreReset (s : State) (cause : Nat) : State :=
  let s1 := s.settleFlash.clearCore false
  { s1.setPower Ps.BOOT with umb := { s1.umb with cause := cause, stopAt := s.umb.stopAt, dropNow := s.umb.dropNow, entry := none, downDue := false,
                                                  resetDue := false, spiHold := false, mapWritten := false, coreOut := false } }

/-- CORE_PWR_REQ falls: the core is unpowered and the state is UMBRA_ONLY (R305, R309). -/
def State.dropPower (s : State) : State :=
  let s1 := s.settleFlash.clearCore true
  let s2 : State := { s1.setPower Ps.UMBRA with umb := { s1.umb with coreReq := false, corePg := none, retryAt := none, stopAt := none, dropNow := false, entry := none, downDue := false, resetDue := false, spiHold := false, mapWritten := false, coreOut := false } }
  s2.emit (.corePower false)

/-- CORE_PWR_REQ rises for a cause of Table 17.4 (R308). -/
def State.requestPower (s : State) (cause t : Nat) : State :=
  if s.umb.coreReq then s
  else { s with umb := { s.umb with coreReq := true, reqAt := t, cause := cause, retryAt := none, warned := false, pfAbove := none } }.emit (.corePower true)

/-- The time unit loads wall time from Umbra's count (R178, R301): the clock moves to it. -/
def State.loadWallTime (s : State) : State :=
  let c := s.umbraCount
  ({ s with now := c, umb := { s.umb with skew := (s.now : Int) + s.umb.skew - (c : Int) } } : State).rebase s.now c

end Sys2Proof.Machine
end

