-- ==== Sys2Proof/Machine/Boot.lean ====
section
/-! DEFINITION. The ROM's boot, admission, image start, activation and confirmation (R36 to R39, R310, R311, R323 to R329). -/
namespace Sys2Proof.Machine

/-! ### The boot descriptor (R323) -/

/-- Write the boot descriptor: its generation rises by one (R235, R319); after the stop nothing is written (R237). -/
def State.writeDesc (s : State) (d : BootDesc) : State :=
  if s.flashStopped then s else { s with tru := { s.tru with desc := { d with generation := s.tru.desc.generation + 1 } } }

/-- What the ROM takes for a type: slot, whether it is a TRIAL slot, the entry it leaves, and whether a trial has failed. -/
def romChoice (e : BootEntry) : Nat × Bool × BootEntry × Bool :=
  match e.trial with
  | none => (e.running, false, e, false)
  | some k => if e.booted then (e.running, false, { e with trial := none, booted := false }, true) else (k, true, { e with booted := true }, false)

/-- The ROM enters recovery (R329). -/
def State.enterRecovery (s : State) : State :=
  let s1 : State := { s with gen := { s.gen with admission := none } }
  (s1.setReg Reg.GEN_IMG_STATE 0).put Reg.GEN_IMG_STATE Fld.GEN_IMG_STATE_STATE 4

/-- The ROM tries a firmware slot: a signature that fails is counted. -/
def State.tryFirmware (s : State) (k : Nat) : State :=
  if fwHeaderOk (s.slotByte 0 k) 0x400000 && !s.fwSigOk (s.slotByte 0 k) then s.sigFailed else s

/-- ROM_BOOT (R323): the slots of each type are chosen and the firmware verified, the other slot tried after it. -/
def State.romBoot (s : State) : State :=
  let d := s.tru.desc
  let f := romChoice d.fw
  let i := romChoice d.si
  let d1 : BootDesc := { d with fw := f.2.2.1, si := i.2.2.1 }
  let s1 := if d1 = d then s else s.writeDesc d1
  let s2 := if f.2.2.2 || i.2.2.2 then s1.putBit Reg.TRU_BOOT Fld.TRU_BOOT_TRIAL_FAILED true else s1
  let pick := if s2.fwValid f.1 then some f.1 else if s2.fwValid (1 - f.1) then some (1 - f.1) else none
  let s3 := s2.tryFirmware f.1
  let s4 := if s2.fwValid f.1 then s3 else s3.tryFirmware (1 - f.1)
  match pick with
  | none => s4.enterRecovery
  | some k => { s4 with tru := { s4.tru with fwSlot := k, fwTrial := f.2.1 && k == f.1, fwVersion := s4.fwVersionOf k,
                                             siSlot := i.1, siTrial := i.2.1 } }

/-- CORE_RESET_RELEASE: CORE_PG has been high for 2 ms; Umbra samples the straps and releases reset (R308, R311, R314). -/
def execCoreResetRelease (straps t : Nat) (s : State) : Host.Outcome State Fault Refusal :=
  let s0 := s.tick t
  let ready := s0.umb.corePg.any (fun p => decide (p + 2 * msT ≤ t))
  if s0.umb.coreOut ∨ !s0.umb.coreReq ∨ !ready then .next s0
  else
    let c := s0.umb.cause
    let s1 := s0.clearCore false
    let st := straps % 4
    let s2 := ((s1.setPower Ps.BOOT).setNum Reg.UMB_STRAPS (st + flag (st == 3) * 4)).setNum Reg.UMB_RESET_CAUSE (2 ^ c)
    let s2 := (s2.put (Reg.CHN_PORT_STAT 0) Fld.CHN_PORT_STAT_STATE 1).put (Reg.CHN_PORT_STAT 1) Fld.CHN_PORT_STAT_STATE 1
    let s3 := (s2.putBit Reg.THM_STATE Fld.THM_STATE_RESTARTED s2.thm.restarted).putBit Reg.THM_STATE Fld.THM_STATE_UMB_LOST s2.thm.umbLost
    let s4 : State := { s3 with umb := { s3.umb with coreOut := true, spiHold := false, tries := 0 }, thm := { s3.thm with restarted := false, umbLost := false } }
    if s4.tru.lifecycle = Lc.SCRAPPED then .next s4
    else if st = 1 then .next { s4 with umb := { s4.umb with spiHold := true } }
    else if st = 2 then .next s4.enterRecovery
    else .next s4.romBoot

/-- BOOT_GO releases an SPI_HOLD boot; ignored otherwise (Table 17.7). -/
def State.bootGo (s : State) : State :=
  if s.umb.spiHold then { s with umb := { s.umb with spiHold := false } }.romBoot else s

/-! ### Admission (R36 to R39) -/

/-- An admission begins (Table 2.14). -/
def State.admStart (s : State) (j : AdmJob) : State :=
  let s1 := (s.putBit Reg.GEN_ADM_STATUS Fld.GEN_ADM_STATUS_BUSY true).putBit Reg.GEN_ADM_STATUS Fld.GEN_ADM_STATUS_TARGET j.staged
  { s1 with gen := { s1.gen with admission := some j } }

/-- An admission ends with a failure or with a pass. -/
def State.admEnd (s : State) (staged : Bool) (f : Option AdmFail) : State :=
  let code := (f.map (·.code)).getD 0
  let step := (f.map (·.step)).getD 13
  let s1 := s.setNum Reg.GEN_ADM_STATUS (code + step * 2 ^ 8 + 2 ^ 17 + flag f.isNone * 2 ^ 18 + flag staged * 2 ^ 19)
  let s2 : State := { s1 with gen := { s1.gen with admission := none } }
  match f with
  | none => s2
  | some x => (s2.setNum Reg.GEN_ADM_DETAIL0 (x.sect + satTo 0xFFFF x.rcd * 65536)).setNum Reg.GEN_ADM_DETAIL1 x.elem

/-- FIRMWARE_START: boot firmware runs; it loads wall time and the stored cabinet and begins the boot admission (R178, R236, R239,
R396). -/
def execFirmwareStart (t : Nat) (s : State) : Host.Outcome State Fault Refusal :=
  let s0 := s.tick t
  if s0.pstate ≠ Ps.BOOT ∨ !s0.umb.coreOut ∨ s0.umb.spiHold ∨ s0.recovery ∨ s0.tru.lifecycle = Lc.SCRAPPED ∨ s0.gen.admission.isSome ∨ s0.gen.running.isSome then .next s0
  else
    let k := s0.tru.siSlot
    let s1 := s0.loadWallTime.selectCal (s0.tileSlot k)
    .next ((s1.put Reg.GEN_IMG_STATE Fld.GEN_IMG_STATE_STATE 1).admStart { staged := false, slot := k, token := 0 })

/-- ADMIT (R37, R38). -/
def doAdmit (c : MboxCmd) (s : State) : State × Reply :=
  if s.gen.admission.isSome then (s, Reply.of St.ADM_BUSY)
  else
    match s.gen.running with
    | none => (s, Reply.of St.BAD_STATE)
    | some im =>
      if noSlack im then (s, Reply.of St.NO_SLACK)
      else if s.longFull then (s, Reply.of St.BUSY)
      else
        let k := 1 - s.tru.siSlot
        let r := s.longStart 0x105 c 1
        let len := numAt (s.slotByte 1 k) 0x08 4
        let s1 := r.1.admStart { staged := true, slot := k, token := r.2.token }
        (s1.background .admission r.2.token (some (60000000 + ceilDiv (1200000 * len) (2 ^ 20))) (s1.roomiest im), r.2)

def execAdmit (c : MboxCmd) (s : State) : Host.Outcome State Fault Refusal := .next (s.serve 0x105 c doAdmit)

/-- ABORT of a staged admission: ADM_ABORTED at the step reached, which is a free value; the image stays staged and not admitted
(R39). -/
def State.abortAdmission (s : State) (tok : Nat) : State :=
  let f := s.takeFree
  let x : AdmFail := { code := 0x13, step := 1 + f.1 % 13, sect := 0, rcd := 0, elem := 0 }
  let s1 := f.2.setNum Reg.GEN_ADM_STATUS (x.code + x.step * 2 ^ 8 + 2 ^ 17 + 2 ^ 19)
  let s2 : State := { s1 with gen := { s1.gen with admission := none, admitted := none, rebootOnly := none } }
  (s2.dropJob tok).longEnd tok St.ABORTED 0 true

/-- Channels an image does not populate are powered down (R12). -/
def State.powerDownOthers (s : State) (im : Image) : State :=
  let trained := s.get Reg.DRC_STAT Fld.DRC_STAT_TRAINED &&& im.dram.chanMask
  (((List.range 8).filter (fun c => !natBit im.dram.chanMask c)).foldl (fun (z : State) c => z.setReg (Reg.DRC_CH_STAT c) 0) s).put
    Reg.DRC_STAT Fld.DRC_STAT_TRAINED trained

/-- Training stores one trained-value table per declared set point; what it holds is a free value (R256). -/
def State.trainedTables (s : State) (im : Image) (c : Nat) : State :=
  (List.range im.dram.spCodes.length).foldl (fun (z : State) i =>
    let q := z.takeFree
    { q.2 with drc := { q.2.drc with trained := q.2.drc.trained.filter (fun e => e.1 != (c, i)) ++ [((c, i), q.1)] } }) s

/-- Step 9's training leaves its results in the DRC block (R256); it runs once the DRAM section has passed R249. Set points a
failing channel had trained before are a free value. -/
def State.noteTraining (s : State) (im : Image) (train : List Nat) (f : Option AdmFail) : State :=
  let ran := match f with
    | none => true
    | some x => decide (9 < x.step) || (x.step == 9 && x.elem / 256 != 0x0F)
  if !ran then s
  else
    let all := 2 ^ im.dram.spCodes.length - 1
    (chanList im.dram.chanMask).foldl (fun (y : State) c =>
      let a := Reg.DRC_CH_STAT c
      let z := if train.getD c 0 = 0 then y.trainedTables im c else y
      let res := train.getD c 0
      let d := im.dram.density.getD c 0
      let q := z.takeFree
      let z1 := if res = 0 then z else q.2
      let sp := if res = 0 then all else q.1 % (all + 1)
      let w := (if res = 0 then 2 else 5) + res % 256 * 2 ^ 8 + d % 8 * 2 ^ 16 + d / 128 % 2 * 2 ^ 19 + sp * 2 ^ 20
      let z2 := z1.setNum a w
      if res = 0 then z2.put Reg.DRC_STAT Fld.DRC_STAT_TRAINED (z2.get Reg.DRC_STAT Fld.DRC_STAT_TRAINED ||| 2 ^ c) else z2)
      (s.powerDownOthers im)

/-! ### Image start -/

/-- FREQ and ENABLED of an island; BELOW_FLOOR clears, and the sticky FLOOR_EVENT stays (Table 2.15). -/
def State.setIslandClock (s : State) (island freq : Nat) (on : Bool) : State :=
  let a := Reg.GEN_ISL_CLK island
  s.setReg a (putField (putField (putField (s.reg a) 0 16 (freq % 65536)) 16 1 0) 18 1 (flag on))

/-- GEN_ISL_CLK of an image: an enabled island runs at its nominal frequency (log entry 59); what a chain port derives from its lane rate
is a free value, and the DRAM controller's clock is computed at a read (Table 2.15). -/
def State.setIslands (s : State) (im : Image) : State :=
  let s1 := (List.range 41).foldl (fun (z : State) i => z.setIslandClock i 0 false) s
  im.islands.foldl (fun (z : State) r =>
    if !r.enabled then z
    else if 33 < r.island ∧ r.island ≤ 37 then z.takeFree.2.setIslandClock r.island z.takeFree.1 true
    else z.setIslandClock r.island (r.nominalKhz / 100) true) s1

/-- Island SRAM as the INIT records leave it; the parameter store is not an island (chapter 2, R325). -/
def initSram (im : Image) : List Host.Cell :=
  im.inits.foldl (fun l r => if r.island = 0xFF then l else cellSetMany (fun _ => (0 : Byte)) l (r.island * 2 ^ 20 + r.offset) r.data) []

/-- The running image as the GEN registers show it, with its islands and INIT data (R45). -/
def State.loadImage (s : State) (im : Image) (slot : Nat) : State :=
  let role := match im.role with | .sender => 1 | .tile => 2
  let s1 := s.setNum Reg.GEN_IMG_STATE (2 + role * 8 + slot % 2 * 32)
  let s2 := ((s1.setReg Reg.GEN_IMG_ID_LO (loWord im.imageId)).setReg Reg.GEN_IMG_ID_HI (hiWord im.imageId)).setIslands im
  { s2 with gen := { s2.gen with running := some im }, tru := { s2.tru with siSlot := slot, sram := initSram im } }

/-- The express state of a sender's four chains (R136): kept for a chain that has one. -/
def expressOf (old : List ExpTx) (im : Image) : List ExpTx :=
  if im.role = .tile then []
  else (List.range 4).map (fun c => (old.find? (fun e => e.chain == c)).getD
    { chain := c, eseq := 0, want := 0, sentNow := false, inWindow := 0, older := [], behind := 0 })

/-- The frame lock enters WAIT_TIME under an image (Table 10.6). -/
def State.waitTime (s : State) (im : Image) : State := (s.setTimeline im.timeline).put Reg.FLK_STATE Fld.FLK_STATE_STATE 1

/-- A sender's chains begin bring-up; its ports C2 and C3 leave DOWN (R139, R144). -/
def State.startChains (s : State) (im : Image) (t : Nat) : State :=
  if im.role = .tile then s
  else
    let s1 := [2, 3].foldl (fun (z : State) p => if z.get (Reg.CHN_PORT_STAT p) Fld.CHN_PORT_STAT_STATE = 0 then z.put (Reg.CHN_PORT_STAT p) Fld.CHN_PORT_STAT_STATE 1 else z) s
    { s1 with chn := { s1.chn with bringUp := im.chains.map (fun c => (c.chain, t)) } }

/-- An image starts at boot: RUN, boot complete, WAIT_TIME (Tables 10.6 and 17.1, R7, R41). -/
def State.startImage (s : State) (im : Image) (slot t : Nat) : State :=
  let s1 := (s.loadImage im slot).freshParams im
  let s2 : State := { s1 with gen := { s1.gen with bootDone := true, bootAt := t }, chn := { s1.chn with exp := expressOf [] im }, red := { s1.red with firstRun := true } }
  let s3 := ((((s2.startDram im t).startCoding im t).startChains im t).setPower Ps.RUN).waitTime im
  let s4 := s3.checkMap im t
  if im.role = .tile then s4.startCopy else s4

/-- Boot goes on to the other image slot: where that names the other role, the objects are selected again for it (R236). -/
def State.reselectCal (s : State) (slot : Nat) : State :=
  if s.tileSlot slot = s.tileSlot (1 - slot) then s else s.selectCal (s.tileSlot (1 - slot))

/-- ADMISSION_COMPLETE of the boot image: it starts, or the other slot is admitted, or the ROM recovers (R323). -/
def State.bootAdmitted (s : State) (j : AdmJob) (train : List Nat) (t : Nat) : State :=
  let rd := s.slotByte 1 j.slot
  let f := admitBytes rd (s.admCtx j.slot train false)
  let im := readImage rd
  let s1 := (s.noteTraining im train f).admEnd false f
  let s2 := if f.any (fun x => x.step == 4) then s1.sigFailed else s1
  if f.isNone then
    let s3 : State := { s2 with tru := { s2.tru with siTrial := s2.tru.siTrial && j.slot == s2.tru.siSlot } }
    s3.startImage im j.slot t
  else if j.slot = s2.tru.siSlot then (s2.reselectCal j.slot).admStart { staged := false, slot := 1 - j.slot, token := 0 }
  else s2.enterRecovery

/-- ADMISSION_COMPLETE (R36, R37, R256, R257): `train` gives the training result of each channel, at boot; a staged
admission completes once its background work is done (R246). -/
def execAdmissionComplete (train : List Nat) (t : Nat) (s : State) : Host.Outcome State Fault Refusal :=
  let s0 := s.tick t
  match s0.gen.admission with
  | none => .next s0
  | some j =>
    if !j.staged then .next (s0.bootAdmitted j train t)
    else if s0.workLeft j.token then .next s0
    else
      let f := admitBytes (s0.slotByte 1 j.slot) (s0.admCtx j.slot [] true)
      let s1 := (s0.dropJob j.token).admEnd true f
      match f with
      | none => .next ({ s1 with gen := { s1.gen with admitted := some j.slot, rebootOnly := none } }.longEnd j.token St.OK 0 false)
      | some x =>
        let s2 := if x.step = 4 then s1.sigFailed else s1
        let only := x.step == 9 && (x.elem / 256 == 0x0D || x.elem / 256 == 0x0E)
        let s3 : State := { s2 with gen := { s2.gen with admitted := none, rebootOnly := if only then some j.slot else none } }
        .next (s3.longEnd j.token St.FAILED (s3.reg Reg.GEN_ADM_STATUS).toNat false)

/-! ### Activation (R324 to R328) -/

/-- The TRIAL slot an ACTIVATE would set for a type: the inactive slot, or in recovery the VERIFIED one (R329). -/
def State.trialSlot (s : State) (type : Nat) : Option Nat :=
  match s.runningSlot type with
  | some k => some (1 - k)
  | none => (s.tru.verified.find? (fun p => p.1 == type)).map (·.2)

/-- The inactive firmware slot is VERIFIED. -/
def State.fwVerified (s : State) : Bool := (s.trialSlot 0).any (fun k => s.tru.verified.contains (0, k))

/-- The inactive image slot may be activated: admitted, or with REBOOT failing only R257; in recovery VERIFIED (R324, R329). -/
def State.siReady (s : State) (reboot : Bool) : Bool :=
  (s.trialSlot 1).any (fun k =>
    if s.recovery then s.tru.verified.contains (1, k)
    else s.gen.admitted == some k || (reboot && s.gen.rebootOnly == some k))

/-- MIN_FIRMWARE of the image in a slot. -/
def State.minFirmwareOf (s : State) (k : Nat) : Nat := numAt (s.slotByte 1 k) 0x18 4

/-- Something runs that refuses an ACTIVATE with BUSY (R324, R352). -/
def State.activateBusy (s : State) : Bool :=
  s.cal.store.isSome || s.gen.admission.isSome || s.umb.entry.isSome || s.tru.activation.isSome || s.gen.activating ||
    (s.isSender && s.linkCode == 1) || s.longFull || s.flashStopped

/-- The new firmware does not meet the new image's MIN_FIRMWARE. -/
def State.firmwareTooOld (s : State) : Bool :=
  (s.trialSlot 0).any (fun f => (s.trialSlot 1).any (fun i => decide (s.fwVersionOf f < s.minFirmwareOf i)))

/-- The other sender is current: always so in a FORMED pair, else as its last HELLO says (R281, R290). -/
def State.partnerCurrent (s : State) : Bool := s.formed || (s.linkCode == 0 && s.red.hello.any (·.current))

/-- The first refusal of an ACTIVATE, in the order of R324, then R328 and TOO_LATE. -/
def State.activateRefused (s : State) (type : Nat) (reboot : Bool) (atWfn : Nat) : Option Nat :=
  if type ≠ 0 ∧ !s.siReady reboot then some St.NOT_ADMITTED
  else if type ≠ 1 ∧ !s.fwVerified then some St.NOT_VERIFIED
  else if type = 2 ∧ s.firmwareTooOld then some St.MIN_FIRMWARE
  else if s.activateBusy then some St.BUSY
  else if type = 0 ∧ s.isSender ∧ s.bit Reg.RED_STATE Fld.RED_STATE_IN_CONTROL ∧ s.partnerCurrent then some St.IN_CONTROL
  else match s.timeline? with
    | some tl => if atWfn ≠ 0 ∧ frameStart tl atWfn < s.now + 2 * msT then some St.TOO_LATE else none
    | none => none

/-- A descriptor entry with its TRIAL slot set. -/
def withTrial (e : BootEntry) (k : Nat) : BootEntry := { e with trial := some k, booted := false }

/-- ACTIVATE. -/
def doActivate (c : MboxCmd) (s : State) : State × Reply :=
  let type := byteAt c.body 0
  let reboot := byteAt c.body 1
  let atWfn := leAt c.body 4 6
  if 2 < type ∨ 1 < reboot then (s, Reply.of St.BAD_FIELD)
  else
    match s.activateRefused type (reboot == 1) atWfn with
    | some st => (s, Reply.of st)
    | none =>
      let fa := match s.timeline? with
        | some tl => Nat.max atWfn (frameFrom tl (s.now + 2 * msT))
        | none => 0
      let at_ := match s.timeline? with
        | some tl => frameStart tl fa
        | none => s.now
      let d := s.tru.desc
      let d1 : BootDesc := { d with
        fw := if type = 1 then d.fw else withTrial d.fw ((s.trialSlot 0).getD 0),
        si := if type = 0 then d.si else withTrial d.si ((s.trialSlot 1).getD 0) }
      let r := s.longStart 0x106 c type
      let s1 := r.1.writeDesc d1
      let a : Activation := { token := r.2.token, type := type, reboot := reboot == 1, wfn := fa, at_ := at_, before := d }
      let s2 : State := { s1 with tru := { s1.tru with activation := some a } }
      (s2.put Reg.TRU_BOOT Fld.TRU_BOOT_ACT 1, { r.2 with wfn := fa })

def execActivate (c : MboxCmd) (s : State) : Host.Outcome State Fault Refusal := .next (s.serve 0x106 c doActivate)

/-- ABORT of an ACTIVATE before its commit point: the descriptor returns to its previous generation (R324). -/
def State.abortActivate (s : State) (a : Activation) : State :=
  let s1 : State := { s with tru := { s.tru with activation := none, desc := a.before } }
  (s1.put Reg.TRU_BOOT Fld.TRU_BOOT_ACT 0).longEnd a.token St.ABORTED 0 true

/-- A tile keeps its pools over a structure activation only where the new record has the same shape (R325). -/
def keptPools (old : List SlotPool) (was now : Option ChainRec) (n : Nat) : Option (List SlotPool) :=
  match was, now with
  | some a, some b =>
    if a.width = b.width ∧ a.height = b.height ∧ a.poolDepth = b.poolDepth then
      some ((freshPools b n).map (fun p => (old.find? (fun q => q.slot == p.slot)).getD p))
    else none
  | _, _ => none

/-- Every surface is freed and every stream disabled (R325). -/
def State.freeSurfaces (s : State) : State :=
  let s1 := (List.range 16).foldl (fun (z : State) k => if z.streamOn k then z.streamStop k else z) s
  { s1 with cmp := { s1.cmp with surfaces := [], sets := [], prefills := [], windows := [], still := [] },
            ing := { s1.ing with streams := [] }, cdc := CdcSt.reset }

/-- The pulse units in FRAME mode find their next edge on the timeline now declared (R179, R186). -/
def State.retimePulses (s : State) : State :=
  { s with tim := { s.tim with pulses := s.tim.pulses.map (fun p =>
      if p.next.isSome && s.pulseMode p.unit == 2 then { p with next := s.edgeFrom p.unit (s.now + 1) } else p) } }

/-- A new image is loaded at the commit point of a structure activation. -/
def State.swapImage (s : State) (slot t : Nat) : State :=
  let im := readImage (s.slotByte 1 slot)
  let old := s.gen.running
  let pools := s.ccx.pools
  let e := s.emc
  let s1 := s.endRecompute.loadImage im slot
  let s2 := s1.freeSurfaces.startCoding im t
  let s3 : State := { s2 with
    sch := { s2.sch with instances := [], decrements := [], queueWords := [], early := [], pauses := [], chunks := [] },
    chn := { s2.chn with exp := expressOf s2.chn.exp im }, red := { s2.red with firstRun := true },
    drc := { s2.drc with ports := im.ports.map (fun r => freshPort r.port) },
    ccx := { s2.ccx with pools := if im.role = .tile then (keptPools pools (old.bind (·.chains.head?)) im.chains.head? im.timeline.nImage).getD s2.ccx.pools else [] },
    emc := { EmcSt.reset with inc := e.inc, gamma := e.gamma, fade := e.fade, target := e.target } }
  let s4 := if old.any (fun o => o.timeline.slots != im.timeline.slots) then s3.putBit Reg.FLK_STATE Fld.FLK_STATE_TIMELINE_CHG true else s3
  let s5 := s4.retimePulses.checkMap im t
  if im.role = .tile then s5.startCopy else s5

/-- The load of a committed activation (R325): the frame lock stopped, firmware and image loaded, a new run awaited while a tile
replays. -/
def State.loadActivation (s3 : State) (a : Activation) (t : Nat) : State :=
  let fw := (s3.trialSlot 0).getD 0
  let si := (s3.trialSlot 1).getD 0
  let d := s3.tru.desc
  let s4 := s3.writeDesc { d with fw := if a.type = 1 then d.fw else { d.fw with booted := true }, si := if a.type = 0 then d.si else { d.si with booted := true } }
  let s5 : State := if a.type = 1 then s4 else { s4 with tru := { s4.tru with fwVersion := s4.fwVersionOf fw, fwSlot := fw, fwTrial := true, verified := s4.tru.verified.filter (fun p => p.1 != 0) } }
  let s6 : State := if a.type = 0 then s5
    else { s5 with tru := { s5.tru with siTrial := true, verified := s5.tru.verified.filter (fun p => p.1 != 1) }, gen := { s5.gen with admitted := none, rebootOnly := none } }.swapImage si t
  match s6.gen.running with
  | none => s6
  | some im =>
    let s7 : State := { s6.carryParams im with gen := { (s6.carryParams im).gen with activating := true, loadDue := false, pendingParams := [] } }
    (((s7.waitTime im).put Reg.GEN_IMG_STATE Fld.GEN_IMG_STATE_STATE 3).put Reg.TRU_BOOT Fld.TRU_BOOT_ACT 2).lampPower t

/-- The commit of an activation without REBOOT (R325, R326): the instances are shed, the frame lock stops, and the load follows the
operations still running. -/
def State.commitActivation (s : State) (a : Activation) (t : Nat) : State :=
  let s1 := s.shedAll t
  let s2 := if s1.isSender && s1.agreed then s1.sendLeave 2 else s1
  let s3 : State := if s2.isTile then { s2 with lmp := { s2.lmp with replaying := s2.lmp.replaying.orElse (fun _ => s2.timeline?), write := none } } else s2
  if s3.anyIssued then
    let s4 : State := { s3 with gen := { s3.gen with activating := true, loadDue := true } }
    ((s4.put Reg.GEN_IMG_STATE Fld.GEN_IMG_STATE_STATE 3).put Reg.FLK_STATE Fld.FLK_STATE_STATE 0).put Reg.FLK_STATE Fld.FLK_STATE_N_IMAGE 0
  else s3.loadActivation a t

/-- ACTIVATE_COMMIT: the commit point; with REBOOT, or in recovery, a core reset into the TRIAL slot (R324, R329). -/
def execActivateCommit (t : Nat) (s : State) : Host.Outcome State Fault Refusal :=
  let s0 := s.tick t
  match s0.tru.activation with
  | none => .next s0
  | some a =>
    if s0.gen.activating ∨ t < a.at_ then .next s0
    else if a.reboot ∨ s0.recovery then .next (s0.coreReset 5)
    else .next (s0.commitActivation a t)

/-- The new image runs: the activation completes (Table 18.8). -/
def State.activationDone (s : State) : State :=
  match s.tru.activation with
  | none => s
  | some a =>
    if !s.gen.activating || s.gen.loadDue then s
    else
      let s1 : State := { s with gen := { s.gen with activating := false }, tru := { s.tru with activation := none } }
      ((s1.put Reg.GEN_IMG_STATE Fld.GEN_IMG_STATE_STATE 2).put Reg.TRU_BOOT Fld.TRU_BOOT_ACT 3).longEnd a.token St.OK 0 false

/-! ### Confirmation (R323) -/

/-- The floor of a type after confirmation: the slot's SECURITY_VERSION, capped at 128; it never falls. -/
def raisedFloor (floor version : Nat) : Nat := Nat.max floor (Nat.min version 128)

/-- A TRIAL slot that has been booted becomes RUNNING. -/
def State.confirmType (s : State) (type : Nat) : State :=
  let d := s.tru.desc
  if type = 0 then
    let s1 := s.writeDesc { d with fw := { running := s.tru.fwSlot, trial := none, booted := false } }
    { s1 with tru := { s1.tru with fwTrial := false, fwFloor := raisedFloor s.tru.fwFloor (slotSecurity (s.slotByte 0 s.tru.fwSlot)) } }
  else
    let s1 := s.writeDesc { d with si := { running := s.tru.siSlot, trial := none, booted := false } }
    { s1 with tru := { s1.tru with siTrial := false, siFloor := raisedFloor s.tru.siFloor ((s.image?.map (·.securityVersion)).getD 0) } }

/-- CONFIRM; TYPE 2 names both. -/
def doConfirm (c : MboxCmd) (s : State) : State × Reply :=
  let type := byteAt c.body 0
  if 2 < type then (s, Reply.of St.BAD_FIELD)
  else if s.flashStopped then (s, Reply.of St.BUSY)
  else if (type ≠ 1 ∧ !s.tru.fwTrial) ∨ (type ≠ 0 ∧ !s.tru.siTrial) ∨ s.gen.activating then (s, Reply.of St.BAD_STATE)
  else
    let s1 := if type = 1 then s else s.confirmType 0
    (if type = 0 then s1 else s1.confirmType 1, Reply.of St.OK)

def execConfirm (c : MboxCmd) (s : State) : Host.Outcome State Fault Refusal := .next (s.serve 0x107 c doConfirm)

/-- CONFIRM_TIMEOUT: the run has lasted CONFIRM_S seconds; 0 disables it. -/
def execConfirmTimeout (t : Nat) (s : State) : Host.Outcome State Fault Refusal :=
  let s0 := s.tick t
  let n := (s0.reg Reg.TRU_CONFIRM_S).toNat
  if n = 0 ∨ !s0.runs ∨ t < s0.tru.runSince + n * secT ∨ s0.gen.activating ∨ s0.flashStopped then .next s0
  else
    let s1 := if s0.tru.fwTrial then s0.confirmType 0 else s0
    .next (if s1.tru.siTrial then s1.confirmType 1 else s1)

end Sys2Proof.Machine
end

