-- ==== Sys2Proof/Machine/Umbra.lean ====
section
/-! DEFINITION. Umbra: power states, dark standby, wake events, the power-fail warning, resets, and the guard with its restart and
lockout (R271 to R276, R298 to R312, R395). -/
namespace Sys2Proof.Machine

/-! ### Dark standby (R299 to R301) -/

/-- The channels of the running image. -/
def State.channels (s : State) : List Nat := chanList ((s.dramRec?.map (·.chanMask)).getD 0)

/-- The PCIe link enters or leaves L1. -/
def State.pcieL1 (s : State) (on : Bool) : State := { s with ing := { s.ing with pcie := { s.ing.pcie with l1 := on } } }

/-- The Ethernet ports lose their links, and the PCIe link stays in L1 (R299). -/
def State.etherDown (s : State) : State :=
  ((List.range 4).foldl (fun (z : State) p => z.setReg (Reg.ING_PORT_STAT p) 0) s).pcieL1 true

/-- The rest of the entry, once no operation runs (R56, R299): every channel in self-refresh, wall time copied into Umbra's count, the
frame lock stopped. -/
def State.standbyRest (s : State) (t : Nat) : State :=
  let s1 := s.channels.foldl (fun (z : State) c => z.enterSelfRefresh c t) s
  let s2 : State := { s1 with umb := { s1.umb with skew := 0, draining := false } }
  ((s2.put Reg.FLK_STATE Fld.FLK_STATE_STATE 0).put Reg.FLK_STATE Fld.FLK_STATE_N_IMAGE 0).lampPower t

/-- STANDBY_ENTRY at a frame boundary (R299): outputs to the state of R2, instances shed; the rest follows the operations still
running. -/
def State.standbyEntry (s : State) (t : Nat) : State :=
  if s.umb.entry.isNone ∨ s.pstate ≠ Ps.RUN then s
  else
    let s1 := s.setPower Ps.ENTERING
    let s2 := if s1.isSender then s1.etherDown.applyFlag else s1.setBlank 5 true t
    let s3 := (((s2.setBlank 4 true t).lampPower t).shedAll t)
    if s3.anyIssued then { s3 with umb := { s3.umb with draining := true } } else s3.standbyRest t

/-- OPERATION_COMPLETE (R49); the last operation of instances shed as a whole lets the step that waits for it follow (R56). -/
def execOperationComplete (d : OpDone) (s : State) : Host.Outcome State Fault Refusal :=
  let s1 := s.completeOp d
  if s1.anyIssued then .next s1
  else if s1.umb.draining then .next (s1.standbyRest d.t)
  else match s1.tru.activation with
    | some a => .next (if s1.gen.loadDue then s1.loadActivation a d.t else s1)
    | none => .next s1

/-- A new run awaits its start after an abandoned entry or a wake: channels out of self-refresh, WAIT_TIME (R300, R301). -/
def State.resumeRun (s : State) (t : Nat) : State :=
  match s.gen.running with
  | none => s
  | some im =>
    let s1 := s.channels.foldl (fun (z : State) c => z.leaveSelfRefresh c t) s
    (((s1.setPower Ps.RUN).pcieL1 false).waitTime im).lampPower t

/-- An entry not yet past the gate point is abandoned: STANDBY ends ABORTED (R300). -/
def State.abandonEntry (s : State) (t : Nat) : State :=
  match s.umb.entry with
  | none => s
  | some tok =>
    let s1 : State := { s with umb := { s.umb with entry := none, draining := false } }
    (if s1.pstate = Ps.ENTERING then s1.resumeRun t else s1).longEnd tok St.ABORTED 0 true

/-- STANDBY (R281, R299). -/
def doStandby (c : MboxCmd) (s : State) : State × Reply :=
  if s.pstate ≠ Ps.RUN then (s, Reply.of St.BAD_STATE)
  else if s.cal.store.isSome ∨ s.gen.admission.isSome ∨ s.tru.activation.isSome ∨ s.gen.activating ∨ (s.isSender ∧ s.linkCode = 1) ∨ s.umb.entry.isSome ∨ s.longFull then (s, Reply.of St.BUSY)
  else
    let r := s.longStart 0x401 c 0
    let s1 : State := { r.1 with umb := { r.1.umb with entry := some r.2.token } }
    (if s1.isSender then s1.sendLeave 5 else s1, r.2)

def execStandby (c : MboxCmd) (s : State) : Host.Outcome State Fault Refusal := .next (s.serve 0x401 c doStandby)

/-- Islands Umbra gates in dark standby: facets, codec, lamp drive, chain coding. -/
def gatedIsland (i : Nat) : Bool := decide (i < 32) || i == 32 || i == 38 || i == 40

/-- GATE_POINT: entry completes in DARK_STANDBY (R299). -/
def execGatePoint (t : Nat) (s : State) : Host.Outcome State Fault Refusal :=
  let s0 := s.tick t
  match s0.umb.entry with
  | none => .next s0
  | some tok =>
    if s0.pstate ≠ Ps.ENTERING ∨ s0.umb.draining then .next s0
    else
      let s1 := (List.range 41).foldl (fun (z : State) i => if gatedIsland i then z.put (Reg.GEN_ISL_CLK i) Fld.GEN_ISL_CLK_FREQ 0 else z) s0
      let s2 : State := { s1.setPower Ps.DARK with umb := { s1.umb with entry := none }, sch := { s1.sch with instances := [], decrements := [], queueWords := [], early := [], chunks := [], pauses := [] } }
      .next (s2.longEnd tok St.OK 0 false)

/-- WAKE_COMPLETE (R301): channels out of self-refresh at SP_BOOT, wall time from Umbra's count in FREE, WAIT_TIME. -/
def execWakeComplete (t : Nat) (s : State) : Host.Outcome State Fault Refusal :=
  let s0 := s.tick t
  match s0.gen.running with
  | none => .next s0
  | some im =>
    if s0.pstate ≠ Ps.WAKING then .next s0
    else
      let s1 := (s0.loadWallTime.setTime 0).setIslands im
      let s2 : State := { s1 with tim := { s1.tim with e := none, started := false, offsets := [], exchanges := [], good := 0, bad := 0, yp := 0, step := none } }
      .next ((s2.put Reg.DRC_STAT Fld.DRC_STAT_SP_ACTIVE im.dram.spBoot).resumeRun t)

/-! ### Wake events (R300, R303) -/

/-- A wake event that sets bit `n` of UMB_WAKE_SRC, in a state where it is one. -/
def State.wakeEvent (s : State) (n t : Nat) : State :=
  let p := s.pstate
  let s1 := s.setReg Reg.UMB_WAKE_SRC (s.reg Reg.UMB_WAKE_SRC ||| BitVec.ofNat 32 (2 ^ n))
  if p = Ps.DARK then s1.setPower Ps.WAKING
  else if p = Ps.UMBRA then
    if s.bit Reg.UMB_STATE Fld.UMB_STATE_LOCKOUT ∨ !s.umb.powered then s1
    else { s1 with umb := { s1.umb with tries := 0, startDue := false } }.requestPower 6 t
  else if s.umb.entry.isSome then s1.abandonEntry t
  else s

/-- WAKE. -/
def doWake (_ : MboxCmd) (s : State) : State × Reply := (s.wakeEvent 6 s.now, Reply.of St.OK)

def execWake (c : MboxCmd) (s : State) : Host.Outcome State Fault Refusal := .next (s.serve 0x402 c doWake)

/-- A write of WAKE: from any path in DARK_STANDBY, over SPI alone in UMBRA_ONLY. -/
def State.wakeWrite (s : State) (p : Path) : State :=
  if s.pstate = Ps.UMBRA ∧ p ≠ .spi then s else s.wakeEvent 5 s.now

/-- WAKE_PIN: an enabled input has been for 1 ms at the level UMB_WAKE_CFG makes its active one (R303). -/
def execWakePin (pin : Nat) (x : WakeLevel) (s : State) : Host.Outcome State Fault Refusal :=
  let s0 := s.tick x.t
  if pin < 4 ∧ bitOf (s0.reg Reg.UMB_WAKE_CFG) pin ∧ bitOf (s0.reg Reg.UMB_WAKE_CFG) (4 + pin) = x.high then .next (s0.wakeEvent pin x.t) else .next s0

/-- The second UMB_ALARM holds. -/
def State.alarmSecond (s : State) : Nat := (s.reg Reg.UMB_ALARM_S_LO).toNat + (s.reg Reg.UMB_ALARM_S_HI).toNat % 65536 * 2 ^ 32

/-- ALARM: Umbra's count has reached the second of UMB_ALARM (R302). -/
def execAlarm (t : Nat) (s : State) : Host.Outcome State Fault Refusal :=
  let s0 := s.tick t
  if s0.bit Reg.UMB_CTRL Fld.UMB_CTRL_ALARM_EN ∧ s0.umbraCount / secT = s0.alarmSecond then .next (s0.wakeEvent 4 t) else .next s0

/-! ### Loss of core power (R237, R305 to R309) -/

/-- A page cut part-way: bits not yet programmed stay erased, which ones is a free value (R237). -/
def State.cutPage (s : State) : State :=
  match s.cal.store with
  | none => s
  | some x =>
    let base := slotBase x.object x.slot
    let place := match x.phase with
      | .programming k => some (base + 256 * k, pageOf x.body k)
      | .commit => some (commitPage x.object x.slot, commitRecord x.object x.slot x.generation x.length x.crc (s.now / secT) identity)
      | _ => none
    match place with
    | none => s
    | some (a, bs) =>
      let f := s.takeFree
      let cut := (bs.zip (leBytes bs.length f.1)).map (fun p => p.1 ||| p.2)
      { f.2.flashProgram a cut with cal := { f.2.cal with store := none } }

/-- CORE_PWR_REQ drops once the stop stands and no page program is in progress, or at once where the grant is over. -/
def State.dropIfDue (s : State) (t : Nat) : State :=
  match s.umb.stopAt with
  | none => s
  | some u =>
    if !s.umb.coreReq then { s with umb := { s.umb with stopAt := none, dropNow := false } }
    else if !s.storeProgramming then s.dropPower
    else if s.umb.dropNow ∨ u + 4 * msT ≤ t then s.cutPage.dropPower
    else s

/-- UMB_HALT_INFO and the WFN of a halt: 1 + g for pair g, 3 for power fail; bit 2 when the other cause's stop stands. -/
def State.recordHalt (s : State) (code : Nat) (both : Bool) : State :=
  let w := s.wfnNow
  ((s.setNum Reg.UMB_HALT_INFO (code + flag both * 4)).setReg Reg.UMB_HALT_WFN_LO (loWord w)).setNum Reg.UMB_HALT_WFN_HI (w / 2 ^ 32 % 65536)

/-- A sender about to lose its core leaves its pair (Table 16.1a). -/
def State.shutdownLeave (s : State) : State := if s.isSender then s.sendLeave 6 else s

/-- A power-fail warning (R305); one in DARK_STANDBY drops power at once. -/
def State.warn (s : State) (t : Nat) : State :=
  let thermal := s.umb.stopAt.isSome && fieldOf (s.reg Reg.UMB_HALT_INFO) 0 2 != 3
  let s1 := ((s.putBit Reg.UMB_STATE Fld.UMB_STATE_PF_EVT true).bump Reg.UMB_PF_CNT 1).recordHalt 3 thermal
  let s2 := if s1.umb.coreOut then s1.event 7 else s1
  if !s2.umb.coreReq then s2
  else
    let s3 := s2.shutdownLeave.issueStop t
    let low := s3.bit Reg.UMB_STATE Fld.UMB_STATE_PF_WARN
    let s4 : State := { s3 with umb := { s3.umb with warned := true, pfAbove := if low then none else some t } }
    (s4.lampPower t).dropIfDue t

/-- PF_WARNING: PF_SENSE falls below its threshold; a dip shorter than 2 µs is rejected (R305). -/
def execPfWarning (e : PinEdge) (s : State) : Host.Outcome State Fault Refusal :=
  let s0 := s.tick e.t
  if e.holds < 2 * usT ∨ s0.bit Reg.UMB_STATE Fld.UMB_STATE_PF_WARN then .next s0
  else .next (({ s0.putBit Reg.UMB_STATE Fld.UMB_STATE_PF_WARN true with umb := { s0.umb with pfAbove := none } }).warn e.t)

/-- PF_SENSE_RISE: PF_SENSE rises above 1.020 V. -/
def execPfSenseRise (t : Nat) (s : State) : Host.Outcome State Fault Refusal :=
  let s0 := s.tick t
  if !s0.bit Reg.UMB_STATE Fld.UMB_STATE_PF_WARN then .next s0
  else .next { s0.putBit Reg.UMB_STATE Fld.UMB_STATE_PF_WARN false with umb := { s0.umb with pfAbove := some t } }

/-- PF_RESTART (R307). -/
def execPfRestart (t : Nat) (s : State) : Host.Outcome State Fault Refusal :=
  let s0 := s.tick t
  let long := s0.umb.pfAbove.any (fun u => decide (u + 100 * msT ≤ t))
  if s0.umb.warned ∧ long ∧ s0.bit Reg.UMB_CTRL Fld.UMB_CTRL_AUTO_RESTART ∧ !s0.bit Reg.UMB_STATE Fld.UMB_STATE_LOCKOUT ∧ s0.pstate = Ps.UMBRA ∧ !s0.umb.coreReq then
    .next ({ s0 with umb := { s0.umb with tries := 0 } }.requestPower 3 t)
  else .next s0

/-- CORE_POWER_DROP: the stop's grant ends. -/
def execCorePowerDrop (t : Nat) (s : State) : Host.Outcome State Fault Refusal := .next ((s.tick t).dropIfDue t)

/-- CORE_PG_RISE. -/
def execCorePgRise (t : Nat) (s : State) : Host.Outcome State Fault Refusal :=
  let s0 := s.tick t
  if s0.umb.coreReq ∧ s0.umb.corePg.isNone then .next { s0 with umb := { s0.umb with corePg := some t } } else .next s0

/-- CORE_PG_TIMEOUT: CORE_PG is not high within 50 ms of CORE_PWR_REQ; after 3 failed tries Umbra waits for a wake event (R308). -/
def execCorePgTimeout (t : Nat) (s : State) : Host.Outcome State Fault Refusal :=
  let s0 := s.tick t
  if !s0.umb.coreReq ∨ s0.umb.corePg.isSome ∨ t < s0.umb.reqAt + 50 * msT then .next s0
  else
    let n := s0.umb.tries + 1
    let s1 := s0.putBit Reg.UMB_STATE Fld.UMB_STATE_PWR_FAULT true
    .next ({ s1 with umb := { s1.umb with coreReq := false, tries := n, retryAt := if n < 3 then some (t + secT) else none } }.emit (.corePower false))

/-- POWER_RETRY: 1 s after a failed try. -/
def execPowerRetry (t : Nat) (s : State) : Host.Outcome State Fault Refusal :=
  let s0 := s.tick t
  if s0.umb.retryAt.any (fun r => decide (r ≤ t)) ∧ !s0.umb.coreReq then .next (s0.requestPower s0.umb.cause t) else .next s0

/-- CORE_PG_FALL while CORE_PWR_REQ is high: PWR_FAULT, and as a power-fail warning (R309). -/
def execCorePgFall (t : Nat) (s : State) : Host.Outcome State Fault Refusal :=
  let s0 := s.tick t
  if !s0.umb.coreReq ∨ s0.umb.corePg.isNone then .next s0
  else
    let s1 := s0.putBit Reg.UMB_STATE Fld.UMB_STATE_PWR_FAULT true
    .next ({ s1 with umb := { s1.umb with corePg := none } }.warn t)

/-! ### Resets and commands (R310) -/

/-- The core can be reset: it has power. -/
def State.coreLive (s : State) : Bool := s.umb.coreReq && s.umb.corePg.isSome

/-- RESET_N held low for 1 µs. -/
def execResetN (t : Nat) (s : State) : Host.Outcome State Fault Refusal :=
  let s0 := s.tick t
  if s0.coreLive then .next (s0.coreReset 1) else .next s0

/-- WATCHDOG_EXPIRY: 2 s without service of the firmware watchdog. -/
def execWatchdogExpiry (t : Nat) (s : State) : Host.Outcome State Fault Refusal :=
  let s0 := s.tick t
  if s0.coreLive ∧ s0.umb.coreOut then .next (s0.coreReset 4) else .next s0

/-- RESET and POWER_DOWN are answered OK first. -/
def doReset (_ : MboxCmd) (s : State) : State × Reply :=
  ({ s.shutdownLeave with umb := { s.umb with resetDue := true } }, Reply.of St.OK)
def doPowerDown (_ : MboxCmd) (s : State) : State × Reply :=
  ({ s.shutdownLeave with umb := { s.umb with downDue := true } }, Reply.of St.OK)

/-- What a command answered OK leaves to do: the core reset of RESET, or the drop of POWER_DOWN. -/
def State.afterAnswer (s : State) : State :=
  if s.umb.downDue then s.dropPower else if s.umb.resetDue then s.coreReset 5 else s

def execReset (c : MboxCmd) (s : State) : Host.Outcome State Fault Refusal := .next (s.serve 4 c doReset).afterAnswer
def execPowerDown (c : MboxCmd) (s : State) : Host.Outcome State Fault Refusal := .next (s.serve 0x403 c doPowerDown).afterAnswer

/-! ### Umbra's supply and clock (R298, R302, R395) -/

/-- Everything of the chip but the meter, the flash and the fuses, as after Umbra lost its supply. -/
def State.loseUmbra (s : State) (on : Bool) (t : Nat) : State :=
  let s1 := s.clearCore true
  { s1 with regs := s1.regs.filter (fun c => inRange c.1 0x120000 0x12FFFF), thm := ThmSt.reset,
            umb := { UmbSt.reset with powered := on, powerOnAt := t, startDue := on, skew := -(s.now : Int) },
            met := { s1.met with retained := s1.met.retained && on } }

/-- UMBRA_POWER_ON: group 1 comes into range; Umbra's state is lost (R275, R395). -/
def execUmbraPowerOn (t : Nat) (s : State) : Host.Outcome State Fault Refusal :=
  let s0 := s.tick t
  if s0.umb.powered then .next s0 else .next (s0.loseUmbra true t)

/-- UMBRA_SUPPLY_LOSS: OFF; a page program in progress is cut. -/
def execUmbraSupplyLoss (t : Nat) (s : State) : Host.Outcome State Fault Refusal :=
  let s0 := s.tick t
  if !s0.umb.powered then .next s0 else .next (s0.cutPage.loseUmbra false t)

/-- POWER_ON_START: 10 ms after group 1 came into range (R395). -/
def execPowerOnStart (t : Nat) (s : State) : Host.Outcome State Fault Refusal :=
  let s0 := s.tick t
  if !s0.umb.powered ∨ !s0.umb.startDue ∨ t < s0.umb.powerOnAt + 10 * msT then .next s0
  else
    let s1 := s0.setReg Reg.UMB_RESET_CAUSE (s0.reg Reg.UMB_RESET_CAUSE ||| 1#32)
    .next ({ s1 with umb := { s1.umb with startDue := false } }.requestPower 0 t)

/-- TCXO_STOP: stopped for 10 µs; a sender in HOLDOVER leaves it (R302). -/
def execTcxoStop (t : Nat) (s : State) : Host.Outcome State Fault Refusal :=
  let s1 := (s.tick t).putBit Reg.UMB_STATE Fld.UMB_STATE_TCXO_OK false
  if s1.isSender ∧ s1.timeState = 3 then .next (s1.setTime 4) else .next s1

/-- TCXO_RESUME. -/
def execTcxoResume (t : Nat) (s : State) : Host.Outcome State Fault Refusal :=
  .next ((s.tick t).putBit Reg.UMB_STATE Fld.UMB_STATE_TCXO_OK (s.umb.powered))

/-- UMBRA_REALIGN: once per second while the core runs (R178). -/
def execUmbraRealign (t : Nat) (s : State) : Host.Outcome State Fault Refusal :=
  let s0 := s.tick t
  if s0.umb.coreOut ∧ s0.pstate = Ps.RUN then .next { s0 with umb := { s0.umb with skew := 0 } } else .next s0

/-- A read of UMB_RTC_S_LO latches the count for its path (R312, R345). -/
def State.latchRtc (s : State) (p : Path) : State :=
  { s with umb := { s.umb with latched := (p, s.umbraCount) :: s.umb.latched.filter (fun x => x.1 != p) } }
def State.rtcLatched (s : State) (p : Path) : Nat := ((s.umb.latched.find? (fun x => x.1 == p)).map (·.2)).getD 0

/-! ### Guard (R271 to R276) -/

/-- The pair of a guard input, and whether it returns by itself. -/
def guardPairOf (i : Nat) : Nat := if 16 ≤ i then 0 else 1

/-- One guard input's conversion: failures latch with their first cause; an input of G0 returns by itself after 16 good conversions,
one of G1 through RECHECK (R266, R271, R274). -/
def State.convertGuard (s : State) (c : GuardConv) (g : GuardInput) : GuardInput :=
  let mode := if 16 ≤ g.input then 1 else s.tempMode g.input
  let conv := c.convs.find? (fun x => x.input == g.input)
  let m : Option (Option Nat × Option Int) :=
    if mode = 0 then some (some Cause.OPEN, none)
    else conv.map (fun x => s.measure mode (s.tempLimits g.input) g.history (100 * usT) c.t x)
  match m with
  | none => g
  | some r =>
    let h := pushReading g.history c.t r.2
    match g.fail, r.1 with
    | none, some k => { g with fail := some k, value := none, history := h, rechecking := false, clean := 0 }
    | none, none => { g with value := r.2, history := h }
    | some _, some _ => { g with history := h, clean := 0 }
    | some _, none =>
      let n := if 16 ≤ g.input || g.rechecking then g.clean + 1 else 0
      if 16 ≤ n then { g with fail := none, value := r.2, history := h, rechecking := false, clean := 0 }
      else { g with history := h, clean := n }

/-- Inputs of a pair. -/
def State.guardInputs (s : State) (p : Nat) : List GuardInput := s.thm.guards.filter (fun g => guardPairOf g.input == p)

/-- A pair's temperature: the higher of its valid inputs. -/
def State.pairTemp (s : State) (p : Nat) : Option Int :=
  (s.guardInputs p).foldl (fun a g => match a, g.value with
    | none, v => v
    | some x, some y => some (max x y)
    | some x, none => some x) none

/-- Both inputs of a pair are failed. -/
def State.pairFailed (s : State) (p : Nat) : Bool := (s.guardInputs p).all (fun g => g.fail.isSome)

/-- T_BLANK and T_HALT of a pair. -/
def State.guardLimits (s : State) (p : Nat) : Int × Int :=
  let w := s.reg (Reg.THM_GUARD_T p)
  (signedOf 16 (fieldOf w 0 16), signedOf 16 (fieldOf w 16 16))

/-- A pair's comparators at a conversion (R271 to R273): the pair after it, a halt, and the drop at T_HALT + 5 °C. A pair that stays
at T_HALT halts once, and again where a wake event has powered the core. -/
def State.comparePair (s : State) (t : Nat) (g : GuardPair) : GuardPair × Bool × Bool :=
  match s.pairTemp g.pair with
  | none => ({ g with atBlank := false, atHalt := false, atDrop := false, belowSince := none, halted := false }, false, false)
  | some th =>
    let l := s.guardLimits g.pair
    let b := decide (l.1 ≤ th)
    let h := decide (l.2 ≤ th)
    let d := decide (l.2 + 80 ≤ th)
    let reached := g.reached || (b && g.atBlank)
    let below := if reached && decide (th < l.1 - 80) then g.belowSince.orElse (fun _ => some t) else none
    let halt := h && g.atHalt
    let due := halt && (!g.halted || (s.umb.coreReq && s.umb.stopAt.isNone))
    ({ g with atBlank := b, atHalt := h, atDrop := d, reached := reached, belowSince := below, halted := halt }, due, d && g.atDrop)

/-- Blank source 2 and LAMP_PWR_EN follow T_BLANK and BLANK_ONLY (R272, R274). -/
def State.syncGuard (s : State) (t : Nat) : State :=
  let hot := s.thm.pairs.any (·.reached)
  let only := s.pairFailed 0 || s.pairFailed 1
  let pair := ((s.thm.pairs.filter (·.atBlank)).map (fun g => 2 ^ g.pair)).sum
  let bad := (([16, 17, 14, 15] : List Nat).zipIdx.map (fun p => if s.thm.guards.any (fun g => g.input == p.1 && g.fail.isSome) then 2 ^ p.2 else 0)).sum
  let rise := hot && !s.bit Reg.THM_STATE Fld.THM_STATE_T_BLANK
  let s1 := ((s.putBit Reg.THM_STATE Fld.THM_STATE_T_BLANK hot).putBit Reg.THM_STATE Fld.THM_STATE_BLANK_ONLY only).put Reg.THM_STATE Fld.THM_STATE_PAIR pair
  let s2 := s1.put Reg.THM_STATE Fld.THM_STATE_GUARD_FAIL bad
  let s3 := if rise && s2.umb.coreOut then s2.event 7 else s2
  (s3.setBlank 2 (hot || only) t).lampPower t

/-- Restarts stamped within the 24 h before now, on Umbra's count. -/
def State.recentStamps (s : State) : Nat := (s.thm.stamps.filter (fun x => decide (s.umbraCount < x + 86400 * secT))).length

/-- THERMAL_HALT of a pair (R273, R275, R276). -/
def State.thermalHalt (s : State) (pair t : Nat) : State :=
  let pf := s.umb.stopAt.isSome && fieldOf (s.reg Reg.UMB_HALT_INFO) 0 2 == 3
  let lock := decide (5 ≤ s.recentStamps)
  let s1 := s.recordHalt (1 + pair) pf
  let s2 : State := { s1 with thm := { s1.thm with halts := s1.thm.halts + 1, waiting := true, coolSince := none } }
  let s3 := if lock && !s2.bit Reg.UMB_STATE Fld.UMB_STATE_LOCKOUT then
      let a := s2.putBit Reg.UMB_STATE Fld.UMB_STATE_LOCKOUT true
      if a.umb.coreOut then a.event 7 else a
    else s2
  if !s3.umb.coreReq then s3 else ((s3.shutdownLeave.issueStop t).lampPower t).dropIfDue t

/-- The restart timer: every valid guard input below T_HALT - RESTART_HYST (R275). -/
def State.coolCheck (s : State) (t : Nat) : State :=
  let hyst : Int := ((16 * fieldOf (s.reg Reg.THM_RESTART) 0 8 : Nat) : Int)
  let cool := s.thm.guards.all (fun g => match g.value with
    | none => true
    | some v => decide (v < (s.guardLimits (guardPairOf g.input)).2 - hyst))
  { s with thm := { s.thm with coolSince := if s.thm.waiting && cool then s.thm.coolSince.orElse (fun _ => some t) else none } }

/-- GUARD_CONVERSION (R271 to R276, R373). -/
def execGuardConversion (c : GuardConv) (s : State) : Host.Outcome State Fault Refusal :=
  let s0 := s.tick c.t
  if !s0.umb.powered then .next s0
  else
    let s1 : State := { s0 with thm := { s0.thm with guards := s0.thm.guards.map (s0.convertGuard c) } }
    let r := s1.thm.pairs.map (s1.comparePair c.t)
    let s2 := ({ s1 with thm := { s1.thm with pairs := r.map (·.1) } } : State).syncGuard c.t
    let s3 := r.foldl (fun (z : State) p => if p.2.1 then z.thermalHalt p.1.pair c.t else z) s2
    let drop := r.any (fun p => p.2.2)
    let s4 : State := if drop && s3.umb.stopAt.isSome then { s3 with umb := { s3.umb with dropNow := true } } else s3
    .next ((s4.dropIfDue c.t).coolCheck c.t)

/-- BLANK_RELEASE: every pair that reached T_BLANK has stayed below T_BLANK - 5 °C for 1 s (R272). -/
def execBlankRelease (t : Nat) (s : State) : Host.Outcome State Fault Refusal :=
  let s0 := s.tick t
  let ok := s0.thm.pairs.all (fun g => !g.reached || g.belowSince.any (fun u => decide (u + secT ≤ t)))
  if !ok ∨ !s0.thm.pairs.any (·.reached) then .next s0
  else
    let s1 : State := { s0 with thm := { s0.thm with pairs := s0.thm.pairs.map (fun g => { g with reached := false, belowSince := none }) } }
    .next (s1.syncGuard t)

/-- THERMAL_RESTART: cool for RESTART_S seconds, and no LOCKOUT; stamped (R275). -/
def execThermalRestart (t : Nat) (s : State) : Host.Outcome State Fault Refusal :=
  let s0 := s.tick t
  let n := fieldOf (s0.reg Reg.THM_RESTART) 8 16
  let long := s0.thm.coolSince.any (fun u => decide (u + n * secT ≤ t))
  if !s0.thm.waiting ∨ !long ∨ s0.bit Reg.UMB_STATE Fld.UMB_STATE_LOCKOUT then .next s0
  else
    let s1 : State := { s0 with thm := { s0.thm with waiting := false, coolSince := none } }
    if s1.umb.coreReq then .next s1
    else .next (({ s1 with thm := { s1.thm with stamps := s1.thm.stamps ++ [s1.umbraCount], restarted := true }, umb := { s1.umb with tries := 0 } } : State).requestPower 2 t)

/-- THERMAL_UNLOCK: the stamps and LOCKOUT clear, and the restart condition applies afresh (R275). -/
def doThermalUnlock (_ : MboxCmd) (s : State) : State × Reply :=
  ({ s.putBit Reg.UMB_STATE Fld.UMB_STATE_LOCKOUT false with thm := { s.thm with stamps := [], coolSince := none } }, Reply.of St.OK)

def execThermalUnlock (c : MboxCmd) (s : State) : Host.Outcome State Fault Refusal := .next (s.serve 0x404 c doThermalUnlock)

/-! ### Registers (R277, R312) -/

/-- UMB_CTRL (Table 17.7): WAKE and BOOT_GO act and read 0. -/
def State.umbWrite (s : State) (p : Path) (a : Nat) (data : Word) : State :=
  if a = Reg.UMB_CTRL then
    let s1 := s.plainWrite a data
    let s2 := if bitOf data 1 then s1.wakeWrite p else s1
    if bitOf data 3 then s2.bootGo else s2
  else s.plainWrite a data

/-- UMB registers computed at a read: PSTATE shows ENTERING from the acceptance of STANDBY (Table 17.1), and the latched count. -/
def State.umbView (s : State) (p : Path) (a : Nat) : Option Nat :=
  if a = Reg.UMB_STATE then
    some (if s.umb.entry.isSome ∧ s.pstate = Ps.RUN then putField (s.reg a) 0 3 Ps.ENTERING else s.reg a).toNat
  else if a = Reg.UMB_RTC_S_LO then some (s.umbraCount / secT % 2 ^ 32)
  else if a = Reg.UMB_RTC_S_HI then some (s.rtcLatched p / secT / 2 ^ 32 % 65536)
  else if a = Reg.UMB_RTC_NS then some (s.rtcLatched p % secT / nsT)
  else none

/-- A pair's temperature as THM_GUARD_VAL shows it. -/
def State.guardVal (s : State) (p : Nat) : Nat :=
  if s.pairFailed p then 0x8000 else match s.pairTemp p with
    | none => 0x8000
    | some v => codeOf 16 v

/-- THM registers computed at a read. -/
def State.thmView (s : State) (a : Nat) : Option Nat :=
  if a = Reg.THM_RESTARTS then some (satTo 7 s.recentStamps + satTo 0xFFFF s.thm.halts * 65536)
  else if a = Reg.THM_GUARD_VAL then some (s.guardVal 0 + s.guardVal 1 * 65536)
  else none

end Sys2Proof.Machine
end

