-- ==== Sys2Proof/Machine/Meter.lean ====
section
/-! DEFINITION. The metering island (chapter 19): energy, seal, events, records, meter port and meter firmware. -/
namespace Sys2Proof.Machine

/-! ### Energy (R333 to R335) -/

/-- Units per mJ in which a product is exact: a shunt of 100 µΩ, both inputs in µV/64 with gains of 2^-20, 8,000 samples/s. -/
abbrev meterUnit : Nat := 2 ^ 40 * 6400 * 64000000 * 8

/-- A sample under its trims, in µV/64 × 2^-20: the offset trim, then the gain trim (R344, log entry 45). -/
def trimmed (cal : Word) (x : Int) : Int :=
  (x + signedOf 16 (fieldOf cal 16 16)) * (1048576 + signedOf 16 (fieldOf cal 0 16))

/-- The measured current and voltage of a sample. -/
def State.meterCurrent (s : State) (m : MeterSampleIn) : Int := trimmed (s.reg Reg.MET_CAL_I) m.shunt
def State.meterVoltage (s : State) (m : MeterSampleIn) : Int := trimmed (s.reg Reg.MET_CAL_V) m.bus

/-- DIV of the bus divider. -/
def State.meterDiv (s : State) : Nat := s.get Reg.MET_DIV ⟨0, 16⟩

/-- The product a sample adds: none below zero (R333). -/
def State.meterProduct (s : State) (m : MeterSampleIn) : Nat := (s.meterCurrent m * s.meterVoltage m * (s.meterDiv : Int)).toNat

/-- mJ per pulse of MET_PULSE (R334). -/
def State.pulseEnergy (s : State) : Nat :=
  match s.get Reg.MET_CFG ⟨2, 2⟩ with
  | 0 => 3600000
  | 1 => 360000
  | _ => 36000

/-- Repeat an output. -/
def State.emitTimes (s : State) (o : Output) : Nat → State
  | 0 => s
  | n + 1 => (s.emit o).emitTimes o n

/-- METER_SAMPLE. -/
def execMeterSample (m : MeterSampleIn) (s : State) : Host.Outcome State Fault Refusal :=
  let s0 := s.tick m.t
  if !s0.met.powered ∨ !s0.meterOn then .next s0
  else
    let fault := if m.shuntOpen then 1 else if m.busRange then 2 else 0
    let s1 := if fault ≠ 0 ∧ fault ≠ s0.met.senseFault then s0.meterEvent 9 (leBytes 4 fault) else s0
    let p := s1.meterProduct m
    let total := s1.met.remainder + p
    let gain := total / meterUnit
    let acc := s1.met.pulseAcc + gain
    let met : MetSt :=
      { s1.met with
          senseFault := fault, energy := s1.met.energy + gain, remainder := total % meterUnit, pulseAcc := acc % s1.pulseEnergy,
          products := (p :: s1.met.products).take 8000,
          opened := { s1.met.opened with energyGap := s1.met.opened.energyGap || fault != 0 } }
    let s2 : State := { s1 with met := met }
    let s3 := s2.setNum Reg.MET_VOLT (s2.meterVoltage m * s2.meterDiv / 67108864000).toNat
    let s4 := s3.setNum Reg.MET_CURR (codeOf 32 (s3.meterCurrent m * 10 / 67108864))
    .next (s4.emitTimes .metPulse (acc / s4.pulseEnergy))

/-- A read of MET_ENERGY_LO latches MET_ENERGY_HI for its path (R344, R345). -/
def State.latchEnergy (s : State) (p : Path) : State :=
  { s with met := { s.met with latched := (p, s.met.energy) :: s.met.latched.filter (fun x => x.1 != p) } }
def State.energyLatched (s : State) (p : Path) : Nat := ((s.met.latched.find? (fun x => x.1 == p)).map (·.2)).getD 0

/-! ### Seal, records and pages (R336 to R342) -/

/-- SEAL_TRANSITION: an event, the record closes; a seal that closes abandons a firmware update (R336, R340, R343). -/
def execSealTransition (low : Bool) (t : Nat) (s : State) : Host.Outcome State Fault Refusal :=
  let s0 := s.tick t
  if !s0.met.powered ∨ s0.met.sealed = low then .next s0
  else
    let s1 := s0.meterEvent (if low then 2 else 1) []
    let s2 : State := { s1 with met := { s1.met with sealed := low, updating := s1.met.updating && !low,
                                                     fwVerified := s1.met.fwVerified && !low } }
    .next (s2.meterClose Cause.SEAL s2.met.opened.tag s2.meterOn)

/-- Passes in which line k of the slot was lit. -/
def litPasses (scan passes : Nat) (blanked : List Nat) (k : Nat) : Nat :=
  ((List.range passes).filter (fun p => !blanked.contains (p * scan + k))).length

/-- The sum over the emitters of index e of G × PASSES × t_act / 65,536 in µs (R226, R339). -/
def lightSum (m : Word) (scan e : Nat) (lanes : List (List Nat)) (lit : Nat → Nat) (tAct idx : Nat) : Nat :=
  let sums := (List.range (mapLanes m)).map (fun ln =>
    ((List.range (emittersPerLane m scan)).map (fun i =>
      let ch := i % mapChannels m
      let k := i / mapChannels m % scan
      let j := i / (mapChannels m * scan)
      let c := (ln * mapDrivers m + j) * mapChannels m + ch
      if c % e = idx then (lanes.getD ln []).getD i 0 * lit k else 0)).sum)
  sums.sum * tAct / (65536 * usT)

/-- The four sums of a latched picture; DARK and a picture never written give 0. -/
def State.lightOffer (s : State) (l : LightIn) : List Nat :=
  match s.lmp.map, s.tileChain?, s.drivenTimeline? l.wfn, s.lmp.replay.find? (fun g => g.slot == l.slot) with
  | some m, some c, some tl, some g =>
    match imageSlot tl l.slot with
    | none => [0, 0, 0, 0]
    | some r =>
      let dark := (s.reg Reg.LMP_DARK).toNat * s.cellT / 16
      let tAct := r.lineQ * 8192 - r.blankNs * nsT - dark
      if s.bit Reg.LMP_STATE Fld.LMP_STATE_DARK then [0, 0, 0, 0]
      else (List.range 4).map (fun e =>
        if e < c.emitters then lightSum m tl.scan c.emitters g.lanes (litPasses tl.scan r.passes l.blanked) tAct e else 0)
  | _, _, _, _ => [0, 0, 0, 0]

/-- LIGHT_OFFER (R339): an offer with no latched picture waiting is malformed and discarded (R331). -/
def execLightOffer (l : LightIn) (s : State) : Host.Outcome State Fault Refusal :=
  let s0 := s.tick l.t
  if !s0.met.powered ∨ !s0.met.offerDue ∨ !s0.isTile then .next s0
  else
    let add := s0.lightOffer l
    let light := (List.range 4).map (fun e => s0.met.opened.light.getD e 0 + add.getD e 0)
    .next { s0 with met := { s0.met with offerDue := false, opened := { s0.met.opened with light := light } } }

/-- RECORD_S. -/
def State.recordS (s : State) : Nat := s.get Reg.MET_CFG ⟨4, 16⟩

/-- RECORD_CLOSE, where Umbra's count is at a multiple of RECORD_S seconds (R340). -/
def execRecordClose (t : Nat) (s : State) : Host.Outcome State Fault Refusal :=
  let s0 := s.tick t
  if !s0.met.powered ∨ s0.umbraCount % (s0.recordS * secT) ≠ 0 then .next s0
  else .next (s0.meterClose Cause.PERIOD s0.met.opened.tag s0.meterOn)

/-- The 256 bytes of a page: the body with its cause mask, the signature, and zeros (R337, R341). -/
def signedPage (p : MetPage) : List Byte :=
  let body := if p.event then p.body else p.body.take 7 ++ [byteOf p.causes] ++ p.body.drop 8
  body ++ signature Config.meterKey (if p.event then "DN9600-ME" else "DN9600-PD") body ++ zeroBytes 14

/-- The meter's key certificate: the layout of Table 18.3 with USAGE 0 (R341). -/
def meterCert : List Byte :=
  [0x44, 0x4E, 0x4B, 0x43] ++ leBytes 2 1 ++ leBytes 2 0 ++ (List.range 17).map (fun i => Config.meterCertByte (8 + i)) ++ zeroBytes 7 ++
    firstBytes 57 (Config.ed448Public Config.meterKey) ++ zeroBytes 39 ++ (List.range 114).map (fun i => Config.meterCertByte (0x80 + i)) ++
    zeroBytes 14

/-- A page goes into its log; a full log loses its oldest (R342). -/
def State.writePage (s : State) (p : MetPage) : State :=
  let x := (p.number, signedPage p)
  if p.event then
    let l := s.met.events ++ [x]
    { s with met := { s.met with events := l.drop (l.length - 4096) } }
  else
    let l := s.met.records ++ [x]
    { s.setNum Reg.MET_REC_SEQ p.number with met := { s.met with records := l.drop (l.length - 65536) } }

/-- RECORD_PROGRAMMED: the oldest waiting page is signed and programmed; without valid firmware it waits (R342, R343). A page
that fails is absent and logs FLASH_ERR. -/
def execRecordProgrammed (err : Option Nat) (t : Nat) (s : State) : Host.Outcome State Fault Refusal :=
  let s0 := s.tick t
  match s0.met.toWrite with
  | [] => .next s0
  | p :: ps =>
    if !s0.met.powered ∨ s0.met.fwBad then .next s0
    else
      let s1 : State := { s0 with met := { s0.met with toWrite := ps } }
      match err with
      | none => .next (s1.writePage p)
      | some a => .next (s1.meterEvent 7 (leBytes 4 a))

/-- METER_SUPPLY_TRIP: the flash write under way is finished on the hold-up, then the meter is unpowered; pages not yet begun are
lost (R332, R342). -/
def execMeterSupplyTrip (t : Nat) (s : State) : Host.Outcome State Fault Refusal :=
  let s0 := s.tick t
  if !s0.met.powered then .next s0
  else
    let s1 := match s0.met.toWrite with
      | p :: _ => if s0.met.fwBad then s0 else s0.writePage p
      | [] => s0
    .next { s1 with met := { s1.met with powered := false, toWrite := [], tags := [], products := [], updating := false,
                                         fwVerified := false, offerDue := false,
                                         opened := { s1.met.opened with energyGap := true } } }

/-! ### Meter firmware (R343) -/

/-- A byte of a meter-firmware slot. -/
def State.meterSlot (s : State) (k : Nat) (i : Nat) : Byte := cellGet erasedByte s.met.fwFlash (k * 0x100000 + i)

/-- The layout of a meter firmware image (R319, R343). -/
def meterFwForm (rd : Nat → Byte) : Bool :=
  let n := numAt rd 8 4
  numAt rd 0 4 == 0x464D4E44 && numAt rd 4 2 == 1 && n % 4096 == 0 && decide (4096 ≤ n) && decide (n ≤ 0x100000) &&
    allZero (bytesAt rd 6 2) && allZero (bytesAt rd 0x11 235) && numAt rd 0x10 1 % 4 == numAt rd 0x10 1 && numAt rd 0xFC 4 == crc32c (bytesAt rd 0 0xFC)

/-- A meter-firmware slot verifies under a public key whose digest the meter fuses hold, at or above the meter floor. -/
def State.meterFwOk (s : State) (k : Nat) (key : List Byte) : Bool :=
  let rd := s.meterSlot k
  let sig := numAt rd 8 4 - 4096
  meterFwForm rd && decide (Config.shake256 key 32 = Config.rootDigest 2) && decide (s.met.fwFloor ≤ slotSecurity rd) &&
    Config.ed448phVerify key (asciiBytes "DN9600-MF") (bytesAt rd 0 (sig + 0x10)) (bytesAt rd (sig + 0x10) 114)

/-- The inactive slot. -/
def State.meterSpare (s : State) : Nat := 1 - s.met.fwSlot

/-- METER_POWER_ON: the counter resumes at the higher of flash, floor and retention; a lower flash value is TAMPER; the supply's
loss is logged and the record it cut closes under TAG 0 (R337, R338, R340, R343). -/
def execMeterPowerOn (flash t : Nat) (s : State) : Host.Outcome State Fault Refusal :=
  let s0 := s.tick t
  if s0.met.powered ∨ !s0.umb.powered then .next s0
  else
    let kept := if s0.met.retained then s0.met.eventCount else 0
    let low := Nat.max (fuseFloor s0.met.fuses) kept
    let run := [s0.met.fwSlot, 1 - s0.met.fwSlot].find? (fun k => s0.meterFwOk k (s0.met.fwKeys.getD k []))
    let s1 : State := { s0 with met := { s0.met with powered := true, eventCount := Nat.max flash low, retained := true,
                                                     fwBad := run.isNone, fwSlot := run.getD s0.met.fwSlot, senseFault := 0,
                                                     fwVersion := (run.map (fun k => numAt (s0.meterSlot k) 0x0C 4)).getD s0.met.fwVersion } }
    let s2 := if flash < low then s1.meterEvent 8 (leBytes 4 flash) else s1
    let s3 := s2.meterEvent 5 (leBytes 4 (s2.reg Reg.MET_REC_SEQ).toNat)
    .next (s3.meterClose Cause.SUPPLY (zeroBytes 16) s3.meterOn)

/-- A firmware step of the meter port is open: the frame passes, the meter runs and the seal is open (R336, R343). -/
def State.meterPort (s : State) (crcOk : Bool) : Bool := crcOk && s.met.powered

/-- METER_FW_BLOCK. -/
def execMeterFwBlock (crcOk : Bool) (b : MeterBlock) (s : State) : Host.Outcome State Fault Refusal :=
  if !s.meterPort crcOk then .next s
  else if s.met.sealed then .next (s.emit .meterSealed)
  else if b.bytes.length ≠ 4096 ∨ 256 ≤ b.index ∨ crc32c b.bytes ≠ b.crc then .next (s.emit .meterCrc)
  else
    let a := s.meterSpare * 0x100000 + b.index * 4096
    .next { s with met := { s.met with fwFlash := cellSetMany erasedByte s.met.fwFlash a b.bytes, updating := true, fwVerified := false } }

/-- METER_VERIFY. -/
def execMeterVerify (crcOk : Bool) (key : List Byte) (s : State) : Host.Outcome State Fault Refusal :=
  if !s.meterPort crcOk then .next s
  else if s.met.sealed then .next (s.emit .meterSealed)
  else
    let ok := s.met.updating && s.meterFwOk s.meterSpare key
    let s1 : State := { s with met := { s.met with fwVerified := ok, fwKeys := if ok then s.met.fwKeys.set s.meterSpare key else s.met.fwKeys } }
    .next (s1.emit (.meterVerify ok))

/-- METER_ACTIVATE: the firmware runs from the verified slot; FW_UPDATE, the record closes, the floor rises. -/
def execMeterActivate (crcOk : Bool) (t : Nat) (s : State) : Host.Outcome State Fault Refusal :=
  let s0 := s.tick t
  if !s0.meterPort crcOk then .next s0
  else if s0.met.sealed then .next (s0.emit .meterSealed)
  else if !s0.met.fwVerified then .next s0
  else
    let k := s0.meterSpare
    let rd := s0.meterSlot k
    let v := numAt rd 0x0C 4
    let s1 := s0.meterEvent 4 (leBytes 4 s0.met.fwVersion ++ leBytes 4 v)
    let s2 : State := { s1 with met := { s1.met with fwSlot := k, fwVersion := v, fwFloor := Nat.max s1.met.fwFloor (Nat.min (slotSecurity rd) 64),
                                                     updating := false, fwVerified := false, fwBad := false } }
    .next (s2.meterClose Cause.FW s2.met.opened.tag s2.meterOn)

/-! ### Registers (R344) -/

/-- MET_STATE (Table 19.7). -/
def State.metState (s : State) : Nat :=
  flag s.met.sealed + 2 * flag s.meterOn + 4 * flag s.met.fwBad + 8 * flag (s.met.senseFault != 0) + 16 * flag s.met.opened.lightGap +
    32 * flag s.met.opened.timeValid + 64 * flag s.met.updating + 128 * flag s.floorFull

/-- A word of MET_REC(r): the newest written record whose RECORD_SEQ mod 128 is r, 0 while there is none. -/
def State.recordWord (s : State) (a : Nat) : Nat :=
  let r := (a - 0x128000) / 0x100
  match (s.met.records.filter (fun x => x.1 % 128 == r)).getLast? with
  | none => 0
  | some x => leAt x.2 (a % 0x100 / 4 * 4) 4

/-- The value a read of the MET block gives on a path. -/
def State.metView (s : State) (p : Path) (a : Nat) : Nat :=
  if 0x128000 ≤ a then s.recordWord a
  else if a = Reg.MET_STATE then s.metState
  else if a = Reg.MET_ENERGY_LO then s.met.energy % 2 ^ 32
  else if a = Reg.MET_ENERGY_HI then s.energyLatched p / 2 ^ 32 % 2 ^ 32
  else if a = Reg.MET_POWER then s.met.products.sum / meterUnit
  else if a = Reg.MET_EVENTS then s.met.eventCount
  else if a = Reg.MET_FW_VER then s.met.fwVersion
  else if a = Reg.MET_FLOOR then s.met.fwFloor % 64 + s.met.fuses / 8 * 256
  else if inRange a (Reg.MET_ID 0) (Reg.MET_ID 3) then leAt meterId (a - Reg.MET_ID 0) 4
  else if inRange a (Reg.MET_TAG_NOW 0) (Reg.MET_TAG_NOW 3) then leAt s.met.opened.tag (a - Reg.MET_TAG_NOW 0) 4
  else if a = Reg.MET_OPEN_WFN_LO then s.met.opened.wfnStart % 2 ^ 32
  else if a = Reg.MET_OPEN_WFN_HI then s.met.opened.wfnStart / 2 ^ 32 % 65536
  else (s.reg a).toNat

/-- METER_READ: the register at an offset of the MET block; MET_ENERGY_LO latches for the meter port. -/
def execMeterRead (crcOk : Bool) (offset : Nat) (s : State) : Host.Outcome State Fault Refusal :=
  if !s.meterPort crcOk then .next s
  else
    let a := 0x120000 + offset % 65536
    let s1 := if a = Reg.MET_ENERGY_LO then s.latchEnergy .meter else s
    .next (s1.emit (.meter (leBytes 4 (s1.metView .meter a))))

/-- Whether a written value is one the register takes (Table 19.6). -/
def metValueOk (a : Nat) (data : Word) : Bool :=
  if a = Reg.MET_CFG then decide (fieldOf data 0 2 ≤ 1) && fieldOf data 2 2 != 3 && decide (60 ≤ fieldOf data 4 16)
  else if a = Reg.MET_DIV then decide (3 ≤ fieldOf data 0 16) && decide (fieldOf data 0 16 ≤ 100)
  else true

/-- The RWS registers. -/
def metConfig (a : Nat) : Bool := a == Reg.MET_CFG || a == Reg.MET_DIV || a == Reg.MET_CAL_I || a == Reg.MET_CAL_V

/-- METER_WRITE (R335, R336): sealed, it is rejected; a new value logs CFG_CHANGE, and a change of MODE closes the record. -/
def execMeterWrite (crcOk : Bool) (offset : Nat) (data : Word) (t : Nat) (s : State) : Host.Outcome State Fault Refusal :=
  let s0 := s.tick t
  let a := 0x120000 + offset % 65536
  if !s0.meterPort crcOk ∨ !metConfig a then .next s0
  else if s0.met.sealed then .next (s0.emit .meterSealed)
  else if !metValueOk a data then .next s0
  else
    let old := s0.reg a
    let s1 := s0.plainWrite a data
    let new := s1.reg a
    if old = new then .next s1
    else
      let s2 := s1.meterEvent 3 (leBytes 4 (offset % 65536) ++ leBytes 4 old.toNat ++ leBytes 4 new.toNat)
      if s0.meterOn = s2.meterOn then .next s2
      else
        let s3 : State := { s2 with met := { s2.met with products := [], senseFault := 0 } }
        .next (s3.meterClose Cause.MODE s3.met.opened.tag true)

/-! ### Fetching (R342) and the content tag (R338) -/

/-- RECORD_FETCH and EVENT_FETCH on the meter port. -/
def State.meterFetch (s : State) (log : List (Nat × List Byte)) (n : Nat) : State :=
  match log.find? (fun x => x.1 == n) with
  | some x => s.emit (.meter x.2)
  | none => s.emit .meterNotFound

def execRecordFetch (crcOk : Bool) (number : Nat) (s : State) : Host.Outcome State Fault Refusal :=
  if s.meterPort crcOk then .next (s.meterFetch s.met.records number) else .next s

def execEventFetch (crcOk : Bool) (number : Nat) (s : State) : Host.Outcome State Fault Refusal :=
  if s.meterPort crcOk then .next (s.meterFetch s.met.events number) else .next s

/-- MET_FETCH. -/
def doMetFetch (c : MboxCmd) (s : State) : State × Reply :=
  let kind := byteAt c.body 0
  let n := leAt c.body 4 4
  let give (l : List (Nat × List Byte)) : State × Reply :=
    match l.find? (fun x => x.1 == n) with
    | some x => (s, { status := St.OK, body := x.2 })
    | none => (s, Reply.of St.NOT_FOUND)
  if !s.met.powered then (s, Reply.of St.NOT_FOUND)
  else match kind with
    | 0 => give s.met.records
    | 1 => give s.met.events
    | 2 => (s, { status := St.OK, body := meterCert })
    | _ => (s, Reply.of St.BAD_FIELD)

def execMetFetch (c : MboxCmd) (s : State) : Host.Outcome State Fault Refusal := .next (s.serve 0x505 c doMetFetch)

/-- Put a tag in the order of its frames; a later tag for the same frame replaces the earlier (R338). -/
def insertTag (f : Nat) (tag : List Byte) : List (Nat × List Byte) → List (Nat × List Byte)
  | [] => [(f, tag)]
  | x :: xs => if f < x.1 then (f, tag) :: x :: xs else if f = x.1 then (f, tag) :: xs else x :: insertTag f tag xs

/-- MET_TAG: a tag for a passed instant takes effect at the next frame boundary. -/
def doMetTag (c : MboxCmd) (s : State) : State × Reply :=
  let tag := slice c.body 0 16
  let f := leAt c.body 16 6
  let g := match s.timeline? with
    | some tl => if frameStart tl f ≤ s.now then s.wfnNow + 1 else f
    | none => f
  if !s.met.powered then (s, Reply.of St.OK)
  else ({ s with met := { s.met with tags := insertTag g tag s.met.tags } }, Reply.of St.OK)

def execMetTag (c : MboxCmd) (s : State) : Host.Outcome State Fault Refusal := .next (s.serve 0x504 c doMetTag)

end Sys2Proof.Machine
end

