-- ==== Sys2Proof/Machine/Debug.lean ====
section
/-! DEFINITION. Debug and test access (chapter 23): JTAG, TMUX and BIST. -/
namespace Sys2Proof.Machine

/-! ### JTAG (R387 to R390) -/

/-- The value the instruction register captures (R388). -/
def State.irCapture (s : State) : Byte := byteOf (1 + 4 * flag (s.bit Reg.DBG_STATE Fld.DBG_STATE_DENIED) + 8 * (s.tru.lifecycle % 8))

/-- IDCODE (R388). -/
def idcode : Nat := 1 + 0x2B6 * 2 + 0x9600 * 2 ^ 12 + Config.siliconRevision % 16 * 2 ^ 28

/-- The public instructions. -/
def irPublic (i : Nat) : Bool := i == Ir.BYPASS || i == Ir.IDCODE || i == Ir.SAMPLE

/-- The outputs follow an EXTEST-class instruction: HIGHZ, or the boundary cells. -/
def State.driveCells (s : State) : State :=
  if s.dbg.ir = Ir.HIGHZ then { s with dbg := { s.dbg with forced := true } }.emit .highZ
  else { s with dbg := { s.dbg with forced := true } }.emit (.boundary s.dbg.boundary)

/-- Load an instruction: DBG_STATE and Umbra's inhibit follow it. -/
def State.loadIr (s : State) (i : Nat) : State := (({ s with dbg := { s.dbg with ir := i } } : State).showIr).lampPower s.now

/-- JTAG_UPDATE_IR: an unlisted opcode acts as BYPASS; one the lifecycle state refuses, or INT_SCAN with RESET_N high, is decoded
as BYPASS with DENIED. -/
def execJtagUpdateIr (opcode : Nat) (resetLow : Bool) (s : State) : Host.Outcome State Fault Refusal :=
  if !s.coreLive then .next s
  else
    let s0 := s.emit (.readData [s.irCapture])
    if !irListed opcode then .next (s0.loadIr Ir.BYPASS)
    else if !s0.jtagAllowed opcode ∨ (opcode = Ir.INT_SCAN ∧ !resetLow) then
      .next ((s0.putBit Reg.DBG_STATE Fld.DBG_STATE_DENIED true).loadIr Ir.BYPASS)
    else
      let s1 := s0.loadIr opcode
      .next (if irExtest opcode then s1.driveCells else s1)

/-- JTAG_RESET: Test-Logic-Reset loads IDCODE, and every output is functional. -/
def execJtagReset (s : State) : Host.Outcome State Fault Refusal :=
  if !s.coreLive then .next s else .next ((s.loadIr Ir.IDCODE).functional)

/-- JTAG_RUN_TEST_IDLE: pulses or trains on the AC lanes; with a public instruction every output is functional. -/
def execJtagRunTestIdle (s : State) : Host.Outcome State Fault Refusal :=
  if !s.coreLive then .next s
  else if s.dbg.ir = Ir.EXTEST_PULSE then .next (s.emit (.acPulse false))
  else if s.dbg.ir = Ir.EXTEST_TRAIN then .next (s.emit (.acPulse true))
  else if irPublic s.dbg.ir then .next s.functional
  else .next s

/-! ### TMUX (R391) -/

/-- A write to DBG_TMUX_SEL: a refused selection sets DENIED and drives low; the ball changes at the next edge of REFCLK_CORE. -/
def State.tmuxWrite (s : State) (a : Nat) (data : Word) : State :=
  let k := (a - Reg.DBG_TMUX_SEL 0) / 4
  let s1 := s.plainWrite a data
  let sel := s1.reg a
  let code := fieldOf sel 0 8
  let s2 := if (tmuxIndex code).isSome && !s1.tmuxAllowed code then s1.putBit Reg.DBG_STATE Fld.DBG_STATE_DENIED true else s1
  if !s2.chn.refclk then s2
  else { s2 with dbg := { s2.dbg with tmux := (k, sel) :: s2.dbg.tmux.filter (fun x => x.1 != k) } }.emit (.tmux k (s2.tmuxDrives sel))

/-- A write in the DBG block. -/
def State.dbgWrite (s : State) (a : Nat) (data : Word) : State :=
  if inRange a (Reg.DBG_TMUX_SEL 0) (Reg.DBG_TMUX_SEL 15) then s.tmuxWrite a data
  else if a = Reg.DBG_CNT_CLEAR then s.clearCounters data (fun x => x == Reg.DBG_BIST_RUNS)
  else s.plainWrite a data

/-- DBG_STATE.LIFE is computed at a read. -/
def State.dbgView (s : State) (a : Nat) : Option Nat :=
  if a = Reg.DBG_STATE then some (putField (s.reg a) 0 3 s.tru.lifecycle).toNat else none

/-! ### BIST (R392, R393) -/

/-- The first refusal of a BIST. -/
def State.bistRefused (s : State) (scope : Nat) : Option Nat :=
  if 2 < scope then some St.BAD_FIELD
  else if s.tru.lifecycle = Lc.SCRAPPED ∨ s.image?.isNone then some St.BAD_STATE
  else if !(s.held || (s.isSender && !s.inControl && s.partnerCurrent)) then some St.BAD_STATE
  else if s.dbg.bist.isSome ∨ s.longFull then some St.BUSY
  else none

/-- BIST: a sender not in control leaves lockstep; every instance is shed; the tests run. -/
def doBist (c : MboxCmd) (s : State) : State × Reply :=
  let scope := byteAt c.body 0
  match s.bistRefused scope with
  | some st => (s, Reply.of st)
  | none =>
    let s1 := if s.held then s else s.sendLeave 4
    let r := (s1.shedAll s1.now).longStart 0x701 c 0
    let s2 : State := { r.1 with dbg := { r.1.dbg with bist := some { token := r.2.token, scope := scope, groups := 0 } } }
    let s3 := ((s2.setNum Reg.DBG_BIST_STAT (scope + 4 + 0xFF * 2 ^ 8)).setNum Reg.DBG_BIST_FAIL 0).setNum Reg.DBG_BIST_DONE 0
    (s3.putBit Reg.DBG_STATE Fld.DBG_STATE_BIST_RUN true, r.2)

def execBist (c : MboxCmd) (s : State) : Host.Outcome State Fault Refusal := .next (s.serve 0x701 c doBist)

/-- The running image's islands, queues and INIT records are loaded again; the run goes on at the next instance (R393). -/
def State.reloadIslands (s : State) : State :=
  match s.image? with
  | none => s
  | some im =>
    let s1 := s.setIslands im
    { s1 with tru := { s1.tru with sram := initSram im },
              sch := { s1.sch with instances := [], decrements := [], queueWords := [], early := [] } }

/-- BIST ends: DBG_BIST_STAT, the counter, the reload; a sender that left joins again. -/
def State.endBist (s : State) (b : BistRun) (stat : Nat) (failed done : Word) : State :=
  let s1 : State := { s with dbg := { s.dbg with bist := none } }
  let s2 := (((s1.setNum Reg.DBG_BIST_STAT (b.scope + stat)).setReg Reg.DBG_BIST_FAIL failed).setReg Reg.DBG_BIST_DONE done).bump Reg.DBG_BIST_RUNS 1
  let s3 := (s2.putBit Reg.DBG_STATE Fld.DBG_STATE_BIST_RUN false).reloadIslands
  if s3.isSender && s3.red.linkUp && !s3.agreed then s3.sendHello else s3

/-- BIST_COMPLETE: OK, or FAILED with the first failing element. -/
def execBistComplete (fail : Option Nat) (failed done : Word) (t : Nat) (s : State) : Host.Outcome State Fault Refusal :=
  let s0 := s.tick t
  match s0.dbg.bist with
  | none => .next s0
  | some b =>
    if s0.anyIssued then .next s0
    else match fail with
    | none => .next ((s0.endBist b (8 + 0xFF * 2 ^ 8) 0 done).longEnd b.token St.OK 0 false)
    | some x => .next ((s0.endBist b (x % 256 * 2 ^ 8) failed done).longEnd b.token St.FAILED (x % 256) false)

/-- An ABORT that wins: testing stops at the end of the group; which islands had been tested is a free value. -/
def State.abortBist (s : State) (b : BistRun) : State :=
  let f := s.takeFree
  (f.2.endBist b (16 + 0xFF * 2 ^ 8) 0 (word f.1)).longEnd b.token St.ABORTED 0 true

end Sys2Proof.Machine
end

