-- ==== Sys2Proof/Machine/ChainLink.lean ====
section
/-! DEFINITION. The chain link (chapter 7): rows, control rows, express symbols, bring-up and rate switches. -/
namespace Sys2Proof.Machine

/-! ### Ports -/

/-- The ports of the role: C0 to C3 at a sender, west 0 and east 1 otherwise (R146). -/
def State.hasPort (s : State) (p : Nat) : Bool := if s.isSender then decide (p < 4) else decide (p < 2)

/-- CHN_PORT_STAT.STATE of a port. -/
def State.portState (s : State) (p : Nat) : Nat := s.get (Reg.CHN_PORT_STAT p) Fld.CHN_PORT_STAT_STATE
/-- A ring-return port that leaves or reaches UP restarts a hold-off that runs (R294). -/
def State.setPort (s : State) (p k : Nat) : State :=
  let s1 := s.put (Reg.CHN_PORT_STAT p) Fld.CHN_PORT_STAT_STATE k
  if p < 4 ∧ (s.portState p = 7) ≠ (k = 7) then s1.restartHoldoff else s1
def State.portFlag (s : State) (p : Nat) (f : Field) (b : Bool) : State := s.putBit (Reg.CHN_PORT_STAT p) f b

/-- Bring-up beyond the registers. -/
def freshPortSt (p : Nat) : PortSt :=
  { port := p, classes := [none, none, none, none], same := [0, 0, 0, 0], windows := 0, locked := [], clockBad := false,
    goodRows := 0, upAt := none, misses := [0, 0, 0, 0], peerZero := 0, retrain := false, badRows := 0,
    headers := [(0, 0), (0, 0), (0, 0), (0, 0)] }
def State.portSt (s : State) (p : Nat) : PortSt := (s.chn.ports.find? (fun x => x.port == p)).getD (freshPortSt p)
def State.setPortSt (s : State) (x : PortSt) : State :=
  { s with chn := { s.chn with ports := x :: s.chn.ports.filter (fun y => y.port != x.port) } }

/-- A loss of lock or a restart of bring-up is counted; a tile notes it for its next health record. -/
def State.relock (s : State) (p : Nat) : State :=
  let s1 := s.bump (Reg.CHN_RELOCK p) 1
  if s1.isTile then s1.noteHealth 5 1 else s1

/-- Declared tiles of the chain of a port: the image's, else what TRAIN blocks said. -/
def State.declaredN (s : State) (p : Nat) : Nat :=
  if s.isSender then ((s.chains.find? (fun c => c.chain == p)).map (·.n)).getD 0
  else (s.tileChain?.map (·.n)).getD (s.get Reg.CHN_RING ⟨24, 8⟩)

/-- SLIP applies to a port (R144): more than 24 tiles, not the first hop of its direction, FORCE_HUNT 0. -/
def State.slipPort (s : State) (p : Nat) (first : Bool) : Bool :=
  decide (24 < s.declaredN p) && !first && !s.bit (Reg.CHN_PORT_CTRL p) Fld.CHN_PORT_CTRL_FORCE_HUNT

/-- This device's receiver on a cable is aligned: PEER_RX_UP and RX_UP as it sends them (R143). -/
def State.rxAligned (s : State) (p : Nat) : Bool := decide (6 ≤ s.portState p)

/-! ### Training cycles (R139, R142, R143, Table 7.10) -/

/-- The 66-bit period of the clock lane (R124): bits 0 to 21 are 1. -/
def clockPeriod : List Bool := List.replicate 22 true ++ List.replicate 44 false

/-- The identity words W_0 to W_3 (R139). -/
def identityWords : List Nat := [0x0000000F, 0x0000003F, 0x000000FF, 0x000003FF]

/-- Bytes 1 to 7 of a TRAIN block after its type (Table 7.10). -/
def trainBlock (lane dir : Nat) (rxUp : Bool) (hop n bcnt rate : Nat) : List Byte :=
  byteOf 0x55 :: byteOf (lane % 4 + 4 * dir + 8 * flag rxUp) :: byteOf hop :: byteOf n :: leBytes 2 bcnt ++ [byteOf (rate % 8), 0]

/-- The receive port whose stream a transmit port carries on: a tile's opposite port; a sender originates. -/
def State.upstream (s : State) (p : Nat) : Nat := if s.isSender then p else opposite p

/-- DIR of a transmit port: 0 for primary-origin (Table 7.10); a tile's east port carries the primary's stream on. -/
def State.sendDir (s : State) (p : Nat) : Nat := if s.isSender then s.side else opposite p

/-- HOP as a transmit port sends it: 0 at a sender, one more than the received HOP at a tile, 0x7F unknown (R143). -/
def State.sendHop (s : State) (p : Nat) : Nat :=
  if s.isSender then 0
  else
    let h := s.get (Reg.CHN_PORT_STAT (opposite p)) Fld.CHN_PORT_STAT_HOP
    if 63 ≤ h then 0x7F else h + 1

/-- A transmit port runs training cycles: what it repeats is recorded. -/
def State.startTraining (s : State) (p : Nat) : State :=
  let w := (s.reg (Reg.CHN_TXSLIP p)).toNat
  let rate := s.get (Reg.CHN_PORT_STAT (s.upstream p)) Fld.CHN_PORT_STAT_RATE
  let blocks := (List.range 4).map (fun k => trainBlock k (s.sendDir p) (s.rxAligned p) (s.sendHop p) (s.declaredN p) 0 rate)
  ({ s with chn := { s.chn with sending := s.chn.sending.filter (· != p) } } : State).emit
    (.train p clockPeriod ((List.range 4).map (fun k => w / 2 ^ (8 * k) % 128)) identityWords blocks)

/-- A transmit port that sends superframes goes back to training cycles. -/
def State.stopSending (s : State) (p : Nat) : State := if s.chn.sending.contains p then s.startTraining p else s

/-- Bring-up of a port starts again from SIGNAL; after a loss of lock in its previous mode. -/
def State.restartPort (s : State) (p : Nat) (again : Bool) : State :=
  ((s.setPort p 1).stopSending p).setPortSt { freshPortSt p with retrain := again }

/-- A tile's receive port loses the forwarded clock that its opposite transmitter is locked to: the transmitter holds over (R124, R145). -/
def State.holdOver (s : State) (p t : Nat) : State :=
  if s.isSender ∨ s.portState p < 2 then s
  else
    let s1 := s.portFlag p Fld.CHN_PORT_STAT_TX_HOLDOVER true
    { s1 with chn := { s1.chn with holdoverAt := (opposite p, t) :: s1.chn.holdoverAt.filter (fun h => h.1 != opposite p) } }

/-! ### Bring-up (R139 to R143) -/

/-- SIGNAL_DETECT: EQUALISE; a bring-up that does not retrain after a loss chooses its mode (R144, R145), and in SLIP starts with
SLIP_MISS 0. -/
def execSignalDetect (port : Nat) (x : LinkSignal) (s : State) : Host.Outcome State Fault Refusal :=
  let s0 := s.tick x.t
  if !s0.hasPort port ∨ 2 ≤ s0.portState port then .next s0
  else
    let again := (s0.portSt port).retrain
    let s1 := if again then s0 else s0.portFlag port Fld.CHN_PORT_STAT_MODE (s0.slipPort port x.first)
    let s2 := if s1.bit (Reg.CHN_PORT_STAT port) Fld.CHN_PORT_STAT_MODE then s1.portFlag port Fld.CHN_PORT_STAT_SLIP_MISS false else s1
    .next ((s2.setPort port 2).setPortSt { freshPortSt port with retrain := again })

/-- EQUALISE_DONE: adapted in HUNT, or loaded from the stored taps in SLIP (R139, R241). -/
def execEqualiseDone (port t : Nat) (s : State) : Host.Outcome State Fault Refusal :=
  let s0 := s.tick t
  if !s0.hasPort port ∨ s0.portState port ≠ 2 then .next s0
  else .next ((s0.trimBringUp port (s0.bit (Reg.CHN_PORT_STAT port) Fld.CHN_PORT_STAT_MODE)).setPort port 3)

/-- The class a count of ones of 16,384 bits gives: logical lane, plus 4 when inverted (R140). -/
def laneClass (ones : Nat) : Option Nat :=
  let near (c : Nat) : Bool := decide (c ≤ ones + 128) && decide (ones ≤ c + 128)
  (List.range 8).find? (fun k => near ([2048, 3072, 4096, 5120, 14336, 13312, 12288, 11264].getD k 0))

/-- One more window of a lane: the class, and how many windows in a row have given it. -/
def windowStep (old : Option Nat) (n : Nat) (now : Option Nat) : Option Nat × Nat :=
  if now.isSome then (now, if now = old then n + 1 else 1) else (none, 0)

/-- IDENTIFY starts again: counted in CHN_RELOCK. -/
def State.identifyAgain (s : State) (p : Nat) : State :=
  ((s.relock p).setPort p 3).setPortSt { freshPortSt p with retrain := (s.portSt p).retrain }

/-- IDENTIFY_WINDOW (R140): three windows of one class on every lane decide polarity and order; two cycles are 74 windows. The clock
lane, whose period has 22 ones of 66 bits, is inverted when more than half its bits are ones. -/
def execIdentifyWindow (w : IdentWindow) (s : State) : Host.Outcome State Fault Refusal :=
  let s0 := s.tick w.t
  if !s0.hasPort w.port ∨ s0.portState w.port ≠ 3 then .next s0
  else
    let x := s0.portSt w.port
    let r := (List.range 4).map (fun k =>
      if 3 ≤ x.same.getD k 0 then (x.classes.getD k none, x.same.getD k 0)
      else windowStep (x.classes.getD k none) (x.same.getD k 0) (laneClass (w.ones.getD k 0)))
    let x1 : PortSt := { x with classes := r.map (·.1), same := r.map (·.2), windows := x.windows + 1 }
    let s1 := s0.setPortSt x1
    if r.all (fun y => decide (3 ≤ y.2)) then
      let logical : List Nat := r.map (fun y => y.1.getD 0 % 4)
      let inverted := ((r.filter (fun y => decide (4 ≤ y.1.getD 0))).map (fun y => 2 ^ (y.1.getD 0 % 4))).sum
      if logical = [0, 1, 2, 3] ∨ logical = [3, 2, 1, 0] then
        let s2 := (s1.put (Reg.CHN_PORT_STAT w.port) Fld.CHN_PORT_STAT_INVERTED inverted).portFlag w.port Fld.CHN_PORT_STAT_REVERSED (logical == [3, 2, 1, 0])
        .next ((s2.portFlag w.port Fld.CHN_PORT_STAT_CLK_INVERTED (decide (8192 < w.clockOnes))).setPort w.port 4)
      else .next (s1.identifyAgain w.port)
    else if 74 ≤ x1.windows then .next (s1.identifyAgain w.port)
    else .next s1

/-- The two hop counts of a tile are known and do not meet R18: the east count is N - 1 - position. -/
def State.hopsDisagree (s : State) : Bool :=
  let w := s.get Reg.CHN_RING ⟨8, 8⟩
  let e := s.get Reg.CHN_RING ⟨16, 8⟩
  let n := s.declaredN 0
  decide (w < 64) && decide (e < 64) && n != 0 && !s.eastAbsent && w + e + 1 != n

/-- MISCABLED as the last TRAIN blocks of both ports give it (R14, R18, R143): a port whose DIR is the other direction's, and the west
port where the hop counts disagree (DESIGN CHOICE, log entry 79: R18 names no port). A miscabled tile has no TA and its outputs stay as
in R2. -/
def State.syncCabling (s : State) (t : Nat) : State :=
  let bad0 := s.chn.dirBad.contains 0 || s.hopsDisagree
  let bad1 := s.chn.dirBad.contains 1
  let s1 := (s.portFlag 0 Fld.CHN_PORT_STAT_MISCABLED bad0).portFlag 1 Fld.CHN_PORT_STAT_MISCABLED bad1
  (if bad0 || bad1 then s1.put Reg.CHN_RING ⟨0, 8⟩ 0xFF else s1).lampPower t

/-- What the TRAIN blocks of a fully locked port say. -/
def State.readTrain (s : State) (p : Nat) (x : TrainIn) (t : Nat) : State :=
  let s1 := (s.portFlag p Fld.CHN_PORT_STAT_DIR (x.dir % 2 == 1)).put (Reg.CHN_PORT_STAT p) Fld.CHN_PORT_STAT_HOP x.hop
  let s2 := (s1.portFlag p Fld.CHN_PORT_STAT_PEER_RX_UP x.rxUp).put (Reg.CHN_PORT_STAT p) Fld.CHN_PORT_STAT_RATE x.rate
  if s2.isSender then s2
  else
    let s3 := s2.put Reg.CHN_RING ⟨8 + 8 * p, 8⟩ x.hop
    let s4 := if x.n = 0 then s3 else s3.put Reg.CHN_RING ⟨24, 8⟩ x.n
    let d := s4.chn.dirBad.filter (· != p)
    ({ s4 with chn := { s4.chn with dirBad := if x.dir % 2 = p then d else p :: d } } : State).syncCabling t

/-- The order in which SLIP tests alignments about the clock marker: 0, +1, -1 and so on to +4 and -4 bits, as OFFSETs modulo 66 (R142). -/
def slipOrder : List Nat := [0, 1, 65, 2, 64, 3, 63, 4, 62]

/-- One more run of blocks in a lane's window of 1,024: its header errors and blocks (R141, R145). -/
def headerWindow (w : Nat × Nat) (errors blocks : Nat) : Nat × Nat :=
  if 1024 ≤ w.2 + blocks then (errors, blocks) else (w.1 + errors, w.2 + blocks)

/-- BLOCK_LOCK (R141, R142): enough valid headers lock a lane; a header error counts and tries the next alignment; a SLIP lane tests nine
alignments about the marker in their order, takes its OFFSET from the one it locks at, and falls back to HUNT when it locks at none. A
locked lane unlocks on 64 header errors within 1,024 blocks, those in an identity pattern excluded. -/
def execBlockLock (l : LockIn) (s : State) : Host.Outcome State Fault Refusal :=
  let s0 := s.tick l.t
  if !s0.hasPort l.port ∨ s0.portState l.port ≠ 4 ∨ 4 ≤ l.lane then .next s0
  else
    let x := s0.portSt l.port
    let slip := s0.bit (Reg.CHN_PORT_STAT l.port) Fld.CHN_PORT_STAT_MODE && decide (x.misses.getD l.lane 0 < 9)
    if x.locked.contains l.lane then
      if !l.error ∨ l.identity then .next s0
      else
        let h := headerWindow (x.headers.getD l.lane (0, 0)) 1 (l.valid + 1)
        let x1 : PortSt := { x with headers := x.headers.set l.lane h }
        .next ((s0.bump (Reg.CHN_HDR_ERR l.port) 1).setPortSt
          (if 64 ≤ h.1 then { x1 with locked := x.locked.filter (· != l.lane), headers := x.headers.set l.lane (0, 0) } else x1))
    else if (if slip then 256 else 4096) ≤ l.valid then
      let x1 : PortSt := { x with locked := l.lane :: x.locked }
      let s1 := (s0.setPortSt x1).put (Reg.CHN_SKEW l.port l.lane) ⟨0, 7⟩ (if slip then slipOrder.getD (x.misses.getD l.lane 0) 0 else l.offset % 66)
      if 4 ≤ x1.locked.length then .next ((s1.readTrain l.port l.train l.t).setPort l.port 5) else .next s1
    else if l.error then
      let m := x.misses.getD l.lane 0 + 1
      let s1 := (s0.bump (Reg.CHN_HDR_ERR l.port) 1).setPortSt { x with misses := x.misses.set l.lane m }
      .next (if slip ∧ 9 ≤ m then s1.portFlag l.port Fld.CHN_PORT_STAT_SLIP_MISS true else s1)
    else .next s0

/-- DESKEW_DONE (R143): a skew beyond 16 ns restarts at IDENTIFY. -/
def execDeskewDone (port : Nat) (skews : List Nat) (t : Nat) (s : State) : Host.Outcome State Fault Refusal :=
  let s0 := s.tick t
  if !s0.hasPort port ∨ s0.portState port ≠ 5 then .next s0
  else
    let rate := laneRate (s0.get (Reg.CHN_PORT_STAT port) Fld.CHN_PORT_STAT_RATE)
    if skews.any (fun k => decide (16 * rate < k * 10)) then .next (s0.identifyAgain port)
    else
      let s1 := (List.range 4).foldl (fun (z : State) k => z.put (Reg.CHN_SKEW port k) ⟨16, 16⟩ (skews.getD k 0)) s0
      .next ((s1.setPort port 6).setPortSt { s1.portSt port with goodRows := 0 })

/-- TRAINING_CYCLE_END: with the far receiver aligned, superframes start; else the cycle repeats (R139, R143). -/
def execTrainingCycleEnd (port : Nat) (rxUp : Bool) (t : Nat) (s : State) : Host.Outcome State Fault Refusal :=
  let s0 := s.tick t
  if !s0.hasPort port then .next s0
  else
    let s1 := if rxUp then s0.portFlag port Fld.CHN_PORT_STAT_PEER_RX_UP true else s0
    if s1.chn.sending.contains port then .next s1
    else if s1.bit (Reg.CHN_PORT_STAT port) Fld.CHN_PORT_STAT_PEER_RX_UP then
      .next { s1 with chn := { s1.chn with sending := port :: s1.chn.sending } }
    else .next (s1.startTraining port)

/-! ### TA, ANNOUNCE and the state of a chain (R15, R18, R143, R144) -/

/-- Tiles of a chain heard by ANNOUNCE. -/
def State.heard (s : State) (c : Nat) : List Nat := (s.chn.announced.filter (fun a => a.1 == c)).map (·.2)

/-- CHN_CHAIN of a sender's chain: tiles announced; UP once every hop is UP at the announced rate. CHAIN_COUNT_MISMATCH (R15) stands from
the announcement of a position that N leaves no tile at, and, the ring return being UP, once the 400 ms of R144 have passed with another
number of tiles announced: until then the count has not ended (DEDUCED, log entry 80). -/
def State.syncChain (s : State) (c : Nat) : State :=
  match s.chains.find? (fun r => r.chain == c) with
  | none => s
  | some r =>
    let l := s.heard c
    let w := s.reg (Reg.CHN_CHAIN c)
    let wrong := l.any (fun p => decide (r.n ≤ p)) || (s.portUp c && bitOf w 9 && decide (l.length ≠ r.n))
    let up := decide (l.length = r.n) && !wrong && s.chn.rated.contains c
    let w1 := putField (putField (putField w 0 7 l.length) 7 1 (flag up)) 8 1 (flag wrong)
    s.setReg (Reg.CHN_CHAIN c) (if up then putField w1 9 1 0 else w1)

/-- Every hop of a chain is UP at the bring-up rate: the primary sends RATE, at least 2,048 superframes ahead (R144). -/
def State.sendRate (s : State) (c : Nat) : State :=
  match s.chains.find? (fun r => r.chain == c) with
  | none => s
  | some r =>
    if s.isMirror ∨ s.chn.rated.contains c ∨ (s.heard c).length ≠ r.n ∨ s.chn.rates.any (fun x => x.dir == c) then s
    else
      let sfn := (tabGet s.chn.sfn c + 4096) % 65536
      let s1 := (s.broadcast c Msg.RATE 0 ([byteOf r.rate] ++ leBytes 2 sfn)).sendLink (.rate c r.rate sfn)
      { s1 with chn := { s1.chn with rates := { dir := c, code := r.rate, sfn := sfn } :: s1.chn.rates } }

/-- ANNOUNCE at a sender. -/
def execAnnounce (a : AnnounceIn) (s : State) : Host.Outcome State Fault Refusal :=
  let s0 := s.tick a.t
  if !s0.isSender then .next s0
  else
    let s1 : State := { s0 with chn := { s0.chn with announced := (a.chain, a.position) :: s0.chn.announced.filter (fun x => x != (a.chain, a.position)) } }
    .next (((s1.syncChain a.chain).sendRate a.chain).syncHealth)

/-- A tile takes its TA when both hop counts are known and meet R18, or the east end is absent (R17, R143), and announces itself. The
chain's number is what ring bring-up gave it (log entry 47). -/
def State.takeTa (s : State) (chain t : Nat) : State :=
  let w := s.get Reg.CHN_RING ⟨8, 8⟩
  let e := s.get Reg.CHN_RING ⟨16, 8⟩
  let absent := s.eastAbsent
  let s0 := s.syncCabling t
  if !s0.portUp 0 ∨ (!s0.portUp 1 ∧ !absent) ∨ 64 ≤ w ∨ s0.ringMiscabled ∨ (!absent ∧ (64 ≤ e ∨ s0.declaredN 0 = 0)) then s0
  else
    let ta := chain % 4 * 64 + w
    let s1 := s0.put Reg.CHN_RING ⟨0, 8⟩ ta
    if s0.ownTa = ta then s1
    else s1.tileSend Msg.ANNOUNCE 0 0 ([byteOf w, byteOf w, byteOf (if absent then 0x7F else e)] ++ identity)

/-- PORT_UP, after three good control rows (R143): a tile's opposite transmitter takes the recovered clock and trains anew, so that the
next hop comes up, unless it held over, in which case it goes on without a phase step (R124); its TA; a sender's ring return. Port 4 is the lockstep
link (R280, R290). -/
def execPortUp (port chain t : Nat) (s : State) : Host.Outcome State Fault Refusal :=
  let s0 := s.tick t
  if port = 4 then
    if !s0.isSender ∨ s0.red.linkUp then .next s0
    else .next (({ s0 with red := { s0.red with linkUp := true, stateAt := t } }.sendHello).syncHealth)
  else if !s0.hasPort port ∨ s0.portState port ≠ 6 ∨ (s0.portSt port).goodRows < 3 then .next s0
  else
    let s1 := (s0.setPort port 7).setPortSt { s0.portSt port with upAt := some t }
    if s1.isSender then .next ((s1.syncChain port).syncHealth)
    else
      let far := opposite port
      let s2 := if s1.bit (Reg.CHN_PORT_STAT port) Fld.CHN_PORT_STAT_TX_HOLDOVER then s1.portFlag port Fld.CHN_PORT_STAT_TX_HOLDOVER false
        else s1.startTraining far
      let s3 : State := { s2 with chn := { s2.chn with holdoverAt := s2.chn.holdoverAt.filter (fun h => h.1 != far),
                                                       fallback := s2.chn.fallback.filter (· != far),
                                                       adopt := s2.chn.adopt || s2.shownPort == some port } }
      .next (s3.takeTa chain t)

/-- A receive port loses lock (R145): it retrains from SIGNAL, and a tile's opposite transmitter holds over. -/
def State.loseLock (s : State) (port t : Nat) : State :=
  if !s.hasPort port ∨ s.portState port < 4 then s
  else
    let was := s.isSender && s.ringEligible port
    let s1 := (((s.relock port).holdOver port t).portFlag port Fld.CHN_PORT_STAT_PEER_RX_UP false).restartPort port true
    if s1.isSender then
      let s2 : State := if was then { s1 with red := { s1.red with ringAt := some t } } else s1
      (s2.syncChain port).syncHealth
    else s1.syncAligned

/-- LOSS_OF_LOCK (R145), on whichever of its causes; port 4 is the lockstep link (R280). -/
def execLossOfLock (port : Nat) (_cause : LockLoss) (t : Nat) (s : State) : Host.Outcome State Fault Refusal :=
  let s0 := s.tick t
  if port = 4 then (if s0.isSender ∧ s0.red.linkUp then .next (s0.linkLost.applyFlag) else .next s0)
  else .next (s0.loseLock port t)

/-- PLL_HOLDOVER_EXPIRY: 10 s of holdover have passed (R124). -/
def execPllHoldoverExpiry (port t : Nat) (s : State) : Host.Outcome State Fault Refusal :=
  let s0 := s.tick t
  if s0.chn.holdoverAt.any (fun h => h.1 == port && decide (h.2 + 10 * secT ≤ t)) && !s0.chn.fallback.contains port then
    .next { s0 with chn := { s0.chn with fallback := port :: s0.chn.fallback } }
  else .next s0

/-- CHAIN_DOWN: a chain not up within 400 ms, with its first hop not UP (R144). -/
def execChainDown (chain t : Nat) (s : State) : Host.Outcome State Fault Refusal :=
  let s0 := s.tick t
  let w := s0.reg (Reg.CHN_CHAIN chain)
  match s0.chains.find? (fun r => r.chain == chain) with
  | none => .next s0
  | some r =>
    if !s0.isSender ∨ bitOf w 7 ∨ !s0.chn.bringUp.any (fun b => b.1 == chain && decide (b.2 + 400 * msT ≤ t)) then .next s0
    else
      let first := ((List.range r.n).find? (fun p => !(s0.heard chain).contains p)).getD r.n
      .next (((s0.setReg (Reg.CHN_CHAIN chain) (putField (putField w 9 1 1) 16 7 first)).syncChain chain).syncHealth)

/-- EAST_ABSENT: 4,096 blocks without a valid east stream (R17). -/
def execEastAbsent (chain t : Nat) (s : State) : Host.Outcome State Fault Refusal :=
  let s0 := s.tick t
  let rate := laneRate (s0.get (Reg.CHN_PORT_STAT 1) Fld.CHN_PORT_STAT_RATE)
  if s0.isSender ∨ t < s0.chn.eastAt + 4096 * 660 * nsT / rate then .next s0
  else .next ((s0.portFlag 1 Fld.CHN_PORT_STAT_ABSENT true).takeTa chain t)

/-! ### Rates and slips (R142, R144) -/

/-- RATE: the switch of the direction is scheduled; the mirror sends it on its own chain. -/
def execRate (port code sfn t : Nat) (s : State) : Host.Outcome State Fault Refusal :=
  let s0 := s.tick t
  if !s0.hasPort port ∨ 8 ≤ code then .next s0
  else
    let s1 : State := { s0 with chn := { s0.chn with rates := { dir := port, code := code, sfn := sfn % 65536 } :: s0.chn.rates.filter (fun x => x.dir != port) } }
    if s1.isSender then .next (s1.broadcast port Msg.RATE 0 ([byteOf code] ++ leBytes 2 sfn)) else .next s1

/-- The SFN of a direction has reached another, modulo 65,536. -/
def sfnReached (now at_ : Nat) : Bool := decide ((now + 65536 - at_ % 65536) % 65536 < 32768)

/-- RATE_SWITCH: at the announced SFN the direction's transmitters switch and its hops come up again; a tile's row of the
direction comes from its receive port. -/
def execRateSwitch (port t : Nat) (s : State) : Host.Outcome State Fault Refusal :=
  let s0 := s.tick t
  match s0.chn.rates.find? (fun x => x.dir == port) with
  | none => .next s0
  | some x =>
    let now := if s0.isSender then tabGet s0.chn.sfn port else tabGet s0.chn.sfnRx port
    if !sfnReached now x.sfn then .next s0
    else
      let s1 := ((s0.holdOver port t).put (Reg.CHN_PORT_STAT port) Fld.CHN_PORT_STAT_RATE x.code).restartPort port false
      let s2 := s1.stopSending (s1.upstream port)
      let s3 : State := { s2 with chn := { s2.chn with rates := s2.chn.rates.filter (fun y => y.dir != port),
                                                       rated := port :: s2.chn.rated.filter (· != port),
                                                       announced := s2.chn.announced.filter (fun a => a.1 != port) } }
      if s3.isSender then .next (s3.syncChain port) else .next (((s3.put Reg.CHN_RING ⟨0, 8⟩ 0xFF).syncAligned).lampPower t)

/-- TXSLIP: four slips of 0 to 65, else ignored as a whole. -/
def execTxslip (port : Nat) (slips : List Nat) (t : Nat) (s : State) : Host.Outcome State Fault Refusal :=
  let s0 := s.tick t
  if !s0.hasPort port ∨ slips.length ≠ 4 ∨ slips.any (fun x => decide (65 < x)) then .next s0
  else .next (s0.setNum (Reg.CHN_TXSLIP port) (leNat (slips.map byteOf)))

/-! ### Express symbols (R132 to R136) -/

/-- The express code and ESEQ a lane's block passes with (R132). -/
def expressBlock (b : Block) : Option (Nat × Nat) :=
  if b.header ≠ 2 ∨ byteAt b.bytes 0 ≠ 0x66 ∨ byteAt b.bytes 5 ≠ byteAt b.bytes 6 then none
  else
    ([0x96, 0xF0, 0x69].find? (fun c => decide (3 ≤ ((List.range 4).filter (fun i => byteAt b.bytes (1 + i) == c)).length))).map
      (fun c => (c, byteAt b.bytes 5))

/-- EXP_STATE after a code (Table 7.6). -/
def expressState (old code : Nat) : Nat := if code = 0x96 then old ||| 1 else if code = 0xF0 then old ||| 2 else if code = 0x69 then 0 else old

/-- A tile's outputs follow an express state, which CHN_EXP_STATE shows with its ESEQ. -/
def State.showExpress (s : State) (st seq t : Nat) : State :=
  let s1 := s.setNum Reg.CHN_EXP_STATE (st % 4 + seq % 256 * 256)
  (s1.setDark (natBit st 1)).setBlank 1 (natBit st 0) t

/-- Header errors of a row (R125): counted per lane in CHN_HDR_ERR and in its window of 1,024 blocks, where 64 lose lock (R145); one within
1 ms of a tap step takes that step back (R242). -/
def State.countHeaders (s : State) (port : Nat) (blocks : List Block) (t : Nat) : State :=
  let bad (k : Nat) : Bool := (blocks[k]?).any (fun b => b.header != 1 && b.header != 2)
  let s1 := ((List.range 4).filter bad).foldl (fun (z : State) k => (z.bump (Reg.CHN_HDR_ERR port) 1).trimRevert (10 * port + k) t) s
  let x := s1.portSt port
  let h := (List.range 4).map (fun k => headerWindow (x.headers.getD k (0, 0)) (flag (bad k)) 1)
  let s2 := s1.setPortSt { x with headers := h }
  if h.any (fun w => decide (64 ≤ w.1)) then s2.loseLock port t else s2

/-- A row error (R126): counted, and forwarded unchanged in its position. -/
def State.rowErrorRow (s : State) (port : Nat) (blocks : List Block) : State :=
  let s1 := s.bump (Reg.CHN_ROW_ERR port) 1
  if s1.forwards port then s1.emit (.row port blocks) else s1

/-- Every block of a row is an EXPRESS block, so that the forwarding pipeline recognises and deletes the row (R126, R133). -/
def expressRow (blocks : List Block) : Bool := blocks.length == 4 && blocks.all (fun b => b.header == 2 && byteAt b.bytes 0 == 0x66)

/-- A tile places an EXPRESS row on its opposite transmit port (R133): the rows in its pipeline move back by one, and the received row is
deleted at the pipeline's end; one that is not recognised there goes on as a row error, and the next IDLE row is deleted instead. -/
def State.placeExpress (s : State) (port code seq : Nat) (blocks : List Block) : State :=
  let far := opposite port
  let s1 := if s.forwards port then s.emit (.express far code seq) else s
  if expressRow blocks then s1
  else
    let s2 := s1.rowErrorRow port blocks
    if s2.forwards port then { s2 with chn := { s2.chn with dropIdle := tabAdd s2.chn.dropIdle far 1 } } else s2

/-- EXPRESS_SYMBOL_RX: counted, forwarded by a tile whatever its state, acted on from the shown stream of an UP port; a row that passes on
no lane is a row error. -/
def execExpressSymbolRx (port : Nat) (blocks : List Block) (t : Nat) (s : State) : Host.Outcome State Fault Refusal :=
  let s0 := s.tick t
  if !s0.hasPort port ∨ !s0.coreLive then .next s0
  else
    let s1 := s0.countHeaders port blocks t
    match blocks.findSome? expressBlock with
    | none => .next (s1.rowErrorRow port blocks)
    | some (code, seq) =>
      let s2 := s1.bump (Reg.CHN_EXP_RX port) 1
      if s2.isSender then .next s2
      else
        let s3 := s2.placeExpress port code seq blocks
        if s3.shownPort = some port ∧ s3.portUp port then
          .next (s3.showExpress (expressState (fieldOf (s3.reg Reg.CHN_EXP_STATE) 0 2) code) seq t)
        else .next s3

/-- The code of a request: 1 BLANK, 2 DARK, 3 CLEAR. -/
def requestCode (k : Nat) : Nat := if k = 1 then 0x96 else if k = 2 then 0xF0 else 0x69

/-- A symbol goes out on a chain with an ESEQ; a request of the same superframe that it covers is merged into it, one of an earlier
superframe still waits; this sender's rows move back by one (R136). -/
def State.sendSymbol (s : State) (x : ExpTx) (k eseq : Nat) : State :=
  let st := expressState (fieldOf (s.reg Reg.CHN_EXP_STATE) (2 * x.chain) 2) (requestCode k)
  let x1 : ExpTx := { x with eseq := eseq % 256, want := if k ≤ x.want then 0 else x.want, sentNow := true,
                               inWindow := if k = 1 then x.inWindow else x.inWindow + 1, behind := x.behind + 1 }
  let s1 := s.put Reg.CHN_EXP_STATE ⟨2 * x.chain, 2⟩ st
  { s1 with chn := { s1.chn with exp := s1.chn.exp.map (fun (y : ExpTx) => if y.chain = x.chain then x1 else y) } }.emit (.express x.chain (requestCode k) (eseq % 256))

/-- A request kept for later, merged with another of its superframe, BLANK over DARK over CLEAR. -/
def State.keepRequest (s : State) (c k : Nat) : State :=
  { s with chn := { s.chn with exp := s.chn.exp.map (fun (y : ExpTx) =>
      if y.chain = c then { y with want := if y.want = 0 then k else Nat.min y.want k } else y) } }

/-- Originate a request on a chain under the limits of R136; the primary of a formed pair relays it. -/
def State.originate (s : State) (c k : Nat) : State :=
  match s.chn.exp.find? (fun x => x.chain == c) with
  | none => s
  | some x =>
    let old := fieldOf (s.reg Reg.CHN_EXP_STATE) (2 * c) 2
    if expressState old (requestCode k) = old then s
    else if k = 1 then
      let s1 := s.sendSymbol x k (x.eseq + 1)
      if s1.formed && !s1.isMirror then s1.sendLink (.express (2 ^ c) 1 ((x.eseq + 1) % 256)) else s1
    else if 16 ≤ x.inWindow then (s.keepRequest c k).bump Reg.CHN_EXP_DEFER 1
    else if x.sentNow ∨ (k = 3 ∧ s.chn.blankLow) then s.keepRequest c k
    else
      let s1 := s.sendSymbol x k (x.eseq + 1)
      if s1.formed && !s1.isMirror then s1.sendLink (.express (2 ^ c) k ((x.eseq + 1) % 256)) else s1

/-- The oldest request that waits on a chain and may go is tried again. -/
def State.retryExpress (s : State) (c : Nat) : State :=
  match s.chn.exp.find? (fun x => x.chain == c) with
  | none => s
  | some x =>
    let waits := x.older ++ (if x.want = 0 then [] else [x.want])
    match waits.find? (fun k => decide (x.inWindow < 16) && !(k == 3 && s.chn.blankLow)) with
    | none => s
    | some k =>
      let drop (y : ExpTx) : ExpTx := if y.older.contains k then { y with older := y.older.erase k } else { y with want := 0 }
      ({ s with chn := { s.chn with exp := s.chn.exp.map (fun (y : ExpTx) => if y.chain = c then drop y else y) } } : State).originate c k

/-- A chain window opens: its 16 CLEAR and DARK symbols are free again (R136). -/
def State.expressWindow (s : State) : State :=
  let s1 : State := { s with chn := { s.chn with exp := s.chn.exp.map (fun (y : ExpTx) => { y with inWindow := 0 }) } }
  s1.chn.exp.foldl (fun (z : State) y => z.retryExpress y.chain) s1

/-- A write to CHN_EXPRESS: ignored at a tile and at a formed mirror. -/
def State.expressWrite (s : State) (data : Word) : State :=
  let k := fieldOf data 4 2
  if !s.isSender ∨ s.formedMirror ∨ k = 0 then s
  else (setBits 4 (fieldOf data 0 4)).foldl (fun (z : State) c => z.originate c k) s

/-- EXPRESS_RECORD: the mirror originates the primary's symbol with its ESEQ. -/
def execExpressRecord (mask code eseq t : Nat) (s : State) : Host.Outcome State Fault Refusal :=
  let s0 := s.tick t
  if !s0.formedMirror ∨ code = 0 ∨ 3 < code then .next s0
  else .next ((setBits 4 mask).foldl (fun (z : State) c =>
    match z.chn.exp.find? (fun x => x.chain == c) with
    | none => z
    | some x => z.sendSymbol x code eseq) s0)

/-- The input filter of BLANK_N (R231): a level held shorter than 3 ns does not pass, one held 6 ns or more passes, and between the two the
spec leaves it open. -/
def State.blankFilter (s : State) (holds : Nat) : Bool × State :=
  if holds < 3 * nsT then (false, s)
  else if 6 * nsT ≤ holds then (true, s)
  else (s.takeFree.1 % 2 == 1, s.takeFree.2)

/-- BLANK_N_FALL: BLANK_N goes low for `e.holds`; past the filter a tile's rows go inactive, and a sender originates BLANK on every chain
(R136, R231). -/
def execBlankNFall (e : PinEdge) (s : State) : Host.Outcome State Fault Refusal :=
  let f := (s.tick e.t).blankFilter e.holds
  if !f.1 then .next f.2
  else
    let s0 := f.2.setBlank 0 true e.t
    let s1 : State := { s0 with chn := { s0.chn with blankLow := true } }
    if s1.isSender && !f.2.chn.blankLow then .next ((List.range 4).foldl (fun (z : State) c => z.originate c 1) s1) else .next s1

/-- BLANK_N_RISE: BLANK_N goes high for `e.holds`; past the filter source 0 clears, and a CLEAR that waits may go (R136, R231). -/
def execBlankNRise (e : PinEdge) (s : State) : Host.Outcome State Fault Refusal :=
  let f := (s.tick e.t).blankFilter e.holds
  if !f.1 then .next f.2
  else
    let s0 := f.2.setBlank 0 false e.t
    let s1 : State := { s0 with chn := { s0.chn with blankLow := false } }
    if s1.isSender then .next (s1.chn.exp.foldl (fun (z : State) x => z.retryExpress x.chain) s1) else .next s1

/-! ### Fragments (R130, R131) -/

/-- The next fragment of a port's oldest message: header byte and 11 bytes. -/
def State.takeFrag (s : State) (port : Nat) : Nat × List Byte × State :=
  match s.chn.tx.find? (fun m => m.port == port) with
  | none => (0, zeroBytes 11, s)
  | some m =>
    let bs := (m.bytes.drop m.sent).take 11
    let last := decide (m.bytes.length ≤ m.sent + 11)
    let hdr := bs.length + (if m.sent = 0 then 128 else 0) + (if last then 64 else 0)
    let rec put : List TxMsg → List TxMsg
      | [] => []
      | x :: xs => if x.port = port then (if last then xs else { x with sent := x.sent + 11 } :: xs) else x :: put xs
    (hdr, bs ++ zeroBytes (11 - bs.length), { s with chn := { s.chn with tx := put s.chn.tx } })

/-- A message this device takes is complete: it must pass R131; its effect is the command of its own row (log entry 46). -/
def State.messageDone (s : State) (port : Nat) (bs : List Byte) : State :=
  if messageOk bs then s else s.bump (Reg.CHN_MSG_ERR port) 1

/-- One received fragment of a message of an origin: it is kept when `take`; whether its message is this device's alone, so that the
fragment is forwarded empty. -/
def State.gather (s : State) (port origin hdr : Nat) (frag : List Byte) (take mine : List Byte → Bool) : Bool × State :=
  let bs := frag.take (hdr % 16)
  let rest := s.chn.asm.filter (fun x => !(x.port == port && x.origin == origin))
  let cur := if natBit hdr 7 then (if take bs then some ({ port := port, origin := origin, mine := mine bs, bytes := bs } : FragAsm) else none)
    else (s.chn.asm.find? (fun x => x.port == port && x.origin == origin)).map (fun x => { x with bytes := x.bytes ++ bs })
  match cur with
  | none => (false, { s with chn := { s.chn with asm := rest } })
  | some x =>
    if natBit hdr 6 then (x.mine, ({ s with chn := { s.chn with asm := rest } } : State).messageDone port x.bytes)
    else (x.mine, { s with chn := { s.chn with asm := x :: rest } })

/-- The tile whose odd fragment an SFN carries (R130). -/
def fragOwner (sfn n : Nat) : Nat := if n = 0 then 0 else sfn / 2 % n

/-- A tile handles a row's fragment: what it forwards (R130, R131). A fragment of its own leaves its queue only with a row that goes on. -/
def State.tileFragment (s : State) (port : Nat) (row : CtlRow) (sends : Bool) : Nat × List Byte × State :=
  let cnt := row.fragHdr % 16
  let n := s.declaredN 0
  if 11 < cnt then (0, zeroBytes 11, s.bump (Reg.CHN_FRAG_ERR port) 1)
  else if row.sfn % 2 = 1 then
    if sends ∧ cnt = 0 ∧ s.ownTa ≠ 0xFF ∧ fragOwner row.sfn n = s.ownTa % 64 then s.takeFrag (opposite port)
    else (row.fragHdr, row.frag, s)
  else if cnt = 0 then (row.fragHdr, row.frag, s)
  else
    let ta := s.ownTa
    let r := s.gather port 0 row.fragHdr row.frag
      (fun bs => natBit (byteAt bs 1) 0 || (ta != 0xFF && byteAt bs 2 == ta))
      (fun bs => !natBit (byteAt bs 1) 0)
    if r.1 then (0, zeroBytes 11, r.2) else (row.fragHdr, row.frag, r.2)

/-- A tile message that a sender takes: every unsolicited one, and a response that names its SIDE (R131). -/
def State.takesTileMessage (s : State) (bs : List Byte) : Bool :=
  !([Msg.REG_RSP, Msg.MBOX_RSP].contains (byteAt bs 0)) || flag (natBit (byteAt bs 1) 2) == s.side

/-- A sender's ring return takes tile messages; other messages end there (R131). -/
def State.senderFragment (s : State) (port : Nat) (row : CtlRow) : State :=
  if 11 < row.fragHdr % 16 then s.bump (Reg.CHN_FRAG_ERR port) 1
  else if row.sfn % 2 = 0 ∨ row.fragHdr % 16 = 0 then s
  else (s.gather port (1 + fragOwner row.sfn (s.declaredN port)) row.fragHdr row.frag s.takesTileMessage (fun _ => true)).2

/-! ### Control rows (R129, R135, R138) -/

/-- A new value of d from a row that echoes a control row this port sent (R138). -/
def State.measureDelay (s : State) (c : CtlIn) : State :=
  match s.chn.departed.find? (fun r => r.1 == c.port && r.2.1 == c.row.echo) with
  | none => s
  | some (_, _, t1) =>
    if !s.chn.sending.contains c.port then s
    else
      let asym := signedOf 24 (s.reg (Reg.TIM_ASYM_CHN c.port)).toNat
      let d := (((c.t : Int) - t1) / 256 - (c.row.turn : Int)) / 2 + asym
      let l := (d :: ((s.chn.delays.find? (fun x => x.1 == c.port)).map (·.2)).getD []).take 256
      let mean := l.sum / (l.length : Int)
      let s1 : State := { s with chn := { s.chn with delays := (c.port, l) :: s.chn.delays.filter (fun x => x.1 != c.port) } }
      s1.setNum (Reg.CHN_LINKDLY c.port) (codeOf 24 mean + 2 ^ 31)

/-- The tile's comparison of EXP_SEQ with the ESEQ it last acted on (R135). -/
def State.repairExpress (s : State) (c : CtlIn) : State :=
  if s.shownPort ≠ some c.port then s
  else if s.chn.adopt then { s.showExpress c.row.expState c.row.expSeq c.t with chn := { (s.showExpress c.row.expState c.row.expSeq c.t).chn with adopt := false } }
  else
    let k := (c.row.expSeq + 256 - fieldOf (s.reg Reg.CHN_EXP_STATE) 8 8) % 256
    if 1 ≤ k ∧ k ≤ 127 then (s.showExpress c.row.expState c.row.expSeq c.t).bump (Reg.CHN_EXP_REPAIR c.port) 1 else s

/-- ECHO_SFN and TURN of a row that departs on a port: its last good control row of the reverse direction, the time since its
arrival in 2^-8 ns. -/
def State.echoOf (s : State) (p departs : Nat) : Nat × Nat :=
  match s.lastCtl? p with
  | none => (0, 0)
  | some l => (l.row.sfn, (departs - l.t) / 256 % 2 ^ 24)

/-- A control row leaves on a port: its departure stamp is kept, and at a sender a row whose SFN is a multiple of 16,384 owes a TIME
message (R172). -/
def State.sendControl (s : State) (p departs : Nat) (row : CtlRow) : State :=
  let d := (p, row.sfn, departs) :: (s.chn.departed.filter (fun r => !(r.1 == p && r.2.1 == row.sfn))).take 255
  let owed := if s.isSender && row.sfn % 16384 == 0 then (p, row.sfn, departs) :: s.chn.timeOwed.filter (fun r => r.1 != p) else s.chn.timeOwed
  ({ s with chn := { s.chn with departed := d, timeOwed := owed } } : State).emit (.control p row)

/-- The row a tile sends on for a received one (R129). -/
def State.regenerate (s : State) (c : CtlIn) (base : CtlRow) (sfn hdr : Nat) (frag : List Byte) (good : Bool) : CtlRow :=
  let far := opposite c.port
  let e := s.echoOf far c.departs
  let d := s.lastDelay c.port
  let corr := if good then codeOf 32 ((base.corr : Int) + d + ((c.departs - c.t : Nat) : Int) / 256) else base.corr
  let fl := base.flags % 32 / 8 * 8 + base.flags % 4 + 4 * flag (s.rxAligned far)
  { sfn := sfn, echo := e.1, turn := e.2, corr := corr, expState := base.expState, expSeq := base.expSeq, flags := fl, fragHdr := hdr, frag := frag }

/-- A control row with a failing HCRC: counted; forwarded with the last good row's fields and the SFN after the last (R129); the fourth in
a row loses lock (R145). -/
def State.badControl (s : State) (c : CtlIn) : State :=
  let x := s.portSt c.port
  let s1 := (s.bump (Reg.CHN_CTL_CRC c.port) 1).setPortSt { x with goodRows := 0, badRows := x.badRows + 1 }
  let sfn := (tabGet s1.chn.sfnRx c.port + 1) % 65536
  let s2 : State := { s1 with chn := { s1.chn with sfnRx := tabSet s1.chn.sfnRx c.port sfn } }
  let s3 := match s2.lastCtl? c.port with
    | none => s2
    | some l => if s2.forwards c.port then s2.sendControl (opposite c.port) c.departs (s2.regenerate c l.row sfn c.row.fragHdr c.row.frag false) else s2
  if 3 ≤ x.badRows then s3.loseLock c.port c.t else s3

/-- A good control row: PEER_RX_UP as received, 16 rows in a row at 0 send the transmitter back to training (R145); good rows in a row,
each 32 rows after the one before, so that its SFN is the next (R126, R143). -/
def State.notePeer (s : State) (c : CtlIn) : State :=
  let up := natBit c.row.flags 2
  let x := s.portSt c.port
  let z := if up then 0 else x.peerZero + 1
  let next := c.row.sfn % 65536 == (tabGet s.chn.sfnRx c.port + 1) % 65536
  let s1 := (s.portFlag c.port Fld.CHN_PORT_STAT_PEER_RX_UP up).setPortSt
    { x with peerZero := z, goodRows := if next then x.goodRows + 1 else 1, badRows := 0 }
  if 16 ≤ z then s1.stopSending c.port else s1

/-- CONTROL_ROW_RX. -/
def execControlRowRx (c : CtlIn) (s : State) : Host.Outcome State Fault Refusal :=
  let s0 := s.tick c.t
  if !s0.hasPort c.port ∨ s0.portState c.port < 6 then .next s0
  else if !c.hcrcOk then .next (s0.badControl c)
  else
    let s1 := (s0.notePeer c).portFlag c.port Fld.CHN_PORT_STAT_UPSTREAM_LOST (natBit c.row.flags 3)
    let s2 := s1.measureDelay c
    let rows := if c.row.sfn % 16384 = 0 then (c.port, c.row.sfn, c.t, c.row.corr) :: s2.chn.timeRows.filter (fun r => r.1 != c.port) else s2.chn.timeRows
    let s3 : State := { s2 with chn := { s2.chn with timeRows := rows, sfnRx := tabSet s2.chn.sfnRx c.port c.row.sfn,
                                                     last := { port := c.port, row := c.row, t := c.t } :: s2.chn.last.filter (fun l => l.port != c.port) } }
    if s3.isSender then
      let s4 := s3.senderFragment c.port c.row
      .next ({ s4 with red := { s4.red with ringAt := if s4.ringEligible c.port then some c.t else s4.red.ringAt } }.syncHealth)
    else
      let s4 := (s3.repairExpress c).setNum (Reg.CHN_RESID c.port) ((c.departs - c.t) / 256 % 65536)
      let s5 : State := if c.port = 1 ∧ !natBit c.row.flags 3 then
          { s4.portFlag 1 Fld.CHN_PORT_STAT_ABSENT false with chn := { s4.chn with eastAt := c.t } } else s4
      let f := s5.tileFragment c.port c.row (s5.forwards c.port)
      if s5.forwards c.port then
        .next (f.2.2.sendControl (opposite c.port) c.departs (f.2.2.regenerate c c.row c.row.sfn f.1 f.2.1 true))
      else .next f.2.2

/-- SUPERFRAME: a sender's row 0, after an express symbol that waits (R126, R130, R133), with an IDLE row of the superframe omitted while
its rows are behind (R136); a tile's own row in holdover, with UPSTREAM_LOST and EXP_STATE held, and 31 IDLE content rows (R145). -/
def execSuperframe (port t : Nat) (s : State) : Host.Outcome State Fault Refusal :=
  let s0 := s.tick t
  if !s0.hasPort port ∨ !s0.chn.sending.contains port ∨ s0.dbg.forced then .next s0
  else if s0.isSender then
    let late (y : ExpTx) : ExpTx := { y with sentNow := false, older := if y.want = 0 then y.older else y.older ++ [y.want], want := 0,
                                             behind := y.behind - 1 }
    let owed := s0.chn.exp.any (fun y => y.chain == port && y.behind != 0)
    let s1 : State := { s0 with chn := { s0.chn with exp := s0.chn.exp.map (fun (y : ExpTx) => if y.chain = port then late y else y) } }
    let s2 := (if owed then s1.emit (.idleOmitted port) else s1).retryExpress port
    let sfn := (tabGet s2.chn.sfn port + 1) % 65536
    let f := if sfn % 2 = 0 then s2.takeFrag port else (0, zeroBytes 11, s2)
    let s3 : State := { f.2.2 with chn := { f.2.2.chn with sfn := tabSet f.2.2.chn.sfn port sfn } }
    let e := s3.echoOf port t
    let fl := flag (s3.bit Reg.RED_STATE Fld.RED_STATE_ACTIVE) + 2 * s3.side + 4 * flag (s3.rxAligned port) + 16 * flag s3.timeValid
    .next (s3.sendControl port t { sfn := sfn, echo := e.1, turn := e.2, corr := 0, expState := fieldOf (s3.reg Reg.CHN_EXP_STATE) (2 * port) 2, expSeq := ((s3.chn.exp.find? (fun x => x.chain == port)).map (·.eseq)).getD 0, flags := fl, fragHdr := f.1, frag := f.2.1 })
  else
    let rx := opposite port
    let alone := s0.bit (Reg.CHN_PORT_STAT rx) Fld.CHN_PORT_STAT_TX_HOLDOVER || (rx == 1 && s0.eastAbsent)
    if !alone ∨ (port = 1 ∧ s0.eastAbsent) then .next s0
    else
      let sfn := (tabGet s0.chn.sfnRx rx + 1) % 65536
      let n := s0.declaredN 0
      let mine := sfn % 2 == 1 && s0.ownTa != 0xFF && fragOwner sfn n == s0.ownTa % 64
      let f := if mine then s0.takeFrag port else (0, zeroBytes 11, s0)
      let s1 : State := { f.2.2 with chn := { f.2.2.chn with sfnRx := tabSet f.2.2.chn.sfnRx rx sfn } }
      let e := s1.echoOf port t
      let old := (s1.lastCtl? rx).map (·.row)
      .next ((s1.emit (.idleRows port 31)).sendControl port t { sfn := sfn, echo := e.1, turn := e.2, corr := (old.map (·.corr)).getD 0, expState := (old.map (·.expState)).getD 0, expSeq := (old.map (·.expSeq)).getD 0, flags := (old.map (fun r => r.flags % 4 + r.flags / 16 % 2 * 16)).getD 0 + 8 + 4 * flag (s1.rxAligned port), fragHdr := f.1, frag := f.2.1 })

/-! ### Rows (R125 to R128, R137) -/

/-- Whether a SLICE_START row's HCRC holds, over the 26 bytes from lane 0 byte 1 to lane 3 byte 5 (R127). -/
def startOk (row : List Byte) : Bool :=
  let covered := slice row 1 7 ++ slice row 9 7 ++ slice row 17 7 ++ slice row 25 5
  crc16 covered == leAt row 30 2

/-- An IDLE row (Table 7.2). -/
def idleRow : List Block := List.replicate 4 { header := 2, bytes := byteOf 0x1E :: zeroBytes 7 }

/-- Data rows of a port's slice still to come, and whether the slice is this tile's own. -/
def State.slicePending (s : State) (p : Nat) : Nat × Bool := ((s.chn.inSlice.find? (fun x => x.1 == p)).map (·.2)).getD (0, false)
def State.setSlice (s : State) (p n : Nat) (own : Bool) : State :=
  { s with chn := { s.chn with inSlice := (p, n, own) :: s.chn.inSlice.filter (fun x => x.1 != p) } }

/-- A row is a row error: a header error, blocks of more than one kind, an unlisted type, a data row outside a slice, or a
SLICE_START whose HCRC fails or whose ROWS is 0 (R126 to R128). -/
def rowError (left : Nat) (blocks : List Block) : Bool :=
  let types := blocks.map (fun b => byteAt b.bytes 0)
  let row := blocks.flatMap (·.bytes)
  if blocks.length ≠ 4 ∨ blocks.any (fun b => b.header != 1 && b.header != 2) then true
  else if blocks.all (fun b => b.header == 1) then left == 0
  else if blocks.all (fun b => b.header == 2) then
    match types with
    | k :: ks => !(ks.all (· == k)) || !([0x1E, 0x2D, 0x33, 0x55, 0x66, 0x78].contains k) || (k == 0x78 && (!startOk row || leAt row 9 3 == 0))
    | [] => true
  else true

/-- ROW_FORWARD: errors are counted; a tile sends the row on, with IDLE rows in place of the data rows of a slice it consumes, whose
SLICE_START its SLICE_RX replaces (R128); an IDLE row owed to an express row is deleted (R133). -/
def execRowForward (port : Nat) (blocks : List Block) (t : Nat) (s : State) : Host.Outcome State Fault Refusal :=
  let s0 := s.tick t
  if !s0.hasPort port ∨ s0.portState port < 6 then .next s0
  else
    let s1 := s0.countHeaders port blocks t
    let p := s1.slicePending port
    let bad := rowError p.1 blocks
    let s2 := if bad then s1.bump (Reg.CHN_ROW_ERR port) 1 else s1
    let row := blocks.flatMap (·.bytes)
    let data := !bad && blocks.all (fun b => b.header == 1)
    let start := !bad && blocks.all (fun b => b.header == 2 && byteAt b.bytes 0 == 0x78)
    let own := start && s2.consumes port (byteAt row 1) (leAt row 3 5)
    let s3 := if start then s2.setSlice port (leAt row 9 3) own else if data then s2.setSlice port (p.1 - 1) p.2 else s2
    let idle := blocks == idleRow || (data && p.2)
    if !s3.forwards port ∨ own then .next s3
    else if idle ∧ tabGet s3.chn.dropIdle (opposite port) ≠ 0 then
      .next { s3 with chn := { s3.chn with dropIdle := tabSet s3.chn.dropIdle (opposite port) (tabGet s3.chn.dropIdle (opposite port) - 1) } }
    else .next (s3.emit (.row port (if idle then idleRow else blocks)))

/-! ### The reference clock (R368) -/

/-- REFCLK_CORE_STOP: generators fall to their fallback, at a frequency the spec does not state; the transmit PLLs hold. -/
def execRefclkCoreStop (t : Nat) (s : State) : Host.Outcome State Fault Refusal :=
  let s0 := s.tick t
  let isl := (s0.image?.map (fun im => (im.islands.filter (·.enabled)).map (·.island))).getD []
  let s1 := isl.foldl (fun (z : State) i =>
    let f := z.takeFree
    f.2.setNum (Reg.GEN_ISL_CLK i) (f.1 % 65536 + 2 ^ 16 + 2 ^ 17 + ((z.reg (Reg.GEN_ISL_CLK i)).toNat / 2 ^ 18) * 2 ^ 18)) s0
  let ports := if s1.isSender then [0, 1, 2, 3] else [0, 1]
  .next { s1 with chn := { s1.chn with refclk := false, holdoverAt := ports.map (fun p => (p, t)) } }

/-! ### Registers (R146) -/

/-- Counters of the CHN block. -/
def chnCounter (a : Nat) : Bool :=
  (decide (a < Reg.CHN_EXPRESS) && decide (0x70000 ≤ a) && inRange (a % 0x100) 0x40 0x60) || a == Reg.CHN_EXP_DEFER

/-- A write in the CHN block. -/
def State.chnWrite (s : State) (a : Nat) (data : Word) : State :=
  if a = Reg.CHN_EXPRESS then s.expressWrite data
  else if a = Reg.CHN_CNT_CLEAR then s.clearCounters data chnCounter
  else if a < Reg.CHN_EXPRESS ∧ a % 0x100 = 0 then
    let p := (a - 0x70000) / 0x100
    if !s.hasPort p then s
    else
      let s1 := s.plainWrite a data
      if bitOf data 0 then
        let first := s1.get (Reg.CHN_PORT_STAT p) Fld.CHN_PORT_STAT_HOP == 0
        (((s1.relock p).holdOver p s1.now).portFlag p Fld.CHN_PORT_STAT_MODE (s1.slipPort p first)).restartPort p false |>.syncAligned
      else s1
  else if a < Reg.CHN_EXPRESS ∧ a % 0x100 = 8 then
    if [fieldOf data 0 7, fieldOf data 8 7, fieldOf data 16 7, fieldOf data 24 7].any (fun x => decide (65 < x)) then s else s.plainWrite a data
  else s.plainWrite a data

end Sys2Proof.Machine
end

