-- ==== Sys2Proof/Machine/RegRead.lean ====
section
/-! DEFINITION. Reading a register on a path: which path and which block answers, the registers computed at a read, the reads that
latch or pop (R7 to R10, R13, R303, R304, R345). -/
namespace Sys2Proof.Machine

/-- Whether a register path answers now (Table 20.1, R10, R303, R304, R329). JTAG reaches registers through DBG_ACCESS alone
(Table 23.2); the meter port has its own frames (R336). -/
def State.regPathOpen (s : State) (p : Path) : Bool :=
  if !s.umb.powered then false
  else if s.pstate = Ps.UMBRA then p == .spi
  else s.umb.coreOut &&
    match p with
    | .spi => true
    | .pcie => s.isSender || s.recovery
    | .mgmt k => (s.isSender || s.recovery) && s.ing.sessions.any (fun x => x.id == k)
    | .chain _ => s.isTile || s.recovery
    | .jtag => s.dbg.ir == Ir.DBG_ACCESS
    | .meter => false

/-- What Umbra answers itself in UMBRA_ONLY (R304). -/
def umbraAnswers (a : Nat) : Bool :=
  a / 65536 == 16 || a / 65536 == 18 || a == Reg.THM_STATE || a == Reg.THM_RESTARTS || a == Reg.CMD_SPI_CTRL ||
    inRange a Reg.CMD_SPI_REQ (Reg.CMD_SPI_REQ + 63) || inRange a Reg.CMD_SPI_RSP (Reg.CMD_SPI_RSP + 63)

/-- Registers of a block both roles have that one role does not use: they read 0 and ignore writes (R166, R182, R247, R297; log
entry 48). -/
def State.roleOmits (s : State) (a : Nat) : Bool :=
  (s.isTile && (inRange a Reg.TIM_SET_S_LO Reg.TIM_SET_NS || inRange a Reg.TIM_PTP_CFG Reg.TIM_PTP_DISCARD ||
    inRange a (Reg.TIM_ASYM_ETH 0) (Reg.TIM_ASYM_ETH 15) || a == Reg.TIM_ASYM_CHN 2 || a == Reg.TIM_ASYM_CHN 3 || a == Reg.TIM_PAIR_OFFSET ||
    inRange a (Reg.CHN_PORT_CTRL 2) (Reg.CHN_EXPRESS - 4) || inRange a Reg.CHN_EXP_DEFER (Reg.CHN_CHAIN 3) ||
    a == Reg.RED_STATE || a == Reg.RED_HEALTH || inRange a Reg.RED_HOLDOFF_LEFT Reg.RED_LEAVE || inRange a Reg.RED_CODE_DIFF Reg.RED_JOIN_FAIL ||
    inRange a Reg.RED_HREC_SEL (Reg.RED_HREC 5) || a == Reg.CCX_STARVED_CELLS || a == Reg.CCX_STARVED_SLICES || a == Reg.CCX_ROI_OVER || a == Reg.CCX_REFRESH_STAT || inRange a (Reg.CCX_QP 0) (Reg.CCX_FIRST 255))) ||
  (s.isSender && (a == Reg.RED_TILE || a == Reg.RED_FSIG_FAIL || a == Reg.CHN_RING || inRange a Reg.CCX_UNRESOLVED Reg.CCX_MISSING_PICS || inRange a (Reg.CCX_POOL 0) (Reg.CCX_POOL 15) || calTileOnly a))

/-- The registers of the dispatch trace, which SCRAPPED denies (R65, Table 23.1). -/
def traceReg (a : Nat) : Bool :=
  a == Reg.SCH_TRACE_CTRL || a == Reg.SCH_TRACE_PTR || inRange a (Reg.SCH_TRACE_FMASK 0) (Reg.SCH_TRACE_FMASK 3) ||
    inRange a Reg.SCH_TRACE_WIN (Reg.SCH_TRACE_WIN + 32767)

/-- Whether the block of an address answers in the present state and role (R13, R303, R304). -/
def State.blockAnswers (s : State) (a : Nat) : Bool :=
  let b := a / 65536
  if s.tru.lifecycle = Lc.SCRAPPED ∧ traceReg a = true then false
  else if s.pstate = Ps.UMBRA then umbraAnswers a
  else if s.pstate = Ps.DARK then b == 0 || b == 1 || b == 14 || b == 16 || b == 18
  else match s.role? with
    | some .sender => b != 11 && b != 12 && !s.roleOmits a
    | some .tile => b != 4 && b != 5 && b != 6 && !s.roleOmits a
    | none => true

/-- CMD_CREDITS (Table 20.12). -/
def State.creditsView (s : State) : Nat :=
  satTo 63 (s.creditsHeld .pcie) + satTo 15 s.ing.sessions.length * 256 +
    flag (bitOf (s.reg Reg.CMD_SPI_CTRL) 2 || s.creditsHeld .spi != 0) * 4096 + satTo 31 s.cmd.longOps.length * 65536

/-- ING_LS_STAT (Table 4.5): link formed, and the forwarding load of the last 1 ms in % of 108 Gbit/s. -/
def State.linkStatView (s : State) : Nat :=
  let bits := ((s.ing.fwdLog.filter (fun p => decide (s.now < p.1 + msT))).map (·.2)).sum
  flag s.formed + satTo 255 (bits / 1080000) * 256

/-- Word `k` of a trace record (Table 3.9). -/
def traceWord (r : TraceRec) (k : Nat) : Nat :=
  match k with
  | 0 => r.time
  | 1 => r.wfn % 65536 + r.facet % 256 * 65536 + r.event % 16 * 2 ^ 24 + r.cause % 16 * 2 ^ 28
  | 2 => r.object
  | _ => r.value

/-- A word of SCH_TRACE_WIN: the half PAGE selects, 0 for a record not written (R65). -/
def State.traceView (s : State) (a : Nat) : Nat :=
  let off := a - Reg.SCH_TRACE_WIN + (if s.bit Reg.SCH_TRACE_CTRL Fld.SCH_TRACE_CTRL_PAGE then 32768 else 0)
  match s.sch.trace[off / 16]? with
  | none => 0
  | some r => traceWord r (off % 16 / 4) % 2 ^ 32

/-- A word of an SPI buffer, big end last: bytes are little-endian in a register (R351). -/
def bufferWord (l : List Host.Cell) (off : Nat) : Nat := leNat (cellRead (fun _ => (0 : Byte)) l off 4)

/-- An address in the SPI buffers. -/
def spiBuffer (a : Nat) : Bool :=
  inRange a Reg.CMD_SPI_REQ (Reg.CMD_SPI_REQ + 8223) || inRange a Reg.CMD_SPI_RSP (Reg.CMD_SPI_RSP + 8223)

/-- The value of an SPI buffer word on a path: other paths read 0 (R351). -/
def State.spiBufferView (s : State) (p : Path) (a : Nat) : Nat :=
  if p ≠ .spi then 0
  else if a < Reg.CMD_SPI_RSP then bufferWord s.cmd.spiReq (a - Reg.CMD_SPI_REQ)
  else bufferWord s.cmd.spiRsp (a - Reg.CMD_SPI_RSP)

/-- GEN_ISL_CLK of the DRAM controller: a controller cycle is 8 transfers at the active set point, in units of 0.1 MHz (R45, chapter 14). -/
def State.dramClock (s : State) : Nat :=
  match s.gen.running with
  | none => 0
  | some im => setPointRate (im.dram.spCodes.getD s.spActive 0) * 10 / 8

/-- GEN registers computed at a read. -/
def State.genView (s : State) (a : Nat) : Option Nat :=
  if a = Reg.GEN_ISL_CLK 33 ∧ bitOf (s.reg a) 18 = true then some (putField (s.reg a) 0 16 s.dramClock).toNat else none

/-- The value a register shows, computed where it is not held in the register file. -/
def State.regView (s : State) (p : Path) (a : Nat) : Nat :=
  let held := (s.reg a).toNat
  match a / 65536 with
  | 0 => (s.genView a).getD held
  | 1 => if spiBuffer a then s.spiBufferView p a else if a = Reg.CMD_CREDITS then s.creditsView else held
  | 2 => if Reg.SCH_TRACE_WIN ≤ a then s.traceView a else held
  | 3 => (s.drcView a).getD held
  | 4 => if a = Reg.ING_LS_STAT then s.linkStatView else held
  | 5 => if a = Reg.CDC_CAP_HEVC then (s.capView 0).toNat else if a = Reg.CDC_CAP_JXS then (s.capView 1).toNat
    else if a = Reg.CDC_RET_CTRL then s.retCtrlView.toNat else held
  | 6 => ((s.surfView a).map (·.toNat)).getD held
  | 8 => (s.ccxView a).getD held
  | 9 => (s.timView p a).getD held
  | 10 => (s.flkView a).getD held
  | 11 => (s.emcView a).getD held
  | 12 => (s.lmpView a).getD held
  | 13 => (s.calView a).getD held
  | 14 =>
    if a = Reg.THM_CH_CFG 16 ∨ a = Reg.THM_CH_LIM 16 ∨ a = Reg.THM_SUB 16 then 0 else (s.thmView a).getD held
  | 15 => (s.redView a).getD held
  | 16 => (s.umbView p a).getD held
  | 17 => (s.truView a).getD held
  | 18 => s.metView p a
  | 19 => (s.dbgView a).getD held
  | _ => held

/-- The map names a register at the address, or a window or buffer holds it. -/
def named (a : Nat) : Bool :=
  a % 4 == 0 && ((rowOf a).isSome || spiBuffer a || inRange a Reg.SCH_TRACE_WIN (Reg.SCH_TRACE_WIN + 32767))

/-- Each of the four paths of Table 20.1 keeps one latch: sessions share the management path's, senders the chain's (R345). -/
def latchKey : Path → Path
  | .mgmt _ => .mgmt 0
  | .chain _ => .chain 0
  | p => p

/-- The trace records while its window is read: the words read are not consistent, so they are free values (R65). -/
def State.traceMoving (s : State) : Bool :=
  s.bit Reg.SCH_TRACE_CTRL Fld.SCH_TRACE_CTRL_ENABLE && !s.bit Reg.SCH_TRACE_CTRL Fld.SCH_TRACE_CTRL_FROZEN

/-- What a read does beside answering: TIM_NOW_S_LO, UMB_RTC_S_LO and MET_ENERGY_LO latch for the path, TIM_IN_FRAC removes the
head of its queue (R181, R182, R312, R344, R345). -/
def State.afterRead (s : State) (p : Path) (a : Nat) : State :=
  let k := latchKey p
  if a = Reg.TIM_NOW_S_LO then s.latchTime k
  else if a = Reg.UMB_RTC_S_LO then s.latchRtc k
  else if a = Reg.MET_ENERGY_LO then s.latchEnergy k
  else if inRange a (Reg.TIM_IN_FRAC 0) (Reg.TIM_IN_FRAC 7) ∧ (a - Reg.TIM_IN_FRAC 0) % 0x20 = 0 then
    s.capturePop ((a - Reg.TIM_IN_FRAC 0) / 0x20)
  else s

/-- One register read of an open path: its value, and the machine after it. An address without a register, and a block that does
not answer, read 0 (R9, R13). -/
def State.regRead (s : State) (p : Path) (a : Nat) : Nat × State :=
  if !s.blockAnswers a || !named a then (0, s)
  else if Reg.SCH_TRACE_WIN ≤ a ∧ a < 0x30000 ∧ s.traceMoving = true then
    (s.takeFree.1 % 2 ^ 32, s.takeFree.2)
  else (s.regView (latchKey p) a % 2 ^ 32, s.afterRead p a)

/-- A read whose data goes back to its requester. -/
def State.readOut (s : State) (p : Path) (a : Nat) : State :=
  if !s.regPathOpen p then s
  else let r := s.regRead p a; r.2.emit (.readData (leBytes 4 r.1))

/-- TIME_NOW_LATCH: a read of TIM_NOW_S_LO answers s[31:0] and latches the rest for its path. -/
def execTimeNowLatch (p : Path) (s : State) : Host.Outcome State Fault Refusal := .next (s.readOut p Reg.TIM_NOW_S_LO)

/-- RTC_LATCH: a read of UMB_RTC_S_LO. -/
def execRtcLatch (p : Path) (s : State) : Host.Outcome State Fault Refusal := .next (s.readOut p Reg.UMB_RTC_S_LO)

/-- ENERGY_LATCH: a read of MET_ENERGY_LO. -/
def execEnergyLatch (p : Path) (s : State) : Host.Outcome State Fault Refusal := .next (s.readOut p Reg.MET_ENERGY_LO)

/-- CAPTURE_POP: a read of TIM_IN_FRAC answers it and removes the head. -/
def execCapturePop (p : Path) (unit : Nat) (s : State) : Host.Outcome State Fault Refusal :=
  if 8 ≤ unit then .next s else .next (s.readOut p (Reg.TIM_IN_FRAC unit))

end Sys2Proof.Machine
end

