-- ==== Sys2Proof/Machine/Commands.lean ====
section
/-! DEFINITION. The commands of the mailbox that no other chapter owns: NOP, RESYNC, TOKEN_STATUS, ABORT, HOLD, RELEASE,
PARAM_WRITE, PARAM_READ and SELFTEST (R40, R246, R352, R353, R358 to R361). -/
namespace Sys2Proof.Machine

/-- NOP. -/
def doNop (_ : MboxCmd) (s : State) : State × Reply := (s, Reply.of St.OK)
def execNop (c : MboxCmd) (s : State) : Host.Outcome State Fault Refusal := .next (s.serve 0 c doNop)

/-- PARAM_WRITE and PARAM_READ (chapter 2). -/
def execParamWrite (c : MboxCmd) (s : State) : Host.Outcome State Fault Refusal :=
  .next (s.serve 7 c (fun c s => doParamWrite s.formed c s))
def execParamRead (c : MboxCmd) (s : State) : Host.Outcome State Fault Refusal := .next (s.serve 8 c doParamRead)

/-! ### RESYNC (R361, Tables 20.9 and 20.10) -/

/-- The register path of a mailbox path. -/
def regPath : MboxPath → Path
  | .pcie => .pcie
  | .mgmt k => .mgmt k
  | .spi => .spi
  | .chain side _ => .chain side

/-- A register copy: the value a read gives, and nothing of what the read would do. -/
def State.peek (s : State) (p : Path) (a : Nat) : Nat :=
  if s.blockAnswers a && named a then s.regView (latchKey p) a % 2 ^ 32 else 0

/-- Counters of the CMD block. -/
def cmdCounter (a : Nat) : Bool := inRange a (Reg.CMD_CREDIT_DROP 0) Reg.CMD_DUP_ANSWERED

/-- A counter register: one that saturates and is cleared by its block's CNT_CLEAR, and UMB_PF_CNT. -/
def isCounter (a : Nat) : Bool :=
  match a / 65536 with
  | 1 => cmdCounter a
  | 2 => (schCounter a && decide (a < Reg.SCH_BRC_FIRST0)) || schHist a
  | 3 => drcCounter a
  | 4 => ingCounter a
  | 5 => cdcCounter a
  | 6 => cmpCounter a
  | 7 => chnCounter a
  | 8 => ccxCounter a
  | 9 => timCounter a
  | 10 => flkCounter a
  | 11 => emcCounter a
  | 12 => lmpCounter a
  | 13 => calCounter a
  | 14 => a == Reg.THM_FAILS
  | 15 => redCounter a
  | 16 => a == Reg.UMB_PF_CNT
  | 17 => truCounter a
  | 19 => a == Reg.DBG_BIST_RUNS
  | _ => false

/-- The addresses of a row of the map. -/
def rowAddrs (r : RegRow) : List Nat := (List.range (if r.stride = 0 then 1 else r.count)).map (fun k => r.base + r.stride * k)

/-- The counter registers in ascending address. -/
def counterAddrs : List Nat :=
  (List.range 20).flatMap (fun b => (((blockRows b).flatMap rowAddrs).filter isCounter).insertionSort (· ≤ ·))

/-- PROGRESS of an operation: thousandths of its background work, a free value where the spec states no work. -/
def State.progressOf (s : State) (o : LongOp) (free : Nat) : Nat :=
  match s.sch.jobs.find? (fun j => j.token == o.token) with
  | some j =>
    match j.work, j.left with
    | some w, some l => if w = 0 then 0 else (w - l) * 1000 / w
    | _, _ => free % 1001
  | none => free % 1001

/-- PATH of Table 20.10, 0xFF with no owner. -/
def ownerPath (o : Option MboxPath) : Nat := (o.map pathCode).getD 0xFF

/-- A long-operation entry; the step an admission has reached is a free value. -/
def State.longEntry (s : State) (o : LongOp) (free : Nat) : List Byte :=
  leBytes 4 o.token ++ leBytes 2 o.opcode ++ leBytes 1 (ownerPath o.owner) ++ leBytes 1 1 ++ leBytes 6 o.startWfn ++
    leBytes 2 (s.progressOf o free) ++ leBytes 4 o.tag ++ leBytes 4 (if o.opcode = 0x105 then 1 + free / 1001 % 13 else o.detail) ++
    zeroBytes 8

/-- The long-operation entries, with the machine after the free values they took. -/
def State.longEntries (s : State) : List LongOp → List Byte × State
  | [] => ([], s)
  | o :: os =>
    let f := s.takeFree
    let r := f.2.longEntries os
    (s.longEntry o f.1 ++ r.1, r.2)

/-- The summary's bytes 0x010 to 0x1FF. -/
def State.summaryHead (s : State) (p : Path) : List Byte :=
  let r (a : Nat) : List Byte := leBytes 4 (s.peek p a)
  let four (f : Nat → Nat) : List Byte := (List.range 4).flatMap (fun k => r (f k))
  identity ++ r Reg.GEN_IMG_STATE ++ r Reg.GEN_IMG_ID_LO ++ r Reg.GEN_IMG_ID_HI ++ r Reg.TRU_FW_VER ++ r Reg.TRU_LIFE ++ r Reg.TRU_FLOOR ++
    r Reg.TRU_BOOT ++ r Reg.TRU_STAGE ++ leBytes 6 s.wfnNow ++ zeroBytes 2 ++ leBytes 6 (s.now / secT) ++ leBytes 4 (timeWord s.now 2) ++
    leBytes 2 (timeWord s.now 3) ++ r Reg.TIM_STATE ++ r Reg.TIM_OFFSET ++ r Reg.TIM_PAIR_OFFSET ++ r Reg.FLK_STATE ++ r Reg.UMB_STATE ++
    r Reg.UMB_RESET_CAUSE ++ r Reg.UMB_HALT_INFO ++ four Reg.ING_PORT_STAT ++ r Reg.ING_LS_STAT ++ r Reg.CHN_RING ++ zeroBytes 8 ++
    four Reg.CHN_PORT_STAT ++ four Reg.CHN_CHAIN ++ four Reg.CHN_LINKDLY ++ r Reg.RED_STATE ++ r Reg.RED_HEALTH ++ r Reg.RED_TILE ++
    r Reg.RED_HOLDOFF_LEFT ++ r Reg.THM_STATE ++ r Reg.THM_LEVEL ++ r Reg.THM_GUARD_VAL ++ r Reg.LMP_STATE ++ r Reg.DRC_STAT ++
    (List.range 8).flatMap (fun c => r (Reg.DRC_CH_STAT c)) ++ r Reg.CAL_STATE ++
    [1, 2, 3].flatMap (fun o => r (Reg.CAL_GEN o) ++ r (Reg.CAL_SLOT o)) ++ r Reg.EMC_STATE ++ r Reg.GEN_ADM_STATUS ++ r Reg.CMP_COMMIT_STAT ++
    r Reg.CMD_CREDITS ++ r Reg.MET_STATE ++ r Reg.MET_EVENTS ++ r Reg.MET_REC_SEQ ++ r Reg.MET_CFG ++ zeroBytes 192

/-- RESYNC: a summary of 4,096 bytes; nothing but the count of summaries changes. -/
def doResync (c : MboxCmd) (s : State) : State × Reply :=
  let p := regPath c.path
  let ops := s.longEntries (s.cmd.longOps.take 16)
  let rest := s.summaryHead p ++ padTo 512 ops.1 ++ padTo 3072 (counterAddrs.flatMap (fun a => leBytes 4 (s.peek p a)))
  let seq := s.cmd.snapSeq + 1
  let body := [0x44, 0x4E, 0x52, 0x53] ++ leBytes 2 1 ++ zeroBytes 2 ++ leBytes 4 seq ++ leBytes 4 (crc32c rest) ++ rest
  ({ ops.2 with cmd := { ops.2.cmd with snapSeq := seq } }, { status := St.OK, body := body })

def execResync (c : MboxCmd) (s : State) : Host.Outcome State Fault Refusal := .next (s.serve 1 c doResync)

/-! ### TOKEN_STATUS and ABORT (R352, R353) -/

/-- The kept record of a token. -/
def State.kept? (s : State) (tok : Nat) : Option KeptRecord := s.cmd.kept.find? (fun k => k.record.token == tok)

/-- TOKEN_STATUS: ACCEPTED while the operation runs; the stored record, its fields in the header and itself as the body (log
entry 51); else TOKEN_UNKNOWN. -/
def doTokenStatus (c : MboxCmd) (s : State) : State × Reply :=
  let tok := leAt c.body 0 4
  match s.longOp? tok, s.kept? tok with
  | some _, _ => (s, { status := St.ACCEPTED, token := tok })
  | none, some k =>
    (s, { status := k.record.status, flags := 2, token := tok, detail := k.record.detail, wfn := k.record.wfn,
          body := responseBytes k.record })
  | none, none => (s, Reply.of St.TOKEN_UNKNOWN)

def execTokenStatus (c : MboxCmd) (s : State) : Host.Outcome State Fault Refusal := .next (s.serve 2 c doTokenStatus)

/-- An abort that wins ends the operation under its owning rule; none is an ABORT that comes too late. -/
def State.abortLong (s : State) (o : LongOp) : Option State :=
  match o.opcode with
  | 0x103 => some (s.abortStage o.token)
  | 0x105 => some (s.abortAdmission o.token)
  | 0x106 =>
    match s.tru.activation with
    | some a => if s.gen.activating then none else some (s.abortActivate a)
    | none => none
  | 0x401 => some (s.abandonEntry s.now)
  | 0x502 => some s.abortStore
  | 0x503 => some ((s.dropJob o.token).longEnd o.token St.ABORTED 0 true)
  | 0x701 => s.dbg.bist.map s.abortBist
  | _ => none

/-- ABORT: only the owning path, or any path when there is no owner; a repeated ABORT gives the same outcome. -/
def doAbort (c : MboxCmd) (s : State) : State × Reply :=
  let tok := leAt c.body 0 4
  match s.longOp? tok, s.kept? tok with
  | some o, _ =>
    if !mayAbort o.owner c.path then (s, Reply.of St.NOT_OWNER)
    else match s.abortLong o with
      | some s1 => (s1, Reply.of St.ABORTED)
      | none => (s, Reply.of St.ABORT_LATE)
  | none, some k =>
    if !mayAbort k.owner c.path then (s, Reply.of St.NOT_OWNER)
    else (s, Reply.of (if k.aborted then St.ABORTED else St.ABORT_LATE))
  | none, none => (s, Reply.of St.TOKEN_UNKNOWN)

def execAbort (c : MboxCmd) (s : State) : Host.Outcome State Fault Refusal := .next (s.serve 3 c doAbort)

/-! ### HOLD and RELEASE (R358) -/

/-- The frame a HOLD or RELEASE takes effect at: AT_WFN, 0 standing for the earliest, or the first frame at least 2 ms ahead. -/
def State.holdFrame (s : State) (atWfn : Nat) : Option Nat :=
  match s.timeline? with
  | none => none
  | some tl =>
    if atWfn ≠ 0 ∧ frameStart tl atWfn < s.now + 2 * msT then none else some (Nat.max atWfn (frameFrom tl (s.now + 2 * msT)))

/-- HOLD (kind 0) and RELEASE (kind 1) at a sender; the mirror of a formed pair takes them from the primary alone. -/
def doHold (kind : Nat) (c : MboxCmd) (s : State) : State × Reply :=
  if s.formed && s.isMirror then (s, Reply.of St.NOT_PRIMARY)
  else if kind = 1 ∧ s.dbg.bist.isSome then (s, Reply.of St.BUSY)
  else
    match s.holdFrame (leAt c.body 0 6) with
    | none => (s, Reply.of St.TOO_LATE)
    | some f =>
      let s1 := s.startHold kind f
      ((if s1.formed then s1.sendLink (.hold kind f) else s1), { status := St.OK, wfn := f })

def execHold (c : MboxCmd) (s : State) : Host.Outcome State Fault Refusal := .next (s.serve 5 c (doHold 0))
def execRelease (c : MboxCmd) (s : State) : Host.Outcome State Fault Refusal := .next (s.serve 6 c (doHold 1))

/-! ### SELFTEST (R246) -/

/-- SELFTEST: 6 ms of background work in the slack of the island named, or of the roomiest. -/
def doSelftest (c : MboxCmd) (s : State) : State × Reply :=
  let i := byteAt c.body 0
  match s.image? with
  | none => (s, Reply.of St.NO_SLACK)
  | some im =>
    let isl := if i = 0xFF then s.roomiest im else [i]
    if i ≠ 0xFF ∧ !im.islands.any (fun r => r.island == i && r.enabled && decide (i ≤ 31)) then (s, Reply.of St.BAD_FIELD)
    else if noSlack im then (s, Reply.of St.NO_SLACK)
    else if s.longFull then (s, Reply.of St.BUSY)
    else
      let k := isl.headD i
      let r := s.longStart 0x503 c k
      (r.1.background (.selftest k) r.2.token (some 6000000) isl, r.2)

def execSelftest (c : MboxCmd) (s : State) : Host.Outcome State Fault Refusal := .next (s.serve 0x503 c doSelftest)

/-- SELFTEST_COMPLETE: whether a facet of the island fails, and which, is a free value (log entry 52). -/
def State.endSelftest (s : State) (island tok : Nat) : State :=
  let f := s.takeFree
  if f.1 % 2 = 0 then f.2.longEnd tok St.OK 0 false else f.2.longEnd tok St.FAILED (island * 4 + f.1 / 2 % 4) false

end Sys2Proof.Machine
end

