-- ==== Sys2Proof/Machine/Relay.lean ====
section
/-! DEFINITION. Running a command from its bytes, and the relay between a sender and its tiles (R18, R355 to R357). -/
namespace Sys2Proof.Machine

/-! ### Relays at a sender -/

/-- The message TAG of the next command relayed to a tile, modulo 256 per tile (R356). -/
def State.takeTag (s : State) (ta : Nat) : Nat × State :=
  let k := tabGet s.cmd.relayTags ta
  (k, { s with cmd := { s.cmd with relayTags := tabSet s.cmd.relayTags ta ((k + 1) % 256) } })

/-- A relay is that of a tile and TAG. -/
def isRelay (ta tag : Nat) (r : Relay) : Bool := r.ta == ta && r.msgTag == tag

/-- Replace the relay of a tile and TAG. -/
def State.setRelay (s : State) (r : Relay) : State :=
  { s with cmd := { s.cmd with relays := s.cmd.relays.map (fun x => if isRelay r.ta r.msgTag x then r else x) } }

/-- Send the messages of a relay, for the first time or again. -/
def State.sendRelay (s : State) (r : Relay) : State :=
  let s1 := s.setRelay { r with sentAt := some (r.sentAt.getD s.now), sends := r.sends + 1 }
  r.bodies.foldl (fun (z : State) b => z.senderSend r.msgType r.ta r.msgTag b) s1

/-- At most 4 relayed commands are in flight per tile; further ones wait in order (R355). -/
def State.pumpRelays (s : State) (ta : Nat) : State :=
  let flying := (s.cmd.relays.filter (fun r => r.ta == ta && r.sentAt.isSome)).length
  let waiting := s.cmd.relays.filter (fun r => r.ta == ta && r.sentAt.isNone)
  (waiting.take (4 - flying)).foldl (fun (z : State) r => z.sendRelay r) s

/-- Relay messages to a tile for a host command. -/
def State.relay (s : State) (c : MboxCmd) (op ta msgType : Nat) (isReg : Bool) (bodies : List (List Byte)) : State :=
  let k := s.takeTag ta
  let r : Relay := { ta := ta, msgTag := k.1, isReg := isReg, path := c.path, hostOpcode := op, hostTag := c.tag, msgType := msgType,
                     bodies := bodies, sentAt := none, sends := 0 }
  ({ k.2 with cmd := { k.2.cmd with relays := k.2.cmd.relays ++ [r] } } : State).pumpRelays ta

/-- A relay ends: its host command is answered and a waiting one takes its place. -/
def State.endRelay (s : State) (r : Relay) (y : Reply) : State :=
  let s1 : State := { s with cmd := { s.cmd with relays := s.cmd.relays.filter (fun x => !isRelay r.ta r.msgTag x) } }
  (s1.respond r.path { opcode := r.hostOpcode, tag := r.hostTag, status := y.status, flags := y.flags, token := y.token,
                       detail := y.detail, wfn := y.wfn, body := y.body }).pumpRelays r.ta

/-- The relay of a tile and TAG that is in flight. -/
def State.flying? (s : State) (ta tag : Nat) : Option Relay := s.cmd.relays.find? (fun r => isRelay ta tag r && r.sentAt.isSome)

/-- TILE_REG: REG_RD or REG_WR to a tile; a TA in no use is relayed too, and times out (R18, R355). -/
def doTileReg (c : MboxCmd) (s : State) : State × Option Reply :=
  let op := byteAt c.body 1
  let addr := slice c.body 4 4
  if 1 < op then (s, some (Reply.of St.BAD_FIELD))
  else if op = 0 then (s.relay c 0x601 (byteAt c.body 0) Msg.REG_RD true [addr], none)
  else (s.relay c 0x601 (byteAt c.body 0) Msg.REG_WR true [addr ++ slice c.body 8 4], none)

def execTileReg (c : MboxCmd) (s : State) : Host.Outcome State Fault Refusal := .next (s.serveBy 0x601 c doTileReg)

/-- The chains a broadcast goes to: those CHAINS names that the image declares. -/
def State.bcastChains (s : State) (mask : Nat) : List Nat := (s.chains.map (·.chain)).filter (fun k => natBit mask k)

/-- Broadcast bodies on chains with one TAG of the broadcast's own. -/
def State.bcast (s : State) (mask type : Nat) (bodies : List (List Byte)) : State :=
  let k := s.takeTag 0xFF
  (s.bcastChains mask).foldl (fun (z : State) ch => bodies.foldl (fun (y : State) b => y.broadcast ch type k.1 b) z) k.2

/-- Commands that may not be broadcast: long operations and those whose response carries a body (R357). -/
def noBroadcast (op : Nat) : Bool := longOpcode op || op ∈ [1, 2, 3, 8, 0x10B, 0x505]

/-- TILE_CMD: the embedded command goes to its tile in MBOX messages, or to every tile of the chains named. -/
def doTileCmd (c : MboxCmd) (s : State) : State × Option Reply :=
  let ta := byteAt c.body 0
  let mask := byteAt c.body 1
  let cmd := c.body.drop 4
  let bodies := bodiesOf 1016 s.cmd.segSeq cmd
  if ta ≠ 0xFF then (s.nextSeg.relay c 0x602 ta Msg.MBOX false bodies, none)
  else if 15 < mask ∨ noBroadcast (leAt cmd 0 2) = true then (s, some (Reply.of St.BAD_FIELD))
  else (s.nextSeg.bcast mask Msg.MBOX bodies, some (Reply.of St.OK))

def execTileCmd (c : MboxCmd) (s : State) : Host.Outcome State Fault Refusal := .next (s.serveBy 0x602 c doTileCmd)

/-- TILE_BULK: an embedded STAGE_DATA or CAL_STAGE_DATA travels in BULK messages, each a segment; no tile answers. -/
def doTileBulk (c : MboxCmd) (s : State) : State × Option Reply :=
  let ta := byteAt c.body 0
  let mask := byteAt c.body 1
  let cmd := c.body.drop 4
  let bodies := segments 1016 s.cmd.segSeq cmd
  if leAt cmd 0 2 ≠ 0x102 ∧ leAt cmd 0 2 ≠ 0x501 then (s, some (Reply.of St.BAD_FIELD))
  else if ta = 0xFF ∧ 15 < mask then (s, some (Reply.of St.BAD_FIELD))
  else if ta = 0xFF then (s.nextSeg.bcast mask Msg.BULK bodies, some (Reply.of St.OK))
  else
    let k := s.nextSeg.takeTag ta
    (bodies.foldl (fun (z : State) b => z.senderSend Msg.BULK ta k.1 b) k.2, some (Reply.of St.OK))

def execTileBulk (c : MboxCmd) (s : State) : Host.Outcome State Fault Refusal := .next (s.serveBy 0x603 c doTileBulk)

/-! ### Answers at a sender -/

/-- REG_RSP completes the TILE_REG of its TAG; a duplicate is discarded. -/
def execRegRsp (m : RegRspMsg) (s : State) : Host.Outcome State Fault Refusal :=
  let s0 := s.tick m.t
  match s0.flying? m.ta m.tag with
  | none => .next s0
  | some r =>
    if r.isReg ∧ m.side = s0.side then .next (s0.endRelay r { status := St.OK, body := leBytes 4 m.data.toNat }) else .next s0

/-- An older segment of the same source: its SEQ lies behind, modulo 65,536. -/
def seqBehind (a b : Nat) : Bool := decide ((b + 65536 - a) % 65536 < 32768)

/-- Take one segment: the whole message once all its segments have arrived, which discards the partial messages before it (Table
20.4). A segment of an impossible INDEX or COUNT is dropped. -/
def State.assemble (s : State) (source tag : Nat) (body : List Byte) : State × Option (List Byte) :=
  let seq := leAt body 0 2
  let idx := byteAt body 2
  let n := byteAt body 3
  let same (x : SegAsm) : Bool := x.source == source && x.tag == tag && x.seq == seq
  if n = 0 ∨ 9 < n ∨ n ≤ idx then (s, none)
  else
    let old := ((s.cmd.segs.find? same).map (·.parts)).getD []
    let parts := (idx, body.drop 8) :: old.filter (fun p => p.1 != idx)
    if (List.range n).all (fun i => parts.any (fun p => p.1 == i)) then
      let whole := ((List.range n).flatMap (fun i => ((parts.find? (fun p => p.1 == i)).map (·.2)).getD [])).take (leAt body 4 4)
      ({ s with cmd := { s.cmd with segs := s.cmd.segs.filter (fun x => !(x.source == source && seqBehind x.seq seq)) } }, some whole)
    else
      let x : SegAsm := { source := source, tag := tag, seq := seq, count := n, parts := parts }
      ({ s with cmd := { s.cmd with segs := s.cmd.segs.filter (fun y => !same y) ++ [x] } }, none)

/-- A message body as a whole message: itself, or what its segments make. -/
def State.wholeBody (s : State) (source tag : Nat) (segmented : Bool) (body : List Byte) : State × Option (List Byte) :=
  if segmented then s.assemble source tag body else (s, some body)

/-- The fields of a response header and its body (Table 20.3). -/
def readReply (b : List Byte) : Reply :=
  { status := byteAt b 8, flags := byteAt b 9, token := leAt b 0x0C 4, detail := leAt b 0x10 4, wfn := leAt b 0x14 6, body := b.drop 32 }

/-- A tile's completion record goes to the host path that issued the TILE_CMD (R356). -/
def State.forwardRecord (s : State) (ta : Nat) (b : List Byte) : State :=
  let y := readReply b
  match s.cmd.tileOps.find? (fun o => o.ta == ta && o.token == y.token) with
  | none => s
  | some o =>
    let r : Response := { opcode := leAt b 0 2, tag := o.hostTag, status := y.status, flags := y.flags, token := y.token,
                          detail := y.detail, wfn := y.wfn, body := y.body }
    let s1 : State := { s with cmd := { s.cmd with tileOps := s.cmd.tileOps.filter (fun x => !(x.ta == ta && x.token == y.token)) } }
    (s1.respond o.path r).event 1

/-- MBOX_RSP completes the TILE_CMD of its TAG, or is a completion record to forward; a duplicate is discarded. -/
def execMboxRsp (m : MboxRspMsg) (s : State) : Host.Outcome State Fault Refusal :=
  let s0 := s.tick m.t
  if !s0.isSender ∨ m.side ≠ s0.side then .next s0
  else
    match s0.wholeBody (256 + m.ta) m.tag m.segmented m.body with
    | (s1, none) => .next s1
    | (s1, some b) =>
      let y := readReply b
      if natBit y.flags 1 then .next (s1.forwardRecord m.ta b)
      else match s1.flying? m.ta m.tag with
        | none => .next s1
        | some r =>
          if r.isReg then .next s1
          else
            let o : TileLongOp := { ta := m.ta, token := y.token, path := r.path, hostTag := r.hostTag }
            let s2 : State :=
              if y.status = St.ACCEPTED then { s1 with cmd := { s1.cmd with tileOps := s1.cmd.tileOps ++ [o] } } else s1
            .next (s2.endRelay r y)

/-- RELAY_RETRY: without the whole response 20 ms and 40 ms after first sending, the command goes out again with its TAG. -/
def execRelayRetry (ta tag t : Nat) (s : State) : Host.Outcome State Fault Refusal :=
  let s0 := s.tick t
  match s0.flying? ta tag with
  | none => .next s0
  | some r => if r.sends < 3 ∧ r.sentAt.getD 0 + r.sends * 20 * msT ≤ t then .next (s0.sendRelay r) else .next s0

/-- RELAY_TIMEOUT: after 60 ms the host is answered TIMEOUT. -/
def execRelayTimeout (ta tag t : Nat) (s : State) : Host.Outcome State Fault Refusal :=
  let s0 := s.tick t
  match s0.flying? ta tag with
  | none => .next s0
  | some r =>
    if r.sentAt.getD 0 + 60 * msT ≤ t then .next ((s0.bump Reg.CMD_RELAY_TIMEOUT 1).endRelay r (Reply.of St.TIMEOUT)) else .next s0

/-! ### Running a command (R347, Table 20.7) -/

/-- The command a header and body make, on a path at an instant. -/
def readCommand (p : MboxPath) (t : Nat) (b : List Byte) : MboxCmd :=
  { path := p, len := leAt b 2 2, tag := leAt b 4 4, reserved := slice b 8 24, body := b.drop 32, t := t }

/-- Run a command by its OPCODE; an unlisted one fails its first check. -/
def State.runOpcode (s : State) (op : Nat) (c : MboxCmd) : State :=
  match op with
  | 0x000 => s.serve op c doNop
  | 0x001 => s.serve op c doResync
  | 0x002 => s.serve op c doTokenStatus
  | 0x003 => s.serve op c doAbort
  | 0x004 => s.serve op c doReset
  | 0x005 => s.serve op c (doHold 0)
  | 0x006 => s.serve op c (doHold 1)
  | 0x007 => s.serve op c (fun c s => doParamWrite s.formed c s)
  | 0x008 => s.serve op c doParamRead
  | 0x101 => s.serve op c doStageBegin
  | 0x102 => s.serve op c doStageData
  | 0x103 => s.serve op c doStageEnd
  | 0x104 => s.serve op c doStageAbort
  | 0x105 => s.serve op c doAdmit
  | 0x106 => s.serve op c doActivate
  | 0x107 => s.serve op c doConfirm
  | 0x108 => s.serve op c doKeyInstall
  | 0x109 => s.serve op c doLcToken
  | 0x10A => s.serve op c doScrap
  | 0x10B => s.serve op c doAttest
  | 0x201 => s.serve op c doSurfaceAlloc
  | 0x202 => s.serve op c doSurfaceRelease
  | 0x301 => s.serve op c doPairRejoin
  | 0x302 => s.serve op c doPairTakeback
  | 0x303 => s.serve op c doPairRelinquish
  | 0x401 => s.serve op c doStandby
  | 0x402 => s.serve op c doWake
  | 0x403 => s.serve op c doPowerDown
  | 0x404 => s.serve op c doThermalUnlock
  | 0x501 => s.serve op c doCalStageData
  | 0x502 => s.serve op c doCalStore
  | 0x503 => s.serve op c doSelftest
  | 0x504 => s.serve op c doMetTag
  | 0x505 => s.serve op c doMetFetch
  | 0x601 => s.serveBy op c doTileReg
  | 0x602 => s.serveBy op c doTileCmd
  | 0x603 => s.serveBy op c doTileBulk
  | 0x701 => s.serve op c doBist
  | _ => s.serve op c doNop

/-- Run a command given by its bytes; RESET and POWER_DOWN act once answered. -/
def State.runCommand (s : State) (p : MboxPath) (t : Nat) (b : List Byte) : State :=
  (s.runOpcode (leAt b 0 2) (readCommand p t b)).afterAnswer

/-! ### Messages at a tile -/

/-- A command that no one answers: its effects without its response (R355, R357). -/
def State.runSilent (s : State) (p : MboxPath) (t : Nat) (b : List Byte) : State :=
  let s1 := s.runOpcode (leAt b 0 2) (readCommand p t b)
  ({ s1 with chn := { s1.chn with tx := s.chn.tx }, cmd := { s1.cmd with dups := s.cmd.dups, segSeq := s.cmd.segSeq } } : State).afterAnswer

/-- MBOX: a repeat of a kept TAG is answered from the store, another command runs (R356); a broadcast is not answered (R357). -/
def execMbox (m : MboxMsg) (s : State) : Host.Outcome State Fault Refusal :=
  let s0 := s.tick m.t
  if !s0.pathOpen (.chain m.side m.tag) then .next s0
  else
    match s0.wholeBody m.side m.tag m.segmented m.body with
    | (s1, none) => .next s1
    | (s1, some b) =>
      if m.bcast then .next (s1.runSilent (.chain m.side m.tag) m.t b)
      else
        match s1.cmd.dups.find? (fun d => d.side == m.side && d.tag == m.tag) with
        | some d =>
          .next (d.bodies.foldl (fun (z : State) x => z.tileSend Msg.MBOX_RSP m.side m.tag x) (s1.bump Reg.CMD_DUP_ANSWERED 1))
        | none => .next (s1.runCommand (.chain m.side m.tag) m.t b)

/-- BULK: the embedded STAGE_DATA or CAL_STAGE_DATA as if it had arrived on the tile's mailbox, with no response (R321, R355). -/
def execBulk (m : BulkMsg) (s : State) : Host.Outcome State Fault Refusal :=
  let s0 := s.tick m.t
  if !s0.pathOpen (.chain m.side m.tag) then .next s0
  else
    match s0.assemble (2 + m.side) m.tag m.body with
    | (s1, none) => .next s1
    | (s1, some b) =>
      if leAt b 0 2 = 0x102 ∨ leAt b 0 2 = 0x501 then .next (s1.runSilent (.chain m.side m.tag) m.t b) else .next s1

end Sys2Proof.Machine
end

