-- ==== Sys2Proof/Machine/RegWrite.lean ====
section
/-! DEFINITION. Writing a register on a path: the gates of R7 to R10, R13, R303 and R304, and the block that takes the write; the
blocks CMD and SCH themselves (R63, R65, R350, R351, R363). -/
namespace Sys2Proof.Machine

/-! ### SCH (R63, R65) -/

/-- SCH_TRACE_CTRL: the fields, then REARM, then FORCE (R65). -/
def State.traceWrite (s : State) (data : Word) : State :=
  let s1 := s.plainWrite Reg.SCH_TRACE_CTRL data
  let s2 := if bitOf data 2 then s1.traceRearm else s1
  if bitOf data 3 then s2.traceTrigger else s2

/-- SCH_QW_SEL: a value above 32,767 is ignored; the maxima restart. -/
def State.queueSelect (s : State) (data : Word) : State :=
  if 32767 < data.toNat then s
  else (((s.setReg Reg.SCH_QW_SEL data).setReg Reg.SCH_QW_DEPTH 0).setReg Reg.SCH_QW_FULLWAIT 0).watchQueue

/-- A write in the SCH block. -/
def State.schWrite (s : State) (a : Nat) (data : Word) : State :=
  if a = Reg.SCH_CNT_CLEAR then s.schClear data
  else if a = Reg.SCH_TRACE_CTRL then s.traceWrite data
  else if a = Reg.SCH_HIST_SEL then (s.plainWrite a data).resetRegs schHist
  else if a = Reg.SCH_QW_SEL then s.queueSelect data
  else s.plainWrite a data

/-! ### CMD (R350, R351, R354, R363) -/

/-- A ring's base registers. -/
def ringBase (a : Nat) : Bool :=
  a == Reg.CMD_SQ_BASE_LO || a == Reg.CMD_SQ_BASE_HI || a == Reg.CMD_CQ_BASE_LO || a == Reg.CMD_CQ_BASE_HI

/-- CMD_RING_CFG (Table 20.13): while RING_EN is 1 only a write that clears it counts, which abandons the mailbox; an enable with a
size out of range is refused. -/
def State.ringWrite (s : State) (data : Word) : State :=
  if !bitOf data 16 then (s.plainWrite Reg.CMD_RING_CFG data).abandonPcie
  else if s.ringOn then s
  else
    let ok := inRange (fieldOf data 0 4) 6 14 && inRange (fieldOf data 8 4) 13 16
    let s1 := s.plainWrite Reg.CMD_RING_CFG data
    (s1.putBit Reg.CMD_RING_CFG Fld.CMD_RING_CFG_RING_EN ok).putBit Reg.CMD_RING_CFG Fld.CMD_RING_CFG_ERR (!ok)

/-- CMD_SQ_TAIL, modulo twice the ring size: ignored more than one ring size ahead of CMD_SQ_HEAD. -/
def State.sqTailSet (s : State) (data : Word) : State :=
  let m := 2 * s.sqSize
  let v := data.toNat % 65536 % m
  if s.sqSize < (v + m - (s.reg Reg.CMD_SQ_HEAD).toNat % m) % m then s else s.setNum Reg.CMD_SQ_TAIL v

/-- CMD_CQ_HEAD, modulo twice the ring size: ignored beyond CMD_CQ_TAIL; entries freed let waiting responses in. -/
def State.cqHeadSet (s : State) (data : Word) : State :=
  let m := 2 * s.cqSize
  let v := data.toNat % 131072 % m
  let old := (s.reg Reg.CMD_CQ_HEAD).toNat % m
  let tail := (s.reg Reg.CMD_CQ_TAIL).toNat % m
  if (tail + m - old) % m < (v + m - old) % m then s
  else
    let s1 := s.setNum Reg.CMD_CQ_HEAD v
    s1.cqFlush s1.cmd.waitingRsp

/-- Run the command in CMD_SPI_REQ. Umbra answers a known command longer than 64 bytes BAD_LENGTH (R304). -/
def State.runSpi (s : State) : State :=
  let head := cellRead (fun _ => (0 : Byte)) s.cmd.spiReq 0 32
  let n := leAt head 2 2
  let bytes := head ++ cellRead (fun _ => (0 : Byte)) s.cmd.spiReq 32 (Nat.min n 8192)
  if s.pstate = Ps.UMBRA ∧ knownOpcode (leAt head 0 2) = true ∧ 32 < n then
    s.answer (leAt head 0 2) (readCommand .spi s.now bytes) (Reply.of St.BAD_LENGTH)
  else s.runCommand .spi s.now bytes

/-- CMD_SPI_CTRL: a GO over SPI starts the command; while BUSY it exceeds the one credit (R349, R351). -/
def State.spiCtrlWrite (s : State) (p : Path) (data : Word) : State :=
  if !bitOf data 0 || p != .spi then s
  else if bitOf (s.reg Reg.CMD_SPI_CTRL) 2 then s.bump (Reg.CMD_CREDIT_DROP 2) 1
  else (s.setReg Reg.CMD_SPI_CTRL 4).runSpi

/-- Write a word of CMD_SPI_REQ. -/
def State.spiReqWrite (s : State) (a : Nat) (data : Word) : State :=
  { s with cmd := { s.cmd with spiReq := cellSetMany (fun _ => (0 : Byte)) s.cmd.spiReq (a - Reg.CMD_SPI_REQ) (leBytes 4 data.toNat) } }

/-- A write in the CMD block. -/
def State.cmdWrite (s : State) (p : Path) (a : Nat) (data : Word) : State :=
  if spiBuffer a then (if p = .spi ∧ a < Reg.CMD_SPI_RSP then s.spiReqWrite a data else s)
  else if ringBase a then (if s.ringOn then s else s.plainWrite a data)
  else if a = Reg.CMD_RING_CFG then s.ringWrite data
  else if a = Reg.CMD_SQ_TAIL then s.sqTailSet data
  else if a = Reg.CMD_CQ_HEAD then s.cqHeadSet data
  else if a = Reg.CMD_SPI_CTRL then s.spiCtrlWrite p data
  else if a = Reg.CMD_CNT_CLEAR then s.clearCounters data cmdCounter
  else s.plainWrite a data

/-! ### The write -/

/-- A write that passed the gates, at its block. -/
def State.blockWrite (s : State) (p : Path) (a : Nat) (data : Word) : State :=
  match a / 65536 with
  | 0 => s.plainWrite a data
  | 1 => s.cmdWrite p a data
  | 2 => s.schWrite a data
  | 3 => s.drcWrite a data
  | 4 => s.ingWrite a data
  | 5 => s.cdcWrite a data
  | 6 => s.cmpWrite p a data
  | 7 => s.chnWrite a data
  | 8 => s.ccxWrite a data
  | 9 => s.timWrite a data
  | 10 => s.flkWrite a data
  | 11 => s.emcWrite a data
  | 12 => s.lmpWrite a data
  | 13 => s.calWrite a data
  | 14 => s.thmWrite a data
  | 15 => s.redWrite a data
  | 16 => s.umbWrite p a data
  | 17 => s.truWrite a data
  | 19 => s.dbgWrite a data
  | _ => s

/-- A register that boot has locked: RWL after boot completed (Table 0.7). -/
def State.locked (s : State) (a : Nat) : Bool := s.gen.bootDone && (rowOf a).any (fun r => r.lock == 1)

/-- A write of LMP_MAP over SPI before boot completes is remembered: the written map takes precedence over the stored one (R213, R239). -/
def State.noteMap (s : State) (p : Path) (a : Nat) : State :=
  if p = .spi ∧ a = Reg.LMP_MAP ∧ !s.gen.bootDone then { s with umb := { s.umb with mapWritten := true } } else s

/-- Whether the gates let a write through: all byte enables, an open path, an answering block, a named register, not MET, not
locked (R7, R9, R10, R13, R303, R304). -/
def State.writeAllowed (s : State) (w : RegWrite) : Bool :=
  w.be == 15 && s.regPathOpen w.path && s.blockAnswers w.addr && named w.addr && w.addr / 65536 != 18 && !s.locked w.addr

/-- A register write on a path: ignored as a whole, or taken by its block. -/
def State.regWrite (s : State) (w : RegWrite) : State :=
  if s.writeAllowed w then (s.noteMap w.path w.addr).blockWrite w.path w.addr w.data else s

/-- A write of a register with every byte enabled, when the data calls for the event of its row. -/
def State.rowWrite (s : State) (p : Path) (a : Nat) (data : Word) (due : Bool) : State :=
  if due then s.regWrite { path := p, addr := a, data := data, be := 15 } else s

end Sys2Proof.Machine
end

