-- ==== Sys2Proof/Machine/Paths.lean ====
section
/-! DEFINITION. The rows that are one register write, and the paths by which a host reaches the part: PCIe rings, the SPI target port,
the chain control channel, management over Ethernet and JTAG (R7, R79, R131, R346, R350, R351, R354, R389). -/
namespace Sys2Proof.Machine

/-! ### Register writes -/

/-- REGISTER_WRITE: any register write that has no row of its own. -/
def execRegisterWrite (w : RegWrite) (s : State) : Host.Outcome State Fault Refusal := .next (s.regWrite w)

/-- SCH_CNT_CLEAR, bit by bit (R63). -/
def execBreachCounterClear (p : Path) (s : State) : Host.Outcome State Fault Refusal := .next (s.rowWrite p Reg.SCH_CNT_CLEAR 1 true)
def execPeakMarginClear (p : Path) (s : State) : Host.Outcome State Fault Refusal := .next (s.rowWrite p Reg.SCH_CNT_CLEAR 2 true)
def execHistogramClear (p : Path) (s : State) : Host.Outcome State Fault Refusal := .next (s.rowWrite p Reg.SCH_CNT_CLEAR 4 true)

/-- SCH_HIST_SEL, SCH_QW_SEL and SCH_TRACE_CTRL (R63, R65). -/
def execHistSelect (p : Path) (data : Word) (s : State) : Host.Outcome State Fault Refusal := .next (s.rowWrite p Reg.SCH_HIST_SEL data true)
def execQueueWatchSelect (p : Path) (data : Word) (s : State) : Host.Outcome State Fault Refusal :=
  .next (s.rowWrite p Reg.SCH_QW_SEL data true)
def execTraceRearm (p : Path) (data : Word) (s : State) : Host.Outcome State Fault Refusal :=
  .next (s.rowWrite p Reg.SCH_TRACE_CTRL data (bitOf data 2))
def execTraceForce (p : Path) (data : Word) (s : State) : Host.Outcome State Fault Refusal :=
  .next (s.rowWrite p Reg.SCH_TRACE_CTRL data (bitOf data 3))

/-- The counters of each block (each block's CNT_CLEAR). -/
def execIngCntClear (p : Path) (s : State) : Host.Outcome State Fault Refusal := .next (s.rowWrite p Reg.ING_CNT_CLEAR 1 true)
def execCdcCntClear (p : Path) (s : State) : Host.Outcome State Fault Refusal := .next (s.rowWrite p Reg.CDC_CNT_CLEAR 1 true)
def execCmpCntClear (p : Path) (s : State) : Host.Outcome State Fault Refusal := .next (s.rowWrite p Reg.CMP_CNT_CLEAR 1 true)
def execChnCntClear (p : Path) (s : State) : Host.Outcome State Fault Refusal := .next (s.rowWrite p Reg.CHN_CNT_CLEAR 1 true)
def execCcxCntClear (p : Path) (s : State) : Host.Outcome State Fault Refusal := .next (s.rowWrite p Reg.CCX_CNT_CLEAR 1 true)
def execTimCntClear (p : Path) (s : State) : Host.Outcome State Fault Refusal := .next (s.rowWrite p Reg.TIM_CNT_CLEAR 1 true)
def execFlkCntClear (p : Path) (s : State) : Host.Outcome State Fault Refusal := .next (s.rowWrite p Reg.FLK_CNT_CLEAR 1 true)
def execEmcCntClear (p : Path) (s : State) : Host.Outcome State Fault Refusal := .next (s.rowWrite p Reg.EMC_CNT_CLEAR 1 true)
def execLmpCntClear (p : Path) (s : State) : Host.Outcome State Fault Refusal := .next (s.rowWrite p Reg.LMP_CNT_CLEAR 1 true)
def execCalCntClear (p : Path) (s : State) : Host.Outcome State Fault Refusal := .next (s.rowWrite p Reg.CAL_CNT_CLEAR 1 true)
def execDrcCntClear (p : Path) (s : State) : Host.Outcome State Fault Refusal := .next (s.rowWrite p Reg.DRC_CNT_CLEAR 1 true)
def execThmCntClear (p : Path) (s : State) : Host.Outcome State Fault Refusal := .next (s.rowWrite p Reg.THM_CNT_CLEAR 1 true)
def execRedCntClear (p : Path) (s : State) : Host.Outcome State Fault Refusal := .next (s.rowWrite p Reg.RED_CNT_CLEAR 1 true)
def execTruCntClear (p : Path) (s : State) : Host.Outcome State Fault Refusal := .next (s.rowWrite p Reg.TRU_CNT_CLEAR 1 true)
def execCmdCntClear (p : Path) (s : State) : Host.Outcome State Fault Refusal := .next (s.rowWrite p Reg.CMD_CNT_CLEAR 1 true)
def execDbgCntClear (w : RegWrite) (s : State) : Host.Outcome State Fault Refusal :=
  if w.addr = Reg.DBG_CNT_CLEAR then .next (s.regWrite w) else .next s

/-- Ports and streams (R67, R70). -/
def execPortModeChange (p : Path) (port : Nat) (data : Word) (s : State) : Host.Outcome State Fault Refusal :=
  .next (s.rowWrite p (Reg.ING_PORT_CFG port) data (decide (port < 4)))
def execStreamEnable (p : Path) (stream : Nat) (data : Word) (s : State) : Host.Outcome State Fault Refusal :=
  .next (s.rowWrite p (Reg.ING_STR_CTRL stream) data (decide (stream < 16) && bitOf data 0))
def execStreamDisable (p : Path) (stream : Nat) (data : Word) (s : State) : Host.Outcome State Fault Refusal :=
  .next (s.rowWrite p (Reg.ING_STR_CTRL stream) data (decide (stream < 16) && !bitOf data 0))

/-- The return stream (R94, R97). -/
def execReturnEnable (p : Path) (data : Word) (s : State) : Host.Outcome State Fault Refusal :=
  .next (s.rowWrite p Reg.CDC_RET_CTRL data (bitOf data 0))
def execForceIdr (p : Path) (data : Word) (s : State) : Host.Outcome State Fault Refusal :=
  .next (s.rowWrite p Reg.CDC_RET_CTRL data (bitOf data 1))
def execReturnReadPointer (p : Path) (data : Word) (s : State) : Host.Outcome State Fault Refusal :=
  .next (s.rowWrite p Reg.CDC_RET_RD data true)

/-- Layers and the commit (R110, R112). -/
def execLayerWrite (w : RegWrite) (s : State) : Host.Outcome State Fault Refusal :=
  if inRange w.addr (Reg.CMP_LAYER 0) 0x64FFF then .next (s.regWrite w) else .next s
def execCommitGo (p : Path) (data : Word) (s : State) : Host.Outcome State Fault Refusal :=
  .next (s.rowWrite p Reg.CMP_COMMIT data (bitOf data 0))

/-- The chain link (R136, R146). -/
def execExpressRequest (p : Path) (data : Word) (s : State) : Host.Outcome State Fault Refusal :=
  .next (s.rowWrite p Reg.CHN_EXPRESS data true)
def execRetrain (p : Path) (port : Nat) (data : Word) (s : State) : Host.Outcome State Fault Refusal :=
  .next (s.rowWrite p (Reg.CHN_PORT_CTRL port) data (decide (port < 4) && bitOf data 0))

/-- Time (R176, R179, R180). -/
def execTimeStep (p : Path) (data : Word) (s : State) : Host.Outcome State Fault Refusal :=
  .next (s.rowWrite p Reg.TIM_CTRL data (bitOf data 0))
def execPulseEnable (p : Path) (unit : Nat) (data : Word) (s : State) : Host.Outcome State Fault Refusal :=
  .next (s.rowWrite p (Reg.TIM_OUT_CTRL unit) data (decide (unit < 8) && bitOf data 0))
def execPulseDisable (p : Path) (unit : Nat) (data : Word) (s : State) : Host.Outcome State Fault Refusal :=
  .next (s.rowWrite p (Reg.TIM_OUT_CTRL unit) data (decide (unit < 8) && !bitOf data 0))

/-- Emitter correction and lamp drive (R206, R209, R230, R231). -/
def execBankSwap (p : Path) (data : Word) (s : State) : Host.Outcome State Fault Refusal :=
  .next (s.rowWrite p Reg.EMC_CTRL data (bitOf data 3))
def execFadeArm (p : Path) (data : Word) (s : State) : Host.Outcome State Fault Refusal :=
  .next (s.rowWrite p Reg.EMC_FADE_CTRL data (bitOf data 29))
def execLampOn (p : Path) (data : Word) (s : State) : Host.Outcome State Fault Refusal := .next (s.rowWrite p Reg.LMP_CTRL data true)
def execFaultClr (p : Path) (data : Word) (s : State) : Host.Outcome State Fault Refusal :=
  .next (s.rowWrite p Reg.LMP_CTRL data (bitOf data 2))
def execForceBlank (p : Path) (data : Word) (s : State) : Host.Outcome State Fault Refusal := .next (s.rowWrite p Reg.LMP_CTRL data true)

/-- DRAM set points, sensors, Umbra and TMUX (R259, R266, R267, R303, R311, R391). -/
def execSetPointGo (p : Path) (data : Word) (s : State) : Host.Outcome State Fault Refusal :=
  .next (s.rowWrite p Reg.DRC_SP_CTRL data (bitOf data 3))
def execSubstitute (p : Path) (channel : Nat) (data : Word) (s : State) : Host.Outcome State Fault Refusal :=
  .next (s.rowWrite p (Reg.THM_SUB channel) data (decide (channel < 16)))
def execGuardAck (p : Path) (data : Word) (s : State) : Host.Outcome State Fault Refusal :=
  .next (s.rowWrite p Reg.THM_CTRL data (bitOf data 0))
def execRecheck (p : Path) (data : Word) (s : State) : Host.Outcome State Fault Refusal :=
  .next (s.rowWrite p Reg.THM_CTRL data (bitOf data 1))
def execWakeWrite (p : Path) (data : Word) (s : State) : Host.Outcome State Fault Refusal :=
  .next (s.rowWrite p Reg.UMB_CTRL data (bitOf data 1))
def execBootGo (p : Path) (data : Word) (s : State) : Host.Outcome State Fault Refusal :=
  .next (s.rowWrite p Reg.UMB_CTRL data (bitOf data 3))
def execTmuxSelect (k : Nat) (w : RegWrite) (s : State) : Host.Outcome State Fault Refusal :=
  if k < 16 ∧ w.addr = Reg.DBG_TMUX_SEL k then .next (s.regWrite w) else .next s

/-! ### PCIe rings (R350, R354, R363) -/

/-- CMD_CQ_HEAD and RING_EN. -/
def execCqHeadWrite (p : Path) (data : Word) (s : State) : Host.Outcome State Fault Refusal := .next (s.rowWrite p Reg.CMD_CQ_HEAD data true)
def execRingEnable (p : Path) (data : Word) (s : State) : Host.Outcome State Fault Refusal :=
  .next (s.rowWrite p Reg.CMD_RING_CFG data (bitOf data 16))
def execRingDisable (p : Path) (data : Word) (s : State) : Host.Outcome State Fault Refusal :=
  .next (s.rowWrite p Reg.CMD_RING_CFG data (!bitOf data 16))

/-- Entries the host has submitted and the device has not read. -/
def State.sqWaiting (s : State) : Nat :=
  let m := 2 * s.sqSize
  ((s.reg Reg.CMD_SQ_TAIL).toNat + m - (s.reg Reg.CMD_SQ_HEAD).toNat % m) % m

/-- Read whole commands from the entries up to CMD_SQ_TAIL, moving CMD_SQ_HEAD past each, and run them in order. -/
def State.runEntries (t : Nat) : Nat → State → List Byte → State
  | 0, s, _ => s
  | fuel + 1, s, bytes =>
    let n := 32 + leAt bytes 2 2
    let k := entriesOf n
    if !s.ringOn || s.sqWaiting < k then s
    else
      let head := ((s.reg Reg.CMD_SQ_HEAD).toNat + k) % (2 * s.sqSize)
      State.runEntries t fuel ((s.setNum Reg.CMD_SQ_HEAD head).runCommand .pcie t (bytes.take n)) (bytes.drop (64 * k))

/-- SQ_TAIL_WRITE: the tail moves, and the device reads and starts the commands up to it, in order (R348, R350). -/
def execSqTailWrite (x : SqTail) (s : State) : Host.Outcome State Fault Refusal :=
  let s0 := s.tick x.t
  let w : RegWrite := { path := x.path, addr := Reg.CMD_SQ_TAIL, data := x.data, be := 15 }
  let s1 := s0.regWrite w
  if s0.writeAllowed w ∧ (s1.reg Reg.CMD_SQ_TAIL).toNat = x.data.toNat % 65536 % (2 * s0.sqSize) then
    .next (State.runEntries x.t (entriesOf x.entries.length) s1 x.entries)
  else .next s1

/-- PCIE_RESET: the endpoint is reset and the PCIe mailbox abandoned; the running image, ring and picture go on (R77, R354). -/
def execPcieReset (t : Nat) (s : State) : Host.Outcome State Fault Refusal :=
  let s1 := (s.tick t).abandonPcie
  .next { s1 with ing := { s1.ing with pcie := PcieSt.reset } }

/-! ### The SPI target port (R346, R351) -/

/-- SPI_GO. -/
def execSpiGo (p : Path) (data : Word) (t : Nat) (s : State) : Host.Outcome State Fault Refusal :=
  .next ((s.tick t).rowWrite p Reg.CMD_SPI_CTRL data (bitOf data 0))

/-- One word of a READ frame, most significant byte first. -/
def State.spiReadWord (z : State × List Byte) (a : Nat) : State × List Byte :=
  let r := z.1.regRead .spi a
  (r.2, z.2 ++ beBytes 4 r.1)

/-- SPI_READ: words from the address and those after it. -/
def execSpiRead (addr words : Nat) (s : State) : Host.Outcome State Fault Refusal :=
  if !s.regPathOpen .spi then .next s
  else
    let z := ((List.range words).map (fun k => (addr + 4 * k) % 2 ^ 32)).foldl State.spiReadWord (s, [])
    .next (z.1.emit (.readData z.2))

/-- SPI_WRITE: each word is one access, to the address and those after it. -/
def execSpiWrite (addr : Nat) (data : List Word) (s : State) : Host.Outcome State Fault Refusal :=
  .next (data.zipIdx.foldl (fun (z : State) x => z.regWrite { path := .spi, addr := (addr + 4 * x.2) % 2 ^ 32, data := x.1, be := 15 }) s)

/-- SPI_STATUS: one byte. -/
def execSpiStatus (writePending : Bool) (s : State) : Host.Outcome State Fault Refusal :=
  if !s.regPathOpen .spi then .next s
  else .next (s.emit (.readData [byteOf (flag writePending + 2 * flag (bitOf (s.reg Reg.CMD_SPI_CTRL) 1) + 4 * flag s.umb.spiHold)]))

/-! ### The chain control channel (R10, R131) -/

/-- REG_RD: the tile reads the register and answers REG_RSP. -/
def execRegRd (m : RegMsg) (s : State) : Host.Outcome State Fault Refusal :=
  let s0 := s.tick m.t
  if !s0.regPathOpen (.chain m.side) then .next s0
  else
    let r := s0.regRead (.chain m.side) m.addr
    .next (r.2.tileSend Msg.REG_RSP m.side m.tag (0 :: leBytes 4 r.1))

/-- REG_WR: the tile writes the register and answers REG_RSP; the data of that answer is a free value. -/
def execRegWr (m : RegMsg) (s : State) : Host.Outcome State Fault Refusal :=
  let s0 := s.tick m.t
  if !s0.regPathOpen (.chain m.side) then .next s0
  else
    let s1 := s0.regWrite { path := .chain m.side, addr := m.addr, data := m.data, be := 15 }
    let f := s1.takeFree
    .next (f.2.tileSend Msg.REG_RSP m.side m.tag (0 :: leBytes 4 f.1))

/-! ### Management (R79) -/

/-- Management is heard at a sub-port now. -/
def State.mgmtOpen (s : State) (port sub : Nat) : Bool := s.umb.powered && s.umb.coreOut && s.pstate != Ps.UMBRA && s.mgmtAt port sub

/-- The lowest session number not in use, from 1. -/
def State.freeSession (s : State) : Nat := ((List.range 16).find? (fun k => !s.ing.sessions.any (fun x => x.id == k + 1))).getD 15 + 1

/-- OPEN by a host whose signature verified: BUSY beyond MAX_SESSIONS, else the device's share and nonce, both free values, signed
with its identity key, and the session key both sides take. -/
def State.openSession (s : State) (o : MgmtOpen) : State :=
  if s.get Reg.ING_MGMT_CFG ⟨16, 3⟩ ≤ s.ing.sessions.length then s.emit .mgmtBusy
  else
    let a := s.takeFree
    let b := a.2.takeFree
    let share := leBytes 56 a.1
    let nonce := leBytes o.nonce.length b.1
    let id := s.freeSession
    let key := Config.shake256 (Config.sharedSecret (o.share ++ share) ++ o.nonce ++ nonce) 32
    let x : Session := { id := id, key := key, lastSeq := 0, sendSeq := 0, lastAt := o.t }
    let s1 : State := { b.2 with ing := { b.2.ing with sessions := b.2.ing.sessions ++ [x] } }
    let body := share ++ nonce ++ leBytes 1 id
    s1.emit (.mgmt id 0 (signature identityKey "DN9600-MG" body) body)

/-- OPEN: a signature that does not verify under a known MGMT key counts and gets no answer. -/
def execMgmtOpen (o : MgmtOpen) (s : State) : Host.Outcome State Fault Refusal :=
  let s0 := (s.tick o.t).takeControl o.port
  if !s0.mgmtOpen o.port o.sub then .next s0
  else match s0.keyFor Us.MGMT o.key with
    | none => .next s0.sigFailed
    | some k =>
      if Config.ed448phVerify k (asciiBytes "DN9600-MG") (o.share ++ o.nonce ++ o.fields) o.signature then .next (s0.openSession o)
      else .next s0.sigFailed

/-- The session a request is valid for: open, its tag right, its number above the last one accepted. -/
def State.validSession (s : State) (r : MgmtReq) : Option Session :=
  match s.ing.sessions.find? (fun x => x.id == r.session) with
  | none => none
  | some x => if Config.kmac x.key r.covered 16 = r.tag ∧ x.lastSeq < r.seq then some x else none

/-- A request is dropped and counted. -/
def State.mgmtDrop (s : State) : State := s.bump Reg.ING_MGMT_AUTHFAIL 1

/-- A valid request moves the session's number and its time. -/
def State.noteRequest (s : State) (r : MgmtReq) : State :=
  let l := s.ing.sessions.map (fun (x : Session) => if x.id = r.session then { x with lastSeq := r.seq, lastAt := r.t } else x)
  { s with ing := { s.ing with sessions := l } }

/-- What a request asks for: a register read or write, answered at once, or a command. -/
def State.mgmtServe (s : State) (k t : Nat) (b : MgmtBody) : State :=
  match b with
  | .read a => let r := s.regRead (.mgmt k) a; r.2.mgmtSend k (leBytes 4 r.1)
  | .write a d be => (s.regWrite { path := .mgmt k, addr := a, data := d, be := be }).mgmtSend k []
  | .command op len tag reserved body =>
    (s.runOpcode op { path := .mgmt k, len := len, tag := tag, reserved := reserved, body := body, t := t }).afterAnswer

/-- MGMT_REQUEST. -/
def execMgmtRequest (r : MgmtReq) (s : State) : Host.Outcome State Fault Refusal :=
  let s0 := (s.tick r.t).takeControl r.port
  if !s0.mgmtOpen r.port r.sub then .next s0
  else match s0.validSession r with
    | none => .next s0.mgmtDrop
    | some _ => .next ((s0.noteRequest r).mgmtServe r.session r.t r.body)

/-- A session ends, and its mailbox is abandoned (R354). -/
def State.endSession (s : State) (k : Nat) : State :=
  ({ s with ing := { s.ing with sessions := s.ing.sessions.filter (fun x => x.id != k) } } : State).abandonOps (.mgmt k)

/-- CLOSE. -/
def execMgmtClose (r : MgmtReq) (s : State) : Host.Outcome State Fault Refusal :=
  let s0 := (s.tick r.t).takeControl r.port
  if !s0.mgmtOpen r.port r.sub then .next s0
  else match s0.validSession r with
    | none => .next s0.mgmtDrop
    | some _ => .next (s0.endSession r.session)

/-- SESSION_TIMEOUT: 600 s without a valid request. -/
def execSessionTimeout (session t : Nat) (s : State) : Host.Outcome State Fault Refusal :=
  let s0 := s.tick t
  if s0.ing.sessions.any (fun x => x.id == session && decide (x.lastAt + 600 * secT ≤ t)) then .next (s0.endSession session) else .next s0

/-! ### JTAG (R389) -/

/-- JTAG_UPDATE_DR: the boundary cells, a DBG_ACCESS of a register outside MET, or a shift of another register. -/
def execJtagUpdateDr (d : JtagDr) (s : State) : Host.Outcome State Fault Refusal :=
  if !s.coreLive then .next s
  else match d with
    | .boundary cells =>
      if s.dbg.ir = Ir.SAMPLE then .next { s with dbg := { s.dbg with boundary := cells } }
      else if s.dbg.ir = Ir.EXTEST ∨ s.dbg.ir = Ir.EXTEST_PULSE ∨ s.dbg.ir = Ir.EXTEST_TRAIN then
        .next ({ s with dbg := { s.dbg with boundary := cells } } : State).driveCells
      else .next s
    | .access write a data =>
      if s.dbg.ir ≠ Ir.DBG_ACCESS ∨ a / 65536 = 18 then .next s
      else if write then .next (s.regWrite { path := .jtag, addr := a, data := data, be := 15 })
      else .next (s.readOut .jtag a)
    | .other => if s.dbg.ir = Ir.IDCODE then .next (s.emit (.readData (leBytes 4 idcode))) else .next s

end Sys2Proof.Machine
end

