-- ==== Sys2Proof/Machine/Frame.lean ====
section
/-! DEFINITION. What happens at a frame start, at the opening of a chain window, at the start of a run, at the end of a background
chunk, and when a tile sends HEALTH or an island crosses its floor (R20, R28, R40, R58, R113, R115, R168, R191, R202 to R209, R246,
R281 to R283, R287, R288, R296, R299, R338, R358). -/
namespace Sys2Proof.Machine

/-! ### FRAME_START (R168) -/

/-- CCX_ROI_OVER counts the elements of ROI_CELLS that a value taking effect brings along in vain (R163). -/
def State.noteRoi (s : State) (im : Image) (f : Nat) : State :=
  match (s.gen.pendingParams.filter (fun q => dueAtFrame f q.apply && q.id == 7)).getLast? with
  | none => s
  | some q => s.bump Reg.CCX_ROI_OVER (roiOver im.chains im.timeline.nImage q.value)

/-- A tile that drives a timeline samples what the pictures of WFN f use, at R(f) (R204). -/
def State.sampleDue (s : State) (tl : Timeline) (f t : Nat) : State :=
  if s.isTile && decide (2 ≤ s.lockState) && decide (s.flk.f0 ≤ f) then s.emitterFrame tl f t else s

/-- The statistics and queues of a frame that ends (R62, R63, R107, R263). -/
def State.endFrame (s : State) (im : Image) (f t : Nat) : State := (((s.rollFrame im t).pruneSets).pruneInstances f).rollPorts

/-- Everything W(F) brings: parameters, the held state, the pair's hand-over, statistics, the correction samples of picture F + 1,
the lamp, dark standby and the meter's tags. -/
def State.frameBoundary (s : State) (im : Image) (f t : Nat) : State :=
  let s1 := ((s.noteRoi im f).applyParams (dueAtFrame f)).holdEffect f
  let s2 := if s1.isSender then s1.handOver else s1
  let s3 := (s2.endFrame im f t).sampleDue im.timeline (f + 1) t
  ((s3.lampFrame f t).standbyEntry t).meterFrame f

/-- FRAME_START: wall time reaches W(F). -/
def execFrameStart (wfn : Nat) (s : State) : Host.Outcome State Fault Refusal :=
  match s.image? with
  | none => .next s
  | some im =>
    let t := frameStart im.timeline wfn
    .next ((s.advance t).frameBoundary im wfn t)

/-! ### CHAIN_WINDOW_OPEN (R20) -/

/-- A sender takes the latest complete picture of every stream for the window (R115). -/
def State.takePictures (s : State) (f slot : Nat) : State :=
  let old := s.cmp.windows.filter (fun w => !(w.wfn == f && w.slot == slot))
  { s with cmp := { s.cmp with windows := old ++ [{ wfn := f, slot := slot, pics := s.latestPics }] } }

/-- A chain window opens at a sender: announced pictures become latest complete, the pictures are taken, a resynchronisation or a
change of the stream flag takes effect, and express symbols that waited go out (R89, R115, R136, R282, R287). -/
def State.senderWindow (s : State) (f slot t : Nat) : State :=
  ((((s.promoteAnnounced f slot t).takePictures f slot).resyncNow).applyFlag).expressWindow

/-- CHAIN_WINDOW_OPEN: the sender's part, or a tile's selection of its port (R283). -/
def execChainWindowOpen (wfn slot : Nat) (s : State) : Host.Outcome State Fault Refusal :=
  match s.image? with
  | none => .next s
  | some im =>
    if im.timeline.nImage ≤ slot then .next s
    else
      let t := windowOpen im.timeline wfn slot
      let s0 := s.tick t
      match im.role with
      | .sender => .next (s0.senderWindow wfn slot t)
      | .tile => .next s0.selectPort

/-! ### RUN_START (R191 to R193) -/

/-- A tile's first live set, the row map and the samples of picture F0 (R204, R205, R228). -/
def State.tileRunStart (s : State) : State :=
  let s1 := s.firstLive s.flk.f0
  (match s1.timeline? with | some tl => s1.sampleRowMap tl.scan | none => s1).takeSample s.flk.f0

/-- RUN_START: W(F0 - 1) arrives; the run enters RUNNING, or HELD while the held state is in force, and an activation ends. -/
def execRunStart (s : State) : Host.Outcome State Fault Refusal :=
  match s.image? with
  | none => .next s
  | some im =>
    if s.lockState ≠ 2 ∨ s.gen.loadDue then .next s
    else
      let g := s.flk.f0 - 1
      let s0 := s.tick (frameStart im.timeline g)
      let s1 := (s0.put Reg.FLK_STATE Fld.FLK_STATE_STATE (if s0.heldAt g then 4 else 3)).bump Reg.FLK_RUNS 1
      let s2 : State := { s1 with tru := { s1.tru with runSince := s1.now } }
      let s3 := match im.role with
        | .sender => s2.pairRunStart
        | .tile => s2.tileRunStart
      .next s3.activationDone

/-! ### BACKGROUND_CHUNK_END (R58, R60) -/

/-- A background job that has done its work: a self-test ends, a store's checks are complete; staging, admission and a
live set end by their own rows. -/
def State.jobDone (s : State) (j : BgJob) : State :=
  match j.kind with
  | .selftest i => s.endSelftest i j.token
  | .calStore => s.storeChecked
  | .admission => s
  | .stage _ => s
  | .liveSet => s

/-- BACKGROUND_CHUNK_END: the chunk of an island ends, and the next one starts if it fits the window. -/
def execBackgroundChunkEnd (island t : Nat) (s : State) : Host.Outcome State Fault Refusal :=
  if !s.sch.chunks.any (fun c => c.island == island && decide (c.ends ≤ t)) then .next s
  else
    let r := s.endChunk island t
    .next (match r.2 with
      | none => r.1
      | some j => r.1.jobDone j)

/-! ### HEALTH_SEND (R288) -/

/-- The HEALTH body (Table 16.3). R14 puts RING_MISCABLED in the health report and the table has no field for it: it shows in
CHN_PORT_STAT.MISCABLED alone (DESIGN CHOICE, log entry 79). -/
def State.healthBody (s : State) : List Byte :=
  let k (i : Nat) : List Byte := leBytes 2 (satTo 0xFFFF (s.red.since.getD i 0))
  let sel := s.selCode + 4 * flag (s.portEligible 0) + 8 * flag (s.portEligible 1) +
    16 * flag (s.bit Reg.RED_TILE Fld.RED_TILE_DIVERGING)
  leBytes 1 sel ++ leBytes 1 (s.timeState + 8 * flag s.aligned) ++
    leBytes 1 (s.level + 8 * flag (s.bit Reg.THM_STATE Fld.THM_STATE_T_BLANK) + 16 * flag s.lmp.fault) ++ zeroBytes 1 ++
    leBytes 4 ((s.now - s.gen.bootAt) / secT) ++ (List.range 6).flatMap k ++ leBytes 4 (s.wfnNow % 2 ^ 32)

/-- HEALTH_SEND, at a wall-time second that is a multiple of HEALTH_S or within 1 ms of a change of selection: the record goes out on both
ports, and its counts start afresh. -/
def execHealthSend (t : Nat) (s : State) : Host.Outcome State Fault Refusal :=
  let s0 := s.tick t
  let second := decide (s0.now % (s0.get Reg.RED_CFG Fld.RED_CFG_HEALTH_S * secT) = 0)
  if !s0.isTile ∨ !(second || s0.red.selectedAt.any (fun a => decide (s0.now ≤ a + msT))) then .next s0
  else
    let s1 := s0.tileSend Msg.HEALTH 0 0 s0.healthBody
    .next { s1 with red := { s1.red with since := [], selectedAt := none } }

/-! ### ISLAND_BELOW_FLOOR, ISLAND_FLOOR_REGAINED (R28) -/

/-- The running image declares an island enabled. -/
def State.islandOn (s : State) (island : Nat) : Bool :=
  s.image?.any (fun im => im.islands.any (fun r => r.island == island && r.enabled)) && decide (island ≤ 40)

/-- FREQ and BELOW_FLOOR of an island. -/
def State.setFloor (s : State) (island freq : Nat) (below : Bool) : State :=
  (s.put (Reg.GEN_ISL_CLK island) Fld.GEN_ISL_CLK_FREQ (freq % 65536)).putBit (Reg.GEN_ISL_CLK island) Fld.GEN_ISL_CLK_BELOW_FLOOR below

/-- ISLAND_BELOW_FLOOR: BELOW_FLOOR rises, and FLOOR_EVENT with its rise. -/
def execIslandBelowFloor (island freq t : Nat) (s : State) : Host.Outcome State Fault Refusal :=
  let s0 := s.tick t
  if !s0.islandOn island then .next s0
  else
    let rose := !s0.bit (Reg.GEN_ISL_CLK island) Fld.GEN_ISL_CLK_BELOW_FLOOR
    let s1 := s0.setFloor island freq true
    .next (if rose then s1.putBit (Reg.GEN_ISL_CLK island) Fld.GEN_ISL_CLK_FLOOR_EVENT true else s1)

/-- ISLAND_FLOOR_REGAINED: BELOW_FLOOR clears; FLOOR_EVENT stays. -/
def execIslandFloorRegained (island freq t : Nat) (s : State) : Host.Outcome State Fault Refusal :=
  let s0 := s.tick t
  if !s0.islandOn island then .next s0 else .next (s0.setFloor island freq false)

end Sys2Proof.Machine
end

