-- ==== Sys2Proof/Machine/Dispatch.lean ====
section
/-! DEFINITION. One arm per command of spec/opcode_table.json, each a direct call of its meaning. -/
namespace Sys2Proof.Machine

def exec (i : Instr) (s : State) : Host.Outcome State Fault Refusal :=
  match i with
  | .instanceLoad wfn => Sys2Proof.Machine.execInstanceLoad wfn s
  | .issueSlot wfn op => Sys2Proof.Machine.execIssueSlot wfn op s
  | .dependenceDecrement wfn op t => Sys2Proof.Machine.execDependenceDecrement wfn op t s
  | .operationComplete d => Sys2Proof.Machine.execOperationComplete d s
  | .latestStart wfn op => Sys2Proof.Machine.execLatestStart wfn op s
  | .operationDeadline wfn op => Sys2Proof.Machine.execOperationDeadline wfn op s
  | .shedExpiry wfn op => Sys2Proof.Machine.execShedExpiry wfn op s
  | .ingressWord w => Sys2Proof.Machine.execIngressWord w s
  | .arrivalWindowClose wfn window => Sys2Proof.Machine.execArrivalWindowClose wfn window s
  | .slackWindowStart island window t => Sys2Proof.Machine.execSlackWindowStart island window t s
  | .backgroundChunkEnd island t => Sys2Proof.Machine.execBackgroundChunkEnd island t s
  | .breachCounterClear p => Sys2Proof.Machine.execBreachCounterClear p s
  | .peakMarginClear p => Sys2Proof.Machine.execPeakMarginClear p s
  | .histogramClear p => Sys2Proof.Machine.execHistogramClear p s
  | .histSelect p data => Sys2Proof.Machine.execHistSelect p data s
  | .queueWatchSelect p data => Sys2Proof.Machine.execQueueWatchSelect p data s
  | .traceRearm p data => Sys2Proof.Machine.execTraceRearm p data s
  | .traceForce p data => Sys2Proof.Machine.execTraceForce p data s
  | .ethernetFrameRx f => Sys2Proof.Machine.execEthernetFrameRx f s
  | .portModeChange p port data => Sys2Proof.Machine.execPortModeChange p port data s
  | .subPortLinkChange port sub up anDone fecLock => Sys2Proof.Machine.execSubPortLinkChange port sub up anDone fecLock s
  | .streamEnable p stream data => Sys2Proof.Machine.execStreamEnable p stream data s
  | .streamDisable p stream data => Sys2Proof.Machine.execStreamDisable p stream data s
  | .digest d => Sys2Proof.Machine.execDigest d s
  | .verdict v => Sys2Proof.Machine.execVerdict v s
  | .packet r => Sys2Proof.Machine.execPacket r s
  | .request stream seq t => Sys2Proof.Machine.execRequest stream seq t s
  | .requestRepeat stream seq t => Sys2Proof.Machine.execRequestRepeat stream seq t s
  | .forwardUnasked stream seq t => Sys2Proof.Machine.execForwardUnasked stream seq t s
  | .missing stream t => Sys2Proof.Machine.execMissing stream t s
  | .bar2Access a => Sys2Proof.Machine.execBar2Access a s
  | .mgmtOpen o => Sys2Proof.Machine.execMgmtOpen o s
  | .mgmtRequest r => Sys2Proof.Machine.execMgmtRequest r s
  | .mgmtClose r => Sys2Proof.Machine.execMgmtClose r s
  | .sessionTimeout session t => Sys2Proof.Machine.execSessionTimeout session t s
  | .arpRequest port sub target t => Sys2Proof.Machine.execArpRequest port sub target t s
  | .icmpEcho port sub target data t => Sys2Proof.Machine.execIcmpEcho port sub target data t s
  | .pcieReset t => Sys2Proof.Machine.execPcieReset t s
  | .ingCntClear p => Sys2Proof.Machine.execIngCntClear p s
  | .decodeStart decoder t => Sys2Proof.Machine.execDecodeStart decoder t s
  | .pictureDecodeComplete d => Sys2Proof.Machine.execPictureDecodeComplete d s
  | .promote target wfn slot t => Sys2Proof.Machine.execPromote target wfn slot t s
  | .returnEnable p data => Sys2Proof.Machine.execReturnEnable p data s
  | .forceIdr p data => Sys2Proof.Machine.execForceIdr p data s
  | .returnSliceStart wfn slice arrival => Sys2Proof.Machine.execReturnSliceStart wfn slice arrival s
  | .returnSliceWritten r => Sys2Proof.Machine.execReturnSliceWritten r s
  | .returnReadPointer p data => Sys2Proof.Machine.execReturnReadPointer p data s
  | .cdcCntClear p => Sys2Proof.Machine.execCdcCntClear p s
  | .surfaceAlloc c => Sys2Proof.Machine.execSurfaceAlloc c s
  | .surfaceRelease c => Sys2Proof.Machine.execSurfaceRelease c s
  | .surfaceFree handle t => Sys2Proof.Machine.execSurfaceFree handle t s
  | .layerWrite w => Sys2Proof.Machine.execLayerWrite w s
  | .commitGo p data => Sys2Proof.Machine.execCommitGo p data s
  | .commitValidationEnd t handshake => Sys2Proof.Machine.execCommitValidationEnd t handshake s
  | .latchInstant wfn => Sys2Proof.Machine.execLatchInstant wfn s
  | .staleTimeout stream t => Sys2Proof.Machine.execStaleTimeout stream t s
  | .cmpCntClear p => Sys2Proof.Machine.execCmpCntClear p s
  | .rowForward port blocks t => Sys2Proof.Machine.execRowForward port blocks t s
  | .controlRowRx c => Sys2Proof.Machine.execControlRowRx c s
  | .superframe port t => Sys2Proof.Machine.execSuperframe port t s
  | .expressSymbolRx port blocks t => Sys2Proof.Machine.execExpressSymbolRx port blocks t s
  | .expressRequest p data => Sys2Proof.Machine.execExpressRequest p data s
  | .rate port code sfn t => Sys2Proof.Machine.execRate port code sfn t s
  | .rateSwitch port t => Sys2Proof.Machine.execRateSwitch port t s
  | .txslip port slips t => Sys2Proof.Machine.execTxslip port slips t s
  | .announce a => Sys2Proof.Machine.execAnnounce a s
  | .signalDetect port x => Sys2Proof.Machine.execSignalDetect port x s
  | .equaliseDone port t => Sys2Proof.Machine.execEqualiseDone port t s
  | .identifyWindow w => Sys2Proof.Machine.execIdentifyWindow w s
  | .blockLock l => Sys2Proof.Machine.execBlockLock l s
  | .deskewDone port skews t => Sys2Proof.Machine.execDeskewDone port skews t s
  | .trainingCycleEnd port rxUp t => Sys2Proof.Machine.execTrainingCycleEnd port rxUp t s
  | .portUp port chain t => Sys2Proof.Machine.execPortUp port chain t s
  | .lossOfLock port cause t => Sys2Proof.Machine.execLossOfLock port cause t s
  | .chainDown chain t => Sys2Proof.Machine.execChainDown chain t s
  | .retrain p port data => Sys2Proof.Machine.execRetrain p port data s
  | .eastAbsent chain t => Sys2Proof.Machine.execEastAbsent chain t s
  | .pllHoldoverExpiry port t => Sys2Proof.Machine.execPllHoldoverExpiry port t s
  | .chnCntClear p => Sys2Proof.Machine.execChnCntClear p s
  | .refclkCoreStop t => Sys2Proof.Machine.execRefclkCoreStop t s
  | .sliceRx r => Sys2Proof.Machine.execSliceRx r s
  | .refreshReq chain ta wfn slot ref t => Sys2Proof.Machine.execRefreshReq chain ta wfn slot ref t s
  | .sliceEncode e => Sys2Proof.Machine.execSliceEncode e s
  | .sliceDecode wfn slot t => Sys2Proof.Machine.execSliceDecode wfn slot t s
  | .refreshReqRetry slot t => Sys2Proof.Machine.execRefreshReqRetry slot t s
  | .ccxCntClear p => Sys2Proof.Machine.execCcxCntClear p s
  | .sync m => Sys2Proof.Machine.execSync m s
  | .followUp m => Sys2Proof.Machine.execFollowUp m s
  | .delayResp m => Sys2Proof.Machine.execDelayResp m s
  | .delayReq port seq t => Sys2Proof.Machine.execDelayReq port seq t s
  | .ptpAnnounce a => Sys2Proof.Machine.execPtpAnnounce a s
  | .announceReceiptTimeout t => Sys2Proof.Machine.execAnnounceReceiptTimeout t s
  | .time m => Sys2Proof.Machine.execTime m s
  | .timeSend chain sfn t => Sys2Proof.Machine.execTimeSend chain sfn t s
  | .timeStep p data => Sys2Proof.Machine.execTimeStep p data s
  | .stepBoundary => Sys2Proof.Machine.execStepBoundary s
  | .stepRecord epoch boundary t => Sys2Proof.Machine.execStepRecord epoch boundary t s
  | .phaseSlewTimeout t => Sys2Proof.Machine.execPhaseSlewTimeout t s
  | .holdoverExpiry t => Sys2Proof.Machine.execHoldoverExpiry t s
  | .timeMessageTimeout t => Sys2Proof.Machine.execTimeMessageTimeout t s
  | .pulseEnable p unit data => Sys2Proof.Machine.execPulseEnable p unit data s
  | .pulseDisable p unit data => Sys2Proof.Machine.execPulseDisable p unit data s
  | .pulseEdge unit => Sys2Proof.Machine.execPulseEdge unit s
  | .pulseEnd unit => Sys2Proof.Machine.execPulseEnd unit s
  | .captureEdge unit falling e => Sys2Proof.Machine.execCaptureEdge unit falling e s
  | .capturePop p unit => Sys2Proof.Machine.execCapturePop p unit s
  | .timeNowLatch p => Sys2Proof.Machine.execTimeNowLatch p s
  | .timCntClear p => Sys2Proof.Machine.execTimCntClear p s
  | .registerWrite w => Sys2Proof.Machine.execRegisterWrite w s
  | .startCondition t primaryF0 => Sys2Proof.Machine.execStartCondition t primaryF0 s
  | .runStart => Sys2Proof.Machine.execRunStart s
  | .flkCntClear p => Sys2Proof.Machine.execFlkCntClear p s
  | .alignedRise t => Sys2Proof.Machine.execAlignedRise t s
  | .correctionTick t => Sys2Proof.Machine.execCorrectionTick t s
  | .recomputeComplete t => Sys2Proof.Machine.execRecomputeComplete t s
  | .bankSwap p data => Sys2Proof.Machine.execBankSwap p data s
  | .fadeArm p data => Sys2Proof.Machine.execFadeArm p data s
  | .emcCntClear p => Sys2Proof.Machine.execEmcCntClear p s
  | .glintWriteStart wfn slot t => Sys2Proof.Machine.execGlintWriteStart wfn slot t s
  | .glintWriteComplete t => Sys2Proof.Machine.execGlintWriteComplete t s
  | .latchSequence wfn slot => Sys2Proof.Machine.execLatchSequence wfn slot s
  | .imageSlotLatch wfn slot => Sys2Proof.Machine.execImageSlotLatch wfn slot s
  | .lineStart l => Sys2Proof.Machine.execLineStart l s
  | .configFrameSend t => Sys2Proof.Machine.execConfigFrameSend t s
  | .shadow m => Sys2Proof.Machine.execShadow m s
  | .lampOn p data => Sys2Proof.Machine.execLampOn p data s
  | .faultClr p data => Sys2Proof.Machine.execFaultClr p data s
  | .forceBlank p data => Sys2Proof.Machine.execForceBlank p data s
  | .lampPgRise t => Sys2Proof.Machine.execLampPgRise t s
  | .lampPgSettled t => Sys2Proof.Machine.execLampPgSettled t s
  | .lampPgTimeout t => Sys2Proof.Machine.execLampPgTimeout t s
  | .lampPgFall t => Sys2Proof.Machine.execLampPgFall t s
  | .blankNFall e => Sys2Proof.Machine.execBlankNFall e s
  | .blankNRise e => Sys2Proof.Machine.execBlankNRise e s
  | .lmpCntClear p => Sys2Proof.Machine.execLmpCntClear p s
  | .shadowSlotEnd t => Sys2Proof.Machine.execShadowSlotEnd t s
  | .colourMeasurement r t => Sys2Proof.Machine.execColourMeasurement r t s
  | .colourLoopPeriod t hostWrote => Sys2Proof.Machine.execColourLoopPeriod t hostWrote s
  | .calStageData b => Sys2Proof.Machine.execCalStageData b s
  | .calStore c => Sys2Proof.Machine.execCalStore c s
  | .flashOperationComplete staging ok t => Sys2Proof.Machine.execFlashOperationComplete staging ok t s
  | .trimStep trim t => Sys2Proof.Machine.execTrimStep trim t s
  | .calsetCopyComplete t => Sys2Proof.Machine.execCalsetCopyComplete t s
  | .calCntClear p => Sys2Proof.Machine.execCalCntClear p s
  | .dramRequest r => Sys2Proof.Machine.execDramRequest r s
  | .dramGrant t => Sys2Proof.Machine.execDramGrant t s
  | .dramReadReturn r => Sys2Proof.Machine.execDramReadReturn r s
  | .pageIdleExpiry channel sub bank t => Sys2Proof.Machine.execPageIdleExpiry channel sub bank t s
  | .refreshDue channel sub t => Sys2Proof.Machine.execRefreshDue channel sub t s
  | .gatherBurst channel t => Sys2Proof.Machine.execGatherBurst channel t s
  | .gatherBurstComplete g => Sys2Proof.Machine.execGatherBurstComplete g s
  | .setPointGo p data => Sys2Proof.Machine.execSetPointGo p data s
  | .switchWindow t => Sys2Proof.Machine.execSwitchWindow t s
  | .setPointSwitchComplete t => Sys2Proof.Machine.execSetPointSwitchComplete t s
  | .selfRefreshIdle channel commitAt t => Sys2Proof.Machine.execSelfRefreshIdle channel commitAt t s
  | .selfRefreshExit channel t => Sys2Proof.Machine.execSelfRefreshExit channel t s
  | .drcCntClear p => Sys2Proof.Machine.execDrcCntClear p s
  | .conversion c => Sys2Proof.Machine.execConversion c s
  | .levelFall t => Sys2Proof.Machine.execLevelFall t s
  | .substitute p channel data => Sys2Proof.Machine.execSubstitute p channel data s
  | .guardAck p data => Sys2Proof.Machine.execGuardAck p data s
  | .recheck p data => Sys2Proof.Machine.execRecheck p data s
  | .guardConversion c => Sys2Proof.Machine.execGuardConversion c s
  | .blankRelease t => Sys2Proof.Machine.execBlankRelease t s
  | .corePowerDrop t => Sys2Proof.Machine.execCorePowerDrop t s
  | .thermalRestart t => Sys2Proof.Machine.execThermalRestart t s
  | .thermalUnlock c => Sys2Proof.Machine.execThermalUnlock c s
  | .thmCntClear p => Sys2Proof.Machine.execThmCntClear p s
  | .health ta body t => Sys2Proof.Machine.execHealth ta body t s
  | .healthSend t => Sys2Proof.Machine.execHealthSend t s
  | .diverge chain ta wfn slot t => Sys2Proof.Machine.execDiverge chain ta wfn slot t s
  | .hello r => Sys2Proof.Machine.execHello r s
  | .helloRecheck stamps t => Sys2Proof.Machine.execHelloRecheck stamps t s
  | .stateRecord r => Sys2Proof.Machine.execStateRecord r s
  | .stateRecordSend t => Sys2Proof.Machine.execStateRecordSend t s
  | .linkStateTimeout t => Sys2Proof.Machine.execLinkStateTimeout t s
  | .configRecord o t => Sys2Proof.Machine.execConfigRecord o t s
  | .convergeEnd t => Sys2Proof.Machine.execConvergeEnd t s
  | .commitRecord wfn t => Sys2Proof.Machine.execCommitRecord wfn t s
  | .expressRecord mask code eseq t => Sys2Proof.Machine.execExpressRecord mask code eseq t s
  | .refreshRecord ta wfn slot t => Sys2Proof.Machine.execRefreshRecord ta wfn slot t s
  | .sliceSig ta wfn slot scrc fsig t => Sys2Proof.Machine.execSliceSig ta wfn slot scrc fsig t s
  | .tileRecord r t => Sys2Proof.Machine.execTileRecord r t s
  | .leave cause t => Sys2Proof.Machine.execLeave cause t s
  | .receiptCheck ta wfn slot => Sys2Proof.Machine.execReceiptCheck ta wfn slot s
  | .ringReturnLoss t => Sys2Proof.Machine.execRingReturnLoss t s
  | .silentTimeout ta t => Sys2Proof.Machine.execSilentTimeout ta t s
  | .joinTimeout t => Sys2Proof.Machine.execJoinTimeout t s
  | .joinRetry t => Sys2Proof.Machine.execJoinRetry t s
  | .holdoffExpiry t => Sys2Proof.Machine.execHoldoffExpiry t s
  | .startupStandbyExpiry t => Sys2Proof.Machine.execStartupStandbyExpiry t s
  | .pairRejoin c => Sys2Proof.Machine.execPairRejoin c s
  | .pairTakeback c => Sys2Proof.Machine.execPairTakeback c s
  | .pairRelinquish c => Sys2Proof.Machine.execPairRelinquish c s
  | .redCntClear p => Sys2Proof.Machine.execRedCntClear p s
  | .standby c => Sys2Proof.Machine.execStandby c s
  | .gatePoint t => Sys2Proof.Machine.execGatePoint t s
  | .wake c => Sys2Proof.Machine.execWake c s
  | .wakeWrite p data => Sys2Proof.Machine.execWakeWrite p data s
  | .wakePin pin x => Sys2Proof.Machine.execWakePin pin x s
  | .alarm t => Sys2Proof.Machine.execAlarm t s
  | .wakeComplete t => Sys2Proof.Machine.execWakeComplete t s
  | .powerDown c => Sys2Proof.Machine.execPowerDown c s
  | .pfWarning e => Sys2Proof.Machine.execPfWarning e s
  | .pfRestart t => Sys2Proof.Machine.execPfRestart t s
  | .corePgRise t => Sys2Proof.Machine.execCorePgRise t s
  | .coreResetRelease straps t => Sys2Proof.Machine.execCoreResetRelease straps t s
  | .corePgTimeout t => Sys2Proof.Machine.execCorePgTimeout t s
  | .powerRetry t => Sys2Proof.Machine.execPowerRetry t s
  | .corePgFall t => Sys2Proof.Machine.execCorePgFall t s
  | .resetN t => Sys2Proof.Machine.execResetN t s
  | .watchdogExpiry t => Sys2Proof.Machine.execWatchdogExpiry t s
  | .umbraPowerOn t => Sys2Proof.Machine.execUmbraPowerOn t s
  | .powerOnStart t => Sys2Proof.Machine.execPowerOnStart t s
  | .umbraSupplyLoss t => Sys2Proof.Machine.execUmbraSupplyLoss t s
  | .tcxoStop t => Sys2Proof.Machine.execTcxoStop t s
  | .bootGo p data => Sys2Proof.Machine.execBootGo p data s
  | .firmwareStart t => Sys2Proof.Machine.execFirmwareStart t s
  | .tcxoResume t => Sys2Proof.Machine.execTcxoResume t s
  | .pfSenseRise t => Sys2Proof.Machine.execPfSenseRise t s
  | .umbraRealign t => Sys2Proof.Machine.execUmbraRealign t s
  | .rtcLatch p => Sys2Proof.Machine.execRtcLatch p s
  | .reset c => Sys2Proof.Machine.execReset c s
  | .stageBegin c => Sys2Proof.Machine.execStageBegin c s
  | .stageData c => Sys2Proof.Machine.execStageData c s
  | .stageEnd c => Sys2Proof.Machine.execStageEnd c s
  | .stageVerifyComplete type t => Sys2Proof.Machine.execStageVerifyComplete type t s
  | .stageAbort c => Sys2Proof.Machine.execStageAbort c s
  | .stageTimeout type t => Sys2Proof.Machine.execStageTimeout type t s
  | .activate c => Sys2Proof.Machine.execActivate c s
  | .activateCommit t => Sys2Proof.Machine.execActivateCommit t s
  | .confirm c => Sys2Proof.Machine.execConfirm c s
  | .confirmTimeout t => Sys2Proof.Machine.execConfirmTimeout t s
  | .keyInstall c => Sys2Proof.Machine.execKeyInstall c s
  | .lcToken c => Sys2Proof.Machine.execLcToken c s
  | .scrap c => Sys2Proof.Machine.execScrap c s
  | .attest c => Sys2Proof.Machine.execAttest c s
  | .truCntClear p => Sys2Proof.Machine.execTruCntClear p s
  | .admitStaged c => Sys2Proof.Machine.execAdmit c s
  | .admissionComplete train t => Sys2Proof.Machine.execAdmissionComplete train t s
  | .energyLatch p => Sys2Proof.Machine.execEnergyLatch p s
  | .meterSample m => Sys2Proof.Machine.execMeterSample m s
  | .sealTransition low t => Sys2Proof.Machine.execSealTransition low t s
  | .lightOffer l => Sys2Proof.Machine.execLightOffer l s
  | .recordClose t => Sys2Proof.Machine.execRecordClose t s
  | .recordProgrammed err t => Sys2Proof.Machine.execRecordProgrammed err t s
  | .meterSupplyTrip t => Sys2Proof.Machine.execMeterSupplyTrip t s
  | .meterPowerOn flash t => Sys2Proof.Machine.execMeterPowerOn flash t s
  | .meterRead crcOk offset => Sys2Proof.Machine.execMeterRead crcOk offset s
  | .meterWrite crcOk offset data t => Sys2Proof.Machine.execMeterWrite crcOk offset data t s
  | .recordFetch crcOk number => Sys2Proof.Machine.execRecordFetch crcOk number s
  | .eventFetch crcOk number => Sys2Proof.Machine.execEventFetch crcOk number s
  | .meterFwBlock crcOk b => Sys2Proof.Machine.execMeterFwBlock crcOk b s
  | .meterVerify crcOk key => Sys2Proof.Machine.execMeterVerify crcOk key s
  | .meterActivate crcOk t => Sys2Proof.Machine.execMeterActivate crcOk t s
  | .metTag c => Sys2Proof.Machine.execMetTag c s
  | .metFetch c => Sys2Proof.Machine.execMetFetch c s
  | .regRd m => Sys2Proof.Machine.execRegRd m s
  | .regWr m => Sys2Proof.Machine.execRegWr m s
  | .regRsp m => Sys2Proof.Machine.execRegRsp m s
  | .mbox m => Sys2Proof.Machine.execMbox m s
  | .mboxRsp m => Sys2Proof.Machine.execMboxRsp m s
  | .bulk m => Sys2Proof.Machine.execBulk m s
  | .holdMessage kind wfn t => Sys2Proof.Machine.execHoldMessage kind wfn t s
  | .holdMessageRepeat t => Sys2Proof.Machine.execHoldMessageRepeat t s
  | .nop c => Sys2Proof.Machine.execNop c s
  | .resync c => Sys2Proof.Machine.execResync c s
  | .tokenStatus c => Sys2Proof.Machine.execTokenStatus c s
  | .abort c => Sys2Proof.Machine.execAbort c s
  | .hold c => Sys2Proof.Machine.execHold c s
  | .release c => Sys2Proof.Machine.execRelease c s
  | .paramWrite c => Sys2Proof.Machine.execParamWrite c s
  | .paramRead c => Sys2Proof.Machine.execParamRead c s
  | .selftest c => Sys2Proof.Machine.execSelftest c s
  | .tileReg c => Sys2Proof.Machine.execTileReg c s
  | .tileCmd c => Sys2Proof.Machine.execTileCmd c s
  | .tileBulk c => Sys2Proof.Machine.execTileBulk c s
  | .relayRetry ta tag t => Sys2Proof.Machine.execRelayRetry ta tag t s
  | .relayTimeout ta tag t => Sys2Proof.Machine.execRelayTimeout ta tag t s
  | .sqTailWrite x => Sys2Proof.Machine.execSqTailWrite x s
  | .cqHeadWrite p data => Sys2Proof.Machine.execCqHeadWrite p data s
  | .ringEnable p data => Sys2Proof.Machine.execRingEnable p data s
  | .ringDisable p data => Sys2Proof.Machine.execRingDisable p data s
  | .spiGo p data t => Sys2Proof.Machine.execSpiGo p data t s
  | .spiRead addr words => Sys2Proof.Machine.execSpiRead addr words s
  | .spiWrite addr data => Sys2Proof.Machine.execSpiWrite addr data s
  | .spiStatus writePending => Sys2Proof.Machine.execSpiStatus writePending s
  | .cmdCntClear p => Sys2Proof.Machine.execCmdCntClear p s
  | .frameStart wfn => Sys2Proof.Machine.execFrameStart wfn s
  | .chainWindowOpen wfn slot => Sys2Proof.Machine.execChainWindowOpen wfn slot s
  | .islandBelowFloor island freq t => Sys2Proof.Machine.execIslandBelowFloor island freq t s
  | .islandFloorRegained island freq t => Sys2Proof.Machine.execIslandFloorRegained island freq t s
  | .jtagUpdateIr opcode resetLow => Sys2Proof.Machine.execJtagUpdateIr opcode resetLow s
  | .jtagUpdateDr d => Sys2Proof.Machine.execJtagUpdateDr d s
  | .jtagReset => Sys2Proof.Machine.execJtagReset s
  | .jtagRunTestIdle => Sys2Proof.Machine.execJtagRunTestIdle s
  | .tmuxSelect k w => Sys2Proof.Machine.execTmuxSelect k w s
  | .bist c => Sys2Proof.Machine.execBist c s
  | .bistComplete fail failed done t => Sys2Proof.Machine.execBistComplete fail failed done t s
  | .dbgCntClear w => Sys2Proof.Machine.execDbgCntClear w s

end Sys2Proof.Machine
end

