-- ==== Sys2Proof/Safety.lean ====
section
/-! DEFINITION. What the statements are written in: the canonical form every run keeps, the parts of the machine, and for each
command the parts and the registers it may change. -/
namespace Sys2Proof.Machine

/-- The sparse memories in their one canonical form: the register file, device DRAM, the boot flash, island SRAM, the SPI buffers,
the calibration staging area and the meter's firmware flash. -/
def State.canonical (s : State) : Prop :=
  cellWf resetValue s.regs = true ∧ cellWf (fun _ => (0 : Byte)) s.dram = true ∧ cellWf erasedByte s.tru.flash = true ∧
    cellWf (fun _ => (0 : Byte)) s.tru.sram = true ∧ cellWf (fun _ => (0 : Byte)) s.cmd.spiReq = true ∧
    cellWf (fun _ => (0 : Byte)) s.cmd.spiRsp = true ∧ cellWf (fun _ => (0 : Byte)) s.cal.staging = true ∧
    cellWf erasedByte s.met.fwFlash = true

/-- The parts of the machine beside its queue and its register file: one per field of State, `now` for wall time and the
reference's count. -/
inductive Part where
  | now | fresh | out | gen | sch | cmd | dram | cmp | ing | cdc | ccx | chn | red | tim | flk | drc | thm | emc | lmp | cal | tru
  | umb | met | dbg
  deriving DecidableEq, Repr

/-- Every part. -/
def allParts : List Part :=
  [.now, .fresh, .out, .gen, .sch, .cmd, .dram, .cmp, .ing, .cdc, .ccx, .chn, .red, .tim, .flk, .drc, .thm, .emc, .lmp, .cal, .tru,
    .umb, .met, .dbg]

/-- A part is the same in two states. -/
def Part.same : Part → State → State → Prop
  | .now, s, t => t.now = s.now ∧ t.ref = s.ref
  | .fresh, s, t => t.fresh = s.fresh
  | .out, s, t => t.out = s.out
  | .gen, s, t => t.gen = s.gen
  | .sch, s, t => t.sch = s.sch
  | .cmd, s, t => t.cmd = s.cmd
  | .dram, s, t => t.dram = s.dram
  | .cmp, s, t => t.cmp = s.cmp
  | .ing, s, t => t.ing = s.ing
  | .cdc, s, t => t.cdc = s.cdc
  | .ccx, s, t => t.ccx = s.ccx
  | .chn, s, t => t.chn = s.chn
  | .red, s, t => t.red = s.red
  | .tim, s, t => t.tim = s.tim
  | .flk, s, t => t.flk = s.flk
  | .drc, s, t => t.drc = s.drc
  | .thm, s, t => t.thm = s.thm
  | .emc, s, t => t.emc = s.emc
  | .lmp, s, t => t.lmp = s.lmp
  | .cal, s, t => t.cal = s.cal
  | .tru, s, t => t.tru = s.tru
  | .umb, s, t => t.umb = s.umb
  | .met, s, t => t.met = s.met
  | .dbg, s, t => t.dbg = s.dbg

/-- What a command may change: the chapter of the spec it belongs to, parts of the machine, and registers as runs of
addresses from one to another with a step (none: any register). -/
structure Footprint where
  chapter : Nat
  parts : List Part
  regs : Option (List (Nat × Nat × Nat))
  deriving DecidableEq, Repr

/-- A run of one register. -/
def oneReg (a : Nat) : Nat × Nat × Nat := (a, a, 1)

/-- The footprint covers a register address. -/
def Footprint.covers (f : Footprint) (a : Nat) : Bool :=
  match f.regs with
  | none => true
  | some l => l.any (fun r => inRange a r.1 r.2.1 && (a - r.1) % r.2.2 == 0)

/-- Everything outside a footprint is as it was: the queue, every other part, every other register. -/
def Footprint.kept (f : Footprint) (s t : State) : Prop :=
  t.pending = s.pending ∧ (∀ p : Part, p ∉ f.parts → p.same s t) ∧ (∀ a : Nat, f.covers a = false → t.reg a = s.reg a)

/-- The footprint of every command. Registers a command may change beside its own block are those of events (CMD_EVT), of an
answer on the mailbox (CMD_CQ_TAIL, CMD_SPI_CTRL, CMD_CREDIT_DROP) and of the blocks it names. -/
def footprint (i : Instr) : Footprint :=
  match i with
  | .instanceLoad _ =>
    { chapter := 3, parts := [.now, .sch], regs := some [(Reg.SCH_HIST 0, Reg.SCH_HIST 7, 4),
      oneReg Reg.SCH_INSTANCE, oneReg Reg.SCH_TRACE_CTRL, oneReg Reg.SCH_TRACE_PTR] }
  | .issueSlot _ _ =>
    { chapter := 3, parts := [.now, .sch], regs := some [(Reg.SCH_HIST 0, Reg.SCH_HIST 7, 4),
      oneReg Reg.SCH_TRACE_CTRL, oneReg Reg.SCH_TRACE_PTR] }
  | .dependenceDecrement _ _ _ | .latestStart _ _ | .operationDeadline _ _ =>
    { chapter := 3, parts := [.now, .out, .sch, .red], regs := some [(Reg.SCH_BRC_DEP, Reg.SCH_BRC_OVERRUN, 4),
      oneReg Reg.CMD_EVT, oneReg Reg.SCH_BRC_FIRST0, oneReg Reg.SCH_BRC_FIRST1, oneReg Reg.SCH_BRC_TOTAL,
      (Reg.SCH_FCT_MARGIN 0, Reg.SCH_FCT_MARGIN 127, 4), (Reg.SCH_HIST 0, Reg.SCH_HIST 7, 4),
      oneReg Reg.SCH_TRACE_CTRL, oneReg Reg.SCH_TRACE_PTR] }
  | .operationComplete _ =>
    { chapter := 3, parts := [.now, .fresh, .out, .gen, .sch, .cmp, .ing, .cdc, .ccx, .chn, .red, .tim, .drc, .emc,
      .lmp, .tru, .umb, .met], regs := some [(Reg.CAL_GEN 0, Reg.CAL_GEN 3, 8), (Reg.CAL_SLOT 0, Reg.CAL_SLOT 3, 8),
      (Reg.CDC_CH_POOLMARK 0, Reg.CDC_CH_POOLMARK 15, 64), (Reg.CDC_CH_STAT 0, Reg.CDC_CH_STAT 15, 64),
      oneReg Reg.CDC_ERR_EVT, oneReg Reg.EMC_STATE, (Reg.FLK_EXP_LEN 0, Reg.FLK_EXP_LEN 3, 4), (Reg.FLK_EXP_OPEN 0,
      Reg.FLK_EXP_OPEN 3, 4), (Reg.FLK_SHADOW_LEN 0, Reg.FLK_SHADOW_LEN 3, 4), (Reg.FLK_SHADOW_START 0,
      Reg.FLK_SHADOW_START 3, 4), (Reg.FLK_SLOT_START 0, Reg.FLK_SLOT_START 3, 4), oneReg Reg.FLK_STATE,
      oneReg Reg.GEN_IMG_ID_HI, oneReg Reg.GEN_IMG_ID_LO, oneReg Reg.GEN_IMG_STATE, (Reg.GEN_ISL_CLK 0,
      Reg.GEN_ISL_CLK 63, 4), oneReg Reg.GEN_PARAM_CARRY, (Reg.ING_STR_CTRL 0, Reg.ING_STR_CTRL 15, 64),
      (Reg.ING_STR_DST 0, Reg.ING_STR_DST 15, 64), (Reg.ING_STR_PORTS 0, Reg.ING_STR_PORTS 15, 64),
      (Reg.ING_STR_RATE 0, Reg.ING_STR_RATE 15, 64), (Reg.ING_STR_SRC 0, Reg.ING_STR_SRC 15, 64),
      (Reg.ING_STR_SSRC 0, Reg.ING_STR_SSRC 15, 64), (Reg.ING_STR_SURF01 0, Reg.ING_STR_SURF01 15, 64),
      (Reg.ING_STR_SURF23 0, Reg.ING_STR_SURF23 15, 64), oneReg Reg.LMP_BLANK_EVT, oneReg Reg.LMP_BLANK_SRC,
      oneReg Reg.LMP_STATE, (Reg.SCH_FCT_MARGIN 0, Reg.SCH_FCT_MARGIN 127, 4), (Reg.SCH_HIST 0, Reg.SCH_HIST 7, 4),
      oneReg Reg.SCH_QW_DEPTH, oneReg Reg.SCH_QW_FULLWAIT, oneReg Reg.SCH_TRACE_CTRL, oneReg Reg.SCH_TRACE_PTR,
      oneReg Reg.TRU_BOOT] }
  | .shedExpiry _ _ =>
    { chapter := 3, parts := [.now, .sch, .ccx, .lmp], regs := some [(Reg.FLK_ABSENT 0, Reg.FLK_ABSENT 3, 4),
      (Reg.SCH_HIST 0, Reg.SCH_HIST 7, 4), oneReg Reg.SCH_QW_DEPTH, oneReg Reg.SCH_SHED, oneReg Reg.SCH_TRACE_CTRL,
      oneReg Reg.SCH_TRACE_PTR] }
  | .ingressWord _ =>
    { chapter := 3, parts := [.now, .sch], regs := some [oneReg Reg.SCH_ARR_DROP, (Reg.SCH_HIST 0, Reg.SCH_HIST 7,
      4), oneReg Reg.SCH_QW_DEPTH, oneReg Reg.SCH_TRACE_CTRL, oneReg Reg.SCH_TRACE_PTR] }
  | .arrivalWindowClose _ _ =>
    { chapter := 3, parts := [.now, .sch], regs := some [oneReg Reg.SCH_ARR_LATE, (Reg.SCH_HIST 0, Reg.SCH_HIST 7,
      4), oneReg Reg.SCH_TRACE_CTRL, oneReg Reg.SCH_TRACE_PTR] }
  | .slackWindowStart _ _ _ =>
    { chapter := 3, parts := [.now, .fresh, .sch], regs := some [(Reg.SCH_HIST 0, Reg.SCH_HIST 7, 4),
      oneReg Reg.SCH_TRACE_CTRL, oneReg Reg.SCH_TRACE_PTR] }
  | .backgroundChunkEnd _ _ =>
    { chapter := 3, parts := [.now, .fresh, .out, .sch, .cmd, .ing, .chn, .cal], regs := some [oneReg Reg.CAL_STATE,
      oneReg Reg.CAL_STORE_FAIL, oneReg Reg.CMD_CQ_TAIL, oneReg Reg.CMD_EVT, oneReg Reg.CMD_SPI_CTRL,
      oneReg Reg.EMC_STATE, (Reg.SCH_HIST 0, Reg.SCH_HIST 7, 4), oneReg Reg.SCH_TRACE_CTRL, oneReg Reg.SCH_TRACE_PTR] }
  | .breachCounterClear _ | .peakMarginClear _ | .histogramClear _ | .histSelect _ _ | .queueWatchSelect _ _ |
     .traceRearm _ _ | .traceForce _ _ =>
    { chapter := 3, parts := [.sch], regs := some [(0x20000, 0x2FFFF, 1)] }
  | .ethernetFrameRx _ =>
    { chapter := 4, parts := [.now, .out, .dram, .cmp, .ing, .cdc, .red], regs := some [(Reg.CDC_CH_POOLMARK 0,
      Reg.CDC_CH_POOLMARK 15, 64), (Reg.CDC_CH_SKIPPED 0, Reg.CDC_CH_SKIPPED 15, 64), (Reg.CDC_CH_STAT 0,
      Reg.CDC_CH_STAT 15, 64), oneReg Reg.CDC_ERR_EVT, oneReg Reg.CMD_EVT, oneReg Reg.CMP_PACK_ERR,
      oneReg Reg.CMP_STILL_EVT, (Reg.CMP_STILL_STAT 0, Reg.CMP_STILL_STAT 15, 8), (Reg.ING_DROP 0, Reg.ING_DROP 7,
      4), oneReg Reg.ING_LS_MISMATCH, oneReg Reg.ING_LS_MISSING, (Reg.ING_STR_CTRL 0, Reg.ING_STR_CTRL 15, 64),
      (Reg.ING_STR_DST 0, Reg.ING_STR_DST 15, 64), (Reg.ING_STR_LASTPIC 0, Reg.ING_STR_LASTPIC 15, 64),
      (Reg.ING_STR_LOST 0, Reg.ING_STR_LOST 15, 64), (Reg.ING_STR_PATCH 0, Reg.ING_STR_PATCH 15, 64),
      (Reg.ING_STR_PORTS 0, Reg.ING_STR_PORTS 15, 64), (Reg.ING_STR_RATE 0, Reg.ING_STR_RATE 15, 64),
      (Reg.ING_STR_RX 0, Reg.ING_STR_RX 15, 64), (Reg.ING_STR_SRC 0, Reg.ING_STR_SRC 15, 64), (Reg.ING_STR_SSRC 0,
      Reg.ING_STR_SSRC 15, 64), (Reg.ING_STR_SURF01 0, Reg.ING_STR_SURF01 15, 64), (Reg.ING_STR_SURF23 0,
      Reg.ING_STR_SURF23 15, 64), oneReg Reg.TIM_PTP_DISCARD] }
  | .portModeChange _ _ _ | .streamEnable _ _ _ | .streamDisable _ _ _ | .ingCntClear _ =>
    { chapter := 4, parts := [.out, .ing, .cdc], regs := some [(0x40000, 0x4FFFF, 1), (Reg.CDC_CH_POOLMARK 0,
      Reg.CDC_CH_POOLMARK 15, 64), (Reg.CDC_CH_STAT 0, Reg.CDC_CH_STAT 15, 64), oneReg Reg.CDC_ERR_EVT] }
  | .subPortLinkChange _ _ _ _ _ =>
    { chapter := 4, parts := [], regs := some [(Reg.ING_PORT_STAT 0, Reg.ING_PORT_STAT 3, 4)] }
  | .digest _ =>
    { chapter := 4, parts := [.now, .ing], regs := some [] }
  | .verdict _ | .packet _ | .missing _ _ =>
    { chapter := 4, parts := [.now, .out, .dram, .cmp, .ing, .cdc, .red], regs := some [(Reg.CDC_CH_POOLMARK 0,
      Reg.CDC_CH_POOLMARK 15, 64), (Reg.CDC_CH_SKIPPED 0, Reg.CDC_CH_SKIPPED 15, 64), (Reg.CDC_CH_STAT 0,
      Reg.CDC_CH_STAT 15, 64), oneReg Reg.CDC_ERR_EVT, oneReg Reg.CMD_EVT, oneReg Reg.CMP_PACK_ERR,
      oneReg Reg.CMP_STILL_EVT, (Reg.CMP_STILL_STAT 0, Reg.CMP_STILL_STAT 15, 8), (Reg.ING_DROP 0, Reg.ING_DROP 7,
      4), oneReg Reg.ING_LS_MISMATCH, oneReg Reg.ING_LS_MISSING, (Reg.ING_STR_CTRL 0, Reg.ING_STR_CTRL 15, 64),
      (Reg.ING_STR_DST 0, Reg.ING_STR_DST 15, 64), (Reg.ING_STR_LASTPIC 0, Reg.ING_STR_LASTPIC 15, 64),
      (Reg.ING_STR_LOST 0, Reg.ING_STR_LOST 15, 64), (Reg.ING_STR_PATCH 0, Reg.ING_STR_PATCH 15, 64),
      (Reg.ING_STR_PORTS 0, Reg.ING_STR_PORTS 15, 64), (Reg.ING_STR_RATE 0, Reg.ING_STR_RATE 15, 64),
      (Reg.ING_STR_RX 0, Reg.ING_STR_RX 15, 64), (Reg.ING_STR_SRC 0, Reg.ING_STR_SRC 15, 64), (Reg.ING_STR_SSRC 0,
      Reg.ING_STR_SSRC 15, 64), (Reg.ING_STR_SURF01 0, Reg.ING_STR_SURF01 15, 64), (Reg.ING_STR_SURF23 0,
      Reg.ING_STR_SURF23 15, 64)] }
  | .request _ _ _ =>
    { chapter := 4, parts := [.now, .out, .ing], regs := some [oneReg Reg.ING_LS_FWD, oneReg Reg.ING_LS_MISSING,
      oneReg Reg.ING_LS_STAT] }
  | .requestRepeat _ _ _ | .arpRequest _ _ _ _ | .icmpEcho _ _ _ _ _ =>
    { chapter := 4, parts := [.now, .out, .ing], regs := some [] }
  | .forwardUnasked _ _ _ =>
    { chapter := 4, parts := [.now, .out, .ing], regs := some [oneReg Reg.ING_LS_FWD, oneReg Reg.ING_LS_STAT] }
  | .bar2Access _ =>
    { chapter := 4, parts := [.now, .out, .dram, .ing], regs := some [oneReg Reg.CMP_MIRROR_DROP,
      oneReg Reg.ING_LS_STAT, oneReg Reg.ING_WIN_OOR, oneReg Reg.ING_WIN_RETIRED] }
  | .mgmtOpen _ =>
    { chapter := 4, parts := [.now, .fresh, .out, .ing], regs := some [oneReg Reg.TRU_SIG_FAIL] }
  | .mgmtRequest _ =>
    { chapter := 4, parts := allParts, regs := none }
  | .mgmtClose _ =>
    { chapter := 4, parts := [.now, .cmd, .ing], regs := some [oneReg Reg.ING_MGMT_AUTHFAIL] }
  | .sessionTimeout _ _ | .pcieReset _ =>
    { chapter := 4, parts := [.now, .cmd, .ing], regs := some [] }
  | .decodeStart _ _ =>
    { chapter := 5, parts := [.now, .cdc], regs := some [] }
  | .pictureDecodeComplete _ =>
    { chapter := 5, parts := [.now, .out, .dram, .cmp, .ing, .cdc, .red], regs := some [(Reg.CDC_CH_DAMAGED 0,
      Reg.CDC_CH_DAMAGED 15, 64), (Reg.CDC_CH_DECODED 0, Reg.CDC_CH_DECODED 15, 64), (Reg.CDC_CH_GENERATED 0,
      Reg.CDC_CH_GENERATED 15, 64), (Reg.CDC_CH_LASTPIC 0, Reg.CDC_CH_LASTPIC 15, 64), (Reg.CDC_CH_LATE 0,
      Reg.CDC_CH_LATE 15, 64), (Reg.CDC_CH_POOLMARK 0, Reg.CDC_CH_POOLMARK 15, 64), (Reg.CDC_CH_SKIPPED 0,
      Reg.CDC_CH_SKIPPED 15, 64), (Reg.CDC_CH_STAT 0, Reg.CDC_CH_STAT 15, 64), oneReg Reg.CDC_ERR_EVT,
      oneReg Reg.CMD_EVT, oneReg Reg.CMP_PACK_ERR, oneReg Reg.CMP_STILL_EVT, (Reg.CMP_STILL_STAT 0,
      Reg.CMP_STILL_STAT 15, 8), (Reg.ING_STR_LASTPIC 0, Reg.ING_STR_LASTPIC 15, 64)] }
  | .promote _ _ _ _ =>
    { chapter := 5, parts := [.now, .out, .cdc], regs := some [] }
  | .returnEnable _ _ | .forceIdr _ _ | .returnReadPointer _ _ | .cdcCntClear _ =>
    { chapter := 5, parts := [.out, .cdc], regs := some [(0x50000, 0x5FFFF, 1)] }
  | .returnSliceStart _ _ _ =>
    { chapter := 5, parts := [.now, .cdc], regs := some [oneReg Reg.SCH_SLOT_REPEAT] }
  | .returnSliceWritten _ =>
    { chapter := 5, parts := [.now, .out, .cdc], regs := some [oneReg Reg.CDC_ERR_EVT, oneReg Reg.CDC_RET_OVF,
      oneReg Reg.CDC_RET_PICS, oneReg Reg.CDC_RET_ROI_LIFT, oneReg Reg.CDC_RET_WR, oneReg Reg.CMD_EVT] }
  | .surfaceAlloc _ =>
    { chapter := 6, parts := [.now, .out, .cmd, .cmp, .ing, .chn], regs := some [oneReg Reg.CMD_CQ_TAIL,
      (Reg.CMD_CREDIT_DROP 0, Reg.CMD_CREDIT_DROP 3, 4), oneReg Reg.CMD_EVT, oneReg Reg.CMD_SPI_CTRL] }
  | .surfaceRelease _ =>
    { chapter := 6, parts := [.now, .out, .cmd, .cmp, .ing, .chn], regs := some [(Reg.CDC_CH_STAT 0,
      Reg.CDC_CH_STAT 15, 64), oneReg Reg.CDC_ERR_EVT, oneReg Reg.CMD_CQ_TAIL, (Reg.CMD_CREDIT_DROP 0,
      Reg.CMD_CREDIT_DROP 3, 4), oneReg Reg.CMD_EVT, oneReg Reg.CMD_SPI_CTRL] }
  | .surfaceFree _ _ =>
    { chapter := 6, parts := [.now, .out, .cmp], regs := some [] }
  | .layerWrite _ | .commitGo _ _ | .cmpCntClear _ =>
    { chapter := 6, parts := [.out, .cmp], regs := some [(0x60000, 0x6FFFF, 1)] }
  | .commitValidationEnd _ _ =>
    { chapter := 6, parts := [.now, .out, .gen, .cmp, .ing, .cdc], regs := some [(Reg.CDC_CH_POOLMARK 0,
      Reg.CDC_CH_POOLMARK 15, 64), (Reg.CDC_CH_STAT 0, Reg.CDC_CH_STAT 15, 64), oneReg Reg.CDC_ERR_EVT,
      oneReg Reg.CMP_COMMIT_DETAIL, oneReg Reg.CMP_COMMIT_STAT, oneReg Reg.CMP_COMMIT_WFN_HI,
      oneReg Reg.CMP_COMMIT_WFN_LO, (Reg.ING_STR_CTRL 0, Reg.ING_STR_CTRL 15, 64), (Reg.ING_STR_DST 0,
      Reg.ING_STR_DST 15, 64), (Reg.ING_STR_PORTS 0, Reg.ING_STR_PORTS 15, 64), (Reg.ING_STR_RATE 0,
      Reg.ING_STR_RATE 15, 64), (Reg.ING_STR_SRC 0, Reg.ING_STR_SRC 15, 64), (Reg.ING_STR_SSRC 0,
      Reg.ING_STR_SSRC 15, 64), (Reg.ING_STR_SURF01 0, Reg.ING_STR_SURF01 15, 64), (Reg.ING_STR_SURF23 0,
      Reg.ING_STR_SURF23 15, 64)] }
  | .latchInstant _ =>
    { chapter := 6, parts := [.now, .cmp], regs := some [] }
  | .staleTimeout _ _ =>
    { chapter := 6, parts := [.now, .out], regs := some [oneReg Reg.CMD_EVT, oneReg Reg.CMP_STILL_EVT,
      (Reg.CMP_STILL_STAT 0, Reg.CMP_STILL_STAT 15, 8)] }
  | .rowForward _ _ _ =>
    { chapter := 7, parts := [.now, .out, .chn, .red, .cal], regs := some [oneReg Reg.CAL_STATE,
      oneReg Reg.CAL_TRIM_REVERT, (Reg.CHN_CHAIN 0, Reg.CHN_CHAIN 3, 4), (Reg.CHN_HDR_ERR 0, Reg.CHN_HDR_ERR 7, 256),
      (Reg.CHN_PORT_STAT 0, Reg.CHN_PORT_STAT 7, 256), (Reg.CHN_RELOCK 0, Reg.CHN_RELOCK 7, 256), (Reg.CHN_ROW_ERR 0,
      Reg.CHN_ROW_ERR 7, 256), oneReg Reg.CMD_EVT, oneReg Reg.FLK_STATE, oneReg Reg.RED_HEALTH] }
  | .controlRowRx _ =>
    { chapter := 7, parts := [.now, .out, .chn, .red, .lmp], regs := some [(Reg.CHN_CHAIN 0, Reg.CHN_CHAIN 3, 4),
      (Reg.CHN_CTL_CRC 0, Reg.CHN_CTL_CRC 7, 256), (Reg.CHN_EXP_REPAIR 0, Reg.CHN_EXP_REPAIR 7, 256),
      oneReg Reg.CHN_EXP_STATE, (Reg.CHN_FRAG_ERR 0, Reg.CHN_FRAG_ERR 7, 256), (Reg.CHN_LINKDLY 0, Reg.CHN_LINKDLY 7,
      256), (Reg.CHN_MSG_ERR 0, Reg.CHN_MSG_ERR 7, 256), (Reg.CHN_PORT_STAT 0, Reg.CHN_PORT_STAT 7, 256),
      (Reg.CHN_RELOCK 0, Reg.CHN_RELOCK 7, 256), (Reg.CHN_RESID 0, Reg.CHN_RESID 7, 256), oneReg Reg.CMD_EVT,
      oneReg Reg.FLK_STATE, oneReg Reg.LMP_BLANK_EVT, oneReg Reg.LMP_BLANK_SRC, oneReg Reg.LMP_STATE,
      oneReg Reg.RED_HEALTH] }
  | .superframe _ _ =>
    { chapter := 7, parts := [.now, .out, .chn], regs := some [oneReg Reg.CHN_EXP_DEFER, oneReg Reg.CHN_EXP_STATE] }
  | .expressSymbolRx _ _ _ =>
    { chapter := 7, parts := [.now, .out, .chn, .red, .lmp, .cal], regs := some [oneReg Reg.CAL_STATE,
      oneReg Reg.CAL_TRIM_REVERT, (Reg.CHN_CHAIN 0, Reg.CHN_CHAIN 3, 4), (Reg.CHN_EXP_RX 0, Reg.CHN_EXP_RX 7, 256),
      oneReg Reg.CHN_EXP_STATE, (Reg.CHN_HDR_ERR 0, Reg.CHN_HDR_ERR 7, 256), (Reg.CHN_PORT_STAT 0,
      Reg.CHN_PORT_STAT 7, 256), (Reg.CHN_RELOCK 0, Reg.CHN_RELOCK 7, 256), (Reg.CHN_ROW_ERR 0, Reg.CHN_ROW_ERR 7,
      256), oneReg Reg.CMD_EVT, oneReg Reg.FLK_STATE, oneReg Reg.LMP_BLANK_EVT, oneReg Reg.LMP_BLANK_SRC,
      oneReg Reg.LMP_STATE, oneReg Reg.RED_HEALTH] }
  | .expressRequest _ _ | .retrain _ _ _ | .chnCntClear _ =>
    { chapter := 7, parts := [.out, .chn, .red], regs := some [(0x70000, 0x7FFFF, 1), oneReg Reg.FLK_STATE] }
  | .rate _ _ _ _ | .pllHoldoverExpiry _ _ =>
    { chapter := 7, parts := [.now, .chn], regs := some [] }
  | .rateSwitch _ _ =>
    { chapter := 7, parts := [.now, .out, .chn, .red, .lmp, .met], regs := some [(Reg.CHN_CHAIN 0, Reg.CHN_CHAIN 3,
      4), (Reg.CHN_PORT_STAT 0, Reg.CHN_PORT_STAT 7, 256), oneReg Reg.CHN_RING, oneReg Reg.FLK_STATE,
      oneReg Reg.LMP_BLANK_EVT, oneReg Reg.LMP_BLANK_SRC, oneReg Reg.LMP_STATE] }
  | .txslip _ _ _ =>
    { chapter := 7, parts := [.now], regs := some [(Reg.CHN_TXSLIP 0, Reg.CHN_TXSLIP 7, 256)] }
  | .announce _ =>
    { chapter := 7, parts := [.now, .out, .chn], regs := some [(Reg.CHN_CHAIN 0, Reg.CHN_CHAIN 3, 4),
      oneReg Reg.CMD_EVT, oneReg Reg.RED_HEALTH] }
  | .signalDetect _ _ =>
    { chapter := 7, parts := [.now, .chn, .red], regs := some [(Reg.CHN_PORT_STAT 0, Reg.CHN_PORT_STAT 7, 256)] }
  | .equaliseDone _ _ =>
    { chapter := 7, parts := [.now, .red, .cal], regs := some [oneReg Reg.CAL_STATE, (Reg.CHN_PORT_STAT 0,
      Reg.CHN_PORT_STAT 7, 256)] }
  | .identifyWindow _ =>
    { chapter := 7, parts := [.now, .chn, .red], regs := some [(Reg.CHN_PORT_STAT 0, Reg.CHN_PORT_STAT 7, 256),
      (Reg.CHN_RELOCK 0, Reg.CHN_RELOCK 7, 256)] }
  | .blockLock _ =>
    { chapter := 7, parts := [.now, .out, .chn, .red, .lmp, .met], regs := some [(Reg.CHN_HDR_ERR 0,
      Reg.CHN_HDR_ERR 7, 256), (Reg.CHN_PORT_STAT 0, Reg.CHN_PORT_STAT 7, 256), oneReg Reg.CHN_RING,
      (Reg.CHN_SKEW 0 0, Reg.CHN_SKEW 7 3, 4), oneReg Reg.LMP_BLANK_EVT, oneReg Reg.LMP_BLANK_SRC,
      oneReg Reg.LMP_STATE] }
  | .deskewDone _ _ _ =>
    { chapter := 7, parts := [.now, .chn, .red], regs := some [(Reg.CHN_PORT_STAT 0, Reg.CHN_PORT_STAT 7, 256),
      (Reg.CHN_RELOCK 0, Reg.CHN_RELOCK 7, 256), (Reg.CHN_SKEW 0 0, Reg.CHN_SKEW 7 3, 4)] }
  | .trainingCycleEnd _ _ _ =>
    { chapter := 7, parts := [.now, .out, .chn], regs := some [(Reg.CHN_PORT_STAT 0, Reg.CHN_PORT_STAT 7, 256)] }
  | .portUp _ _ _ =>
    { chapter := 7, parts := [.now, .out, .chn, .red, .lmp, .met], regs := some [(Reg.CHN_CHAIN 0, Reg.CHN_CHAIN 3,
      4), (Reg.CHN_PORT_STAT 0, Reg.CHN_PORT_STAT 7, 256), oneReg Reg.CHN_RING, oneReg Reg.CMD_EVT,
      oneReg Reg.LMP_BLANK_EVT, oneReg Reg.LMP_BLANK_SRC, oneReg Reg.LMP_STATE, oneReg Reg.RED_HEALTH] }
  | .lossOfLock _ _ _ =>
    { chapter := 7, parts := [.now, .out, .dram, .cmp, .ing, .cdc, .ccx, .chn, .red],
      regs := some [(Reg.CDC_CH_LASTPIC 0, Reg.CDC_CH_LASTPIC 15, 64), (Reg.CDC_CH_POOLMARK 0,
      Reg.CDC_CH_POOLMARK 15, 64), (Reg.CDC_CH_SKIPPED 0, Reg.CDC_CH_SKIPPED 15, 64), (Reg.CDC_CH_STAT 0,
      Reg.CDC_CH_STAT 15, 64), oneReg Reg.CDC_ERR_EVT, (Reg.CHN_CHAIN 0, Reg.CHN_CHAIN 3, 4), (Reg.CHN_PORT_STAT 0,
      Reg.CHN_PORT_STAT 7, 256), (Reg.CHN_RELOCK 0, Reg.CHN_RELOCK 7, 256), oneReg Reg.CMD_EVT,
      oneReg Reg.CMP_PACK_ERR, oneReg Reg.CMP_STILL_EVT, (Reg.CMP_STILL_STAT 0, Reg.CMP_STILL_STAT 15, 8),
      oneReg Reg.FLK_STATE, (Reg.ING_DROP 0, Reg.ING_DROP 7, 4), (Reg.ING_STR_CTRL 0, Reg.ING_STR_CTRL 15, 64),
      (Reg.ING_STR_DST 0, Reg.ING_STR_DST 15, 64), (Reg.ING_STR_LASTPIC 0, Reg.ING_STR_LASTPIC 15, 64),
      (Reg.ING_STR_LOST 0, Reg.ING_STR_LOST 15, 64), (Reg.ING_STR_PATCH 0, Reg.ING_STR_PATCH 15, 64),
      (Reg.ING_STR_PORTS 0, Reg.ING_STR_PORTS 15, 64), (Reg.ING_STR_RATE 0, Reg.ING_STR_RATE 15, 64),
      (Reg.ING_STR_RX 0, Reg.ING_STR_RX 15, 64), (Reg.ING_STR_SRC 0, Reg.ING_STR_SRC 15, 64), (Reg.ING_STR_SSRC 0,
      Reg.ING_STR_SSRC 15, 64), (Reg.ING_STR_SURF01 0, Reg.ING_STR_SURF01 15, 64), (Reg.ING_STR_SURF23 0,
      Reg.ING_STR_SURF23 15, 64), oneReg Reg.RED_HEALTH, oneReg Reg.RED_JOIN_FAIL, oneReg Reg.RED_STATE,
      oneReg Reg.RED_SWITCHES, oneReg Reg.TIM_PAIR_OFFSET] }
  | .chainDown _ _ =>
    { chapter := 7, parts := [.now, .out], regs := some [(Reg.CHN_CHAIN 0, Reg.CHN_CHAIN 3, 4), oneReg Reg.CMD_EVT,
      oneReg Reg.RED_HEALTH] }
  | .eastAbsent _ _ =>
    { chapter := 7, parts := [.now, .out, .chn, .lmp, .met], regs := some [(Reg.CHN_PORT_STAT 0, Reg.CHN_PORT_STAT 7,
      256), oneReg Reg.CHN_RING, oneReg Reg.LMP_BLANK_EVT, oneReg Reg.LMP_BLANK_SRC, oneReg Reg.LMP_STATE] }
  | .refclkCoreStop _ =>
    { chapter := 7, parts := [.now, .fresh, .chn], regs := some [(Reg.GEN_ISL_CLK 0, Reg.GEN_ISL_CLK 63, 4)] }
  | .sliceRx _ =>
    { chapter := 8, parts := [.now, .out, .ccx, .chn, .red, .lmp], regs := some [(Reg.CHN_ROW_ERR 0,
      Reg.CHN_ROW_ERR 7, 256), (Reg.CHN_SCRC_ERR 0, Reg.CHN_SCRC_ERR 7, 256), (Reg.FLK_LATE 0, Reg.FLK_LATE 3, 4),
      oneReg Reg.RED_DIVERGE, oneReg Reg.RED_TILE] }
  | .refreshReq _ _ _ _ _ _ =>
    { chapter := 8, parts := [.now, .out, .ccx], regs := some [oneReg Reg.CCX_REFRESH_REQ] }
  | .sliceEncode _ =>
    { chapter := 8, parts := [.now, .out, .ccx, .red], regs := some [oneReg Reg.CCX_REFRESH_SLICES,
      oneReg Reg.CCX_REPEAT, oneReg Reg.CCX_STARVED_CELLS, oneReg Reg.CCX_STARVED_SLICES, oneReg Reg.CMD_EVT,
      oneReg Reg.CMP_PACK_ERR, oneReg Reg.RED_DIVERGE, oneReg Reg.RED_JOINS, oneReg Reg.RED_STATE,
      oneReg Reg.SCH_SLOT_REPEAT] }
  | .sliceDecode _ _ _ =>
    { chapter := 8, parts := [.now, .ccx, .chn, .red, .flk, .lmp], regs := some [oneReg Reg.CCX_MISSING_PICS,
      oneReg Reg.CCX_REFRESH_REQ, oneReg Reg.CCX_REFRESH_SLICES, oneReg Reg.CCX_REPEAT, oneReg Reg.CCX_SYNTAX_ERR,
      oneReg Reg.CCX_UNRESOLVED, oneReg Reg.FLK_STATE, oneReg Reg.RED_FSIG_FAIL] }
  | .refreshReqRetry _ _ =>
    { chapter := 8, parts := [.now, .ccx, .chn], regs := some [oneReg Reg.CCX_REFRESH_REQ] }
  | .ccxCntClear _ =>
    { chapter := 8, parts := [], regs := some [(0x80000, 0x8FFFF, 1)] }
  | .sync _ =>
    { chapter := 9, parts := [.now, .ing, .tim], regs := some [oneReg Reg.TIM_PTP_DISCARD, oneReg Reg.TIM_PTP_RX] }
  | .followUp _ =>
    { chapter := 9, parts := [.now, .ing, .tim], regs := some [oneReg Reg.TIM_PTP_DISCARD] }
  | .delayResp _ =>
    { chapter := 9, parts := [.now, .out, .ing, .red, .tim, .met], regs := some [oneReg Reg.FLK_STATE,
      oneReg Reg.TIM_FREQ, oneReg Reg.TIM_OFFSET, oneReg Reg.TIM_PTP_DISCARD, oneReg Reg.TIM_PTP_MPD,
      oneReg Reg.TIM_STATE] }
  | .delayReq _ _ _ =>
    { chapter := 9, parts := [.now, .out, .tim], regs := some [] }
  | .ptpAnnounce _ =>
    { chapter := 9, parts := [.now, .ing, .red, .tim, .met], regs := some [oneReg Reg.FLK_STATE,
      oneReg Reg.TIM_PTP_DISCARD, oneReg Reg.TIM_PTP_GM_HI, oneReg Reg.TIM_PTP_GM_LO, oneReg Reg.TIM_PTP_STAT,
      oneReg Reg.TIM_STATE] }
  | .announceReceiptTimeout _ =>
    { chapter := 9, parts := [.now, .red, .tim, .met], regs := some [oneReg Reg.FLK_STATE, oneReg Reg.TIM_PTP_GM_HI,
      oneReg Reg.TIM_PTP_GM_LO, oneReg Reg.TIM_PTP_STAT, oneReg Reg.TIM_STATE] }
  | .time _ =>
    { chapter := 9, parts := [.now, .out, .gen, .sch, .cmd, .cmp, .ing, .cdc, .ccx, .chn, .red, .tim, .flk, .drc,
      .thm, .emc, .lmp, .cal, .tru, .umb, .met], regs := some [oneReg Reg.FLK_STATE, oneReg Reg.LMP_BLANK_EVT,
      oneReg Reg.LMP_BLANK_SRC, oneReg Reg.LMP_STATE, oneReg Reg.TIM_FREQ, oneReg Reg.TIM_OFFSET,
      (Reg.TIM_OUT_CTRL 0, Reg.TIM_OUT_CTRL 7, 32), oneReg Reg.TIM_STATE] }
  | .timeSend _ _ _ =>
    { chapter := 9, parts := [.now, .chn], regs := some [] }
  | .timeStep _ _ | .pulseEnable _ _ _ | .pulseDisable _ _ _ | .timCntClear _ =>
    { chapter := 9, parts := [.out, .red, .tim, .met], regs := some [(0x90000, 0x9FFFF, 1), oneReg Reg.FLK_STATE] }
  | .stepBoundary =>
    { chapter := 9, parts := [.now, .gen, .sch, .cmd, .cmp, .ing, .cdc, .ccx, .chn, .red, .tim, .flk, .drc, .thm,
      .emc, .lmp, .cal, .tru, .umb, .met], regs := some [(Reg.TIM_OUT_CTRL 0, Reg.TIM_OUT_CTRL 7, 32),
      oneReg Reg.TIM_STATE] }
  | .stepRecord _ _ _ =>
    { chapter := 9, parts := [.now, .tim], regs := some [oneReg Reg.FLK_STATE, oneReg Reg.TIM_STATE] }
  | .phaseSlewTimeout _ =>
    { chapter := 9, parts := [.now, .tim], regs := some [] }
  | .holdoverExpiry _ | .timeMessageTimeout _ =>
    { chapter := 9, parts := [.now, .red, .tim, .met], regs := some [oneReg Reg.FLK_STATE, oneReg Reg.TIM_STATE] }
  | .pulseEdge _ | .pulseEnd _ =>
    { chapter := 9, parts := [.now, .out, .tim], regs := some [(Reg.TIM_OUT_CTRL 0, Reg.TIM_OUT_CTRL 7, 32)] }
  | .captureEdge _ _ _ =>
    { chapter := 9, parts := [.now, .tim], regs := some [(Reg.TIM_IN_OVF 0, Reg.TIM_IN_OVF 7, 32)] }
  | .capturePop _ _ | .timeNowLatch _ =>
    { chapter := 9, parts := [.fresh, .out, .sch, .tim, .umb, .met], regs := some [oneReg Reg.CMD_EVT,
      oneReg Reg.SCH_TRACE_CTRL, oneReg Reg.SCH_TRACE_PTR] }
  | .registerWrite _ =>
    { chapter := 10, parts := allParts, regs := none }
  | .startCondition _ _ =>
    { chapter := 10, parts := [.now, .out, .flk, .lmp, .met], regs := some [oneReg Reg.FLK_START_WFN_HI,
      oneReg Reg.FLK_START_WFN_LO, oneReg Reg.FLK_STATE, oneReg Reg.LMP_BLANK_EVT, oneReg Reg.LMP_BLANK_SRC,
      oneReg Reg.LMP_STATE] }
  | .runStart =>
    { chapter := 10, parts := [.now, .out, .gen, .sch, .cmd, .ing, .chn, .red, .emc, .lmp, .tru],
      regs := some [oneReg Reg.CMD_CQ_TAIL, oneReg Reg.CMD_EVT, oneReg Reg.CMD_SPI_CTRL, oneReg Reg.EMC_LIVE_CNT,
      oneReg Reg.EMC_LIVE_WFN, oneReg Reg.EMC_STATE, oneReg Reg.FLK_RUNS, oneReg Reg.FLK_STATE,
      oneReg Reg.GEN_IMG_STATE, oneReg Reg.LMP_STATE, oneReg Reg.RED_STATE, oneReg Reg.TRU_BOOT] }
  | .flkCntClear _ =>
    { chapter := 10, parts := [], regs := some [(0xA0000, 0xAFFFF, 1)] }
  | .alignedRise _ =>
    { chapter := 10, parts := [.now], regs := some [oneReg Reg.FLK_STATE] }
  | .correctionTick _ =>
    { chapter := 11, parts := [.now, .sch, .emc, .cal], regs := some [oneReg Reg.CAL_STATE,
      oneReg Reg.EMC_RECOMP_DEFER, oneReg Reg.EMC_STATE] }
  | .recomputeComplete _ =>
    { chapter := 11, parts := [.now, .emc], regs := some [] }
  | .bankSwap _ _ | .fadeArm _ _ | .emcCntClear _ =>
    { chapter := 11, parts := [.emc], regs := some [(0xB0000, 0xBFFFF, 1)] }
  | .glintWriteStart _ _ _ =>
    { chapter := 12, parts := [.now, .out, .lmp], regs := some [] }
  | .glintWriteComplete _ | .configFrameSend _ =>
    { chapter := 12, parts := [.now, .out, .tim, .lmp], regs := some [oneReg Reg.LMP_CFG_SKIP] }
  | .latchSequence _ _ =>
    { chapter := 12, parts := [.now, .out, .tim, .lmp], regs := some [oneReg Reg.LMP_CFG_SKIP, oneReg Reg.LMP_CUT,
      oneReg Reg.LMP_DARK, oneReg Reg.LMP_DARK_EVT, oneReg Reg.LMP_NOSWAP] }
  | .imageSlotLatch _ _ =>
    { chapter := 12, parts := [.now, .ccx, .red, .lmp, .met], regs := some [(Reg.FLK_ABSENT 0, Reg.FLK_ABSENT 3, 4),
      (Reg.FLK_LATE 0, Reg.FLK_LATE 3, 4), oneReg Reg.SCH_SLOT_REPEAT] }
  | .lineStart _ =>
    { chapter := 12, parts := [.now, .out, .lmp], regs := some [oneReg Reg.LMP_SHADOW_CUT] }
  | .shadow _ =>
    { chapter := 12, parts := [.now, .lmp], regs := some [oneReg Reg.LMP_SHADOW_LATE] }
  | .lampOn _ _ | .faultClr _ _ | .forceBlank _ _ | .lmpCntClear _ =>
    { chapter := 12, parts := [.out, .lmp, .met], regs := some [(0xC0000, 0xCFFFF, 1)] }
  | .lampPgRise _ =>
    { chapter := 12, parts := [.now, .lmp], regs := some [oneReg Reg.LMP_STATE] }
  | .lampPgSettled _ =>
    { chapter := 12, parts := [.now, .out, .lmp], regs := some [oneReg Reg.LMP_BLANK_EVT, oneReg Reg.LMP_BLANK_SRC,
      oneReg Reg.LMP_STATE] }
  | .lampPgTimeout _ | .lampPgFall _ =>
    { chapter := 12, parts := [.now, .out, .lmp, .met], regs := some [oneReg Reg.CMD_EVT, oneReg Reg.LMP_BLANK_EVT,
      oneReg Reg.LMP_BLANK_SRC, oneReg Reg.LMP_STATE] }
  | .blankNFall _ | .blankNRise _ =>
    { chapter := 12, parts := [.now, .fresh, .out, .chn, .lmp], regs := some [oneReg Reg.CHN_EXP_DEFER,
      oneReg Reg.CHN_EXP_STATE, oneReg Reg.LMP_BLANK_EVT, oneReg Reg.LMP_BLANK_SRC, oneReg Reg.LMP_STATE] }
  | .shadowSlotEnd _ =>
    { chapter := 13, parts := [.now, .out, .lmp, .cal], regs := some [] }
  | .colourMeasurement _ _ =>
    { chapter := 13, parts := [.now, .cal], regs := some [oneReg Reg.CAL_MEAS_DROP, oneReg Reg.CAL_MEAS_OK] }
  | .colourLoopPeriod _ _ =>
    { chapter := 13, parts := [.now, .cal], regs := some [(Reg.CAL_LOOP_STAT 0, Reg.CAL_LOOP_STAT 3, 4),
      (Reg.EMC_GAIN 0, Reg.EMC_GAIN 3, 4)] }
  | .calStageData _ =>
    { chapter := 13, parts := [.now, .cal], regs := some [oneReg Reg.CAL_STAGE_DROP] }
  | .calStore _ =>
    { chapter := 13, parts := [.now, .out, .sch, .cmd, .ing, .chn, .cal], regs := some [oneReg Reg.CAL_STATE,
      oneReg Reg.CAL_STORE_FAIL, oneReg Reg.CMD_CQ_TAIL, (Reg.CMD_CREDIT_DROP 0, Reg.CMD_CREDIT_DROP 3, 4),
      oneReg Reg.CMD_EVT, oneReg Reg.CMD_SPI_CTRL] }
  | .flashOperationComplete _ _ _ =>
    { chapter := 13, parts := [.now, .out, .sch, .cmd, .ing, .chn, .emc, .cal, .tru], regs := some [(Reg.CAL_GEN 0,
      Reg.CAL_GEN 3, 8), (Reg.CAL_SLOT 0, Reg.CAL_SLOT 3, 8), oneReg Reg.CAL_STATE, oneReg Reg.CAL_STORE_FAIL,
      oneReg Reg.CMD_CQ_TAIL, oneReg Reg.CMD_EVT, oneReg Reg.CMD_SPI_CTRL, oneReg Reg.EMC_STATE, oneReg Reg.TRU_STAGE] }
  | .trimStep _ _ =>
    { chapter := 13, parts := [.now, .tim, .cal], regs := some [oneReg Reg.CAL_TRIM_STEPS] }
  | .calsetCopyComplete _ =>
    { chapter := 13, parts := [.now, .emc], regs := some [oneReg Reg.EMC_STATE] }
  | .calCntClear _ =>
    { chapter := 13, parts := [], regs := some [(0xD0000, 0xDFFFF, 1)] }
  | .dramRequest _ =>
    { chapter := 14, parts := [.now, .drc], regs := some [oneReg Reg.DRC_SR_ABANDON, oneReg Reg.DRC_SR_COLLIDE] }
  | .dramGrant _ =>
    { chapter := 14, parts := [.now, .dram, .cmp, .drc], regs := some [oneReg Reg.CMP_RETIRED_DROP] }
  | .dramReadReturn _ =>
    { chapter := 14, parts := [.now, .out, .sch], regs := some [oneReg Reg.DRC_META_ERR] }
  | .pageIdleExpiry _ _ _ _ | .gatherBurst _ _ | .selfRefreshIdle _ _ _ =>
    { chapter := 14, parts := [.now, .drc], regs := some [] }
  | .refreshDue _ _ _ =>
    { chapter := 14, parts := [.now, .drc], regs := some [oneReg Reg.DRC_REF_DEBT_MAX, oneReg Reg.DRC_REF_FORCED] }
  | .gatherBurstComplete _ =>
    { chapter := 14, parts := [.now, .drc], regs := some [(Reg.DRC_CH_STAT 0, Reg.DRC_CH_STAT 7, 4),
      oneReg Reg.DRC_STAT, oneReg Reg.DRC_TRACK_DONE] }
  | .setPointGo _ _ | .drcCntClear _ =>
    { chapter := 14, parts := [.drc], regs := some [(0x30000, 0x3FFFF, 1)] }
  | .switchWindow _ | .selfRefreshExit _ _ =>
    { chapter := 14, parts := [.now, .drc], regs := some [(Reg.DRC_CH_STAT 0, Reg.DRC_CH_STAT 7, 4),
      oneReg Reg.DRC_STAT] }
  | .setPointSwitchComplete _ =>
    { chapter := 14, parts := [.now, .drc], regs := some [(Reg.DRC_CH_STAT 0, Reg.DRC_CH_STAT 7, 4),
      oneReg Reg.DRC_STAT, oneReg Reg.DRC_SW_COUNT] }
  | .conversion _ =>
    { chapter := 15, parts := [.now, .fresh, .out, .drc, .thm], regs := some [oneReg Reg.CMD_EVT, (Reg.DRC_CH_STAT 0,
      Reg.DRC_CH_STAT 7, 4), oneReg Reg.DRC_STAT, oneReg Reg.DRC_TRACK_ABANDON, (Reg.THM_CH_VAL 0, Reg.THM_CH_VAL 31,
      16), oneReg Reg.THM_FAILS, oneReg Reg.THM_LEVEL, oneReg Reg.THM_STATE, (Reg.THM_SUB 0, Reg.THM_SUB 31, 16)] }
  | .levelFall _ =>
    { chapter := 15, parts := [.now, .drc, .thm], regs := some [(Reg.DRC_CH_STAT 0, Reg.DRC_CH_STAT 7, 4),
      oneReg Reg.DRC_STAT, oneReg Reg.DRC_TRACK_ABANDON, oneReg Reg.THM_LEVEL] }
  | .substitute _ _ _ | .guardAck _ _ | .recheck _ _ | .thmCntClear _ =>
    { chapter := 15, parts := [.thm], regs := some [(0xE0000, 0xEFFFF, 1)] }
  | .guardConversion _ | .corePowerDrop _ =>
    { chapter := 15, parts := allParts, regs := none }
  | .blankRelease _ =>
    { chapter := 15, parts := [.now, .out, .thm, .lmp, .met], regs := some [oneReg Reg.CMD_EVT,
      oneReg Reg.LMP_BLANK_EVT, oneReg Reg.LMP_BLANK_SRC, oneReg Reg.LMP_STATE, oneReg Reg.THM_STATE] }
  | .thermalRestart _ =>
    { chapter := 15, parts := [.now, .out, .thm, .umb], regs := some [] }
  | .thermalUnlock _ =>
    { chapter := 15, parts := [.now, .out, .cmd, .ing, .chn, .thm], regs := some [oneReg Reg.CMD_CQ_TAIL,
      (Reg.CMD_CREDIT_DROP 0, Reg.CMD_CREDIT_DROP 3, 4), oneReg Reg.CMD_EVT, oneReg Reg.CMD_SPI_CTRL,
      oneReg Reg.UMB_STATE] }
  | .health _ _ _ =>
    { chapter := 16, parts := [.now, .out, .red], regs := some [oneReg Reg.CMD_EVT, oneReg Reg.RED_HEALTH] }
  | .healthSend _ =>
    { chapter := 16, parts := [.now, .chn, .red], regs := some [] }
  | .diverge _ _ _ _ _ =>
    { chapter := 16, parts := [.now, .red], regs := some [oneReg Reg.RED_DIVERGE] }
  | .hello _ =>
    { chapter := 16, parts := [.now, .out, .dram, .cmp, .ing, .cdc, .ccx, .red],
      regs := some [(Reg.CDC_CH_POOLMARK 0, Reg.CDC_CH_POOLMARK 15, 64), (Reg.CDC_CH_STAT 0, Reg.CDC_CH_STAT 15, 64),
      oneReg Reg.CMD_EVT, (Reg.ING_STR_CTRL 0, Reg.ING_STR_CTRL 15, 64), (Reg.ING_STR_DST 0, Reg.ING_STR_DST 15, 64),
      (Reg.ING_STR_PORTS 0, Reg.ING_STR_PORTS 15, 64), (Reg.ING_STR_RATE 0, Reg.ING_STR_RATE 15, 64),
      (Reg.ING_STR_SRC 0, Reg.ING_STR_SRC 15, 64), (Reg.ING_STR_SSRC 0, Reg.ING_STR_SSRC 15, 64),
      (Reg.ING_STR_SURF01 0, Reg.ING_STR_SURF01 15, 64), (Reg.ING_STR_SURF23 0, Reg.ING_STR_SURF23 15, 64),
      oneReg Reg.RED_HEALTH, oneReg Reg.RED_JOINS, oneReg Reg.RED_LINK_ERR, oneReg Reg.RED_STATE,
      oneReg Reg.RED_SWITCHES] }
  | .helloRecheck _ _ | .joinRetry _ =>
    { chapter := 16, parts := [.now, .out, .dram, .cmp, .ing, .cdc, .ccx, .red],
      regs := some [(Reg.CDC_CH_POOLMARK 0, Reg.CDC_CH_POOLMARK 15, 64), (Reg.CDC_CH_STAT 0, Reg.CDC_CH_STAT 15, 64),
      oneReg Reg.CMD_EVT, (Reg.ING_STR_CTRL 0, Reg.ING_STR_CTRL 15, 64), (Reg.ING_STR_DST 0, Reg.ING_STR_DST 15, 64),
      (Reg.ING_STR_PORTS 0, Reg.ING_STR_PORTS 15, 64), (Reg.ING_STR_RATE 0, Reg.ING_STR_RATE 15, 64),
      (Reg.ING_STR_SRC 0, Reg.ING_STR_SRC 15, 64), (Reg.ING_STR_SSRC 0, Reg.ING_STR_SSRC 15, 64),
      (Reg.ING_STR_SURF01 0, Reg.ING_STR_SURF01 15, 64), (Reg.ING_STR_SURF23 0, Reg.ING_STR_SURF23 15, 64),
      oneReg Reg.RED_HEALTH, oneReg Reg.RED_JOINS, oneReg Reg.RED_STATE, oneReg Reg.RED_SWITCHES] }
  | .stateRecord _ =>
    { chapter := 16, parts := [.now, .out, .dram, .cmp, .ing, .cdc, .ccx, .red], regs := some [(Reg.CDC_CH_LASTPIC 0,
      Reg.CDC_CH_LASTPIC 15, 64), (Reg.CDC_CH_POOLMARK 0, Reg.CDC_CH_POOLMARK 15, 64), (Reg.CDC_CH_SKIPPED 0,
      Reg.CDC_CH_SKIPPED 15, 64), (Reg.CDC_CH_STAT 0, Reg.CDC_CH_STAT 15, 64), oneReg Reg.CDC_ERR_EVT,
      oneReg Reg.CMD_EVT, oneReg Reg.CMP_PACK_ERR, oneReg Reg.CMP_STILL_EVT, (Reg.CMP_STILL_STAT 0,
      Reg.CMP_STILL_STAT 15, 8), (Reg.ING_DROP 0, Reg.ING_DROP 7, 4), (Reg.ING_STR_CTRL 0, Reg.ING_STR_CTRL 15, 64),
      (Reg.ING_STR_DST 0, Reg.ING_STR_DST 15, 64), (Reg.ING_STR_LASTPIC 0, Reg.ING_STR_LASTPIC 15, 64),
      (Reg.ING_STR_LOST 0, Reg.ING_STR_LOST 15, 64), (Reg.ING_STR_PATCH 0, Reg.ING_STR_PATCH 15, 64),
      (Reg.ING_STR_PORTS 0, Reg.ING_STR_PORTS 15, 64), (Reg.ING_STR_RATE 0, Reg.ING_STR_RATE 15, 64),
      (Reg.ING_STR_RX 0, Reg.ING_STR_RX 15, 64), (Reg.ING_STR_SRC 0, Reg.ING_STR_SRC 15, 64), (Reg.ING_STR_SSRC 0,
      Reg.ING_STR_SSRC 15, 64), (Reg.ING_STR_SURF01 0, Reg.ING_STR_SURF01 15, 64), (Reg.ING_STR_SURF23 0,
      Reg.ING_STR_SURF23 15, 64), oneReg Reg.RED_HEALTH, oneReg Reg.RED_JOINS, oneReg Reg.RED_JOIN_FAIL,
      oneReg Reg.RED_LINK_ERR, oneReg Reg.RED_STATE, oneReg Reg.RED_SWITCHES, oneReg Reg.TIM_PAIR_OFFSET] }
  | .stateRecordSend _ =>
    { chapter := 16, parts := [.now, .out], regs := some [] }
  | .linkStateTimeout _ | .joinTimeout _ =>
    { chapter := 16, parts := [.now, .out, .dram, .cmp, .ing, .cdc, .ccx, .red], regs := some [(Reg.CDC_CH_LASTPIC 0,
      Reg.CDC_CH_LASTPIC 15, 64), (Reg.CDC_CH_POOLMARK 0, Reg.CDC_CH_POOLMARK 15, 64), (Reg.CDC_CH_SKIPPED 0,
      Reg.CDC_CH_SKIPPED 15, 64), (Reg.CDC_CH_STAT 0, Reg.CDC_CH_STAT 15, 64), oneReg Reg.CDC_ERR_EVT,
      oneReg Reg.CMD_EVT, oneReg Reg.CMP_PACK_ERR, oneReg Reg.CMP_STILL_EVT, (Reg.CMP_STILL_STAT 0,
      Reg.CMP_STILL_STAT 15, 8), (Reg.ING_DROP 0, Reg.ING_DROP 7, 4), (Reg.ING_STR_CTRL 0, Reg.ING_STR_CTRL 15, 64),
      (Reg.ING_STR_DST 0, Reg.ING_STR_DST 15, 64), (Reg.ING_STR_LASTPIC 0, Reg.ING_STR_LASTPIC 15, 64),
      (Reg.ING_STR_LOST 0, Reg.ING_STR_LOST 15, 64), (Reg.ING_STR_PATCH 0, Reg.ING_STR_PATCH 15, 64),
      (Reg.ING_STR_PORTS 0, Reg.ING_STR_PORTS 15, 64), (Reg.ING_STR_RATE 0, Reg.ING_STR_RATE 15, 64),
      (Reg.ING_STR_RX 0, Reg.ING_STR_RX 15, 64), (Reg.ING_STR_SRC 0, Reg.ING_STR_SRC 15, 64), (Reg.ING_STR_SSRC 0,
      Reg.ING_STR_SSRC 15, 64), (Reg.ING_STR_SURF01 0, Reg.ING_STR_SURF01 15, 64), (Reg.ING_STR_SURF23 0,
      Reg.ING_STR_SURF23 15, 64), oneReg Reg.RED_HEALTH, oneReg Reg.RED_JOIN_FAIL, oneReg Reg.RED_STATE,
      oneReg Reg.RED_SWITCHES, oneReg Reg.TIM_PAIR_OFFSET] }
  | .configRecord _ _ =>
    { chapter := 16, parts := [.now, .out, .gen, .dram, .cmp, .ing, .cdc, .ccx, .chn, .red], regs := none }
  | .convergeEnd _ | .holdoffExpiry _ =>
    { chapter := 16, parts := [.now, .out, .red], regs := some [oneReg Reg.CMD_EVT, oneReg Reg.RED_STATE] }
  | .commitRecord _ _ =>
    { chapter := 16, parts := [.now, .gen, .cmp, .ing, .cdc], regs := some [(Reg.CDC_CH_POOLMARK 0,
      Reg.CDC_CH_POOLMARK 15, 64), (Reg.CDC_CH_STAT 0, Reg.CDC_CH_STAT 15, 64), oneReg Reg.CDC_ERR_EVT,
      oneReg Reg.CMP_COMMIT_STAT, oneReg Reg.CMP_COMMIT_WFN_HI, oneReg Reg.CMP_COMMIT_WFN_LO, (Reg.ING_STR_CTRL 0,
      Reg.ING_STR_CTRL 15, 64), (Reg.ING_STR_DST 0, Reg.ING_STR_DST 15, 64), (Reg.ING_STR_PORTS 0,
      Reg.ING_STR_PORTS 15, 64), (Reg.ING_STR_RATE 0, Reg.ING_STR_RATE 15, 64), (Reg.ING_STR_SRC 0,
      Reg.ING_STR_SRC 15, 64), (Reg.ING_STR_SSRC 0, Reg.ING_STR_SSRC 15, 64), (Reg.ING_STR_SURF01 0,
      Reg.ING_STR_SURF01 15, 64), (Reg.ING_STR_SURF23 0, Reg.ING_STR_SURF23 15, 64)] }
  | .expressRecord _ _ _ _ =>
    { chapter := 16, parts := [.now, .out, .chn], regs := some [oneReg Reg.CHN_EXP_STATE] }
  | .refreshRecord _ _ _ _ =>
    { chapter := 16, parts := [.now, .ccx], regs := some [] }
  | .sliceSig _ _ _ _ _ _ =>
    { chapter := 16, parts := [.now, .out, .red], regs := some [oneReg Reg.CMD_EVT, oneReg Reg.RED_DIVERGE,
      oneReg Reg.RED_JOINS, oneReg Reg.RED_STATE] }
  | .tileRecord _ _ =>
    { chapter := 16, parts := [.now, .out, .ccx, .red], regs := some [oneReg Reg.CMD_EVT, oneReg Reg.RED_STATE] }
  | .leave _ _ =>
    { chapter := 16, parts := [.now, .out, .dram, .cmp, .ing, .cdc, .ccx, .red], regs := some [(Reg.CDC_CH_LASTPIC 0,
      Reg.CDC_CH_LASTPIC 15, 64), (Reg.CDC_CH_POOLMARK 0, Reg.CDC_CH_POOLMARK 15, 64), (Reg.CDC_CH_SKIPPED 0,
      Reg.CDC_CH_SKIPPED 15, 64), (Reg.CDC_CH_STAT 0, Reg.CDC_CH_STAT 15, 64), oneReg Reg.CDC_ERR_EVT,
      oneReg Reg.CMD_EVT, oneReg Reg.CMP_PACK_ERR, oneReg Reg.CMP_STILL_EVT, (Reg.CMP_STILL_STAT 0,
      Reg.CMP_STILL_STAT 15, 8), (Reg.ING_DROP 0, Reg.ING_DROP 7, 4), (Reg.ING_STR_CTRL 0, Reg.ING_STR_CTRL 15, 64),
      (Reg.ING_STR_DST 0, Reg.ING_STR_DST 15, 64), (Reg.ING_STR_LASTPIC 0, Reg.ING_STR_LASTPIC 15, 64),
      (Reg.ING_STR_LOST 0, Reg.ING_STR_LOST 15, 64), (Reg.ING_STR_PATCH 0, Reg.ING_STR_PATCH 15, 64),
      (Reg.ING_STR_PORTS 0, Reg.ING_STR_PORTS 15, 64), (Reg.ING_STR_RATE 0, Reg.ING_STR_RATE 15, 64),
      (Reg.ING_STR_RX 0, Reg.ING_STR_RX 15, 64), (Reg.ING_STR_SRC 0, Reg.ING_STR_SRC 15, 64), (Reg.ING_STR_SSRC 0,
      Reg.ING_STR_SSRC 15, 64), (Reg.ING_STR_SURF01 0, Reg.ING_STR_SURF01 15, 64), (Reg.ING_STR_SURF23 0,
      Reg.ING_STR_SURF23 15, 64), oneReg Reg.RED_HEALTH, oneReg Reg.RED_JOIN_FAIL, oneReg Reg.RED_LEAVE,
      oneReg Reg.RED_STATE, oneReg Reg.RED_SWITCHES, oneReg Reg.TIM_PAIR_OFFSET] }
  | .receiptCheck _ _ _ =>
    { chapter := 16, parts := [.now, .out, .red], regs := some [oneReg Reg.CMD_EVT, oneReg Reg.RED_CODE_DIFF,
      oneReg Reg.RED_DIVERGE, oneReg Reg.RED_HEALTH, oneReg Reg.RED_RING_LINK, oneReg Reg.RED_UNCLAIMED] }
  | .ringReturnLoss _ =>
    { chapter := 16, parts := [.now, .out, .cdc, .ccx], regs := some [oneReg Reg.CMD_EVT, oneReg Reg.RED_HEALTH,
      oneReg Reg.RED_STATE, oneReg Reg.RED_SWITCHES] }
  | .silentTimeout _ _ =>
    { chapter := 16, parts := [.now, .out], regs := some [oneReg Reg.CMD_EVT, oneReg Reg.RED_HEALTH] }
  | .startupStandbyExpiry _ =>
    { chapter := 16, parts := [.now, .out, .cdc, .ccx], regs := some [oneReg Reg.CMD_EVT, oneReg Reg.RED_STATE,
      oneReg Reg.RED_SWITCHES] }
  | .pairRejoin _ =>
    { chapter := 16, parts := [.now, .out, .cmd, .dram, .cmp, .ing, .cdc, .ccx, .chn, .red],
      regs := some [(Reg.CDC_CH_LASTPIC 0, Reg.CDC_CH_LASTPIC 15, 64), (Reg.CDC_CH_POOLMARK 0,
      Reg.CDC_CH_POOLMARK 15, 64), (Reg.CDC_CH_SKIPPED 0, Reg.CDC_CH_SKIPPED 15, 64), (Reg.CDC_CH_STAT 0,
      Reg.CDC_CH_STAT 15, 64), oneReg Reg.CDC_ERR_EVT, oneReg Reg.CMD_CQ_TAIL, (Reg.CMD_CREDIT_DROP 0,
      Reg.CMD_CREDIT_DROP 3, 4), oneReg Reg.CMD_EVT, oneReg Reg.CMD_SPI_CTRL, oneReg Reg.CMP_PACK_ERR,
      oneReg Reg.CMP_STILL_EVT, (Reg.CMP_STILL_STAT 0, Reg.CMP_STILL_STAT 15, 8), (Reg.ING_DROP 0, Reg.ING_DROP 7,
      4), (Reg.ING_STR_CTRL 0, Reg.ING_STR_CTRL 15, 64), (Reg.ING_STR_DST 0, Reg.ING_STR_DST 15, 64),
      (Reg.ING_STR_LASTPIC 0, Reg.ING_STR_LASTPIC 15, 64), (Reg.ING_STR_LOST 0, Reg.ING_STR_LOST 15, 64),
      (Reg.ING_STR_PATCH 0, Reg.ING_STR_PATCH 15, 64), (Reg.ING_STR_PORTS 0, Reg.ING_STR_PORTS 15, 64),
      (Reg.ING_STR_RATE 0, Reg.ING_STR_RATE 15, 64), (Reg.ING_STR_RX 0, Reg.ING_STR_RX 15, 64), (Reg.ING_STR_SRC 0,
      Reg.ING_STR_SRC 15, 64), (Reg.ING_STR_SSRC 0, Reg.ING_STR_SSRC 15, 64), (Reg.ING_STR_SURF01 0,
      Reg.ING_STR_SURF01 15, 64), (Reg.ING_STR_SURF23 0, Reg.ING_STR_SURF23 15, 64), oneReg Reg.RED_HEALTH,
      oneReg Reg.RED_JOINS, oneReg Reg.RED_JOIN_FAIL, oneReg Reg.RED_LEAVE, oneReg Reg.RED_STATE,
      oneReg Reg.RED_SWITCHES, oneReg Reg.TIM_PAIR_OFFSET] }
  | .pairTakeback _ =>
    { chapter := 16, parts := [.now, .out, .cmd, .ing, .chn, .red], regs := some [oneReg Reg.CMD_CQ_TAIL,
      (Reg.CMD_CREDIT_DROP 0, Reg.CMD_CREDIT_DROP 3, 4), oneReg Reg.CMD_EVT, oneReg Reg.CMD_SPI_CTRL,
      oneReg Reg.RED_STATE] }
  | .pairRelinquish _ =>
    { chapter := 16, parts := [.now, .out, .cmd, .ing, .chn, .red], regs := some [oneReg Reg.CMD_CQ_TAIL,
      (Reg.CMD_CREDIT_DROP 0, Reg.CMD_CREDIT_DROP 3, 4), oneReg Reg.CMD_EVT, oneReg Reg.CMD_SPI_CTRL] }
  | .redCntClear _ =>
    { chapter := 16, parts := [], regs := some [(0xF0000, 0xFFFFF, 1)] }
  | .standby _ =>
    { chapter := 17, parts := [.now, .out, .cmd, .dram, .cmp, .ing, .cdc, .ccx, .chn, .red, .umb],
      regs := some [(Reg.CDC_CH_LASTPIC 0, Reg.CDC_CH_LASTPIC 15, 64), (Reg.CDC_CH_POOLMARK 0,
      Reg.CDC_CH_POOLMARK 15, 64), (Reg.CDC_CH_SKIPPED 0, Reg.CDC_CH_SKIPPED 15, 64), (Reg.CDC_CH_STAT 0,
      Reg.CDC_CH_STAT 15, 64), oneReg Reg.CDC_ERR_EVT, oneReg Reg.CMD_CQ_TAIL, (Reg.CMD_CREDIT_DROP 0,
      Reg.CMD_CREDIT_DROP 3, 4), oneReg Reg.CMD_EVT, oneReg Reg.CMD_SPI_CTRL, oneReg Reg.CMP_PACK_ERR,
      oneReg Reg.CMP_STILL_EVT, (Reg.CMP_STILL_STAT 0, Reg.CMP_STILL_STAT 15, 8), (Reg.ING_DROP 0, Reg.ING_DROP 7,
      4), (Reg.ING_STR_CTRL 0, Reg.ING_STR_CTRL 15, 64), (Reg.ING_STR_DST 0, Reg.ING_STR_DST 15, 64),
      (Reg.ING_STR_LASTPIC 0, Reg.ING_STR_LASTPIC 15, 64), (Reg.ING_STR_LOST 0, Reg.ING_STR_LOST 15, 64),
      (Reg.ING_STR_PATCH 0, Reg.ING_STR_PATCH 15, 64), (Reg.ING_STR_PORTS 0, Reg.ING_STR_PORTS 15, 64),
      (Reg.ING_STR_RATE 0, Reg.ING_STR_RATE 15, 64), (Reg.ING_STR_RX 0, Reg.ING_STR_RX 15, 64), (Reg.ING_STR_SRC 0,
      Reg.ING_STR_SRC 15, 64), (Reg.ING_STR_SSRC 0, Reg.ING_STR_SSRC 15, 64), (Reg.ING_STR_SURF01 0,
      Reg.ING_STR_SURF01 15, 64), (Reg.ING_STR_SURF23 0, Reg.ING_STR_SURF23 15, 64), oneReg Reg.RED_HEALTH,
      oneReg Reg.RED_JOIN_FAIL, oneReg Reg.RED_LEAVE, oneReg Reg.RED_STATE, oneReg Reg.RED_SWITCHES,
      oneReg Reg.TIM_PAIR_OFFSET] }
  | .gatePoint _ =>
    { chapter := 17, parts := [.now, .out, .sch, .cmd, .ing, .chn, .umb], regs := some [oneReg Reg.CMD_CQ_TAIL,
      oneReg Reg.CMD_EVT, oneReg Reg.CMD_SPI_CTRL, (Reg.GEN_ISL_CLK 0, Reg.GEN_ISL_CLK 63, 4), oneReg Reg.UMB_STATE] }
  | .wake _ =>
    { chapter := 17, parts := [.now, .out, .cmd, .ing, .chn, .drc, .lmp, .umb, .met],
      regs := some [oneReg Reg.CMD_CQ_TAIL, (Reg.CMD_CREDIT_DROP 0, Reg.CMD_CREDIT_DROP 3, 4), oneReg Reg.CMD_EVT,
      oneReg Reg.CMD_SPI_CTRL, (Reg.DRC_CH_STAT 0, Reg.DRC_CH_STAT 7, 4), oneReg Reg.DRC_STAT, (Reg.FLK_EXP_LEN 0,
      Reg.FLK_EXP_LEN 3, 4), (Reg.FLK_EXP_OPEN 0, Reg.FLK_EXP_OPEN 3, 4), (Reg.FLK_SHADOW_LEN 0,
      Reg.FLK_SHADOW_LEN 3, 4), (Reg.FLK_SHADOW_START 0, Reg.FLK_SHADOW_START 3, 4), (Reg.FLK_SLOT_START 0,
      Reg.FLK_SLOT_START 3, 4), oneReg Reg.FLK_STATE, oneReg Reg.LMP_BLANK_EVT, oneReg Reg.LMP_BLANK_SRC,
      oneReg Reg.LMP_STATE, oneReg Reg.UMB_STATE, oneReg Reg.UMB_WAKE_SRC] }
  | .wakeWrite _ _ | .bootGo _ _ =>
    { chapter := 17, parts := [.out, .gen, .cmd, .ing, .chn, .drc, .lmp, .tru, .umb, .met], regs := some [(0x100000,
      0x10FFFF, 1), oneReg Reg.CMD_CQ_TAIL, oneReg Reg.CMD_EVT, oneReg Reg.CMD_SPI_CTRL, (Reg.DRC_CH_STAT 0,
      Reg.DRC_CH_STAT 7, 4), oneReg Reg.DRC_STAT, (Reg.FLK_EXP_LEN 0, Reg.FLK_EXP_LEN 3, 4), (Reg.FLK_EXP_OPEN 0,
      Reg.FLK_EXP_OPEN 3, 4), (Reg.FLK_SHADOW_LEN 0, Reg.FLK_SHADOW_LEN 3, 4), (Reg.FLK_SHADOW_START 0,
      Reg.FLK_SHADOW_START 3, 4), (Reg.FLK_SLOT_START 0, Reg.FLK_SLOT_START 3, 4), oneReg Reg.FLK_STATE,
      oneReg Reg.GEN_IMG_STATE, oneReg Reg.LMP_BLANK_EVT, oneReg Reg.LMP_BLANK_SRC, oneReg Reg.LMP_STATE,
      oneReg Reg.TRU_BOOT, oneReg Reg.TRU_SIG_FAIL] }
  | .wakePin _ _ | .alarm _ =>
    { chapter := 17, parts := [.now, .out, .cmd, .ing, .chn, .drc, .lmp, .umb, .met],
      regs := some [oneReg Reg.CMD_CQ_TAIL, oneReg Reg.CMD_EVT, oneReg Reg.CMD_SPI_CTRL, (Reg.DRC_CH_STAT 0,
      Reg.DRC_CH_STAT 7, 4), oneReg Reg.DRC_STAT, (Reg.FLK_EXP_LEN 0, Reg.FLK_EXP_LEN 3, 4), (Reg.FLK_EXP_OPEN 0,
      Reg.FLK_EXP_OPEN 3, 4), (Reg.FLK_SHADOW_LEN 0, Reg.FLK_SHADOW_LEN 3, 4), (Reg.FLK_SHADOW_START 0,
      Reg.FLK_SHADOW_START 3, 4), (Reg.FLK_SLOT_START 0, Reg.FLK_SLOT_START 3, 4), oneReg Reg.FLK_STATE,
      oneReg Reg.LMP_BLANK_EVT, oneReg Reg.LMP_BLANK_SRC, oneReg Reg.LMP_STATE, oneReg Reg.UMB_STATE,
      oneReg Reg.UMB_WAKE_SRC] }
  | .wakeComplete _ =>
    { chapter := 17, parts := [.now, .fresh, .out, .gen, .sch, .cmd, .cmp, .ing, .cdc, .ccx, .chn, .red, .tim, .flk,
      .drc, .thm, .emc, .lmp, .cal, .tru, .umb, .met], regs := some [(Reg.DRC_CH_STAT 0, Reg.DRC_CH_STAT 7, 4),
      oneReg Reg.DRC_STAT, (Reg.FLK_EXP_LEN 0, Reg.FLK_EXP_LEN 3, 4), (Reg.FLK_EXP_OPEN 0, Reg.FLK_EXP_OPEN 3, 4),
      (Reg.FLK_SHADOW_LEN 0, Reg.FLK_SHADOW_LEN 3, 4), (Reg.FLK_SHADOW_START 0, Reg.FLK_SHADOW_START 3, 4),
      (Reg.FLK_SLOT_START 0, Reg.FLK_SLOT_START 3, 4), oneReg Reg.FLK_STATE, (Reg.GEN_ISL_CLK 0, Reg.GEN_ISL_CLK 63,
      4), oneReg Reg.LMP_BLANK_EVT, oneReg Reg.LMP_BLANK_SRC, oneReg Reg.LMP_STATE, oneReg Reg.TIM_STATE,
      oneReg Reg.UMB_STATE] }
  | .powerDown _ | .pfWarning _ | .coreResetRelease _ _ | .corePgFall _ | .resetN _ | .watchdogExpiry _ |
     .umbraPowerOn _ | .umbraSupplyLoss _ | .reset _ =>
    { chapter := 17, parts := allParts, regs := none }
  | .pfRestart _ | .powerRetry _ =>
    { chapter := 17, parts := [.now, .out, .umb], regs := some [] }
  | .corePgRise _ | .umbraRealign _ =>
    { chapter := 17, parts := [.now, .umb], regs := some [] }
  | .corePgTimeout _ =>
    { chapter := 17, parts := [.now, .out, .umb], regs := some [oneReg Reg.UMB_STATE] }
  | .powerOnStart _ =>
    { chapter := 17, parts := [.now, .out, .umb], regs := some [oneReg Reg.UMB_RESET_CAUSE] }
  | .tcxoStop _ =>
    { chapter := 17, parts := [.now, .red, .tim, .met], regs := some [oneReg Reg.FLK_STATE, oneReg Reg.TIM_STATE,
      oneReg Reg.UMB_STATE] }
  | .firmwareStart _ =>
    { chapter := 17, parts := [.now, .out, .gen, .sch, .cmd, .cmp, .ing, .cdc, .ccx, .chn, .red, .tim, .flk, .drc,
      .thm, .emc, .lmp, .cal, .tru, .umb], regs := some [(Reg.CAL_GEN 0, Reg.CAL_GEN 3, 8), oneReg Reg.CAL_LOOP_CFG,
      oneReg Reg.CAL_LOOP_LIM, oneReg Reg.CAL_LOOP_STEP, (Reg.CAL_SLOT 0, Reg.CAL_SLOT 3, 8), oneReg Reg.CAL_STATE,
      (Reg.EMC_GAIN 0, Reg.EMC_GAIN 3, 4), oneReg Reg.GEN_ADM_STATUS, oneReg Reg.GEN_IMG_STATE, oneReg Reg.LMP_MAP,
      (Reg.LMP_ROW_MAP 0, Reg.LMP_ROW_MAP 15, 4)] }
  | .tcxoResume _ =>
    { chapter := 17, parts := [.now], regs := some [oneReg Reg.UMB_STATE] }
  | .pfSenseRise _ =>
    { chapter := 17, parts := [.now, .umb], regs := some [oneReg Reg.UMB_STATE] }
  | .rtcLatch _ =>
    { chapter := 17, parts := [.fresh, .out, .sch, .tim, .umb, .met], regs := some [oneReg Reg.CMD_EVT,
      oneReg Reg.SCH_TRACE_CTRL, oneReg Reg.SCH_TRACE_PTR] }
  | .stageBegin _ =>
    { chapter := 18, parts := [.now, .out, .gen, .cmd, .ing, .chn, .tru], regs := some [oneReg Reg.CMD_CQ_TAIL,
      (Reg.CMD_CREDIT_DROP 0, Reg.CMD_CREDIT_DROP 3, 4), oneReg Reg.CMD_EVT, oneReg Reg.CMD_SPI_CTRL,
      oneReg Reg.TRU_STAGE] }
  | .stageData _ =>
    { chapter := 18, parts := [.now, .out, .sch, .cmd, .ing, .chn, .tru], regs := some [oneReg Reg.CMD_CQ_TAIL,
      (Reg.CMD_CREDIT_DROP 0, Reg.CMD_CREDIT_DROP 3, 4), oneReg Reg.CMD_EVT, oneReg Reg.CMD_SPI_CTRL,
      oneReg Reg.TRU_CRC_ERR, oneReg Reg.TRU_STAGE] }
  | .stageEnd _ | .stageAbort _ =>
    { chapter := 18, parts := [.now, .out, .sch, .cmd, .ing, .chn, .tru], regs := some [oneReg Reg.CMD_CQ_TAIL,
      (Reg.CMD_CREDIT_DROP 0, Reg.CMD_CREDIT_DROP 3, 4), oneReg Reg.CMD_EVT, oneReg Reg.CMD_SPI_CTRL,
      oneReg Reg.TRU_STAGE] }
  | .stageVerifyComplete _ _ =>
    { chapter := 18, parts := [.now, .out, .sch, .cmd, .ing, .chn, .tru], regs := some [oneReg Reg.CMD_CQ_TAIL,
      oneReg Reg.CMD_EVT, oneReg Reg.CMD_SPI_CTRL, oneReg Reg.TRU_SIG_FAIL, oneReg Reg.TRU_STAGE] }
  | .stageTimeout _ _ =>
    { chapter := 18, parts := [.now, .out, .sch, .cmd, .ing, .chn, .tru], regs := some [oneReg Reg.CMD_CQ_TAIL,
      oneReg Reg.CMD_EVT, oneReg Reg.CMD_SPI_CTRL, oneReg Reg.TRU_STAGE] }
  | .activate _ =>
    { chapter := 18, parts := [.now, .out, .cmd, .ing, .chn, .tru], regs := some [oneReg Reg.CMD_CQ_TAIL,
      (Reg.CMD_CREDIT_DROP 0, Reg.CMD_CREDIT_DROP 3, 4), oneReg Reg.CMD_EVT, oneReg Reg.CMD_SPI_CTRL,
      oneReg Reg.TRU_BOOT] }
  | .activateCommit _ =>
    { chapter := 18, parts := allParts, regs := none }
  | .confirm _ =>
    { chapter := 18, parts := [.now, .out, .cmd, .ing, .chn, .tru], regs := some [oneReg Reg.CMD_CQ_TAIL,
      (Reg.CMD_CREDIT_DROP 0, Reg.CMD_CREDIT_DROP 3, 4), oneReg Reg.CMD_EVT, oneReg Reg.CMD_SPI_CTRL] }
  | .confirmTimeout _ =>
    { chapter := 18, parts := [.now, .tru], regs := some [] }
  | .keyInstall _ =>
    { chapter := 18, parts := [.now, .out, .cmd, .ing, .chn, .tru], regs := some [oneReg Reg.CMD_CQ_TAIL,
      (Reg.CMD_CREDIT_DROP 0, Reg.CMD_CREDIT_DROP 3, 4), oneReg Reg.CMD_EVT, oneReg Reg.CMD_SPI_CTRL,
      oneReg Reg.TRU_SIG_FAIL] }
  | .lcToken _ =>
    { chapter := 18, parts := [.now, .out, .cmd, .ing, .chn, .lmp, .tru, .met, .dbg],
      regs := some [oneReg Reg.CMD_CQ_TAIL, (Reg.CMD_CREDIT_DROP 0, Reg.CMD_CREDIT_DROP 3, 4), oneReg Reg.CMD_EVT,
      oneReg Reg.CMD_SPI_CTRL, oneReg Reg.DBG_STATE, oneReg Reg.LMP_BLANK_EVT, oneReg Reg.LMP_BLANK_SRC,
      oneReg Reg.LMP_STATE, oneReg Reg.TRU_SIG_FAIL] }
  | .scrap _ =>
    { chapter := 18, parts := [.now, .out, .cmd, .ing, .chn, .lmp, .tru, .met, .dbg],
      regs := some [oneReg Reg.CMD_CQ_TAIL, (Reg.CMD_CREDIT_DROP 0, Reg.CMD_CREDIT_DROP 3, 4), oneReg Reg.CMD_EVT,
      oneReg Reg.CMD_SPI_CTRL, oneReg Reg.DBG_STATE, oneReg Reg.LMP_BLANK_EVT, oneReg Reg.LMP_BLANK_SRC,
      oneReg Reg.LMP_STATE] }
  | .attest _ =>
    { chapter := 18, parts := [.now, .out, .cmd, .ing, .chn], regs := some [oneReg Reg.CMD_CQ_TAIL,
      (Reg.CMD_CREDIT_DROP 0, Reg.CMD_CREDIT_DROP 3, 4), oneReg Reg.CMD_EVT, oneReg Reg.CMD_SPI_CTRL] }
  | .truCntClear _ =>
    { chapter := 18, parts := [], regs := some [(0x110000, 0x11FFFF, 1)] }
  | .admitStaged _ =>
    { chapter := 18, parts := [.now, .out, .gen, .sch, .cmd, .ing, .chn], regs := some [oneReg Reg.CMD_CQ_TAIL,
      (Reg.CMD_CREDIT_DROP 0, Reg.CMD_CREDIT_DROP 3, 4), oneReg Reg.CMD_EVT, oneReg Reg.CMD_SPI_CTRL,
      oneReg Reg.GEN_ADM_STATUS] }
  | .admissionComplete _ _ =>
    { chapter := 18, parts := [.now, .fresh, .out, .gen, .sch, .cmd, .ing, .cdc, .ccx, .chn, .red, .drc, .emc, .lmp,
      .cal, .tru, .met], regs := some [(Reg.CAL_GEN 0, Reg.CAL_GEN 3, 8), oneReg Reg.CAL_LOOP_CFG,
      oneReg Reg.CAL_LOOP_LIM, oneReg Reg.CAL_LOOP_STEP, (Reg.CAL_SLOT 0, Reg.CAL_SLOT 3, 8), oneReg Reg.CAL_STATE,
      (Reg.CDC_CH_POOLMARK 0, Reg.CDC_CH_POOLMARK 15, 64), (Reg.CDC_CH_STAT 0, Reg.CDC_CH_STAT 15, 64),
      oneReg Reg.CDC_ERR_EVT, (Reg.CHN_PORT_STAT 0, Reg.CHN_PORT_STAT 7, 256), oneReg Reg.CMD_CQ_TAIL,
      oneReg Reg.CMD_EVT, oneReg Reg.CMD_SPI_CTRL, (Reg.DRC_CH_STAT 0, Reg.DRC_CH_STAT 7, 4), oneReg Reg.DRC_STAT,
      (Reg.EMC_GAIN 0, Reg.EMC_GAIN 3, 4), oneReg Reg.EMC_STATE, (Reg.FLK_EXP_LEN 0, Reg.FLK_EXP_LEN 3, 4),
      (Reg.FLK_EXP_OPEN 0, Reg.FLK_EXP_OPEN 3, 4), (Reg.FLK_SHADOW_LEN 0, Reg.FLK_SHADOW_LEN 3, 4),
      (Reg.FLK_SHADOW_START 0, Reg.FLK_SHADOW_START 3, 4), (Reg.FLK_SLOT_START 0, Reg.FLK_SLOT_START 3, 4),
      oneReg Reg.FLK_STATE, oneReg Reg.GEN_ADM_DETAIL0, oneReg Reg.GEN_ADM_DETAIL1, oneReg Reg.GEN_ADM_STATUS,
      oneReg Reg.GEN_IMG_ID_HI, oneReg Reg.GEN_IMG_ID_LO, oneReg Reg.GEN_IMG_STATE, (Reg.GEN_ISL_CLK 0,
      Reg.GEN_ISL_CLK 63, 4), (Reg.ING_STR_CTRL 0, Reg.ING_STR_CTRL 15, 64), (Reg.ING_STR_DST 0, Reg.ING_STR_DST 15,
      64), (Reg.ING_STR_PORTS 0, Reg.ING_STR_PORTS 15, 64), (Reg.ING_STR_RATE 0, Reg.ING_STR_RATE 15, 64),
      (Reg.ING_STR_SRC 0, Reg.ING_STR_SRC 15, 64), (Reg.ING_STR_SSRC 0, Reg.ING_STR_SSRC 15, 64),
      (Reg.ING_STR_SURF01 0, Reg.ING_STR_SURF01 15, 64), (Reg.ING_STR_SURF23 0, Reg.ING_STR_SURF23 15, 64),
      oneReg Reg.LMP_BLANK_EVT, oneReg Reg.LMP_BLANK_SRC, oneReg Reg.LMP_MAP, (Reg.LMP_ROW_MAP 0, Reg.LMP_ROW_MAP 15,
      4), oneReg Reg.LMP_STATE, (Reg.SCH_HIST 0, Reg.SCH_HIST 7, 4), oneReg Reg.SCH_TRACE_CTRL,
      oneReg Reg.SCH_TRACE_PTR, oneReg Reg.TRU_SIG_FAIL, oneReg Reg.UMB_STATE] }
  | .energyLatch _ =>
    { chapter := 19, parts := [.fresh, .out, .sch, .tim, .umb, .met], regs := some [oneReg Reg.CMD_EVT,
      oneReg Reg.SCH_TRACE_CTRL, oneReg Reg.SCH_TRACE_PTR] }
  | .meterSample _ =>
    { chapter := 19, parts := [.now, .out, .met], regs := some [oneReg Reg.MET_CURR, oneReg Reg.MET_VOLT] }
  | .sealTransition _ _ | .lightOffer _ | .recordClose _ | .meterPowerOn _ _ =>
    { chapter := 19, parts := [.now, .met], regs := some [] }
  | .recordProgrammed _ _ | .meterSupplyTrip _ =>
    { chapter := 19, parts := [.now, .out, .met], regs := some [oneReg Reg.CMD_EVT, oneReg Reg.MET_REC_SEQ] }
  | .meterRead _ _ | .meterFwBlock _ _ | .meterVerify _ _ =>
    { chapter := 19, parts := [.out, .met], regs := some [] }
  | .meterWrite _ _ _ _ =>
    { chapter := 19, parts := [.now, .out, .met], regs := some [(0x120000, 0x12FFFF, 1)] }
  | .recordFetch _ _ | .eventFetch _ _ =>
    { chapter := 19, parts := [.out], regs := some [] }
  | .meterActivate _ _ =>
    { chapter := 19, parts := [.now, .out, .met], regs := some [] }
  | .metTag _ =>
    { chapter := 19, parts := [.now, .out, .cmd, .ing, .chn, .met], regs := some [oneReg Reg.CMD_CQ_TAIL,
      (Reg.CMD_CREDIT_DROP 0, Reg.CMD_CREDIT_DROP 3, 4), oneReg Reg.CMD_EVT, oneReg Reg.CMD_SPI_CTRL] }
  | .metFetch _ =>
    { chapter := 19, parts := [.now, .out, .cmd, .ing, .chn], regs := some [oneReg Reg.CMD_CQ_TAIL,
      (Reg.CMD_CREDIT_DROP 0, Reg.CMD_CREDIT_DROP 3, 4), oneReg Reg.CMD_EVT, oneReg Reg.CMD_SPI_CTRL] }
  | .regRd _ =>
    { chapter := 20, parts := [.now, .fresh, .out, .sch, .chn, .tim, .umb, .met], regs := some [oneReg Reg.CMD_EVT,
      oneReg Reg.SCH_TRACE_CTRL, oneReg Reg.SCH_TRACE_PTR] }
  | .regWr _ | .mbox _ | .bulk _ | .sqTailWrite _ | .spiGo _ _ _ | .spiWrite _ _ =>
    { chapter := 20, parts := allParts, regs := none }
  | .regRsp _ | .mboxRsp _ =>
    { chapter := 20, parts := [.now, .out, .cmd, .ing, .chn], regs := some [oneReg Reg.CMD_CQ_TAIL,
      oneReg Reg.CMD_EVT, oneReg Reg.CMD_SPI_CTRL] }
  | .holdMessage _ _ _ | .holdMessageRepeat _ =>
    { chapter := 20, parts := [.now, .chn, .flk], regs := some [] }
  | .nop _ | .tokenStatus _ | .paramRead _ | .tileReg _ | .tileCmd _ | .tileBulk _ =>
    { chapter := 20, parts := [.now, .out, .cmd, .ing, .chn], regs := some [oneReg Reg.CMD_CQ_TAIL,
      (Reg.CMD_CREDIT_DROP 0, Reg.CMD_CREDIT_DROP 3, 4), oneReg Reg.CMD_EVT, oneReg Reg.CMD_SPI_CTRL] }
  | .resync _ =>
    { chapter := 20, parts := [.now, .fresh, .out, .sch, .cmd, .ing, .chn], regs := some [oneReg Reg.CMD_CQ_TAIL,
      (Reg.CMD_CREDIT_DROP 0, Reg.CMD_CREDIT_DROP 3, 4), oneReg Reg.CMD_EVT, oneReg Reg.CMD_SPI_CTRL,
      oneReg Reg.SCH_TRACE_CTRL, oneReg Reg.SCH_TRACE_PTR] }
  | .abort _ =>
    { chapter := 20, parts := [.now, .fresh, .out, .gen, .sch, .cmd, .ing, .chn, .drc, .lmp, .cal, .tru, .umb, .met,
      .dbg], regs := some [oneReg Reg.CAL_STATE, oneReg Reg.CAL_STORE_FAIL, oneReg Reg.CMD_CQ_TAIL,
      (Reg.CMD_CREDIT_DROP 0, Reg.CMD_CREDIT_DROP 3, 4), oneReg Reg.CMD_EVT, oneReg Reg.CMD_SPI_CTRL,
      oneReg Reg.DBG_BIST_DONE, oneReg Reg.DBG_BIST_FAIL, oneReg Reg.DBG_BIST_RUNS, oneReg Reg.DBG_BIST_STAT,
      oneReg Reg.DBG_STATE, (Reg.DRC_CH_STAT 0, Reg.DRC_CH_STAT 7, 4), oneReg Reg.DRC_STAT, (Reg.FLK_EXP_LEN 0,
      Reg.FLK_EXP_LEN 3, 4), (Reg.FLK_EXP_OPEN 0, Reg.FLK_EXP_OPEN 3, 4), (Reg.FLK_SHADOW_LEN 0,
      Reg.FLK_SHADOW_LEN 3, 4), (Reg.FLK_SHADOW_START 0, Reg.FLK_SHADOW_START 3, 4), (Reg.FLK_SLOT_START 0,
      Reg.FLK_SLOT_START 3, 4), oneReg Reg.FLK_STATE, oneReg Reg.GEN_ADM_STATUS, (Reg.GEN_ISL_CLK 0,
      Reg.GEN_ISL_CLK 63, 4), oneReg Reg.LMP_BLANK_EVT, oneReg Reg.LMP_BLANK_SRC, oneReg Reg.LMP_STATE,
      oneReg Reg.TRU_BOOT, oneReg Reg.TRU_STAGE, oneReg Reg.UMB_STATE] }
  | .hold _ | .release _ =>
    { chapter := 20, parts := [.now, .out, .cmd, .ing, .chn, .flk], regs := some [oneReg Reg.CMD_CQ_TAIL,
      (Reg.CMD_CREDIT_DROP 0, Reg.CMD_CREDIT_DROP 3, 4), oneReg Reg.CMD_EVT, oneReg Reg.CMD_SPI_CTRL] }
  | .paramWrite _ =>
    { chapter := 20, parts := [.now, .out, .gen, .cmd, .ing, .cdc, .chn], regs := some [(Reg.CDC_CH_POOLMARK 0,
      Reg.CDC_CH_POOLMARK 15, 64), (Reg.CDC_CH_STAT 0, Reg.CDC_CH_STAT 15, 64), oneReg Reg.CDC_ERR_EVT,
      oneReg Reg.CMD_CQ_TAIL, (Reg.CMD_CREDIT_DROP 0, Reg.CMD_CREDIT_DROP 3, 4), oneReg Reg.CMD_EVT,
      oneReg Reg.CMD_SPI_CTRL, (Reg.ING_STR_CTRL 0, Reg.ING_STR_CTRL 15, 64), (Reg.ING_STR_DST 0, Reg.ING_STR_DST 15,
      64), (Reg.ING_STR_PORTS 0, Reg.ING_STR_PORTS 15, 64), (Reg.ING_STR_RATE 0, Reg.ING_STR_RATE 15, 64),
      (Reg.ING_STR_SRC 0, Reg.ING_STR_SRC 15, 64), (Reg.ING_STR_SSRC 0, Reg.ING_STR_SSRC 15, 64),
      (Reg.ING_STR_SURF01 0, Reg.ING_STR_SURF01 15, 64), (Reg.ING_STR_SURF23 0, Reg.ING_STR_SURF23 15, 64)] }
  | .selftest _ =>
    { chapter := 20, parts := [.now, .out, .sch, .cmd, .ing, .chn], regs := some [oneReg Reg.CMD_CQ_TAIL,
      (Reg.CMD_CREDIT_DROP 0, Reg.CMD_CREDIT_DROP 3, 4), oneReg Reg.CMD_EVT, oneReg Reg.CMD_SPI_CTRL] }
  | .relayRetry _ _ _ =>
    { chapter := 20, parts := [.now, .cmd, .chn], regs := some [] }
  | .relayTimeout _ _ _ =>
    { chapter := 20, parts := [.now, .out, .cmd, .ing, .chn], regs := some [oneReg Reg.CMD_CQ_TAIL,
      oneReg Reg.CMD_EVT, oneReg Reg.CMD_RELAY_TIMEOUT, oneReg Reg.CMD_SPI_CTRL] }
  | .cqHeadWrite _ _ =>
    { chapter := 20, parts := [.out, .cmd], regs := some [(0x10000, 0x1FFFF, 1)] }
  | .ringEnable _ _ | .ringDisable _ _ =>
    { chapter := 20, parts := [.cmd], regs := some [(0x10000, 0x1FFFF, 1)] }
  | .spiRead _ _ =>
    { chapter := 20, parts := [.fresh, .out, .sch, .tim, .umb, .met], regs := some [oneReg Reg.CMD_EVT,
      oneReg Reg.SCH_TRACE_CTRL, oneReg Reg.SCH_TRACE_PTR] }
  | .spiStatus _ =>
    { chapter := 20, parts := [.out], regs := some [] }
  | .cmdCntClear _ =>
    { chapter := 20, parts := [], regs := some [(0x10000, 0x1FFFF, 1)] }
  | .frameStart _ =>
    { chapter := 20, parts := [.now, .out, .gen, .sch, .cmp, .ing, .cdc, .ccx, .red, .flk, .drc, .emc, .lmp, .umb,
      .met], regs := some [oneReg Reg.CCX_ROI_OVER, (Reg.CDC_CH_POOLMARK 0, Reg.CDC_CH_POOLMARK 15, 64),
      (Reg.CDC_CH_STAT 0, Reg.CDC_CH_STAT 15, 64), oneReg Reg.CDC_ERR_EVT, oneReg Reg.CMD_EVT,
      oneReg Reg.EMC_FADE_NOW, oneReg Reg.EMC_LIVE_CNT, oneReg Reg.EMC_LIVE_WFN, oneReg Reg.EMC_STATE,
      (Reg.FLK_ABSENT 0, Reg.FLK_ABSENT 3, 4), oneReg Reg.FLK_STATE, (Reg.ING_PORT_STAT 0, Reg.ING_PORT_STAT 3, 4),
      (Reg.ING_STR_CTRL 0, Reg.ING_STR_CTRL 15, 64), (Reg.ING_STR_DST 0, Reg.ING_STR_DST 15, 64),
      (Reg.ING_STR_PORTS 0, Reg.ING_STR_PORTS 15, 64), (Reg.ING_STR_RATE 0, Reg.ING_STR_RATE 15, 64),
      (Reg.ING_STR_SRC 0, Reg.ING_STR_SRC 15, 64), (Reg.ING_STR_SSRC 0, Reg.ING_STR_SSRC 15, 64),
      (Reg.ING_STR_SURF01 0, Reg.ING_STR_SURF01 15, 64), (Reg.ING_STR_SURF23 0, Reg.ING_STR_SURF23 15, 64),
      oneReg Reg.LMP_BLANK_EVT, oneReg Reg.LMP_BLANK_SRC, oneReg Reg.LMP_STATE, oneReg Reg.RED_STATE,
      oneReg Reg.RED_SWITCHES, (Reg.SCH_FCT_LOAD 0, Reg.SCH_FCT_LOAD 127, 4), (Reg.SCH_HIST 0, Reg.SCH_HIST 7, 4),
      (Reg.SCH_ISL_SLACK 0, Reg.SCH_ISL_SLACK 31, 4), oneReg Reg.SCH_QW_DEPTH, oneReg Reg.SCH_SHED,
      oneReg Reg.SCH_TRACE_CTRL, oneReg Reg.SCH_TRACE_PTR, oneReg Reg.UMB_STATE] }
  | .chainWindowOpen _ _ =>
    { chapter := 20, parts := [.now, .out, .dram, .cmp, .ing, .cdc, .ccx, .chn, .red, .tim, .met],
      regs := some [(Reg.CDC_CH_LASTPIC 0, Reg.CDC_CH_LASTPIC 15, 64), (Reg.CDC_CH_POOLMARK 0,
      Reg.CDC_CH_POOLMARK 15, 64), (Reg.CDC_CH_SKIPPED 0, Reg.CDC_CH_SKIPPED 15, 64), (Reg.CDC_CH_STAT 0,
      Reg.CDC_CH_STAT 15, 64), oneReg Reg.CDC_ERR_EVT, oneReg Reg.CHN_EXP_DEFER, oneReg Reg.CHN_EXP_STATE,
      oneReg Reg.CMD_EVT, oneReg Reg.CMP_PACK_ERR, oneReg Reg.CMP_STILL_EVT, (Reg.CMP_STILL_STAT 0,
      Reg.CMP_STILL_STAT 15, 8), oneReg Reg.FLK_STATE, (Reg.ING_DROP 0, Reg.ING_DROP 7, 4), (Reg.ING_STR_CTRL 0,
      Reg.ING_STR_CTRL 15, 64), (Reg.ING_STR_DST 0, Reg.ING_STR_DST 15, 64), (Reg.ING_STR_LASTPIC 0,
      Reg.ING_STR_LASTPIC 15, 64), (Reg.ING_STR_LOST 0, Reg.ING_STR_LOST 15, 64), (Reg.ING_STR_PATCH 0,
      Reg.ING_STR_PATCH 15, 64), (Reg.ING_STR_PORTS 0, Reg.ING_STR_PORTS 15, 64), (Reg.ING_STR_RATE 0,
      Reg.ING_STR_RATE 15, 64), (Reg.ING_STR_RX 0, Reg.ING_STR_RX 15, 64), (Reg.ING_STR_SRC 0, Reg.ING_STR_SRC 15,
      64), (Reg.ING_STR_SSRC 0, Reg.ING_STR_SSRC 15, 64), (Reg.ING_STR_SURF01 0, Reg.ING_STR_SURF01 15, 64),
      (Reg.ING_STR_SURF23 0, Reg.ING_STR_SURF23 15, 64), oneReg Reg.RED_HEALTH, oneReg Reg.RED_JOINS,
      oneReg Reg.RED_JOIN_FAIL, oneReg Reg.RED_LEAVE, oneReg Reg.RED_STATE, oneReg Reg.RED_SWITCHES,
      oneReg Reg.RED_TILE, oneReg Reg.TIM_PAIR_OFFSET, oneReg Reg.TIM_STATE] }
  | .islandBelowFloor _ _ _ | .islandFloorRegained _ _ _ =>
    { chapter := 20, parts := [.now], regs := some [(Reg.GEN_ISL_CLK 0, Reg.GEN_ISL_CLK 63, 4)] }
  | .jtagUpdateIr _ _ | .jtagReset =>
    { chapter := 23, parts := [.out, .lmp, .met, .dbg], regs := some [oneReg Reg.DBG_STATE, oneReg Reg.LMP_BLANK_EVT,
      oneReg Reg.LMP_BLANK_SRC, oneReg Reg.LMP_STATE] }
  | .jtagUpdateDr _ =>
    { chapter := 23, parts := allParts, regs := none }
  | .jtagRunTestIdle =>
    { chapter := 23, parts := [.out, .dbg], regs := some [] }
  | .tmuxSelect _ _ | .dbgCntClear _ =>
    { chapter := 23, parts := [.out, .dbg], regs := some [(0x130000, 0x13FFFF, 1)] }
  | .bist _ =>
    { chapter := 23, parts := [.now, .out, .sch, .cmd, .dram, .cmp, .ing, .cdc, .ccx, .chn, .red, .lmp, .dbg],
      regs := some [(Reg.CDC_CH_LASTPIC 0, Reg.CDC_CH_LASTPIC 15, 64), (Reg.CDC_CH_POOLMARK 0,
      Reg.CDC_CH_POOLMARK 15, 64), (Reg.CDC_CH_SKIPPED 0, Reg.CDC_CH_SKIPPED 15, 64), (Reg.CDC_CH_STAT 0,
      Reg.CDC_CH_STAT 15, 64), oneReg Reg.CDC_ERR_EVT, oneReg Reg.CMD_CQ_TAIL, (Reg.CMD_CREDIT_DROP 0,
      Reg.CMD_CREDIT_DROP 3, 4), oneReg Reg.CMD_EVT, oneReg Reg.CMD_SPI_CTRL, oneReg Reg.CMP_PACK_ERR,
      oneReg Reg.CMP_STILL_EVT, (Reg.CMP_STILL_STAT 0, Reg.CMP_STILL_STAT 15, 8), oneReg Reg.DBG_BIST_DONE,
      oneReg Reg.DBG_BIST_FAIL, oneReg Reg.DBG_BIST_STAT, oneReg Reg.DBG_STATE, (Reg.FLK_ABSENT 0, Reg.FLK_ABSENT 3,
      4), (Reg.ING_DROP 0, Reg.ING_DROP 7, 4), (Reg.ING_STR_CTRL 0, Reg.ING_STR_CTRL 15, 64), (Reg.ING_STR_DST 0,
      Reg.ING_STR_DST 15, 64), (Reg.ING_STR_LASTPIC 0, Reg.ING_STR_LASTPIC 15, 64), (Reg.ING_STR_LOST 0,
      Reg.ING_STR_LOST 15, 64), (Reg.ING_STR_PATCH 0, Reg.ING_STR_PATCH 15, 64), (Reg.ING_STR_PORTS 0,
      Reg.ING_STR_PORTS 15, 64), (Reg.ING_STR_RATE 0, Reg.ING_STR_RATE 15, 64), (Reg.ING_STR_RX 0, Reg.ING_STR_RX 15,
      64), (Reg.ING_STR_SRC 0, Reg.ING_STR_SRC 15, 64), (Reg.ING_STR_SSRC 0, Reg.ING_STR_SSRC 15, 64),
      (Reg.ING_STR_SURF01 0, Reg.ING_STR_SURF01 15, 64), (Reg.ING_STR_SURF23 0, Reg.ING_STR_SURF23 15, 64),
      oneReg Reg.RED_HEALTH, oneReg Reg.RED_JOIN_FAIL, oneReg Reg.RED_LEAVE, oneReg Reg.RED_STATE,
      oneReg Reg.RED_SWITCHES, oneReg Reg.SCH_QW_DEPTH, oneReg Reg.SCH_SHED, oneReg Reg.SCH_TRACE_CTRL,
      oneReg Reg.SCH_TRACE_PTR, oneReg Reg.TIM_PAIR_OFFSET] }
  | .bistComplete _ _ _ _ =>
    { chapter := 23, parts := [.now, .fresh, .out, .sch, .cmd, .ing, .chn, .tru, .dbg],
      regs := some [oneReg Reg.CMD_CQ_TAIL, oneReg Reg.CMD_EVT, oneReg Reg.CMD_SPI_CTRL, oneReg Reg.DBG_BIST_DONE,
      oneReg Reg.DBG_BIST_FAIL, oneReg Reg.DBG_BIST_RUNS, oneReg Reg.DBG_BIST_STAT, oneReg Reg.DBG_STATE,
      (Reg.GEN_ISL_CLK 0, Reg.GEN_ISL_CLK 63, 4)] }

/-- A mailbox command that passes every check of R347 on its path, with a credit, at its own instant: its handler runs. -/
def State.takes (s : State) (op : Nat) (c : MboxCmd) : Bool :=
  (s.tick c.t).pathOpen c.path && decide ((s.tick c.t).creditsHeld c.path < creditLimit c.path) && (s.tick c.t).checkCommand op c == none

/-- The bytes of DRAM that hold the samples of a picture surface, its bricks and their headers (R100 to R103). -/
def sampleByte (v : Surface) (a : Nat) : Prop :=
  (∃ c x y, c < 4 ∧ x < roundUp 64 v.width ∧ y < roundUp 16 v.height ∧ sampleAddr v c x y ≤ a ∧ a < sampleAddr v c x y + 2) ∨
    (v.layout = 2 ∧ ∃ k, k < brickCols v.width * brickRows v.height ∧
      (a = headerAddr v k ∨ (v.base + k * brickBytes v.fmt ≤ a ∧ a < v.base + (k + 1) * brickBytes v.fmt)))

/-- The row segments of an RTP packet lie inside every surface (test 4 of Table 4.2). -/
def State.rowsFit (s : State) (payload : List Byte) : Bool :=
  s.cmp.surfaces.all (fun v => rowsInside v (rowHeaders 3 ((rtpPayload payload).drop 2)).1 (rowHeaders 3 ((rtpPayload payload).drop 2)).2)

/-- The rows of every packet a sender holds lie inside every surface. -/
def State.heldFit (s : State) : Prop := ∀ str p, p ∈ (s.stream str).held → s.rowsFit p.payload = true

/-- The flash a running step of a calibration store erases or programs: its first byte and its length (R235). -/
def CalStore.target (x : CalStore) : Nat × Nat :=
  match x.phase with
  | .checking => (0, 0)
  | .erasing n => (slotBase x.object x.slot + 65536 * n, 65536)
  | .programming k => (slotBase x.object x.slot + 256 * k, 256)
  | .commit => (commitPage x.object x.slot, 256)

/-- Wake event `n` was served between two states (R300, R301, R303): its bit in UMB_WAKE_SRC is set; dark standby wakes; UMBRA_ONLY
raises CORE_PWR_REQ, but not in LOCKOUT; an entry that has not passed the gate point is abandoned. -/
def State.wokenBy (n : Nat) (s t : State) : Prop :=
  bitOf (t.reg Reg.UMB_WAKE_SRC) n = true ∧
    (s.pstate = Ps.DARK → t.pstate = Ps.WAKING) ∧
    (s.pstate = Ps.UMBRA → s.umb.powered = true → s.bit Reg.UMB_STATE Fld.UMB_STATE_LOCKOUT = false → t.umb.coreReq = true) ∧
    (s.pstate = Ps.UMBRA → s.bit Reg.UMB_STATE Fld.UMB_STATE_LOCKOUT = true → t.umb.coreReq = s.umb.coreReq) ∧
    (s.pstate ≠ Ps.DARK → s.pstate ≠ Ps.UMBRA → t.umb.entry = none) ∧
    (s.pstate = Ps.ENTERING → (s.gen.running.isSome = true → t.pstate = Ps.RUN ∧ t.lockState = 1))

/-- A state in which a wake event acts (R300, R303). -/
def State.wakes (s : State) : Bool := s.pstate == Ps.DARK || s.pstate == Ps.UMBRA || s.umb.entry.isSome

/-- A register write whose row is due passes the gates (R7, R9, R10, R13, R303, R304). -/
def State.admits (s : State) (p : Path) (a : Nat) (data : Word) : Bool :=
  s.writeAllowed { path := p, addr := a, data := data, be := 15 }

end Sys2Proof.Machine
end

