-- ==== Sys2Proof/Certificates/Slice0/Obligations.lean ====
section
/-! DEFINITION. The statements about the DN9600 model: what a command writes (results, chapter by chapter, each concluding that
`exec` answers a next state), what it leaves alone (frames), and what every step keeps. -/
open Sys2Proof Sys2Proof.Machine

/-! ### The queue and the canonical form -/

/-- A step takes the command at the front of the queue and is its meaning on the state with the queue's rest, and that step leaves exactly the
queue's rest: no meaning reads or changes the queue (log entry 9). With no command waiting the block idles: the step answers the same state
(the model's choice, log entry 9). -/
def Obligations.StepRunsTheFrontCommand : Prop :=
  (∀ (c : Instr) (rest : List Instr) (s : State), step { s with pending := c :: rest } = exec c { s with pending := rest }) ∧
  (∀ (c : Instr) (rest : List Instr) (s t : State), s.pending = c :: rest → step s = .next t → t.pending = rest) ∧
  (∀ s : State, s.pending = [] → step s = .next s)

/-- The machine right after reset (R298, R350, Tables 3.6, 4.6, 7.14, 9.5, 9.6, 12.10, 20.13): no command waits, the power state is
UMBRA_ONLY, the sparse memories are in their canonical form, and registers hold the reset values the spec's tables give. -/
def Obligations.ResetIsAsSpecified : Prop :=
  State.reset.canonical ∧ State.reset.pending = [] ∧ State.reset.pstate = Ps.UMBRA ∧ State.reset.dram = [] ∧
    State.reset.reg Reg.SCH_TRACE_CTRL = 0x800FF00 ∧ (∀ k, State.reset.reg (Reg.SCH_TRACE_FMASK k) = 0xFFFFFFFF) ∧
    (∀ p, State.reset.reg (Reg.ING_PORT_CFG p) = 8) ∧ State.reset.reg Reg.ING_MGMT_CFG = 0x4BB58 ∧
    (∀ p, p < 4 → State.reset.reg (Reg.CHN_PORT_STAT p) = 0x7F0000) ∧ State.reset.reg Reg.TIM_CTRL = 0x3C144 ∧
    State.reset.reg Reg.TIM_PTP_CFG = 0x67F ∧ (∀ e, State.reset.reg (Reg.EMC_GAIN e) = 0x8000) ∧
    State.reset.reg Reg.LMP_STATE = 0x40 ∧ State.reset.reg Reg.CMD_RING_CFG = 0xD06 ∧ State.reset.reg Reg.MET_CFG = 0xE104

/-- Every step of every command keeps the sparse memories in their canonical form: the register file, DRAM, the boot flash, island SRAM,
the SPI buffers, the calibration staging area and the meter's firmware flash. -/
def Obligations.StepKeepsCanonicalForm : Prop :=
  ∀ s t : State, s.canonical → step s = .next t → t.canonical

/-! ### Schedule (chapter 3) -/

/-- INSTANCE_LOAD (R48, R52): with an image running, no BIST, no activation's load under way and the present run at least ARMED and
reaching WFN F, the instance of F starts: every operation waits with its declared initial dependence count, the words that came early
count, and SCH_INSTANCE names it. ISSUE_SLOT (R49): on an idle facet whose island is not paused, the operation that is first among the ready
ones issues at its slot. DEPENDENCE_DECREMENT (R48): a pending decrement is used up, and a counter above 0 loses 1. -/
def Obligations.InstancesLoadIssueAndCount : Prop :=
  (∀ (wfn : Nat) (s : State) (im : Image), s.gen.running = some im → s.inst? wfn = none → s.dbg.bist = none → s.gen.loadDue = false →
      2 ≤ s.get Reg.FLK_STATE Fld.FLK_STATE_STATE → s.flk.f0 ≤ wfn →
      ∃ t i, exec (.instanceLoad wfn) s = .next t ∧ t.inst? wfn = some i ∧ i.tag = false ∧ i.abandoned = false ∧
        i.ops.map (fun r => r.counter) = im.ops.map (fun o => o.depInit) ∧ (∀ r ∈ i.ops, r.status = .waiting) ∧
        i.delivered = (List.range im.windows.length).map (s.earlyOf wfn) ∧
        t.sch.newest = wfn ∧ t.reg Reg.SCH_INSTANCE = BitVec.ofNat 32 wfn) ∧
  (∀ (wfn op : Nat) (s : State) (im : Image) (o : OpRec) (r : OpRun) (x : Nat × Nat × Nat) (xs : List (Nat × Nat × Nat)),
      s.gen.running = some im → im.ops[op]? = some o → (s.advance (issueAt im wfn o)).opRun? wfn op = some r →
      (s.advance (issueAt im wfn o)).facetBusy im o.facet = false →
      (s.advance (issueAt im wfn o)).paused (o.facet / 4) (issueAt im wfn o) = false →
      (s.advance (issueAt im wfn o)).readyList im o.facet (issueAt im wfn o) = x :: xs → (xs.foldl earlier x).2 = (op, wfn) →
      ∃ t r', exec (.issueSlot wfn op) s = .next t ∧ t.opRun? wfn op = some r' ∧ r'.status = .issued (issueAt im wfn o) ∧
        r'.counter = r.counter) ∧
  (∀ (wfn op t0 : Nat) (s : State) (im : Image) (o : OpRec) (r : OpRun), s.gen.running = some im → im.ops[op]? = some o →
      (s.advance t0).opRun? wfn op = some r → (wfn, op) ∈ s.sch.decrements → 0 < r.counter →
      ∃ t r', exec (.dependenceDecrement wfn op t0) s = .next t ∧ t.opRun? wfn op = some r' ∧ r'.counter = r.counter - 1 ∧
        t.sch.decrements = s.sch.decrements.erase (wfn, op))

/-- OPERATION_COMPLETE (R35, R48, R49, R56): an issued operation whose produced words find room, once those it consumed have left, completes,
and each successor gets one pending decrement, none in an instance shed as a whole. SHED_EXPIRY (R56): a waiting operation is shed, its
successors get their decrements, and SCH_SHED counts it. LATEST_START (R54, R57): an operation whose counter is not 0, or came to 0 in
this nanosecond, breaches with cause DEP; one that is ready on a facet that is occupied or paused breaches with cause BUSY. OPERATION_DEADLINE
(R50, R54): one still issued at the end of its deadline's nanosecond breaches with cause OVERRUN. A breach, once per operation, counts one
more in SCH_BRC_TOTAL and in its cause's counter, but in an instance shed as a whole or where the held state repeats the picture (R56, R358). -/
def Obligations.CompletionsFeedAndBreachesCount : Prop :=
  (∀ (d : OpDone) (s : State) (im : Image) (o : OpRec) (r : OpRun) (i : Instance) (t0 : Nat), s.gen.running = some im →
      im.ops[d.op]? = some o → (s.advance d.t).inst? d.wfn = some i → i.ops[d.op]? = some r → r.status = .issued t0 →
      (d.consumed.foldl (fun (z : State) p => z.setQueue p.1 d.wfn (z.queueOf p.1 d.wfn - p.2)) (s.advance d.t)).roomFor im d.produced = true →
      s.umb.draining = false → s.gen.loadDue = false →
      ∃ t, exec (.operationComplete d) s = .next t ∧ (t.opRun? d.wfn d.op).map (·.status) = some .completed ∧
        t.sch.decrements = s.sch.decrements ++ (if i.abandoned then [] else o.succs.map (fun k => (d.wfn, k)))) ∧
  (∀ (wfn op : Nat) (s : State) (im : Image) (o : OpRec) (r : OpRun), s.gen.running = some im → im.ops[op]? = some o →
      (s.advance (shedAt im wfn o)).opRun? wfn op = some r → r.status = .waiting →
      ∃ t, exec (.shedExpiry wfn op) s = .next t ∧ (t.opRun? wfn op).any (fun x => x.status == .shed && x.tainted) = true ∧
        t.sch.decrements = s.sch.decrements ++ o.succs.map (fun k => (wfn, k)) ∧
        t.reg Reg.SCH_SHED = satAdd (s.reg Reg.SCH_SHED) 1) ∧
  (∀ (wfn op : Nat) (s : State) (im : Image) (o : OpRec) (r : OpRun) (i : Instance), s.gen.running = some im → im.ops[op]? = some o →
      (s.advance (latestStartAt im wfn o)).inst? wfn = some i → i.ops[op]? = some r → i.abandoned = false → r.breached = false →
      s.exempt wfn o = false →
      ((zeroAtStart im wfn o r = true ∨ (r.status = .waiting ∧ r.counter ≠ 0)) →
        ∃ t, exec (.latestStart wfn op) s = .next t ∧ t.reg Reg.SCH_BRC_TOTAL = satAdd (s.reg Reg.SCH_BRC_TOTAL) 1 ∧
          t.reg Reg.SCH_BRC_DEP = satAdd (s.reg Reg.SCH_BRC_DEP) 1 ∧ (t.opRun? wfn op).any (·.breached) = true) ∧
      (zeroAtStart im wfn o r = false → r.status = .waiting → r.counter = 0 →
        (s.advance (latestStartAt im wfn o)).facetBusy im o.facet = true ∨
          (s.advance (latestStartAt im wfn o)).paused (o.facet / 4) (latestStartAt im wfn o) = true →
        ∃ t, exec (.latestStart wfn op) s = .next t ∧ t.reg Reg.SCH_BRC_TOTAL = satAdd (s.reg Reg.SCH_BRC_TOTAL) 1 ∧
          t.reg Reg.SCH_BRC_BUSY = satAdd (s.reg Reg.SCH_BRC_BUSY) 1 ∧ (t.opRun? wfn op).any (·.breached) = true)) ∧
  (∀ (wfn op t0 : Nat) (s : State) (im : Image) (o : OpRec) (r : OpRun) (i : Instance), s.gen.running = some im → im.ops[op]? = some o →
      (s.advance (overrunAt im wfn o)).inst? wfn = some i → i.ops[op]? = some r → i.abandoned = false → r.status = .issued t0 →
      r.breached = false → s.exempt wfn o = false →
      ∃ t, exec (.operationDeadline wfn op) s = .next t ∧ t.reg Reg.SCH_BRC_TOTAL = satAdd (s.reg Reg.SCH_BRC_TOTAL) 1 ∧
        t.reg Reg.SCH_BRC_OVERRUN = satAdd (s.reg Reg.SCH_BRC_OVERRUN) 1 ∧ (t.opRun? wfn op).any (·.breached) = true)

/-- INGRESS_WORD (R52): a word for an instance in progress that its window and its queue have room for is delivered, and written into a
queue a facet reads; a word for an instance still to come is kept for it; a word that its full window or full queue has no room for
is dropped and counted. ARRIVAL_WINDOW_CLOSE (R53): a window closed with fewer than WORDS words counts in SCH_ARR_LATE. SLACK_WINDOW_START
(R58): at the window's start a pause share above 0 pauses the island for its part of the window, and without one the oldest background job
of the island starts a chunk. BACKGROUND_CHUNK_END (R58): a chunk whose job still has work ends, its time counts, and only a chunk that
starts now may follow it. BREACH_COUNTER_CLEAR, PEAK_MARGIN_CLEAR, HISTOGRAM_CLEAR (Table 3.4): SCH_CNT_CLEAR clears its group of registers and
leaves every other register. HIST_SELECT, QUEUE_WATCH_SELECT: the selection is written and what it gathers starts afresh. TRACE_REARM (R65):
the buffer empties. TRACE_FORCE (R65): an untriggered, unfrozen trace triggers. -/
def Obligations.ArrivalsSlackAndStatistics : Prop :=
  (∀ (w : IngressIn) (s : State) (im : Image) (i : Instance) (win : WindowRec) (q : QueueRec), s.gen.running = some im →
      (s.advance w.t).inst? w.wfn = some i → im.windows[w.window]? = some win → im.queues[w.queue]? = some q → q.producer = win.endpoint →
      (w.window < i.delivered.length → i.delivered.getD w.window 0 < win.words → queueWanted im i w.queue = true →
        (s.advance w.t).queueDepth w.queue < q.depth →
        ∃ t, exec (.ingressWord w) s = .next t ∧
          (t.inst? w.wfn).map (fun j => j.delivered.getD w.window 0) = some (i.delivered.getD w.window 0 + 1) ∧
          (keepsWords im w.queue = true → t.queueOf w.queue w.wfn = (s.advance w.t).queueOf w.queue w.wfn + 1) ∧
          t.reg Reg.SCH_ARR_DROP = s.reg Reg.SCH_ARR_DROP) ∧
      (win.words ≤ i.delivered.getD w.window 0 ∨ q.depth ≤ (s.advance w.t).queueDepth w.queue →
        ∃ t, exec (.ingressWord w) s = .next t ∧ t.sch.queueWords = (s.advance w.t).sch.queueWords ∧
          t.reg Reg.SCH_ARR_DROP = satAdd (s.reg Reg.SCH_ARR_DROP) 1)) ∧
  (∀ (w : IngressIn) (s : State) (im : Image) (win : WindowRec) (q : QueueRec), s.gen.running = some im →
      s.inst? w.wfn = none → im.windows[w.window]? = some win → im.queues[w.queue]? = some q → q.producer = win.endpoint →
      w.t < refAt im w.wfn → s.flk.f0 ≤ w.wfn → 2 ≤ s.get Reg.FLK_STATE Fld.FLK_STATE_STATE → s.earlyOf w.wfn w.window < win.words →
      (s.advance w.t).queueDepth w.queue < q.depth →
      ∃ t, exec (.ingressWord w) s = .next t ∧ t.earlyOf w.wfn w.window = s.earlyOf w.wfn w.window + 1 ∧
        t.reg Reg.SCH_ARR_DROP = s.reg Reg.SCH_ARR_DROP) ∧
  (∀ (wfn window : Nat) (s : State) (im : Image) (i : Instance) (w : WindowRec), s.gen.running = some im →
      s.inst? wfn = some i → im.windows[window]? = some w → i.delivered.getD window 0 < w.words →
      ∃ t, exec (.arrivalWindowClose wfn window) s = .next t ∧ t.reg Reg.SCH_ARR_LATE = satAdd (s.reg Reg.SCH_ARR_LATE) 1) ∧
  (∀ (island window t0 : Nat) (s : State) (im : Image) (w : Nat × Nat), s.gen.running = some im →
      (slackOf im island).windows[window]? = some w → t0 ∈ windowStarts im.timeline w t0 → s.slackTaken = true →
      (0 < w.2 * s.pauseFrac / 256 →
        ∃ t, exec (.slackWindowStart island window t0) s = .next t ∧
          t.sch.pauses = (s.advance t0).sch.pauses ++ [{ island := island, starts := t0, ends := t0 + w.2 * s.pauseFrac / 256 * nsT,
                                                         windowEnds := t0 + w.2 * nsT }]) ∧
      (∀ j, w.2 * s.pauseFrac / 256 = 0 → (s.advance t0).nextJob island = some j → 0 < chunkNs j t0 (t0 + w.2 * nsT) →
        (∀ c ∈ (s.advance t0).sch.chunks, c.island ≠ island) →
        ∃ t, exec (.slackWindowStart island window t0) s = .next t ∧
          t.sch.chunks = (s.advance t0).sch.chunks ++
            [{ island := island, starts := t0, ends := t0 + chunkNs j t0 (t0 + w.2 * nsT) * nsT, windowEnds := t0 + w.2 * nsT,
               token := j.token, kind := j.kind }])) ∧
  (∀ (island t0 : Nat) (s : State) (c : BgChunk), s.sch.chunks.find? (fun x => x.island == island) = some c → c.ends ≤ t0 →
      (∀ j ∈ s.sch.jobs, j.token = c.token → ∀ l, j.left = some l → (c.ends - c.starts) / nsT < l) →
      ∃ t, exec (.backgroundChunkEnd island t0) s = .next t ∧ (∀ x ∈ t.sch.chunks, x.island = island → x.starts = t0) ∧
        tabGet t.sch.bgAcc island = tabGet s.sch.bgAcc island + (c.ends - Nat.max c.starts s.sch.frameAt) / nsT) ∧
  (∀ (p : Path) (s : State), s.admits p Reg.SCH_CNT_CLEAR 1 = true →
      ∃ t, exec (.breachCounterClear p) s = .next t ∧
        (∀ a, t.reg a = if schCounter a then resetValue a else s.reg a) ∧ t.reg Reg.SCH_BRC_TOTAL = 0) ∧
  (∀ (p : Path) (s : State), s.admits p Reg.SCH_CNT_CLEAR 2 = true →
      ∃ t, exec (.peakMarginClear p) s = .next t ∧ t.sch.marginSeen = [] ∧
        (∀ f, f < 128 → t.reg (Reg.SCH_FCT_MARGIN f) = 0 ∧ fieldOf (t.reg (Reg.SCH_FCT_LOAD f)) 16 16 = 0 ∧
          fieldOf (t.reg (Reg.SCH_FCT_LOAD f)) 0 16 = fieldOf (s.reg (Reg.SCH_FCT_LOAD f)) 0 16)) ∧
  (∀ (p : Path) (s : State), s.admits p Reg.SCH_CNT_CLEAR 4 = true →
      ∃ t, exec (.histogramClear p) s = .next t ∧ (∀ a, t.reg a = if schHist a then resetValue a else s.reg a) ∧
        ∀ k, k < 8 → t.reg (Reg.SCH_HIST k) = 0) ∧
  (∀ (p : Path) (data : Word) (s : State), s.admits p Reg.SCH_HIST_SEL data = true →
      ∃ t, exec (.histSelect p data) s = .next t ∧ t.reg Reg.SCH_HIST_SEL = data &&& 0x7F#32 ∧
        ∀ k, k < 8 → t.reg (Reg.SCH_HIST k) = 0) ∧
  (∀ (p : Path) (data : Word) (s : State), s.admits p Reg.SCH_QW_SEL data = true → data.toNat ≤ 32767 →
      ∃ t, exec (.queueWatchSelect p data) s = .next t ∧ t.reg Reg.SCH_QW_SEL = data ∧ t.reg Reg.SCH_QW_FULLWAIT = 0) ∧
  (∀ (p : Path) (data : Word) (s : State), s.admits p Reg.SCH_TRACE_CTRL data = true → bitOf data 2 = true → bitOf data 3 = false →
      ∃ t, exec (.traceRearm p data) s = .next t ∧ t.sch.trace = [] ∧ t.reg Reg.SCH_TRACE_PTR = 0 ∧
        t.bit Reg.SCH_TRACE_CTRL Fld.SCH_TRACE_CTRL_FROZEN = false) ∧
  (∀ (p : Path) (data : Word) (s : State), s.admits p Reg.SCH_TRACE_CTRL data = true → bitOf data 2 = false → bitOf data 3 = true →
      s.triggered = false → s.bit Reg.SCH_TRACE_CTRL Fld.SCH_TRACE_CTRL_FROZEN = false →
      ∃ t, exec (.traceForce p data) s = .next t ∧ t.triggered = true)


/-! ### Ingest (chapter 4) -/

/-- PORT_MODE_CHANGE (R67): a new MODE or MEDIUM of a port no enabled stream names is stored and takes its links down; MODE 3, and a change
while an enabled stream names the port, are ignored. SUB_PORT_LINK_CHANGE (Table 4.5, R67): the sub-port's link bit follows, and its auto-negotiation
and FEC bits where the port runs them. STREAM_ENABLE and STREAM_DISABLE (R70, R76): an enable that Table 4.7 does not refuse sets ENABLE
with a full bucket, a refused one sets ERR, one of an enabled stream changes no register; a disable clears ENABLE and forgets the stream but
for its latest picture and the verdicts due; at the mirror all are ignored (R76). ING_CNT_CLEAR clears the block's counters alone.
The agreement of the pair on packets (R74, R75, Table 16.1), once it has begun. DIGEST: a digest of an unsettled packet is kept, one of a settled
packet changes no register. VERDICT at the follower, none waiting before it: its own copy that matches is settled, one that differs is dropped,
counted in ING_LS_MISMATCH and requested, one it does not hold is requested once; a packet the leader lacks is settled absent and counts in
ING_LS_MISSING; behind a verdict whose packet has not come it waits. PACKET: a forwarded packet this sender lacked is held; the leader issues its verdict
when it is the next. REQUEST and FORWARD_UNASKED: a held or kept packet the 108 Gbit/s share carries within 8 µs goes over the link and counts
in ING_LS_FWD, one it cannot carry is not queued, and a requested one that the leader has settled is settled MISSING at both (R75; log entry
104). REQUEST_REPEAT: after 4 µs the request is sent again. MISSING: the leader settles absent a gap older than 8 µs;
a sender without the pair's agreement holds no packet longer than 4 µs for one that is absent (log entry 96). -/
def Obligations.StreamsAndPairTakePackets : Prop :=
  (∀ (p : Path) (port : Nat) (data : Word) (s : State), s.admits p (Reg.ING_PORT_CFG port) data = true → port < 4 →
      fieldOf data 0 2 ≠ 3 → s.portUsed port = false → fieldOf data 0 3 ≠ fieldOf (s.reg (Reg.ING_PORT_CFG port)) 0 3 →
      ∃ t, exec (.portModeChange p port data) s = .next t ∧ t.reg (Reg.ING_PORT_STAT port) = 0 ∧ t.portMode port = fieldOf data 0 2) ∧
  (∀ (p : Path) (port : Nat) (data : Word) (s : State), port < 4 →
      fieldOf data 0 2 = 3 ∨ (fieldOf data 0 3 ≠ fieldOf (s.reg (Reg.ING_PORT_CFG port)) 0 3 ∧ s.portUsed port = true) →
      ∃ t, exec (.portModeChange p port data) s = .next t ∧ t.regs = s.regs) ∧
  (∀ (port sub : Nat) (up anDone fecLock : Bool) (s : State), s.portHas port sub = true →
      ∃ t, exec (.subPortLinkChange port sub up anDone fecLock) s = .next t ∧
        bitOf (t.reg (Reg.ING_PORT_STAT port)) sub = up ∧
        bitOf (t.reg (Reg.ING_PORT_STAT port)) (4 + sub) = (anDone && s.portNegotiates port) ∧
        bitOf (t.reg (Reg.ING_PORT_STAT port)) (8 + sub) = (fecLock && s.portFec port) ∧
        (∀ n, n < 32 → n ≠ sub → n ≠ 4 + sub → n ≠ 8 + sub →
          bitOf (t.reg (Reg.ING_PORT_STAT port)) n = bitOf (s.reg (Reg.ING_PORT_STAT port)) n)) ∧
  (∀ (p : Path) (stream : Nat) (data : Word) (s : State), s.admits p (Reg.ING_STR_CTRL stream) data = true → stream < 16 →
      bitOf data 0 = true → s.streamOn stream = false → s.follows = false → s.enableRefused stream data = false →
      ∃ t, exec (.streamEnable p stream data) s = .next t ∧ t.streamOn stream = true ∧
        t.bit (Reg.ING_STR_CTRL stream) Fld.ING_STR_CTRL_ERR = false ∧ (t.stream stream).tokens = t.bucketDepth stream) ∧
  (∀ (p : Path) (stream : Nat) (data : Word) (s : State), s.admits p (Reg.ING_STR_CTRL stream) data = true → stream < 16 →
      bitOf data 0 = true → s.streamOn stream = false → s.follows = false → s.enableRefused stream data = true →
      ∃ t, exec (.streamEnable p stream data) s = .next t ∧ t.streamOn stream = false ∧
        t.bit (Reg.ING_STR_CTRL stream) Fld.ING_STR_CTRL_ERR = true) ∧
  (∀ (p : Path) (stream : Nat) (data : Word) (s : State), stream < 16 → s.streamOn stream = true ∨ s.follows = true →
      bitOf data 0 = true → ∃ t, exec (.streamEnable p stream data) s = .next t ∧ t.regs = s.regs) ∧
  (∀ (p : Path) (stream : Nat) (data : Word) (s : State), s.admits p (Reg.ING_STR_CTRL stream) data = true → stream < 16 →
      bitOf data 0 = false → s.streamOn stream = true → s.follows = false →
      ∃ t, exec (.streamDisable p stream data) s = .next t ∧ t.streamOn stream = false ∧
        t.stream stream = { freshStream stream with latest := (s.stream stream).latest, verdicts := (s.stream stream).verdicts } ∧
        t.chState stream = 0) ∧
  (∀ (p : Path) (stream : Nat) (data : Word) (s : State), stream < 16 → s.follows = true → bitOf data 0 = false →
      ∃ t, exec (.streamDisable p stream data) s = .next t ∧ t.regs = s.regs) ∧
  (∀ (p : Path) (s : State), s.admits p Reg.ING_CNT_CLEAR 1 = true →
      ∃ t, exec (.ingCntClear p) s = .next t ∧ (∀ a, t.reg a = if ingCounter a then resetValue a else s.reg a)) ∧
(∀ (d : DigestRec) (s : State), s.agreed = true → s.streamOn d.stream = true →
      ∃ t, exec (.digest d) s = .next t ∧ t.regs = s.regs ∧
        (t.stream d.stream).digests = if settledSeq (s.stream d.stream) d.seq then (s.stream d.stream).digests
          else (s.stream d.stream).digests ++ [(d.seq, d.crc)]) ∧
  (∀ (v : VerdictRec) (s : State), v.stream < 16 → s.follows = true → s.streamOn v.stream = true → (s.stream v.stream).verdicts = [] →
      (v.hasCopy = false →
        ∃ t, exec (.verdict v) s = .next t ∧ (t.stream v.stream).nextSeq = some (seqNext v.seq) ∧
          (t.stream v.stream).verdicts = [] ∧ t.reg Reg.ING_LS_MISSING = satAdd (s.reg Reg.ING_LS_MISSING) 1) ∧
      (v.hasCopy = true → (s.stream v.stream).held.find? (fun h => h.seq == v.seq) = none →
        ∃ t, exec (.verdict v) s = .next t ∧ (t.stream v.stream).verdicts = [.verdict v.seq true v.crc] ∧ t.regs = s.regs ∧
          t.out = (if (s.stream v.stream).asked.any (fun a => a.1 == v.seq) then s.out else .link (.request v.stream v.seq) :: s.out)) ∧
      (∀ p, v.hasCopy = true → (s.stream v.stream).held.find? (fun h => h.seq == v.seq) = some p →
        (crc32c p.payload = v.crc →
          ∃ t, exec (.verdict v) s = .next t ∧ (t.stream v.stream).verdicts = [] ∧ p ∈ (t.stream v.stream).kept ∧
            (t.stream v.stream).nextSeq = some (seqNext v.seq)) ∧
        (crc32c p.payload ≠ v.crc →
          ∃ t, exec (.verdict v) s = .next t ∧ t.reg Reg.ING_LS_MISMATCH = satAdd (s.reg Reg.ING_LS_MISMATCH) 1 ∧
            t.out = .link (.request v.stream v.seq) :: s.out ∧
            (t.stream v.stream).held = (s.stream v.stream).held.filter (fun h => h.seq != v.seq)))) ∧
  (∀ (v : VerdictRec) (s : State) (q c : Nat) (rest : List Settle), v.stream < 16 → s.follows = true → s.streamOn v.stream = true →
      (s.stream v.stream).verdicts = .verdict q true c :: rest → (s.stream v.stream).held.find? (fun h => h.seq == q) = none →
      ¬(v.seq = q ∧ v.hasCopy = false) →
      ∃ t, exec (.verdict v) s = .next t ∧ t.regs = s.regs ∧
        (t.stream v.stream).verdicts = addVerdict v.seq v.hasCopy v.crc (s.stream v.stream).verdicts) ∧
  (∀ (v : VerdictRec) (s : State) (c : Nat), v.stream < 16 → s.follows = true → s.streamOn v.stream = true → v.hasCopy = false →
      (s.stream v.stream).verdicts = [.verdict v.seq true c] →
      ∃ t, exec (.verdict v) s = .next t ∧ (t.stream v.stream).nextSeq = some (seqNext v.seq) ∧ (t.stream v.stream).verdicts = [] ∧
        t.reg Reg.ING_LS_MISSING = satAdd (s.reg Reg.ING_LS_MISSING) 1) ∧
  (∀ (r : PacketRec) (s : State), r.stream < 16 → s.agreed = true → s.streamOn r.stream = true → settledSeq (s.stream r.stream) r.seq = false →
      (s.stream r.stream).held.any (fun h => h.seq == r.seq) = false →
      (s.follows = true → (s.stream r.stream).verdicts = [] →
        ∃ t, exec (.packet r) s = .next t ∧ t.regs = s.regs ∧
          (t.stream r.stream).held = (s.stream r.stream).held ++
            [{ seq := r.seq, stamp := r.t, payload := r.payload, port := 4, answered := true }]) ∧
      (∀ rest, s.follows = true → (s.stream r.stream).verdicts = .verdict r.seq true (crc32c r.payload) :: rest →
        ∃ t, exec (.packet r) s = .next t ∧
          { seq := r.seq, stamp := r.t, payload := r.payload, port := 4, answered := true : HeldPacket } ∈ (t.stream r.stream).kept) ∧
      (s.leads = true → (s.stream r.stream).nextSeq.getD r.seq = r.seq →
        ∃ t, exec (.packet r) s = .next t ∧ .link (.verdict r.stream r.seq true (crc32c r.payload)) ∈ t.out)) ∧
  (∀ (stream seq t0 : Nat) (s : State) (p : HeldPacket), ((s.stream stream).held ++ (s.stream stream).kept).find? (fun h => h.seq == seq) =
        some p → s.agreed = true →
      (s.shareDone ((p.payload.length + 16) * 8) t0 ≤ t0 + 8 * usT →
        ∃ t, exec (.request stream seq t0) s = .next t ∧ t.reg Reg.ING_LS_FWD = satAdd (s.reg Reg.ING_LS_FWD) 1 ∧
          t.ing.fwdUntil = s.shareDone ((p.payload.length + 16) * 8) t0 ∧ t.out = .link (.packet stream p.seq p.payload) :: s.out) ∧
      (t0 + 8 * usT < s.shareDone ((p.payload.length + 16) * 8) t0 →
        (s.leads = false ∨ (s.stream stream).kept.contains p = false → exec (.request stream seq t0) s = .next (s.tick t0)) ∧
        (stream < 16 → s.leads = true → (s.stream stream).kept.contains p = true →
          ∃ t, exec (.request stream seq t0) s = .next t ∧ t.out = .link (.verdict stream p.seq false 0) :: s.out ∧
            t.reg Reg.ING_LS_MISSING = satAdd (s.reg Reg.ING_LS_MISSING) 1 ∧ (t.stream stream).nextSeq = (s.stream stream).nextSeq ∧
            (∀ f, (s.stream stream).fill = some f → f.rtp = rtpTime p.payload →
              (t.stream stream).fill.map (fun g => g.present) = some (f.present - 1))))) ∧
  (∀ (stream seq t0 : Nat) (a : Nat × Nat) (s : State), s.agreed = true →
      (s.stream stream).asked.find? (fun x => x.1 == seq) = some a → a.2 + 4 * usT ≤ t0 →
      ∃ t, exec (.requestRepeat stream seq t0) s = .next t ∧ t.out = .link (.request stream seq) :: s.out ∧ t.regs = s.regs ∧
        (t.stream stream).asked = (s.stream stream).asked.map (fun b => if b.1 = seq then (seq, t0) else b)) ∧
  (∀ (stream seq t0 : Nat) (s : State) (p : HeldPacket), ((s.stream stream).held ++ (s.stream stream).kept).find?
        (fun h => h.seq == seq && h.port != 4) = some p → p.answered = false → p.stamp + 2 * usT ≤ t0 → s.agreed = true →
      s.shareDone ((p.payload.length + 16) * 8) t0 ≤ t0 + 8 * usT →
      ∃ t, exec (.forwardUnasked stream seq t0) s = .next t ∧ t.reg Reg.ING_LS_FWD = satAdd (s.reg Reg.ING_LS_FWD) 1 ∧
        t.out = .link (.packet stream p.seq p.payload) :: s.out) ∧
  (∀ (stream t0 q : Nat) (s : State), stream < 16 → s.leads = true → (s.stream stream).nextSeq = some q →
      (s.stream stream).held.any (fun h => h.seq == q) = false →
      (s.stream stream).learned.any (fun p => seqBefore q p.1 && decide (p.2 + 8 * usT ≤ t0)) = true →
      ∃ t, exec (.missing stream t0) s = .next t ∧ t.reg Reg.ING_LS_MISSING = satAdd (s.reg Reg.ING_LS_MISSING) 1 ∧
        .link (.verdict stream q false 0) ∈ t.out ∧
        ((s.stream stream).held = [] → (t.stream stream).nextSeq = some (seqNext q))) ∧
  (∀ (stream t0 : Nat) (s : State), s.agreed = false →
      ∃ t, exec (.missing stream t0) s = .next t ∧ ∀ h ∈ (t.stream stream).held, t0 < h.stamp + 4 * usT)

/-- ETHERNET_FRAME_RX (R68, R69, R71, R72, R74, R169, Table 4.2), at a sub-port a sender has: the tests run in order. A bad FCS counts in
ING_DROP 0; an address that is not this port's in ING_DROP 1; a control frame its 64 KiB buffer has no room for in ING_DROP 2, one too long
or with a bad UDP checksum in ING_DROP 4 (log entry 98), a PTP message of an excluded option in TIM_PTP_DISCARD at a PTP port, and any other that its endpoint
takes is kept for it; a frame of no stream in ING_DROP 3; a stream packet excluded by its form in ING_DROP 4, above its rate in ING_DROP 5, beyond its share of
the port's buffer in ING_DROP 6, already settled or held in ING_DROP 7. A packet that passes is digested to the other sender while the pair
agrees, the leader's verdict on the next one goes out at once; an unpaired sender settles the next packet at once, and one that opens a coded
picture with room counts in ING_STR_RX. -/
def Obligations.FramesPassTheIngressTests : Prop :=
  ∀ (f : EthFrame) (s : State), s.isSender = true → s.portHas f.port f.sub = true →
    (f.fcsOk = false → ∃ t, exec (.ethernetFrameRx f) s = .next t ∧ t = (s.tick f.t).bump (Reg.ING_DROP 0) 1) ∧
    (f.fcsOk = true → s.addressOk f.port f.sub (viewFrame f.bytes) = false →
      ∃ t, exec (.ethernetFrameRx f) s = .next t ∧ t = (s.tick f.t).bump (Reg.ING_DROP 1) 1) ∧
    (f.fcsOk = true → s.addressOk f.port f.sub (viewFrame f.bytes) = true → s.controlFrame (viewFrame f.bytes) = true →
      (65536 < ((s.ing.ctrl.filter (fun c => c.1 == f.port)).map (·.2)).sum + f.bytes.length →
        ∃ t, exec (.ethernetFrameRx f) s = .next t ∧ t = (s.tick f.t).bump (Reg.ING_DROP 2) 1) ∧
      (((s.ing.ctrl.filter (fun c => c.1 == f.port)).map (·.2)).sum + f.bytes.length ≤ 65536 →
        (oversize f = true ∨ ((viewFrame f.bytes).kind = 2 ∧ (viewFrame f.bytes).proto = 17 ∧ (viewFrame f.bytes).sumOk = false) →
          ∃ t, exec (.ethernetFrameRx f) s = .next t ∧ t = (s.tick f.t).bump (Reg.ING_DROP 4) 1) ∧
        (oversize f = false → (viewFrame f.bytes).sumOk = true ∨ (viewFrame f.bytes).proto ≠ 17 ∨ (viewFrame f.bytes).kind ≠ 2 →
          (ptpFrame (viewFrame f.bytes) = true → ptpExcludedType (viewFrame f.bytes) = true →
            bitOf (s.reg Reg.TIM_PTP_CFG) (16 + 4 * f.port + f.sub) = true →
            ∃ t, exec (.ethernetFrameRx f) s = .next t ∧ t = (s.tick f.t).bump Reg.TIM_PTP_DISCARD 1) ∧
          ((ptpFrame (viewFrame f.bytes) = true → ptpTaken (viewFrame f.bytes) = true) →
            ∃ t, exec (.ethernetFrameRx f) s = .next t ∧ t.ing.ctrl = s.ing.ctrl ++ [(f.port, f.bytes.length)] ∧ t.regs = s.regs)))) ∧
    (f.fcsOk = true → s.addressOk f.port f.sub (viewFrame f.bytes) = true → s.controlFrame (viewFrame f.bytes) = false →
      ((List.range 16).find? (s.matchesStream f.port f.sub (viewFrame f.bytes)) = none →
        ∃ t, exec (.ethernetFrameRx f) s = .next t ∧ t = (s.tick f.t).bump (Reg.ING_DROP 3) 1) ∧
      (∀ str, (List.range 16).find? (s.matchesStream f.port f.sub (viewFrame f.bytes)) = some str →
        (oversize f = true ∨ s.formatBad str (viewFrame f.bytes) = true →
          ∃ t, exec (.ethernetFrameRx f) s = .next t ∧ t = (s.tick f.t).bump (Reg.ING_DROP 4) 1) ∧
        (oversize f = false → s.formatBad str (viewFrame f.bytes) = false →
          (s.bucketAt str f.t < (viewFrame f.bytes).udp.length * 8 * 20000 * 65536 →
            ∃ t, exec (.ethernetFrameRx f) s = .next t ∧ t.reg (Reg.ING_DROP 5) = satAdd (s.reg (Reg.ING_DROP 5)) 1 ∧
              t.stream str = { s.stream str with tokens := s.bucketAt str f.t, tokensAt := f.t }) ∧
          ((viewFrame f.bytes).udp.length * 8 * 20000 * 65536 ≤ s.bucketAt str f.t →
            (2097152 / s.streamsOnPort f.port < heldBytes (s.stream str) f.port + (viewFrame f.bytes).udp.length →
              ∃ t, exec (.ethernetFrameRx f) s = .next t ∧ t.reg (Reg.ING_DROP 6) = satAdd (s.reg (Reg.ING_DROP 6)) 1 ∧
                (t.stream str).held = (s.stream str).held) ∧
            (heldBytes (s.stream str) f.port + (viewFrame f.bytes).udp.length ≤ 2097152 / s.streamsOnPort f.port →
              ∀ q, q = extendedSeq (s.stream str) (s.streamFormat str) (viewFrame f.bytes).udp →
              (settledSeq (s.stream str) q = true ∨ (s.stream str).held.any (fun h => h.seq == q) = true →
                ∃ t, exec (.ethernetFrameRx f) s = .next t ∧ t.reg (Reg.ING_DROP 7) = satAdd (s.reg (Reg.ING_DROP 7)) 1 ∧
                  (t.stream str).held = (s.stream str).held) ∧
              (settledSeq (s.stream str) q = false → (s.stream str).held.any (fun h => h.seq == q) = false →
                (s.agreed = true →
                  ∃ t, exec (.ethernetFrameRx f) s = .next t ∧
                    .link (.digest str q (crc32c (viewFrame f.bytes).udp) (f.t / nsT % 2 ^ 48)) ∈ t.out ∧
                    (s.leads = true → (s.stream str).nextSeq.getD q = q →
                      .link (.verdict str q true (crc32c (viewFrame f.bytes).udp)) ∈ t.out)) ∧
                (s.agreed = false → (s.stream str).nextSeq.getD q = q →
                  ∃ t, exec (.ethernetFrameRx f) s = .next t ∧
                    { seq := q, stamp := f.t, payload := (viewFrame f.bytes).udp, port := f.port,
                      answered := (s.stream str).digests.any (fun d => d.1 == q) : HeldPacket } ∈ (t.stream str).kept ∧
                    (∀ h ∈ (t.stream str).held, h.seq ≠ q) ∧
                    ((s.stream str).held = [] → (s.stream str).fill = none → s.streamFormat str ≠ 0 →
                      s.codedBytes str + (rtpPayload (viewFrame f.bytes).udp).length ≤ 33554432 →
                      t.reg (Reg.ING_STR_RX str) = satAdd (s.reg (Reg.ING_STR_RX str)) 1))))))))

/-- BAR2_ACCESS (R78, R108, R111): a write through an enabled, writable window into a surface that is not retiring lands in device DRAM at the
surface's base plus the offset, and at the leader goes to the other sender; a read answers from there; an access outside the window counts in
ING_WIN_OOR, a read of it answering zeros; a write into a RETIRING surface counts in ING_WIN_RETIRED, one at the mirror in
CMP_MIRROR_DROP, and none changes DRAM. MGMT_OPEN (R79): an OPEN whose signature verifies opens one session below MAX_SESSIONS and is answered BUSY from there
on; one that fails opens none and counts. MGMT_REQUEST: a valid read of a GEN register is answered with its value, a valid write acts as a register
write on the path and is answered, a valid command runs in the session's mailbox; MGMT_REQUEST and MGMT_CLOSE that are not valid
count in ING_MGMT_AUTHFAIL. MGMT_CLOSE, SESSION_TIMEOUT: the session is gone. ARP_REQUEST, ICMP_ECHO: answered for the management address. PCIE_RESET (R77, R354):
the endpoint's state is that of reset, the PCIe mailbox is abandoned and no register changes. -/
def Obligations.HostAndManagementPaths : Prop :=
  (∀ (a : Bar2) (s : State) (v : Surface), s.isSender = true → s.follows = false → a.write = true →
      s.surface? (fieldOf (s.reg (Reg.ING_WIN a.window)) 0 16) = some v → bitOf (s.reg (Reg.ING_WIN a.window)) 17 = true →
      bitOf (s.reg (Reg.ING_WIN a.window)) 16 = true → a.offset + a.data.length ≤ v.size → v.retiring = false →
      ∃ t, exec (.bar2Access a) s = .next t ∧ (∀ r, r ≠ Reg.ING_LS_STAT → t.reg r = s.reg r) ∧
        t.out = (if s.leads then .link (.config (.memory (v.base + a.offset) a.data)) :: s.out else s.out) ∧
        (∀ x, t.dramRead x 1 = if v.base + a.offset ≤ x ∧ x < v.base + a.offset + a.data.length
          then [a.data.getD (x - (v.base + a.offset)) 0] else s.dramRead x 1)) ∧
  (∀ (a : Bar2) (s : State) (v : Surface), s.isSender = true → a.write = false →
      s.surface? (fieldOf (s.reg (Reg.ING_WIN a.window)) 0 16) = some v → bitOf (s.reg (Reg.ING_WIN a.window)) 17 = true →
      a.offset + a.len ≤ v.size →
      ∃ t, exec (.bar2Access a) s = .next t ∧ t.out = .readData (s.dramRead (v.base + a.offset) a.len) :: s.out ∧ t.dram = s.dram) ∧
  (∀ (a : Bar2) (s : State), s.isSender = true → (a.write = true → s.follows = false) →
      (∀ v, s.surface? (fieldOf (s.reg (Reg.ING_WIN a.window)) 0 16) = some v → bitOf (s.reg (Reg.ING_WIN a.window)) 17 = false ∨
        v.size < a.offset + (if a.write then a.data.length else a.len) ∨
        (a.write = true ∧ bitOf (s.reg (Reg.ING_WIN a.window)) 16 = false)) →
      ∃ t, exec (.bar2Access a) s = .next t ∧ t.reg Reg.ING_WIN_OOR = satAdd (s.reg Reg.ING_WIN_OOR) 1 ∧ t.dram = s.dram ∧
        t.out = if a.write then s.out else .readData (zeroBytes a.len) :: s.out) ∧
  (∀ (a : Bar2) (s : State) (v : Surface), s.isSender = true → a.write = true →
      (s.follows = true → ∃ t, exec (.bar2Access a) s = .next t ∧ t = (s.tick a.t).bump Reg.CMP_MIRROR_DROP 1) ∧
      (s.follows = false → s.surface? (fieldOf (s.reg (Reg.ING_WIN a.window)) 0 16) = some v → bitOf (s.reg (Reg.ING_WIN a.window)) 17 = true →
        bitOf (s.reg (Reg.ING_WIN a.window)) 16 = true → a.offset + a.data.length ≤ v.size → v.retiring = true →
        ∃ t, exec (.bar2Access a) s = .next t ∧ t = (s.tick a.t).bump Reg.ING_WIN_RETIRED 1)) ∧
  (∀ (o : MgmtOpen) (s : State), s.mgmtOpen o.port o.sub = true →
      ∃ t, exec (.mgmtOpen o) s = .next t ∧
        if (s.keyFor Us.MGMT o.key).any (fun k =>
            Config.ed448phVerify k (asciiBytes "DN9600-MG") (o.share ++ o.nonce ++ o.fields) o.signature) = true then
          t.regs = s.regs ∧
            if s.ing.sessions.length < s.get Reg.ING_MGMT_CFG ⟨16, 3⟩ then
              ∃ x, t.ing.sessions = s.ing.sessions ++ [x] ∧ x.lastSeq = 0 ∧ x.lastAt = o.t ∧ x.id = s.freeSession
            else t.ing.sessions = s.ing.sessions ∧ t.out = .mgmtBusy :: s.out
        else t.ing.sessions = s.ing.sessions ∧ t.reg Reg.TRU_SIG_FAIL = satAdd (s.reg Reg.TRU_SIG_FAIL) 1) ∧
  (∀ (r : MgmtReq) (s : State) (x : Session), s.mgmtOpen r.port r.sub = true → s.validSession r = some x →
      (∀ a, r.body = .read a → a / 65536 = 0 → named a = true → s.blockAnswers a = true →
        ∃ t tag, exec (.mgmtRequest r) s = .next t ∧ t.regs = s.regs ∧
          t.out = .mgmt r.session (x.sendSeq + 1) tag (leBytes 4 (s.reg a).toNat) :: s.out) ∧
      (∀ a d be, r.body = .write a d be →
        ∃ t, exec (.mgmtRequest r) s = .next t ∧
          t = ((((s.tick r.t).takeControl r.port).noteRequest r).regWrite
            { path := .mgmt r.session, addr := a, data := d, be := be }).mgmtSend r.session []) ∧
      (∀ op len tag reserved body, r.body = .command op len tag reserved body →
        ∃ t, exec (.mgmtRequest r) s = .next t ∧
          t = ((((s.tick r.t).takeControl r.port).noteRequest r).runOpcode op
            { path := .mgmt r.session, len := len, tag := tag, reserved := reserved, body := body, t := r.t }).afterAnswer)) ∧
  (∀ (r : MgmtReq) (s : State), s.mgmtOpen r.port r.sub = true → s.validSession r = none →
      (∃ t, exec (.mgmtRequest r) s = .next t ∧ t.reg Reg.ING_MGMT_AUTHFAIL = satAdd (s.reg Reg.ING_MGMT_AUTHFAIL) 1 ∧ t.out = s.out) ∧
      (∃ t, exec (.mgmtClose r) s = .next t ∧ t.reg Reg.ING_MGMT_AUTHFAIL = satAdd (s.reg Reg.ING_MGMT_AUTHFAIL) 1 ∧
        t.ing.sessions = s.ing.sessions)) ∧
  (∀ (r : MgmtReq) (s : State) (x : Session), s.mgmtOpen r.port r.sub = true → s.validSession r = some x →
      ∃ t, exec (.mgmtClose r) s = .next t ∧ t.ing.sessions = s.ing.sessions.filter (fun y => y.id != r.session) ∧ t.regs = s.regs) ∧
  (∀ (session t0 : Nat) (s : State), s.ing.sessions.any (fun x => x.id == session && decide (x.lastAt + 600 * secT ≤ t0)) = true →
      ∃ t, exec (.sessionTimeout session t0) s = .next t ∧
        t.ing.sessions = s.ing.sessions.filter (fun y => y.id != session) ∧ t.regs = s.regs) ∧
  (∀ (port sub target t0 : Nat) (s : State), s.mgmtAt port sub = true → target = s.mgmtIp →
      ∃ t, exec (.arpRequest port sub target t0) s = .next t ∧ t.out = .arpReply port sub :: s.out ∧ t.regs = s.regs) ∧
  (∀ (port sub target : Nat) (data : List Byte) (t0 : Nat) (s : State), s.mgmtAt port sub = true → target = s.mgmtIp →
      ∃ t, exec (.icmpEcho port sub target data t0) s = .next t ∧ t.out = .icmpReply port sub data :: s.out ∧ t.regs = s.regs) ∧
  (∀ (t0 : Nat) (s : State), ∃ t, exec (.pcieReset t0) s = .next t ∧ t.regs = s.regs ∧ t.gen = s.gen ∧ t.cmd.waitingRsp = [] ∧
      t.ing.pcie = PcieSt.reset ∧ (∀ o ∈ t.cmd.longOps, o.owner ≠ some .pcie))

/-! ### Codec (chapter 5) -/

/-- DECODE_START (R84): a decoder that runs no LIVE picture begins the ready LIVE picture of earliest deadline, and a RECORDED picture in progress
is suspended for it; with no LIVE picture ready and nothing running it resumes the suspended one, else begins a RECORDED picture.
PICTURE_DECODE_COMPLETE (R80, R81, R83, R85 to R92): the picture leaves its decoder; coded data beyond Tables 5.1 and 5.2 or larger than
CDC_CH_DIM are discarded and count in CDC_CH_SKIPPED, and so is every picture before an IRAP picture where one is waited for; any other counts in
CDC_CH_DECODED; an unpaired sender promotes a JPEG XS picture without an absent packet to the stream's latest picture when the ring surface
holds it. PROMOTE (R89): the follower keeps the announced opening; the leader that has written its own picture announces the later of the
two openings, and otherwise keeps the other's. -/
def Obligations.DecodersServeChannels : Prop :=
  (∀ (decoder t0 : Nat) (s : State) (x : Nat × CodedPic), firstDue (s.readyPictures decoder true) = some x →
      (∀ y ∈ s.cdc.decoding, y.decoder = decoder → y.suspended = false → s.bit (Reg.CDC_CH_STAT y.pic.channel) Fld.CDC_CH_STAT_LIVE = false) →
      ∃ t, exec (.decodeStart decoder t0) s = .next t ∧ t.cdc.coded = s.cdc.coded.erase x.2 ∧ t.regs = s.regs ∧
        t.cdc.decoding = s.cdc.decoding.map (fun y => if y.decoder = decoder then { y with suspended := true } else y) ++
          [{ decoder := decoder, pic := x.2, deadline := x.1, suspended := false }]) ∧
  (∀ (decoder t0 : Nat) (s : State), firstDue (s.readyPictures decoder true) = none →
      s.cdc.decoding.find? (fun y => y.decoder == decoder && !y.suspended) = none →
      (∀ y, s.cdc.decoding.find? (fun y => y.decoder == decoder) = some y →
        ∃ t, exec (.decodeStart decoder t0) s = .next t ∧ t.cdc.coded = s.cdc.coded ∧ t.regs = s.regs ∧
          t.cdc.decoding = s.cdc.decoding.map (fun z => if z = y then { z with suspended := false } else z)) ∧
      (∀ x, s.cdc.decoding.find? (fun y => y.decoder == decoder) = none → firstDue (s.readyPictures decoder false) = some x →
        ∃ t, exec (.decodeStart decoder t0) s = .next t ∧ t.cdc.coded = s.cdc.coded.erase x.2 ∧ t.regs = s.regs ∧
          t.cdc.decoding = s.cdc.decoding ++ [{ decoder := decoder, pic := x.2, deadline := x.1, suspended := false }])) ∧
  (∀ (d : DecodeDone) (s : State) (run : Decoding), d.channel < 16 →
      s.cdc.decoding.find? (fun x => x.pic.channel == d.channel && !x.suspended) = some run →
      ∃ t, exec (.pictureDecodeComplete d) s = .next t ∧
        t.cdc.decoding = s.cdc.decoding.filter (fun x => x.pic.channel != d.channel) ∧ tabGet t.cdc.lastDone d.channel = d.t ∧
        (∀ p, d.content = .jxs p → run.decoder ≠ 0 →
          (jxsExcluded p = true ∨ fieldOf (s.reg (Reg.CDC_CH_DIM d.channel)) 0 16 < p.width ∨
              fieldOf (s.reg (Reg.CDC_CH_DIM d.channel)) 16 16 < p.height →
            t.reg (Reg.CDC_CH_SKIPPED d.channel) = satAdd (s.reg (Reg.CDC_CH_SKIPPED d.channel)) 1 ∧
              t.reg (Reg.CDC_CH_DECODED d.channel) = s.reg (Reg.CDC_CH_DECODED d.channel)) ∧
          (jxsExcluded p = false → p.width ≤ fieldOf (s.reg (Reg.CDC_CH_DIM d.channel)) 0 16 →
              p.height ≤ fieldOf (s.reg (Reg.CDC_CH_DIM d.channel)) 16 16 → p.syntaxBad = false → run.pic.absent = 0 ∨ run.pic.sliceMode = true →
            t.reg (Reg.CDC_CH_DECODED d.channel) = satAdd (s.reg (Reg.CDC_CH_DECODED d.channel)) 1)) ∧
        (∀ p, d.content = .hevc p → run.decoder = 0 →
          (((run.pic.afterLoss = true ∨ s.chState d.channel = Ch.WAIT_IRAP) ∧ hevcIrap p.kind = false) ∨ spsExcluded p.sps = true ∨
              fieldOf (s.reg (Reg.CDC_CH_DIM d.channel)) 0 16 < p.sps.width ∨ fieldOf (s.reg (Reg.CDC_CH_DIM d.channel)) 16 16 < p.sps.height →
            t.reg (Reg.CDC_CH_SKIPPED d.channel) = satAdd (s.reg (Reg.CDC_CH_SKIPPED d.channel)) 1 ∧
              t.reg (Reg.CDC_CH_DECODED d.channel) = s.reg (Reg.CDC_CH_DECODED d.channel)) ∧
          ((run.pic.afterLoss = false ∧ s.chState d.channel ≠ Ch.WAIT_IRAP) ∨ hevcIrap p.kind = true → spsExcluded p.sps = false →
              p.sps.width ≤ fieldOf (s.reg (Reg.CDC_CH_DIM d.channel)) 0 16 → p.sps.height ≤ fieldOf (s.reg (Reg.CDC_CH_DIM d.channel)) 16 16 →
              p.sps.buffers ≤ s.poolBuffers d.channel p.sps →
            t.reg (Reg.CDC_CH_DECODED d.channel) = satAdd (s.reg (Reg.CDC_CH_DECODED d.channel)) 1))) ∧
  (∀ (d : DecodeDone) (s : State) (run : Decoding) (p : JxsPic) (h : Nat) (v : Surface), d.channel < 16 →
      s.cdc.decoding.find? (fun x => x.pic.channel == d.channel && !x.suspended) = some run → run.decoder ≠ 0 → d.content = .jxs p →
      jxsExcluded p = false → p.syntaxBad = false → p.width ≤ fieldOf (s.reg (Reg.CDC_CH_DIM d.channel)) 0 16 →
      p.height ≤ fieldOf (s.reg (Reg.CDC_CH_DIM d.channel)) 16 16 → run.pic.absent = 0 → s.ringFree d.channel = some h →
      s.surface? h = some v → (fmtPicture v.fmt && fmtSampling v.fmt == Nat.min p.chroma 2 && (fmtRgb v.fmt == (p.chroma == 3))) = true →
      p.depth ≤ depthBits v.depth → p.width ≤ v.width → p.height ≤ v.height → s.agreed = false →
      ∃ t, exec (.pictureDecodeComplete d) s = .next t ∧ (t.stream d.channel).latest = some (handleOf v) ∧
        t.reg (Reg.CDC_CH_LASTPIC d.channel) = BitVec.ofNat 32 run.pic.rtp) ∧
  (∀ (target wfn slot t0 : Nat) (s : State), s.follows = true →
      ∃ t, exec (.promote target wfn slot t0) s = .next t ∧ t.cdc.announced = s.cdc.announced ++ [(target, wfn, slot)] ∧ t.regs = s.regs) ∧
  (∀ (target wfn slot t0 : Nat) (s : State), s.leads = true → s.agreed = true → s.cdc.otherWritten.any (fun o => o.1 == target) = false →
      (∀ w, s.cdc.written.find? (fun w => w.channel == target && !w.announced) = some w →
        ∃ t, exec (.promote target wfn slot t0) s = .next t ∧ t.regs = s.regs ∧
          t.cdc.announced = s.cdc.announced ++ [(target, laterOpening w.opening (wfn, slot))] ∧
          t.out = .link (.promote target (laterOpening w.opening (wfn, slot)).1 (laterOpening w.opening (wfn, slot)).2) :: s.out) ∧
      (s.cdc.written.find? (fun w => w.channel == target && !w.announced) = none →
        ∃ t, exec (.promote target wfn slot t0) s = .next t ∧ t.regs = s.regs ∧ t.out = s.out ∧
          t.cdc.otherWritten = s.cdc.otherWritten ++ [(target, wfn, slot)]))

/-- The return stream (R94 to R98). RETURN_ENABLE: a disabled stream takes ENABLE and owes an IDR picture unless the limits refuse it, which sets ERR.
FORCE_IDR: the next picture is an IDR. RETURN_SLICE_START: the first slice of a picture of an admitted frame, all slices of the pictures
before it started, fixes its WFN, slot and kind; a later one starts at the later of its arrival and one slice time after the one before it. RETURN_SLICE_WRITTEN, of a
slice coded as R94 and R96 have it: the sender in control moves CDC_RET_WR over the record, a multiple of 32 bytes, when the ring holds it,
and counts one in CDC_RET_OVF when it does not; the last slice counts the picture and raises event 2 when it is written. RETURN_READ_POINTER: CDC_RET_RD moves up to
CDC_RET_WR and no further. CDC_CNT_CLEAR clears the block's counters alone. -/
def Obligations.DecodersAndReturnStream : Prop :=
  (∀ (p : Path) (data : Word) (s : State), s.admits p Reg.CDC_RET_CTRL data = true → bitOf data 0 = true →
      1 ≤ fieldOf data 2 4 → fieldOf data 2 4 ≤ 8 → s.retOn = false →
      ∃ t, exec (.returnEnable p data) s = .next t ∧ t.retOn = !s.retRefused data ∧
        bitOf (t.reg Reg.CDC_RET_CTRL) 13 = s.retRefused data ∧ t.retSliceRows = fieldOf data 2 4 ∧
        (s.retRefused data = false → t.cdc.idrDue = true ∧ t.cdc.ret = [])) ∧
  (∀ (p : Path) (data : Word) (s : State), s.admits p Reg.CDC_RET_CTRL data = true → bitOf data 1 = true →
      1 ≤ fieldOf data 2 4 → fieldOf data 2 4 ≤ 8 →
      ∃ t, exec (.forceIdr p data) s = .next t ∧ t.cdc.idrDue = true) ∧
  (∀ (wfn arrival : Nat) (s : State), s.retOn = true → wfn % (s.retDivide + 1) = 0 →
      (∀ p ∈ s.cdc.ret, p.started = s.retSlices ∧ p.wfn < wfn) →
      ∃ t p, exec (.returnSliceStart wfn 0 arrival) s = .next t ∧ t.cdc.ret = s.cdc.ret ++ [p] ∧ p.wfn = wfn ∧ p.slot = s.retSlot ∧
        p.started = 1 ∧ p.next = 0 ∧ p.lastStart = arrival ∧ p.isRepeat = s.sinkTainted wfn s.retSlot 0x2010 ∧
        (s.cdc.idrDue = true → p.idr = !s.sinkTainted wfn s.retSlot 0x2010) ∧ t.cdc.retNext = arrival + s.retSliceTime) ∧
  (∀ (wfn slice arrival : Nat) (s : State), s.retOn = true → wfn % (s.retDivide + 1) = 0 → 0 < slice → slice < s.retSlices →
      s.cdc.ret.any (fun p => p.wfn == wfn && p.started == slice) = true →
      ∃ t, exec (.returnSliceStart wfn slice arrival) s = .next t ∧ t.regs = s.regs ∧
        t.cdc.retNext = Nat.max arrival s.cdc.retNext + s.retSliceTime ∧
        t.cdc.ret = s.cdc.ret.map (fun p => if p.wfn = wfn then { p with started := slice + 1, lastStart := Nat.max arrival s.cdc.retNext }
          else p)) ∧
  (∀ (r : RetSlice) (s : State) (p : RetPic), s.cdc.ret.find? (fun p => p.wfn == r.wfn && p.next == r.slice && decide (r.slice < p.started)) =
        some p → s.sliceCoded p r = true →
      ∃ t, exec (.returnSliceWritten r) s = .next t ∧
        (if s.retSlices ≤ r.slice + 1 then
          t.cdc.ret = s.cdc.ret.filter (fun q => q.wfn != r.wfn) ∧ t.reg Reg.CDC_RET_PICS = satAdd (s.reg Reg.CDC_RET_PICS) 1
        else t.cdc.ret.map (fun q => (q.wfn, q.next)) = s.cdc.ret.map (fun q => (q.wfn, if q.wfn = r.wfn then r.slice + 1 else q.next)) ∧
          t.reg Reg.CDC_RET_PICS = s.reg Reg.CDC_RET_PICS) ∧
        (p.cut = true ∨ s.inControl = false → t.reg Reg.CDC_RET_WR = s.reg Reg.CDC_RET_WR ∧ t.out = s.out ∧
          t.reg Reg.CDC_RET_OVF = s.reg Reg.CDC_RET_OVF)) ∧
  (∀ (r : RetSlice) (s : State) (p : RetPic) (m n wr rd pad : Nat),
      s.cdc.ret.find? (fun p => p.wfn == r.wfn && p.next == r.slice && decide (r.slice < p.started)) = some p → s.sliceCoded p r = true →
      p.cut = false → s.inControl = true → m = 2 * s.retRing → n = roundUp 32 (32 + r.nal.length) →
      wr = (s.reg Reg.CDC_RET_WR).toNat % m → rd = (s.reg Reg.CDC_RET_RD).toNat % m →
      pad = (if s.retRing - wr % s.retRing < n then s.retRing - wr % s.retRing else 0) →
      ∃ t, exec (.returnSliceWritten r) s = .next t ∧
        if pad + n ≤ s.retRing - (wr + m - rd) % m then
          t.reg Reg.CDC_RET_WR = BitVec.ofNat 32 ((wr + pad + n) % m) ∧ t.reg Reg.CDC_RET_OVF = s.reg Reg.CDC_RET_OVF ∧
            (s.retSlices ≤ r.slice + 1 → bitOf (t.reg Reg.CMD_EVT) 2 = true)
        else t.reg Reg.CDC_RET_WR = s.reg Reg.CDC_RET_WR ∧ t.reg Reg.CDC_RET_OVF = satAdd (s.reg Reg.CDC_RET_OVF) 1 ∧ t.cdc.idrDue = true) ∧
  (∀ (p : Path) (data : Word) (s : State) (m : Nat), s.admits p Reg.CDC_RET_RD data = true → m = 2 * s.retRing →
      ∃ t, exec (.returnReadPointer p data) s = .next t ∧
        t.reg Reg.CDC_RET_RD = if data.toNat < m ∧ ((s.reg Reg.CDC_RET_WR).toNat + m - data.toNat) % m ≤
          ((s.reg Reg.CDC_RET_WR).toNat + m - (s.reg Reg.CDC_RET_RD).toNat % m) % m then data else s.reg Reg.CDC_RET_RD) ∧
  (∀ (p : Path) (s : State), s.admits p Reg.CDC_CNT_CLEAR 1 = true →
      ∃ t, exec (.cdcCntClear p) s = .next t ∧ (∀ a, t.reg a = if cdcCounter a then resetValue a else s.reg a))

/-! ### Surfaces and the compositor (chapter 6) -/

/-- SURFACE_ALLOC (R100, R105): a surface takes the lowest free index, the next generation of it and the lowest range of the pool
that holds it; with no index or no range left the table stays. SURFACE_RELEASE (R106, R107): a LIVE surface that is not in use, or a reference
pool, becomes RETIRING with its fence; one in use stays. SURFACE_FREE: a RETIRING surface past
its fence, which no codec channel reads, leaves the table. LATCH_INSTANT (R113, R114): at a sender the colour table, the meshes and
the first cell rows of slot 0's sources of instance G + 2 are fetched. STALE_TIMEOUT (R120): a stream without a picture for STALE × 10 ms turns STALE and its event bit sets. CMP_CNT_CLEAR
clears the block's counters alone. -/
def Obligations.SurfacesLiveAndStandStill : Prop :=
  (∀ (c : MboxCmd) (s : State) (d i a : Nat), s.takes 0x201 c = true → s.follows = false →
      depthCode (byteAt c.body 0) (byteAt c.body 2) = some d → layoutOk (byteAt c.body 0) (byteAt c.body 1) = true →
      s.freeIndex = some i →
      s.poolFind (ceilDiv (if fmtData (byteAt c.body 0) then leAt c.body 8 4
        else surfaceBytes (byteAt c.body 0) (byteAt c.body 1) (leAt c.body 4 2) (leAt c.body 6 2)) 65536) = some a →
      ∃ t v, exec (.surfaceAlloc c) s = .next t ∧ t.cmp.surfaces = s.cmp.surfaces ++ [v] ∧ v.index = i ∧ v.base = a * 65536 ∧
        v.gen = (tabGet s.cmp.gens i + 1) % 16 ∧ v.fmt = byteAt c.body 0 ∧ v.layout = byteAt c.body 1 ∧ v.depth = d ∧
        v.width = leAt c.body 4 2 ∧ v.height = leAt c.body 6 2 ∧ v.retiring = false ∧ t.dram = s.dram) ∧
  (∀ (c : MboxCmd) (s : State), s.takes 0x201 c = true → s.follows = true ∨ depthCode (byteAt c.body 0) (byteAt c.body 2) = none ∨
      layoutOk (byteAt c.body 0) (byteAt c.body 1) = false ∨ s.freeIndex = none ∨
      s.poolFind (ceilDiv (if fmtData (byteAt c.body 0) then leAt c.body 8 4
        else surfaceBytes (byteAt c.body 0) (byteAt c.body 1) (leAt c.body 4 2) (leAt c.body 6 2)) 65536) = none →
      ∃ t, exec (.surfaceAlloc c) s = .next t ∧ t.cmp = s.cmp ∧ t.dram = s.dram) ∧
  (∀ (c : MboxCmd) (s : State) (v : Surface), s.takes 0x202 c = true → s.follows = false → s.surface? (leAt c.body 0 2) = some v →
      v.retiring = false → v.fmt = 0x11 ∨ s.inUse (leAt c.body 0 2) = false →
      ∃ t, exec (.surfaceRelease c) s = .next t ∧ t.dram = s.dram ∧ t.cmp.surfaces = s.cmp.surfaces.map (fun x =>
        if handleOf x = leAt c.body 0 2 then { x with retiring := true, fence := s.fenceOf v } else x)) ∧
  (∀ (c : MboxCmd) (s : State), s.takes 0x202 c = true →
      (∀ v, s.surface? (leAt c.body 0 2) = some v → s.follows = true ∨ v.retiring = true ∨ (v.fmt ≠ 0x11 ∧ s.inUse (leAt c.body 0 2) = true)) →
      ∃ t, exec (.surfaceRelease c) s = .next t ∧ t.cmp = s.cmp ∧ t.dram = s.dram) ∧
  (∀ (handle t0 : Nat) (s : State) (v : Surface), s.surface? handle = some v → v.retiring = true → v.fence ≤ s.sch.newest →
      s.endedUpTo v.fence = true → s.codecReads handle = false →
      ∃ t, exec (.surfaceFree handle t0) s = .next t ∧ t.regs = s.regs ∧
        t.cmp.surfaces = s.cmp.surfaces.filter (fun x => handleOf x != handleOf v)) ∧
  (∀ (wfn : Nat) (s : State) (im : Image), s.gen.running = some im → im.role = .sender →
      ∃ t p, exec (.latchInstant wfn) s = .next t ∧ t.cmp.prefills = s.cmp.prefills.filter (fun q => q.wfn != wfn + 2) ++ [p] ∧
        p.wfn = wfn + 2 ∧ p.table = s.surfaceBytesOf (fieldOf (setWord (s.setFor (wfn + 2)) Reg.CMP_COLOUR) 0 16) ∧
        p.meshes.map (·.1) = (declaredTiles im).map (·.1) ∧
        p.rows = (s.slotSources (s.setFor (wfn + 2))).map (fun v => (handleOf v, s.firstRow v)) ∧ t.regs = s.regs ∧ t.now = Nat.max s.now (s.latchInstant im.timeline wfn)) ∧
  (∀ (stream t0 : Nat) (s : State), stream < 16 → fieldOf (s.reg (Reg.CMP_STILL_CFG stream)) 24 8 ≠ 0 →
      ((s.cmp.still.find? (fun x => x.stream == stream)).map (·.lastAt)).getD 0 +
        fieldOf (s.reg (Reg.CMP_STILL_CFG stream)) 24 8 * 10 * msT ≤ t0 →
      bitOf (s.reg (Reg.CMP_STILL_STAT stream)) 1 = false →
      ∃ t, exec (.staleTimeout stream t0) s = .next t ∧ bitOf (t.reg (Reg.CMP_STILL_STAT stream)) 1 = true ∧
        bitOf (t.reg Reg.CMP_STILL_EVT) stream = true ∧ t.cmp = s.cmp) ∧
  (∀ (p : Path) (s : State), s.admits p Reg.CMP_CNT_CLEAR 1 = true →
      ∃ t, exec (.cmpCntClear p) s = .next t ∧ (∀ a, t.reg a = if cmpCounter a then resetValue a else s.reg a))

/-- LAYER_WRITE (R110 to R112): the owner's write of a layer word takes its register alone; any other path's is dropped and
counted; while a validation is BUSY, and at the mirror, every write is ignored. COMMIT_GO: validation begins, behind the BAR2 writes the link still carries; it is
ignored while BUSY and at the mirror. COMMIT_VALIDATION_END (R111, R113, Table 6.3), once those are carried: a failed set reports its code
and detail and the sets stay; a set that passes is committed for the WFN of its handshake. COMMIT_RECORD: the follower's set takes effect at the
announced WFN. -/
def Obligations.PendingSetsAreValidatedAndCommitted : Prop :=
  (∀ (w : RegWrite) (s : State) (r : RegRow), s.writeAllowed w = true → Reg.CMP_LAYER 0 ≤ w.addr → w.addr < 0x65000 →
      rowOf w.addr = some r → s.bit Reg.CMP_COMMIT_STAT Fld.CMP_COMMIT_STAT_BUSY = false → s.follows = false →
      (fieldOf (s.reg (Reg.CMP_LAYER ((w.addr - Reg.CMP_LAYER 0) / 64))) 16 2 = 3 ∨
        fieldOf (s.reg (Reg.CMP_LAYER ((w.addr - Reg.CMP_LAYER 0) / 64))) 16 2 = ownerCode w.path) →
      ∃ t, exec (.layerWrite w) s = .next t ∧ t.reg w.addr = writeMask r (s.reg w.addr) w.data ∧
        ∀ a, a ≠ w.addr → t.reg a = s.reg a) ∧
  (∀ (w : RegWrite) (s : State) (r : RegRow), s.writeAllowed w = true → Reg.CMP_LAYER 0 ≤ w.addr → w.addr < 0x65000 →
      rowOf w.addr = some r → s.bit Reg.CMP_COMMIT_STAT Fld.CMP_COMMIT_STAT_BUSY = false → s.follows = false →
      fieldOf (s.reg (Reg.CMP_LAYER ((w.addr - Reg.CMP_LAYER 0) / 64))) 16 2 ≠ 3 →
      fieldOf (s.reg (Reg.CMP_LAYER ((w.addr - Reg.CMP_LAYER 0) / 64))) 16 2 ≠ ownerCode w.path →
      ∃ t, exec (.layerWrite w) s = .next t ∧ t.reg Reg.CMP_OWN_REJ = satAdd (s.reg Reg.CMP_OWN_REJ) 1 ∧
        ∀ a, a ≠ Reg.CMP_OWN_REJ → t.reg a = s.reg a) ∧
  (∀ (w : RegWrite) (s : State), Reg.CMP_LAYER 0 ≤ w.addr → w.addr < 0x65000 →
      s.bit Reg.CMP_COMMIT_STAT Fld.CMP_COMMIT_STAT_BUSY = true ∨ s.follows = true →
      ∃ t, exec (.layerWrite w) s = .next t ∧ t.regs = s.regs) ∧
  (∀ (p : Path) (data : Word) (s : State), s.admits p Reg.CMP_COMMIT data = true → bitOf data 0 = true →
      s.bit Reg.CMP_COMMIT_STAT Fld.CMP_COMMIT_STAT_BUSY = false → s.follows = false →
      ∃ t, exec (.commitGo p data) s = .next t ∧ t.bit Reg.CMP_COMMIT_STAT Fld.CMP_COMMIT_STAT_BUSY = true ∧
        t.cmp.goAfter = s.ing.barUntil ∧ ∀ a, a ≠ Reg.CMP_COMMIT_STAT → t.reg a = s.reg a) ∧
  (∀ (p : Path) (data : Word) (s : State), s.bit Reg.CMP_COMMIT_STAT Fld.CMP_COMMIT_STAT_BUSY = true ∨ s.follows = true →
      ∃ t, exec (.commitGo p data) s = .next t ∧ t = s) ∧
  (∀ (t0 handshake code detail : Nat) (s : State) (im : Image), s.gen.running = some im →
      s.bit Reg.CMP_COMMIT_STAT Fld.CMP_COMMIT_STAT_BUSY = true → s.cmp.goAfter ≤ t0 → s.validate im = (code, detail) → code ≠ 0 →
      ∃ t, exec (.commitValidationEnd t0 handshake) s = .next t ∧ t.cmp = s.cmp ∧ t.reg Reg.CMP_COMMIT_DETAIL = word detail ∧
        t.reg Reg.CMP_COMMIT_STAT = word (code + 32 + 128 * flag (s.bit Reg.CMP_COMMIT_STAT Fld.CMP_COMMIT_STAT_SUPERSEDED))) ∧
  (∀ (t0 handshake detail f : Nat) (s : State) (im : Image), s.gen.running = some im →
      s.bit Reg.CMP_COMMIT_STAT Fld.CMP_COMMIT_STAT_BUSY = true → s.cmp.goAfter ≤ t0 → s.validate im = (0, detail) → f = s.commitWfn im.timeline handshake →
      ∃ t, exec (.commitValidationEnd t0 handshake) s = .next t ∧
        t.cmp.sets = s.cmp.sets.filter (fun x => x.wfn != f) ++ [{ wfn := f, words := s.pendingSet }] ∧
        t.reg Reg.CMP_COMMIT_WFN_LO = word f ∧ t.reg Reg.CMP_COMMIT_DETAIL = 0 ∧
        t.reg Reg.CMP_COMMIT_STAT = word (96 + 128 * flag (s.cmp.sets.any (fun x => x.wfn == f)))) ∧
  (∀ (wfn t0 : Nat) (s : State), s.follows = true →
      ∃ t, exec (.commitRecord wfn t0) s = .next t ∧
        t.cmp.sets = s.cmp.sets.filter (fun x => x.wfn != wfn) ++ [{ wfn := wfn, words := s.pendingSet }] ∧
        t.reg Reg.CMP_COMMIT_WFN_LO = word wfn)

/-! ### Chain link (chapter 7) -/

/-- Bring-up of a chain port runs SIGNAL, EQUALISE, IDENTIFY, BLOCK_LOCK, DESKEW, ALIGN, UP (R139 to R144). SIGNAL_DETECT takes the port to EQUALISE, in
the mode R144 gives it or, after a loss, in its previous one; EQUALISE_DONE to IDENTIFY; IDENTIFY_WINDOW, when three windows in a row have
given every lane one class and the lanes stand in order or reversed, to BLOCK_LOCK, and 74 windows without it start IDENTIFY again and
count; BLOCK_LOCK locks a lane after 4,096 valid headers in HUNT or 256 in SLIP, the fourth takes the port to DESKEW, and a header error counts and
tries the next alignment; DESKEW_DONE with a skew of at most 16 ns takes it to ALIGN and a greater one back to IDENTIFY; PORT_UP after three
good control rows to UP. -/
def Obligations.BringUpRunsThroughItsStates : Prop :=
  (∀ (port t0 : Nat) (first : Bool) (s : State), s.hasPort port = true → s.portState port < 2 →
      ∃ t, exec (.signalDetect port ⟨first, t0⟩) s = .next t ∧ t.portState port = 2 ∧
        t.bit (Reg.CHN_PORT_STAT port) Fld.CHN_PORT_STAT_MODE =
          (if (s.portSt port).retrain then s.bit (Reg.CHN_PORT_STAT port) Fld.CHN_PORT_STAT_MODE else s.slipPort port first)) ∧
  (∀ (port t0 : Nat) (s : State), s.hasPort port = true → s.portState port = 2 →
      ∃ t, exec (.equaliseDone port t0) s = .next t ∧ t.portState port = 3) ∧
  (∀ (w : IdentWindow) (s : State) (cls : Nat → Option Nat), s.hasPort w.port = true → s.portState w.port = 3 →
      (∀ k, cls k = if 3 ≤ (s.portSt w.port).same.getD k 0 then (s.portSt w.port).classes.getD k none else laneClass (w.ones.getD k 0)) →
      (∀ k, k < 4 → (cls k).isSome = true ∧ (3 ≤ (s.portSt w.port).same.getD k 0 ∨
        (2 ≤ (s.portSt w.port).same.getD k 0 ∧ (s.portSt w.port).classes.getD k none = cls k))) →
      ((∀ k, k < 4 → (cls k).getD 0 % 4 = k) ∨ (∀ k, k < 4 → (cls k).getD 0 % 4 = 3 - k) →
        ∃ t, exec (.identifyWindow w) s = .next t ∧ t.portState w.port = 4 ∧
          (∀ k, k < 4 → natBit (t.get (Reg.CHN_PORT_STAT w.port) Fld.CHN_PORT_STAT_INVERTED) ((cls k).getD 0 % 4) = decide (4 ≤ (cls k).getD 0)) ∧
          t.bit (Reg.CHN_PORT_STAT w.port) Fld.CHN_PORT_STAT_REVERSED = decide ((cls 0).getD 0 % 4 = 3) ∧
          t.bit (Reg.CHN_PORT_STAT w.port) Fld.CHN_PORT_STAT_CLK_INVERTED = decide (8192 < w.clockOnes)) ∧
      (¬ ((∀ k, k < 4 → (cls k).getD 0 % 4 = k) ∨ (∀ k, k < 4 → (cls k).getD 0 % 4 = 3 - k)) →
        ∃ t, exec (.identifyWindow w) s = .next t ∧ t.portState w.port = 3 ∧ (t.portSt w.port).windows = 0 ∧
          t.reg (Reg.CHN_RELOCK w.port) = satAdd (s.reg (Reg.CHN_RELOCK w.port)) 1)) ∧
  (∀ (w : IdentWindow) (s : State) (k : Nat), s.hasPort w.port = true → s.portState w.port = 3 → k < 4 →
      (s.portSt w.port).same.getD k 0 < 3 →
      ((s.portSt w.port).same.getD k 0 < 2 ∨ laneClass (w.ones.getD k 0) = none ∨
        (s.portSt w.port).classes.getD k none ≠ laneClass (w.ones.getD k 0)) →
      ∃ t, exec (.identifyWindow w) s = .next t ∧ t.portState w.port = 3 ∧
        if 73 ≤ (s.portSt w.port).windows then
          (t.portSt w.port).windows = 0 ∧ t.reg (Reg.CHN_RELOCK w.port) = satAdd (s.reg (Reg.CHN_RELOCK w.port)) 1
        else (t.portSt w.port).windows = (s.portSt w.port).windows + 1 ∧ t.regs = s.regs) ∧
  (∀ (l : LockIn) (s : State) (slip : Bool) (m : Nat), s.hasPort l.port = true → s.portState l.port = 4 → l.lane < 4 →
      m = (s.portSt l.port).misses.getD l.lane 0 → slip = (s.bit (Reg.CHN_PORT_STAT l.port) Fld.CHN_PORT_STAT_MODE && decide (m < 9)) →
      (s.portSt l.port).locked.contains l.lane = false →
      ((if slip then 256 else 4096) ≤ l.valid →
        ∃ t, exec (.blockLock l) s = .next t ∧ (t.portSt l.port).locked = l.lane :: (s.portSt l.port).locked ∧
          t.get (Reg.CHN_SKEW l.port l.lane) ⟨0, 7⟩ = (if slip then slipOrder.getD m 0 else l.offset % 66) ∧
          t.portState l.port = if 3 ≤ (s.portSt l.port).locked.length then 5 else 4) ∧
      (l.valid < (if slip then 256 else 4096) → l.error = true →
        ∃ t, exec (.blockLock l) s = .next t ∧ t.portState l.port = 4 ∧
          (t.portSt l.port).misses = (s.portSt l.port).misses.set l.lane (m + 1) ∧
          t.reg (Reg.CHN_HDR_ERR l.port) = satAdd (s.reg (Reg.CHN_HDR_ERR l.port)) 1 ∧
          (slip = true → m = 8 → t.bit (Reg.CHN_PORT_STAT l.port) Fld.CHN_PORT_STAT_SLIP_MISS = true))) ∧
  (∀ (l : LockIn) (s : State), s.hasPort l.port = true → s.portState l.port = 4 → l.lane < 4 →
      (s.portSt l.port).locked.contains l.lane = true → l.error = true → l.identity = false →
      ∃ t, exec (.blockLock l) s = .next t ∧ t.reg (Reg.CHN_HDR_ERR l.port) = satAdd (s.reg (Reg.CHN_HDR_ERR l.port)) 1 ∧
        (t.portSt l.port).locked.contains l.lane =
          decide ((headerWindow ((s.portSt l.port).headers.getD l.lane (0, 0)) 1 (l.valid + 1)).1 < 64)) ∧
  (∀ (port t0 : Nat) (skews : List Nat) (s : State), s.hasPort port = true → s.portState port = 5 →
      if skews.any (fun k => decide (16 * laneRate (s.get (Reg.CHN_PORT_STAT port) Fld.CHN_PORT_STAT_RATE) < k * 10)) then
        ∃ t, exec (.deskewDone port skews t0) s = .next t ∧ t.portState port = 3 ∧
          t.reg (Reg.CHN_RELOCK port) = satAdd (s.reg (Reg.CHN_RELOCK port)) 1
      else ∃ t, exec (.deskewDone port skews t0) s = .next t ∧ t.portState port = 6 ∧ (t.portSt port).goodRows = 0) ∧
  (∀ (port chain t0 : Nat) (s : State), s.hasPort port = true → s.portState port = 6 → 3 ≤ (s.portSt port).goodRows →
      ∃ t, exec (.portUp port chain t0) s = .next t ∧ t.portState port = 7 ∧ (t.portSt port).upAt = some t0)

/-- TRAINING_CYCLE_END (R139, R143): a port whose far receiver is aligned starts superframes; any other repeats its training cycle. LOSS_OF_LOCK (R145) and
RETRAIN (R146) count in CHN_RELOCK and send the port back to SIGNAL; port 4, the lockstep link, goes down and comes up by LOSS_OF_LOCK and PORT_UP (R280). CHAIN_DOWN
(R144): a sender's chain not up in 400 ms shows the first hop that is missing. EAST_ABSENT (R17) sets ABSENT. PLL_HOLDOVER_EXPIRY (R124):
the port falls back after 10 s. REFCLK_CORE_STOP (R368): the core reference is gone and every transmitter of the role holds over. -/
def Obligations.LinksAreLostAndHeld : Prop :=
  (∀ (port t0 : Nat) (rxUp : Bool) (s : State), s.hasPort port = true → s.chn.sending.contains port = false →
      ∃ t, exec (.trainingCycleEnd port rxUp t0) s = .next t ∧
        if (rxUp || s.bit (Reg.CHN_PORT_STAT port) Fld.CHN_PORT_STAT_PEER_RX_UP) = true then
          t.chn.sending = port :: s.chn.sending ∧ t.bit (Reg.CHN_PORT_STAT port) Fld.CHN_PORT_STAT_PEER_RX_UP = true
        else t.regs = s.regs ∧ ∃ slips blocks, t.out = .train port clockPeriod slips identityWords blocks :: s.out) ∧
  (∀ (port t0 : Nat) (why : LockLoss) (s : State), s.hasPort port = true → 4 ≤ s.portState port →
      ∃ t, exec (.lossOfLock port why t0) s = .next t ∧ t.portState port = 1 ∧ t.chn.sending.contains port = false ∧
        t.reg (Reg.CHN_RELOCK port) = satAdd (s.reg (Reg.CHN_RELOCK port)) 1) ∧
  (∀ (chain t0 : Nat) (why : LockLoss) (s : State), s.isSender = true →
      (s.red.linkUp = true → ∃ t, exec (.lossOfLock 4 why t0) s = .next t ∧ t.red.linkUp = false) ∧
      (s.red.linkUp = false → ∃ t, exec (.portUp 4 chain t0) s = .next t ∧ t.red.linkUp = true)) ∧
  (∀ (p : Path) (port : Nat) (data : Word) (s : State), s.admits p (Reg.CHN_PORT_CTRL port) data = true → s.hasPort port = true →
      bitOf data 0 = true →
      ∃ t, exec (.retrain p port data) s = .next t ∧ t.portState port = 1 ∧
        t.reg (Reg.CHN_RELOCK port) = satAdd (s.reg (Reg.CHN_RELOCK port)) 1) ∧
  (∀ (chain t0 : Nat) (s : State) (r : ChainRec), s.isSender = true → s.chains.find? (fun x => x.chain == chain) = some r → chain < 4 →
      bitOf (s.reg (Reg.CHN_CHAIN chain)) 7 = false → s.chn.bringUp.any (fun b => b.1 == chain && decide (b.2 + 400 * msT ≤ t0)) = true →
      ((s.heard chain).length ≠ r.n ∨ s.chn.rated.contains chain = false) →
      ∃ t, exec (.chainDown chain t0) s = .next t ∧ bitOf (t.reg (Reg.CHN_CHAIN chain)) 9 = true ∧
        fieldOf (t.reg (Reg.CHN_CHAIN chain)) 16 7 =
          (((List.range r.n).find? (fun p => !(s.heard chain).contains p)).getD r.n) % 128) ∧
  (∀ (chain t0 : Nat) (s : State), s.isSender = false →
      s.chn.eastAt + 4096 * 660 * nsT / laneRate (s.get (Reg.CHN_PORT_STAT 1) Fld.CHN_PORT_STAT_RATE) ≤ t0 →
      ∃ t, exec (.eastAbsent chain t0) s = .next t ∧ t.bit (Reg.CHN_PORT_STAT 1) Fld.CHN_PORT_STAT_ABSENT = true) ∧
  (∀ (port t0 : Nat) (s : State), s.chn.holdoverAt.any (fun h => h.1 == port && decide (h.2 + 10 * secT ≤ t0)) = true →
      s.chn.fallback.contains port = false →
      ∃ t, exec (.pllHoldoverExpiry port t0) s = .next t ∧ t.chn.fallback = port :: s.chn.fallback ∧ t.regs = s.regs) ∧
  (∀ (t0 : Nat) (s : State),
      ∃ t, exec (.refclkCoreStop t0) s = .next t ∧ t.chn.refclk = false ∧
        t.chn.holdoverAt = (if s.isSender then [(0, t0), (1, t0), (2, t0), (3, t0)] else [(0, t0), (1, t0)]))

/-- ROW_FORWARD (R126 to R128, R133): an IDLE row passes a tile unchanged, but for one owed to an express row; a data row passes, as an IDLE row where
the tile has consumed its slice, and leaves one row fewer to come; a row error counts. CONTROL_ROW_RX (R129): a bad HCRC counts, a good row
is kept with its SFN. SUPERFRAME (R126, R145): a sender's next SFN goes out, and a tile's own row in holdover with UPSTREAM_LOST.
EXPRESS_SYMBOL_RX (R126, R132, R133, R135): counted, forwarded, and acted on from the shown stream of an UP port; a row without a symbol is a row error.
EXPRESS_REQUEST (R136): under the limits of CLEAR and DARK the symbol goes out with the next ESEQ, and a 17th of a window is deferred and counts;
a tile and a formed mirror ignore it. RATE (R144): a switch is scheduled. RATE_SWITCH: at its SFN the port takes the rate and comes up
again. TXSLIP: four slips of at most 65 are taken. ANNOUNCE: a sender notes the tile. CHN_CNT_CLEAR clears the block's counters alone. -/
def Obligations.RowsRatesAndExpressSymbols : Prop :=
  (∀ (port t0 : Nat) (blocks : List Block) (s : State), s.hasPort port = true → 6 ≤ s.portState port → blocks.length = 4 →
      (∀ b ∈ blocks, b.header = 2 ∧ byteAt b.bytes 0 = 0x1E) → s.forwards port = true → (∀ w ∈ (s.portSt port).headers, w.1 < 64) →
      ∃ t, exec (.rowForward port blocks t0) s = .next t ∧ t.regs = s.regs ∧
        if blocks = idleRow ∧ tabGet s.chn.dropIdle (opposite port) ≠ 0 then
          t.out = s.out ∧ tabGet t.chn.dropIdle (opposite port) = tabGet s.chn.dropIdle (opposite port) - 1
        else t.out = .row port blocks :: s.out) ∧
  (∀ (port t0 n : Nat) (own : Bool) (blocks : List Block) (s : State), s.hasPort port = true → 6 ≤ s.portState port → blocks.length = 4 →
      (∀ b ∈ blocks, b.header = 1) → s.slicePending port = (n + 1, own) → s.forwards port = true → (∀ w ∈ (s.portSt port).headers, w.1 < 64) →
      tabGet s.chn.dropIdle (opposite port) = 0 ∨ own = false →
      ∃ t, exec (.rowForward port blocks t0) s = .next t ∧ t.regs = s.regs ∧ t.slicePending port = (n, own) ∧
        t.out = .row port (if own then idleRow else blocks) :: s.out) ∧
  (∀ (port t0 : Nat) (blocks : List Block) (s : State), s.hasPort port = true → 6 ≤ s.portState port →
      rowError (s.slicePending port).1 blocks = true →
      ∃ t, exec (.rowForward port blocks t0) s = .next t ∧
        t.reg (Reg.CHN_ROW_ERR port) = satAdd (s.reg (Reg.CHN_ROW_ERR port)) 1) ∧
  (∀ (c : CtlIn) (s : State), s.hasPort c.port = true → 6 ≤ s.portState c.port → c.hcrcOk = false →
      ∃ t, exec (.controlRowRx c) s = .next t ∧ t.reg (Reg.CHN_CTL_CRC c.port) = satAdd (s.reg (Reg.CHN_CTL_CRC c.port)) 1 ∧
        tabGet t.chn.sfnRx c.port = (tabGet s.chn.sfnRx c.port + 1) % 65536) ∧
  (∀ (c : CtlIn) (s : State), s.hasPort c.port = true → 6 ≤ s.portState c.port → c.hcrcOk = true →
      ∃ t, exec (.controlRowRx c) s = .next t ∧ t.lastCtl? c.port = some { port := c.port, row := c.row, t := c.t } ∧
        tabGet t.chn.sfnRx c.port = c.row.sfn) ∧
  (∀ (port t0 : Nat) (s : State), s.isSender = true → port < 4 → s.chn.sending.contains port = true → s.dbg.forced = false →
      ∃ t row, exec (.superframe port t0) s = .next t ∧ t.out.head? = some (.control port row) ∧
        row.sfn = (tabGet s.chn.sfn port + 1) % 65536 ∧ tabGet t.chn.sfn port = row.sfn) ∧
  (∀ (port t0 : Nat) (s : State), s.isSender = false → port < 2 → s.chn.sending.contains port = true → s.dbg.forced = false →
      s.bit (Reg.CHN_PORT_STAT (opposite port)) Fld.CHN_PORT_STAT_TX_HOLDOVER = true → (port = 1 → s.eastAbsent = false) →
      ∃ t row, exec (.superframe port t0) s = .next t ∧ t.out.head? = some (.control port row) ∧ natBit row.flags 3 = true ∧
        row.sfn = (tabGet s.chn.sfnRx (opposite port) + 1) % 65536 ∧ tabGet t.chn.sfnRx (opposite port) = row.sfn) ∧
  (∀ (port t0 code seq : Nat) (blocks : List Block) (s : State), s.hasPort port = true → s.coreLive = true → s.isSender = false →
      blocks.findSome? expressBlock = some (code, seq) →
      ∃ t, exec (.expressSymbolRx port blocks t0) s = .next t ∧
        t.reg (Reg.CHN_EXP_RX port) = satAdd (s.reg (Reg.CHN_EXP_RX port)) 1 ∧
        (((s.tick t0).countHeaders port blocks t0).forwards port = true → .express (opposite port) code seq ∈ t.out) ∧
        (((s.tick t0).countHeaders port blocks t0).shownPort = some port → ((s.tick t0).countHeaders port blocks t0).portUp port = true →
          t.reg Reg.CHN_EXP_STATE = BitVec.ofNat 32 (expressState (fieldOf (s.reg Reg.CHN_EXP_STATE) 0 2) code % 4 + seq % 256 * 256))) ∧
  (∀ (port t0 : Nat) (blocks : List Block) (s : State), s.hasPort port = true → s.coreLive = true →
      blocks.findSome? expressBlock = none →
      ∃ t, exec (.expressSymbolRx port blocks t0) s = .next t ∧
        t.reg (Reg.CHN_ROW_ERR port) = satAdd (s.reg (Reg.CHN_ROW_ERR port)) 1) ∧
  (∀ (p : Path) (c k : Nat) (x : ExpTx) (s : State), c < 4 → 1 ≤ k → k ≤ 3 → s.admits p Reg.CHN_EXPRESS (word (2 ^ c + 16 * k)) = true →
      s.isSender = true → s.formedMirror = false → s.chn.exp.find? (fun y => y.chain == c) = some x →
      expressState (fieldOf (s.reg Reg.CHN_EXP_STATE) (2 * c) 2) (requestCode k) ≠ fieldOf (s.reg Reg.CHN_EXP_STATE) (2 * c) 2 →
      (k = 1 ∨ (x.inWindow < 16 ∧ x.sentNow = false ∧ (k = 3 → s.chn.blankLow = false)) →
        ∃ t, exec (.expressRequest p (word (2 ^ c + 16 * k))) s = .next t ∧ .express c (requestCode k) ((x.eseq + 1) % 256) ∈ t.out ∧
          fieldOf (t.reg Reg.CHN_EXP_STATE) (2 * c) 2 =
            expressState (fieldOf (s.reg Reg.CHN_EXP_STATE) (2 * c) 2) (requestCode k)) ∧
      (k ≠ 1 → 16 ≤ x.inWindow →
        ∃ t, exec (.expressRequest p (word (2 ^ c + 16 * k))) s = .next t ∧ t.out = s.out ∧
          t.reg Reg.CHN_EXP_DEFER = satAdd (s.reg Reg.CHN_EXP_DEFER) 1)) ∧
  (∀ (p : Path) (data : Word) (s : State), s.isSender = false ∨ s.formedMirror = true →
      ∃ t, exec (.expressRequest p data) s = .next t ∧ t = s) ∧
  (∀ (port code sfn t0 : Nat) (s : State), s.hasPort port = true → code < 8 →
      ∃ t, exec (.rate port code sfn t0) s = .next t ∧ t.regs = s.regs ∧
        t.chn.rates = { dir := port, code := code, sfn := sfn % 65536 } :: s.chn.rates.filter (fun x => x.dir != port)) ∧
  (∀ (port t0 : Nat) (x : RateSwitch) (s : State), s.hasPort port = true → s.chn.rates.find? (fun y => y.dir == port) = some x →
      x.code < 8 → sfnReached (if s.isSender then tabGet s.chn.sfn port else tabGet s.chn.sfnRx port) x.sfn = true →
      ∃ t, exec (.rateSwitch port t0) s = .next t ∧ t.get (Reg.CHN_PORT_STAT port) Fld.CHN_PORT_STAT_RATE = x.code ∧
        t.portState port = 1 ∧ t.chn.rates = s.chn.rates.filter (fun y => y.dir != port)) ∧
  (∀ (port t0 : Nat) (slips : List Nat) (s : State), s.hasPort port = true → slips.length = 4 → (∀ x ∈ slips, x ≤ 65) →
      ∃ t, exec (.txslip port slips t0) s = .next t ∧ (∀ k, k < 4 → fieldOf (t.reg (Reg.CHN_TXSLIP port)) (8 * k) 8 = slips.getD k 0) ∧
        ∀ a, a ≠ Reg.CHN_TXSLIP port → t.reg a = s.reg a) ∧
  (∀ (a : AnnounceIn) (s : State), s.isSender = true →
      ∃ t, exec (.announce a) s = .next t ∧
        t.chn.announced = (a.chain, a.position) :: s.chn.announced.filter (fun x => x != (a.chain, a.position))) ∧
  (∀ (p : Path) (s : State), s.admits p Reg.CHN_CNT_CLEAR 1 = true →
      ∃ t, exec (.chnCntClear p) s = .next t ∧ (∀ a, t.reg a = if chnCounter a then resetValue a else s.reg a))

/-! ### Chain coding (chapter 8) -/

/-- SLICE_ENCODE at a sender whose chain runs, in the open window of (F, s) and outside the held state (R20, R292, R358): a due REPEAT codes one
INHERIT run, leaves the tile's coder alone and counts (R150, R161); a NORMAL or REFRESH picture takes the next SEQ of its slot (R154), a
REFRESH counts; the slice goes out, and its signatures go to the other sender of an agreed pair. REFRESH_REQ (R157): counted, and a tile not being
refreshed is owed a refresh of every slot from 200 µs on. SLICE_RX at a tile (R127, R128, R56): a slice of its own TA from its run, whose decoding is not
shed, is kept with its SCRC verdict, a failing SCRC counts, and a RECEIPT goes on in its place; any other slice goes on unchanged, and one
whose start fails is a row error. SLICE_DECODE (R154, R155, R194), the next in order: a REPEAT is shown again and counts, a NORMAL or
REFRESH slice sets the slot's SEQ, a slice whose syntax or SEQ fails is rejected and counts. REFRESH_REQ_RETRY (R156): after 16
chain windows the request is sent once more. CCX_CNT_CLEAR clears the block's counters alone. -/
def Obligations.SlicesAreCodedAndTaken : Prop :=
  (∀ (e : EncodeIn) (s : State) (im : Image) (c : ChainRec) (x : TileCoder) (k : Nat) (b : Bool), s.gen.running = some im → im.role = .sender →
      s.chainOf? e.ta = some c → s.coder? e.ta = some x → s.chainRuns c.chain = true → s.uncoded e.wfn = false →
      s.inWindow im e.wfn e.slot e.t = true → s.codesTile e.ta = true → e.slot < im.timeline.nImage →
      s.sliceKind im c e.ta e.wfn e.slot = (k, b) →
      ∃ t flags rows scrc fsig bytes, exec (.sliceEncode e) s = .next t ∧
        (s.transmits = true → .slice c.chain e.ta flags (e.wfn % 2 ^ 40) rows scrc fsig bytes ∈ t.out) ∧
        (s.agreed = true → .link (.sliceSig e.ta e.wfn e.slot scrc fsig) ∈ t.out) ∧ scrc = crc32c bytes ∧ rows = bytes.length / 32 ∧
        flags % 4 = e.slot % 4 ∧
        (k = 1 → bytes = (codeRepeat c x e.slot).bytes ∧ t.coder? e.ta = some x ∧ t.reg Reg.CCX_REPEAT = satAdd (s.reg Reg.CCX_REPEAT) 1) ∧
        (k ≠ 1 → ∀ p, slotPool? x.pools e.slot = some p →
          (∃ y q, t.coder? e.ta = some y ∧ slotPool? y.pools e.slot = some q ∧ q.lastSeq = some ((p.lastSeq.getD 0 + 1) % 256)) ∧
          t.reg Reg.CCX_REFRESH_SLICES = if k = 2 then satAdd (s.reg Reg.CCX_REFRESH_SLICES) 1 else s.reg Reg.CCX_REFRESH_SLICES)) ∧
  (∀ (chain ta wfn slot ref t0 : Nat) (s : State) (im : Image) (c : ChainRec), s.gen.running = some im → s.isSender = true →
      s.chainOf? ta = some c →
      ∃ t, exec (.refreshReq chain ta wfn slot ref t0) s = .next t ∧
        t.reg Reg.CCX_REFRESH_REQ = satAdd (s.reg Reg.CCX_REFRESH_REQ) 1 ∧
        t.ccx.refresh = (if s.follows || s.ccx.refresh.any (fun j => j.ta == ta) then s.ccx.refresh
          else s.ccx.refresh ++ [{ ta := ta, due := List.range im.timeline.nImage, ready := t0 + 200 * usT, startup := false }])) ∧
  (∀ (r : SliceIn) (s : State), r.port < 2 → s.portUp r.port = true → r.hcrcOk = true → r.rows ≠ 0 →
      (s.tick r.t).consumes r.port r.ta r.wfn = true →
      ∃ t acc, exec (.sliceRx r) s = .next t ∧
        ((s.tick r.t).decodeShed (wfn48 (s.tick r.t).wfnNow r.wfn) (r.flags % 4) = false →
          ∃ x, t.ccx.rx.getLast? = some x ∧ x.port = r.port ∧
            x.wfn = wfn48 (s.tick r.t).wfnNow r.wfn ∧ x.slot = r.flags % 4 ∧ x.flags = r.flags ∧ x.bytes = r.bytes ∧ x.fsig = r.fsig ∧
            (x.scrcOk = true ↔ crc32c r.bytes = r.scrc)) ∧
        t.reg (Reg.CHN_SCRC_ERR r.port) =
          (if crc32c r.bytes = r.scrc then s.reg (Reg.CHN_SCRC_ERR r.port) else satAdd (s.reg (Reg.CHN_SCRC_ERR r.port)) 1) ∧
        t.out = if s.forwards r.port then .receipt r.port r.ta r.flags r.wfn r.rows (crc32c r.bytes) acc :: s.out else s.out) ∧
  (∀ (r : SliceIn) (s : State), s.isTile = true → r.port < 2 → s.portUp r.port = true →
      (r.hcrcOk = true → r.rows ≠ 0 → (s.tick r.t).consumes r.port r.ta r.wfn = false) →
      ∃ t, exec (.sliceRx r) s = .next t ∧ t.ccx = s.ccx ∧
        t.reg (Reg.CHN_ROW_ERR r.port) = (if r.hcrcOk && r.rows != 0 then s.reg (Reg.CHN_ROW_ERR r.port)
          else satAdd (s.reg (Reg.CHN_ROW_ERR r.port)) 1) ∧
        t.out = if s.forwards r.port then .slice r.port r.ta r.flags r.wfn r.rows r.scrc r.fsig r.bytes :: s.out else s.out) ∧
  (∀ (wfn slot t0 : Nat) (s : State) (c : ChainRec) (r : RxSlice), s.tileChain? = some c → s.chosenSlice wfn slot = some r →
      s.laterPicture wfn slot = true → s.earlierWaits wfn slot = false →
      ∃ t, exec (.sliceDecode wfn slot t0) s = .next t ∧ t.ccx.lastDecoded = some (wfn, slot) ∧
        (∀ h cells, readSlice (c.mode == 0) (cellCount c) (fun e => (poolEntry? s.ccx.pools e).isSome) r.flags r.bytes = some (h, cells) →
          (∀ last, (slotPool? s.ccx.pools slot).bind (·.lastSeq) = some last →
            (h.seq + 256 - last) % 256 < 128 ∧ (h.kind ≠ 1 → (h.seq + 256 - last) % 256 ≠ 0)) →
          t.reg Reg.CCX_SYNTAX_ERR = s.reg Reg.CCX_SYNTAX_ERR ∧
          (h.kind = 1 → t.reg Reg.CCX_REPEAT = satAdd (s.reg Reg.CCX_REPEAT) 1 ∧ t.ccx.decoded.length = s.ccx.decoded.length + 1) ∧
          (h.kind = 2 → t.reg Reg.CCX_REFRESH_SLICES = satAdd (s.reg Reg.CCX_REFRESH_SLICES) 1)) ∧
        (readSlice (c.mode == 0) (cellCount c) (fun e => (poolEntry? s.ccx.pools e).isSome) r.flags r.bytes = none ∨
          (∃ h cells last, readSlice (c.mode == 0) (cellCount c) (fun e => (poolEntry? s.ccx.pools e).isSome) r.flags r.bytes = some (h, cells) ∧
            (slotPool? s.ccx.pools slot).bind (·.lastSeq) = some last ∧
            (128 ≤ (h.seq + 256 - last) % 256 ∨ ((h.seq + 256 - last) % 256 = 0 ∧ h.kind ≠ 1))) →
          t.reg Reg.CCX_SYNTAX_ERR = satAdd (s.reg Reg.CCX_SYNTAX_ERR) 1 ∧ t.lmp.rejected = (wfn, slot) :: s.lmp.rejected ∧
            t.ccx.decoded = s.ccx.decoded)) ∧
  (∀ (slot t0 : Nat) (s : State) (a : RefreshAsk) (tl : Timeline), s.ccx.asks.find? (fun a => a.slot == slot) = some a → a.again = false →
      s.timeline? = some tl → tl.nImage ≠ 0 → a.sentAt + 16 * periodNs tl * nsT / tl.nImage ≤ t0 →
      ∃ t, exec (.refreshReqRetry slot t0) s = .next t ∧ t.reg Reg.CCX_REFRESH_REQ = satAdd (s.reg Reg.CCX_REFRESH_REQ) 1 ∧
        t.ccx.asks = s.ccx.asks.map (fun x => if x.slot = slot then { x with again := true } else x)) ∧
  (∀ (p : Path) (s : State), s.admits p Reg.CCX_CNT_CLEAR 1 = true →
      ∃ t, exec (.ccxCntClear p) s = .next t ∧ (∀ a, t.reg a = if ccxCounter a then resetValue a else s.reg a))

/-! ### Wall time (chapter 9) -/

/-- PTP at a sender (R169 to R171, R176, R177). SYNC of the parent is counted and opens an exchange; a message with an excluded option
counts in TIM_PTP_DISCARD and leaves the clock alone. FOLLOW_UP gives its t1. DELAY_REQ goes out with t3, and not while ING_MGMT_IP is 0
or the port is not the parent's. DELAY_RESP closes the exchange: the mean path delay and the new offset; from the eighth offset on, e is
their filtered mean, and the first e with AUTO_STEP asks for a step. ANNOUNCE notes a master, qualified by its second within four
intervals with stepsRemoved below 255 (log entry 86, the model's reading), and the parent is the best of them.
ANNOUNCE_RECEIPT_TIMEOUT forgets the silent masters; with none left the state falls back. -/
def Obligations.PtpExchanges : Prop :=
  (∀ (m : PtpMsg) (s : State), s.ptpPort m.port = true → syncExcluded m = false → s.ptpFromParent m = true →
      ∃ t, exec (.sync m) s = .next t ∧ t.reg Reg.TIM_PTP_RX = satAdd (s.reg Reg.TIM_PTP_RX) 1 ∧
        t.tim.exchanges.head? = some { port := m.port, syncSeq := m.seq, t1 := if m.twoStep then none else some (m.stamp : Int),
                                       syncCorr := m.correction, t2 := (m.t : Int), reqSeq := none, t3 := 0 } ∧
        t.tim.syncLog = m.logInterval) ∧
  (∀ (m : PtpMsg) (s : State), s.ptpPort m.port = true → syncExcluded m = true →
      ∃ t, exec (.sync m) s = .next t ∧ t.reg Reg.TIM_PTP_DISCARD = satAdd (s.reg Reg.TIM_PTP_DISCARD) 1 ∧ t.tim = s.tim) ∧
  (∀ (m : PtpMsg) (s : State), s.ptpPort m.port = true → ptpExcluded m.options = true →
      (∃ t, exec (.followUp m) s = .next t ∧ t.reg Reg.TIM_PTP_DISCARD = satAdd (s.reg Reg.TIM_PTP_DISCARD) 1 ∧ t.tim = s.tim) ∧
      (∃ t, exec (.delayResp m) s = .next t ∧ t.reg Reg.TIM_PTP_DISCARD = satAdd (s.reg Reg.TIM_PTP_DISCARD) 1 ∧ t.tim = s.tim)) ∧
  (∀ (m : PtpMsg) (s : State) (x : Exchange), s.ptpPort m.port = true → ptpExcluded m.options = false → s.ptpFromParent m = true →
      s.tim.exchanges.find? (fun y => y.port == m.port && y.syncSeq == m.seq && y.t1.isNone) = some x →
      ∃ t, exec (.followUp m) s = .next t ∧
        t.tim.exchanges.head? = some { x with t1 := some (m.stamp : Int), syncCorr := x.syncCorr + m.correction }) ∧
  (∀ (port seq t0 : Nat) (s : State) (x : Exchange), s.reg Reg.ING_MGMT_IP ≠ 0 → s.ptpPort port = true →
      s.parent?.any (fun p => p.port == port) = true → s.tim.exchanges.find? (fun y => y.port == port) = some x →
      ∃ t, exec (.delayReq port seq t0) s = .next t ∧
        t.out = .delayReq port seq (s.bit Reg.TIM_PTP_CFG Fld.TIM_PTP_CFG_UNICAST_DREQ) :: s.out ∧
        t.tim.exchanges.head? = some { x with reqSeq := some seq, t3 := (t0 : Int) }) ∧
  (∀ (port seq t0 : Nat) (s : State), (s.reg Reg.ING_MGMT_IP = 0 ∨ s.ptpPort port = false ∨ s.parent?.any (fun p => p.port == port) = false) →
      ∃ t, exec (.delayReq port seq t0) s = .next t ∧ t.out = s.out ∧ t.tim = s.tim) ∧
  (∀ (m : PtpMsg) (s : State) (x : Exchange) (t1 : Int), s.ptpPort m.port = true → ptpExcluded m.options = false → s.ptpFromParent m = true →
      s.tim.exchanges.find? (fun y => y.port == m.port && y.reqSeq == some m.seq) = some x → x.t1 = some t1 →
      ∃ t, exec (.delayResp m) s = .next t ∧
        (let fwd := x.t2 - t1 - x.syncCorr
         let mpd := (fwd + ((m.stamp : Int) - m.correction - x.t3)) / 2
         let l := ((mpd + s.asymEth m.port - fwd, mpd) :: s.tim.offsets).take 8
         t.reg Reg.TIM_PTP_MPD = word (codeOf 32 (satSigned 32 (mpd / 4096))) ∧ t.tim.offsets = l ∧
          (l.length < 8 → t.tim.e = s.tim.e ∧ t.timeState = s.timeState) ∧
          (∀ e, filteredOffset l = some e → t.tim.e = some e ∧
            t.reg Reg.TIM_OFFSET = word (codeOf 32 (satSigned 32 (e / 4096))) ∧
            (s.tim.started = false → s.bit Reg.TIM_CTRL Fld.TIM_CTRL_AUTO_STEP = true → s.lockState < 3 → s.tim.step = none →
              s.formedMirror = false →
              t.tim.step = some ((Nat.max s.now m.t / usT + 1) * usT, (((Nat.max s.now m.t / usT + 1) * usT : Nat) : Int) + e))))) ∧
  (∀ (a : PtpAnnounce) (s : State), s.ptpPort a.port = true → ptpExcluded a.options = false →
      a.domain = s.get Reg.TIM_PTP_CFG Fld.TIM_PTP_CFG_DOMAIN →
      ∃ t m, exec (.ptpAnnounce a) s = .next t ∧ t.tim.masters.getLast? = some m ∧ m.port = a.port ∧ m.source = a.source ∧
        m.lastAt = a.t ∧ m.interval = ptpInterval a.logInterval ∧ m.steps = a.steps ∧
        m.qualified = (decide (a.steps < 255) &&
          (s.tim.masters.find? (fun x => x.domain == a.domain && x.port == a.port && x.source == a.source)).any
            (fun x => x.qualified || decide (a.t ≤ x.lastAt + 4 * x.interval))) ∧
        (∀ b, t.parent? = some b → t.reg Reg.TIM_PTP_GM_LO = word b.gm ∧ t.reg Reg.TIM_PTP_GM_HI = word (b.gm / 2 ^ 32) ∧
          t.get Reg.TIM_STATE Fld.TIM_STATE_SOURCE = 1 ∧ (s.timeState = 0 → t.timeState = 1))) ∧
  (∀ (a : PtpAnnounce) (s : State), s.ptpPort a.port = true → ptpExcluded a.options = true →
      ∃ t, exec (.ptpAnnounce a) s = .next t ∧ t.reg Reg.TIM_PTP_DISCARD = satAdd (s.reg Reg.TIM_PTP_DISCARD) 1 ∧ t.tim = s.tim) ∧
  (∀ (t0 : Nat) (s : State), s.isSender = true →
      ∃ t, exec (.announceReceiptTimeout t0) s = .next t ∧
        t.tim.masters = s.tim.masters.filter (fun m =>
          decide (t0 < m.lastAt + s.get Reg.TIM_PTP_CFG Fld.TIM_PTP_CFG_ANN_TIMEOUT * m.interval))) ∧
  (∀ (t0 : Nat) (s : State), s.isSender = true →
      (∀ m ∈ s.tim.masters, m.lastAt + s.get Reg.TIM_PTP_CFG Fld.TIM_PTP_CFG_ANN_TIMEOUT * m.interval ≤ t0) →
      ∃ t, exec (.announceReceiptTimeout t0) s = .next t ∧ t.tim.masters = [] ∧ t.get Reg.TIM_STATE Fld.TIM_STATE_SOURCE = 0 ∧
        (s.timeState = 2 → t.timeState = 3 ∧ t.bit Reg.TIM_STATE Fld.TIM_STATE_LOCK_LOST = true) ∧
        (s.timeState = 1 → t.timeState = 0 ∧ t.tim.yp = 0))

/-- Time along a chain (R172, R173, R175, R177). TIME gives a tile e from its shown port; another TAG of the same stream sets the time
directly. TIME_SEND queues the message with the row's departure stamp, once and within 4,096 superframes of the row. PHASE_SLEW_TIMEOUT
ends the phase slew after 4 expected intervals without an e, HOLDOVER_EXPIRY the holdover after HOLDOVER_S, TIME_MESSAGE_TIMEOUT the lock
of a tile after 64 expected intervals; before those times they change nothing. -/
def Obligations.TimeRunsAlongTheChain : Prop :=
  (∀ (m : TimeMsg) (s : State) (q f arr corr : Nat), s.shownPort = some m.port → s.portUp m.port = true →
      s.chn.timeRows.find? (fun r => r.1 == m.port && r.2.1 == m.sfn) = some (q, f, arr, corr) → s.tim.started = true →
      (s.tim.tagPort = some m.port → s.get Reg.TIM_STATE Fld.TIM_STATE_EPOCH = m.tag % 256) →
      ∃ t, exec (.time m) s = .next t ∧ t.now = Nat.max s.now m.t ∧ t.tim.timeAt = m.t ∧ t.tim.tagPort = some m.port ∧
        t.tim.e = some ((m.departs : Int) + ((corr : Int) + s.lastDelay m.port) * 256 - arr) ∧
        t.get Reg.TIM_STATE Fld.TIM_STATE_EPOCH = m.tag % 256) ∧
  (∀ (m : TimeMsg) (s : State) (q f arr corr : Nat), s.shownPort = some m.port → s.portUp m.port = true →
      s.chn.timeRows.find? (fun r => r.1 == m.port && r.2.1 == m.sfn) = some (q, f, arr, corr) →
      (s.tim.started = false ∨ (s.tim.tagPort = some m.port ∧ s.get Reg.TIM_STATE Fld.TIM_STATE_EPOCH ≠ m.tag % 256)) →
      ∃ t, exec (.time m) s = .next t ∧ t.tim.e = some 0 ∧ t.get Reg.TIM_STATE Fld.TIM_STATE_EPOCH = m.tag % 256 ∧
        t.now = ((Nat.max s.now m.t : Nat) + ((m.departs : Int) + ((corr : Int) + s.lastDelay m.port) * 256 - arr)).toNat) ∧
  (∀ (m : TimeMsg) (s : State), (s.shownPort ≠ some m.port ∨ s.portUp m.port = false) →
      ∃ t, exec (.time m) s = .next t ∧ t.tim = s.tim ∧ t.regs = s.regs) ∧
  (∀ (chain sfn t0 q f d : Nat) (s : State), s.isSender = true →
      s.chn.timeOwed.find? (fun r => r.1 == chain && r.2.1 == sfn) = some (q, f, d) →
      (tabGet s.chn.sfn chain + 65536 - sfn % 65536) % 65536 ≤ 4096 →
      ∃ t, exec (.timeSend chain sfn t0) s = .next t ∧ t.chn.timeOwed = s.chn.timeOwed.filter (fun r => r.1 != chain) ∧
        t.chn.tx.getLast?.map (fun x => (x.port, x.bytes)) = some (chain,
          messageBytes Msg.TIME (1 + 4 * s.side) 0xFF (s.get Reg.TIM_STATE Fld.TIM_STATE_EPOCH)
            (leBytes 2 sfn ++ leBytes 6 (d / nsT / 1000000000) ++ leBytes 4 (d / nsT % 1000000000) ++ leBytes 2 (d % 65536)))) ∧
  (∀ (chain sfn t0 : Nat) (s : State),
      (s.chn.timeOwed.find? (fun r => r.1 == chain && r.2.1 == sfn) = none ∨
        4096 < (tabGet s.chn.sfn chain + 65536 - sfn % 65536) % 65536) →
      ∃ t, exec (.timeSend chain sfn t0) s = .next t ∧ t.chn = s.chn) ∧
  (∀ (t0 : Nat) (s : State), s.tim.eAt + 4 * s.offsetInterval ≤ t0 →
      ∃ t, exec (.phaseSlewTimeout t0) s = .next t ∧ t.tim = { s.tim with yp := 0 } ∧ t.regs = s.regs) ∧
  (∀ (t0 : Nat) (s : State), t0 < s.tim.eAt + 4 * s.offsetInterval →
      ∃ t, exec (.phaseSlewTimeout t0) s = .next t ∧ t.tim = s.tim ∧ t.regs = s.regs) ∧
  (∀ (t0 : Nat) (s : State), s.timeState = 3 → s.tim.holdoverAt + s.get Reg.TIM_CTRL Fld.TIM_CTRL_HOLDOVER_S * secT ≤ t0 →
      ∃ t, exec (.holdoverExpiry t0) s = .next t ∧ t.timeState = 4) ∧
  (∀ (t0 : Nat) (s : State), t0 < s.tim.holdoverAt + s.get Reg.TIM_CTRL Fld.TIM_CTRL_HOLDOVER_S * secT →
      ∃ t, exec (.holdoverExpiry t0) s = .next t ∧ t.timeState = s.timeState ∧ t.tim = s.tim) ∧
  (∀ (t0 p : Nat) (s : State), s.isTile = true → s.shownPort = some p → s.tim.timeAt + 64 * s.timeInterval p ≤ t0 → s.timeState = 2 →
      ∃ t, exec (.timeMessageTimeout t0) s = .next t ∧ t.timeState = 3 ∧ t.bit Reg.TIM_STATE Fld.TIM_STATE_LOCK_LOST = true ∧
        t.tim.holdoverAt = Nat.max s.now t0) ∧
  (∀ (t0 p : Nat) (s : State), s.isTile = true → s.shownPort = some p → s.tim.timeAt + 64 * s.timeInterval p ≤ t0 → s.timeState = 1 →
      ∃ t, exec (.timeMessageTimeout t0) s = .next t ∧ t.timeState = 1 ∧ t.tim.yp = 0) ∧
  (∀ (t0 p : Nat) (s : State), s.shownPort = some p → t0 < s.tim.timeAt + 64 * s.timeInterval p →
      ∃ t, exec (.timeMessageTimeout t0) s = .next t ∧ t.tim = s.tim ∧ t.regs = s.regs)

/-- Steps (R176). TIME_STEP outside RUNNING, by no tile and no mirror of a formed pair, is accepted for the next 1 µs boundary of the old time and
takes ARMED back to WAIT_TIME; in RUNNING, with a step waiting, and at the mirror it is rejected. STEP_BOUNDARY moves the time, raises EPOCH and sets STEP_DONE. STEP_RECORD is
the mirror's. -/
def Obligations.StepsMoveWallTime : Prop :=
  (∀ (p : Path) (data : Word) (s : State), s.admits p Reg.TIM_CTRL data = true → s.isTile = false → s.formedMirror = false →
      bitOf data 0 = true → fieldOf data 4 8 ≠ 0 → fieldOf data 12 17 ≠ 0 → fieldOf data 12 17 ≤ 86400 → s.tim.step = none →
      s.lockState ≠ 3 → (bitOf data 1 = true → s.get Reg.TIM_STATE Fld.TIM_STATE_SOURCE = 0) →
      ∃ t, exec (.timeStep p data) s = .next t ∧
        (let b := (s.now / usT + 1) * usT
         t.tim.step = some (b, if bitOf data 1 then
            ((((s.reg Reg.TIM_SET_S_LO).toNat + (s.reg Reg.TIM_SET_S_HI).toNat % 65536 * 2 ^ 32) * secT +
              (s.reg Reg.TIM_SET_NS).toNat % 2 ^ 30 * nsT : Nat) : Int) else (b : Int) + s.tim.e.getD 0)) ∧
        t.now = s.now ∧ (s.lockState = 2 → t.lockState = 1)) ∧
  (∀ (p : Path) (data : Word) (s : State), s.admits p Reg.TIM_CTRL data = true → bitOf data 0 = true → fieldOf data 4 8 ≠ 0 →
      fieldOf data 12 17 ≠ 0 → fieldOf data 12 17 ≤ 86400 →
      (s.lockState = 3 ∨ s.tim.step.isSome = true ∨ s.formedMirror = true ∨
        (bitOf data 1 = true ∧ s.get Reg.TIM_STATE Fld.TIM_STATE_SOURCE ≠ 0)) →
      ∃ t, exec (.timeStep p data) s = .next t ∧ t.bit Reg.TIM_STATE Fld.TIM_STATE_STEP_REJ = true ∧ t.now = s.now ∧
        t.tim = s.tim ∧ t.lockState = s.lockState) ∧
  (∀ (s : State) (b : Nat) (v : Int), s.tim.step = some (b, v) →
      ∃ t, exec .stepBoundary s = .next t ∧ t.now = v.toNat ∧ t.tim.step = none ∧ t.tim.e = none ∧ t.tim.offsets = [] ∧
        t.get Reg.TIM_STATE Fld.TIM_STATE_EPOCH = (s.get Reg.TIM_STATE Fld.TIM_STATE_EPOCH + 1) % 256 ∧
        t.bit Reg.TIM_STATE Fld.TIM_STATE_STEP_DONE = true) ∧
  (∀ (epoch boundary t0 : Nat) (s : State), s.formedMirror = true → s.tim.step = none →
      ∃ t v, exec (.stepRecord epoch boundary t0) s = .next t ∧ t.tim.step = some (boundary, v) ∧
        (t.get Reg.TIM_STATE Fld.TIM_STATE_EPOCH + 1) % 256 = epoch % 256)

/-- Pulse units (R179, R180). PULSE_ENABLE of a ONCE unit whose START lies 1 µs ahead, or of a PERIODIC unit whose WIDTH leaves 4 ns of
its PERIOD, or of a FRAME unit whose WIDTH, OFFSET and PHASE fit its DIVIDE, runs it; MODE 3 is refused with ERR. PULSE_DISABLE lets a pulse in progress run out. PULSE_EDGE drives the pin or skips the
edge with MISSED; PULSE_END drives it back. Capture units and the time registers (R181, R182). CAPTURE_EDGE, a change of the
pin's level that holds for 3 ns or more, stores a stamp of 0.125 ns, and counts it lost when the store holds 16 or the last one lies
within 20 ns; a shorter pulse stores nothing. CAPTURE_POP answers FRAC and removes the head; TIME_NOW_LATCH latches the
time for its path. TIM_CNT_CLEAR clears the block's counters alone. -/
def Obligations.PulsesAndCaptures : Prop :=
  (∀ (p : Path) (u : Nat) (data : Word) (s : State), u < 8 → s.admits p (Reg.TIM_OUT_CTRL u) data = true → bitOf data 0 = true →
      s.bit (Reg.TIM_OUT_CTRL u) Fld.TIM_OUT_CTRL_ENABLE = false → fieldOf data 1 2 = 0 → 4 ≤ (s.reg (Reg.TIM_OUT_WIDTH u)).toNat →
      s.now + usT ≤ s.pulseStart u →
      ∃ t, exec (.pulseEnable p u data) s = .next t ∧ t.bit (Reg.TIM_OUT_CTRL u) Fld.TIM_OUT_CTRL_ENABLE = true ∧
        t.bit (Reg.TIM_OUT_CTRL u) Fld.TIM_OUT_CTRL_ERR = false ∧ (t.pulse? u).bind (·.next) = some (s.pulseStart u)) ∧
  (∀ (p : Path) (u : Nat) (data : Word) (s : State), u < 8 → s.admits p (Reg.TIM_OUT_CTRL u) data = true → bitOf data 0 = true →
      s.bit (Reg.TIM_OUT_CTRL u) Fld.TIM_OUT_CTRL_ENABLE = false → fieldOf data 1 2 = 1 → 4 ≤ (s.reg (Reg.TIM_OUT_WIDTH u)).toNat →
      (s.reg (Reg.TIM_OUT_WIDTH u)).toNat * (if bitOf data 8 then 16 else 1) * nsT + 4 * nsT ≤ s.pulsePeriod u →
      ∃ t, exec (.pulseEnable p u data) s = .next t ∧ t.bit (Reg.TIM_OUT_CTRL u) Fld.TIM_OUT_CTRL_ENABLE = true ∧
        (t.pulse? u).bind (·.next) = some (periodicEdge (s.pulseStart u) (s.pulsePeriod u) (s.now + usT)) ∧
        (t.pulse? u).map (·.left) = some ((s.reg (Reg.TIM_OUT_COUNT u)).toNat % 2 ^ 24)) ∧
  (∀ (p : Path) (u : Nat) (data : Word) (s : State) (tl : Timeline), u < 8 → s.admits p (Reg.TIM_OUT_CTRL u) data = true →
      bitOf data 0 = true → s.bit (Reg.TIM_OUT_CTRL u) Fld.TIM_OUT_CTRL_ENABLE = false → fieldOf data 1 2 = 2 →
      4 ≤ (s.reg (Reg.TIM_OUT_WIDTH u)).toNat → s.timeline? = some tl →
      (s.reg (Reg.TIM_OUT_WIDTH u)).toNat * (if bitOf data 8 then 16 else 1) * nsT + 4 * nsT ≤
        periodNs tl * nsT * (fieldOf (s.reg (Reg.TIM_OUT_PER u)) 0 8 + 1) →
      s.pulseOffset u < periodNs tl * nsT → fieldOf (s.reg (Reg.TIM_OUT_PER u)) 8 8 ≤ fieldOf (s.reg (Reg.TIM_OUT_PER u)) 0 8 →
      ∃ t, exec (.pulseEnable p u data) s = .next t ∧ t.bit (Reg.TIM_OUT_CTRL u) Fld.TIM_OUT_CTRL_ENABLE = true ∧
        (t.pulse? u).bind (·.next) = some (frameEdge tl (s.pulseOffset u) (fieldOf (s.reg (Reg.TIM_OUT_PER u)) 0 8)
          (fieldOf (s.reg (Reg.TIM_OUT_PER u)) 8 8) (s.now + 1))) ∧
  (∀ (p : Path) (u : Nat) (data : Word) (s : State), u < 8 → s.admits p (Reg.TIM_OUT_CTRL u) data = true → bitOf data 0 = true →
      s.bit (Reg.TIM_OUT_CTRL u) Fld.TIM_OUT_CTRL_ENABLE = false → fieldOf data 1 2 = 3 →
      ∃ t, exec (.pulseEnable p u data) s = .next t ∧ t.bit (Reg.TIM_OUT_CTRL u) Fld.TIM_OUT_CTRL_ENABLE = false ∧
        t.bit (Reg.TIM_OUT_CTRL u) Fld.TIM_OUT_CTRL_ERR = true ∧ t.tim = s.tim) ∧
  (∀ (p : Path) (u : Nat) (data : Word) (s : State) (x : Pulse), u < 8 → s.admits p (Reg.TIM_OUT_CTRL u) data = true →
      bitOf data 0 = false → s.bit (Reg.TIM_OUT_CTRL u) Fld.TIM_OUT_CTRL_ENABLE = true → s.pulse? u = some x →
      ∃ t, exec (.pulseDisable p u data) s = .next t ∧ t.bit (Reg.TIM_OUT_CTRL u) Fld.TIM_OUT_CTRL_ENABLE = false ∧
        t.pulse? u = some { x with next := none }) ∧
  (∀ (u e : Nat) (s : State) (x : Pulse), s.pulse? u = some x → x.next = some e →
      (s.bit (Reg.TIM_OUT_CTRL u) Fld.TIM_OUT_CTRL_REQUIRE_VALID = true → s.timeValid = true) →
      ∃ t, exec (.pulseEdge u) s = .next t ∧ t.bit (Reg.TIM_OUT_CTRL u) Fld.TIM_OUT_CTRL_ACTIVE = true ∧
        t.out = .timeOut u (!s.bit (Reg.TIM_OUT_CTRL u) Fld.TIM_OUT_CTRL_POLARITY) :: s.out ∧
        (t.pulse? u).bind (·.endAt) = some (e + s.pulseWidth u) ∧
        (s.pulseMode u = 1 → x.left = 1 → t.bit (Reg.TIM_OUT_CTRL u) Fld.TIM_OUT_CTRL_ENABLE = false)) ∧
  (∀ (u e : Nat) (s : State) (x : Pulse), s.pulse? u = some x → x.next = some e →
      s.bit (Reg.TIM_OUT_CTRL u) Fld.TIM_OUT_CTRL_REQUIRE_VALID = true → s.timeValid = false →
      ∃ t, exec (.pulseEdge u) s = .next t ∧ t.out = s.out ∧ t.bit (Reg.TIM_OUT_CTRL u) Fld.TIM_OUT_CTRL_MISSED = true ∧
        (t.pulse? u).map (·.left) = some x.left) ∧
  (∀ (u e : Nat) (s : State) (x : Pulse), s.pulse? u = some x → x.endAt = some e →
      ∃ t, exec (.pulseEnd u) s = .next t ∧ t.bit (Reg.TIM_OUT_CTRL u) Fld.TIM_OUT_CTRL_ACTIVE = false ∧
        t.out = .timeOut u (s.bit (Reg.TIM_OUT_CTRL u) Fld.TIM_OUT_CTRL_POLARITY) :: s.out ∧
        t.pulse? u = some { x with endAt := none }) ∧
  (∀ (u t0 holds : Nat) (falling : Bool) (s : State), bitOf (s.reg (Reg.TIM_IN_CTRL u)) 0 = true →
      bitOf (s.reg (Reg.TIM_IN_CTRL u)) (if falling then 2 else 1) = true → 3 * nsT ≤ holds →
      tabGet s.tim.inLevel u ≠ (if falling then 1 else 2) →
      (tabGet s.tim.lastEdge u = 0 ∨ tabGet s.tim.lastEdge u + 20 * nsT ≤ t0) → (s.captures u).length < 16 →
      ∃ t, exec (.captureEdge u falling ⟨t0, holds⟩) s = .next t ∧ t.regs = s.regs ∧
        t.captures u = s.captures u ++
          [{ t := t0 / 8192 * 8192, falling := falling, epoch := s.get Reg.TIM_STATE Fld.TIM_STATE_EPOCH }]) ∧
  (∀ (u t0 holds : Nat) (falling : Bool) (s : State), bitOf (s.reg (Reg.TIM_IN_CTRL u)) 0 = true →
      bitOf (s.reg (Reg.TIM_IN_CTRL u)) (if falling then 2 else 1) = true → 3 * nsT ≤ holds →
      tabGet s.tim.inLevel u ≠ (if falling then 1 else 2) →
      (16 ≤ (s.captures u).length ∨ (tabGet s.tim.lastEdge u ≠ 0 ∧ t0 < tabGet s.tim.lastEdge u + 20 * nsT)) →
      ∃ t, exec (.captureEdge u falling ⟨t0, holds⟩) s = .next t ∧ t.captures u = s.captures u ∧
        t.reg (Reg.TIM_IN_OVF u) = satAdd (s.reg (Reg.TIM_IN_OVF u)) 1) ∧
  (∀ (u t0 holds : Nat) (falling : Bool) (s : State), holds < 3 * nsT →
      ∃ t, exec (.captureEdge u falling ⟨t0, holds⟩) s = .next t ∧ t.tim = s.tim ∧ t.regs = s.regs) ∧
  (∀ (p : Path) (u : Nat) (s : State), u < 8 → s.regPathOpen p = true → s.blockAnswers (Reg.TIM_IN_FRAC u) = true →
      ∃ t, exec (.capturePop p u) s = .next t ∧
        t.out = .readData (leBytes 4 (((s.captures u).head?.map (fun x => x.t % 65536)).getD 0)) :: s.out ∧
        t.captures u = (s.captures u).tail) ∧
  (∀ (p : Path) (s : State), s.regPathOpen p = true → s.blockAnswers Reg.TIM_NOW_S_LO = true →
      ∃ t, exec (.timeNowLatch p) s = .next t ∧ t.out = .readData (leBytes 4 (s.now / secT % 2 ^ 32)) :: s.out ∧
        t.timeLatched (latchKey p) = s.now) ∧
  (∀ (p : Path) (s : State), s.admits p Reg.TIM_CNT_CLEAR 1 = true →
      ∃ t, exec (.timCntClear p) s = .next t ∧ (∀ a, t.reg a = if timCounter a then resetValue a else s.reg a))


/-! ### Frame lock, frame starts and chain windows (chapters 2 and 10) -/

/-- Frame numbering (R168): the start of frame F is W(F) = floor(F × DEN × 10⁹ × 2¹⁶ / NUM) units after the epoch, and the WFN at wall
time t is the F for which W(F) ≤ t < W(F + 1), at every sender and tile by the same formula; at 120/1 frame 210,000,000,000 starts at
1,750,000,000 s exactly and the next one 8,333,333 ns and 21,845 units later. -/
def Obligations.FrameNumbersFollowWallTime : Prop :=
  (∀ (tl : Timeline) (f : Nat), frameStart tl f = f * tl.den * (10 ^ 9 * 2 ^ 16) / tl.num) ∧
  (∀ (tl : Timeline) (t f : Nat), 0 < tl.num → 0 < tl.den →
      (wfnAt tl t = f ↔ frameStart tl f ≤ t ∧ t < frameStart tl (f + 1))) ∧
  (∀ (s : State) (im : Image), s.image? = some im → s.wfnNow = wfnAt im.timeline s.now) ∧
  (∀ (tl : Timeline), tl.num = 120 → tl.den = 1 → frameStart tl 210000000000 = 1750000000 * secT ∧
      frameStart tl 210000000001 = 1750000000 * secT + 8333333 * nsT + 21845)

/-- A run starts (R191 to R193). START_CONDITION: in WAIT_TIME with no step waiting, a sender with TIME_VALID or START_FREE, a tile LOCKED
with its shown port UP, and a formed mirror told by its primary choose F0 and are ARMED; F0 is the least F with W(F - 1) at least 2 ms
(a tile 1 ms) ahead. RUN_START, once no load of an activation is owed, enters RUNNING, or HELD while the held state is in force, and counts the run.
ALIGNED_RISE shows a LOCKED tile whose shown port has been UP for 1 s aligned (R187). -/
def Obligations.RunsAreArmedAndStarted : Prop :=
  (∀ (tl : Timeline) (t d f : Nat), 0 < tl.num → 0 < tl.den → tl.num ≤ tl.den * secT →
      t + d ≤ frameStart tl (startFrame tl t d - 1) ∧ (1 ≤ f → t + d ≤ frameStart tl (f - 1) → startFrame tl t d ≤ f)) ∧
  (∀ (t0 : Nat) (s : State) (im : Image), s.image? = some im → im.role = .sender → s.lockState = 1 → s.tim.step = none →
      s.formedMirror = false → (s.timeValid = true ∨ s.bit Reg.FLK_CTRL Fld.FLK_CTRL_START_FREE = true) →
      ∃ t, exec (.startCondition t0 none) s = .next t ∧ t.lockState = 2 ∧ t.flk.f0 = startFrame im.timeline t0 (2 * msT) ∧
        t.bit Reg.FLK_STATE Fld.FLK_STATE_FREE_RUN = (!s.timeValid) ∧ t.reg Reg.FLK_START_WFN_LO = loWord t.flk.f0) ∧
  (∀ (t0 f : Nat) (s : State) (im : Image), s.image? = some im → im.role = .sender → s.lockState = 1 → s.tim.step = none →
      s.formedMirror = true →
      ∃ t, exec (.startCondition t0 (some f)) s = .next t ∧ t.lockState = 2 ∧ t.flk.f0 = f) ∧
  (∀ (t0 : Nat) (s : State) (im : Image), s.image? = some im → im.role = .tile → s.lockState = 1 → s.tim.step = none →
      s.timeState = 2 → s.shownPort.any s.portUp = true →
      ∃ t, exec (.startCondition t0 none) s = .next t ∧ t.lockState = 2 ∧ t.flk.f0 = startFrame im.timeline t0 msT) ∧
  (∀ (s : State) (im : Image), s.image? = some im → s.lockState = 2 → s.gen.loadDue = false →
      ∃ t, exec .runStart s = .next t ∧ t.lockState = (if s.heldAt (s.flk.f0 - 1) then 4 else 3) ∧
        t.now = Nat.max s.now (frameStart im.timeline (s.flk.f0 - 1)) ∧ t.reg Reg.FLK_RUNS = satAdd (s.reg Reg.FLK_RUNS) 1) ∧
  (∀ (t0 p u : Nat) (s : State) (x : PortSt), s.isTile = true → s.timeState = 2 → s.shownPort = some p → s.portUp p = true →
      s.chn.ports.find? (fun y => y.port == p) = some x → x.upAt = some u → u + secT ≤ t0 →
      ∃ t, exec (.alignedRise t0) s = .next t ∧ t.bit Reg.FLK_STATE Fld.FLK_STATE_ALIGNED = true ∧ t.aligned = true) ∧
  (∀ (t0 : Nat) (s : State), (s.isTile = false ∨ s.timeState ≠ 2 ∨ s.shownPort.any s.portUp = false) →
      ∃ t, exec (.alignedRise t0) s = .next t ∧ t.regs = s.regs) ∧
  (∀ (p : Path) (s : State), s.admits p Reg.FLK_CNT_CLEAR 1 = true →
      ∃ t, exec (.flkCntClear p) s = .next t ∧ (∀ a, t.reg a = if flkCounter a then resetValue a else s.reg a))

/-- FRAME_START brings wall time to W(F) (R168); with no standby entry waiting the held state begins or ends with the frame (R358, Table
10.6). CHAIN_WINDOW_OPEN: a sender takes the latest complete picture of every stream (R20, R115); a tile selects its port, west before
east (R283). The held state's messages (R358): a tile's HOLD takes it into the held state from W(F) on, its RELEASE out of it; a formed mirror sends
the message of its primary on its own chains; HOLD_MESSAGE_REPEAT sends the second and the third copy on every chain 500 µs and 1 ms after acceptance. -/
def Obligations.FramesWindowsAndHoldsCome : Prop :=
  (∀ (wfn : Nat) (s : State) (im : Image), s.image? = some im → s.umb.entry = none →
      ∃ t, exec (.frameStart wfn) s = .next t ∧ t.now = Nat.max s.now (frameStart im.timeline wfn) ∧
        (s.lockState = 3 → t.lockState = if s.heldAt wfn then 4 else 3) ∧
        (s.lockState = 4 → t.lockState = if s.heldAt wfn then 4 else 3)) ∧
  (∀ (wfn slot : Nat) (s : State) (im : Image), s.image? = some im → im.role = .sender → slot < im.timeline.nImage →
      s.red.resync = false →
      ∃ t, exec (.chainWindowOpen wfn slot) s = .next t ∧
        t.cmp.windows.getLast?.map (fun w => (w.wfn, w.slot, w.pics)) = some (wfn, slot,
            ((s.tick (windowOpen im.timeline wfn slot)).promoteAnnounced wfn slot (windowOpen im.timeline wfn slot)).latestPics)) ∧
  (∀ (wfn slot : Nat) (s : State) (im : Image), s.image? = some im → im.role = .tile → slot < im.timeline.nImage →
      ∃ t, exec (.chainWindowOpen wfn slot) s = .next t ∧
        t.shownPort = (if s.portEligible 0 then some 0 else if s.portEligible 1 then some 1 else none) ∧
        (t.shownPort ≠ s.shownPort → s.selCode < 3 → t.reg Reg.RED_SWITCHES = satAdd (s.reg Reg.RED_SWITCHES) 1)) ∧
  (∀ (wfn t0 : Nat) (s : State), s.isTile = true → s.flk.heldFrom = none → s.flk.ahead = [] →
      ∃ t, exec (.holdMessage 0 wfn t0) s = .next t ∧ t.flk.heldFrom = some wfn ∧ t.flk.heldTo = none ∧ t.heldAt wfn = true) ∧
  (∀ (wfn t0 a : Nat) (s : State), s.isTile = true → s.flk.heldFrom = some a → s.flk.heldTo = none → s.flk.ahead = [] →
      ∃ t, exec (.holdMessage 1 wfn t0) s = .next t ∧ t.flk.heldFrom = some a ∧ t.flk.heldTo = some wfn ∧ t.heldAt wfn = false) ∧
  (∀ (kind wfn t0 : Nat) (s : State), s.isSender = true → s.formedMirror = true → kind < 2 →
      ∃ t, exec (.holdMessage kind wfn t0) s = .next t ∧ t.flk.holdSends =
        s.flk.holdSends ++ [{ kind := kind, wfn := wfn, t := Nat.max s.now t0, sends := 1 }] ∧
        t.chn.tx = s.chn.tx ++ s.chains.map (fun c =>
          { port := c.chain, bytes := messageBytes Msg.HOLD (1 + 4 * s.side) 0xFF 0 (holdBody kind wfn), sent := 0 })) ∧
  (∀ (t0 : Nat) (h : HoldSend) (s : State), s.flk.holdSends = [h] → h.sends < 3 → h.t + h.sends * 500 * usT ≤ t0 →
      ∃ t, exec (.holdMessageRepeat t0) s = .next t ∧
        t.chn.tx = s.chn.tx ++ s.chains.map (fun c =>
          { port := c.chain, bytes := messageBytes Msg.HOLD (1 + 4 * s.side) 0xFF 0 (holdBody h.kind h.wfn), sent := 0 }) ∧
        t.flk.holdSends = if h.sends = 2 then [] else [{ h with sends := h.sends + 1 }])


/-! ### Emitter correction (chapter 11) -/

/-- A tile's CORRECTION_TICK starts a recompute at the cells' temperatures, sets NO_TEMP where no channel takes part, and is deferred and
counted while one runs (R200, R202); RECOMPUTE_COMPLETE leaves a finished live set, once the background work the
image declares for it is done. BANK_SWAP (R206), FADE_ARM (R209) and EMC_CNT_CLEAR
are register writes: the exchange is pending, the target armed for EMC_FADE_WFN, the counters cleared. A ramp moves from the old live set
to the new one (R203, R204): outside a ramp the effective record is the new one; in a ramp of R pictures from F1, picture F1 + j - 1 uses
r_j = floor(65,536 j / R), which rises to 65,536 at j = R. -/
def Obligations.CorrectionIsRecomputedAndFaded : Prop :=
  (∀ (t0 : Nat) (s : State), s.isTile = true → t0 % (100000000 * nsT) = 0 → s.recomputeBusy = true →
      ∃ t, exec (.correctionTick t0) s = .next t ∧ t.reg Reg.EMC_RECOMP_DEFER = satAdd (s.reg Reg.EMC_RECOMP_DEFER) 1 ∧
        t.bit Reg.EMC_STATE Fld.EMC_STATE_DEFERRED = true ∧ t.emc.running = s.emc.running ∧ t.emc.deferred = true) ∧
  (∀ (t0 : Nat) (s : State) (th : List Int), s.isTile = true → t0 % (100000000 * nsT) = 0 → s.recomputeBusy = false →
      s.cellThetas = some th →
      ∃ t, exec (.correctionTick t0) s = .next t ∧ t.emc.running = some { set := s.emc.accepted, theta := some th } ∧
        t.emc.theta = th ∧ t.bit Reg.EMC_STATE Fld.EMC_STATE_NO_TEMP = false) ∧
  (∀ (t0 : Nat) (s : State), s.isTile = true → t0 % (100000000 * nsT) = 0 → s.recomputeBusy = false → s.cellThetas = none →
      ∃ t, exec (.correctionTick t0) s = .next t ∧ t.emc = s.emc ∧ t.bit Reg.EMC_STATE Fld.EMC_STATE_NO_TEMP = true) ∧
  (∀ (t0 : Nat) (s : State) (l : LiveSet), s.emc.running = some l → s.workLeft 0 = false →
      ∃ t, exec (.recomputeComplete t0) s = .next t ∧ t.emc.running = none ∧ t.emc.finished = some (l, t0) ∧ t.regs = s.regs) ∧
  (∀ (t0 : Nat) (s : State), (s.emc.running = none ∨ s.workLeft 0 = true) →
      ∃ t, exec (.recomputeComplete t0) s = .next t ∧ t.emc = s.emc ∧ t.regs = s.regs) ∧
  (∀ (p : Path) (data : Word) (s : State), s.admits p Reg.EMC_CTRL data = true → bitOf data 3 = true → fieldOf data 1 2 ≠ 3 →
      8 ≤ fieldOf data 8 8 →
      ∃ t, exec (.bankSwap p data) s = .next t ∧ t.bit Reg.EMC_STATE Fld.EMC_STATE_SWAP_PENDING = true ∧ t.bank = s.bank ∧
        t.get Reg.EMC_CTRL Fld.EMC_CTRL_RAMP_FRAMES = fieldOf data 8 8) ∧
  (∀ (p : Path) (data : Word) (s : State), s.admits p Reg.EMC_FADE_CTRL data = true → bitOf data 29 = true → fieldOf data 16 13 ≤ 4096 →
      ∃ t, exec (.fadeArm p data) s = .next t ∧ t.emc.armed = some (fieldOf data 0 13, (s.reg Reg.EMC_FADE_WFN).toNat) ∧
        t.emc.fade = s.emc.fade) ∧
  (∀ (p : Path) (s : State), s.admits p Reg.EMC_CNT_CLEAR 1 = true →
      ∃ t, exec (.emcCntClear p) s = .next t ∧ (∀ a, t.reg a = if emcCounter a then resetValue a else s.reg a)) ∧
  (∀ (e : Nat) (p : EmcSample) (x y : Nat), 65536 ≤ p.r → effectiveRecord e p x y = liveRecord e p.new x y) ∧
  (∀ (s : State) (f1 r j : Nat), s.emc.ramp = some (f1, r) → 1 ≤ j → j ≤ r → s.rampStep (f1 + j - 1) = 65536 * j / r) ∧
  (∀ (s : State) (f1 r j k : Nat), s.emc.ramp = some (f1, r) → 1 ≤ j → j ≤ k →
      s.rampStep (f1 + j - 1) ≤ s.rampStep (f1 + k - 1) ∧ s.rampStep (f1 + k - 1) ≤ 65536)

/-- The live record brackets the cell's temperature and never extrapolates (R201): with one point or θ ≤ T[0] every field is point 0's,
with θ ≥ T[POINTS - 1] the last point's, and between T[k] and T[k + 1] field f is
f_k + ((f_(k+1) - f_k) × α + 32,768) >> 16 with α = floor((θ - T[k]) × 65,536 / (T[k + 1] - T[k])). The points rise by at least 1 °C, as
R197 has it of every set. -/
def Obligations.LiveRecordsBracketTheTemperature : Prop :=
  ∀ (e : Nat) (l : LiveSet) (c : CalSet) (th : List Int) (x y : Nat), l.set = some c → l.theta = some th → 1 ≤ c.points →
    c.temps.length = c.points → (∀ k, k + 1 < c.points → c.temps.getD k 0 + 16 ≤ c.temps.getD (k + 1) 0) →
    let θ := th.getD (y / 16 * (c.width / 16) + x / 16) 0
    let T := fun k => c.temps.getD k 0
    let f := fun k j => (c.record k x y).getD j 0
    ((c.points = 1 ∨ θ ≤ T 0) → liveRecord e l x y = c.record 0 x y) ∧
    (T (c.points - 1) ≤ θ → liveRecord e l x y = c.record (c.points - 1) x y) ∧
    (∀ k j, k + 1 < c.points → T k ≤ θ → θ < T (k + 1) → j < 16 →
      let α := (θ - T k) * 65536 / (T (k + 1) - T k)
      (liveRecord e l x y).getD j 0 = f k j + ((f (k + 1) j - f k j) * α + 32768) / 65536)

/-- Temporal dither (R211): with DITHER_EN 1 the glint value is min((v + t) >> 4, 65,535) with the threshold
t = (B[y & 3][x & 3] + 5 × (F mod 16) + 4 × e) mod 16, with DITHER_EN 0 t is 8; v is the 20-bit value the gain stage gives. Each emitter
meets every threshold in any 16 consecutive WFNs, and for v below 2²⁰ − 15 the 16 values sum to v: no light is lost. -/
def Obligations.DitherAveragesExactly : Prop :=
  ∀ (p : EmcSample) (rec : List Int) (l : List Nat) (x y e : Nat),
    let v := emitterGained p rec l e
    let b := (([[0, 8, 2, 10], [12, 4, 14, 6], [3, 11, 1, 9], [15, 7, 13, 5]] : List (List Nat)).getD (y % 4) []).getD (x % 4) 0
    let t := fun f => (b + 5 * (f % 16) + 4 * e) % 16
    (∀ f, emitterValue { p with wfn := f, dither := true } rec l x y e = Nat.min ((v + t f) / 16) 65535) ∧
    (∀ f, emitterValue { p with wfn := f, dither := false } rec l x y e = Nat.min ((v + 8) / 16) 65535) ∧
    (∀ f n, n < 16 → ∃ k, k < 16 ∧ t (f + k) = n) ∧
    (v < 2 ^ 20 - 15 → ∀ f,
      ((List.range 16).map (fun k => emitterValue { p with wfn := f + k, dither := true } rec l x y e)).sum = v)

/-! ### Lamp drive (chapter 12) -/

/-- The lamp supply (R230). A write of LMP_CTRL sets LAMP_ON and FORCE_BLANK (R231) and leaves LAMP_PWR_EN as its conditions give;
FAULT_CLR clears the fault only while LAMP_ON, as that write leaves it, is 0. LAMP_PG rises; after 1 ms source 5 clears; its time-out
and its fall latch the fault and drop LAMP_PWR_EN. -/
def Obligations.LampSupplyFollowsItsConditions : Prop :=
  (∀ (p : Path) (data : Word) (s : State), s.admits p Reg.LMP_CTRL data = true → fieldOf data 8 8 ≠ 0 →
      ∃ t, exec (.lampOn p data) s = .next t ∧ t.bit Reg.LMP_CTRL Fld.LMP_CTRL_LAMP_ON = bitOf data 0 ∧
        t.lmp.pwrAt.isSome = (t.lampRequest && !t.umbInhibit)) ∧
  (∀ (p : Path) (data : Word) (s : State), s.admits p Reg.LMP_CTRL data = true → fieldOf data 8 8 ≠ 0 → bitOf data 2 = true →
      ∃ t, exec (.faultClr p data) s = .next t ∧ t.lmp.fault = (s.lmp.fault && bitOf data 0)) ∧
  (∀ (p : Path) (data : Word) (s : State), s.admits p Reg.LMP_CTRL data = true → fieldOf data 8 8 ≠ 0 →
      ∃ t, exec (.forceBlank p data) s = .next t ∧ bitOf (t.reg Reg.LMP_BLANK_SRC) 3 = bitOf data 1) ∧
  (∀ (p : Path) (data : Word) (s : State), fieldOf data 8 8 = 0 → exec (.lampOn p data) s = .next s) ∧
  (∀ (t0 : Nat) (s : State), s.bit Reg.LMP_STATE Fld.LMP_STATE_PG = false →
      ∃ t, exec (.lampPgRise t0) s = .next t ∧ t.bit Reg.LMP_STATE Fld.LMP_STATE_PG = true ∧ t.lmp.pgAt = some t0) ∧
  (∀ (t0 p g : Nat) (s : State), s.lmp.pwrAt = some p → s.lmp.pgAt = some g → s.bit Reg.LMP_STATE Fld.LMP_STATE_PG = true →
      s.lmp.settled = false → Nat.max p g + msT ≤ t0 →
      ∃ t, exec (.lampPgSettled t0) s = .next t ∧ bitOf (t.reg Reg.LMP_BLANK_SRC) 5 = false ∧ t.lmp.settled = true) ∧
  (∀ (t0 p : Nat) (s : State), s.lmp.pwrAt = some p → s.bit Reg.LMP_STATE Fld.LMP_STATE_PG = false →
      p + s.get Reg.LMP_CTRL Fld.LMP_CTRL_PG_TIMEOUT * msT ≤ t0 →
      ∃ t, exec (.lampPgTimeout t0) s = .next t ∧ t.lmp.fault = true ∧ t.lmp.pwrAt = none ∧
        t.bit Reg.LMP_STATE Fld.LMP_STATE_PWR_EN = false ∧ bitOf (t.reg Reg.LMP_BLANK_SRC) 5 = true) ∧
  (∀ (t0 p : Nat) (s : State), s.lmp.pwrAt = some p → s.bit Reg.LMP_STATE Fld.LMP_STATE_PG = true →
      ∃ t, exec (.lampPgFall t0) s = .next t ∧ t.lmp.fault = true ∧ t.lmp.pwrAt = none ∧ t.bit Reg.LMP_STATE Fld.LMP_STATE_PG = false ∧
        t.bit Reg.LMP_STATE Fld.LMP_STATE_PWR_EN = false ∧ bitOf (t.reg Reg.LMP_BLANK_SRC) 5 = true)

/-- The blank net and the rows (R226, R229, R231). BLANK_N_FALL asserts source 0, which blanks, and BLANK_N_RISE clears it, for a level
held 6 ns or more; one held less than 3 ns changes nothing, and between the two a free value decides (log entry 85). LINE_START drives
output ROW_MAP[k], below SCAN, from the end of the line's blanking to its end less the dark stretch, and no row while the net is blanked
or cleared less than 50 ns before; outside the frames the tile walks it changes nothing. A shadow line is announced by a LINE sequence and
drives ROW; one that would end after the slot end less 22T, and those after it, are cut and counted. LMP_CNT_CLEAR clears the block's
counters alone. CONFIG frames and shadow requests (R223, R227, R229). CONFIG_FRAME_SEND, at a config point or where a frame is owed since the choice of
F0 or a write that delayed it, sends the full state with the dark stretch wanted; it skips and counts a frame that would overlap an
exposure window or a LATCH sequence, and delays one that finds a write in progress; at any other instant it changes nothing. SHADOW is kept
for its slot; it is discarded and counted less than 100 µs before it, and void with a ROW of SCAN or above. -/
def Obligations.BlankingRowsAndRequests : Prop :=
  (∀ (t0 holds : Nat) (s : State), 6 * nsT ≤ holds →
      (∃ t, exec (.blankNFall ⟨t0, holds⟩) s = .next t ∧ bitOf (t.reg Reg.LMP_BLANK_SRC) 0 = true ∧ t.blanked = true ∧
        t.chn.blankLow = true) ∧
      (∃ t, exec (.blankNRise ⟨t0, holds⟩) s = .next t ∧ bitOf (t.reg Reg.LMP_BLANK_SRC) 0 = false ∧ t.chn.blankLow = false)) ∧
  (∀ (t0 holds : Nat) (s : State), holds < 3 * nsT →
      (∃ t, exec (.blankNFall ⟨t0, holds⟩) s = .next t ∧ t.regs = s.regs ∧ t.chn = s.chn ∧ t.out = s.out) ∧
      (∃ t, exec (.blankNRise ⟨t0, holds⟩) s = .next t ∧ t.regs = s.regs ∧ t.chn = s.chn ∧ t.out = s.out)) ∧
  (∀ (t0 holds : Nat) (s : State), 3 * nsT ≤ holds → holds < 6 * nsT →
      ∃ t, exec (.blankNFall ⟨t0, holds⟩) s = .next t ∧ t.fresh = s.fresh + 1 ∧
        (bitOf (t.reg Reg.LMP_BLANK_SRC) 0 = true ∨ (t.regs = s.regs ∧ t.chn = s.chn ∧ t.out = s.out))) ∧
  (∀ (wfn slot i : Nat) (s : State) (m : Word) (tl : Timeline) (r : SlotRec), s.lmp.map = some m → s.drivenTimeline? wfn = some tl →
      imageSlot tl slot = some r → i < r.passes * tl.scan → s.runsLines wfn = true →
      (let start := latchTime tl wfn slot + i * r.lineQ * 8192
       let ends := start + r.lineQ * 8192 - (s.reg Reg.LMP_DARK).toNat * s.cellT / 16
       let row := (((s.sampleOf wfn).map (·.rowMap)).getD s.lmp.rowMap).getD (i % tl.scan) 0
       s.blanked = false → s.lmp.clearedAt + 50 * nsT ≤ start → start + r.blankNs * nsT < ends → row < tl.scan →
       ∃ t, exec (.lineStart (.image wfn slot i)) s = .next t ∧ t.lmp.rowOn = some row ∧
         t.out = .rowOn row (s.lmp.rowPol != some true) (start + r.blankNs * nsT) ends :: s.out)) ∧
  (∀ (wfn slot i : Nat) (s : State) (m : Word) (tl : Timeline) (r : SlotRec), s.lmp.map = some m → s.drivenTimeline? wfn = some tl →
      imageSlot tl slot = some r → i < r.passes * tl.scan → s.runsLines wfn = true →
      (s.blanked = true ∨ latchTime tl wfn slot + i * r.lineQ * 8192 < s.lmp.clearedAt + 50 * nsT) →
      ∃ t, exec (.lineStart (.image wfn slot i)) s = .next t ∧ t.lmp.rowOn = none ∧ t.out = s.out) ∧
  (∀ (wfn slot i : Nat) (s : State), s.runsLines wfn = false →
      ∃ t, exec (.lineStart (.image wfn slot i)) s = .next t ∧ t.lmp = s.lmp ∧ t.out = s.out) ∧
  (∀ (i : Nat) (s : State) (m : Word) (tl : Timeline) (r : SlotRec) (u : ShadowRun), s.lmp.map = some m → s.timeline? = some tl →
      s.lmp.run = some u → imageSlot tl 0 = some r → i < u.req.lineCount → u.cut = 0 →
      (let start := u.firstLine + i * r.lineQ * 8192
       let ends := start + r.lineQ * 8192 - (s.reg Reg.LMP_DARK).toNat * s.cellT / 16
       start + r.lineQ * 8192 + 22 * s.cellT ≤ u.ends → s.blanked = false → s.lmp.clearedAt + 50 * nsT ≤ start →
       start + r.blankNs * nsT < ends → u.req.row < tl.scan →
       ∃ t, exec (.lineStart (.shadow i)) s = .next t ∧ t.lmp.rowOn = some u.req.row ∧
         t.out = .rowOn u.req.row (s.lmp.rowPol != some true) (start + r.blankNs * nsT) ends ::
           .glintLine (start - 18 * s.cellT) start :: s.out)) ∧
  (∀ (i : Nat) (s : State) (m : Word) (tl : Timeline) (r : SlotRec) (u : ShadowRun), s.lmp.map = some m → s.timeline? = some tl →
      s.lmp.run = some u → imageSlot tl 0 = some r → i < u.req.lineCount → u.cut = 0 →
      u.ends < u.firstLine + i * r.lineQ * 8192 + r.lineQ * 8192 + 22 * s.cellT →
      ∃ t, exec (.lineStart (.shadow i)) s = .next t ∧ t.lmp.run.map (·.cut) = some (u.req.lineCount - i) ∧ t.out = s.out ∧
        t.reg Reg.LMP_SHADOW_CUT = satAdd (s.reg Reg.LMP_SHADOW_CUT) (u.req.lineCount - i)) ∧
  (∀ (p : Path) (s : State), s.admits p Reg.LMP_CNT_CLEAR 1 = true →
      ∃ t, exec (.lmpCntClear p) s = .next t ∧ (∀ a, t.reg a = if lmpCounter a then resetValue a else s.reg a)) ∧
  (∀ (t0 : Nat) (s : State) (m : Word) (tl : Timeline), s.lmp.map = some m → s.drivenNow? t0 = some tl →
      s.drives (wfnAt tl t0) = true → (configPoint tl t0 = true ∨ s.lmp.cfgDue = some t0) →
      s.lmp.write = none → s.configBlocked tl t0 (t0 + s.configLength m) = false →
      ∃ t shares, exec (.configFrameSend t0) s = .next t ∧ t.lmp.darkSent = some (s.darkWanted m tl) ∧ t.lmp.cfgDue = none ∧
        Output.glintConfig t0 shares ∈ t.out ∧ shares.length = mapLanes m ∧ ∀ x ∈ shares, x.length = mapDrivers m) ∧
  (∀ (t0 : Nat) (s : State) (m : Word) (tl : Timeline), s.lmp.map = some m → s.drivenNow? t0 = some tl →
      s.drives (wfnAt tl t0) = true → (configPoint tl t0 = true ∨ s.lmp.cfgDue = some t0) →
      s.lmp.write = none → s.configBlocked tl t0 (t0 + s.configLength m) = true →
      ∃ t, exec (.configFrameSend t0) s = .next t ∧ t.out = s.out ∧ t.lmp = { s.lmp with cfgDue := none } ∧
        t.reg Reg.LMP_CFG_SKIP = satAdd (s.reg Reg.LMP_CFG_SKIP) 1) ∧
  (∀ (t0 : Nat) (s : State) (m : Word) (tl : Timeline), s.lmp.map = some m → s.drivenNow? t0 = some tl →
      s.drives (wfnAt tl t0) = true → (configPoint tl t0 = true ∨ s.lmp.cfgDue = some t0) → s.lmp.write.isSome = true →
      ∃ t, exec (.configFrameSend t0) s = .next t ∧ t.out = s.out ∧ t.lmp = { s.lmp with cfgDue := some t0 } ∧ t.regs = s.regs) ∧
  (∀ (t0 : Nat) (s : State) (tl : Timeline), s.drivenNow? t0 = some tl → configPoint tl t0 = false → s.lmp.cfgDue ≠ some t0 →
      ∃ t, exec (.configFrameSend t0) s = .next t ∧ t.out = s.out ∧ t.lmp = s.lmp ∧ t.regs = s.regs) ∧
  (∀ (q : ShadowMsg) (s : State) (tl : Timeline) (r : SlotRec), s.isTile = true → s.timeline? = some tl →
      shadowSlot tl q.slot = some r → q.t + 100 * usT ≤ frameStart tl q.wfn + r.startNs * nsT →
      ∃ t, exec (.shadow q) s = .next t ∧ t.regs = s.regs ∧ (q.row < tl.scan → t.lmp.shadows.getLast? = some q) ∧
        (tl.scan ≤ q.row → t.lmp = s.lmp)) ∧
  (∀ (q : ShadowMsg) (s : State) (tl : Timeline) (r : SlotRec), s.isTile = true → s.timeline? = some tl →
      shadowSlot tl q.slot = some r → frameStart tl q.wfn + r.startNs * nsT < q.t + 100 * usT →
      ∃ t, exec (.shadow q) s = .next t ∧ t.lmp = s.lmp ∧ t.reg Reg.LMP_SHADOW_LATE = satAdd (s.reg Reg.LMP_SHADOW_LATE) 1)

/-- Glint writes, LATCH sequences and image slots (R194, R216, R219, R222, R224, R326). GLINT_WRITE_START begins the data frame of a
decoded picture, or of the replay buffer in a replay, which lasts G_s; GLINT_WRITE_COMPLETE ends it. LATCH_SEQUENCE sends SWAP 1 for a
complete picture that is untagged or replayed, SWAP 0 otherwise, cuts a write in progress, and sends DARK instead while DARK is set.
IMAGE_SLOT_LATCH shows what was swapped in; else the last complete stream runs again and is counted. -/
def Obligations.PicturesAreWrittenAndLatched : Prop :=
  (∀ (wfn slot t0 : Nat) (s : State) (c : ChainRec) (tl : Timeline) (p : DecodedPic), s.tileChain? = some c →
      s.drivenTimeline? wfn = some tl → s.replayAt wfn = false →
      s.ccx.decoded.find? (fun q => q.wfn == wfn && q.slot == slot) = some p → t0 + 22 * s.cellT < latchTime tl wfn slot →
      previousLatch tl wfn slot ≤ t0 → s.lmp.write = none → s.written wfn slot = none →
      ∃ t, exec (.glintWriteStart wfn slot t0) s = .next t ∧
        t.lmp.write = some { stream := s.streamOf c p, endsAt := t0 + s.glintNs * nsT }) ∧
  (∀ (wfn slot t0 : Nat) (s : State) (c : ChainRec) (tl : Timeline) (g : GlintStream), s.tileChain? = some c →
      s.drivenTimeline? wfn = some tl → s.replayAt wfn = true → s.replayStream wfn slot = some g →
      t0 + 22 * s.cellT < latchTime tl wfn slot → previousLatch tl wfn slot ≤ t0 → s.lmp.write = none → s.written wfn slot = none →
      ∃ t, exec (.glintWriteStart wfn slot t0) s = .next t ∧
        t.lmp.write = some { stream := g, endsAt := t0 + s.glintNs * nsT }) ∧
  (∀ (t0 : Nat) (s : State) (w : GlintWrite), s.lmp.write = some w → w.endsAt ≤ t0 →
      ∃ t, exec (.glintWriteComplete t0) s = .next t ∧ t.lmp.write = none ∧ t.lmp.done.getLast? = some w.stream ∧
        (s.lmp.cfgDue = none → t.regs = s.regs ∧ t.out = s.out)) ∧
  (∀ (wfn slot : Nat) (s : State) (tl : Timeline) (m : Word), s.drivenTimeline? wfn = some tl → s.lmp.map = some m → s.isTile = true →
      slot < tl.nImage → s.drives wfn = true → (s.flk.f0 ≤ wfn ∨ s.replayAt wfn = true) →
      s.bit Reg.LMP_STATE Fld.LMP_STATE_DARK = false →
      ∃ t, exec (.latchSequence wfn slot) s = .next t ∧
        (let swap := (s.written wfn slot).isSome && (s.replayAt wfn || !s.pictureTagged wfn slot)
         t.lmp.lastLatch = some (wfn, slot, swap) ∧ t.out.head? = some (.glintLatch slot swap (latchTime tl wfn slot)) ∧
         (s.lmp.write = none → t.out.tail = s.out) ∧ t.lmp.write = none ∧
         t.reg Reg.LMP_NOSWAP = (if swap then s.reg Reg.LMP_NOSWAP else satAdd (s.reg Reg.LMP_NOSWAP) 1) ∧
         t.reg Reg.LMP_CUT = (if s.lmp.write.isSome then satAdd (s.reg Reg.LMP_CUT) 1 else s.reg Reg.LMP_CUT))) ∧
  (∀ (wfn slot : Nat) (s : State) (tl : Timeline) (m : Word), s.drivenTimeline? wfn = some tl → s.lmp.map = some m → s.isTile = true →
      slot < tl.nImage → s.drives wfn = true → (s.flk.f0 ≤ wfn ∨ s.replayAt wfn = true) →
      s.bit Reg.LMP_STATE Fld.LMP_STATE_DARK = true →
      ∃ t, exec (.latchSequence wfn slot) s = .next t ∧ t.lmp.lastLatch = some (wfn, slot, false) ∧ t.out.head? = some .glintDark ∧
        t.reg Reg.LMP_DARK_EVT = satAdd (s.reg Reg.LMP_DARK_EVT) 1) ∧
  (∀ (wfn slot : Nat) (s : State) (tl : Timeline) (p : DecodedPic), s.timeline? = some tl → s.isTile = true → slot < tl.nImage →
      3 ≤ s.lockState → s.flk.f0 ≤ wfn → s.replayAt wfn = false →
      s.ccx.decoded.find? (fun q => q.wfn == wfn && q.slot == slot) = some p → (s.written wfn slot).isSome = true →
      s.pictureTagged wfn slot = false → (s.lmp.map.isSome = true → s.lmp.lastLatch = some (wfn, slot, true)) →
      ∃ t, exec (.imageSlotLatch wfn slot) s = .next t ∧ t.ccx.shown.getLast? = some (slot, p.pixels) ∧
        t.reg Reg.SCH_SLOT_REPEAT = s.reg Reg.SCH_SLOT_REPEAT) ∧
  (∀ (wfn slot : Nat) (s : State) (tl : Timeline), s.timeline? = some tl → s.isTile = true → slot < tl.nImage →
      s.lockState = 3 → s.flk.f0 ≤ wfn → s.replayAt wfn = false → (s.written wfn slot = none ∨ s.pictureTagged wfn slot = true) →
      (s.lmp.map.isSome = true → s.lmp.lastLatch ≠ some (wfn, slot, true)) →
      ∃ t, exec (.imageSlotLatch wfn slot) s = .next t ∧ t.ccx.shown = s.ccx.shown ∧
        t.reg Reg.SCH_SLOT_REPEAT = satAdd (s.reg Reg.SCH_SLOT_REPEAT) 1) ∧
  (∀ (wfn slot : Nat) (s : State) (tl : Timeline), s.timeline? = some tl → s.isTile = true → slot < tl.nImage →
      3 ≤ s.lockState → s.replayAt wfn = true →
      ∃ t, exec (.imageSlotLatch wfn slot) s = .next t ∧ t.ccx.shown = s.ccx.shown ∧
        t.reg Reg.SCH_SLOT_REPEAT = s.reg Reg.SCH_SLOT_REPEAT)

/-- Row order (R228). LMP_ROW_MAP is sampled at R(F), which FRAME_START of F - 1 brings: a tile that drives its timeline takes the first
SCAN entries where they are a permutation of 0 to SCAN - 1, else it keeps the map in force and sets MAP_BAD; the sample of F holds the map
in force. The glint data of picture F and its row walk use that one map (the data
of a row that the picture does not have is a free value, log entry 84). At reset the map is the identity. -/
def Obligations.RowOrderIsSampled : Prop :=
  (∀ (wfn : Nat) (s : State) (im : Image), s.image? = some im → im.role = .tile → 2 ≤ s.lockState → s.flk.f0 ≤ wfn + 1 →
      ∃ t, exec (.frameStart wfn) s = .next t ∧
        ((s.rowEntries im.timeline.scan).Perm (List.range im.timeline.scan) → t.lmp.rowMap = s.rowEntries im.timeline.scan) ∧
        (¬(s.rowEntries im.timeline.scan).Perm (List.range im.timeline.scan) →
          t.lmp.rowMap = s.lmp.rowMap ∧ t.bit Reg.LMP_STATE Fld.LMP_STATE_MAP_BAD = true) ∧
        (t.sampleOf (wfn + 1)).map (·.rowMap) = some t.lmp.rowMap) ∧
  (∀ (s : State) (c : ChainRec) (p : DecodedPic) (m : Word) (x : EmcSample) (tl : Timeline), s.lmp.map = some m →
      s.sampleOf p.wfn = some x → s.timeline? = some tl →
      (s.streamOf c p).lanes = laneData m tl.scan c.width c.height c.emitters x.rowMap
        (fun px py e => if c.height ≤ py then Config.strayGlint px py e
          else (correctPixel c.emitters x px py (p.pixels.getD (py * c.width + px) 0)).getD e 0)) ∧
  (∀ (wfn slot i : Nat) (s : State) (m : Word) (tl : Timeline) (r : SlotRec) (x : EmcSample), s.lmp.map = some m →
      s.drivenTimeline? wfn = some tl → imageSlot tl slot = some r → i < r.passes * tl.scan → s.runsLines wfn = true →
      s.sampleOf wfn = some x → x.rowMap.getD (i % tl.scan) 0 < tl.scan → s.blanked = false → s.lmp.clearedAt + 50 * nsT ≤ latchTime tl wfn slot + i * r.lineQ * 8192 →
      latchTime tl wfn slot + i * r.lineQ * 8192 + r.blankNs * nsT <
        latchTime tl wfn slot + (i + 1) * r.lineQ * 8192 - (s.reg Reg.LMP_DARK).toNat * s.cellT / 16 →
      ∃ t, exec (.lineStart (.image wfn slot i)) s = .next t ∧ t.lmp.rowOn = some (x.rowMap.getD (i % tl.scan) 0)) ∧
  (State.reset.lmp.rowMap = List.range 64 ∧ ∀ n, n ≤ 64 → State.reset.rowEntries n = List.range n)

/-! ### Calibration store, trims and colour loop (chapter 13) -/

/-- The calibration store (R234, R235, R238). CAL_STAGE_DATA reaches the staging area, or is dropped and counted while a store runs.
CAL_STORE of an object the role has starts a store into the slot not in use with the next generation; a sender's of another object is
rejected with ROLE. FLASH_OPERATION_COMPLETE: each erase or page program that ends well starts the next one, the commit page takes the
slot into use, and a flash error ends the store with FLASH. CALSET_COPY_COMPLETE accepts the copied set (R397). -/
def Obligations.ObjectsAreStored : Prop :=
  (∀ (b : StageBytes) (s : State), b.offset + b.bytes.length ≤ s.stageBytes → s.cal.store = none →
      ∃ t, exec (.calStageData b) s = .next t ∧
        t.cal.staging = cellSetMany (fun _ => (0 : Byte)) s.cal.staging b.offset b.bytes) ∧
  (∀ (b : StageBytes) (s : State), b.offset + b.bytes.length ≤ s.stageBytes → s.cal.store.isSome = true →
      ∃ t, exec (.calStageData b) s = .next t ∧ t.cal = s.cal ∧
        t.reg Reg.CAL_STAGE_DROP = satAdd (s.reg Reg.CAL_STAGE_DROP) 1) ∧
  (∀ (c : MboxCmd) (s : State) (im : Image), s.takes 0x502 c = true → 1 ≤ byteAt c.body 0 → byteAt c.body 0 ≤ 3 →
      1 ≤ leAt c.body 4 4 → leAt c.body 4 4 ≤ largestBody (byteAt c.body 0) → s.cal.store = none → s.longFull = false →
      (s.isSender = true → byteAt c.body 0 = 2) → s.topGeneration (byteAt c.body 0) < 0xFFFFFFFE → s.gen.running = some im →
      noSlack im = false →
      ∃ t x, exec (.calStore c) s = .next t ∧ t.cal.store = some x ∧ x.object = byteAt c.body 0 ∧ x.phase = .checking ∧
        x.slot = (if bitOf (s.reg (Reg.CAL_SLOT (byteAt c.body 0))) 4 then 0
          else 1 - fieldOf (s.reg (Reg.CAL_SLOT (byteAt c.body 0))) 0 1) ∧
        x.generation = s.topGeneration (byteAt c.body 0) + 1 ∧ t.bit Reg.CAL_STATE Fld.CAL_STATE_BUSY = true) ∧
  (∀ (c : MboxCmd) (s : State), s.takes 0x502 c = true → (byteAt c.body 0 = 1 ∨ byteAt c.body 0 = 3) →
      1 ≤ leAt c.body 4 4 → leAt c.body 4 4 ≤ largestBody (byteAt c.body 0) → s.cal.store = none → s.longFull = false → s.isSender = true →
      ∃ t, exec (.calStore c) s = .next t ∧ t.cal.store = none ∧ t.get Reg.CAL_STATE Fld.CAL_STATE_RESULT = Rs.ROLE ∧
        t.reg Reg.CAL_STORE_FAIL = satAdd (s.reg Reg.CAL_STORE_FAIL) 1) ∧
  (∀ (t0 n : Nat) (s : State) (x : CalStore), s.cal.store = some x → x.phase = .erasing n → s.flashStopped = false →
      n + 1 < slotBytes x.object / 65536 →
      ∃ t, exec (.flashOperationComplete false true t0) s = .next t ∧ t.cal.store = some { x with phase := .erasing (n + 1) } ∧
        (∀ a, cellGet erasedByte t.tru.flash a =
          if slotBase x.object x.slot + 65536 * n ≤ a ∧ a < slotBase x.object x.slot + 65536 * n + 65536 then 0xFF
          else cellGet erasedByte s.tru.flash a)) ∧
  (∀ (t0 k : Nat) (s : State) (x : CalStore), s.cal.store = some x → x.phase = .programming k → s.flashStopped = false →
      k + 1 < ceilDiv x.length 256 →
      ∃ t, exec (.flashOperationComplete false true t0) s = .next t ∧ t.cal.store = some { x with phase := .programming (k + 1) } ∧
        t.flashRead (slotBase x.object x.slot + 256 * k) 256 = pageOf x.body k) ∧
  (∀ (t0 : Nat) (s : State) (x : CalStore), s.cal.store = some x → x.phase = .commit → s.flashStopped = false → x.slot < 2 →
      1 ≤ x.object → x.object ≤ 3 →
      ∃ t, exec (.flashOperationComplete false true t0) s = .next t ∧ t.cal.store = none ∧
        t.get Reg.CAL_STATE Fld.CAL_STATE_RESULT = Rs.OK ∧ fieldOf (t.reg (Reg.CAL_SLOT x.object)) 0 1 = x.slot ∧
        bitOf (t.reg (Reg.CAL_SLOT x.object)) 4 = false) ∧
  (∀ (t0 : Nat) (s : State) (x : CalStore), s.cal.store = some x → x.phase ≠ .checking → s.flashStopped = false →
      ∃ t, exec (.flashOperationComplete false false t0) s = .next t ∧ t.cal.store = none ∧ t.tru = s.tru ∧
        t.get Reg.CAL_STATE Fld.CAL_STATE_RESULT = Rs.FLASH) ∧
  (∀ (t0 : Nat) (s : State) (c : CalSet), s.emc.copying = some c →
      ∃ t, exec (.calsetCopyComplete t0) s = .next t ∧ t.emc.accepted = some c ∧ t.emc.copying = none ∧
        t.bit Reg.EMC_STATE Fld.EMC_STATE_CAL_VALID = true ∧ t.bit Reg.EMC_STATE Fld.EMC_STATE_NO_CAL = false)

/-- Trims and the colour loop (R241, R243 to R245). TRIM_STEP, where Table 13.5 lets the trim step and TRIM_EN is 1, moves a code
one step towards its target, and changes nothing elsewhere. SHADOW_SLOT_END has a measured
entry's results read; COLOUR_MEASUREMENT uses them or counts them discarded; COLOUR_LOOP_PERIOD moves the gain of each emitter measured,
unless the host writes it in the same cycle. CAL_CNT_CLEAR clears the block's counters alone. -/
def Obligations.TrimsAndGainsMove : Prop :=
  (∀ (i : TrimId) (t0 : Nat) (s : State), s.bit Reg.CAL_CTRL Fld.CAL_CTRL_TRIM_EN = true → (trimIds s.tileSide).contains i = true →
      (s.trim i).current ≠ (s.trim i).target → s.mayStep (s.trim i) t0 = true →
      ∃ t, exec (.trimStep i t0) s = .next t ∧ (t.trim i).current = stepCode i (s.trim i).current (s.trim i).target ∧
        (t.trim i).target = (s.trim i).target ∧ t.reg Reg.CAL_TRIM_STEPS = satAdd (s.reg Reg.CAL_TRIM_STEPS) 1 ∧
        (∀ j, j ≠ i → t.trim j = s.trim j)) ∧
  (∀ (i : TrimId) (t0 : Nat) (s : State), (s.bit Reg.CAL_CTRL Fld.CAL_CTRL_TRIM_EN = false ∨ s.mayStep (s.trim i) t0 = false) →
      ∃ t, exec (.trimStep i t0) s = .next t ∧ t.cal = s.cal ∧ t.regs = s.regs) ∧
  (∀ (t0 k : Nat) (s : State) (u : ShadowRun) (c : Cabinet) (e : RefEntry) (p : SensorCfg), s.lmp.run = some u → u.entry = some k →
      s.cal.cabinet = some c → c.refs[k]? = some e → c.sensors[e.port]? = some p →
      ∃ t, exec (.shadowSlotEnd t0) s = .next t ∧ t.lmp.run = none ∧ t.cal.measuring = some (k, u.cut != 0, u.ramping) ∧
        t.out = .i2cRead e.port p.addr p.resultReg p.chCount :: s.out) ∧
  (∀ (t0 k : Nat) (vs : List Nat) (s : State) (c : Cabinet) (e : RefEntry) (p : SensorCfg), s.cal.measuring = some (k, false, false) →
      s.cal.cabinet = some c → c.refs[k]? = some e → c.sensors[e.port]? = some p → e.minCount ≤ vs.getD e.sensorCh 0 →
      (∀ v ∈ vs, v < p.satHi * 256) →
      (let rho := s.expectedReading e * 65536 / (vs.getD e.sensorCh 0 : Nat)
       let lim : Int := ((fieldOf (s.reg Reg.CAL_LOOP_CFG) 16 8 * 256 : Nat) : Int)
       rho - 65536 ≤ lim → 65536 - rho ≤ lim →
       ∃ t, exec (.colourMeasurement (.results vs) t0) s = .next t ∧ t.cal.rhos = s.cal.rhos ++ [(e.emitter, rho)] ∧
         t.reg Reg.CAL_MEAS_OK = satAdd (s.reg Reg.CAL_MEAS_OK) 1)) ∧
  (∀ (t0 k : Nat) (cut ramping : Bool) (s : State) (c : Cabinet) (e : RefEntry), s.cal.measuring = some (k, cut, ramping) →
      s.cal.cabinet = some c → c.refs[k]? = some e →
      ∃ t, exec (.colourMeasurement .failed t0) s = .next t ∧ t.cal.rhos = s.cal.rhos ∧ t.cal.measuring = none ∧
        t.reg Reg.CAL_MEAS_DROP = satAdd (s.reg Reg.CAL_MEAS_DROP) 1) ∧
  (∀ (t0 : Nat) (host : List Nat) (s : State) (c : ChainRec), s.tileChain? = some c → c.emitters ≤ 4 →
      fieldOf (s.reg Reg.CAL_LOOP_CFG) 0 6 ≠ 0 → t0 % (fieldOf (s.reg Reg.CAL_LOOP_CFG) 0 6 * secT) = 0 →
      ∃ t, exec (.colourLoopPeriod t0 host) s = .next t ∧ t.cal.rhos = [] ∧
        (∀ e, e < c.emitters →
          (let rs := (s.cal.rhos.filter (fun p => p.1 == e)).map (·.2)
           let lim := s.reg Reg.CAL_LOOP_LIM
           t.reg (Reg.EMC_GAIN e) =
             if s.loopOn = true ∧ rs ≠ [] ∧ e ∉ host then
               putField (s.reg (Reg.EMC_GAIN e)) 0 16
                 (loopGain (fieldOf (s.reg (Reg.EMC_GAIN e)) 0 16 : Nat) (rs.sum / (rs.length : Int))
                   (fieldOf (s.reg Reg.CAL_LOOP_CFG) 8 8 : Nat) (fieldOf (s.reg Reg.CAL_LOOP_STEP) 0 11 : Nat)
                   (fieldOf lim 0 16 : Nat) (fieldOf lim 16 16 : Nat)).toNat
             else s.reg (Reg.EMC_GAIN e)))) ∧
  (∀ (p : Path) (s : State), s.admits p Reg.CAL_CNT_CLEAR 1 = true →
      ∃ t, exec (.calCntClear p) s = .next t ∧ (∀ a, t.reg a = if calCounter a then resetValue a else s.reg a))

/-! ### Memory controller (chapter 14) -/

/-- DRAM requests and grants (R55, R104, R108, R248, R250, R251, R262). DRAM_REQUEST presents a port's head; before the commit point it abandons an entry
into self-refresh, after it forces the exit, and an address outside the populated space is a fault of its own. DRAM_GRANT serves the
head the arbiter chooses: a read changes no byte, a write exactly its own bytes, but one into a RETIRING surface or into host pool space
that no surface has is dropped and counted, and one into a PACKED surface reaches that surface's bricks and headers alone.
DRAM_READ_RETURN delivers the data, counts the words that failed twice and tags the operation that reads them. -/
def Obligations.DramRequestsAreServed : Prop :=
  (∀ (r : DramReq) (s : State) (d : DramRec), s.dramRec? = some d → dramBytes d < r.addr + 64 * r.words →
      exec (.dramRequest r) s = .fault .unpopulatedDram) ∧
  (∀ (r : DramReq) (s : State) (d : DramRec), s.dramRec? = some d → r.addr + 64 * r.words ≤ dramBytes d →
      (s.portRec? r.port).isSome = true → (s.dramPort r.port).head = none →
      ∃ t, exec (.dramRequest r) s = .next t ∧ (t.dramPort r.port).head = some r ∧ t.dram = s.dram) ∧
  (∀ (r : DramReq) (s : State) (d : DramRec), s.dramRec? = some d → r.addr + 64 * r.words ≤ dramBytes d →
      (s.portRec? r.port = none ∨ (s.dramPort r.port).head.isSome = true) →
      ∃ t, exec (.dramRequest r) s = .next t ∧ t.drc = s.drc ∧ t.dram = s.dram ∧ t.regs = s.regs) ∧
  (∀ (r : DramReq) (s : State) (d : DramRec) (x : DramChan) (k : Nat), s.dramRec? = some d → r.addr + 64 * r.words ≤ dramBytes d →
      (s.portRec? r.port).isSome = true → (s.dramPort r.port).head = none → s.dramChan? (s.channelOf r.port r.addr) = some x →
      x.srCommit = some k → r.t < k →
      ∃ t, exec (.dramRequest r) s = .next t ∧ t.reg Reg.DRC_SR_ABANDON = satAdd (s.reg Reg.DRC_SR_ABANDON) 1 ∧
        (t.dramChan? (s.channelOf r.port r.addr)).map (·.srCommit) = some none) ∧
  (∀ (r : DramReq) (s : State) (d : DramRec) (x : DramChan) (k : Nat), s.dramRec? = some d → r.addr + 64 * r.words ≤ dramBytes d →
      (s.portRec? r.port).isSome = true → (s.dramPort r.port).head = none → s.dramChan? (s.channelOf r.port r.addr) = some x →
      x.srCommit = some k → k ≤ r.t →
      ∃ t, exec (.dramRequest r) s = .next t ∧ t.dramChan? (s.channelOf r.port r.addr) = some { x with exiting := true } ∧
        t.reg Reg.DRC_SR_COLLIDE = (if x.exiting then s.reg Reg.DRC_SR_COLLIDE else satAdd (s.reg Reg.DRC_SR_COLLIDE) 1)) ∧
  (∀ (t0 : Nat) (s : State) (q : DramReq), s.grantee? t0 = some q →
      ∃ t, exec (.dramGrant t0) s = .next t ∧ (t.dramPort q.port).head = none ∧ (t.dramPort q.port).lastGrant = some t0 ∧
        (t.dramPort q.port).served = (s.dramPort q.port).served + 64 * q.words ∧
        (q.write = false → t.dram = s.dram) ∧
        (let bs := q.data.take (64 * q.words)
         let home := s.cmp.surfaces.find? (fun v => decide (v.base ≤ q.addr) && decide (q.addr < v.base + v.size))
         let inPool := s.pool.1 * 65536 ≤ q.addr ∧ q.addr < (s.pool.1 + s.pool.2) * 65536
         q.write = true →
          (((home = none ∧ ¬inPool) ∨ ∃ v, home = some v ∧ v.layout ≠ 2 ∧ (v.retiring = false ∨ v.fmt = 0x11)) →
            ∀ a, cellGet (fun _ => (0 : Byte)) t.dram a =
              if q.addr ≤ a ∧ a < q.addr + bs.length then bs.getD (a - q.addr) 0 else cellGet (fun _ => (0 : Byte)) s.dram a) ∧
          (((home = none ∧ inPool) ∨ ∃ v, home = some v ∧ v.retiring = true ∧ v.fmt ≠ 0x11) →
            t.dram = s.dram ∧ t.reg Reg.CMP_RETIRED_DROP = satAdd (s.reg Reg.CMP_RETIRED_DROP) 1) ∧
          (∀ v, home = some v → v.layout = 2 → (v.retiring = false ∨ v.fmt = 0x11) →
            ∀ a, ¬sampleByte v a → cellGet (fun _ => (0 : Byte)) t.dram a = cellGet (fun _ => (0 : Byte)) s.dram a))) ∧
  (∀ (t0 : Nat) (s : State), s.grantee? t0 = none →
      ∃ t, exec (.dramGrant t0) s = .next t ∧ t.drc = s.drc ∧ t.dram = s.dram ∧ t.regs = s.regs) ∧
  (∀ (r : DramRead) (s : State), ∃ t, exec (.dramReadReturn r) s = .next t ∧ t.dram = s.dram ∧
      (let bad := r.failedAgain.filter (fun w => r.failed.contains w && decide (w < r.words))
       t.reg Reg.DRC_META_ERR = satAdd (s.reg Reg.DRC_META_ERR) bad.length ∧
       t.out = .dramData r.port (cellRead (fun _ => 0) s.dram r.addr (64 * r.words)) bad :: s.out ∧
       (∀ o, r.op = some o → bad ≠ [] → t.sch = (s.modOp o.1 o.2 (fun x => { x with tainted := true })).sch) ∧
       (r.op = none ∨ bad = [] → t.sch = s.sch)))

/-- The arbiter's order (R250, R251): the granted head is eligible, no eligible head has a higher urgency, of equal ones it is the
oldest, of equal ages that of the lowest port; the oldest head is always eligible, so a grant is made whenever a request waits on
channels that serve; a bulk port's level never exceeds 1. -/
def Obligations.GrantsFollowUrgencyAndAge : Prop :=
  (∀ (s : State) (t0 : Nat) (q : DramReq), s.grantee? t0 = some q →
      q ∈ s.heads ∧ s.eligibleHead q = true ∧ s.serves (s.channelOf q.port q.addr) = true ∧
      ∀ h ∈ s.heads, s.eligibleHead h = true → s.serves (s.channelOf h.port h.addr) = true →
        s.urgency h t0 ≤ s.urgency q t0 ∧
        (s.urgency h t0 = s.urgency q t0 → q.t ≤ h.t ∧ (q.t = h.t → q.port ≤ h.port))) ∧
  (∀ (s : State) (h : DramReq), (∀ r ∈ s.heads, h.t ≤ r.t) → s.eligibleHead h = true) ∧
  (∀ (s : State) (t0 : Nat), s.heads ≠ [] → (∀ h ∈ s.heads, s.serves (s.channelOf h.port h.addr) = true) →
      (s.grantee? t0).isSome = true) ∧
  (∀ (s : State) (q : DramReq) (t0 : Nat) (r : PortRec), s.portRec? q.port = some r →
      s.urgency q t0 ≤ 3 ∧ (r.cls = 1 → s.urgency q t0 ≤ 1))

/-- Pages, refresh and tracking bursts (R252 to R254, R258, R260). PAGE_IDLE_EXPIRY closes the row whose timer has run out. REFRESH_DUE:
with every bank idle the debt goes to -8, with some idle it is served there, with none it is postponed, and at +8 it is forced.
GATHER_BURST starts when due; GATHER_BURST_COMPLETE stores its data for its set point and starts a change that waited for it. Set points
and self-refresh (R259 to R262). SET_POINT_GO: an urgent change starts at once, a non-urgent one waits for its window, is rejected without
one, and is cancelled by the active set point. SWITCH_WINDOW starts it at R(F) + SWITCH_START and at no other instant;
SET_POINT_SWITCH_COMPLETE ends it, and an urgent change that waits for another set point starts then. SELF_REFRESH_IDLE enters, the
channel's STATE reading SELF_REFRESH from its commit point on; SELF_REFRESH_EXIT leaves. DRC_CNT_CLEAR clears the counters, the ports' included. -/
def Obligations.PagesRefreshAndSetPoints : Prop :=
  (∀ (c sub bank t0 : Nat) (s : State), ∃ t, exec (.pageIdleExpiry c sub bank t0) s = .next t ∧ t.dram = s.dram ∧ t.regs = s.regs ∧
      (∀ r, r ∈ t.drc.rows ↔ r ∈ s.drc.rows ∧
        ¬(r.channel = c ∧ r.sub = sub ∧ r.bank = bank ∧ r.lastAt + r.cycles * s.cycleT ≤ t0))) ∧
  (∀ (c sub t0 : Nat) (s : State) (x : DramChan), s.dramChan? c = some x → x.srCommit = none →
      ∃ t, exec (.refreshDue c sub t0) s = .next t ∧
        (let idle := ((List.range Config.dramBanks).filter (fun b => s.idleBank c sub b t0)).length
         let debt := (s.subRefresh c sub).debt
         (t.subRefresh c sub).debt = (if idle = Config.dramBanks then -8
           else if 0 < idle then debt + 1 - (Nat.min idle (Nat.max 1 (debt + 1).toNat) : Nat)
           else if 8 ≤ debt then debt else debt + 1) ∧
         t.reg Reg.DRC_REF_FORCED = (if idle = 0 ∧ idle ≠ Config.dramBanks ∧ 8 ≤ debt then satAdd (s.reg Reg.DRC_REF_FORCED) 1
           else s.reg Reg.DRC_REF_FORCED))) ∧
  (∀ (c t0 : Nat) (s : State) (x : DramChan), s.dramChan? c = some x → x.trackDue ≤ t0 → x.burst = none → x.srCommit = none →
      s.bit Reg.DRC_STAT Fld.DRC_STAT_SWITCHING = false →
      (x.trackDue + 10 * msT ≤ t0 ∨ ∀ h ∈ s.heads, s.channelOf h.port h.addr = c → s.urgency h t0 < 2) →
      ∃ t, exec (.gatherBurst c t0) s = .next t ∧ t.dramChan? c = some { x with burst := some s.spActive } ∧ t.serves c = false) ∧
  (∀ (g : GatherDone) (s : State) (x : DramChan) (sp : Nat) (d : DramRec), s.dramRec? = some d → s.dramChan? g.channel = some x →
      x.burst = some sp → s.drc.inWindow = false →
      ∃ t, exec (.gatherBurstComplete g) s = .next t ∧ t.reg Reg.DRC_TRACK_DONE = satAdd (s.reg Reg.DRC_TRACK_DONE) 1 ∧
        t.dramChan? g.channel = some { x with burst := none, trackDue := x.trackDue + d.trackMs * msT, refOver := g.refOver } ∧
        t.drc.trained.getLast? = some ((g.channel, sp), g.osc)) ∧
  (∀ (g : GatherDone) (s : State) (x : DramChan) (sp : Nat), s.dramChan? g.channel = some x → x.burst = some sp →
      s.drc.inWindow = true → (∀ y ∈ s.drc.chans, y.channel ≠ g.channel → y.burst = none) →
      ∃ t, exec (.gatherBurstComplete g) s = .next t ∧ t.bit Reg.DRC_STAT Fld.DRC_STAT_SWITCHING = true ∧
        t.drc.switchTo = s.get Reg.DRC_STAT Fld.DRC_STAT_SP_PENDING) ∧
  (∀ (p : Path) (data : Word) (s : State) (d : DramRec), s.admits p Reg.DRC_SP_CTRL data = true → bitOf data 3 = true →
      s.dramRec? = some d → fieldOf data 0 2 < d.spCodes.length → fieldOf data 0 2 ≠ s.spActive →
      ∃ t, exec (.setPointGo p data) s = .next t ∧
        (bitOf data 2 = true → s.anySelfRefresh = false → s.bit Reg.DRC_STAT Fld.DRC_STAT_SWITCHING = false →
          t.bit Reg.DRC_STAT Fld.DRC_STAT_SWITCHING = true ∧ t.drc.switchTo = fieldOf data 0 2 ∧ (∀ x ∈ t.drc.chans, x.burst = none)) ∧
        (bitOf data 2 = false → d.switchLen ≠ 0 → t.spWaiting = true ∧
          t.get Reg.DRC_STAT Fld.DRC_STAT_SP_PENDING = fieldOf data 0 2) ∧
        (bitOf data 2 = false → d.switchLen = 0 → t.bit Reg.DRC_STAT Fld.DRC_STAT_REJECT = true ∧ t.drc = s.drc)) ∧
  (∀ (p : Path) (data : Word) (s : State) (d : DramRec), s.admits p Reg.DRC_SP_CTRL data = true → bitOf data 3 = true →
      s.dramRec? = some d → fieldOf data 0 2 < d.spCodes.length → fieldOf data 0 2 = s.spActive →
      ∃ t, exec (.setPointGo p data) s = .next t ∧ t.spWaiting = false) ∧
  (∀ (t0 : Nat) (s : State) (d : DramRec), s.dramRec? = some d → d.switchLen ≠ 0 → s.spWaiting = true → s.drc.urgent = false →
      s.anySelfRefresh = false → s.bit Reg.DRC_STAT Fld.DRC_STAT_SWITCHING = false → t0 = s.instanceStart t0 + d.switchStart * nsT →
      ∃ t, exec (.switchWindow t0) s = .next t ∧
        (if s.drc.chans.any (fun x => x.burst.isSome) then t.drc.inWindow = true ∧ t.regs = s.regs
         else t.bit Reg.DRC_STAT Fld.DRC_STAT_SWITCHING = true ∧ t.spWaiting = false ∧
           t.drc.switchTo = s.get Reg.DRC_STAT Fld.DRC_STAT_SP_PENDING)) ∧
  (∀ (t0 : Nat) (s : State) (d : DramRec), s.dramRec? = some d →
      (d.switchLen = 0 ∨ t0 ≠ s.instanceStart t0 + d.switchStart * nsT ∨ s.spWaiting = false ∨ s.drc.urgent = true ∨
        s.anySelfRefresh = true ∨ s.bit Reg.DRC_STAT Fld.DRC_STAT_SWITCHING = true) →
      ∃ t, exec (.switchWindow t0) s = .next t ∧ t.drc = s.drc ∧ t.regs = s.regs) ∧
  (∀ (t0 : Nat) (s : State), s.bit Reg.DRC_STAT Fld.DRC_STAT_SWITCHING = true → s.drc.urgent = false → s.drc.switchTo < 4 →
      ∃ t, exec (.setPointSwitchComplete t0) s = .next t ∧ t.spActive = s.drc.switchTo ∧
        t.bit Reg.DRC_STAT Fld.DRC_STAT_SWITCHING = false ∧ t.reg Reg.DRC_SW_COUNT = satAdd (s.reg Reg.DRC_SW_COUNT) 1) ∧
  (∀ (t0 : Nat) (s : State), s.bit Reg.DRC_STAT Fld.DRC_STAT_SWITCHING = true → s.drc.urgent = true → s.spWaiting = true →
      s.drc.switchTo < 4 → s.get Reg.DRC_STAT Fld.DRC_STAT_SP_PENDING ≠ s.drc.switchTo →
      ∃ t, exec (.setPointSwitchComplete t0) s = .next t ∧ t.spActive = s.drc.switchTo ∧
        t.bit Reg.DRC_STAT Fld.DRC_STAT_SWITCHING = true ∧ t.drc.switchTo = s.get Reg.DRC_STAT Fld.DRC_STAT_SP_PENDING ∧
        t.reg Reg.DRC_SW_COUNT = satAdd (s.reg Reg.DRC_SW_COUNT) 1) ∧
  (∀ (c commitAt t0 : Nat) (s : State) (im : Image) (x : DramChan), s.gen.running = some im → s.dramChan? c = some x →
      fieldOf (s.reg Reg.DRC_SR_CTRL) 0 16 ≠ 0 → x.srCommit = none → x.burst = none →
      s.bit Reg.DRC_STAT Fld.DRC_STAT_SWITCHING = false → x.idleSince + fieldOf (s.reg Reg.DRC_SR_CTRL) 0 16 * 64 * s.cycleT ≤ t0 →
      (∀ h ∈ s.heads, s.channelOf h.port h.addr ≠ c) → s.trafficOpen im c t0 = false → t0 ≤ commitAt →
      ∃ t, exec (.selfRefreshIdle c commitAt t0) s = .next t ∧ t.dramChan? c = some { x with srCommit := some commitAt, exiting := false } ∧
        t.regs = s.regs ∧ (c < 8 → commitAt ≤ t.now →
          t.drcView (Reg.DRC_CH_STAT c) = some (putField (s.reg (Reg.DRC_CH_STAT c)) 0 3 3).toNat)) ∧
  (∀ (c t0 : Nat) (s : State) (x : DramChan), s.dramChan? c = some x → x.exiting = true →
      ∃ t, exec (.selfRefreshExit c t0) s = .next t ∧
        t.dramChan? c = some { x with srCommit := none, exiting := false, idleSince := t0 }) ∧
  (∀ (p : Path) (s : State), s.admits p Reg.DRC_CNT_CLEAR 1 = true →
      ∃ t, exec (.drcCntClear p) s = .next t ∧ (∀ a, t.reg a = if drcCounter a then resetValue a else s.reg a) ∧
        (∀ x ∈ t.drc.ports, x.maxLat = 0 ∧ x.l3 = 0))


/-! ### Temperature (chapter 15) -/

/-- Conversions and sensor failures (R264 to R267, R269). While the core runs, CONVERSION converts every enabled channel: L never falls
and rises to c, which is at least the level of each throttling channel that reads, and HELD says whether a throttling channel is failed
and not acknowledged; while it does not run, nothing is converted. A converting channel with a cause of R266 latches the first that
holds, a channel without cause reports θ: the diode's at its ideality, or the interpolation of its thermistor table. Channel 16 reads
the higher of its valid junctions and fails where neither is. A failed channel under RECHECK is clear after the sixteenth conversion
without cause, and not before. LEVEL_FALL takes L down by one after FALL_HOLD_S, and not before. -/
def Obligations.ConversionsAreChecked : Prop :=
  (∀ (c : Conversion) (s : State), s.umb.coreOut = true → ∃ t, exec (.conversion c) s = .next t ∧
      t.level = Nat.max s.level (fieldOf (t.reg Reg.THM_LEVEL) 4 3) ∧ bitOf (t.reg Reg.THM_LEVEL) 16 = t.tempHeld ∧
      ∀ i th, t.throttling i = true → t.usable i = some th → t.levelOf i th 0 ≤ fieldOf (t.reg Reg.THM_LEVEL) 4 3) ∧
  (∀ (c : Conversion) (s : State), s.umb.coreOut = false → exec (.conversion c) s = .next (s.tick c.t)) ∧
  (∀ (c : Conversion) (s : State) (i k : Nat) (x : Conv), s.umb.coreOut = true → i < 16 → s.tempMode i ≠ 0 →
      c.convs.find? (fun y => y.input == i) = some x → s.tempFailed i = false →
      (let th := if s.tempMode i = 2 then s.ntcTheta (s.ntcTable i) x.code else diodeTheta (s.etaOf i) x
       let open_ := if s.tempMode i = 2 then 4095 ≤ x.code else 1000000 < x.uv
       let short := if s.tempMode i = 2 then x.code = 0 else x.uv < 100000
       let inside := (s.tempLimits i).1 ≤ th ∧ th ≤ (s.tempLimits i).2
       (open_ ∧ k = 0) ∨ (¬open_ ∧ short ∧ k = 1) ∨ (¬open_ ∧ ¬short ∧ ¬inside ∧ k = 2) ∨
         (¬open_ ∧ ¬short ∧ inside ∧ k = 3 ∧ ∃ o, olderReading (s.tempChan i).history c.t (4 * msT) = some o ∧ 41 ≤ (th - o).natAbs)) →
      ∃ t, exec (.conversion c) s = .next t ∧ t.tempFailed i = true ∧ t.get (Reg.THM_CH_VAL i) Fld.THM_CH_VAL_CAUSE = k ∧
        t.bit Reg.THM_STATE Fld.THM_STATE_SENSOR_EVT = true ∧ bitOf (t.reg Reg.CMD_EVT) 4 = true ∧
        (s.thm.subWrites = [] → t.usable i = none)) ∧
  (∀ (c : Conversion) (s : State) (i : Nat) (x : Conv), s.umb.coreOut = true → i < 16 → s.tempMode i ≠ 0 →
      c.convs.find? (fun y => y.input == i) = some x → s.tempFailed i = false →
      (let th := if s.tempMode i = 2 then s.ntcTheta (s.ntcTable i) x.code else diodeTheta (s.etaOf i) x
       (if s.tempMode i = 2 then 0 < x.code ∧ x.code < 4095 else 100000 ≤ x.uv ∧ x.uv ≤ 1000000) →
       (s.tempLimits i).1 ≤ th → th ≤ (s.tempLimits i).2 →
       (∀ o, olderReading (s.tempChan i).history c.t (4 * msT) = some o → (th - o).natAbs < 41) →
       ∃ t, exec (.conversion c) s = .next t ∧ t.tempFailed i = false ∧ t.usable i = some th ∧
         t.get (Reg.THM_CH_VAL i) Fld.THM_CH_VAL_THETA = codeOf 16 th)) ∧
  (∀ (c : Conversion) (s : State) (a b : Conv) (th : Int), s.umb.coreOut = true → c.convs.find? (fun y => y.input == 16) = some a →
      c.convs.find? (fun y => y.input == 17) = some b → s.tempFailed 16 = false →
      (let good (x : Conv) : Prop := 100000 ≤ x.uv ∧ x.uv ≤ 1000000
       (good a ∧ good b ∧ th = max a.theta b.theta) ∨ (good a ∧ ¬good b ∧ th = a.theta) ∨ (¬good a ∧ good b ∧ th = b.theta)) →
      -640 ≤ th → th ≤ 2400 → olderReading (s.tempChan 16).history c.t (4 * msT) = none →
      ∃ t, exec (.conversion c) s = .next t ∧ t.tempFailed 16 = false ∧ t.get (Reg.THM_CH_VAL 16) Fld.THM_CH_VAL_THETA = codeOf 16 th) ∧
  (∀ (c : Conversion) (s : State) (a b : Conv), s.umb.coreOut = true → c.convs.find? (fun y => y.input == 16) = some a →
      c.convs.find? (fun y => y.input == 17) = some b → s.tempFailed 16 = false →
      (openVolts a || shortVolts a) = true → (openVolts b || shortVolts b) = true →
      ∃ t, exec (.conversion c) s = .next t ∧ t.tempFailed 16 = true ∧ t.usable 16 = none) ∧
  (∀ (c : Conversion) (s : State) (i : Nat) (th : Int) (x : Conv), s.umb.coreOut = true → i < 16 → s.tempMode i ≠ 0 →
      c.convs.find? (fun y => y.input == i) = some x → s.tempFailed i = true → (s.tempChan i).rechecking = true →
      s.measure (s.tempMode i) (s.tempLimits i) (s.tempChan i).history (4 * msT) c.t x = (none, some th) →
      ∃ t, exec (.conversion c) s = .next t ∧ t.tempFailed i = decide ((s.tempChan i).clean + 1 < 16) ∧
        (15 ≤ (s.tempChan i).clean → t.usable i = some th)) ∧
  (∀ (t0 u : Nat) (s : State), 0 < s.level → s.thm.fallSince = some u → u + fieldOf (s.reg Reg.THM_THR) 16 8 * secT ≤ t0 →
      ∃ t, exec (.levelFall t0) s = .next t ∧ t.level = s.level - 1) ∧
  (∀ (t0 : Nat) (s : State), (∀ u, s.thm.fallSince = some u → t0 < u + fieldOf (s.reg Reg.THM_THR) 16 8 * secT) →
      exec (.levelFall t0) s = .next (s.tick t0))

/-- Acknowledgement and RECHECK (R266 to R268, R277). SUBSTITUTE of a failed channel outside the guard pair acknowledges it, and at
the next conversion it reports the substitute's θ plus OFFSET, or is unacknowledged again where the substitute has failed; in the four
cases of R267 the write is refused with SUB_BAD; the value 0x1F takes the acknowledgement back. GUARD_ACK acknowledges the guard channels' failures. RECHECK starts the count of good
conversions. THM_CNT_CLEAR clears THM_FAILS. -/
def Obligations.FailuresAreAcknowledged : Prop :=
  (∀ (p : Path) (i : Nat) (data : Word) (s : State), i < 14 → s.admits p (Reg.THM_SUB i) data = true → s.tempFailed i = true →
      fieldOf data 0 5 ≤ 16 → fieldOf data 0 5 ≠ i → fieldOf data 0 5 ≠ 14 → fieldOf data 0 5 ≠ 15 →
      s.tempFailed (fieldOf data 0 5) = false →
      ∃ t, exec (.substitute p i data) s = .next t ∧ t.tempAcked i = true ∧
        subOf (t.reg (Reg.THM_SUB i)) = some (fieldOf data 0 5, signedOf 12 (fieldOf data 16 12)) ∧
        bitOf (t.reg Reg.THM_LEVEL) 16 = t.tempHeld) ∧
  (∀ (p : Path) (i : Nat) (data : Word) (s : State), i < 16 → s.admits p (Reg.THM_SUB i) data = true →
      (let n := fieldOf data 0 5
       (17 ≤ n ∧ n ≤ 30) ∨ n = i ∨ (n ≠ 31 ∧ s.tempFailed n = true) ∨ n = 14 ∨ n = 15 ∨ 14 ≤ i) →
      ∃ t, exec (.substitute p i data) s = .next t ∧ t.bit Reg.THM_STATE Fld.THM_STATE_SUB_BAD = true ∧ t.thm = s.thm ∧
        (∀ a, a ≠ Reg.THM_STATE → t.reg a = s.reg a)) ∧
  (∀ (p : Path) (i : Nat) (data : Word) (s : State), i < 14 → s.admits p (Reg.THM_SUB i) data = true → fieldOf data 0 5 = 31 →
      ∃ t, exec (.substitute p i data) s = .next t ∧ t.tempAcked i = false ∧ subOf (t.reg (Reg.THM_SUB i)) = none ∧
        bitOf (t.reg Reg.THM_LEVEL) 16 = t.tempHeld) ∧
  (∀ (c : Conversion) (s : State) (i n : Nat) (off : Int), s.umb.coreOut = true → i < 14 → s.tempMode i ≠ 0 → s.tempFailed i = true → s.tempAcked i = true →
      subOf (s.reg (Reg.THM_SUB i)) = some (n, off) → s.thm.subWrites = [] → (s.tempChan i).rechecking = false →
      ∃ t, exec (.conversion c) s = .next t ∧
        (t.tempFailed n = true → t.tempAcked i = false ∧ t.usable i = none) ∧
        (∀ th, t.tempFailed n = false → t.usable n = some th → -32768 ≤ th + off → th + off ≤ 32767 →
          t.usable i = some (th + off) ∧ t.get (Reg.THM_CH_VAL i) Fld.THM_CH_VAL_THETA = codeOf 16 (th + off))) ∧
  (∀ (p : Path) (data : Word) (s : State), s.admits p Reg.THM_CTRL data = true → bitOf data 0 = true →
      ∃ t, exec (.guardAck p data) s = .next t ∧ ∀ i, (i = 14 ∨ i = 15) → s.tempFailed i = true → t.tempAcked i = true) ∧
  (∀ (p : Path) (data : Word) (s : State), s.admits p Reg.THM_CTRL data = true → bitOf data 1 = true → fieldOf data 8 5 ≤ 16 →
      s.tempFailed (fieldOf data 8 5) = true →
      ∃ t, exec (.recheck p data) s = .next t ∧ (t.tempChan (fieldOf data 8 5)).rechecking = true ∧
        (t.tempChan (fieldOf data 8 5)).clean = 0) ∧
  (∀ (p : Path) (s : State), s.admits p Reg.THM_CNT_CLEAR 1 = true →
      ∃ t, exec (.thmCntClear p) s = .next t ∧ (∀ a, t.reg a = if a = Reg.THM_FAILS then resetValue a else s.reg a))

/-- The guard (R271 to R274, R276). While Umbra has its supply, GUARD_CONVERSION checks every input: a cause fails it, an input of G0
returns by itself after sixteen good conversions, one of G1 through RECHECK alone; a pair at or above T_BLANK in two conversions asserts blank
source 2 and holds LAMP_PWR_EN low, one at or above T_HALT in two is a thermal halt: it is recorded with its pair and WFN, the stop is
issued, the restart timer restarts, a sixth halt after five stamps locks the part out, no stamp is added; T_HALT + 5 °C drops power at
once. A pair with both inputs failed is blank-only. After the guard (R272, R273, R275). BLANK_RELEASE: one second below T_BLANK - 5 °C
releases the source unless a pair is blank-only, and not before. CORE_POWER_DROP: with the stop standing, power goes when no page program is in progress,
and after 4 ms in any case. THERMAL_RESTART: after RESTART_S of cooling Umbra raises CORE_PWR_REQ and stamps the restart, but not in
LOCKOUT, and a core that a wake event has powered already takes no stamp. THERMAL_UNLOCK clears LOCKOUT and the stamps and applies the restart condition afresh. -/
def Obligations.GuardProtectsAndRestarts : Prop :=
  (∀ (c : GuardConv) (s : State), s.umb.powered = true → ∃ t, exec (.guardConversion c) s = .next t ∧
      t.thm.guards = s.thm.guards.map (s.convertGuard c) ∧ t.thm.stamps = s.thm.stamps ∧
      t.bit Reg.THM_STATE Fld.THM_STATE_BLANK_ONLY = (t.pairFailed 0 || t.pairFailed 1) ∧
      (∀ g ∈ s.thm.pairs, ∀ th, t.pairTemp g.pair = some th →
        (g.atBlank = true → (s.guardLimits g.pair).1 ≤ th → t.bit Reg.THM_STATE Fld.THM_STATE_T_BLANK = true) ∧
        (g.atHalt = true → g.halted = false → (s.guardLimits g.pair).2 ≤ th →
          s.thm.halts < t.thm.halts ∧ t.thm.waiting = true ∧ t.thm.coolSince = none ∧
          (s.umb.coreReq = true → t.umb.coreReq = false ∨ t.umb.stopAt.isSome = true) ∧
          t.bit Reg.UMB_STATE Fld.UMB_STATE_LOCKOUT =
            (s.bit Reg.UMB_STATE Fld.UMB_STATE_LOCKOUT || decide (5 ≤ (s.tick c.t).recentStamps)) ∧
          (s.thm.pairs.filter (·.atHalt) = [g] → g.pair < 2 → fieldOf (t.reg Reg.UMB_HALT_INFO) 0 2 = 1 + g.pair ∧
            t.reg Reg.UMB_HALT_WFN_LO = loWord (s.tick c.t).wfnNow)) ∧
        (g.atDrop = true → (s.guardLimits g.pair).2 + 80 ≤ th → s.umb.stopAt.isSome = true → t.umb.coreReq = false)) ∧
      (t.umb.coreReq = s.umb.coreReq →
        ((t.bit Reg.THM_STATE Fld.THM_STATE_T_BLANK || t.bit Reg.THM_STATE Fld.THM_STATE_BLANK_ONLY) = bitOf (t.reg Reg.LMP_BLANK_SRC) 2)) ∧
      ((t.bit Reg.THM_STATE Fld.THM_STATE_T_BLANK || t.bit Reg.THM_STATE Fld.THM_STATE_BLANK_ONLY) = true → t.lmp.pwrAt = none)) ∧
  (∀ (c : GuardConv) (s : State), s.umb.powered = false → exec (.guardConversion c) s = .next (s.tick c.t)) ∧
  (∀ (c : GuardConv) (s : State) (g : GuardInput), (g.input = 14 ∨ g.input = 15) → s.tempMode g.input = 0 → g.fail = none →
      (s.convertGuard c g).fail = some Cause.OPEN ∧ (s.convertGuard c g).value = none) ∧
  (∀ (c : GuardConv) (s : State) (g : GuardInput) (x : Conv), c.convs.find? (fun y => y.input == g.input) = some x →
      (let mode := if 16 ≤ g.input then 1 else s.tempMode g.input
       let m := s.measure mode (s.tempLimits g.input) g.history (100 * usT) c.t x
       let r := s.convertGuard c g
       mode ≠ 0 →
        (∀ k, m.1 = some k → r.fail = some (g.fail.getD k) ∧ (g.fail = none → r.value = none) ∧ r.clean = 0) ∧
        (∀ th, m = (none, some th) →
          (g.fail = none → r.fail = none ∧ r.value = some th) ∧
          (g.fail.isSome = true → (16 ≤ g.input ∨ g.rechecking = true) →
            (15 ≤ g.clean → r.fail = none ∧ r.value = some th) ∧
            (g.clean < 15 → r.fail = g.fail ∧ r.value = g.value ∧ r.clean = g.clean + 1)) ∧
          (g.fail.isSome = true → g.input < 16 → g.rechecking = false → r.fail = g.fail ∧ r.value = g.value)))) ∧
  (∀ (t0 : Nat) (s : State), s.thm.pairs.any (·.reached) = true →
      (∀ g ∈ s.thm.pairs, g.reached = true → ∃ u, g.belowSince = some u ∧ u + secT ≤ t0) →
      ∃ t, exec (.blankRelease t0) s = .next t ∧ t.thm.pairs.all (fun g => !g.reached) = true ∧
        t.bit Reg.THM_STATE Fld.THM_STATE_T_BLANK = false ∧ bitOf (t.reg Reg.LMP_BLANK_SRC) 2 = (s.pairFailed 0 || s.pairFailed 1)) ∧
  (∀ (t0 : Nat) (s : State), (∃ g ∈ s.thm.pairs, g.reached = true ∧ ∀ u, g.belowSince = some u → t0 < u + secT) →
      exec (.blankRelease t0) s = .next (s.tick t0)) ∧
  (∀ (t0 u : Nat) (s : State), s.umb.stopAt = some u → s.umb.coreReq = true →
      (s.storeProgramming = false ∨ s.umb.dropNow = true ∨ u + 4 * msT ≤ t0) →
      ∃ t, exec (.corePowerDrop t0) s = .next t ∧ t.umb.coreReq = false ∧ t.pstate = Ps.UMBRA ∧ t.umb.coreOut = false ∧
        t.out.head? = some (.corePower false)) ∧
  (∀ (t0 u : Nat) (s : State), s.umb.stopAt = some u → s.umb.coreReq = true → s.storeProgramming = true → s.umb.dropNow = false →
      t0 < u + 4 * msT → exec (.corePowerDrop t0) s = .next (s.tick t0)) ∧
  (∀ (t0 : Nat) (s : State), s.umb.stopAt = none → exec (.corePowerDrop t0) s = .next (s.tick t0)) ∧
  (∀ (t0 : Nat) (s : State), s.umb.coreReq = false →
      ∃ t, exec (.corePowerDrop t0) s = .next t ∧ t.umb.stopAt = none ∧ t.out = s.out ∧ t.regs = s.regs) ∧
  (∀ (t0 u : Nat) (s : State), s.thm.waiting = true → s.thm.coolSince = some u →
      u + fieldOf (s.reg Reg.THM_RESTART) 8 16 * secT ≤ t0 → s.umb.coreReq = false →
      s.bit Reg.UMB_STATE Fld.UMB_STATE_LOCKOUT = false →
      ∃ t, exec (.thermalRestart t0) s = .next t ∧ t.umb.coreReq = true ∧ t.umb.cause = 2 ∧ t.thm.waiting = false ∧
        t.thm.stamps = s.thm.stamps ++ [(s.tick t0).umbraCount] ∧ t.out = .corePower true :: s.out) ∧
  (∀ (t0 u : Nat) (s : State), s.thm.waiting = true → s.thm.coolSince = some u →
      u + fieldOf (s.reg Reg.THM_RESTART) 8 16 * secT ≤ t0 → s.umb.coreReq = true →
      s.bit Reg.UMB_STATE Fld.UMB_STATE_LOCKOUT = false →
      ∃ t, exec (.thermalRestart t0) s = .next t ∧ t.thm.waiting = false ∧ t.thm.stamps = s.thm.stamps ∧ t.umb = s.umb) ∧
  (∀ (t0 : Nat) (s : State), s.bit Reg.UMB_STATE Fld.UMB_STATE_LOCKOUT = true →
      exec (.thermalRestart t0) s = .next (s.tick t0)) ∧
  (∀ (c : MboxCmd) (s : State), s.takes 0x404 c = true →
      ∃ t, exec (.thermalUnlock c) s = .next t ∧ t.bit Reg.UMB_STATE Fld.UMB_STATE_LOCKOUT = false ∧ t.thm.stamps = [] ∧
        t.thm.coolSince = none ∧ t.thm.waiting = s.thm.waiting)

/-- A halt while the restart timer of an earlier halt runs restarts the timer and adds no stamp (R276): the conversion that brings the halt
leaves no time since which the inputs are cool, so no restart follows until a conversion finds them cool again, and the count starts at
that conversion. -/
def Obligations.HaltsRestartTheTimer : Prop :=
  (∀ (c : GuardConv) (s : State) (u : Nat), s.umb.powered = true → s.thm.waiting = true → s.thm.coolSince = some u →
      ∃ t, exec (.guardConversion c) s = .next t ∧ t.thm.stamps = s.thm.stamps ∧ t.thm.waiting = true ∧
        (∀ g ∈ s.thm.pairs, ∀ th, t.pairTemp g.pair = some th → g.atHalt = true → g.halted = false →
          (s.guardLimits g.pair).2 ≤ th → s.thm.halts < t.thm.halts ∧ t.thm.coolSince = none)) ∧
  (∀ (t0 : Nat) (s : State), s.thm.coolSince = none → exec (.thermalRestart t0) s = .next (s.tick t0)) ∧
  (∀ (c : GuardConv) (s : State), s.umb.powered = true → s.thm.waiting = true → s.thm.coolSince = none →
      ∃ t, exec (.guardConversion c) s = .next t ∧ (t.thm.coolSince = none ∨ t.thm.coolSince = some c.t))

/-! ### Lockstep and fail-over (chapter 16) -/

/-- The lockstep link's own records (R178, R280, R281, R293, R294). A STATE record that fails its CRC is dropped and counted in
RED_LINK_ERR; a good one gives the other sender's flag and, while FORMED, the offset of its wall time measured by the link's stamps, and
restarts a running hold-off where it tells of a breach or of a time state other than LOCKED; a joiner whose source is no longer ACTIVE
ends JOIN with SOURCE_LOST, a source whose joiner reports FORMED is FORMED. STATE_RECORD_SEND sends RED_STATE, RED_HEALTH and the WFN.
8 µs without STATE takes the link DOWN, LEAVE ends lockstep with its cause recorded. JOIN_TIMEOUT ends JOIN, JOIN_RETRY says HELLO
again 10 s later; neither acts before its time. -/
def Obligations.LinkRecordsKeepThePair : Prop :=
  (∀ (r : StateRec) (s : State), s.isSender = true → s.red.linkUp = true → r.crcOk = true → s.linkCode ≠ 1 →
      ∃ t, exec (.stateRecord r) s = .next t ∧ t.bit Reg.RED_HEALTH Fld.RED_HEALTH_OTHER_ACTIVE = bitOf r.redState 2 ∧
        t.red.otherWfn = r.wfn ∧ t.red.stateAt = r.t ∧ t.linkCode = s.linkCode ∧
        t.bit Reg.RED_STATE Fld.RED_STATE_IN_CONTROL =
          (s.bit Reg.RED_STATE Fld.RED_STATE_ACTIVE && (!s.isMirror || !bitOf r.redState 2)) ∧
        t.red.pairOffset = (r.stamps.departed + ((r.stamps.arrived - r.stamps.sent) - r.stamps.turn) / 2 - r.stamps.arrived) / 16 ∧
        (s.linkCode = 2 → t.reg Reg.TIM_PAIR_OFFSET = BitVec.ofNat 32 (codeOf 32 (satSigned 32 t.red.pairOffset))) ∧
        t.red.holdoffUntil =
          (if s.red.holdoffUntil.isSome = true ∧ (r.breached = true ∨ r.locked = false) then some (t.now + s.param 2 10000 * msT)
           else s.red.holdoffUntil)) ∧
  (∀ (r : StateRec) (s : State), s.isSender = true → s.red.linkUp = true → r.crcOk = false →
      exec (.stateRecord r) s = .next ((s.tick r.t).bump Reg.RED_LINK_ERR 1)) ∧
  (∀ (r : StateRec) (s : State), s.isSender = false ∨ s.red.linkUp = false → exec (.stateRecord r) s = .next (s.tick r.t)) ∧
  (∀ (r : StateRec) (s : State), s.isSender = true → s.red.linkUp = true → r.crcOk = true → s.linkCode = 1 →
      s.bit Reg.RED_STATE Fld.RED_STATE_JOINER = true → bitOf r.redState 2 = false → fieldOf r.redState 0 2 = 1 →
      ∃ t, exec (.stateRecord r) s = .next t ∧ t.linkCode = 0 ∧ t.get Reg.RED_STATE Fld.RED_STATE_JOIN_FAIL = 5 ∧
        t.reg Reg.RED_JOIN_FAIL = satAdd (s.reg Reg.RED_JOIN_FAIL) 1) ∧
  (∀ (r : StateRec) (s : State), s.isSender = true → s.red.linkUp = true → r.crcOk = true → s.linkCode = 1 →
      s.bit Reg.RED_STATE Fld.RED_STATE_JOINER = false → fieldOf r.redState 0 2 = 2 →
      ∃ t, exec (.stateRecord r) s = .next t ∧ t.linkCode = 2 ∧ t.bit Reg.RED_STATE Fld.RED_STATE_CURRENT = true ∧
        t.reg Reg.RED_JOINS = satAdd (s.reg Reg.RED_JOINS) 1) ∧
  (∀ (t0 : Nat) (s : State), s.isSender = true → s.red.linkUp = true →
      ∃ t, exec (.stateRecordSend t0) s = .next t ∧ t.regs = s.regs ∧
        t.out = .link (.state (s.reg Reg.RED_STATE) (s.tick t0).healthWord (s.tick t0).wfnNow) :: s.out) ∧
  (∀ (t0 : Nat) (s : State), s.isSender = true → s.red.linkUp = true → s.red.stateAt + 8 * usT ≤ t0 → s.linkCode < 3 →
      ∃ t, exec (.linkStateTimeout t0) s = .next t ∧ t.linkCode = 0 ∧ t.red.linkUp = false ∧ t.red.hello = none ∧
        (s.linkCode = 1 → t.get Reg.RED_STATE Fld.RED_STATE_JOIN_FAIL = 4)) ∧
  (∀ (t0 : Nat) (s : State), t0 < s.red.stateAt + 8 * usT → exec (.linkStateTimeout t0) s = .next (s.tick t0)) ∧
  (∀ (cause t0 : Nat) (s : State), s.isSender = true → s.linkCode < 3 → cause < 256 →
      ∃ t, exec (.leave cause t0) s = .next t ∧ t.linkCode = 0 ∧ fieldOf (t.reg Reg.RED_LEAVE) 0 8 = cause ∧
        fieldOf (t.reg Reg.RED_LEAVE) 8 8 = fieldOf (s.reg Reg.RED_LEAVE) 8 8) ∧
  (∀ (t0 a : Nat) (s : State), s.linkCode = 1 → s.red.joinAt = some a →
      a + s.get Reg.RED_CFG Fld.RED_CFG_JOIN_TIMEOUT * secT ≤ t0 →
      ∃ t, exec (.joinTimeout t0) s = .next t ∧ t.linkCode = 0 ∧ t.get Reg.RED_STATE Fld.RED_STATE_JOIN_FAIL = 3 ∧
        t.red.failedAt = some (Nat.max s.now t0) ∧ t.reg Reg.RED_JOIN_FAIL = satAdd (s.reg Reg.RED_JOIN_FAIL) 1) ∧
  (∀ (t0 a : Nat) (s : State), s.linkCode = 0 → s.red.linkUp = true → s.red.failedAt = some a → a + 10 * secT ≤ t0 →
      ∃ t, exec (.joinRetry t0) s = .next t ∧ t.red.failedAt = none ∧
        ∃ id pos image epoch cur, Output.link (.hello id pos image epoch cur) ∈ t.out) ∧
  (∀ (t0 : Nat) (s : State), (∀ a, s.red.joinAt = some a → t0 < a + s.get Reg.RED_CFG Fld.RED_CFG_JOIN_TIMEOUT * secT) →
      exec (.joinTimeout t0) s = .next (s.tick t0)) ∧
  (∀ (t0 : Nat) (s : State), (∀ a, s.red.failedAt = some a → t0 < a + 10 * secT) → exec (.joinRetry t0) s = .next (s.tick t0))

/-- Joining (R76, R136, R157, R280, R281, R290 to R292). HELLO: a record that fails its CRC is dropped and counted; equal positions give
PAIR_CONFLICT, unequal images IMAGE, an offset above 100 ns TIME, and no join; else the sender in control is the source, sends its surfaces,
QPs and refresh queue and goes on to CONVERGE, the other the joiner, not current, its surfaces discarded; two senders that start
together are FORMED at once. HELLO_RECHECK repeats the check. The follower applies CONFIG, a stream's registers behind the verdicts that
wait; COMMIT, EXPRESS and REFRESH records and tile records. CONVERGE ends when every enabled stream has been promoted and every HEVC
channel has decoded an IRAP picture since CONFIG, and not before. SLICE_SIG: a mismatch while FORMED is a divergence report. -/
def Obligations.SendersJoin : Prop :=
  (∀ (h : HelloRec) (s : State) (im : Image), s.gen.running = some im → im.role = .sender → h.crcOk = true → s.linkCode = 0 →
      ∃ t, exec (.hello h) s = .next t ∧
        (let off := pairOffset h.stamps
         (h.position = flag s.isMirror → t.linkCode = 0 ∧ t.get Reg.RED_STATE Fld.RED_STATE_JOIN_FAIL = 7 ∧
           t.bit Reg.RED_STATE Fld.RED_STATE_PAIR_CONFLICT = true) ∧
         (h.position ≠ flag s.isMirror → h.imageId ≠ im.imageId → t.linkCode = 0 ∧ t.get Reg.RED_STATE Fld.RED_STATE_JOIN_FAIL = 1) ∧
         (h.position ≠ flag s.isMirror → h.imageId = im.imageId → 1600 < off.natAbs →
           t.linkCode = 0 ∧ t.get Reg.RED_STATE Fld.RED_STATE_JOIN_FAIL = 2) ∧
         (h.position ≠ flag s.isMirror → h.imageId = im.imageId → off.natAbs ≤ 1600 →
           if s.runs = false ∧ h.current = false then t.linkCode = 2 ∧ t.bit Reg.RED_STATE Fld.RED_STATE_CURRENT = true
           else t.linkCode = 1 ∧ t.bit Reg.RED_STATE Fld.RED_STATE_JOINER = !s.bit Reg.RED_STATE Fld.RED_STATE_IN_CONTROL ∧
             (s.bit Reg.RED_STATE Fld.RED_STATE_IN_CONTROL = false →
               t.bit Reg.RED_STATE Fld.RED_STATE_CURRENT = false ∧ t.cmp.surfaces = [] ∧ t.get Reg.RED_STATE Fld.RED_STATE_PHASE = 2) ∧
             (s.bit Reg.RED_STATE Fld.RED_STATE_IN_CONTROL = true → t.get Reg.RED_STATE Fld.RED_STATE_PHASE = 3 ∧
               (∀ v ∈ s.cmp.surfaces, Output.link (.config (.surface v)) ∈ t.out) ∧
               (∀ x ∈ s.ccx.tiles, Output.link (.config (.coder x.ta x.qp x.firstCell)) ∈ t.out) ∧
               Output.link (.config (.refreshQueue s.ccx.refresh)) ∈ t.out)))) ∧
  (∀ (h : HelloRec) (s : State), s.isSender = true → h.crcOk = false →
      exec (.hello h) s = .next ((s.tick h.t).bump Reg.RED_LINK_ERR 1)) ∧
  (∀ (p : PairStamps) (t0 : Nat) (s : State) (im : Image) (h : HelloIn), s.gen.running = some im → im.role = .sender → s.linkCode = 0 →
      s.red.linkUp = true → s.red.hello = some h → h.position ≠ flag s.isMirror → h.imageId = im.imageId →
      ∃ t, exec (.helloRecheck p t0) s = .next t ∧
        (1600 < (pairOffset p).natAbs → t.linkCode = 0 ∧ t.get Reg.RED_STATE Fld.RED_STATE_JOIN_FAIL = 2) ∧
        ((pairOffset p).natAbs ≤ 1600 → t.linkCode ≠ 0)) ∧
  (∀ (t0 : Nat) (s : State), s.follows = true →
      (∀ a d, streamReg a = false → a ≠ Reg.CDC_RET_CTRL →
        ∃ t, exec (.configRecord (.register a d) t0) s = .next t ∧ t.reg a = d ∧ ∀ b, b ≠ a → t.reg b = s.reg b) ∧
      (∀ a d, streamReg a = true →
        (let str := (a - Reg.ING_STR_CTRL 0) / 0x40
         ((s.stream str).verdicts = [] → a ≠ Reg.ING_STR_CTRL str →
           ∃ t, exec (.configRecord (.register a d) t0) s = .next t ∧ t.reg a = d ∧ ∀ b, b ≠ a → t.reg b = s.reg b) ∧
         ((s.stream str).verdicts = [] → a = Reg.ING_STR_CTRL str →
           ∃ t, exec (.configRecord (.register a d) t0) s = .next t ∧ t.streamOn str = bitOf d 0) ∧
         ((s.stream str).verdicts ≠ [] →
           ∃ t, exec (.configRecord (.register a d) t0) s = .next t ∧ t.regs = s.regs ∧
             (t.stream str).verdicts = (s.stream str).verdicts ++ [.table a d]))) ∧
      (∀ d, ∃ t, exec (.configRecord (.register Reg.CDC_RET_CTRL d) t0) s = .next t ∧ t.retOn = bitOf d 0 ∧
        (bitOf d 1 = true → t.cdc.idrDue = true)) ∧
      (∀ id v, ∃ t, exec (.configRecord (.param id v) t0) s = .next t ∧ t.regs = s.regs ∧
        t.gen.params = s.gen.params.map (fun p => if p.spec.id = id then { p with value := v } else p)) ∧
      (∀ c, ∃ t, exec (.configRecord (.committed c) t0) s = .next t ∧ t.regs = s.regs ∧ c ∈ t.cmp.sets) ∧
      (∀ c st e, c < 4 → ∃ t, exec (.configRecord (.express c st e) t0) s = .next t ∧
        fieldOf (t.reg Reg.CHN_EXP_STATE) (2 * c) 2 = st % 4 ∧ ∀ x ∈ t.chn.exp, x.chain = c → x.eseq = e) ∧
      (∀ ta qp fc x, s.coder? ta = some x → x.ta = ta → ∃ t, exec (.configRecord (.coder ta qp fc) t0) s = .next t ∧
        t.coder? ta = some { x with qp := qp, firstCell := fc }) ∧
      (∀ jobs, ∃ t, exec (.configRecord (.refreshQueue jobs) t0) s = .next t ∧ t.ccx.refresh = jobs) ∧
      (∀ a bs, ∃ t, exec (.configRecord (.memory a bs) t0) s = .next t ∧ t.regs = s.regs ∧
        t.dram = cellSetMany (fun _ => (0 : Byte)) s.dram a bs) ∧
      (∀ v, ∃ t, exec (.configRecord (.surface v) t0) s = .next t ∧ v ∈ t.cmp.surfaces ∧
        ∀ u ∈ t.cmp.surfaces, u.index = v.index → u = v) ∧
      (∀ h, ∃ t, exec (.configRecord (.freed h) t0) s = .next t ∧ ∀ u ∈ t.cmp.surfaces, handleOf u ≠ h) ∧
      (s.linkCode = 1 → ∃ t, exec (.configRecord .last t0) s = .next t ∧ t.get Reg.RED_STATE Fld.RED_STATE_PHASE = 3)) ∧
  (∀ (o : ConfigObj) (t0 : Nat) (s : State), s.follows = false → exec (.configRecord o t0) s = .next (s.tick t0)) ∧
  (∀ (t0 : Nat) (s : State), s.linkCode = 1 → s.get Reg.RED_STATE Fld.RED_STATE_PHASE = 3 →
      (∀ k < 16, s.streamOn k = true → k ∈ s.red.promoted) → (∀ k ∈ s.channelsOf 0, k ∈ s.red.iraps) →
      ∃ t, exec (.convergeEnd t0) s = .next t ∧ t.get Reg.RED_STATE Fld.RED_STATE_PHASE = 4 ∧
        (s.bit Reg.RED_STATE Fld.RED_STATE_JOINER = false → t.red.toRecord = s.tas)) ∧
  (∀ (t0 : Nat) (s : State), s.linkCode ≠ 1 ∨ s.get Reg.RED_STATE Fld.RED_STATE_PHASE ≠ 3 ∨
      (∃ k < 16, s.streamOn k = true ∧ k ∉ s.red.promoted) ∨ (∃ k ∈ s.channelsOf 0, k ∉ s.red.iraps) →
      exec (.convergeEnd t0) s = .next (s.tick t0)) ∧
  (∀ (wfn t0 : Nat) (s : State), s.follows = true →
      ∃ t, exec (.commitRecord wfn t0) s = .next t ∧ (∃ c ∈ t.cmp.sets, c.wfn = wfn ∧ c.words = s.pendingSet) ∧
        (∀ c ∈ t.cmp.sets, c.wfn = wfn → c.words = s.pendingSet)) ∧
  (∀ (mask code eseq t0 : Nat) (s : State), s.formedMirror = true → 1 ≤ code → code ≤ 3 →
      ∃ t, exec (.expressRecord mask code eseq t0) s = .next t ∧
        (∀ x ∈ t.chn.exp, x.chain ∈ setBits 4 mask → x.eseq = eseq % 256 ∧ (x.want = 0 ∨ x.want < code)) ∧
        (∀ x ∈ s.chn.exp, if x.chain ∈ setBits 4 mask then Output.express x.chain (requestCode code) (eseq % 256) ∈ t.out
          else x ∈ t.chn.exp)) ∧
  (∀ (ta wfn slot t0 : Nat) (s : State) (im : Image), s.gen.running = some im → s.follows = true →
      ∃ t, exec (.refreshRecord ta wfn slot t0) s = .next t ∧ (t.ccx.refresh.any (fun j => j.ta == ta)) = true ∧
        ((s.ccx.refresh.any (fun j => j.ta == ta)) = false →
          t.ccx.refresh = s.ccx.refresh ++
            [{ ta := ta, due := List.range im.timeline.nImage, ready := windowOpen im.timeline wfn slot, startup := false }])) ∧
  (∀ (r : TileRec) (t0 : Nat) (s : State) (c : ChainRec), s.chainOf? r.ta = some c → s.linkCode = 1 →
      s.bit Reg.RED_STATE Fld.RED_STATE_JOINER = true →
      ∃ t, exec (.tileRecord r t0) s = .next t ∧ r.ta ∈ t.red.applied ∧
        t.coder? r.ta = some { ta := r.ta, pools := poolsOf r c, qp := r.qp, firstCell := r.firstCell } ∧
        (r.refreshPending = true → (t.ccx.refresh.any (fun j => j.ta == r.ta)) = true)) ∧
  (∀ (ta wfn slot scrc fsig t0 : Nat) (s : State) (g : SliceSig), s.isSender = true → s.linkCode = 2 →
      s.red.sigs.find? (fun y => y.ta == ta && y.wfn == wfn && y.slot == slot) = some g →
      ∃ t, exec (.sliceSig ta wfn slot scrc fsig t0) s = .next t ∧
        t.reg Reg.RED_DIVERGE = (if g.scrc = scrc ∧ g.fsig = fsig then s.reg Reg.RED_DIVERGE else satAdd (s.reg Reg.RED_DIVERGE) 1))

/-- Ring check and health (R286 to R289). RECEIPT_CHECK classifies the other sender's slice: a RECEIPT missing or unconsumed counts
UNCLAIMED, RESULT 0 counts LINK, another SCRC counts CODE_DIFF and is a divergence report, the sender's own SCRC counts nothing.
DIVERGE is a report. HEALTH keeps the last record of a tile, HEALTH_SEND sends one on both ports at a second that is a multiple of
HEALTH_S or within 1 ms of a change of selection, and else nothing; SILENT_TIMEOUT counts the silent
tiles. RING_RETURN_LOSS sets the flag of Table 16.2. RED_CNT_CLEAR clears the counters. -/
def Obligations.RingIsChecked : Prop :=
  (∀ (ta wfn slot : Nat) (s : State) (tl : Timeline) (g : SliceSig), s.timeline? = some tl → s.isSender = true → s.agreed = true →
      s.red.sigs.find? (fun g => g.ta == ta && g.wfn == wfn && g.slot == slot) = some g →
      ∃ t, exec (.receiptCheck ta wfn slot) s = .next t ∧
        (match s.red.receipts.find? (fun r => r.ta == ta && r.wfn40 == wfn % 2 ^ 40 && r.slot == slot) with
         | none => t.reg Reg.RED_UNCLAIMED = satAdd (s.reg Reg.RED_UNCLAIMED) 1 ∧ t.ringBad (ta / 64) = true
         | some r =>
           if r.consumed = false then t.reg Reg.RED_UNCLAIMED = satAdd (s.reg Reg.RED_UNCLAIMED) 1 ∧ t.ringBad (ta / 64) = true
           else if r.result % 2 = 0 then t.reg Reg.RED_RING_LINK = satAdd (s.reg Reg.RED_RING_LINK) 1
           else if r.scrc = g.scrc then t.regs = s.regs
           else t.reg Reg.RED_CODE_DIFF = satAdd (s.reg Reg.RED_CODE_DIFF) 1 ∧
             t.reg Reg.RED_DIVERGE = satAdd (s.reg Reg.RED_DIVERGE) 1 ∧ t.ringBad (ta / 64) = true)) ∧
  (∀ (chain ta wfn slot t0 : Nat) (s : State) (tl : Timeline), s.timeline? = some tl → s.isSender = true →
      ∃ t, exec (.diverge chain ta wfn slot t0) s = .next t ∧ t.reg Reg.RED_DIVERGE = satAdd (s.reg Reg.RED_DIVERGE) 1 ∧
        (wfn, slot) ∈ t.red.reports ∧
        (∀ q ∈ s.red.reports, q.1 * tl.nImage + q.2 + 1 = wfn * tl.nImage + slot →
          s.bit Reg.RED_STATE Fld.RED_STATE_IN_CONTROL = false → t.red.resync = true)) ∧
  (∀ (ta : Nat) (body : List Byte) (t0 : Nat) (s : State), s.isSender = true →
      ∃ t, exec (.health ta body t0) s = .next t ∧ t.red.health.find? (fun x => x.ta == ta) = some { ta := ta, bytes := body.take 24, t := t0 }) ∧
  (∀ (t0 : Nat) (s : State), s.isTile = true →
      ((s.tick t0).now % (s.get Reg.RED_CFG Fld.RED_CFG_HEALTH_S * secT) = 0 ∨ ∃ a, s.red.selectedAt = some a ∧ (s.tick t0).now ≤ a + msT) →
      ∃ t, exec (.healthSend t0) s = .next t ∧ t.red.since = [] ∧ t.red.selectedAt = none ∧
        (let m := messageBytes Msg.HEALTH 2 s.ownTa 0 (s.tick t0).healthBody
         t.chn.tx = s.chn.tx ++ [{ port := 0, bytes := m, sent := 0 }, { port := 1, bytes := m, sent := 0 }])) ∧
  (∀ (t0 : Nat) (s : State), (s.tick t0).now % (s.get Reg.RED_CFG Fld.RED_CFG_HEALTH_S * secT) ≠ 0 →
      (∀ a, s.red.selectedAt = some a → a + msT < (s.tick t0).now) → exec (.healthSend t0) s = .next (s.tick t0)) ∧
  (∀ (ta t0 : Nat) (s : State), s.isSender = true → ta ∈ s.tas → (s.tick t0).tileSilent ta = true →
      (s.chains.map (·.chain)).Nodup → (∀ c ∈ s.chains, c.chain < 4) →
      ∃ t, exec (.silentTimeout ta t0) s = .next t ∧ t.bit Reg.RED_HEALTH Fld.RED_HEALTH_LATENT = true ∧
        1 ≤ t.get Reg.RED_HEALTH Fld.RED_HEALTH_SILENT) ∧
  (∀ (t0 : Nat) (s : State), s.isSender = true → s.linkCode = 0 → s.runs = true →
      ∃ t, exec (.ringReturnLoss t0) s = .next t ∧
        t.bit Reg.RED_STATE Fld.RED_STATE_ACTIVE =
          (if s.isMirror = false ∧ s.bit Reg.RED_STATE Fld.RED_STATE_CURRENT = true then true
           else if s.isMirror = true ∧ (s.tick t0).now < s.red.standbyUntil then false else !(s.tick t0).ringRecent)) ∧
  (∀ (p : Path) (s : State), s.admits p Reg.RED_CNT_CLEAR 1 = true →
      ∃ t, exec (.redCntClear p) s = .next t ∧ (∀ a, t.reg a = if redCounter a then resetValue a else s.reg a))

/-- Hand-over (R282, R294 to R296). HOLDOFF_EXPIRY: with the time LOCKED and every ring return UP the primary takes back at the next
frame boundary, else the hold-off restarts. STARTUP_STANDBY_EXPIRY: a mirror left alone takes control by a cold takeover. PAIR_REJOIN,
PAIR_TAKEBACK and PAIR_RELINQUISH act as R294 to R296 say, or answer IN_CONTROL, BUSY, NOT_FORMED or NOT_PRIMARY. -/
def Obligations.ControlIsHandedOver : Prop :=
  (∀ (t0 u : Nat) (s : State), s.red.holdoffUntil = some u → u ≤ t0 →
      ∃ t, exec (.holdoffExpiry t0) s = .next t ∧
        (if s.timeState = 2 ∧ s.chains.all (fun c => s.portUp c.chain) = true then
          t.red.holdoffUntil = none ∧ t.red.takeBack = true ∧ t.bit Reg.RED_STATE Fld.RED_STATE_HOLDOFF = false
         else t.red.holdoffUntil = some (Nat.max s.now t0 + s.param 2 10000 * msT) ∧ t.red.takeBack = s.red.takeBack)) ∧
  (∀ (t0 : Nat) (s : State), (∀ u, s.red.holdoffUntil = some u → t0 < u) → exec (.holdoffExpiry t0) s = .next (s.tick t0)) ∧
  (∀ (t0 : Nat) (s : State), s.isSender = true → s.isMirror = true → s.linkCode = 0 → s.red.standbyUntil ≤ t0 → s.runs = true →
      (s.tick t0).ringRecent = false → s.bit Reg.RED_STATE Fld.RED_STATE_ACTIVE = false →
      ∃ t, exec (.startupStandbyExpiry t0) s = .next t ∧ t.bit Reg.RED_STATE Fld.RED_STATE_ACTIVE = true ∧
        t.reg Reg.RED_SWITCHES = satAdd (s.reg Reg.RED_SWITCHES) 1 ∧
        (s.bit Reg.RED_STATE Fld.RED_STATE_CURRENT = false → t.bit Reg.RED_STATE Fld.RED_STATE_COLD = true)) ∧
  (∀ (c : MboxCmd) (s : State), s.takes 0x301 c = true →
      (s.bit Reg.RED_STATE Fld.RED_STATE_IN_CONTROL = true →
        exec (.pairRejoin c) s = .next ((s.tick c.t).answer 0x301 c (Reply.of St.IN_CONTROL))) ∧
      (s.bit Reg.RED_STATE Fld.RED_STATE_IN_CONTROL = false → s.linkCode = 1 →
        exec (.pairRejoin c) s = .next ((s.tick c.t).answer 0x301 c (Reply.of St.BUSY))) ∧
      (s.bit Reg.RED_STATE Fld.RED_STATE_IN_CONTROL = false → s.linkCode = 2 → s.dbg.bist = none →
        ∃ t, exec (.pairRejoin c) s = .next t ∧ fieldOf (t.reg Reg.RED_LEAVE) 8 8 = 3 ∧ Output.link (.leave 3) ∈ t.out) ∧
      (s.bit Reg.RED_STATE Fld.RED_STATE_IN_CONTROL = false → s.linkCode = 0 → s.dbg.bist = none →
        ∃ t, exec (.pairRejoin c) s = .next t ∧ ∃ id pos image epoch cur, Output.link (.hello id pos image epoch cur) ∈ t.out)) ∧
  (∀ (c : MboxCmd) (s : State), s.takes 0x302 c = true →
      (s.linkCode ≠ 2 → exec (.pairTakeback c) s = .next ((s.tick c.t).answer 0x302 c (Reply.of St.NOT_FORMED))) ∧
      (s.linkCode = 2 → s.isMirror = true → exec (.pairTakeback c) s = .next ((s.tick c.t).answer 0x302 c (Reply.of St.NOT_PRIMARY))) ∧
      (s.linkCode = 2 → s.isMirror = false → ∃ t, exec (.pairTakeback c) s = .next t ∧ t.red.holdoffUntil = none ∧
        t.bit Reg.RED_STATE Fld.RED_STATE_HOLDOFF = false ∧ t.bit Reg.RED_STATE Fld.RED_STATE_RELINQUISHED = false ∧
        t.red.takeBack = !s.bit Reg.RED_STATE Fld.RED_STATE_ACTIVE)) ∧
  (∀ (c : MboxCmd) (s : State), s.takes 0x303 c = true →
      (s.linkCode ≠ 2 → exec (.pairRelinquish c) s = .next ((s.tick c.t).answer 0x303 c (Reply.of St.NOT_FORMED))) ∧
      (s.linkCode = 2 → s.isMirror = true → exec (.pairRelinquish c) s = .next ((s.tick c.t).answer 0x303 c (Reply.of St.NOT_PRIMARY))) ∧
      (s.linkCode = 2 → s.isMirror = false → ∃ t, exec (.pairRelinquish c) s = .next t ∧ t.red.relinquish = true))

/-! ### Umbra (chapter 17) -/

/-- Dark standby, wake events and Umbra's clock (R299 to R303, R312). STANDBY in RUN is accepted, elsewhere answered BAD_STATE; past the
gate point the state is DARK_STANDBY with the gated islands stopped, but not before what runs has drained. A store, an admission, an
activation, a join or an entry in progress answers BUSY, and a formed sender sends LEAVE with cause STANDBY. WAKE, a write of WAKE, an
enabled WAKE pin at its active level and the alarm at its second are wake events, and act in no other state; WAKE_COMPLETE takes wall time from Umbra's count in FREE and awaits a new run. A stopped TCXO clears TCXO_OK and ends a sender's
HOLDOVER. A read of UMB_RTC_S_LO latches the count. -/
def Obligations.StandbyAndWake : Prop :=
  (∀ (c : MboxCmd) (s : State), s.takes 0x401 c = true → s.pstate = Ps.RUN → s.cal.store = none → s.gen.admission = none →
      s.tru.activation = none → s.gen.activating = false → (s.isSender = true → s.linkCode ≠ 1) → s.umb.entry = none → s.longFull = false →
      ∃ t, exec (.standby c) s = .next t ∧ t.umb.entry = some s.cmd.nextToken ∧ t.pstate = Ps.RUN ∧
        (s.isSender = true → s.linkCode = 2 → t.linkCode = 0 ∧ fieldOf (t.reg Reg.RED_LEAVE) 8 8 = 5) ∧
        t.cmd.longOps.any (fun o => o.token == s.cmd.nextToken && o.opcode == 0x401) = true) ∧
  (∀ (c : MboxCmd) (s : State), s.takes 0x401 c = true → s.pstate = Ps.RUN →
      (s.cal.store.isSome = true ∨ s.gen.admission.isSome = true ∨ s.tru.activation.isSome = true ∨ s.gen.activating = true ∨
        (s.isSender = true ∧ s.linkCode = 1) ∨ s.umb.entry.isSome = true ∨ s.longFull = true) →
      exec (.standby c) s = .next ((s.tick c.t).answer 0x401 c (Reply.of St.BUSY))) ∧
  (∀ (c : MboxCmd) (s : State), s.takes 0x401 c = true → s.pstate ≠ Ps.RUN →
      exec (.standby c) s = .next ((s.tick c.t).answer 0x401 c (Reply.of St.BAD_STATE))) ∧
  (∀ (t0 tok : Nat) (s : State), s.umb.entry = some tok → s.pstate = Ps.ENTERING → s.umb.draining = false →
      ∃ t, exec (.gatePoint t0) s = .next t ∧ t.pstate = Ps.DARK ∧ t.umb.entry = none ∧ t.sch.instances = [] ∧
        (∀ i ≤ 40, gatedIsland i = true → t.get (Reg.GEN_ISL_CLK i) Fld.GEN_ISL_CLK_FREQ = 0)) ∧
  (∀ (t0 : Nat) (s : State), s.umb.entry = none ∨ s.pstate ≠ Ps.ENTERING ∨ s.umb.draining = true →
      exec (.gatePoint t0) s = .next (s.tick t0)) ∧
  (∀ (c : MboxCmd) (s : State), s.takes 0x402 c = true → s.wakes = false →
      exec (.wake c) s = .next ((s.tick c.t).answer 0x402 c (Reply.of St.OK))) ∧
  (∀ (c : MboxCmd) (s : State), s.takes 0x402 c = true → s.wakes = true → ∃ t, exec (.wake c) s = .next t ∧ s.wokenBy 6 t) ∧
  (∀ (p : Path) (data : Word) (s : State), s.admits p Reg.UMB_CTRL data = true → bitOf data 1 = true → bitOf data 3 = false →
      s.wakes = true → (s.pstate = Ps.UMBRA → p = .spi) → ∃ t, exec (.wakeWrite p data) s = .next t ∧ s.wokenBy 5 t) ∧
  (∀ (pin : Nat) (high : Bool) (t0 : Nat) (s : State), pin < 4 → bitOf (s.reg Reg.UMB_WAKE_CFG) pin = true →
      bitOf (s.reg Reg.UMB_WAKE_CFG) (4 + pin) = high → s.wakes = true →
      ∃ t, exec (.wakePin pin ⟨high, t0⟩) s = .next t ∧ s.wokenBy pin t) ∧
  (∀ (pin : Nat) (high : Bool) (t0 : Nat) (s : State), 4 ≤ pin ∨ bitOf (s.reg Reg.UMB_WAKE_CFG) pin = false ∨
      bitOf (s.reg Reg.UMB_WAKE_CFG) (4 + pin) = !high → exec (.wakePin pin ⟨high, t0⟩) s = .next (s.tick t0)) ∧
  (∀ (t0 : Nat) (s : State), s.bit Reg.UMB_CTRL Fld.UMB_CTRL_ALARM_EN = false ∨ (s.tick t0).umbraCount / secT ≠ s.alarmSecond →
      exec (.alarm t0) s = .next (s.tick t0)) ∧
  (∀ (t0 : Nat) (s : State), s.bit Reg.UMB_CTRL Fld.UMB_CTRL_ALARM_EN = true → (s.tick t0).umbraCount / secT = s.alarmSecond →
      s.wakes = true → ∃ t, exec (.alarm t0) s = .next t ∧ s.wokenBy 4 t) ∧
  (∀ (t0 : Nat) (s : State) (im : Image), s.gen.running = some im → s.pstate = Ps.WAKING →
      ∃ t, exec (.wakeComplete t0) s = .next t ∧ t.pstate = Ps.RUN ∧ t.lockState = 1 ∧ t.timeState = 0 ∧
        t.now = (s.tick t0).umbraCount ∧ t.tim.e = none ∧ t.dram = s.dram) ∧
  (∀ (t0 : Nat) (s : State), ∃ t, exec (.tcxoStop t0) s = .next t ∧ t.bit Reg.UMB_STATE Fld.UMB_STATE_TCXO_OK = false ∧
      t.timeState = (if s.isSender = true ∧ s.timeState = 3 then 4 else s.timeState)) ∧
  (∀ (t0 : Nat) (s : State), ∃ t, exec (.tcxoResume t0) s = .next t ∧ t.bit Reg.UMB_STATE Fld.UMB_STATE_TCXO_OK = s.umb.powered) ∧
  (∀ (t0 : Nat) (s : State), s.umb.coreOut = true → s.pstate = Ps.RUN →
      ∃ t, exec (.umbraRealign t0) s = .next t ∧ t.umbraCount = t.now / (40 * nsT) * (40 * nsT) ∧ t.regs = s.regs) ∧
  (∀ (p : Path) (s : State), s.regPathOpen p = true → s.blockAnswers Reg.UMB_RTC_S_LO = true →
      ∃ t, exec (.rtcLatch p) s = .next t ∧ t.rtcLatched (latchKey p) = s.umbraCount ∧
        t.out = .readData (leBytes 4 (s.umbraCount / secT % 2 ^ 32)) :: s.out)

/-- Power failure (R305, R307 to R309). PF_WARNING, of a dip of 2 µs or more, sets PF_EVT, counts, records cause 3 and issues the stop: power goes at once with no
store under way. PF_SENSE_RISE starts the 100 ms after which PF_RESTART raises CORE_PWR_REQ while AUTO_RESTART is 1. CORE_PG_RISE is
noted; CORE_PG_TIMEOUT sets PWR_FAULT and drops the request, with a further try 1 s later up to three; POWER_RETRY makes it; CORE_PG_FALL
is a warning that sets PWR_FAULT too. -/
def Obligations.PowerFailsAndReturns : Prop :=
  (∀ (holds t0 : Nat) (s : State), holds < 2 * usT ∨ s.bit Reg.UMB_STATE Fld.UMB_STATE_PF_WARN = true →
      exec (.pfWarning ⟨t0, holds⟩) s = .next (s.tick t0)) ∧
  (∀ (holds t0 : Nat) (s : State), 2 * usT ≤ holds → s.bit Reg.UMB_STATE Fld.UMB_STATE_PF_WARN = false → s.umb.coreReq = true →
      ∃ t, exec (.pfWarning ⟨t0, holds⟩) s = .next t ∧ t.bit Reg.UMB_STATE Fld.UMB_STATE_PF_WARN = true ∧
        t.bit Reg.UMB_STATE Fld.UMB_STATE_PF_EVT = true ∧ t.reg Reg.UMB_PF_CNT = satAdd (s.reg Reg.UMB_PF_CNT) 1 ∧
        fieldOf (t.reg Reg.UMB_HALT_INFO) 0 2 = 3 ∧ t.reg Reg.UMB_HALT_WFN_LO = loWord (s.tick t0).wfnNow ∧ t.lmp.pwrAt = none ∧
        (t.umb.coreReq = false ∨ t.umb.stopAt.isSome = true) ∧
        (s.cal.store = none → t.umb.coreReq = false ∧ t.pstate = Ps.UMBRA)) ∧
  (∀ (t0 : Nat) (s : State), s.bit Reg.UMB_STATE Fld.UMB_STATE_PF_WARN = true →
      ∃ t, exec (.pfSenseRise t0) s = .next t ∧ t.bit Reg.UMB_STATE Fld.UMB_STATE_PF_WARN = false ∧ t.umb.pfAbove = some t0 ∧
        t.umb.stopAt = s.umb.stopAt) ∧
  (∀ (t0 u : Nat) (s : State), s.umb.warned = true → s.umb.pfAbove = some u → u + 100 * msT ≤ t0 →
      s.bit Reg.UMB_STATE Fld.UMB_STATE_LOCKOUT = false → s.pstate = Ps.UMBRA → s.umb.coreReq = false →
      ∃ t, exec (.pfRestart t0) s = .next t ∧
        (if s.bit Reg.UMB_CTRL Fld.UMB_CTRL_AUTO_RESTART = true then t.umb.coreReq = true ∧ t.umb.cause = 3 ∧ t.out = .corePower true :: s.out
         else t = s.tick t0)) ∧
  (∀ (t0 : Nat) (s : State), s.umb.warned = false ∨ (∀ u, s.umb.pfAbove = some u → t0 < u + 100 * msT) →
      exec (.pfRestart t0) s = .next (s.tick t0)) ∧
  (∀ (t0 : Nat) (s : State), s.umb.coreReq = true → s.umb.corePg = none →
      ∃ t, exec (.corePgRise t0) s = .next t ∧ t.umb.corePg = some t0 ∧ t.regs = s.regs) ∧
  (∀ (t0 : Nat) (s : State), s.umb.coreReq = true → s.umb.corePg = none → s.umb.reqAt + 50 * msT ≤ t0 →
      ∃ t, exec (.corePgTimeout t0) s = .next t ∧ t.bit Reg.UMB_STATE Fld.UMB_STATE_PWR_FAULT = true ∧ t.umb.coreReq = false ∧
        t.umb.tries = s.umb.tries + 1 ∧ t.umb.retryAt = (if s.umb.tries + 1 < 3 then some (t0 + secT) else none) ∧
        t.out = .corePower false :: s.out) ∧
  (∀ (t0 : Nat) (s : State), s.umb.coreReq = false ∨ s.umb.corePg.isSome = true ∨ t0 < s.umb.reqAt + 50 * msT →
      exec (.corePgTimeout t0) s = .next (s.tick t0)) ∧
  (∀ (t0 : Nat) (s : State), (∀ r, s.umb.retryAt = some r → t0 < r) → exec (.powerRetry t0) s = .next (s.tick t0)) ∧
  (∀ (t0 r : Nat) (s : State), s.umb.retryAt = some r → r ≤ t0 → s.umb.coreReq = false →
      ∃ t, exec (.powerRetry t0) s = .next t ∧ t.umb.coreReq = true ∧ t.umb.cause = s.umb.cause ∧ t.umb.reqAt = t0) ∧
  (∀ (t0 : Nat) (s : State), s.umb.coreReq = true → s.umb.corePg.isSome = true →
      ∃ t, exec (.corePgFall t0) s = .next t ∧ t.bit Reg.UMB_STATE Fld.UMB_STATE_PWR_FAULT = true ∧
        t.bit Reg.UMB_STATE Fld.UMB_STATE_PF_EVT = true ∧ t.umb.corePg = none ∧ t.reg Reg.UMB_PF_CNT = satAdd (s.reg Reg.UMB_PF_CNT) 1)

/-- Resets and the start (R275, R308, R310, R311, R323, R395). CORE_RESET_RELEASE records the cause and the straps, and boots, waits in
SPI_HOLD or recovers; BOOT_GO releases SPI_HOLD. FIRMWARE_START takes Umbra's time and begins the boot admission. RESET_N, the watchdog
and RESET reset the core; POWER_DOWN drops its power. UMBRA_POWER_ON puts every register but the meter's at its reset value;
POWER_ON_START raises CORE_PWR_REQ 10 ms later; UMBRA_SUPPLY_LOSS is OFF. Reset is released no sooner than 2 ms after CORE_PG, and a
core without power is not reset. The flash, the fuses and the meter outlive all of them. -/
def Obligations.ResetsAndTheStart : Prop :=
  (∀ (straps t0 u : Nat) (s : State), s.umb.coreOut = false → s.umb.coreReq = true → s.umb.corePg = some u → u + 2 * msT ≤ t0 →
      s.tru.lifecycle ≠ Lc.SCRAPPED →
      ∃ t, exec (.coreResetRelease straps t0) s = .next t ∧ t.umb.coreOut = true ∧ t.pstate = Ps.BOOT ∧ t.gen.running = none ∧
        t.reg Reg.UMB_RESET_CAUSE = BitVec.ofNat 32 (2 ^ s.umb.cause) ∧ t.tru.flash = s.tru.flash ∧ t.umb.tries = 0 ∧
        fieldOf (t.reg Reg.UMB_STRAPS) 0 3 = straps % 4 + (if straps % 4 = 3 then 4 else 0) ∧
        (t.umb.spiHold = true ↔ straps % 4 = 1) ∧ (straps % 4 = 2 → t.recovery = true)) ∧
  (∀ (straps t0 : Nat) (s : State), s.umb.coreOut = true ∨ s.umb.coreReq = false ∨ (∀ u, s.umb.corePg = some u → t0 < u + 2 * msT) →
      exec (.coreResetRelease straps t0) s = .next (s.tick t0)) ∧
  (∀ (t0 : Nat) (s : State), s.umb.coreReq = false ∨ s.umb.corePg = none →
      exec (.resetN t0) s = .next (s.tick t0) ∧ exec (.watchdogExpiry t0) s = .next (s.tick t0)) ∧
  (∀ (p : Path) (data : Word) (s : State), s.admits p Reg.UMB_CTRL data = true → bitOf data 3 = true → bitOf data 1 = false →
      s.umb.spiHold = true →
      ∃ t, exec (.bootGo p data) s = .next t ∧ t.umb.spiHold = false ∧
        ((∀ k, s.fwValid k = false) → t.recovery = true)) ∧
  (∀ (t0 : Nat) (s : State), s.pstate = Ps.BOOT → s.umb.coreOut = true → s.umb.spiHold = false → s.recovery = false →
      s.tru.lifecycle ≠ Lc.SCRAPPED → s.gen.admission = none → s.gen.running = none →
      ∃ t, exec (.firmwareStart t0) s = .next t ∧ t.gen.admission = some { staged := false, slot := s.tru.siSlot, token := 0 } ∧
        t.get Reg.GEN_IMG_STATE Fld.GEN_IMG_STATE_STATE = 1 ∧ t.now = (s.tick t0).umbraCount) ∧
  (∀ (t0 : Nat) (s : State), s.umb.coreReq = true → s.umb.corePg.isSome = true →
      ∃ t, exec (.resetN t0) s = .next t ∧ t.pstate = Ps.BOOT ∧ t.umb.cause = 1 ∧ t.umb.coreOut = false ∧ t.gen.running = none ∧
        t.sch = SchSt.reset ∧ t.tru.lifecycle = s.tru.lifecycle) ∧
  (∀ (t0 : Nat) (s : State), s.umb.coreReq = true → s.umb.corePg.isSome = true → s.umb.coreOut = true →
      ∃ t, exec (.watchdogExpiry t0) s = .next t ∧ t.pstate = Ps.BOOT ∧ t.umb.cause = 4 ∧ t.umb.coreOut = false ∧ t.gen.running = none) ∧
  (∀ (c : MboxCmd) (s : State), s.takes 4 c = true → s.umb.downDue = false →
      ∃ t, exec (.reset c) s = .next t ∧ t.pstate = Ps.BOOT ∧ t.umb.cause = 5 ∧ t.umb.coreOut = false ∧ t.gen.running = none) ∧
  (∀ (c : MboxCmd) (s : State), s.takes 0x403 c = true →
      ∃ t, exec (.powerDown c) s = .next t ∧ t.pstate = Ps.UMBRA ∧ t.umb.coreReq = false ∧ t.umb.coreOut = false) ∧
  (∀ (t0 : Nat) (s : State), s.umb.powered = false →
      ∃ t, exec (.umbraPowerOn t0) s = .next t ∧ t.umb.powered = true ∧ t.umb.startDue = true ∧ t.umb.powerOnAt = t0 ∧
        t.thm.stamps = [] ∧ t.thm.umbLost = true ∧ (∀ a, inRange a 0x120000 0x12FFFF = false → t.reg a = resetValue a)) ∧
  (∀ (t0 : Nat) (s : State), s.umb.powered = true → s.umb.startDue = true → s.umb.powerOnAt + 10 * msT ≤ t0 → s.umb.coreReq = false →
      ∃ t, exec (.powerOnStart t0) s = .next t ∧ t.umb.coreReq = true ∧ t.umb.cause = 0 ∧ t.umb.startDue = false) ∧
  (∀ (t0 : Nat) (s : State), s.umb.powered = true →
      ∃ t, exec (.umbraSupplyLoss t0) s = .next t ∧ t.umb.powered = false ∧ t.umb.coreReq = false ∧ t.gen.running = none ∧
        t.tru.lifecycle = s.tru.lifecycle)

/-! ### Keys, staging and activation (chapter 18) -/

/-- Keys, lifecycle and attestation (R313, R316 to R318). KEY_INSTALL takes a certificate whose issuer is known and may sign its USAGE
and whose signature verifies, else KEY_BAD and no change; after the stop of R237 it answers BUSY (log entry 40). A lifecycle token that
verifies moves the state forward only, LC_ORDER else; revokes one more key, or REVOKE_FULL; retires ROOT0 only when signed under ROOT1. SCRAP acts in RETURNED alone. ATTEST answers the record
and the identity key's signature over it. -/
def Obligations.KeysAndLifecycle : Prop :=
  (∀ (c : MboxCmd) (s : State), s.takes 0x108 c = true → certForm c.body = true → s.flashStopped = false →
      ∃ t, exec (.keyInstall c) s = .next t ∧
        match s.issuerKey (certIssuer c.body) (certUsage c.body) with
        | none => t = (s.tick c.t).answer 0x108 c (Reply.of St.KEY_BAD)
        | some pub =>
          if Config.ed448phVerify pub (asciiBytes "DN9600-KC") (c.body.take 0x80) (slice c.body 0x80 114) = false then
            t.tru = s.tru ∧ t.reg Reg.TRU_SIG_FAIL = satAdd (s.reg Reg.TRU_SIG_FAIL) 1
          else
            let rest := s.tru.keys.certs.filter (fun x => certId x != certId c.body)
            if 200 ≤ rest.length then t.tru = s.tru
            else t.tru.keys.certs = rest ++ [c.body] ∧ t.tru.keys.roots = s.tru.keys.roots ∧
              t.tru.keys.generation = s.tru.keys.generation + 1) ∧
  (∀ (c : MboxCmd) (s : State), s.takes 0x108 c = true → certForm c.body = false ∨ s.flashStopped = true →
      exec (.keyInstall c) s =
        .next ((s.tick c.t).answer 0x108 c (Reply.of (if s.flashStopped then St.BUSY else St.KEY_BAD)))) ∧
  (∀ (c : MboxCmd) (s : State), s.takes 0x109 c = true → 1 ≤ byteAt c.body 0 → byteAt c.body 0 ≤ 3 → allZero (slice c.body 26 6) = true →
      (allZero (slice c.body 2 16) = true ∨ slice c.body 2 16 = identity) →
      (byteAt c.body 0 = 1 → 1 ≤ byteAt c.body 1 ∧ byteAt c.body 1 ≤ 4) →
      ∃ t, exec (.lcToken c) s = .next t ∧
        if byteAt c.body 0 = 1 ∧ byteAt c.body 1 = Lc.RETURNED ∧ slice c.body 2 16 ≠ identity then
          t = (s.tick c.t).answer 0x109 c (Reply.of St.BAD_FIELD)
        else
        match s.tokenCert c.body with
        | none => t.tru = s.tru ∧ t.reg Reg.TRU_SIG_FAIL = satAdd (s.reg Reg.TRU_SIG_FAIL) 1
        | some k =>
          if byteAt c.body 0 = 1 then
            (if byteAt c.body 1 ≤ s.tru.lifecycle then t = (s.tick c.t).answer 0x109 c (Reply.of St.LC_ORDER)
             else t.tru.lifecycle = byteAt c.body 1)
          else if byteAt c.body 0 = 2 then
            (if 64 ≤ s.tru.revoked.length then t = (s.tick c.t).answer 0x109 c (Reply.of St.REVOKE_FULL)
             else t.tru.revoked = s.tru.revoked ++ [slice c.body 18 8] ∧ t.tru.lifecycle = s.tru.lifecycle)
          else if rootIndex (certIssuer k) = some 1 then t.tru.root0Retired = true ∧ t.tru.lifecycle = s.tru.lifecycle
          else t = (s.tick c.t).answer 0x109 c (Reply.of St.KEY_BAD)) ∧
  (∀ (c : MboxCmd) (s : State), s.takes 0x109 c = true → byteAt c.body 0 = 0 ∨ 3 < byteAt c.body 0 ∨ allZero (slice c.body 26 6) = false ∨
      (allZero (slice c.body 2 16) = false ∧ slice c.body 2 16 ≠ identity) ∨
      (byteAt c.body 0 = 1 ∧ (byteAt c.body 1 = 0 ∨ 4 < byteAt c.body 1)) →
      exec (.lcToken c) s = .next ((s.tick c.t).answer 0x109 c (Reply.of St.BAD_FIELD))) ∧
  (∀ (c : MboxCmd) (s : State), s.takes 0x10A c = true →
      ∃ t, exec (.scrap c) s = .next t ∧
        (if s.tru.lifecycle = Lc.RETURNED then t.tru.lifecycle = Lc.SCRAPPED
         else t = (s.tick c.t).answer 0x10A c (Reply.of St.BAD_STATE))) ∧
  (∀ (c : MboxCmd) (s : State), s.takes 0x10B c = true →
      ∃ r, r.take 8 = [0x44, 0x4E, 0x41, 0x54, 1, 0, byteOf s.tru.lifecycle, 0] ∧ slice r 0x24 2 = [byteOf s.tru.siFloor, byteOf s.tru.fwFloor] ∧
        exec (.attest c) s = .next ((s.tick c.t).answer 0x10B c
          { status := St.OK, body := r ++ signature identityKey "DN9600-AT" r }))

/-- Staging (R237, R246, R320 to R322). STAGE_BEGIN opens one session of a type for the slot not running, BUSY while one is open, while
the slot is being admitted and after the stop of R237. STAGE_DATA from the owning path records a block whose CRC-32C passes and programs it at its place, and rejects one that fails with STAGE_CRC; from
another path it is NOT_OWNER; after the stop a block that passes is not written and ends the session with POWER. STAGE_END is
STAGE_INCOMPLETE while a block is missing, and NO_SLACK where no island declares slack; the check's result, once its background work is
done, closes the session and VERIFIES the slot, or leaves it open. STAGE_ABORT and 60 s without a block close it. TRU_CNT_CLEAR clears the counters. -/
def Obligations.ObjectsAreStaged : Prop :=
  (∀ (c : MboxCmd) (s : State), s.takes 0x101 c = true → byteAt c.body 0 ≤ 1 → byteAt c.body 1 ≤ 1 → 0 < leAt c.body 4 4 →
      leAt c.body 4 4 ≤ stageSize (byteAt c.body 0) → s.runningSlot (byteAt c.body 0) ≠ some (byteAt c.body 1) →
      (s.session? (byteAt c.body 0) = none → s.tru.activation = none → s.flashStopped = false →
        (byteAt c.body 0 = 1 → ∀ a, s.gen.admission = some a → a.slot ≠ byteAt c.body 1) →
        ∃ t, exec (.stageBegin c) s = .next t ∧ t.session? (byteAt c.body 0) =
          some { type := byteAt c.body 0, slot := byteAt c.body 1, length := leAt c.body 4 4, path := c.path, parts := [], accepted := [],
                 lastAt := Nat.max s.now c.t, buffer := [], ending := none }) ∧
      (s.flashStopped = true ∨ (s.session? (byteAt c.body 0)).isSome = true ∨ s.tru.activation.isSome = true ∨
          (byteAt c.body 0 = 1 ∧ ∃ a, s.gen.admission = some a ∧ a.slot = byteAt c.body 1) →
        exec (.stageBegin c) s = .next ((s.tick c.t).answer 0x101 c (Reply.of St.BUSY)))) ∧
  (∀ (c : MboxCmd) (s : State) (x : StageSession), s.takes 0x102 c = true → s.session? (byteAt c.body 0) = some x → x.ending = none →
      samePath c.path x.path = true → leAt c.body 2 2 < blockCount x.length → leAt c.body 4 4 % 4 = 0 →
      leAt c.body 4 4 + (c.body.drop 12).length ≤ blockBytes x.length (leAt c.body 2 2) →
      ∃ t, exec (.stageData c) s = .next t ∧
        (let b := leAt c.body 2 2
         let n := blockBytes x.length b
         let parts := x.parts ++ [(b, leAt c.body 4 4, c.body.drop 12)]
         let bytes := gather parts b n
         if covered parts b n = false then t.session? x.type = some { x with parts := parts } ∧ t.tru.flash = s.tru.flash
         else if crc32c bytes ≠ leAt c.body 8 4 then
           (t.session? x.type).map (·.accepted) = some x.accepted ∧ t.tru.flash = s.tru.flash ∧
             t.reg Reg.TRU_CRC_ERR = satAdd (s.reg Reg.TRU_CRC_ERR) 1
         else if s.flashStopped = true then t.session? x.type = none ∧ t.get Reg.TRU_STAGE Fld.TRU_STAGE_RESULT = 6 ∧ t.tru.flash = s.tru.flash
         else (t.session? x.type).any (fun y => y.accepted.contains b) = true ∧
           (s.isTile = false ∨ x.type ≠ 0 → t.flashRead (stageBase x.type x.slot + 65536 * b) n = bytes) ∧
           (∀ a, a < stageBase x.type x.slot + 65536 * b ∨ stageBase x.type x.slot + 65536 * (b + 1) ≤ a →
           cellGet erasedByte t.tru.flash a = cellGet erasedByte s.tru.flash a))) ∧
  (∀ (c : MboxCmd) (s : State) (x : StageSession), s.session? (byteAt c.body 0) = some x → samePath c.path x.path = false →
      (s.takes 0x102 c = true → exec (.stageData c) s = .next ((s.tick c.t).answer 0x102 c (Reply.of St.NOT_OWNER))) ∧
      (s.takes 0x103 c = true → exec (.stageEnd c) s = .next ((s.tick c.t).answer 0x103 c (Reply.of St.NOT_OWNER))) ∧
      (s.takes 0x104 c = true → exec (.stageAbort c) s = .next ((s.tick c.t).answer 0x104 c (Reply.of St.NOT_OWNER)))) ∧
  (∀ (c : MboxCmd) (s : State) (x : StageSession), s.takes 0x103 c = true → s.session? (byteAt c.body 0) = some x → x.ending = none →
      samePath c.path x.path = true → s.longFull = false → s.gen.running.any noSlack = false →
      ∃ t, exec (.stageEnd c) s = .next t ∧
        (if (List.range (blockCount x.length)).any (fun b => !x.accepted.contains b) = true then
           t.tru = s.tru ∧ t.get Reg.TRU_STAGE Fld.TRU_STAGE_RESULT = 1 ∧ t.bit Reg.TRU_STAGE Fld.TRU_STAGE_DONE = true
         else t.session? x.type = some { x with ending := some s.cmd.nextToken })) ∧
  (∀ (c : MboxCmd) (s : State) (x : StageSession), s.takes 0x103 c = true → s.session? (byteAt c.body 0) = some x →
      samePath c.path x.path = true →
      (x.ending.isSome = true ∨ s.longFull = true → exec (.stageEnd c) s = .next ((s.tick c.t).answer 0x103 c (Reply.of St.BUSY))) ∧
      (x.ending = none → s.longFull = false → (∀ b < blockCount x.length, b ∈ x.accepted) → s.gen.running.any noSlack = true →
        exec (.stageEnd c) s = .next ((s.tick c.t).answer 0x103 c (Reply.of St.NO_SLACK)))) ∧
  (∀ (type t0 tok : Nat) (s : State) (x : StageSession), s.session? type = some x → x.ending = some tok → x.buffer = [] → s.workLeft tok = false →
      ∃ t, exec (.stageVerifyComplete type t0) s = .next t ∧ t.bit Reg.TRU_STAGE Fld.TRU_STAGE_DONE = true ∧
        t.get Reg.TRU_STAGE Fld.TRU_STAGE_RESULT = (s.stageCheck x).2 % 16 ∧
        (if (s.stageCheck x).1 = St.OK then (type, x.slot) ∈ t.tru.verified ∧ t.session? type = none
         else t.tru.verified = s.tru.verified ∧ t.session? type = some { x with ending := none })) ∧
  (∀ (type t0 : Nat) (s : State), (∀ x tok, s.session? type = some x → x.ending = some tok → x.buffer ≠ [] ∨ s.workLeft tok = true) →
      exec (.stageVerifyComplete type t0) s = .next (s.tick t0)) ∧
  (∀ (c : MboxCmd) (s : State) (x : StageSession), s.takes 0x104 c = true → s.session? (byteAt c.body 0) = some x →
      samePath c.path x.path = true →
      ∃ t, exec (.stageAbort c) s = .next t ∧ t.session? (byteAt c.body 0) = none ∧ t.get Reg.TRU_STAGE Fld.TRU_STAGE_RESULT = 7) ∧
  (∀ (type t0 : Nat) (s : State) (x : StageSession), s.session? type = some x → x.ending = none → x.lastAt + 60 * secT ≤ t0 →
      ∃ t, exec (.stageTimeout type t0) s = .next t ∧ t.session? type = none ∧ t.get Reg.TRU_STAGE Fld.TRU_STAGE_RESULT = 8) ∧
  (∀ (type t0 : Nat) (s : State), (∀ x, s.session? type = some x → x.ending.isSome = true ∨ t0 < x.lastAt + 60 * secT) →
      exec (.stageTimeout type t0) s = .next (s.tick t0)) ∧
  (∀ (p : Path) (s : State), s.admits p Reg.TRU_CNT_CLEAR 1 = true →
      ∃ t, exec (.truCntClear p) s = .next t ∧ (∀ a, t.reg a = if truCounter a then resetValue a else s.reg a))

/-- Admission, activation and confirmation (R36, R37, R246, R323 to R329). ADMIT starts a staged admission, ADM_BUSY while one runs,
NO_SLACK where no island declares slack; its end, once its background work is done, admits the slot or reports the failure; the boot admission's end starts the image, or tries the other slot, or enters recovery.
ACTIVATE sets TRIAL and waits for W(F_a), or is rejected in the order of R324. At the commit point every instance is shed; with no
operation still running the load follows at once, else at the last completion: a firmware activation stops the frame lock with the image
kept, a structure activation loads the image and frees every surface; one with REBOOT, or in recovery, resets the core. CONFIRM and CONFIRM_TIMEOUT make a TRIAL slot RUNNING and
raise the floor. -/
def Obligations.ImagesAreActivated : Prop :=
  (∀ (c : MboxCmd) (s : State) (im : Image), s.takes 0x105 c = true → s.gen.running = some im →
      (s.gen.admission = none → noSlack im = false → s.longFull = false →
        ∃ t, exec (.admitStaged c) s = .next t ∧
          t.gen.admission = some { staged := true, slot := 1 - s.tru.siSlot, token := s.cmd.nextToken } ∧
          t.bit Reg.GEN_ADM_STATUS Fld.GEN_ADM_STATUS_BUSY = true) ∧
      (s.gen.admission = none → noSlack im = true →
        exec (.admitStaged c) s = .next ((s.tick c.t).answer 0x105 c (Reply.of St.NO_SLACK))) ∧
      (s.gen.admission.isSome = true → exec (.admitStaged c) s = .next ((s.tick c.t).answer 0x105 c (Reply.of St.ADM_BUSY)))) ∧
  (∀ (train : List Nat) (t0 : Nat) (s : State) (j : AdmJob), s.gen.admission = some j → j.staged = true → s.workLeft j.token = false →
      ∃ t, exec (.admissionComplete train t0) s = .next t ∧ t.gen.admission = none ∧
        t.gen.admitted = (if (admitBytes (s.slotByte 1 j.slot) (s.admCtx j.slot [] true)).isNone = true then some j.slot else none) ∧
        t.gen.running = s.gen.running) ∧
  (∀ (train : List Nat) (t0 : Nat) (s : State) (j : AdmJob), s.gen.admission = some j → j.staged = false →
      ∃ t, exec (.admissionComplete train t0) s = .next t ∧
        (if (admitBytes (s.slotByte 1 j.slot) (s.admCtx j.slot train false)).isNone = true then
           t.gen.running = some (readImage (s.slotByte 1 j.slot)) ∧ t.pstate = Ps.RUN ∧ t.gen.bootDone = true ∧ t.lockState = 1
         else if j.slot = s.tru.siSlot then t.gen.admission = some { staged := false, slot := 1 - j.slot, token := 0 }
         else t.recovery = true)) ∧
  (∀ (c : MboxCmd) (s : State), s.takes 0x106 c = true → byteAt c.body 0 ≤ 2 → byteAt c.body 1 ≤ 1 →
      (let z := s.tick c.t
       let refused := z.activateRefused (byteAt c.body 0) (byteAt c.body 1 == 1) (leAt c.body 4 6)
       ∃ t, exec (.activate c) s = .next t ∧
         match refused with
         | some st => t = z.answer 0x106 c (Reply.of st)
         | none => ∃ a, t.tru.activation = some a ∧ a.type = byteAt c.body 0 ∧ a.token = s.cmd.nextToken ∧ a.before = s.tru.desc ∧
             t.get Reg.TRU_BOOT Fld.TRU_BOOT_ACT = 1 ∧ t.tru.desc.generation = s.tru.desc.generation + 1 ∧
             (byteAt c.body 0 ≠ 1 → t.tru.desc.fw.trial = some ((z.trialSlot 0).getD 0)) ∧
             (byteAt c.body 0 ≠ 0 → t.tru.desc.si.trial = some ((z.trialSlot 1).getD 0)) ∧
             (∀ tl, s.timeline? = some tl → a.wfn = Nat.max (leAt c.body 4 6) (frameFrom tl (z.now + 2 * msT)) ∧ a.at_ = frameStart tl a.wfn))) ∧
  (∀ (s : State) (type w : Nat) (rb : Bool), type ≤ 2 →
      (type ≠ 0 → s.siReady rb = false → s.activateRefused type rb w = some St.NOT_ADMITTED) ∧
      (type = 0 → s.fwVerified = false → s.activateRefused type rb w = some St.NOT_VERIFIED) ∧
      (type = 0 → s.fwVerified = true → s.activateBusy = true → s.activateRefused type rb w = some St.BUSY) ∧
      (type = 0 → s.fwVerified = true → s.activateBusy = false → s.isSender = true →
        s.bit Reg.RED_STATE Fld.RED_STATE_IN_CONTROL = true → s.partnerCurrent = true → s.activateRefused type rb w = some St.IN_CONTROL) ∧
      (∀ tl, type = 1 → s.siReady rb = true → s.activateBusy = false → s.timeline? = some tl → w ≠ 0 →
        frameStart tl w < s.now + 2 * msT → s.activateRefused type rb w = some St.TOO_LATE)) ∧
  (∀ (t0 : Nat) (s : State) (a : Activation), s.tru.activation = some a → s.gen.activating = false → a.at_ ≤ t0 →
      (a.reboot = true ∨ s.recovery = true) →
      ∃ t, exec (.activateCommit t0) s = .next t ∧ t.pstate = Ps.BOOT ∧ t.umb.cause = 5 ∧ t.gen.running = none) ∧
  (∀ (t0 : Nat) (s : State) (a : Activation) (im : Image), s.tru.activation = some a → s.gen.activating = false → a.at_ ≤ t0 →
      a.reboot = false → s.recovery = false → s.gen.running = some im →
      (((s.tick t0).shedAll t0).anyIssued = true → ∃ t, exec (.activateCommit t0) s = .next t ∧ t.gen.activating = true ∧
        t.gen.loadDue = true ∧ t.gen.running = some im ∧ t.get Reg.GEN_IMG_STATE Fld.GEN_IMG_STATE_STATE = 3 ∧
        t.sch.instances.all (fun i => i.abandoned) = true) ∧
      (((s.tick t0).shedAll t0).anyIssued = false → a.type = 0 →
        ∃ t, exec (.activateCommit t0) s = .next t ∧ t.gen.activating = true ∧ t.gen.loadDue = false ∧ t.gen.running = some im ∧
          t.lockState = 1 ∧ t.sch.instances.all (fun i => i.abandoned) = true ∧ t.get Reg.GEN_IMG_STATE Fld.GEN_IMG_STATE_STATE = 3 ∧
          t.get Reg.TRU_BOOT Fld.TRU_BOOT_ACT = 2 ∧ t.tru.fwTrial = true ∧ (s.flashStopped = false → t.tru.desc.fw.booted = true) ∧
          (s.isSender = false ∨ s.linkCode = 0 → t.dram = s.dram)) ∧
      (((s.tick t0).shedAll t0).anyIssued = false → a.type ≠ 0 →
        ∃ t, exec (.activateCommit t0) s = .next t ∧ t.gen.running = some (readImage (s.slotByte 1 ((s.trialSlot 1).getD 0))) ∧
          t.cmp.surfaces = [] ∧ t.ing.streams = [] ∧ t.tru.siTrial = true ∧ t.lockState = 1)) ∧
  (∀ (d : OpDone) (s : State) (a : Activation), s.tru.activation = some a → s.gen.loadDue = true → s.umb.draining = false →
      (s.completeOp d).anyIssued = false → exec (.operationComplete d) s = .next ((s.completeOp d).loadActivation a d.t)) ∧
  (∀ (t0 : Nat) (s : State), (∀ a, s.tru.activation = some a → s.gen.activating = true ∨ t0 < a.at_) →
      exec (.activateCommit t0) s = .next (s.tick t0)) ∧
  (∀ (c : MboxCmd) (s : State), s.takes 0x107 c = true → byteAt c.body 0 = 0 → s.flashStopped = false → s.tru.fwTrial = true →
      s.gen.activating = false →
      ∃ t, exec (.confirm c) s = .next t ∧ t.tru.fwTrial = false ∧ t.tru.siTrial = s.tru.siTrial ∧
        t.tru.desc.fw = { running := s.tru.fwSlot, trial := none, booted := false } ∧
        t.tru.fwFloor = Nat.max s.tru.fwFloor (Nat.min (slotSecurity (s.slotByte 0 s.tru.fwSlot)) 128)) ∧
  (∀ (c : MboxCmd) (s : State), s.takes 0x107 c = true → byteAt c.body 0 = 0 → s.flashStopped = false → s.tru.fwTrial = false →
      exec (.confirm c) s = .next ((s.tick c.t).answer 0x107 c (Reply.of St.BAD_STATE))) ∧
  (∀ (c : MboxCmd) (s : State), s.takes 0x107 c = true → byteAt c.body 0 ≤ 2 → s.flashStopped = true →
      exec (.confirm c) s = .next ((s.tick c.t).answer 0x107 c (Reply.of St.BUSY))) ∧
  (∀ (t0 : Nat) (s : State), (s.reg Reg.TRU_CONFIRM_S).toNat = 0 ∨ t0 < s.tru.runSince + (s.reg Reg.TRU_CONFIRM_S).toNat * secT →
      exec (.confirmTimeout t0) s = .next (s.tick t0)) ∧
  (∀ (t0 : Nat) (s : State), (s.reg Reg.TRU_CONFIRM_S).toNat ≠ 0 → s.runs = true → s.gen.activating = false → s.flashStopped = false →
      s.tru.runSince + (s.reg Reg.TRU_CONFIRM_S).toNat * secT ≤ t0 →
      ∃ t, exec (.confirmTimeout t0) s = .next t ∧ t.tru.fwTrial = false ∧ t.tru.siTrial = false ∧
        (s.tru.fwTrial = true → t.tru.desc.fw.running = s.tru.fwSlot) ∧ (s.tru.siTrial = true → t.tru.desc.si.running = s.tru.siSlot))

/-! ### The metering island (chapter 19) -/

/-- Energy and the seal (R333 to R336, R338, R339, R342, R344, R345). A sample adds its product to energy and remainder exactly, and pulses come
out of the same energy; a new converter fault is an event. A read of MET_ENERGY_LO latches the high half for its path. While the seal is
closed every write is rejected; while it is open a new value is an event. Each filtered transition of the seal is an event and closes the
record. A light offer adds its sums to the open record, 0 in DARK. Fetches give a page by its number, or NOT_FOUND. A frame of the
meter port whose CRC fails, or that finds the meter unpowered, is dropped; a firmware step under a closed seal is rejected as sealed. -/
def Obligations.EnergyIsMeasured : Prop :=
  (∀ (m : MeterSampleIn) (s : State), s.met.powered = true → s.meterOn = true →
      ∃ t, exec (.meterSample m) s = .next t ∧
        t.met.energy * meterUnit + t.met.remainder = s.met.energy * meterUnit + s.met.remainder + s.meterProduct m ∧
        t.met.remainder < meterUnit ∧ t.met.pulseAcc < s.pulseEnergy ∧
        t.met.pulseAcc + (t.out.count .metPulse - s.out.count .metPulse) * s.pulseEnergy =
          s.met.pulseAcc + (t.met.energy - s.met.energy) ∧
        (let fault := if m.shuntOpen then 1 else if m.busRange then 2 else 0
         t.met.senseFault = fault ∧
           t.met.eventCount = s.met.eventCount + (if fault ≠ 0 ∧ fault ≠ s.met.senseFault then 1 else 0) ∧
           t.met.opened.energyGap = (s.met.opened.energyGap || fault != 0))) ∧
  (∀ (m : MeterSampleIn) (s : State), s.met.powered = false ∨ s.meterOn = false → exec (.meterSample m) s = .next (s.tick m.t)) ∧
  (∀ (p : Path) (s : State), s.regPathOpen p = true → s.blockAnswers Reg.MET_ENERGY_LO = true →
      ∃ t, exec (.energyLatch p) s = .next t ∧ t.out = .readData (leBytes 4 (s.met.energy % 2 ^ 32)) :: s.out ∧
        t.metView (latchKey p) Reg.MET_ENERGY_HI = s.met.energy / 2 ^ 32 % 2 ^ 32 ∧ t.met.energy = s.met.energy) ∧
  (∀ (off : Nat) (s : State), s.met.powered = true →
      (let z := if off % 65536 = 0x14 then s.latchEnergy .meter else s
       exec (.meterRead true off) s = .next (z.emit (.meter (leBytes 4 (z.metView .meter (0x120000 + off % 65536))))))) ∧
  (∀ (off t0 : Nat) (data : Word) (s : State), s.met.powered = true → metConfig (0x120000 + off % 65536) = true → s.met.sealed = true →
      exec (.meterWrite true off data t0) s = .next ((s.tick t0).emit .meterSealed)) ∧
  (∀ (off t0 : Nat) (data : Word) (s : State) (r : RegRow), s.met.powered = true → metConfig (0x120000 + off % 65536) = true →
      s.met.sealed = false → metValueOk (0x120000 + off % 65536) data = true → rowOf (0x120000 + off % 65536) = some r →
      (let a := 0x120000 + off % 65536
       let new := writeMask r (s.reg a) data
       ∃ t, exec (.meterWrite true off data t0) s = .next t ∧ t.reg a = new ∧
         t.met.eventCount = s.met.eventCount + (if s.reg a = new then 0 else 1) ∧ t.met.energy = s.met.energy)) ∧
  (∀ (low : Bool) (t0 : Nat) (s : State), s.met.powered = true → s.met.sealed ≠ low →
      ∃ t, exec (.sealTransition low t0) s = .next t ∧ t.met.sealed = low ∧ t.met.eventCount = s.met.eventCount + 1 ∧
        t.met.fuses = Nat.max s.met.fuses (fusesAt (s.met.eventCount + 1)) ∧
        t.met.toWrite.any (fun q => q.event && q.number == s.met.eventCount + 1 && leAt q.body 6 2 == (if low then 2 else 1)) = true ∧
        (low = true → t.met.updating = false ∧ t.met.fwVerified = false) ∧
        (s.meterOn = false → t.met.nextSeq = s.met.nextSeq) ∧
        (s.meterOn = true → s.met.opened.start ≠ (s.tick t0).umbraCount →
          t.met.nextSeq = s.met.nextSeq + 1 ∧ t.met.toWrite.getLast?.map (·.causes) = some (2 ^ Cause.SEAL))) ∧
  (∀ (l : LightIn) (s : State), s.met.powered = true → s.met.offerDue = true → s.isTile = true →
      ∃ t, exec (.lightOffer l) s = .next t ∧ t.met.offerDue = false ∧
        (∀ e, e < 4 → t.met.opened.light.getD e 0 = s.met.opened.light.getD e 0 + ((s.tick l.t).lightOffer l).getD e 0) ∧
        (s.bit Reg.LMP_STATE Fld.LMP_STATE_DARK = true → (s.tick l.t).lightOffer l = [0, 0, 0, 0])) ∧
  (∀ (n : Nat) (s : State), s.met.powered = true →
      exec (.recordFetch true n) s = .next (s.emit (match s.met.records.find? (fun x => x.1 == n) with
        | some x => .meter x.2
        | none => .meterNotFound)) ∧
      exec (.eventFetch true n) s = .next (s.emit (match s.met.events.find? (fun x => x.1 == n) with
        | some x => .meter x.2
        | none => .meterNotFound))) ∧
  (∀ (ok : Bool) (off n t0 : Nat) (data : Word) (b : MeterBlock) (key : List Byte) (s : State), ok = false ∨ s.met.powered = false →
      exec (.meterRead ok off) s = .next s ∧ exec (.recordFetch ok n) s = .next s ∧ exec (.eventFetch ok n) s = .next s ∧
      exec (.meterWrite ok off data t0) s = .next (s.tick t0) ∧ exec (.meterFwBlock ok b) s = .next s ∧
      exec (.meterVerify ok key) s = .next s ∧ exec (.meterActivate ok t0) s = .next (s.tick t0)) ∧
  (∀ (t0 : Nat) (key : List Byte) (s : State), s.met.powered = true → s.met.sealed = true →
      exec (.meterVerify true key) s = .next (s.emit .meterSealed) ∧
      exec (.meterActivate true t0) s = .next ((s.tick t0).emit .meterSealed)) ∧
  (∀ (c : MboxCmd) (s : State), s.takes 0x505 c = true → s.met.powered = true → byteAt c.body 0 ≤ 1 →
      exec (.metFetch c) s = .next ((s.tick c.t).answer 0x505 c
        (match (if byteAt c.body 0 = 0 then s.met.records else s.met.events).find? (fun x => x.1 == leAt c.body 4 4) with
         | some x => { status := St.OK, body := x.2 }
         | none => Reply.of St.NOT_FOUND)))

/-- Records, their pages and the meter's power (R332, R337, R338, R340 to R343). A period's end closes the open record and opens the next one
from it; a tag waits for its frame. The oldest waiting page is signed and written into its log, a failed one is absent and an event. A
supply trip keeps energy and counters; at the supply's return the counter is never below flash, floor or retention, and a flash value
below them is TAMPER. Meter firmware is taken with the seal open alone, and an activated slot raises the floor. -/
def Obligations.RecordsAreClosedAndSigned : Prop :=
  (∀ (t0 : Nat) (s : State), s.met.powered = true → s.meterOn = true → (s.tick t0).umbraCount % (s.recordS * secT) = 0 →
      s.met.opened.start ≠ (s.tick t0).umbraCount →
      ∃ t, exec (.recordClose t0) s = .next t ∧ t.met.nextSeq = s.met.nextSeq + 1 ∧
        (let z := s.tick t0
         t.met.toWrite = s.met.toWrite ++
           [{ event := false, number := s.met.nextSeq, closed := z.umbraCount, causes := 2 ^ Cause.PERIOD, body := z.recordBody s.met.opened }]) ∧
        t.met.opened.tag = s.met.opened.tag ∧ t.met.opened.start = (s.tick t0).umbraCount ∧ t.met.opened.energy0 = s.met.energy ∧
        t.met.opened.light = [0, 0, 0, 0] ∧ t.met.energy = s.met.energy) ∧
  (∀ (t0 : Nat) (err : Option Nat) (s : State) (p : MetPage) (ps : List MetPage), s.met.powered = true → s.met.toWrite = p :: ps →
      (s.met.fwBad = true → exec (.recordProgrammed err t0) s = .next (s.tick t0)) ∧
      (s.met.fwBad = false → ∃ t, exec (.recordProgrammed err t0) s = .next t ∧
        (err = none → t.met.toWrite = ps ∧ t.met.eventCount = s.met.eventCount ∧
          (if p.event then t.met.events.getLast? = some (p.number, signedPage p) ∧ t.met.records = s.met.records
           else t.met.records.getLast? = some (p.number, signedPage p) ∧ t.met.events = s.met.events ∧
             t.reg Reg.MET_REC_SEQ = word p.number)) ∧
        (err.isSome = true → t.met.records = s.met.records ∧ t.met.events = s.met.events ∧ t.met.eventCount = s.met.eventCount + 1))) ∧
  (∀ (c : MboxCmd) (s : State), s.takes 0x504 c = true → s.met.powered = true →
      (let z := s.tick c.t
       let f := leAt c.body 16 6
       let passed := match z.timeline? with
         | some tl => decide (frameStart tl f ≤ z.now)
         | none => false
       let g := if passed then z.wfnNow + 1 else f
       ∃ t, exec (.metTag c) s = .next t ∧ t.met.tags = insertTag g (slice c.body 0 16) s.met.tags ∧
         (g, slice c.body 0 16) ∈ t.met.tags ∧ t.met.opened = s.met.opened)) ∧
  (∀ (t0 : Nat) (s : State), s.met.powered = true →
      ∃ t, exec (.meterSupplyTrip t0) s = .next t ∧ t.met.powered = false ∧ t.met.toWrite = [] ∧ t.met.tags = [] ∧
        t.met.energy = s.met.energy ∧ t.met.remainder = s.met.remainder ∧ t.met.eventCount = s.met.eventCount ∧
        t.met.fuses = s.met.fuses ∧ t.met.opened.energyGap = true ∧
        (∀ p ps, s.met.toWrite = p :: ps → s.met.fwBad = false → p.event = true →
          t.met.events.getLast? = some (p.number, signedPage p))) ∧
  (∀ (flash t0 : Nat) (s : State), s.met.powered = false → s.umb.powered = true →
      (let low := Nat.max (fuseFloor s.met.fuses) (if s.met.retained then s.met.eventCount else 0)
       ∃ t, exec (.meterPowerOn flash t0) s = .next t ∧ t.met.powered = true ∧
         t.met.eventCount = Nat.max flash low + (if flash < low then 2 else 1) ∧
         t.met.toWrite.any (fun q => q.event && leAt q.body 6 2 == 5) = true ∧
         (flash < low → t.met.toWrite.any (fun q => q.event && leAt q.body 6 2 == 8 && leAt q.body 38 4 == flash % 2 ^ 32) = true) ∧
         t.met.fwBad = !([s.met.fwSlot, 1 - s.met.fwSlot].any (fun k => s.meterFwOk k (s.met.fwKeys.getD k []))) ∧
         t.met.energy = s.met.energy ∧ (s.meterOn = true → t.met.opened.tag = zeroBytes 16))) ∧
  (∀ (b : MeterBlock) (s : State), s.met.powered = true →
      (s.met.sealed = true → exec (.meterFwBlock true b) s = .next (s.emit .meterSealed)) ∧
      (s.met.sealed = false → b.bytes.length = 4096 → b.index < 256 →
        ∃ t, exec (.meterFwBlock true b) s = .next t ∧
          (if crc32c b.bytes = b.crc then t.met.updating = true ∧ t.met.fwVerified = false ∧
             ∀ i, i < 4096 → t.meterSlot s.meterSpare (b.index * 4096 + i) = b.bytes.getD i 0
           else t = s.emit .meterCrc))) ∧
  (∀ (key : List Byte) (s : State), s.met.powered = true → s.met.sealed = false →
      ∃ t, exec (.meterVerify true key) s = .next t ∧
        t.met.fwVerified = (s.met.updating && s.meterFwOk s.meterSpare key) ∧
        t.out = .meterVerify (s.met.updating && s.meterFwOk s.meterSpare key) :: s.out ∧ t.met.fwSlot = s.met.fwSlot) ∧
  (∀ (t0 : Nat) (s : State), s.met.powered = true → s.met.sealed = false →
      (s.met.fwVerified = false → exec (.meterActivate true t0) s = .next (s.tick t0)) ∧
      (s.met.fwVerified = true → ∃ t, exec (.meterActivate true t0) s = .next t ∧ t.met.fwSlot = s.meterSpare ∧
        t.met.fwVersion = numAt (s.meterSlot s.meterSpare) 0x0C 4 ∧ s.met.fwFloor ≤ t.met.fwFloor ∧
        Nat.min (slotSecurity (s.meterSlot s.meterSpare)) 64 ≤ t.met.fwFloor ∧ t.met.eventCount = s.met.eventCount + 1 ∧
        t.met.updating = false))

/-! ### The mailbox and the paths to it (chapter 20) -/

/-- Every command is checked, credited and answered (R347, R349 to R353). A command without a credit is dropped and counted; one that fails a
check is answered with its status; the answer of a NOP stands in CMD_SPI_RSP with RSP_READY, or in the completion ring with vector 0, or
waits for room there. TOKEN_STATUS and ABORT answer from the operations that run and the records kept; an ABORT that wins ends the
operation with an ABORTED record. RESYNC answers one summary and counts it. -/
def Obligations.CommandsAreCheckedAndAnswered : Prop :=
  (∀ (c : MboxCmd) (s : State), s.takes 0 c = true → exec (.nop c) s = .next ((s.tick c.t).answer 0 c (Reply.of St.OK))) ∧
  (∀ (c : MboxCmd) (s : State), (s.tick c.t).pathOpen c.path = true → (s.tick c.t).creditsHeld c.path < creditLimit c.path →
      c.body.length ≤ 8192 →
      (c.len ≠ c.body.length → exec (.nop c) s = .next ((s.tick c.t).answer 0 c (Reply.of St.BAD_LENGTH))) ∧
      (c.len = c.body.length → (s.tick c.t).acceptsOpcode 0 = false →
        exec (.nop c) s = .next ((s.tick c.t).answer 0 c (Reply.of St.BAD_STATE))) ∧
      (c.len = c.body.length → (s.tick c.t).acceptsOpcode 0 = true → allZero c.reserved = false →
        exec (.nop c) s = .next ((s.tick c.t).answer 0 c (Reply.of St.BAD_FIELD)))) ∧
  (∀ (c : MboxCmd) (s : State), (s.tick c.t).pathOpen c.path = true → creditLimit c.path ≤ (s.tick c.t).creditsHeld c.path →
      ∃ t, exec (.nop c) s = .next t ∧ t.cmd = s.cmd ∧ t.out = s.out ∧
        (∀ a, t.reg a = if a = Reg.CMD_CREDIT_DROP (pathCode c.path) then satAdd (s.reg a) 1 else s.reg a)) ∧
  (∀ (c : MboxCmd) (s : State), (s.tick c.t).pathOpen c.path = false → exec (.nop c) s = .next (s.tick c.t)) ∧
  (∀ (c : MboxCmd) (s : State), s.takes 0 c = true → c.path = .spi →
      ∃ t, exec (.nop c) s = .next t ∧ t.reg Reg.CMD_SPI_CTRL = 2 ∧ t.out = s.out ∧
        cellRead (fun _ => (0 : Byte)) t.cmd.spiRsp 0 32 = zeroBytes 4 ++ leBytes 4 c.tag ++ zeroBytes 24) ∧
  (∀ (c : MboxCmd) (s : State), s.takes 0 c = true → c.path = .pcie → s.cmd.waitingRsp = [] →
      (let n := s.cqSize
       let tail := (s.reg Reg.CMD_CQ_TAIL).toNat
       let used := (tail + 2 * n - (s.reg Reg.CMD_CQ_HEAD).toNat) % (2 * n)
       ∃ t, exec (.nop c) s = .next t ∧
         (if used < n then
            t.reg Reg.CMD_CQ_TAIL = word ((tail + 1) % (2 * n)) ∧ bitOf (t.reg Reg.CMD_EVT) 0 = true ∧
              t.out = (if bitOf (s.reg Reg.CMD_EVT_EN) 0 then [.msi 0] else []) ++
                .hostWrite (s.cqBase + 64 * (tail % n)) (zeroBytes 4 ++ leBytes 4 c.tag ++ zeroBytes 56) :: s.out
          else t.out = s.out ∧ t.cmd.waitingRsp.map (fun r => (r.opcode, r.tag, r.status)) = [(0, c.tag, St.OK)]))) ∧
  (∀ (c : MboxCmd) (s : State), s.takes 2 c = true →
      exec (.tokenStatus c) s = .next ((s.tick c.t).answer 2 c
        (match s.longOp? (leAt c.body 0 4), s.kept? (leAt c.body 0 4) with
         | some _, _ => { status := St.ACCEPTED, token := leAt c.body 0 4 }
         | none, some k => { status := k.record.status, flags := 2, token := leAt c.body 0 4, detail := k.record.detail, wfn := k.record.wfn, body := responseBytes k.record }
         | none, none => Reply.of St.TOKEN_UNKNOWN))) ∧
  (∀ (c : MboxCmd) (s : State), s.takes 3 c = true →
      (let z := s.tick c.t
       let tok := leAt c.body 0 4
       match s.longOp? tok, s.kept? tok with
       | some o, _ =>
         (mayAbort o.owner c.path = false → exec (.abort c) s = .next (z.answer 3 c (Reply.of St.NOT_OWNER))) ∧
         (mayAbort o.owner c.path = true → o.opcode = 0x503 →
           ∃ u : State, exec (.abort c) s = .next (u.answer 3 c (Reply.of St.ABORTED)) ∧ u.longOp? tok = none ∧
             u.cmd.kept.getLast?.map (fun k => (k.record.token, k.record.status, k.aborted)) = some (tok, St.ABORTED, true) ∧
             u.sch.jobs = s.sch.jobs.filter (fun j => j.token != tok)) ∧
         (mayAbort o.owner c.path = true → o.opcode = 0x106 → s.gen.activating = true →
           exec (.abort c) s = .next (z.answer 3 c (Reply.of St.ABORT_LATE)))
       | none, some k =>
         exec (.abort c) s = .next (z.answer 3 c (Reply.of
           (if mayAbort k.owner c.path = false then St.NOT_OWNER else if k.aborted then St.ABORTED else St.ABORT_LATE)))
       | none, none => exec (.abort c) s = .next (z.answer 3 c (Reply.of St.TOKEN_UNKNOWN)))) ∧
  (∀ (c : MboxCmd) (s : State), s.takes 1 c = true →
      ∃ (u : State) (body : List Byte), exec (.resync c) s = .next (u.answer 1 c { status := St.OK, body := body }) ∧
        body.length = 4096 ∧ body.take 8 = [0x44, 0x4E, 0x52, 0x53, 1, 0, 0, 0] ∧
        slice body 8 8 = leBytes 4 (s.cmd.snapSeq + 1) ++ leBytes 4 (crc32c (body.drop 16)) ∧ u.cmd.snapSeq = s.cmd.snapSeq + 1 ∧
        u.cmd.longOps = s.cmd.longOps ∧ u.regs = s.regs ∧ u.out = s.out)

/-- Parameters, the held state and the self-test (R40, R42, R246, R358). PARAM_WRITE outside the envelope changes nothing; an immediate one is in
force at once, a FRAME one waits for a frame at least 50 µs ahead, a COMMIT or RESTART one for that, and PARAM_READ answers the value in force.
PAIR_POSITION is busy while the lockstep link is formed (before its value is judged: log entry 91). HOLD and RELEASE take effect
at the frame named or the first at least 2 ms ahead, TOO_LATE else, and leave on every chain. SELFTEST queues 6 ms of background work on the
island named or the roomiest, NO_SLACK without slack, BUSY with 16 long operations. -/
def Obligations.ParametersAndHoldsAreTaken : Prop :=
  (∀ (c : MboxCmd) (s : State) (p : ParamVal), s.takes 7 c = true → s.gen.activating = false → s.paramVal? (leAt c.body 0 2) = some p →
      ¬(leAt c.body 0 2 = 1 ∧ s.formed = true) →
      (let vs := (List.range (leAt c.body 4 4)).map (fun i => leAt c.body (8 + 4 * i) 4)
       let z := s.tick c.t
       let waits (a : ApplyAt) (w : Nat) : Prop := ∃ (u : State) (sup : Nat), sup ≤ 1 ∧
         exec (.paramWrite c) s = .next (u.answer 7 c { status := St.OK, wfn := w, flags := sup }) ∧
         u.gen.pendingParams.getLast? = some { id := leAt c.body 0 2, value := vs, apply := a } ∧
         (∀ id, u.paramVal? id = s.paramVal? id)
       (paramValuesOk p.spec vs = false → exec (.paramWrite c) s = .next (z.answer 7 c (Reply.of St.PARAM_RANGE))) ∧
       (paramValuesOk p.spec vs = true → p.spec.apply = 0 →
         ∃ u : State, exec (.paramWrite c) s = .next (u.answer 7 c { status := St.OK, wfn := z.wfnNow }) ∧
           u.paramVal? (leAt c.body 0 2) = some { p with value := vs } ∧
           (∀ id, id ≠ leAt c.body 0 2 → u.paramVal? id = s.paramVal? id)) ∧
       (∀ tl, paramValuesOk p.spec vs = true → p.spec.apply = 1 → s.timeline? = some tl →
         waits (.frame (frameFrom tl (z.now + 50 * usT))) (frameFrom tl (z.now + 50 * usT))) ∧
       (paramValuesOk p.spec vs = true → p.spec.apply = 2 → waits .commit 0) ∧
       (paramValuesOk p.spec vs = true → 2 < p.spec.apply → waits .restart 0xFFFFFFFFFFFF))) ∧
  (∀ (c : MboxCmd) (s : State), s.takes 7 c = true → s.gen.activating = false →
      (s.paramVal? (leAt c.body 0 2) = none → exec (.paramWrite c) s = .next ((s.tick c.t).answer 7 c (Reply.of St.PARAM_RANGE))) ∧
      (leAt c.body 0 2 = 1 → s.formed = true → (s.paramVal? 1).isSome = true →
        exec (.paramWrite c) s = .next ((s.tick c.t).answer 7 c (Reply.of St.PARAM_BUSY)))) ∧
  (∀ (c : MboxCmd) (s : State), s.takes 7 c = true → s.gen.activating = true →
      exec (.paramWrite c) s = .next ((s.tick c.t).answer 7 c (Reply.of St.PARAM_BUSY))) ∧
  (∀ (c : MboxCmd) (s : State), s.takes 8 c = true →
      exec (.paramRead c) s = .next ((s.tick c.t).answer 8 c
        (match s.paramVal? (leAt c.body 0 2) with
         | none => Reply.of St.PARAM_RANGE
         | some p => { status := St.OK, body := leBytes 1 p.spec.type ++ zeroBytes 3 ++ leBytes 4 p.value.length ++ p.value.flatMap (leBytes 4) }))) ∧
  (∀ (c : MboxCmd) (s : State) (tl : Timeline), s.takes 5 c = true → (s.formed && s.isMirror) = false → s.timeline? = some tl → s.flk.heldFrom = none →
      s.flk.ahead = [] →
      (let z := s.tick c.t
       let w := leAt c.body 0 6
       let f := Nat.max w (frameFrom tl (z.now + 2 * msT))
       if w ≠ 0 ∧ frameStart tl w < z.now + 2 * msT then exec (.hold c) s = .next (z.answer 5 c (Reply.of St.TOO_LATE))
       else ∃ u : State, exec (.hold c) s = .next (u.answer 5 c { status := St.OK, wfn := f }) ∧ u.flk.heldFrom = some f ∧ u.flk.heldTo = none ∧
         u.flk.holdSends.getLast? = some { kind := 0, wfn := f, t := z.now, sends := 1 } ∧
         u.chn.tx = s.chn.tx ++ s.chains.map (fun k =>
           { port := k.chain, bytes := messageBytes Msg.HOLD (1 + 4 * s.side) 0xFF 0 (holdBody 0 f), sent := 0 }))) ∧
  (∀ (c : MboxCmd) (s : State) (tl : Timeline) (a : Nat), s.takes 6 c = true → (s.formed && s.isMirror) = false → s.timeline? = some tl →
      s.flk.heldFrom = some a → s.flk.heldTo = none → s.flk.ahead = [] →
      (let z := s.tick c.t
       let w := leAt c.body 0 6
       let f := Nat.max w (frameFrom tl (z.now + 2 * msT))
       if s.dbg.bist.isSome then exec (.release c) s = .next (z.answer 6 c (Reply.of St.BUSY))
       else if w ≠ 0 ∧ frameStart tl w < z.now + 2 * msT then exec (.release c) s = .next (z.answer 6 c (Reply.of St.TOO_LATE))
       else ∃ u : State, exec (.release c) s = .next (u.answer 6 c { status := St.OK, wfn := f }) ∧ u.flk.heldFrom = some a ∧ u.flk.heldTo = some f)) ∧
  (∀ (c : MboxCmd) (s : State), (s.formed && s.isMirror) = true →
      (s.takes 5 c = true → exec (.hold c) s = .next ((s.tick c.t).answer 5 c (Reply.of St.NOT_PRIMARY))) ∧
      (s.takes 6 c = true → exec (.release c) s = .next ((s.tick c.t).answer 6 c (Reply.of St.NOT_PRIMARY)))) ∧
  (∀ (c : MboxCmd) (s : State), s.takes 0x503 c = true → s.image? = none →
      exec (.selftest c) s = .next ((s.tick c.t).answer 0x503 c (Reply.of St.NO_SLACK))) ∧
  (∀ (c : MboxCmd) (s : State) (im : Image), s.takes 0x503 c = true → s.image? = some im →
      (let i := byteAt c.body 0
       let known := i == 0xFF || (decide (i ≤ 31) && im.islands.any (fun r => r.island == i && r.enabled))
       let isl := if i = 0xFF then s.roomiest im else [i]
       let z := s.tick c.t
       (known = false → exec (.selftest c) s = .next (z.answer 0x503 c (Reply.of St.BAD_FIELD))) ∧
       (known = true → noSlack im = true → exec (.selftest c) s = .next (z.answer 0x503 c (Reply.of St.NO_SLACK))) ∧
       (known = true → noSlack im = false → s.longFull = true → exec (.selftest c) s = .next (z.answer 0x503 c (Reply.of St.BUSY))) ∧
       (known = true → noSlack im = false → s.longFull = false →
         ∃ u : State, exec (.selftest c) s = .next (u.answer 0x503 c { status := St.ACCEPTED, token := s.cmd.nextToken }) ∧
           u.cmd.nextToken = s.cmd.nextToken + 1 ∧
           u.cmd.longOps.getLast?.map (fun o => (o.token, o.opcode, o.owner)) = some (s.cmd.nextToken, 0x503, some c.path) ∧
           u.sch.jobs.getLast? =
             some { kind := .selftest (isl.headD i), token := s.cmd.nextToken, left := some 6000000, work := some 6000000, islands := isl })))

/-- Commands for tiles (R18, R355 to R357). TILE_REG and TILE_CMD go out as one message under the tile's next TAG, at most 4 in flight per tile;
they go out again after 20 ms and 40 ms and are answered TIMEOUT after 60 ms; the tile's response, taken by the sender its SIDE names, answers
the host. Broadcasts take no answer. A tile answers a repeated TAG from its store, runs another command, and answers register messages on both ports. -/
def Obligations.RelaysReachTheTiles : Prop :=
  (∀ (c : MboxCmd) (s : State), s.takes 0x601 c = true →
      (1 < byteAt c.body 1 → exec (.tileReg c) s = .next ((s.tick c.t).answer 0x601 c (Reply.of St.BAD_FIELD))) ∧
      (byteAt c.body 1 ≤ 1 → (s.cmd.relays.filter (fun r => r.ta == byteAt c.body 0 && r.sentAt.isSome)).length < 4 →
        s.cmd.relays.all (fun r => r.ta != byteAt c.body 0 || r.sentAt.isSome) = true →
        (let ta := byteAt c.body 0
         let tag := tabGet s.cmd.relayTags ta
         let body := if byteAt c.body 1 = 0 then slice c.body 4 4 else slice c.body 4 4 ++ slice c.body 8 4
         let type := if byteAt c.body 1 = 0 then Msg.REG_RD else Msg.REG_WR
         ∃ t, exec (.tileReg c) s = .next t ∧
           t.chn.tx = s.chn.tx ++ [{ port := ta / 64, bytes := messageBytes type (4 * s.side) ta tag body, sent := 0 }] ∧
           (t.flying? ta tag).map (fun r => (r.isReg, r.hostTag, r.sentAt, r.sends)) = some (true, c.tag, some (Nat.max s.now c.t), 1) ∧
           tabGet t.cmd.relayTags ta = (tag + 1) % 256 ∧ t.out = s.out)) ∧
      (byteAt c.body 1 ≤ 1 → 4 ≤ (s.cmd.relays.filter (fun r => r.ta == byteAt c.body 0 && r.sentAt.isSome)).length →
        ∃ t, exec (.tileReg c) s = .next t ∧ t.chn.tx = s.chn.tx ∧ t.cmd.relays.length = s.cmd.relays.length + 1)) ∧
  (∀ (c : MboxCmd) (s : State), s.takes 0x602 c = true →
      (byteAt c.body 0 ≠ 0xFF → s.cmd.relays = [] →
        (let ta := byteAt c.body 0
         let m (b : List Byte) : List Byte := messageBytes Msg.MBOX (4 * s.side) ta (tabGet s.cmd.relayTags ta) b
         ∃ t, exec (.tileCmd c) s = .next t ∧ t.out = s.out ∧ t.cmd.segSeq = (s.cmd.segSeq + 1) % 65536 ∧
           t.chn.tx = s.chn.tx ++ (bodiesOf 1016 s.cmd.segSeq (c.body.drop 4)).map (fun b => { port := ta / 64, bytes := m b, sent := 0 }) ∧
           (t.flying? ta (tabGet s.cmd.relayTags ta)).map (fun r => (r.isReg, r.hostTag, r.sends)) = some (false, c.tag, 1))) ∧
      (byteAt c.body 0 = 0xFF → byteAt c.body 1 ≤ 15 → noBroadcast (leAt (c.body.drop 4) 0 2) = false →
        ∃ u : State, exec (.tileCmd c) s = .next (u.answer 0x602 c (Reply.of St.OK)) ∧ u.cmd.relays = s.cmd.relays ∧
          u.chn.tx = s.chn.tx ++ (s.bcastChains (byteAt c.body 1)).flatMap (fun k => (bodiesOf 1016 s.cmd.segSeq (c.body.drop 4)).map (fun b =>
            { port := k, bytes := messageBytes Msg.MBOX (1 + 4 * s.side) 0xFF (tabGet s.cmd.relayTags 0xFF) b, sent := 0 }))) ∧
      (byteAt c.body 0 = 0xFF → 15 < byteAt c.body 1 ∨ noBroadcast (leAt (c.body.drop 4) 0 2) = true →
        exec (.tileCmd c) s = .next ((s.tick c.t).answer 0x602 c (Reply.of St.BAD_FIELD)))) ∧
  (∀ (c : MboxCmd) (s : State), s.takes 0x603 c = true →
      (leAt (c.body.drop 4) 0 2 ≠ 0x102 → leAt (c.body.drop 4) 0 2 ≠ 0x501 →
        exec (.tileBulk c) s = .next ((s.tick c.t).answer 0x603 c (Reply.of St.BAD_FIELD))) ∧
      (leAt (c.body.drop 4) 0 2 = 0x102 ∨ leAt (c.body.drop 4) 0 2 = 0x501 → byteAt c.body 0 ≠ 0xFF →
        (let ta := byteAt c.body 0
         let m (b : List Byte) : List Byte := messageBytes Msg.BULK (4 * s.side) ta (tabGet s.cmd.relayTags ta) b
         ∃ u : State, exec (.tileBulk c) s = .next (u.answer 0x603 c (Reply.of St.OK)) ∧
           u.chn.tx = s.chn.tx ++ (segments 1016 s.cmd.segSeq (c.body.drop 4)).map (fun b => { port := ta / 64, bytes := m b, sent := 0 }))) ∧
      (leAt (c.body.drop 4) 0 2 = 0x102 ∨ leAt (c.body.drop 4) 0 2 = 0x501 → byteAt c.body 0 = 0xFF →
        (15 < byteAt c.body 1 → exec (.tileBulk c) s = .next ((s.tick c.t).answer 0x603 c (Reply.of St.BAD_FIELD))) ∧
        (byteAt c.body 1 ≤ 15 →
          ∃ u : State, exec (.tileBulk c) s = .next (u.answer 0x603 c (Reply.of St.OK)) ∧
            u.chn.tx = s.chn.tx ++ (s.bcastChains (byteAt c.body 1)).flatMap (fun k => (segments 1016 s.cmd.segSeq (c.body.drop 4)).map (fun b =>
              { port := k, bytes := messageBytes Msg.BULK (1 + 4 * s.side) 0xFF (tabGet s.cmd.relayTags 0xFF) b, sent := 0 }))))) ∧
  (∀ (m : RegRspMsg) (s : State),
      (s.flying? m.ta m.tag = none ∨ m.side ≠ s.side → exec (.regRsp m) s = .next (s.tick m.t)) ∧
      (∀ r, s.flying? m.ta m.tag = some r → m.side = s.side → r.isReg = true → r.path = .spi →
        ∃ t, exec (.regRsp m) s = .next t ∧ t.flying? m.ta m.tag = none ∧ t.reg Reg.CMD_SPI_CTRL = 2 ∧
          cellRead (fun _ => (0 : Byte)) t.cmd.spiRsp 0 36 = responseBytes { opcode := r.hostOpcode, tag := r.hostTag, status := St.OK, flags := 0, token := 0, detail := 0, wfn := 0, body := leBytes 4 m.data.toNat })) ∧
  (∀ (m : MboxRspMsg) (s : State), s.isSender = false ∨ m.side ≠ s.side → exec (.mboxRsp m) s = .next (s.tick m.t)) ∧
  (∀ (m : MboxRspMsg) (s : State) (r : Relay), s.isSender = true → m.side = s.side → m.segmented = false → byteAt m.body 9 = 0 →
      s.flying? m.ta m.tag = some r → r.isReg = false → r.path = .spi → m.body.length = 32 →
      ∃ t, exec (.mboxRsp m) s = .next t ∧ t.flying? m.ta m.tag = none ∧
        cellRead (fun _ => (0 : Byte)) t.cmd.spiRsp 0 9 = leBytes 2 r.hostOpcode ++ zeroBytes 2 ++ leBytes 4 r.hostTag ++ leBytes 1 (byteAt m.body 8) ∧
        t.cmd.tileOps = s.cmd.tileOps ++
          (if byteAt m.body 8 = St.ACCEPTED then [{ ta := m.ta, token := leAt m.body 12 4, path := .spi, hostTag := r.hostTag }] else [])) ∧
  (∀ (ta tag t0 : Nat) (s : State) (r : Relay) (x : Nat), s.flying? ta tag = some r → r.sentAt = some x →
      (r.sends < 3 → x + r.sends * 20 * msT ≤ t0 →
        ∃ t, exec (.relayRetry ta tag t0) s = .next t ∧ t.flying? ta tag = some { r with sends := r.sends + 1 } ∧
          t.chn.tx = s.chn.tx ++ r.bodies.map (fun b =>
            { port := ta / 64, bytes := messageBytes r.msgType (4 * s.side) ta tag b, sent := 0 })) ∧
      (3 ≤ r.sends → exec (.relayRetry ta tag t0) s = .next (s.tick t0)) ∧
      (x + 60 * msT ≤ t0 → r.path = .spi →
        ∃ t, exec (.relayTimeout ta tag t0) s = .next t ∧ t.flying? ta tag = none ∧
          t.reg Reg.CMD_RELAY_TIMEOUT = satAdd (s.reg Reg.CMD_RELAY_TIMEOUT) 1 ∧
          cellRead (fun _ => (0 : Byte)) t.cmd.spiRsp 8 1 = leBytes 1 St.TIMEOUT)) ∧
  (∀ (m : MboxMsg) (s : State), (s.tick m.t).pathOpen (.chain m.side m.tag) = true → m.segmented = false →
      (m.bcast = false → (∀ d, s.cmd.dups.find? (fun d => d.side == m.side && d.tag == m.tag) = some d →
        ∃ t, exec (.mbox m) s = .next t ∧ t.reg Reg.CMD_DUP_ANSWERED = satAdd (s.reg Reg.CMD_DUP_ANSWERED) 1 ∧ t.gen = s.gen ∧
          t.chn.tx.length = s.chn.tx.length + 2 * d.bodies.length ∧ t.out = s.out)) ∧
      (m.bcast = false → s.cmd.dups.find? (fun d => d.side == m.side && d.tag == m.tag) = none → s.umb.downDue = false →
        s.umb.resetDue = false →
        (let c := readCommand (.chain m.side m.tag) m.t m.body
         (leAt m.body 0 2 = 0 → exec (.mbox m) s = exec (.nop c) s) ∧
         (leAt m.body 0 2 = 7 → exec (.mbox m) s = exec (.paramWrite c) s) ∧
         (leAt m.body 0 2 = 8 → exec (.mbox m) s = exec (.paramRead c) s))) ∧
      (m.bcast = true → s.umb.downDue = false → s.umb.resetDue = false → leAt m.body 0 2 = 7 →
        ∃ t u, exec (.mbox m) s = .next t ∧ exec (.paramWrite (readCommand (.chain m.side m.tag) m.t m.body)) s = .next u ∧
          t.gen = u.gen ∧ t.chn.tx = s.chn.tx ∧ t.cmd.dups = s.cmd.dups)) ∧
  (∀ (m : BulkMsg) (s : State), (s.tick m.t).pathOpen (.chain m.side m.tag) = true → slice m.body 2 2 = [0, 1] →
      leAt m.body 4 4 = (m.body.drop 8).length → s.umb.downDue = false → s.umb.resetDue = false →
      ∃ t, exec (.bulk m) s = .next t ∧ t.chn.tx = s.chn.tx ∧
        (leAt (m.body.drop 8) 0 2 ≠ 0x102 → leAt (m.body.drop 8) 0 2 ≠ 0x501 → t.tru = s.tru ∧ t.cal = s.cal ∧ t.regs = s.regs) ∧
        (leAt (m.body.drop 8) 0 2 = 0x102 →
          ∃ u : State, exec (.stageData (readCommand (.chain m.side m.tag) m.t (m.body.drop 8))) { s with cmd := { s.cmd with segs := t.cmd.segs } } = .next u ∧
            t.tru = u.tru) ∧
        (leAt (m.body.drop 8) 0 2 = 0x501 → s.takes 0x501 (readCommand (.chain m.side m.tag) m.t (m.body.drop 8)) = true →
          ∃ u : State, exec (.calStageData { offset := leAt (m.body.drop 40) 0 4, bytes := m.body.drop 44, t := m.t }) s = .next u ∧ t.cal = u.cal)) ∧
  (∀ (m : RegMsg) (s : State), (s.tick m.t).regPathOpen (.chain m.side) = true →
      (let r := (s.tick m.t).regRead (.chain m.side) m.addr
       exec (.regRd m) s = .next (r.2.tileSend Msg.REG_RSP m.side m.tag (0 :: leBytes 4 r.1))) ∧
      (s.blockAnswers m.addr = true → named m.addr = true → m.addr / 65536 = 0 → m.addr ≠ Reg.GEN_ISL_CLK 33 →
        exec (.regRd m) s = .next ((s.tick m.t).tileSend Msg.REG_RSP m.side m.tag (0 :: leBytes 4 (s.reg m.addr).toNat))) ∧
      (∃ t, exec (.regWr m) s = .next t ∧
        t.regs = ((s.tick m.t).regWrite { path := .chain m.side, addr := m.addr, data := m.data, be := 15 }).regs))

/-- The register map (R9): its blocks are those of Table 0.8; an address that names no register reads 0 and ignores a write; a write with a
byte enable missing is ignored as a whole; every write to the MET block is ignored, whatever the path. -/
def Obligations.StrayAccessesAreIgnored : Prop :=
  (∀ (a : Nat) (r : RegRow), rowOf a = some r → a / 65536 ≤ 19) ∧
  (∀ (s : State) (p : Path) (a : Nat), named a = false → s.regRead p a = (0, s)) ∧
  (∀ (s : State) (a : Nat), s.regPathOpen .spi = true → a < 2 ^ 32 → named a = false →
      exec (.spiRead a 1) s = .next (s.emit (.readData [0, 0, 0, 0]))) ∧
  (∀ (s : State) (w : RegWrite), named w.addr = false ∨ w.be ≠ 15 ∨ w.addr / 65536 = 18 → exec (.registerWrite w) s = .next s)

/-- The paths by which a host reaches registers and the mailbox (R7 to R9, R28, R346, R350, R351, R354, R363). A register write passes its gates or
changes nothing. RING_EN takes the sizes R350 allows, ERR else, and its clear abandons the mailbox. A tail write runs the commands up to
it; a head write beyond the tail is ignored, and one that frees entries lets waiting responses in. GO runs the command in CMD_SPI_REQ, whose
body Umbra takes up to 32 bytes long. SPI
frames read and write word by word. An island below its floor is shown, and that it happened. -/
def Obligations.PathsReachRegistersAndRings : Prop :=
  (∀ (w : RegWrite) (s : State),
      (s.writeAllowed w = false → exec (.registerWrite w) s = .next s) ∧ (w.be ≠ 15 → s.writeAllowed w = false) ∧
      (∀ r, s.writeAllowed w = true → w.addr / 65536 = 0 → rowOf w.addr = some r →
        ∃ t, exec (.registerWrite w) s = .next t ∧ (∀ a, t.reg a = if a = w.addr then writeMask r (s.reg a) w.data else s.reg a))) ∧
  (∀ (p : Path) (data : Word) (s : State), s.admits p Reg.CMD_RING_CFG data = true →
      (bitOf data 16 = true → s.ringOn = true → exec (.ringEnable p data) s = .next s) ∧
      (bitOf data 16 = true → s.ringOn = false → ∃ t, exec (.ringEnable p data) s = .next t ∧
        (let ok := inRange (fieldOf data 0 4) 6 14 && inRange (fieldOf data 8 4) 13 16
         t.ringOn = ok ∧ t.bit Reg.CMD_RING_CFG Fld.CMD_RING_CFG_ERR = !ok ∧ t.sqSize = 2 ^ fieldOf data 0 4)) ∧
      (bitOf data 16 = false → ∃ t, exec (.ringDisable p data) s = .next t ∧ t.ringOn = false ∧ t.cmd.waitingRsp = [] ∧
        t.cmd.longOps.length = s.cmd.longOps.length ∧ t.cmd.longOps.all (fun o => o.owner != some .pcie) = true ∧
        t.cmd.relays.all (fun r => r.path != .pcie) = true)) ∧
  (∀ (x : SqTail) (s : State), (s.tick x.t).admits x.path Reg.CMD_SQ_TAIL x.data = true → s.ringOn = true → 1 < s.sqSize →
      (s.reg Reg.CMD_SQ_HEAD).toNat < 2 * s.sqSize → x.entries.length = 64 → leAt x.entries 2 2 ≤ 32 →
      (let v := ((s.reg Reg.CMD_SQ_HEAD).toNat + 1) % (2 * s.sqSize)
       x.data = word v →
         exec (.sqTailWrite x) s = .next ((((s.tick x.t).setNum Reg.CMD_SQ_TAIL v).setNum Reg.CMD_SQ_HEAD v).runCommand .pcie x.t
           (x.entries.take (32 + leAt x.entries 2 2))))) ∧
  (∀ (x : SqTail) (s : State), (s.tick x.t).admits x.path Reg.CMD_SQ_TAIL x.data = true →
      (let m := 2 * s.sqSize
       let v := x.data.toNat % 65536 % m
       s.sqSize < (v + m - (s.reg Reg.CMD_SQ_HEAD).toNat % m) % m → (s.reg Reg.CMD_SQ_TAIL).toNat ≠ v →
         exec (.sqTailWrite x) s = .next (s.tick x.t))) ∧
  (∀ (p : Path) (data : Word) (s : State), s.admits p Reg.CMD_CQ_HEAD data = true →
      (let m := 2 * s.cqSize
       let v := data.toNat % 131072 % m
       let old := (s.reg Reg.CMD_CQ_HEAD).toNat % m
       let tail := (s.reg Reg.CMD_CQ_TAIL).toNat % m
       let z := s.setNum Reg.CMD_CQ_HEAD v
       ((tail + m - old) % m < (v + m - old) % m → exec (.cqHeadWrite p data) s = .next s) ∧
       ((v + m - old) % m ≤ (tail + m - old) % m → s.cmd.waitingRsp = [] → exec (.cqHeadWrite p data) s = .next z) ∧
       (∀ r, (v + m - old) % m ≤ (tail + m - old) % m → s.cmd.waitingRsp = [r] →
         ∃ t, exec (.cqHeadWrite p data) s = .next t ∧ t.cmd.waitingRsp = (if z.cqRoom r then [] else [r]) ∧
           (z.cqRoom r = true → t.reg Reg.CMD_CQ_TAIL = (z.cqWrite r).reg Reg.CMD_CQ_TAIL ∧ t.out = (z.cqWrite r).out)))) ∧
  (∀ (data : Word) (t0 : Nat) (s : State), (s.tick t0).admits .spi Reg.CMD_SPI_CTRL data = true → bitOf data 0 = true →
      (bitOf (s.reg Reg.CMD_SPI_CTRL) 2 = true →
        ∃ t, exec (.spiGo .spi data t0) s = .next t ∧ t.cmd = s.cmd ∧
          (∀ a, t.reg a = if a = Reg.CMD_CREDIT_DROP 2 then satAdd (s.reg a) 1 else s.reg a)) ∧
      (let head := cellRead (fun _ => (0 : Byte)) s.cmd.spiReq 0 32
       let n := leAt head 2 2
       let bytes := head ++ cellRead (fun _ => (0 : Byte)) s.cmd.spiReq 32 (Nat.min n 8192)
       let z := (s.tick t0).setReg Reg.CMD_SPI_CTRL 4
       bitOf (s.reg Reg.CMD_SPI_CTRL) 2 = false →
         exec (.spiGo .spi data t0) s = .next
           (if s.pstate = Ps.UMBRA ∧ knownOpcode (leAt head 0 2) = true ∧ 32 < n then
              z.answer (leAt head 0 2) (readCommand .spi z.now bytes) (Reply.of St.BAD_LENGTH)
            else z.runCommand .spi z.now bytes))) ∧
  (∀ (p : Path) (data : Word) (t0 : Nat) (s : State), p ≠ .spi → exec (.spiGo p data t0) s = .next (s.tick t0)) ∧
  (∀ (a : Nat) (s : State), s.regPathOpen .spi = true →
      (∀ n, ∃ t bs, exec (.spiRead a n) s = .next t ∧ t.out = .readData bs :: s.out ∧ bs.length = 4 * n) ∧
      (s.blockAnswers a = true → named a = true → a / 65536 = 0 → a ≠ Reg.GEN_ISL_CLK 33 →
        exec (.spiRead a 1) s = .next (s.emit (.readData (beBytes 4 (s.reg a).toNat)))) ∧
      (∀ b, exec (.spiStatus b) s =
        .next (s.emit (.readData [byteOf (flag b + 2 * flag (bitOf (s.reg Reg.CMD_SPI_CTRL) 1) + 4 * flag s.umb.spiHold)])))) ∧
  (∀ (a n : Nat) (b : Bool) (s : State), s.regPathOpen .spi = false → exec (.spiRead a n) s = .next s ∧ exec (.spiStatus b) s = .next s) ∧
  (∀ (a : Nat) (w : Word) (ws : List Word) (s : State),
      (let t := s.regWrite { path := .spi, addr := a % 2 ^ 32, data := w, be := 15 }
       exec (.spiWrite a []) s = .next s ∧ exec (.spiWrite a [w]) s = .next t ∧
         exec (.spiWrite a (w :: ws)) s = exec (.spiWrite (a + 4) ws) t)) ∧
  (∀ (p : Path) (s : State), s.admits p Reg.CMD_CNT_CLEAR 1 = true →
      ∃ t, exec (.cmdCntClear p) s = .next t ∧ (∀ a, t.reg a = if cmdCounter a then resetValue a else s.reg a)) ∧
  (∀ (island freq t0 : Nat) (s : State), s.islandOn island = true →
      (let r := Reg.GEN_ISL_CLK island
       (∃ t, exec (.islandBelowFloor island freq t0) s = .next t ∧ t.get r Fld.GEN_ISL_CLK_FREQ = freq % 65536 ∧
         t.bit r Fld.GEN_ISL_CLK_BELOW_FLOOR = true ∧
         t.bit r Fld.GEN_ISL_CLK_FLOOR_EVENT = (s.bit r Fld.GEN_ISL_CLK_FLOOR_EVENT || !s.bit r Fld.GEN_ISL_CLK_BELOW_FLOOR)) ∧
       (∃ t, exec (.islandFloorRegained island freq t0) s = .next t ∧ t.get r Fld.GEN_ISL_CLK_FREQ = freq % 65536 ∧
         t.bit r Fld.GEN_ISL_CLK_BELOW_FLOOR = false ∧
         t.bit r Fld.GEN_ISL_CLK_FLOOR_EVENT = s.bit r Fld.GEN_ISL_CLK_FLOOR_EVENT)))

/-! ### Debug and test access (chapter 23) -/

/-- JTAG, TMUX and BIST (R387 to R393). An instruction the lifecycle state refuses is decoded as BYPASS and sets DENIED; an unlisted opcode
acts as BYPASS; Test-Logic-Reset loads IDCODE and gives every output back. DBG_ACCESS reads and writes registers outside MET. A TMUX
selection is driven at the ball at REFCLK_CORE's next edge, or low and DENIED when it is refused. BIST runs in the held state or at a sender
not in control whose partner is current, sheds every instance, starts once no facet runs an operation (its end waits for that), and its end
reports the result, loads the islands again and counts. -/
def Obligations.DebugAccessFollowsTheLifecycle : Prop :=
  (∀ (opcode : Nat) (low : Bool) (s : State), s.coreLive = true →
      (let refused := irListed opcode && (!s.jtagAllowed opcode || (opcode == Ir.INT_SCAN && !low))
       ∃ t, exec (.jtagUpdateIr opcode low) s = .next t ∧ t.dbg.ir = (if irListed opcode = false ∨ refused = true then Ir.BYPASS else opcode) ∧
         t.bit Reg.DBG_STATE Fld.DBG_STATE_DENIED = (s.bit Reg.DBG_STATE Fld.DBG_STATE_DENIED || refused) ∧
         t.bit Reg.DBG_STATE Fld.DBG_STATE_JTAG_EXT = irExtest t.dbg.ir ∧ t.bit Reg.DBG_STATE Fld.DBG_STATE_JTAG_PRIV = irPrivate t.dbg.ir ∧
         .readData [s.irCapture] ∈ t.out ∧ (irExtest t.dbg.ir = true → t.dbg.forced = true))) ∧
  (∀ (opcode : Nat) (s : State), (s.tru.lifecycle = Lc.SECURE ∨ s.tru.lifecycle = Lc.SCRAPPED → irPrivate opcode = true →
      s.jtagAllowed opcode = false) ∧ (s.tru.lifecycle = Lc.SCRAPPED → irExtest opcode = true ∨ opcode = Ir.SAMPLE → s.jtagAllowed opcode = false)) ∧
  (∀ (s : State), s.coreLive = true →
      (∃ t, exec .jtagReset s = .next t ∧ t.dbg.ir = Ir.IDCODE ∧ t.dbg.forced = false) ∧
      (s.dbg.ir = Ir.EXTEST_PULSE → exec .jtagRunTestIdle s = .next (s.emit (.acPulse false))) ∧
      (s.dbg.ir = Ir.EXTEST_TRAIN → exec .jtagRunTestIdle s = .next (s.emit (.acPulse true))) ∧
      (irPublic s.dbg.ir = true → ∃ t, exec .jtagRunTestIdle s = .next t ∧ t.dbg.forced = false) ∧
      (irPublic s.dbg.ir = false → s.dbg.ir ≠ Ir.EXTEST_PULSE → s.dbg.ir ≠ Ir.EXTEST_TRAIN → exec .jtagRunTestIdle s = .next s)) ∧
  (∀ (s : State), s.coreLive = false → (∀ opcode low, exec (.jtagUpdateIr opcode low) s = .next s) ∧ exec .jtagReset s = .next s ∧
      exec .jtagRunTestIdle s = .next s ∧ (∀ d, exec (.jtagUpdateDr d) s = .next s)) ∧
  (∀ (s : State), s.coreLive = true →
      (∀ cells, s.dbg.ir = Ir.SAMPLE → ∃ t, exec (.jtagUpdateDr (.boundary cells)) s = .next t ∧ t.dbg.boundary = cells ∧ t.out = s.out) ∧
      (∀ cells, s.dbg.ir = Ir.EXTEST ∨ s.dbg.ir = Ir.EXTEST_PULSE ∨ s.dbg.ir = Ir.EXTEST_TRAIN → ∃ t, exec (.jtagUpdateDr (.boundary cells)) s = .next t ∧ t.dbg.boundary = cells ∧
        t.dbg.forced = true ∧ t.out = .boundary cells :: s.out) ∧
      (∀ w a data, s.dbg.ir ≠ Ir.DBG_ACCESS ∨ a / 65536 = 18 → exec (.jtagUpdateDr (.access w a data)) s = .next s) ∧
      (∀ a data, s.dbg.ir = Ir.DBG_ACCESS → a / 65536 ≠ 18 →
        exec (.jtagUpdateDr (.access true a data)) s = exec (.registerWrite { path := .jtag, addr := a, data := data, be := 15 }) s) ∧
      (exec (.jtagUpdateDr .other) s = .next (if s.dbg.ir = Ir.IDCODE then s.emit (.readData (leBytes 4 idcode)) else s)) ∧
      (∀ a data, s.dbg.ir = Ir.DBG_ACCESS → s.regPathOpen .jtag = true → s.blockAnswers a = true → named a = true → a / 65536 = 0 →
        a ≠ Reg.GEN_ISL_CLK 33 →
        exec (.jtagUpdateDr (.access false a data)) s = .next (s.emit (.readData (leBytes 4 (s.reg a).toNat))))) ∧
  (∀ (k : Nat) (w : RegWrite) (s : State) (r : RegRow), k < 16 → w.addr = Reg.DBG_TMUX_SEL k → s.writeAllowed w = true →
      rowOf w.addr = some r →
      (let sel := writeMask r (s.reg w.addr) w.data
       let refused := (tmuxIndex (fieldOf sel 0 8)).isSome && !s.tmuxAllowed (fieldOf sel 0 8)
       ∃ t, exec (.tmuxSelect k w) s = .next t ∧ t.reg w.addr = sel ∧
         t.out = (if s.chn.refclk then .tmux k (s.tmuxDrives sel) :: s.out else s.out) ∧
         t.bit Reg.DBG_STATE Fld.DBG_STATE_DENIED = (s.bit Reg.DBG_STATE Fld.DBG_STATE_DENIED || refused) ∧
         (refused = true → s.tmuxDrives sel = none))) ∧
  (∀ (c : MboxCmd) (s : State), s.takes 0x701 c = true →
      (∀ st, (s.tick c.t).bistRefused (byteAt c.body 0) = some st → exec (.bist c) s = .next ((s.tick c.t).answer 0x701 c (Reply.of st))) ∧
      ((s.tick c.t).bistRefused (byteAt c.body 0) = none →
        ∃ u : State, exec (.bist c) s = .next (u.answer 0x701 c { status := St.ACCEPTED, token := s.cmd.nextToken }) ∧
          u.dbg.bist = some { token := s.cmd.nextToken, scope := byteAt c.body 0, groups := 0 } ∧
          u.bit Reg.DBG_STATE Fld.DBG_STATE_BIST_RUN = true ∧ u.reg Reg.DBG_BIST_STAT = word (byteAt c.body 0 + 4 + 0xFF * 2 ^ 8) ∧
          u.reg Reg.DBG_BIST_FAIL = 0 ∧ u.sch.instances.all (fun i => i.abandoned) = true)) ∧
  (∀ (s : State) (scope : Nat), (2 < scope → s.bistRefused scope = some St.BAD_FIELD) ∧
      (scope ≤ 2 → s.tru.lifecycle = Lc.SCRAPPED → s.bistRefused scope = some St.BAD_STATE) ∧
      (scope ≤ 2 → s.held = false → (s.isSender = false ∨ s.inControl = true ∨ s.partnerCurrent = false) →
        s.bistRefused scope = some St.BAD_STATE) ∧
      (scope ≤ 2 → s.tru.lifecycle ≠ Lc.SCRAPPED → s.image?.isSome = true →
        s.held = true ∨ (s.isSender = true ∧ s.inControl = false ∧ s.partnerCurrent = true) →
        s.bistRefused scope = (if s.dbg.bist.isSome ∨ s.longFull then some St.BUSY else none))) ∧
  (∀ (fail : Option Nat) (failed done : Word) (t0 : Nat) (s : State), s.dbg.bist = none ∨ s.anyIssued = true →
      exec (.bistComplete fail failed done t0) s = .next (s.tick t0)) ∧
  (∀ (fail : Option Nat) (failed done : Word) (t0 : Nat) (s : State) (b : BistRun) (im : Image), s.dbg.bist = some b → s.image? = some im →
      s.anyIssued = false →
      ∃ t, exec (.bistComplete fail failed done t0) s = .next t ∧ t.dbg.bist = none ∧ t.bit Reg.DBG_STATE Fld.DBG_STATE_BIST_RUN = false ∧
        t.reg Reg.DBG_BIST_DONE = done ∧ t.reg Reg.DBG_BIST_RUNS = satAdd (s.reg Reg.DBG_BIST_RUNS) 1 ∧
        t.reg Reg.DBG_BIST_STAT = word (b.scope + (match fail with | none => 8 + 0xFF * 2 ^ 8 | some x => x % 256 * 2 ^ 8)) ∧
        t.reg Reg.DBG_BIST_FAIL = (if fail.isSome then failed else 0) ∧ t.sch.instances = [] ∧ t.longOp? b.token = none ∧
        (∀ o, s.longOp? b.token = some o → t.cmd.kept.getLast?.map (fun k => (k.record.token, k.record.status, k.record.detail)) =
          some (b.token, (match fail with | none => (St.OK, 0) | some x => (St.FAILED, x % 256))))) ∧
  (∀ (w : RegWrite) (s : State), w.addr = Reg.DBG_CNT_CLEAR → s.writeAllowed w = true → bitOf w.data 0 = true →
      ∃ t, exec (.dbgCntClear w) s = .next t ∧ (∀ a, t.reg a = if a = Reg.DBG_BIST_RUNS then resetValue a else s.reg a))

/-! ### Frames -/

/-- Every command runs, and keeps what it does not own: in every state a command answers a next state (a DRAM request outside the populated
space alone faults, R248), and that state has the queue, every part of the machine outside the command's footprint and every register outside
it as they were. The footprint of a command names its own block's registers and those the spec has it change beside them: CMD_EVT, the answer
on the mailbox, the counters. -/
def Obligations.EveryCommandRunsAndKeepsTheRest : Prop :=
  ∀ (c : Instr) (s : State), (∀ r d, c = .dramRequest r → s.dramRec? = some d → r.addr + 64 * r.words ≤ dramBytes d) →
    ∃ t, exec c s = .next t ∧ (footprint c).kept s t

/-- Frame of the commands that store pixels or program flash (R71, R88, R100 to R103, R235, R251): a decoded picture, and packets whose rows
lie inside the surfaces, change no byte of DRAM that no surface holds; a granted write changes the bytes of its request alone; a step of a
calibration store changes the sector or page it works on alone, and a failed one none. -/
def Obligations.StoresStayInTheirPlace : Prop :=
  (∀ (d : DecodeDone) (s t : State) (a : Nat), exec (.pictureDecodeComplete d) s = .next t → (∀ v ∈ s.cmp.surfaces, ¬ sampleByte v a) →
      cellGet (fun _ => (0 : Byte)) t.dram a = cellGet (fun _ => (0 : Byte)) s.dram a) ∧
  (∀ (f : EthFrame) (s t : State) (a : Nat), s.heldFit → s.rowsFit (viewFrame f.bytes).udp = true → exec (.ethernetFrameRx f) s = .next t →
      (∀ v ∈ s.cmp.surfaces, ¬ sampleByte v a) → cellGet (fun _ => (0 : Byte)) t.dram a = cellGet (fun _ => (0 : Byte)) s.dram a) ∧
  (∀ (r : PacketRec) (s t : State) (a : Nat), s.heldFit → s.rowsFit r.payload = true → exec (.packet r) s = .next t →
      (∀ v ∈ s.cmp.surfaces, ¬ sampleByte v a) → cellGet (fun _ => (0 : Byte)) t.dram a = cellGet (fun _ => (0 : Byte)) s.dram a) ∧
  (∀ (r : VerdictRec) (k t0 : Nat) (s t : State) (a : Nat), s.heldFit → (exec (.verdict r) s = .next t ∨ exec (.missing k t0) s = .next t) →
      (∀ v ∈ s.cmp.surfaces, ¬ sampleByte v a) → cellGet (fun _ => (0 : Byte)) t.dram a = cellGet (fun _ => (0 : Byte)) s.dram a) ∧
  (∀ (t0 : Nat) (s t : State), exec (.dramGrant t0) s = .next t →
      match (s.tick t0).grantee? t0 with
      | none => t.dram = s.dram
      | some q => ∀ a, q.write = false ∨ a < q.addr ∨ q.addr + 64 * q.words ≤ a →
          cellGet (fun _ => (0 : Byte)) t.dram a = cellGet (fun _ => (0 : Byte)) s.dram a) ∧
  (∀ (ok : Bool) (t0 : Nat) (s t : State) (x : CalStore) (a : Nat), s.cal.store = some x →
      exec (.flashOperationComplete false ok t0) s = .next t →
      (ok = false ∨ a < x.target.1 ∨ x.target.1 + x.target.2 ≤ a) →
      cellGet erasedByte t.tru.flash a = cellGet erasedByte s.tru.flash a)
end

