-- ==== Sys2Proof/Laws/Cells.lean ====
section
/-! SUPPORT. Laws of the sparse lists: a read after a write, and the canonical form is kept by every operation on them. -/
namespace Sys2Proof.Machine

variable {β : Type}

theorem cellGet_nil (d : Nat → β) (a : Nat) : cellGet d [] a = d a := rfl

theorem cellGet_cons (d : Nat → β) (p : Nat × β) (l : List (Nat × β)) (a : Nat) :
    cellGet d (p :: l) a = if p.1 = a then p.2 else cellGet d l a := by
  unfold cellGet
  by_cases h : p.1 = a
  · simp [List.find?, h]
  · have : (p.1 == a) = false := by simpa using h
    simp [List.find?, h, this]

theorem cellGet_insert (d : Nat → β) (a : Nat) (v : β) (b : Nat) (l : List (Nat × β)) (h : ∀ p ∈ l, p.1 ≠ a) :
    cellGet d (cellInsert a v l) b = if a = b then v else cellGet d l b := by
  induction l with
  | nil => simp [cellInsert, cellGet_cons]
  | cons p ps ih =>
    have hp := h p (by simp)
    have ht := ih (fun q hq => h q (by simp [hq]))
    unfold cellInsert
    split
    · simp [cellGet_cons]
    · rw [cellGet_cons, ht, cellGet_cons]
      by_cases h1 : p.1 = b <;> by_cases h2 : a = b <;> simp [h1, h2]
      omega

theorem cellGet_filter (d : Nat → β) (q : Nat → Bool) (l : List (Nat × β)) (b : Nat) :
    cellGet d (l.filter (fun p => q p.1)) b = if q b then cellGet d l b else d b := by
  induction l with
  | nil => simp [cellGet_nil]
  | cons p ps ih =>
    by_cases h1 : q p.1 <;> by_cases h2 : p.1 = b <;> simp_all [List.filter, cellGet_cons]

/-- A read after a write of one address. -/
theorem cellGet_cellSet [DecidableEq β] (d : Nat → β) (l : List (Nat × β)) (a : Nat) (v : β) (b : Nat) :
    cellGet d (cellSet d l a v) b = if a = b then v else cellGet d l b := by
  have hf := cellGet_filter d (fun x => x != a) l b
  unfold cellSet
  dsimp only
  split
  · rename_i hv
    rw [hf]
    by_cases h : a = b
    · subst h; simp [hv]
    · simp [h, Ne.symm h]
  · rw [cellGet_insert, hf]
    · by_cases h : a = b
      · simp [h]
      · simp [h, Ne.symm h]
    · intro p hp
      simpa using (List.mem_filter.mp hp).2

/-- A read after an erase. -/
theorem cellGet_cellErase (d : Nat → β) (p : Nat → Bool) (l : List (Nat × β)) (b : Nat) :
    cellGet d (cellErase p l) b = if p b then d b else cellGet d l b := by
  have h := cellGet_filter d (fun x => !p x) l b
  unfold cellErase
  rw [h]
  by_cases hb : p b <;> simp [hb]

/-- A read after a write of consecutive addresses. -/
theorem cellGet_cellSetMany [DecidableEq β] (d : Nat → β) (l : List (Nat × β)) (a : Nat) (vs : List β) (b : Nat) :
    cellGet d (cellSetMany d l a vs) b = if a ≤ b ∧ b < a + vs.length then vs.getD (b - a) (d b) else cellGet d l b := by
  induction vs generalizing l a with
  | nil => simp [cellSetMany]
  | cons v vs ih =>
    unfold cellSetMany
    rw [ih, cellGet_cellSet]
    by_cases h1 : a = b
    · subst h1
      simp
    · by_cases h2 : a + 1 ≤ b ∧ b < a + 1 + vs.length
      · have h3 : a ≤ b ∧ b < a + (v :: vs).length := by simp; omega
        rw [if_pos h2, if_pos h3]
        have : b - a = (b - (a + 1)) + 1 := by omega
        rw [this, List.getD_cons_succ]
      · have h3 : ¬ (a ≤ b ∧ b < a + (v :: vs).length) := by simp; omega
        rw [if_neg h2, if_neg h3, if_neg h1]

/-! ### The canonical form -/

theorem cellInsert_mem (a : Nat) (v : β) (l : List (Nat × β)) (p : Nat × β) :
    p ∈ cellInsert a v l ↔ p = (a, v) ∨ p ∈ l := by
  induction l with
  | nil => simp [cellInsert]
  | cons q qs ih =>
    unfold cellInsert
    split
    · simp
    · simp [ih]; tauto

theorem cellInsert_pairwise (a : Nat) (v : β) (l : List (Nat × β)) (h : ∀ p ∈ l, p.1 ≠ a)
    (hl : l.Pairwise (fun p q => p.1 < q.1)) : (cellInsert a v l).Pairwise (fun p q => p.1 < q.1) := by
  induction l with
  | nil => simp [cellInsert]
  | cons q qs ih =>
    have hq := h q (by simp)
    rw [List.pairwise_cons] at hl
    unfold cellInsert
    split
    · rename_i hlt
      rw [List.pairwise_cons]
      refine ⟨?_, List.pairwise_cons.mpr hl⟩
      intro p hp
      rcases List.mem_cons.mp hp with rfl | hp
      · exact hlt
      · have := hl.1 p hp; simp only; omega
    · rename_i hge
      rw [List.pairwise_cons]
      refine ⟨?_, ih (fun p hp => h p (by simp [hp])) hl.2⟩
      intro p hp
      rcases (cellInsert_mem a v qs p).mp hp with rfl | hp
      · simp only; omega
      · exact hl.1 p hp

theorem cellWf_nil [DecidableEq β] (d : Nat → β) : cellWf d [] = true := by simp [cellWf]

theorem cellWf_filter [DecidableEq β] (d : Nat → β) (q : Nat × β → Bool) (l : List (Nat × β)) (h : cellWf d l = true) :
    cellWf d (l.filter q) = true := by
  simp only [cellWf, Bool.and_eq_true, decide_eq_true_eq, List.all_eq_true] at *
  exact ⟨h.1.filter _, fun p hp => h.2 p (List.mem_filter.mp hp).1⟩

/-- A write keeps the canonical form. -/
theorem cellWf_cellSet [DecidableEq β] (d : Nat → β) (l : List (Nat × β)) (a : Nat) (v : β) (h : cellWf d l = true) :
    cellWf d (cellSet d l a v) = true := by
  have hf := cellWf_filter d (fun p => p.1 != a) l h
  have hne : ∀ p ∈ l.filter (fun p => p.1 != a), p.1 ≠ a := fun p hp => by simpa using (List.mem_filter.mp hp).2
  unfold cellSet
  dsimp only
  split
  · exact hf
  · rename_i hv
    simp only [cellWf, Bool.and_eq_true, decide_eq_true_eq, List.all_eq_true] at *
    refine ⟨cellInsert_pairwise a v _ hne hf.1, ?_⟩
    intro p hp
    rcases (cellInsert_mem a v _ p).mp hp with rfl | hp
    · exact hv
    · exact hf.2 p hp

/-- Writes of consecutive addresses keep it. -/
theorem cellWf_cellSetMany [DecidableEq β] (d : Nat → β) (vs : List β) (l : List (Nat × β)) (a : Nat)
    (h : cellWf d l = true) : cellWf d (cellSetMany d l a vs) = true := by
  induction vs generalizing l a with
  | nil => exact h
  | cons v vs ih => exact ih _ _ (cellWf_cellSet d l a v h)

/-- An erase keeps it. -/
theorem cellWf_cellErase [DecidableEq β] (d : Nat → β) (p : Nat → Bool) (l : List (Nat × β)) (h : cellWf d l = true) :
    cellWf d (cellErase p l) = true := cellWf_filter d _ l h

end Sys2Proof.Machine
end

