-- ==== Sys2Proof/Laws/Regs.lean ====
section
/-! SUPPORT. Laws of the register file and its fields: what a register reads after each named operation. -/
namespace Sys2Proof.Machine

/-! ### Fields of a word -/

theorem fieldOf_testBit (w : Word) (lo len i : Nat) :
    (fieldOf w lo len).testBit i = (decide (i < len) && w.getLsbD (lo + i)) := by
  unfold fieldOf
  rw [Nat.testBit_mod_two_pow, Nat.testBit_shiftRight]
  rfl

theorem putField_getLsbD (w : Word) (lo len v i : Nat) :
    (putField w lo len v).getLsbD i =
      (decide (i < 32) && if lo ≤ i ∧ i < lo + len then v.testBit (i - lo) else w.getLsbD i) := by
  unfold putField
  simp only [BitVec.getLsbD_or, BitVec.getLsbD_and, BitVec.getLsbD_not, BitVec.getLsbD_ofNat, Nat.testBit_shiftLeft,
    Nat.testBit_mod_two_pow, Nat.testBit_two_pow_sub_one]
  by_cases h32 : i < 32
  · by_cases h1 : lo ≤ i
    · by_cases h2 : i < lo + len
      · have : i - lo < len := by omega
        simp [h32, h1, h2, this]
      · have : ¬ (i - lo < len) := by omega
        simp [h32, h1, h2, this]
    · simp [h32, h1]
  · simp [h32, BitVec.getLsbD_of_ge w i (by omega)]

/-- The field that was put. -/
theorem fieldOf_putField_same (w : Word) (lo len v : Nat) (h : lo + len ≤ 32) :
    fieldOf (putField w lo len v) lo len = v % 2 ^ len := by
  apply Nat.eq_of_testBit_eq
  intro i
  rw [fieldOf_testBit, putField_getLsbD, Nat.testBit_mod_two_pow]
  by_cases hi : i < len
  · have h1 : lo + i < 32 := by omega
    simp [hi, h1]
  · simp [hi]

/-- A field disjoint from the one that was put. -/
theorem fieldOf_putField_other (w : Word) (lo len v lo' len' : Nat) (h : lo' + len' ≤ lo ∨ lo + len ≤ lo') :
    fieldOf (putField w lo len v) lo' len' = fieldOf w lo' len' := by
  apply Nat.eq_of_testBit_eq
  intro i
  rw [fieldOf_testBit, fieldOf_testBit, putField_getLsbD]
  by_cases hi : i < len'
  · have h1 : ¬ (lo ≤ lo' + i ∧ lo' + i < lo + len) := by omega
    by_cases h32 : lo' + i < 32
    · simp [hi, h1, h32]
    · simp [h1, h32, BitVec.getLsbD_of_ge w (lo' + i) (by omega)]
  · simp [hi]

theorem bitOf_putField (w : Word) (lo len v n : Nat) (h : n < 32) :
    bitOf (putField w lo len v) n = if lo ≤ n ∧ n < lo + len then v.testBit (n - lo) else bitOf w n := by
  unfold bitOf
  rw [putField_getLsbD]
  simp [h]

/-! ### Registers -/

@[simp] theorem State.reg_setReg (s : State) (a : Nat) (v : Word) (b : Nat) :
    (s.setReg a v).reg b = if a = b then v else s.reg b := cellGet_cellSet resetValue s.regs a v b

@[simp] theorem State.reg_resetRegs (s : State) (p : Nat → Bool) (b : Nat) :
    (s.resetRegs p).reg b = if p b then resetValue b else s.reg b := cellGet_cellErase resetValue p s.regs b

@[simp] theorem State.reg_setNum (s : State) (a v b : Nat) :
    (s.setNum a v).reg b = if a = b then BitVec.ofNat 32 v else s.reg b := s.reg_setReg a _ b

@[simp] theorem State.reg_put (s : State) (a : Nat) (f : Field) (v b : Nat) :
    (s.put a f v).reg b = if a = b then putField (s.reg a) f.lo f.len v else s.reg b := s.reg_setReg a _ b

@[simp] theorem State.reg_putBit (s : State) (a : Nat) (f : Field) (x : Bool) (b : Nat) :
    (s.putBit a f x).reg b = if a = b then putField (s.reg a) f.lo f.len (flag x) else s.reg b := s.reg_setReg a _ b

@[simp] theorem State.reg_bump (s : State) (a k b : Nat) :
    (s.bump a k).reg b = if a = b then satAdd (s.reg a) k else s.reg b := s.reg_setReg a _ b

@[simp] theorem State.reg_tick (s : State) (t b : Nat) : (s.tick t).reg b = s.reg b := rfl
@[simp] theorem State.reg_emit (s : State) (o : Output) (b : Nat) : (s.emit o).reg b = s.reg b := rfl
@[simp] theorem State.reg_takeFree (s : State) (b : Nat) : s.takeFree.2.reg b = s.reg b := rfl

/-- An event changes CMD_EVT alone. -/
theorem State.reg_event (s : State) (n b : Nat) :
    (s.event n).reg b = if Reg.CMD_EVT = b then s.reg Reg.CMD_EVT ||| BitVec.ofNat 32 (2 ^ n) else s.reg b := by
  unfold State.event
  dsimp only
  split <;> simp

theorem State.reg_event_other (s : State) (n b : Nat) (h : Reg.CMD_EVT ≠ b) : (s.event n).reg b = s.reg b := by
  rw [s.reg_event n b, if_neg h]

@[simp] theorem State.reg_restartHoldoff (s : State) (b : Nat) : (s.restartHoldoff).reg b = s.reg b := by
  unfold State.restartHoldoff
  split <;> rfl

/-! ### The canonical form -/

/-- The register file stays canonical. -/
theorem cellWf_setReg (s : State) (a : Nat) (v : Word) (h : cellWf resetValue s.regs = true) :
    cellWf resetValue (s.setReg a v).regs = true := cellWf_cellSet resetValue s.regs a v h

theorem cellWf_resetRegs (s : State) (p : Nat → Bool) (h : cellWf resetValue s.regs = true) :
    cellWf resetValue (s.resetRegs p).regs = true := cellWf_cellErase resetValue p s.regs h

end Sys2Proof.Machine
end

