-- ==== Sys2Proof/Laws/State.lean ====
section
/-! SUPPORT. What each named operation leaves of every field of State: one lemma per field per operation, so that no proof
unfolds a record update. -/
namespace Sys2Proof.Machine

/-! ### State.setReg -/

@[simp] theorem State.setReg_pending (s : State) (a : Nat) (v : Word) : (s.setReg a v).pending = s.pending := rfl
@[simp] theorem State.setReg_now (s : State) (a : Nat) (v : Word) : (s.setReg a v).now = s.now := rfl
@[simp] theorem State.setReg_ref (s : State) (a : Nat) (v : Word) : (s.setReg a v).ref = s.ref := rfl
@[simp] theorem State.setReg_fresh (s : State) (a : Nat) (v : Word) : (s.setReg a v).fresh = s.fresh := rfl
@[simp] theorem State.setReg_out (s : State) (a : Nat) (v : Word) : (s.setReg a v).out = s.out := rfl
@[simp] theorem State.setReg_gen (s : State) (a : Nat) (v : Word) : (s.setReg a v).gen = s.gen := rfl
@[simp] theorem State.setReg_sch (s : State) (a : Nat) (v : Word) : (s.setReg a v).sch = s.sch := rfl
@[simp] theorem State.setReg_cmd (s : State) (a : Nat) (v : Word) : (s.setReg a v).cmd = s.cmd := rfl
@[simp] theorem State.setReg_dram (s : State) (a : Nat) (v : Word) : (s.setReg a v).dram = s.dram := rfl
@[simp] theorem State.setReg_cmp (s : State) (a : Nat) (v : Word) : (s.setReg a v).cmp = s.cmp := rfl
@[simp] theorem State.setReg_ing (s : State) (a : Nat) (v : Word) : (s.setReg a v).ing = s.ing := rfl
@[simp] theorem State.setReg_cdc (s : State) (a : Nat) (v : Word) : (s.setReg a v).cdc = s.cdc := rfl
@[simp] theorem State.setReg_ccx (s : State) (a : Nat) (v : Word) : (s.setReg a v).ccx = s.ccx := rfl
@[simp] theorem State.setReg_chn (s : State) (a : Nat) (v : Word) : (s.setReg a v).chn = s.chn := rfl
@[simp] theorem State.setReg_red (s : State) (a : Nat) (v : Word) : (s.setReg a v).red = s.red := rfl
@[simp] theorem State.setReg_tim (s : State) (a : Nat) (v : Word) : (s.setReg a v).tim = s.tim := rfl
@[simp] theorem State.setReg_flk (s : State) (a : Nat) (v : Word) : (s.setReg a v).flk = s.flk := rfl
@[simp] theorem State.setReg_drc (s : State) (a : Nat) (v : Word) : (s.setReg a v).drc = s.drc := rfl
@[simp] theorem State.setReg_thm (s : State) (a : Nat) (v : Word) : (s.setReg a v).thm = s.thm := rfl
@[simp] theorem State.setReg_emc (s : State) (a : Nat) (v : Word) : (s.setReg a v).emc = s.emc := rfl
@[simp] theorem State.setReg_lmp (s : State) (a : Nat) (v : Word) : (s.setReg a v).lmp = s.lmp := rfl
@[simp] theorem State.setReg_cal (s : State) (a : Nat) (v : Word) : (s.setReg a v).cal = s.cal := rfl
@[simp] theorem State.setReg_tru (s : State) (a : Nat) (v : Word) : (s.setReg a v).tru = s.tru := rfl
@[simp] theorem State.setReg_umb (s : State) (a : Nat) (v : Word) : (s.setReg a v).umb = s.umb := rfl
@[simp] theorem State.setReg_met (s : State) (a : Nat) (v : Word) : (s.setReg a v).met = s.met := rfl
@[simp] theorem State.setReg_dbg (s : State) (a : Nat) (v : Word) : (s.setReg a v).dbg = s.dbg := rfl

/-! ### State.setNum -/

@[simp] theorem State.setNum_pending (s : State) (a v : Nat) : (s.setNum a v).pending = s.pending := rfl
@[simp] theorem State.setNum_now (s : State) (a v : Nat) : (s.setNum a v).now = s.now := rfl
@[simp] theorem State.setNum_ref (s : State) (a v : Nat) : (s.setNum a v).ref = s.ref := rfl
@[simp] theorem State.setNum_fresh (s : State) (a v : Nat) : (s.setNum a v).fresh = s.fresh := rfl
@[simp] theorem State.setNum_out (s : State) (a v : Nat) : (s.setNum a v).out = s.out := rfl
@[simp] theorem State.setNum_gen (s : State) (a v : Nat) : (s.setNum a v).gen = s.gen := rfl
@[simp] theorem State.setNum_sch (s : State) (a v : Nat) : (s.setNum a v).sch = s.sch := rfl
@[simp] theorem State.setNum_cmd (s : State) (a v : Nat) : (s.setNum a v).cmd = s.cmd := rfl
@[simp] theorem State.setNum_dram (s : State) (a v : Nat) : (s.setNum a v).dram = s.dram := rfl
@[simp] theorem State.setNum_cmp (s : State) (a v : Nat) : (s.setNum a v).cmp = s.cmp := rfl
@[simp] theorem State.setNum_ing (s : State) (a v : Nat) : (s.setNum a v).ing = s.ing := rfl
@[simp] theorem State.setNum_cdc (s : State) (a v : Nat) : (s.setNum a v).cdc = s.cdc := rfl
@[simp] theorem State.setNum_ccx (s : State) (a v : Nat) : (s.setNum a v).ccx = s.ccx := rfl
@[simp] theorem State.setNum_chn (s : State) (a v : Nat) : (s.setNum a v).chn = s.chn := rfl
@[simp] theorem State.setNum_red (s : State) (a v : Nat) : (s.setNum a v).red = s.red := rfl
@[simp] theorem State.setNum_tim (s : State) (a v : Nat) : (s.setNum a v).tim = s.tim := rfl
@[simp] theorem State.setNum_flk (s : State) (a v : Nat) : (s.setNum a v).flk = s.flk := rfl
@[simp] theorem State.setNum_drc (s : State) (a v : Nat) : (s.setNum a v).drc = s.drc := rfl
@[simp] theorem State.setNum_thm (s : State) (a v : Nat) : (s.setNum a v).thm = s.thm := rfl
@[simp] theorem State.setNum_emc (s : State) (a v : Nat) : (s.setNum a v).emc = s.emc := rfl
@[simp] theorem State.setNum_lmp (s : State) (a v : Nat) : (s.setNum a v).lmp = s.lmp := rfl
@[simp] theorem State.setNum_cal (s : State) (a v : Nat) : (s.setNum a v).cal = s.cal := rfl
@[simp] theorem State.setNum_tru (s : State) (a v : Nat) : (s.setNum a v).tru = s.tru := rfl
@[simp] theorem State.setNum_umb (s : State) (a v : Nat) : (s.setNum a v).umb = s.umb := rfl
@[simp] theorem State.setNum_met (s : State) (a v : Nat) : (s.setNum a v).met = s.met := rfl
@[simp] theorem State.setNum_dbg (s : State) (a v : Nat) : (s.setNum a v).dbg = s.dbg := rfl

/-! ### State.put -/

@[simp] theorem State.put_pending (s : State) (a : Nat) (f : Field) (v : Nat) : (s.put a f v).pending = s.pending := rfl
@[simp] theorem State.put_now (s : State) (a : Nat) (f : Field) (v : Nat) : (s.put a f v).now = s.now := rfl
@[simp] theorem State.put_ref (s : State) (a : Nat) (f : Field) (v : Nat) : (s.put a f v).ref = s.ref := rfl
@[simp] theorem State.put_fresh (s : State) (a : Nat) (f : Field) (v : Nat) : (s.put a f v).fresh = s.fresh := rfl
@[simp] theorem State.put_out (s : State) (a : Nat) (f : Field) (v : Nat) : (s.put a f v).out = s.out := rfl
@[simp] theorem State.put_gen (s : State) (a : Nat) (f : Field) (v : Nat) : (s.put a f v).gen = s.gen := rfl
@[simp] theorem State.put_sch (s : State) (a : Nat) (f : Field) (v : Nat) : (s.put a f v).sch = s.sch := rfl
@[simp] theorem State.put_cmd (s : State) (a : Nat) (f : Field) (v : Nat) : (s.put a f v).cmd = s.cmd := rfl
@[simp] theorem State.put_dram (s : State) (a : Nat) (f : Field) (v : Nat) : (s.put a f v).dram = s.dram := rfl
@[simp] theorem State.put_cmp (s : State) (a : Nat) (f : Field) (v : Nat) : (s.put a f v).cmp = s.cmp := rfl
@[simp] theorem State.put_ing (s : State) (a : Nat) (f : Field) (v : Nat) : (s.put a f v).ing = s.ing := rfl
@[simp] theorem State.put_cdc (s : State) (a : Nat) (f : Field) (v : Nat) : (s.put a f v).cdc = s.cdc := rfl
@[simp] theorem State.put_ccx (s : State) (a : Nat) (f : Field) (v : Nat) : (s.put a f v).ccx = s.ccx := rfl
@[simp] theorem State.put_chn (s : State) (a : Nat) (f : Field) (v : Nat) : (s.put a f v).chn = s.chn := rfl
@[simp] theorem State.put_red (s : State) (a : Nat) (f : Field) (v : Nat) : (s.put a f v).red = s.red := rfl
@[simp] theorem State.put_tim (s : State) (a : Nat) (f : Field) (v : Nat) : (s.put a f v).tim = s.tim := rfl
@[simp] theorem State.put_flk (s : State) (a : Nat) (f : Field) (v : Nat) : (s.put a f v).flk = s.flk := rfl
@[simp] theorem State.put_drc (s : State) (a : Nat) (f : Field) (v : Nat) : (s.put a f v).drc = s.drc := rfl
@[simp] theorem State.put_thm (s : State) (a : Nat) (f : Field) (v : Nat) : (s.put a f v).thm = s.thm := rfl
@[simp] theorem State.put_emc (s : State) (a : Nat) (f : Field) (v : Nat) : (s.put a f v).emc = s.emc := rfl
@[simp] theorem State.put_lmp (s : State) (a : Nat) (f : Field) (v : Nat) : (s.put a f v).lmp = s.lmp := rfl
@[simp] theorem State.put_cal (s : State) (a : Nat) (f : Field) (v : Nat) : (s.put a f v).cal = s.cal := rfl
@[simp] theorem State.put_tru (s : State) (a : Nat) (f : Field) (v : Nat) : (s.put a f v).tru = s.tru := rfl
@[simp] theorem State.put_umb (s : State) (a : Nat) (f : Field) (v : Nat) : (s.put a f v).umb = s.umb := rfl
@[simp] theorem State.put_met (s : State) (a : Nat) (f : Field) (v : Nat) : (s.put a f v).met = s.met := rfl
@[simp] theorem State.put_dbg (s : State) (a : Nat) (f : Field) (v : Nat) : (s.put a f v).dbg = s.dbg := rfl

/-! ### State.putBit -/

@[simp] theorem State.putBit_pending (s : State) (a : Nat) (f : Field) (b : Bool) : (s.putBit a f b).pending = s.pending := rfl
@[simp] theorem State.putBit_now (s : State) (a : Nat) (f : Field) (b : Bool) : (s.putBit a f b).now = s.now := rfl
@[simp] theorem State.putBit_ref (s : State) (a : Nat) (f : Field) (b : Bool) : (s.putBit a f b).ref = s.ref := rfl
@[simp] theorem State.putBit_fresh (s : State) (a : Nat) (f : Field) (b : Bool) : (s.putBit a f b).fresh = s.fresh := rfl
@[simp] theorem State.putBit_out (s : State) (a : Nat) (f : Field) (b : Bool) : (s.putBit a f b).out = s.out := rfl
@[simp] theorem State.putBit_gen (s : State) (a : Nat) (f : Field) (b : Bool) : (s.putBit a f b).gen = s.gen := rfl
@[simp] theorem State.putBit_sch (s : State) (a : Nat) (f : Field) (b : Bool) : (s.putBit a f b).sch = s.sch := rfl
@[simp] theorem State.putBit_cmd (s : State) (a : Nat) (f : Field) (b : Bool) : (s.putBit a f b).cmd = s.cmd := rfl
@[simp] theorem State.putBit_dram (s : State) (a : Nat) (f : Field) (b : Bool) : (s.putBit a f b).dram = s.dram := rfl
@[simp] theorem State.putBit_cmp (s : State) (a : Nat) (f : Field) (b : Bool) : (s.putBit a f b).cmp = s.cmp := rfl
@[simp] theorem State.putBit_ing (s : State) (a : Nat) (f : Field) (b : Bool) : (s.putBit a f b).ing = s.ing := rfl
@[simp] theorem State.putBit_cdc (s : State) (a : Nat) (f : Field) (b : Bool) : (s.putBit a f b).cdc = s.cdc := rfl
@[simp] theorem State.putBit_ccx (s : State) (a : Nat) (f : Field) (b : Bool) : (s.putBit a f b).ccx = s.ccx := rfl
@[simp] theorem State.putBit_chn (s : State) (a : Nat) (f : Field) (b : Bool) : (s.putBit a f b).chn = s.chn := rfl
@[simp] theorem State.putBit_red (s : State) (a : Nat) (f : Field) (b : Bool) : (s.putBit a f b).red = s.red := rfl
@[simp] theorem State.putBit_tim (s : State) (a : Nat) (f : Field) (b : Bool) : (s.putBit a f b).tim = s.tim := rfl
@[simp] theorem State.putBit_flk (s : State) (a : Nat) (f : Field) (b : Bool) : (s.putBit a f b).flk = s.flk := rfl
@[simp] theorem State.putBit_drc (s : State) (a : Nat) (f : Field) (b : Bool) : (s.putBit a f b).drc = s.drc := rfl
@[simp] theorem State.putBit_thm (s : State) (a : Nat) (f : Field) (b : Bool) : (s.putBit a f b).thm = s.thm := rfl
@[simp] theorem State.putBit_emc (s : State) (a : Nat) (f : Field) (b : Bool) : (s.putBit a f b).emc = s.emc := rfl
@[simp] theorem State.putBit_lmp (s : State) (a : Nat) (f : Field) (b : Bool) : (s.putBit a f b).lmp = s.lmp := rfl
@[simp] theorem State.putBit_cal (s : State) (a : Nat) (f : Field) (b : Bool) : (s.putBit a f b).cal = s.cal := rfl
@[simp] theorem State.putBit_tru (s : State) (a : Nat) (f : Field) (b : Bool) : (s.putBit a f b).tru = s.tru := rfl
@[simp] theorem State.putBit_umb (s : State) (a : Nat) (f : Field) (b : Bool) : (s.putBit a f b).umb = s.umb := rfl
@[simp] theorem State.putBit_met (s : State) (a : Nat) (f : Field) (b : Bool) : (s.putBit a f b).met = s.met := rfl
@[simp] theorem State.putBit_dbg (s : State) (a : Nat) (f : Field) (b : Bool) : (s.putBit a f b).dbg = s.dbg := rfl

/-! ### State.bump -/

@[simp] theorem State.bump_pending (s : State) (a k : Nat) : (s.bump a k).pending = s.pending := rfl
@[simp] theorem State.bump_now (s : State) (a k : Nat) : (s.bump a k).now = s.now := rfl
@[simp] theorem State.bump_ref (s : State) (a k : Nat) : (s.bump a k).ref = s.ref := rfl
@[simp] theorem State.bump_fresh (s : State) (a k : Nat) : (s.bump a k).fresh = s.fresh := rfl
@[simp] theorem State.bump_out (s : State) (a k : Nat) : (s.bump a k).out = s.out := rfl
@[simp] theorem State.bump_gen (s : State) (a k : Nat) : (s.bump a k).gen = s.gen := rfl
@[simp] theorem State.bump_sch (s : State) (a k : Nat) : (s.bump a k).sch = s.sch := rfl
@[simp] theorem State.bump_cmd (s : State) (a k : Nat) : (s.bump a k).cmd = s.cmd := rfl
@[simp] theorem State.bump_dram (s : State) (a k : Nat) : (s.bump a k).dram = s.dram := rfl
@[simp] theorem State.bump_cmp (s : State) (a k : Nat) : (s.bump a k).cmp = s.cmp := rfl
@[simp] theorem State.bump_ing (s : State) (a k : Nat) : (s.bump a k).ing = s.ing := rfl
@[simp] theorem State.bump_cdc (s : State) (a k : Nat) : (s.bump a k).cdc = s.cdc := rfl
@[simp] theorem State.bump_ccx (s : State) (a k : Nat) : (s.bump a k).ccx = s.ccx := rfl
@[simp] theorem State.bump_chn (s : State) (a k : Nat) : (s.bump a k).chn = s.chn := rfl
@[simp] theorem State.bump_red (s : State) (a k : Nat) : (s.bump a k).red = s.red := rfl
@[simp] theorem State.bump_tim (s : State) (a k : Nat) : (s.bump a k).tim = s.tim := rfl
@[simp] theorem State.bump_flk (s : State) (a k : Nat) : (s.bump a k).flk = s.flk := rfl
@[simp] theorem State.bump_drc (s : State) (a k : Nat) : (s.bump a k).drc = s.drc := rfl
@[simp] theorem State.bump_thm (s : State) (a k : Nat) : (s.bump a k).thm = s.thm := rfl
@[simp] theorem State.bump_emc (s : State) (a k : Nat) : (s.bump a k).emc = s.emc := rfl
@[simp] theorem State.bump_lmp (s : State) (a k : Nat) : (s.bump a k).lmp = s.lmp := rfl
@[simp] theorem State.bump_cal (s : State) (a k : Nat) : (s.bump a k).cal = s.cal := rfl
@[simp] theorem State.bump_tru (s : State) (a k : Nat) : (s.bump a k).tru = s.tru := rfl
@[simp] theorem State.bump_umb (s : State) (a k : Nat) : (s.bump a k).umb = s.umb := rfl
@[simp] theorem State.bump_met (s : State) (a k : Nat) : (s.bump a k).met = s.met := rfl
@[simp] theorem State.bump_dbg (s : State) (a k : Nat) : (s.bump a k).dbg = s.dbg := rfl

/-! ### State.resetRegs -/

@[simp] theorem State.resetRegs_pending (s : State) (p : Nat → Bool) : (s.resetRegs p).pending = s.pending := rfl
@[simp] theorem State.resetRegs_now (s : State) (p : Nat → Bool) : (s.resetRegs p).now = s.now := rfl
@[simp] theorem State.resetRegs_ref (s : State) (p : Nat → Bool) : (s.resetRegs p).ref = s.ref := rfl
@[simp] theorem State.resetRegs_fresh (s : State) (p : Nat → Bool) : (s.resetRegs p).fresh = s.fresh := rfl
@[simp] theorem State.resetRegs_out (s : State) (p : Nat → Bool) : (s.resetRegs p).out = s.out := rfl
@[simp] theorem State.resetRegs_gen (s : State) (p : Nat → Bool) : (s.resetRegs p).gen = s.gen := rfl
@[simp] theorem State.resetRegs_sch (s : State) (p : Nat → Bool) : (s.resetRegs p).sch = s.sch := rfl
@[simp] theorem State.resetRegs_cmd (s : State) (p : Nat → Bool) : (s.resetRegs p).cmd = s.cmd := rfl
@[simp] theorem State.resetRegs_dram (s : State) (p : Nat → Bool) : (s.resetRegs p).dram = s.dram := rfl
@[simp] theorem State.resetRegs_cmp (s : State) (p : Nat → Bool) : (s.resetRegs p).cmp = s.cmp := rfl
@[simp] theorem State.resetRegs_ing (s : State) (p : Nat → Bool) : (s.resetRegs p).ing = s.ing := rfl
@[simp] theorem State.resetRegs_cdc (s : State) (p : Nat → Bool) : (s.resetRegs p).cdc = s.cdc := rfl
@[simp] theorem State.resetRegs_ccx (s : State) (p : Nat → Bool) : (s.resetRegs p).ccx = s.ccx := rfl
@[simp] theorem State.resetRegs_chn (s : State) (p : Nat → Bool) : (s.resetRegs p).chn = s.chn := rfl
@[simp] theorem State.resetRegs_red (s : State) (p : Nat → Bool) : (s.resetRegs p).red = s.red := rfl
@[simp] theorem State.resetRegs_tim (s : State) (p : Nat → Bool) : (s.resetRegs p).tim = s.tim := rfl
@[simp] theorem State.resetRegs_flk (s : State) (p : Nat → Bool) : (s.resetRegs p).flk = s.flk := rfl
@[simp] theorem State.resetRegs_drc (s : State) (p : Nat → Bool) : (s.resetRegs p).drc = s.drc := rfl
@[simp] theorem State.resetRegs_thm (s : State) (p : Nat → Bool) : (s.resetRegs p).thm = s.thm := rfl
@[simp] theorem State.resetRegs_emc (s : State) (p : Nat → Bool) : (s.resetRegs p).emc = s.emc := rfl
@[simp] theorem State.resetRegs_lmp (s : State) (p : Nat → Bool) : (s.resetRegs p).lmp = s.lmp := rfl
@[simp] theorem State.resetRegs_cal (s : State) (p : Nat → Bool) : (s.resetRegs p).cal = s.cal := rfl
@[simp] theorem State.resetRegs_tru (s : State) (p : Nat → Bool) : (s.resetRegs p).tru = s.tru := rfl
@[simp] theorem State.resetRegs_umb (s : State) (p : Nat → Bool) : (s.resetRegs p).umb = s.umb := rfl
@[simp] theorem State.resetRegs_met (s : State) (p : Nat → Bool) : (s.resetRegs p).met = s.met := rfl
@[simp] theorem State.resetRegs_dbg (s : State) (p : Nat → Bool) : (s.resetRegs p).dbg = s.dbg := rfl

/-! ### State.tick -/

@[simp] theorem State.tick_pending (s : State) (t : Nat) : (s.tick t).pending = s.pending := rfl
@[simp] theorem State.tick_fresh (s : State) (t : Nat) : (s.tick t).fresh = s.fresh := rfl
@[simp] theorem State.tick_out (s : State) (t : Nat) : (s.tick t).out = s.out := rfl
@[simp] theorem State.tick_regs (s : State) (t : Nat) : (s.tick t).regs = s.regs := rfl
@[simp] theorem State.tick_gen (s : State) (t : Nat) : (s.tick t).gen = s.gen := rfl
@[simp] theorem State.tick_sch (s : State) (t : Nat) : (s.tick t).sch = s.sch := rfl
@[simp] theorem State.tick_cmd (s : State) (t : Nat) : (s.tick t).cmd = s.cmd := rfl
@[simp] theorem State.tick_dram (s : State) (t : Nat) : (s.tick t).dram = s.dram := rfl
@[simp] theorem State.tick_cmp (s : State) (t : Nat) : (s.tick t).cmp = s.cmp := rfl
@[simp] theorem State.tick_ing (s : State) (t : Nat) : (s.tick t).ing = s.ing := rfl
@[simp] theorem State.tick_cdc (s : State) (t : Nat) : (s.tick t).cdc = s.cdc := rfl
@[simp] theorem State.tick_ccx (s : State) (t : Nat) : (s.tick t).ccx = s.ccx := rfl
@[simp] theorem State.tick_chn (s : State) (t : Nat) : (s.tick t).chn = s.chn := rfl
@[simp] theorem State.tick_red (s : State) (t : Nat) : (s.tick t).red = s.red := rfl
@[simp] theorem State.tick_tim (s : State) (t : Nat) : (s.tick t).tim = s.tim := rfl
@[simp] theorem State.tick_flk (s : State) (t : Nat) : (s.tick t).flk = s.flk := rfl
@[simp] theorem State.tick_drc (s : State) (t : Nat) : (s.tick t).drc = s.drc := rfl
@[simp] theorem State.tick_thm (s : State) (t : Nat) : (s.tick t).thm = s.thm := rfl
@[simp] theorem State.tick_emc (s : State) (t : Nat) : (s.tick t).emc = s.emc := rfl
@[simp] theorem State.tick_lmp (s : State) (t : Nat) : (s.tick t).lmp = s.lmp := rfl
@[simp] theorem State.tick_cal (s : State) (t : Nat) : (s.tick t).cal = s.cal := rfl
@[simp] theorem State.tick_tru (s : State) (t : Nat) : (s.tick t).tru = s.tru := rfl
@[simp] theorem State.tick_umb (s : State) (t : Nat) : (s.tick t).umb = s.umb := rfl
@[simp] theorem State.tick_met (s : State) (t : Nat) : (s.tick t).met = s.met := rfl
@[simp] theorem State.tick_dbg (s : State) (t : Nat) : (s.tick t).dbg = s.dbg := rfl

/-! ### State.emit -/

@[simp] theorem State.emit_pending (s : State) (o : Output) : (s.emit o).pending = s.pending := rfl
@[simp] theorem State.emit_now (s : State) (o : Output) : (s.emit o).now = s.now := rfl
@[simp] theorem State.emit_ref (s : State) (o : Output) : (s.emit o).ref = s.ref := rfl
@[simp] theorem State.emit_fresh (s : State) (o : Output) : (s.emit o).fresh = s.fresh := rfl
@[simp] theorem State.emit_regs (s : State) (o : Output) : (s.emit o).regs = s.regs := rfl
@[simp] theorem State.emit_gen (s : State) (o : Output) : (s.emit o).gen = s.gen := rfl
@[simp] theorem State.emit_sch (s : State) (o : Output) : (s.emit o).sch = s.sch := rfl
@[simp] theorem State.emit_cmd (s : State) (o : Output) : (s.emit o).cmd = s.cmd := rfl
@[simp] theorem State.emit_dram (s : State) (o : Output) : (s.emit o).dram = s.dram := rfl
@[simp] theorem State.emit_cmp (s : State) (o : Output) : (s.emit o).cmp = s.cmp := rfl
@[simp] theorem State.emit_ing (s : State) (o : Output) : (s.emit o).ing = s.ing := rfl
@[simp] theorem State.emit_cdc (s : State) (o : Output) : (s.emit o).cdc = s.cdc := rfl
@[simp] theorem State.emit_ccx (s : State) (o : Output) : (s.emit o).ccx = s.ccx := rfl
@[simp] theorem State.emit_chn (s : State) (o : Output) : (s.emit o).chn = s.chn := rfl
@[simp] theorem State.emit_red (s : State) (o : Output) : (s.emit o).red = s.red := rfl
@[simp] theorem State.emit_tim (s : State) (o : Output) : (s.emit o).tim = s.tim := rfl
@[simp] theorem State.emit_flk (s : State) (o : Output) : (s.emit o).flk = s.flk := rfl
@[simp] theorem State.emit_drc (s : State) (o : Output) : (s.emit o).drc = s.drc := rfl
@[simp] theorem State.emit_thm (s : State) (o : Output) : (s.emit o).thm = s.thm := rfl
@[simp] theorem State.emit_emc (s : State) (o : Output) : (s.emit o).emc = s.emc := rfl
@[simp] theorem State.emit_lmp (s : State) (o : Output) : (s.emit o).lmp = s.lmp := rfl
@[simp] theorem State.emit_cal (s : State) (o : Output) : (s.emit o).cal = s.cal := rfl
@[simp] theorem State.emit_tru (s : State) (o : Output) : (s.emit o).tru = s.tru := rfl
@[simp] theorem State.emit_umb (s : State) (o : Output) : (s.emit o).umb = s.umb := rfl
@[simp] theorem State.emit_met (s : State) (o : Output) : (s.emit o).met = s.met := rfl
@[simp] theorem State.emit_dbg (s : State) (o : Output) : (s.emit o).dbg = s.dbg := rfl

/-! ### State.dramWrite -/

@[simp] theorem State.dramWrite_pending (s : State) (a : Nat) (bs : List Byte) : (s.dramWrite a bs).pending = s.pending := rfl
@[simp] theorem State.dramWrite_now (s : State) (a : Nat) (bs : List Byte) : (s.dramWrite a bs).now = s.now := rfl
@[simp] theorem State.dramWrite_ref (s : State) (a : Nat) (bs : List Byte) : (s.dramWrite a bs).ref = s.ref := rfl
@[simp] theorem State.dramWrite_fresh (s : State) (a : Nat) (bs : List Byte) : (s.dramWrite a bs).fresh = s.fresh := rfl
@[simp] theorem State.dramWrite_out (s : State) (a : Nat) (bs : List Byte) : (s.dramWrite a bs).out = s.out := rfl
@[simp] theorem State.dramWrite_regs (s : State) (a : Nat) (bs : List Byte) : (s.dramWrite a bs).regs = s.regs := rfl
@[simp] theorem State.dramWrite_gen (s : State) (a : Nat) (bs : List Byte) : (s.dramWrite a bs).gen = s.gen := rfl
@[simp] theorem State.dramWrite_sch (s : State) (a : Nat) (bs : List Byte) : (s.dramWrite a bs).sch = s.sch := rfl
@[simp] theorem State.dramWrite_cmd (s : State) (a : Nat) (bs : List Byte) : (s.dramWrite a bs).cmd = s.cmd := rfl
@[simp] theorem State.dramWrite_cmp (s : State) (a : Nat) (bs : List Byte) : (s.dramWrite a bs).cmp = s.cmp := rfl
@[simp] theorem State.dramWrite_ing (s : State) (a : Nat) (bs : List Byte) : (s.dramWrite a bs).ing = s.ing := rfl
@[simp] theorem State.dramWrite_cdc (s : State) (a : Nat) (bs : List Byte) : (s.dramWrite a bs).cdc = s.cdc := rfl
@[simp] theorem State.dramWrite_ccx (s : State) (a : Nat) (bs : List Byte) : (s.dramWrite a bs).ccx = s.ccx := rfl
@[simp] theorem State.dramWrite_chn (s : State) (a : Nat) (bs : List Byte) : (s.dramWrite a bs).chn = s.chn := rfl
@[simp] theorem State.dramWrite_red (s : State) (a : Nat) (bs : List Byte) : (s.dramWrite a bs).red = s.red := rfl
@[simp] theorem State.dramWrite_tim (s : State) (a : Nat) (bs : List Byte) : (s.dramWrite a bs).tim = s.tim := rfl
@[simp] theorem State.dramWrite_flk (s : State) (a : Nat) (bs : List Byte) : (s.dramWrite a bs).flk = s.flk := rfl
@[simp] theorem State.dramWrite_drc (s : State) (a : Nat) (bs : List Byte) : (s.dramWrite a bs).drc = s.drc := rfl
@[simp] theorem State.dramWrite_thm (s : State) (a : Nat) (bs : List Byte) : (s.dramWrite a bs).thm = s.thm := rfl
@[simp] theorem State.dramWrite_emc (s : State) (a : Nat) (bs : List Byte) : (s.dramWrite a bs).emc = s.emc := rfl
@[simp] theorem State.dramWrite_lmp (s : State) (a : Nat) (bs : List Byte) : (s.dramWrite a bs).lmp = s.lmp := rfl
@[simp] theorem State.dramWrite_cal (s : State) (a : Nat) (bs : List Byte) : (s.dramWrite a bs).cal = s.cal := rfl
@[simp] theorem State.dramWrite_tru (s : State) (a : Nat) (bs : List Byte) : (s.dramWrite a bs).tru = s.tru := rfl
@[simp] theorem State.dramWrite_umb (s : State) (a : Nat) (bs : List Byte) : (s.dramWrite a bs).umb = s.umb := rfl
@[simp] theorem State.dramWrite_met (s : State) (a : Nat) (bs : List Byte) : (s.dramWrite a bs).met = s.met := rfl
@[simp] theorem State.dramWrite_dbg (s : State) (a : Nat) (bs : List Byte) : (s.dramWrite a bs).dbg = s.dbg := rfl

/-! ### State.takeFree -/

@[simp] theorem State.takeFree_pending (s : State) : s.takeFree.2.pending = s.pending := rfl
@[simp] theorem State.takeFree_now (s : State) : s.takeFree.2.now = s.now := rfl
@[simp] theorem State.takeFree_ref (s : State) : s.takeFree.2.ref = s.ref := rfl
@[simp] theorem State.takeFree_out (s : State) : s.takeFree.2.out = s.out := rfl
@[simp] theorem State.takeFree_regs (s : State) : s.takeFree.2.regs = s.regs := rfl
@[simp] theorem State.takeFree_gen (s : State) : s.takeFree.2.gen = s.gen := rfl
@[simp] theorem State.takeFree_sch (s : State) : s.takeFree.2.sch = s.sch := rfl
@[simp] theorem State.takeFree_cmd (s : State) : s.takeFree.2.cmd = s.cmd := rfl
@[simp] theorem State.takeFree_dram (s : State) : s.takeFree.2.dram = s.dram := rfl
@[simp] theorem State.takeFree_cmp (s : State) : s.takeFree.2.cmp = s.cmp := rfl
@[simp] theorem State.takeFree_ing (s : State) : s.takeFree.2.ing = s.ing := rfl
@[simp] theorem State.takeFree_cdc (s : State) : s.takeFree.2.cdc = s.cdc := rfl
@[simp] theorem State.takeFree_ccx (s : State) : s.takeFree.2.ccx = s.ccx := rfl
@[simp] theorem State.takeFree_chn (s : State) : s.takeFree.2.chn = s.chn := rfl
@[simp] theorem State.takeFree_red (s : State) : s.takeFree.2.red = s.red := rfl
@[simp] theorem State.takeFree_tim (s : State) : s.takeFree.2.tim = s.tim := rfl
@[simp] theorem State.takeFree_flk (s : State) : s.takeFree.2.flk = s.flk := rfl
@[simp] theorem State.takeFree_drc (s : State) : s.takeFree.2.drc = s.drc := rfl
@[simp] theorem State.takeFree_thm (s : State) : s.takeFree.2.thm = s.thm := rfl
@[simp] theorem State.takeFree_emc (s : State) : s.takeFree.2.emc = s.emc := rfl
@[simp] theorem State.takeFree_lmp (s : State) : s.takeFree.2.lmp = s.lmp := rfl
@[simp] theorem State.takeFree_cal (s : State) : s.takeFree.2.cal = s.cal := rfl
@[simp] theorem State.takeFree_tru (s : State) : s.takeFree.2.tru = s.tru := rfl
@[simp] theorem State.takeFree_umb (s : State) : s.takeFree.2.umb = s.umb := rfl
@[simp] theorem State.takeFree_met (s : State) : s.takeFree.2.met = s.met := rfl
@[simp] theorem State.takeFree_dbg (s : State) : s.takeFree.2.dbg = s.dbg := rfl

/-! ### State.raise -/

@[simp] theorem State.raise_pending (s : State) (a v : Nat) : (s.raise a v).pending = s.pending := by unfold State.raise; split <;> rfl
@[simp] theorem State.raise_now (s : State) (a v : Nat) : (s.raise a v).now = s.now := by unfold State.raise; split <;> rfl
@[simp] theorem State.raise_ref (s : State) (a v : Nat) : (s.raise a v).ref = s.ref := by unfold State.raise; split <;> rfl
@[simp] theorem State.raise_fresh (s : State) (a v : Nat) : (s.raise a v).fresh = s.fresh := by unfold State.raise; split <;> rfl
@[simp] theorem State.raise_out (s : State) (a v : Nat) : (s.raise a v).out = s.out := by unfold State.raise; split <;> rfl
@[simp] theorem State.raise_gen (s : State) (a v : Nat) : (s.raise a v).gen = s.gen := by unfold State.raise; split <;> rfl
@[simp] theorem State.raise_sch (s : State) (a v : Nat) : (s.raise a v).sch = s.sch := by unfold State.raise; split <;> rfl
@[simp] theorem State.raise_cmd (s : State) (a v : Nat) : (s.raise a v).cmd = s.cmd := by unfold State.raise; split <;> rfl
@[simp] theorem State.raise_dram (s : State) (a v : Nat) : (s.raise a v).dram = s.dram := by unfold State.raise; split <;> rfl
@[simp] theorem State.raise_cmp (s : State) (a v : Nat) : (s.raise a v).cmp = s.cmp := by unfold State.raise; split <;> rfl
@[simp] theorem State.raise_ing (s : State) (a v : Nat) : (s.raise a v).ing = s.ing := by unfold State.raise; split <;> rfl
@[simp] theorem State.raise_cdc (s : State) (a v : Nat) : (s.raise a v).cdc = s.cdc := by unfold State.raise; split <;> rfl
@[simp] theorem State.raise_ccx (s : State) (a v : Nat) : (s.raise a v).ccx = s.ccx := by unfold State.raise; split <;> rfl
@[simp] theorem State.raise_chn (s : State) (a v : Nat) : (s.raise a v).chn = s.chn := by unfold State.raise; split <;> rfl
@[simp] theorem State.raise_red (s : State) (a v : Nat) : (s.raise a v).red = s.red := by unfold State.raise; split <;> rfl
@[simp] theorem State.raise_tim (s : State) (a v : Nat) : (s.raise a v).tim = s.tim := by unfold State.raise; split <;> rfl
@[simp] theorem State.raise_flk (s : State) (a v : Nat) : (s.raise a v).flk = s.flk := by unfold State.raise; split <;> rfl
@[simp] theorem State.raise_drc (s : State) (a v : Nat) : (s.raise a v).drc = s.drc := by unfold State.raise; split <;> rfl
@[simp] theorem State.raise_thm (s : State) (a v : Nat) : (s.raise a v).thm = s.thm := by unfold State.raise; split <;> rfl
@[simp] theorem State.raise_emc (s : State) (a v : Nat) : (s.raise a v).emc = s.emc := by unfold State.raise; split <;> rfl
@[simp] theorem State.raise_lmp (s : State) (a v : Nat) : (s.raise a v).lmp = s.lmp := by unfold State.raise; split <;> rfl
@[simp] theorem State.raise_cal (s : State) (a v : Nat) : (s.raise a v).cal = s.cal := by unfold State.raise; split <;> rfl
@[simp] theorem State.raise_tru (s : State) (a v : Nat) : (s.raise a v).tru = s.tru := by unfold State.raise; split <;> rfl
@[simp] theorem State.raise_umb (s : State) (a v : Nat) : (s.raise a v).umb = s.umb := by unfold State.raise; split <;> rfl
@[simp] theorem State.raise_met (s : State) (a v : Nat) : (s.raise a v).met = s.met := by unfold State.raise; split <;> rfl
@[simp] theorem State.raise_dbg (s : State) (a v : Nat) : (s.raise a v).dbg = s.dbg := by unfold State.raise; split <;> rfl

/-! ### State.event -/

@[simp] theorem State.event_pending (s : State) (n : Nat) : (s.event n).pending = s.pending := by unfold State.event; dsimp only; split <;> rfl
@[simp] theorem State.event_now (s : State) (n : Nat) : (s.event n).now = s.now := by unfold State.event; dsimp only; split <;> rfl
@[simp] theorem State.event_ref (s : State) (n : Nat) : (s.event n).ref = s.ref := by unfold State.event; dsimp only; split <;> rfl
@[simp] theorem State.event_fresh (s : State) (n : Nat) : (s.event n).fresh = s.fresh := by unfold State.event; dsimp only; split <;> rfl
@[simp] theorem State.event_gen (s : State) (n : Nat) : (s.event n).gen = s.gen := by unfold State.event; dsimp only; split <;> rfl
@[simp] theorem State.event_sch (s : State) (n : Nat) : (s.event n).sch = s.sch := by unfold State.event; dsimp only; split <;> rfl
@[simp] theorem State.event_cmd (s : State) (n : Nat) : (s.event n).cmd = s.cmd := by unfold State.event; dsimp only; split <;> rfl
@[simp] theorem State.event_dram (s : State) (n : Nat) : (s.event n).dram = s.dram := by unfold State.event; dsimp only; split <;> rfl
@[simp] theorem State.event_cmp (s : State) (n : Nat) : (s.event n).cmp = s.cmp := by unfold State.event; dsimp only; split <;> rfl
@[simp] theorem State.event_ing (s : State) (n : Nat) : (s.event n).ing = s.ing := by unfold State.event; dsimp only; split <;> rfl
@[simp] theorem State.event_cdc (s : State) (n : Nat) : (s.event n).cdc = s.cdc := by unfold State.event; dsimp only; split <;> rfl
@[simp] theorem State.event_ccx (s : State) (n : Nat) : (s.event n).ccx = s.ccx := by unfold State.event; dsimp only; split <;> rfl
@[simp] theorem State.event_chn (s : State) (n : Nat) : (s.event n).chn = s.chn := by unfold State.event; dsimp only; split <;> rfl
@[simp] theorem State.event_red (s : State) (n : Nat) : (s.event n).red = s.red := by unfold State.event; dsimp only; split <;> rfl
@[simp] theorem State.event_tim (s : State) (n : Nat) : (s.event n).tim = s.tim := by unfold State.event; dsimp only; split <;> rfl
@[simp] theorem State.event_flk (s : State) (n : Nat) : (s.event n).flk = s.flk := by unfold State.event; dsimp only; split <;> rfl
@[simp] theorem State.event_drc (s : State) (n : Nat) : (s.event n).drc = s.drc := by unfold State.event; dsimp only; split <;> rfl
@[simp] theorem State.event_thm (s : State) (n : Nat) : (s.event n).thm = s.thm := by unfold State.event; dsimp only; split <;> rfl
@[simp] theorem State.event_emc (s : State) (n : Nat) : (s.event n).emc = s.emc := by unfold State.event; dsimp only; split <;> rfl
@[simp] theorem State.event_lmp (s : State) (n : Nat) : (s.event n).lmp = s.lmp := by unfold State.event; dsimp only; split <;> rfl
@[simp] theorem State.event_cal (s : State) (n : Nat) : (s.event n).cal = s.cal := by unfold State.event; dsimp only; split <;> rfl
@[simp] theorem State.event_tru (s : State) (n : Nat) : (s.event n).tru = s.tru := by unfold State.event; dsimp only; split <;> rfl
@[simp] theorem State.event_umb (s : State) (n : Nat) : (s.event n).umb = s.umb := by unfold State.event; dsimp only; split <;> rfl
@[simp] theorem State.event_met (s : State) (n : Nat) : (s.event n).met = s.met := by unfold State.event; dsimp only; split <;> rfl
@[simp] theorem State.event_dbg (s : State) (n : Nat) : (s.event n).dbg = s.dbg := by unfold State.event; dsimp only; split <;> rfl

/-! ### State.restartHoldoff -/

@[simp] theorem State.restartHoldoff_pending (s : State) : (s.restartHoldoff ).pending = s.pending := by unfold State.restartHoldoff; split <;> rfl
@[simp] theorem State.restartHoldoff_now (s : State) : (s.restartHoldoff ).now = s.now := by unfold State.restartHoldoff; split <;> rfl
@[simp] theorem State.restartHoldoff_ref (s : State) : (s.restartHoldoff ).ref = s.ref := by unfold State.restartHoldoff; split <;> rfl
@[simp] theorem State.restartHoldoff_fresh (s : State) : (s.restartHoldoff ).fresh = s.fresh := by unfold State.restartHoldoff; split <;> rfl
@[simp] theorem State.restartHoldoff_out (s : State) : (s.restartHoldoff ).out = s.out := by unfold State.restartHoldoff; split <;> rfl
@[simp] theorem State.restartHoldoff_regs (s : State) : (s.restartHoldoff ).regs = s.regs := by unfold State.restartHoldoff; split <;> rfl
@[simp] theorem State.restartHoldoff_gen (s : State) : (s.restartHoldoff ).gen = s.gen := by unfold State.restartHoldoff; split <;> rfl
@[simp] theorem State.restartHoldoff_sch (s : State) : (s.restartHoldoff ).sch = s.sch := by unfold State.restartHoldoff; split <;> rfl
@[simp] theorem State.restartHoldoff_cmd (s : State) : (s.restartHoldoff ).cmd = s.cmd := by unfold State.restartHoldoff; split <;> rfl
@[simp] theorem State.restartHoldoff_dram (s : State) : (s.restartHoldoff ).dram = s.dram := by unfold State.restartHoldoff; split <;> rfl
@[simp] theorem State.restartHoldoff_cmp (s : State) : (s.restartHoldoff ).cmp = s.cmp := by unfold State.restartHoldoff; split <;> rfl
@[simp] theorem State.restartHoldoff_ing (s : State) : (s.restartHoldoff ).ing = s.ing := by unfold State.restartHoldoff; split <;> rfl
@[simp] theorem State.restartHoldoff_cdc (s : State) : (s.restartHoldoff ).cdc = s.cdc := by unfold State.restartHoldoff; split <;> rfl
@[simp] theorem State.restartHoldoff_ccx (s : State) : (s.restartHoldoff ).ccx = s.ccx := by unfold State.restartHoldoff; split <;> rfl
@[simp] theorem State.restartHoldoff_chn (s : State) : (s.restartHoldoff ).chn = s.chn := by unfold State.restartHoldoff; split <;> rfl
@[simp] theorem State.restartHoldoff_tim (s : State) : (s.restartHoldoff ).tim = s.tim := by unfold State.restartHoldoff; split <;> rfl
@[simp] theorem State.restartHoldoff_flk (s : State) : (s.restartHoldoff ).flk = s.flk := by unfold State.restartHoldoff; split <;> rfl
@[simp] theorem State.restartHoldoff_drc (s : State) : (s.restartHoldoff ).drc = s.drc := by unfold State.restartHoldoff; split <;> rfl
@[simp] theorem State.restartHoldoff_thm (s : State) : (s.restartHoldoff ).thm = s.thm := by unfold State.restartHoldoff; split <;> rfl
@[simp] theorem State.restartHoldoff_emc (s : State) : (s.restartHoldoff ).emc = s.emc := by unfold State.restartHoldoff; split <;> rfl
@[simp] theorem State.restartHoldoff_lmp (s : State) : (s.restartHoldoff ).lmp = s.lmp := by unfold State.restartHoldoff; split <;> rfl
@[simp] theorem State.restartHoldoff_cal (s : State) : (s.restartHoldoff ).cal = s.cal := by unfold State.restartHoldoff; split <;> rfl
@[simp] theorem State.restartHoldoff_tru (s : State) : (s.restartHoldoff ).tru = s.tru := by unfold State.restartHoldoff; split <;> rfl
@[simp] theorem State.restartHoldoff_umb (s : State) : (s.restartHoldoff ).umb = s.umb := by unfold State.restartHoldoff; split <;> rfl
@[simp] theorem State.restartHoldoff_met (s : State) : (s.restartHoldoff ).met = s.met := by unfold State.restartHoldoff; split <;> rfl
@[simp] theorem State.restartHoldoff_dbg (s : State) : (s.restartHoldoff ).dbg = s.dbg := by unfold State.restartHoldoff; split <;> rfl

/-! ### What each operation sets -/

@[simp] theorem State.setReg_regs (s : State) (a : Nat) (v : Word) : (s.setReg a v).regs = cellSet resetValue s.regs a v := rfl
@[simp] theorem State.resetRegs_regs (s : State) (p : Nat → Bool) : (s.resetRegs p).regs = cellErase p s.regs := rfl
@[simp] theorem State.tick_now (s : State) (t : Nat) : (s.tick t).now = Nat.max s.now t := rfl
@[simp] theorem State.tick_ref (s : State) (t : Nat) : (s.tick t).ref = s.ref + refSpan (s.tim.yf + s.tim.yp) (t - s.now) := rfl
@[simp] theorem State.emit_out (s : State) (o : Output) : (s.emit o).out = o :: s.out := rfl
@[simp] theorem State.takeFree_fresh (s : State) : s.takeFree.2.fresh = s.fresh + 1 := rfl

end Sys2Proof.Machine
end

