-- ==== Sys2Proof/WellFormed.lean ====
section
/-! DEFINITION. Which commands the spec's operand fields admit: every operand in the width or range its field has. A command
outside them is none that the hardware's paths can carry. -/
namespace Sys2Proof

/-- A path names an instance that exists: chain side 0 or 1 (Table 20.1). -/
def Path.wf : Path → Bool
  | .chain side => decide (side < 2)
  | _ => true

/-- A mailbox path: the side and the 8-bit TAG of the relaying sender (R131, R356). -/
def MboxPath.wf : MboxPath → Bool
  | .chain side msgTag => decide (side < 2) && decide (msgTag < 256)
  | _ => true

/-- A register write: a 32-bit address and four byte enables (R345). -/
def RegWrite.wf (w : RegWrite) : Bool := w.path.wf && decide (w.addr < 2 ^ 32) && decide (w.be < 16)

/-- A command: 16-bit LEN, 32-bit TAG, 24 reserved bytes, a body that LEN can count (Table 20.2). -/
def MboxCmd.wf (c : MboxCmd) : Bool :=
  c.path.wf && decide (c.len < 2 ^ 16) && decide (c.tag < 2 ^ 32) && decide (c.reserved.length = 24) &&
    decide (c.body.length < 2 ^ 16)

/-- REG_RD and REG_WR: SIDE, 8-bit TAG, 32-bit address (Table 7.5). -/
def RegMsg.wf (m : RegMsg) : Bool := decide (m.side < 2) && decide (m.tag < 256) && decide (m.addr < 2 ^ 32)

/-- REG_RSP: SIDE, tile address, 8-bit TAG, 8-bit STATUS (Table 7.5). -/
def RegRspMsg.wf (m : RegRspMsg) : Bool := decide (m.side < 2) && decide (m.ta < 256) && decide (m.tag < 256) && decide (m.status < 256)

/-- MBOX: SIDE and TAG (Table 7.5). -/
def MboxMsg.wf (m : MboxMsg) : Bool := decide (m.side < 2) && decide (m.tag < 256)

/-- MBOX_RSP: SIDE, tile address and TAG (Table 7.5). -/
def MboxRspMsg.wf (m : MboxRspMsg) : Bool := decide (m.side < 2) && decide (m.ta < 256) && decide (m.tag < 256)

/-- BULK: SIDE and TAG (Table 7.5). -/
def BulkMsg.wf (m : BulkMsg) : Bool := decide (m.side < 2) && decide (m.tag < 256)

/-- A block of a row: a 2-bit sync header and 8 bytes (R125). -/
def Block.wf (b : Block) : Bool := decide (b.header < 4) && decide (b.bytes.length = 8)

/-- A row: one block on each of four lanes (R125). -/
def rowWf (bs : List Block) : Bool := decide (bs.length = 4) && bs.all Block.wf

/-- A BAR2 access: one of 64 windows of 256 MiB (R78). -/
def Bar2.wf (a : Bar2) : Bool := decide (a.window < 64) && decide (a.offset < 2 ^ 28)

/-- A frame arrives at a port and sub-port that exist (R69). -/
def EthFrame.wf (f : EthFrame) : Bool := decide (f.port < 4) && decide (f.sub < 4)
def MgmtOpen.wf (o : MgmtOpen) : Bool := decide (o.port < 4) && decide (o.sub < 4)
def MgmtReq.wf (r : MgmtReq) : Bool := decide (r.port < 4) && decide (r.sub < 4)

/-- The check over every command: WFN of 48 bits, slot of a frame below 4 (Table 10.2), tile address and TAG of 8 bits, and the operands'
own checks. -/
def Instr.wellFormed (i : Instr) : Bool :=
  match i with
  | .instanceLoad wfn => decide (wfn < 2 ^ 48)
  | .issueSlot wfn _ => decide (wfn < 2 ^ 48)
  | .dependenceDecrement wfn _ _ => decide (wfn < 2 ^ 48)
  | .operationComplete _ => true
  | .latestStart wfn _ => decide (wfn < 2 ^ 48)
  | .operationDeadline wfn _ => decide (wfn < 2 ^ 48)
  | .shedExpiry wfn _ => decide (wfn < 2 ^ 48)
  | .ingressWord _ => true
  | .arrivalWindowClose wfn _ => decide (wfn < 2 ^ 48)
  | .slackWindowStart island _ _ => decide (island < 64)
  | .backgroundChunkEnd island _ => decide (island < 64)
  | .breachCounterClear p => p.wf
  | .peakMarginClear p => p.wf
  | .histogramClear p => p.wf
  | .histSelect p _ => p.wf
  | .queueWatchSelect p _ => p.wf
  | .traceRearm p _ => p.wf
  | .traceForce p _ => p.wf
  | .ethernetFrameRx f => f.wf
  | .portModeChange p port _ => p.wf && decide (port < 4)
  | .subPortLinkChange port sub _ _ _ => decide (port < 4) && decide (sub < 4)
  | .streamEnable p _ _ => p.wf
  | .streamDisable p _ _ => p.wf
  | .digest _ => true
  | .verdict _ => true
  | .packet _ => true
  | .request _ _ _ => true
  | .requestRepeat _ _ _ => true
  | .forwardUnasked _ _ _ => true
  | .missing _ _ => true
  | .bar2Access a => a.wf
  | .mgmtOpen o => o.wf
  | .mgmtRequest r => r.wf
  | .mgmtClose r => r.wf
  | .sessionTimeout _ _ => true
  | .arpRequest port sub _ _ => decide (port < 4) && decide (sub < 4)
  | .icmpEcho port sub _ _ _ => decide (port < 4) && decide (sub < 4)
  | .pcieReset _ => true
  | .ingCntClear p => p.wf
  | .decodeStart _ _ => true
  | .pictureDecodeComplete _ => true
  | .promote _ wfn slot _ => decide (wfn < 2 ^ 48) && decide (slot < 4)
  | .returnEnable p _ => p.wf
  | .forceIdr p _ => p.wf
  | .returnSliceStart wfn _ _ => decide (wfn < 2 ^ 48)
  | .returnSliceWritten _ => true
  | .returnReadPointer p _ => p.wf
  | .cdcCntClear p => p.wf
  | .surfaceAlloc c => c.wf
  | .surfaceRelease c => c.wf
  | .surfaceFree _ _ => true
  | .layerWrite w => w.wf
  | .commitGo p _ => p.wf
  | .commitValidationEnd _ _ => true
  | .latchInstant wfn => decide (wfn < 2 ^ 48)
  | .staleTimeout _ _ => true
  | .cmpCntClear p => p.wf
  | .rowForward port blocks _ => decide (port < 5) && rowWf blocks
  | .controlRowRx _ => true
  | .superframe port _ => decide (port < 5)
  | .expressSymbolRx port blocks _ => decide (port < 5) && rowWf blocks
  | .expressRequest p _ => p.wf
  | .rate port _ _ _ => decide (port < 5)
  | .rateSwitch port _ => decide (port < 5)
  | .txslip port _ _ => decide (port < 5)
  | .announce _ => true
  | .signalDetect port _ => decide (port < 5)
  | .equaliseDone port _ => decide (port < 5)
  | .identifyWindow _ => true
  | .blockLock _ => true
  | .deskewDone port _ _ => decide (port < 5)
  | .trainingCycleEnd port _ _ => decide (port < 5)
  | .portUp port chain _ => decide (port < 5) && decide (chain < 4)
  | .lossOfLock port _ _ => decide (port < 5)
  | .chainDown chain _ => decide (chain < 4)
  | .retrain p port _ => p.wf && decide (port < 5)
  | .eastAbsent chain _ => decide (chain < 4)
  | .pllHoldoverExpiry port _ => decide (port < 5)
  | .chnCntClear p => p.wf
  | .refclkCoreStop _ => true
  | .sliceRx _ => true
  | .refreshReq chain ta wfn slot _ _ => decide (chain < 4) && decide (ta < 256) && decide (wfn < 2 ^ 48) && decide (slot < 4)
  | .sliceEncode _ => true
  | .sliceDecode wfn slot _ => decide (wfn < 2 ^ 48) && decide (slot < 4)
  | .refreshReqRetry _ _ => true
  | .ccxCntClear p => p.wf
  | .sync _ => true
  | .followUp _ => true
  | .delayResp _ => true
  | .delayReq port _ _ => decide (port < 16)
  | .ptpAnnounce _ => true
  | .announceReceiptTimeout _ => true
  | .time _ => true
  | .timeSend chain _ _ => decide (chain < 4)
  | .timeStep p _ => p.wf
  | .stepBoundary => true
  | .stepRecord _ _ _ => true
  | .phaseSlewTimeout _ => true
  | .holdoverExpiry _ => true
  | .timeMessageTimeout _ => true
  | .pulseEnable p unit _ => p.wf && decide (unit < 8)
  | .pulseDisable p unit _ => p.wf && decide (unit < 8)
  | .pulseEdge unit => decide (unit < 8)
  | .pulseEnd unit => decide (unit < 8)
  | .captureEdge unit _ _ => decide (unit < 8)
  | .capturePop p unit => p.wf && decide (unit < 8)
  | .timeNowLatch p => p.wf
  | .timCntClear p => p.wf
  | .registerWrite w => w.wf
  | .startCondition _ _ => true
  | .runStart => true
  | .flkCntClear p => p.wf
  | .alignedRise _ => true
  | .correctionTick _ => true
  | .recomputeComplete _ => true
  | .bankSwap p _ => p.wf
  | .fadeArm p _ => p.wf
  | .emcCntClear p => p.wf
  | .glintWriteStart wfn slot _ => decide (wfn < 2 ^ 48) && decide (slot < 4)
  | .glintWriteComplete _ => true
  | .latchSequence wfn slot => decide (wfn < 2 ^ 48) && decide (slot < 4)
  | .imageSlotLatch wfn slot => decide (wfn < 2 ^ 48) && decide (slot < 4)
  | .lineStart _ => true
  | .configFrameSend _ => true
  | .shadow _ => true
  | .lampOn p _ => p.wf
  | .faultClr p _ => p.wf
  | .forceBlank p _ => p.wf
  | .lampPgRise _ => true
  | .lampPgSettled _ => true
  | .lampPgTimeout _ => true
  | .lampPgFall _ => true
  | .blankNFall _ => true
  | .blankNRise _ => true
  | .lmpCntClear p => p.wf
  | .shadowSlotEnd _ => true
  | .colourMeasurement _ _ => true
  | .colourLoopPeriod _ _ => true
  | .calStageData _ => true
  | .calStore c => c.wf
  | .flashOperationComplete _ _ _ => true
  | .trimStep _ _ => true
  | .calsetCopyComplete _ => true
  | .calCntClear p => p.wf
  | .dramRequest _ => true
  | .dramGrant _ => true
  | .dramReadReturn _ => true
  | .pageIdleExpiry _ sub _ _ => decide (sub < 4)
  | .refreshDue _ sub _ => decide (sub < 4)
  | .gatherBurst _ _ => true
  | .gatherBurstComplete _ => true
  | .setPointGo p _ => p.wf
  | .switchWindow _ => true
  | .setPointSwitchComplete _ => true
  | .selfRefreshIdle _ _ _ => true
  | .selfRefreshExit _ _ => true
  | .drcCntClear p => p.wf
  | .conversion _ => true
  | .levelFall _ => true
  | .substitute p _ _ => p.wf
  | .guardAck p _ => p.wf
  | .recheck p _ => p.wf
  | .guardConversion _ => true
  | .blankRelease _ => true
  | .corePowerDrop _ => true
  | .thermalRestart _ => true
  | .thermalUnlock c => c.wf
  | .thmCntClear p => p.wf
  | .health ta _ _ => decide (ta < 256)
  | .healthSend _ => true
  | .diverge chain ta wfn slot _ => decide (chain < 4) && decide (ta < 256) && decide (wfn < 2 ^ 48) && decide (slot < 4)
  | .hello _ => true
  | .helloRecheck _ _ => true
  | .stateRecord _ => true
  | .stateRecordSend _ => true
  | .linkStateTimeout _ => true
  | .configRecord _ _ => true
  | .convergeEnd _ => true
  | .commitRecord wfn _ => decide (wfn < 2 ^ 48)
  | .expressRecord _ _ _ _ => true
  | .refreshRecord ta wfn slot _ => decide (ta < 256) && decide (wfn < 2 ^ 48) && decide (slot < 4)
  | .sliceSig ta wfn slot _ _ _ => decide (ta < 256) && decide (wfn < 2 ^ 48) && decide (slot < 4)
  | .tileRecord _ _ => true
  | .leave _ _ => true
  | .receiptCheck ta wfn slot => decide (ta < 256) && decide (wfn < 2 ^ 48) && decide (slot < 4)
  | .ringReturnLoss _ => true
  | .silentTimeout ta _ => decide (ta < 256)
  | .joinTimeout _ => true
  | .joinRetry _ => true
  | .holdoffExpiry _ => true
  | .startupStandbyExpiry _ => true
  | .pairRejoin c => c.wf
  | .pairTakeback c => c.wf
  | .pairRelinquish c => c.wf
  | .redCntClear p => p.wf
  | .standby c => c.wf
  | .gatePoint _ => true
  | .wake c => c.wf
  | .wakeWrite p _ => p.wf
  | .wakePin _ _ => true
  | .alarm _ => true
  | .wakeComplete _ => true
  | .powerDown c => c.wf
  | .pfWarning _ => true
  | .pfRestart _ => true
  | .corePgRise _ => true
  | .coreResetRelease _ _ => true
  | .corePgTimeout _ => true
  | .powerRetry _ => true
  | .corePgFall _ => true
  | .resetN _ => true
  | .watchdogExpiry _ => true
  | .umbraPowerOn _ => true
  | .powerOnStart _ => true
  | .umbraSupplyLoss _ => true
  | .tcxoStop _ => true
  | .bootGo p _ => p.wf
  | .firmwareStart _ => true
  | .tcxoResume _ => true
  | .pfSenseRise _ => true
  | .umbraRealign _ => true
  | .rtcLatch p => p.wf
  | .reset c => c.wf
  | .stageBegin c => c.wf
  | .stageData c => c.wf
  | .stageEnd c => c.wf
  | .stageVerifyComplete _ _ => true
  | .stageAbort c => c.wf
  | .stageTimeout _ _ => true
  | .activate c => c.wf
  | .activateCommit _ => true
  | .confirm c => c.wf
  | .confirmTimeout _ => true
  | .keyInstall c => c.wf
  | .lcToken c => c.wf
  | .scrap c => c.wf
  | .attest c => c.wf
  | .truCntClear p => p.wf
  | .admitStaged c => c.wf
  | .admissionComplete _ _ => true
  | .energyLatch p => p.wf
  | .meterSample _ => true
  | .sealTransition _ _ => true
  | .lightOffer _ => true
  | .recordClose _ => true
  | .recordProgrammed _ _ => true
  | .meterSupplyTrip _ => true
  | .meterPowerOn _ _ => true
  | .meterRead _ _ => true
  | .meterWrite _ _ _ _ => true
  | .recordFetch _ _ => true
  | .eventFetch _ _ => true
  | .meterFwBlock _ _ => true
  | .meterVerify _ _ => true
  | .meterActivate _ _ => true
  | .metTag c => c.wf
  | .metFetch c => c.wf
  | .regRd m => m.wf
  | .regWr m => m.wf
  | .regRsp m => m.wf
  | .mbox m => m.wf
  | .mboxRsp m => m.wf
  | .bulk m => m.wf
  | .holdMessage _ wfn _ => decide (wfn < 2 ^ 48)
  | .holdMessageRepeat _ => true
  | .nop c => c.wf
  | .resync c => c.wf
  | .tokenStatus c => c.wf
  | .abort c => c.wf
  | .hold c => c.wf
  | .release c => c.wf
  | .paramWrite c => c.wf
  | .paramRead c => c.wf
  | .selftest c => c.wf
  | .tileReg c => c.wf
  | .tileCmd c => c.wf
  | .tileBulk c => c.wf
  | .relayRetry ta tag _ => decide (ta < 256) && decide (tag < 256)
  | .relayTimeout ta tag _ => decide (ta < 256) && decide (tag < 256)
  | .sqTailWrite _ => true
  | .cqHeadWrite p _ => p.wf
  | .ringEnable p _ => p.wf
  | .ringDisable p _ => p.wf
  | .spiGo p _ _ => p.wf
  | .spiRead _ _ => true
  | .spiWrite _ _ => true
  | .spiStatus _ => true
  | .cmdCntClear p => p.wf
  | .frameStart wfn => decide (wfn < 2 ^ 48)
  | .chainWindowOpen wfn slot => decide (wfn < 2 ^ 48) && decide (slot < 4)
  | .islandBelowFloor island _ _ => decide (island < 64)
  | .islandFloorRegained island _ _ => decide (island < 64)
  | .jtagUpdateIr _ _ => true
  | .jtagUpdateDr _ => true
  | .jtagReset => true
  | .jtagRunTestIdle => true
  | .tmuxSelect k w => decide (k < 16) && w.wf
  | .bist c => c.wf
  | .bistComplete _ _ _ _ => true
  | .dbgCntClear w => w.wf

end Sys2Proof
end

