-- ==== Sys2Proof/Tests/Slice0.lean ====
section
/-! SUPPORT. Tests of the model: the well-formedness smoke, one witness per statement with hypotheses (a concrete state and operands
that meet them all), and small checks of single commands on values the spec gives. -/
open Sys2Proof Sys2Proof.Machine

set_option Elab.async false

/-! ### Small states -/

/-- A timeline of 60 frames a second, 1,000 lines, one image slot and one shadow slot. -/
def Tests.tl : Timeline :=
  { num := 60, den := 1, lines := 1000, nImage := 1, nShadow := 1, scan := 16, maxLayers := 4, maxOverlap := 2,
    slots := [{ kind := 1, index := 0, passes := 2, startNs := 0, lengthNs := 12000000, lineQ := 1000, blankNs := 1000, expFirst := 0,
                expPasses := 0 },
              { kind := 2, index := 0, passes := 1, startNs := 13000000, lengthNs := 2000000, lineQ := 1000, blankNs := 1000,
                expFirst := 0, expPasses := 1 }] }

/-- The image's two operations. -/
def Tests.op0 : OpRec :=
  { facet := 0, slot := 0, depInit := 1, issue := 100, deadline := 90000, wcc := 800, codeEntry := 0, succs := [1], queues := [0] }
def Tests.op1 : OpRec :=
  { facet := 4, slot := 0, depInit := 1, issue := 200, deadline := 95000, wcc := 800, codeEntry := 0, succs := [], queues := [] }

/-- A structure image: facets 0 and 4, two operations, one window, one queue. -/
def Tests.img (r : Role) : Image :=
  { role := r, imageId := 0x1234, imageLength := 4096, minSilicon := 0, minFirmware := 0, securityVersion := 1, keyId := [],
    routes := [],
    islands := [{ island := 0, enabled := true, queueShare := 0, floorKhz := 400000, nominalKhz := 800000, powerMw := 100 },
                { island := 1, enabled := true, queueShare := 0, floorKhz := 400000, nominalKhz := 800000, powerMw := 100 }],
    queues := [{ producer := 0x1000, consumer := 0, depth := 8, store := 0 }],
    ops := [Tests.op0, Tests.op1],
    windows := [{ endpoint := 0x1000, ref := 0, slot := 0, opens := 0, closes := 50000, words := 2 }],
    slacks := [{ island := 0, slackNs := 10000, windows := [(1000, 10000)] }],
    ports := [], bounds := [],
    dram := { chanMask := 1, spCodes := [0, 0, 0, 0], spBoot := 0, trackMs := 100, switchStart := 0, switchLen := 0, poolBase := 0,
              poolSize := 2 ^ 20, density := [0, 0, 0, 0, 0, 0, 0, 0], ports := [] },
    timeline := Tests.tl,
    chains := [{ chain := 0, rate := 3, n := 4, mode := 0, width := 64, height := 64, emitters := 3, poolDepth := 0, qpMin := 0,
                 qpInit := 20, sliceRows := 16, refreshRows := 16, roiMax := 4 }],
    params := [{ id := 2, type := 0, apply := 0, size := 4, min := 0, max := 60000, dflt := 10000, blobDefault := [] },
               { id := 9, type := 0, apply := 1, size := 4, min := 0, max := 100, dflt := 5, blobDefault := [] }],
    inits := [] }

/-- A device of a role that runs its image: core up, powered state RUN, frame lock code `lock`. -/
def Tests.run (r : Role) (lock : Nat) : State :=
  let im := Tests.img r
  let s0 := State.reset
  let s1 := { s0 with gen := { s0.gen with running := some im, bootDone := true,
                                           params := im.params.map (fun p => { spec := p, value := [p.dflt] }) },
                      umb := { s0.umb with coreOut := true, coreReq := true, corePg := some 0 } }
  (s1.put Reg.UMB_STATE Fld.UMB_STATE_PSTATE 2).put Reg.FLK_STATE Fld.FLK_STATE_STATE lock

/-- An instance of WFN 5 with its two operations as given. -/
def Tests.inst (a b : OpRun) (got : Nat) : Instance :=
  { wfn := 5, ops := [a, b], delivered := [got], fired := [false], tag := false, abandoned := false }

/-- A waiting operation with a dependence count. -/
def Tests.waits (n : Nat) : OpRun := { status := .waiting, counter := n, zeroAt := 0, breached := false, tainted := false, stalled := none }

/-- A running sender with that instance. -/
def Tests.withInst (i : Instance) : State :=
  let s := Tests.run .sender 2
  { s with sch := { s.sch with instances := [i], newest := 5 } }

/-- What a command answers satisfies a check. -/
def Tests.after (c : Instr) (s : State) (p : State → Bool) : Bool :=
  match exec c s with
  | .next t => p t
  | .fault _ => false
  | .refused _ => false

/-! ### The well-formedness smoke: a command each check refuses, and one it takes -/

def Tests.okCmd : MboxCmd := { path := .spi, len := 0, tag := 1, reserved := zeroBytes 24, body := [], t := 0 }
def Tests.okBlock : Block := { header := 1, bytes := zeroBytes 8 }

theorem test_wf_paths : (Instr.breachCounterClear (.chain 2)).wellFormed = false ∧ (Instr.breachCounterClear (.chain 1)).wellFormed = true := by
  decide +kernel
theorem test_wf_wfn : (Instr.instanceLoad (2 ^ 48)).wellFormed = false ∧ (Instr.instanceLoad (2 ^ 48 - 1)).wellFormed = true := by
  decide +kernel
theorem test_wf_registerWrite :
    (Instr.registerWrite { path := .spi, addr := 2 ^ 32, data := 0, be := 15 }).wellFormed = false ∧
      (Instr.registerWrite { path := .spi, addr := 0, data := 0, be := 16 }).wellFormed = false ∧
      (Instr.registerWrite { path := .spi, addr := 0, data := 0, be := 3 }).wellFormed = true := by
  decide +kernel
theorem test_wf_commands :
    (Instr.nop Tests.okCmd).wellFormed = true ∧ (Instr.nop { Tests.okCmd with len := 65536 }).wellFormed = false ∧
      (Instr.nop { Tests.okCmd with tag := 2 ^ 32 }).wellFormed = false ∧ (Instr.nop { Tests.okCmd with reserved := [] }).wellFormed = false ∧
      (Instr.nop { Tests.okCmd with path := .chain 0 256 }).wellFormed = false := by
  decide +kernel
theorem test_wf_messages :
    (Instr.regRd { side := 2, tag := 0, addr := 0, data := 0, t := 0 }).wellFormed = false ∧
      (Instr.regRsp { side := 0, ta := 256, tag := 0, status := 0, data := 0, t := 0 }).wellFormed = false ∧
      (Instr.mbox { side := 0, tag := 256, bcast := false, segmented := false, body := [], t := 0 }).wellFormed = false ∧
      (Instr.mboxRsp { side := 0, ta := 0, tag := 256, segmented := false, body := [], t := 0 }).wellFormed = false ∧
      (Instr.bulk { side := 2, tag := 0, body := [], t := 0 }).wellFormed = false := by
  decide +kernel
theorem test_wf_rows :
    (Instr.rowForward 0 (List.replicate 4 Tests.okBlock) 0).wellFormed = true ∧ (Instr.rowForward 0 [Tests.okBlock] 0).wellFormed = false ∧
      (Instr.rowForward 5 (List.replicate 4 Tests.okBlock) 0).wellFormed = false ∧
      (Instr.rowForward 0 (List.replicate 4 { Tests.okBlock with header := 4 }) 0).wellFormed = false := by
  decide +kernel
theorem test_wf_ports :
    (Instr.portModeChange .spi 4 0).wellFormed = false ∧ (Instr.slackWindowStart 64 0 0).wellFormed = false ∧
      (Instr.chainDown 4 0).wellFormed = false ∧ (Instr.delayReq 16 0 0).wellFormed = false ∧ (Instr.superframe 5 0).wellFormed = false ∧
      (Instr.arpRequest 0 4 0 0).wellFormed = false ∧ (Instr.pulseDisable .spi 8 0).wellFormed = false ∧
      (Instr.bar2Access { window := 64, offset := 0, write := false, data := [], len := 4, t := 0 }).wellFormed = false := by
  decide +kernel

/-! ### Chapter 3 -/

theorem witness_InstancesLoadIssueAndCount :
    let s := Tests.run .sender 2
    let i := Tests.withInst (Tests.inst (Tests.waits 0) (Tests.waits 1) 0)
    let w := Tests.withInst (Tests.inst (Tests.waits 1) (Tests.waits 1) 0)
    let d := { w with sch := { w.sch with decrements := [(5, 0)] } }
    let at0 := issueAt (Tests.img .sender) 5 Tests.op0
    (s.gen.running = some (Tests.img .sender) ∧ s.inst? 5 = none ∧ s.dbg.bist = none ∧ s.gen.loadDue = false ∧ s.flk.f0 ≤ 5 ∧ s.get Reg.FLK_STATE Fld.FLK_STATE_STATE = 2 ∧
      Tests.after (.instanceLoad 5) s (fun t => t.reg Reg.SCH_INSTANCE == 5 && (t.inst? 5).isSome) = true) ∧
    ((i.advance at0).facetBusy (Tests.img .sender) 0 = false ∧ (i.advance at0).paused 0 at0 = false ∧
      (i.advance at0).readyList (Tests.img .sender) 0 at0 = [(deadlineAt (Tests.img .sender) 5 Tests.op0, 0, 5)] ∧
      Tests.after (.issueSlot 5 0) i (fun t => (t.opRun? 5 0).any (fun r => r.status == .issued at0)) = true) ∧
    ((d.advance 7).opRun? 5 0 = some (Tests.waits 1) ∧ (5, 0) ∈ d.sch.decrements ∧
      Tests.after (.dependenceDecrement 5 0 7) d (fun t => (t.opRun? 5 0).any (fun r => r.counter == 0)) = true) := by
  decide +kernel

theorem witness_CompletionsFeedAndBreachesCount_1 :
    let r : OpRun := { Tests.waits 0 with status := .issued 5 }
    let s := Tests.withInst (Tests.inst r (Tests.waits 1) 0)
    let w := Tests.withInst (Tests.inst (Tests.waits 0) (Tests.waits 1) 0)
    let d : OpDone := { wfn := 5, op := 0, t := 9, cycles := 10, consumed := [(0, 1)], produced := [(0, 8)] }
    ((s.advance 9).opRun? 5 0 = some r ∧ (Tests.img .sender).ops[0]? = some Tests.op0 ∧ s.umb.draining = false ∧ s.gen.loadDue = false ∧
      (d.consumed.foldl (fun (z : State) p => z.setQueue p.1 d.wfn (z.queueOf p.1 d.wfn - p.2)) (s.advance d.t)).roomFor
        (Tests.img .sender) d.produced = true ∧
      Tests.after (.operationComplete d) s
        (fun t => t.sch.decrements == [(5, 1)] && (t.opRun? 5 0).any (fun x => x.status == .completed)) = true) ∧
    ((w.advance (shedAt (Tests.img .sender) 5 Tests.op0)).opRun? 5 0 = some (Tests.waits 0) ∧
      Tests.after (.shedExpiry 5 0) w (fun t => t.sch.decrements == [(5, 1)] && t.reg Reg.SCH_SHED == 1) = true) := by
  decide +kernel

theorem witness_CompletionsFeedAndBreachesCount_2 :
    let r : OpRun := { Tests.waits 0 with status := .issued 5 }
    let s := Tests.withInst (Tests.inst r (Tests.waits 1) 0)
    let b := Tests.withInst (Tests.inst { r with status := .completed } (Tests.waits 0) 0)
    let p := { b with sch := { b.sch with pauses := [{ island := 1, starts := 0, ends := deadlineAt (Tests.img .sender) 5 Tests.op1, windowEnds := 0 }] } }
    s.exempt 5 Tests.op0 = false ∧ (s.advance (overrunAt (Tests.img .sender) 5 Tests.op0)).opRun? 5 0 = some r ∧
      (s.advance (latestStartAt (Tests.img .sender) 5 Tests.op1)).opRun? 5 1 = some (Tests.waits 1) ∧
      (p.advance (latestStartAt (Tests.img .sender) 5 Tests.op1)).paused 1 (latestStartAt (Tests.img .sender) 5 Tests.op1) = true ∧
      zeroAtStart (Tests.img .sender) 5 Tests.op1 (Tests.waits 0) = false ∧
      Tests.after (.latestStart 5 1) p (fun t => t.reg Reg.SCH_BRC_TOTAL == 1 && t.reg Reg.SCH_BRC_BUSY == 1) = true ∧
      Tests.after (.latestStart 5 1) s (fun t => t.reg Reg.SCH_BRC_TOTAL == 1 && t.reg Reg.SCH_BRC_DEP == 1) = true ∧
      Tests.after (.operationDeadline 5 0) s (fun t => t.reg Reg.SCH_BRC_TOTAL == 1 && t.reg Reg.SCH_BRC_OVERRUN == 1) = true := by
  decide +kernel

theorem witness_ArrivalsSlackAndStatistics_1 :
    let im := Tests.img .sender
    let s := Tests.withInst (Tests.inst (Tests.waits 1) (Tests.waits 1) 1)
    let w : IngressIn := { t := 3, wfn := 5, window := 0, queue := 0 }
    let full := Tests.withInst (Tests.inst (Tests.waits 1) (Tests.waits 1) 2)
    let r := Tests.run .sender 2
    ((s.advance 3).queueDepth 0 = 0 ∧ ((s.advance 3).inst? 5).map (·.delivered) = some [1] ∧
      queueWanted im (Tests.inst (Tests.waits 1) (Tests.waits 1) 1) 0 = true ∧ keepsWords im 0 = true ∧
      Tests.after (.ingressWord w) s (fun t => t.queueOf 0 5 == 1 && t.sch.decrements == [(5, 0)]) = true ∧
      Tests.after (.ingressWord w) full (fun t => t.queueOf 0 5 == 0 && t.reg Reg.SCH_ARR_DROP == 1) = true) ∧
    (r.inst? 5 = none ∧ r.flk.f0 ≤ 5 ∧ r.earlyOf 5 0 = 0 ∧ 3 < refAt im 5 ∧
      Tests.after (.ingressWord w) r (fun t => t.earlyOf 5 0 == 1) = true) ∧
    Tests.after (.arrivalWindowClose 5 0) s (fun t => t.reg Reg.SCH_ARR_LATE == 1) = true := by
  decide +kernel

theorem witness_ArrivalsSlackAndStatistics_3 :
    let im := Tests.img .sender
    let s := Tests.withInst (Tests.inst (Tests.waits 1) (Tests.waits 1) 1)
    let c : BgChunk := { island := 0, starts := 0, ends := 2 * nsT, windowEnds := 9 * nsT, token := 1, kind := .admission }
    let j : BgJob := { kind := .admission, token := 1, left := some 500, work := some 900, islands := [0] }
    let b := { s with sch := { s.sch with chunks := [c] } }
    let p := s.put (Reg.THM_LEVEL_ACT 0) { lo := 8, len := 9 } 128
    let q := { s with sch := { s.sch with jobs := [j] } }
    let t0 := 1000 * nsT
    ((slackOf im 0).windows[0]? = some (1000, 10000) ∧ t0 ∈ windowStarts im.timeline (1000, 10000) t0 ∧ p.slackTaken = true ∧ p.pauseFrac = 128 ∧
      Tests.after (.slackWindowStart 0 0 t0) p (fun t => t.sch.pauses.map (·.ends) == [6000 * nsT]) = true ∧
      q.pauseFrac = 0 ∧ (q.advance t0).nextJob 0 = some j ∧ chunkNs j t0 (t0 + 10000 * nsT) = 500 ∧
      Tests.after (.slackWindowStart 0 0 t0) q (fun t => t.sch.chunks.map (·.ends) == [1500 * nsT]) = true) ∧
    (b.sch.jobs = [] ∧ b.sch.chunks.find? (fun x => x.island == 0) = some c ∧
      Tests.after (.backgroundChunkEnd 0 (2 * nsT)) b (fun t => t.sch.chunks == [] && tabGet t.sch.bgAcc 0 == 2) = true) := by
  decide +kernel

theorem witness_ArrivalsSlackAndStatistics_2 :
    let s := (((Tests.run .sender 2).setNum Reg.SCH_BRC_TOTAL 7).setNum (Reg.SCH_HIST 7) 4).setNum (Reg.SCH_FCT_LOAD 127) 0x00030002
    s.admits .spi Reg.SCH_CNT_CLEAR 1 = true ∧ s.admits .spi Reg.SCH_CNT_CLEAR 2 = true ∧ s.admits .spi Reg.SCH_CNT_CLEAR 4 = true ∧
      s.admits .spi Reg.SCH_HIST_SEL 127 = true ∧ s.admits .spi Reg.SCH_QW_SEL 32767 = true ∧
      s.admits .spi Reg.SCH_TRACE_CTRL 4 = true ∧ s.admits .spi Reg.SCH_TRACE_CTRL 8 = true ∧ s.triggered = false ∧
      s.bit Reg.SCH_TRACE_CTRL Fld.SCH_TRACE_CTRL_FROZEN = false ∧
      Tests.after (.breachCounterClear .spi) s (fun t => t.reg Reg.SCH_BRC_TOTAL == 0 && t.reg (Reg.SCH_HIST 7) == 4) = true ∧
      Tests.after (.peakMarginClear .spi) s (fun t => t.reg (Reg.SCH_FCT_LOAD 127) == 2) = true ∧
      Tests.after (.histogramClear .spi) s (fun t => t.reg Reg.SCH_BRC_TOTAL == 7 && t.reg (Reg.SCH_HIST 7) == 0) = true ∧
      Tests.after (.histSelect .spi 127) s (fun t => t.reg Reg.SCH_HIST_SEL == 127 && t.reg (Reg.SCH_HIST 7) == 0) = true ∧
      Tests.after (.queueWatchSelect .spi 32767) s (fun t => t.reg Reg.SCH_QW_SEL == 32767) = true ∧
      Tests.after (.traceRearm .spi 4) s (fun t => t.sch.trace == []) = true ∧
      Tests.after (.traceForce .spi 8) s (fun t => t.triggered) = true := by
  decide +kernel

/-! ### Chapter 4 -/

/-- A sender unpaired, with port 0 in mode 2 and stream 3 enabled there as a coded stream of 100 Mbit/s. -/
def Tests.ing : State :=
  let s := ((Tests.run .sender 2).setNum (Reg.ING_PORT_CFG 0) 2).setNum (Reg.ING_STR_CTRL 3) 0x2001
  (s.putBit (Reg.ING_STR_CTRL 3) Fld.ING_STR_CTRL_ENABLE true).setNum (Reg.ING_STR_RATE 3) 100

/-- A LIVE surface of 64 by 16 8-bit 4:4:4 samples at the foot of DRAM, handle 0. -/
def Tests.surf : Surface :=
  { index := 0, gen := 0, fmt := 3, layout := 0, depth := 0, width := 64, height := 16, stride := 192, base := 65536, size := 3072,
    units := 1, retiring := false, fence := 0, damaged := false, generated := false, patched := false, rtp := none, colour := none, lastNamed := none }
def Tests.withSurf (s : State) : State := { s with cmp := { s.cmp with surfaces := [Tests.surf] } }

theorem witness_StreamsAndPairTakePackets_1 :
    let s := Tests.ing
    let off := (s.putBit (Reg.ING_STR_CTRL 3) Fld.ING_STR_CTRL_ENABLE false)
    s.admits .spi (Reg.ING_PORT_CFG 3) 1 = true ∧ s.portUsed 3 = false ∧
      Tests.after (.portModeChange .spi 3 1) s (fun t => t.portMode 3 == 1) = true ∧
    s.portHas 0 3 = true ∧
      Tests.after (.subPortLinkChange 0 3 true false true) s (fun t => t.reg (Reg.ING_PORT_STAT 0) == 0x808) = true ∧
    off.streamOn 3 = false ∧ off.follows = false ∧ off.admits .spi (Reg.ING_STR_CTRL 3) 1 = true ∧
      off.enableRefused 3 1 = true ∧
      Tests.after (.streamEnable .spi 3 1) off (fun t => t.bit (Reg.ING_STR_CTRL 3) Fld.ING_STR_CTRL_ERR) = true ∧
    (Tests.withSurf off).enableRefused 3 1 = false ∧
      Tests.after (.streamEnable .spi 3 1) (Tests.withSurf off) (fun t => t.streamOn 3 && (t.stream 3).tokens == t.bucketDepth 3) = true ∧
    s.streamOn 3 = true ∧ s.admits .spi (Reg.ING_STR_CTRL 3) 0 = true ∧
      Tests.after (.streamDisable .spi 3 0) s (fun t => !t.streamOn 3) = true ∧
      fieldOf (3 : Word) 0 2 = 3 ∧ s.portUsed 0 = true ∧
    s.admits .spi Reg.ING_CNT_CLEAR 1 = true ∧
      Tests.after (.ingCntClear .spi) (s.setNum Reg.ING_WIN_OOR 4) (fun t => t.reg Reg.ING_WIN_OOR == 0) = true := by
  decide +kernel

/-- An Ethernet frame on port 0 for a multicast group, of the given EtherType, then zeros. -/
def Tests.frame (et : Nat) (ip : List Byte) : EthFrame :=
  { port := 0, sub := 0, t := 10, fcsOk := true, bytes := beBytes 6 0x01005E000181 ++ zeroBytes 6 ++ beBytes 2 et ++ ip }

/-- An IPv4 packet to 224.0.1.129 with an RTP packet of payload type 96, sequence number 1, SSRC 7 for UDP port 5,000. -/
def Tests.rtp : List Byte :=
  ([0x45, 0, 0, 44, 0, 0, 0, 0, 64, 17, 0, 0] : List Byte) ++ beBytes 4 0x0A000001 ++ beBytes 4 0xE0000181 ++
    beBytes 2 4000 ++ beBytes 2 5000 ++ beBytes 2 24 ++ zeroBytes 2 ++ ([0x80, 96, 0, 1] : List Byte) ++ beBytes 4 90000 ++
    beBytes 4 7 ++ zeroBytes 4

/-- `ing` with stream 3 of the format JPEG XS listening to that packet. -/
def Tests.listen : State :=
  let s := Tests.ing.setNum (Reg.ING_STR_CTRL 3) (1 + 32)
  let s1 := (((s.setNum (Reg.ING_STR_DST 3) 0xE0000181).setNum (Reg.ING_STR_PORTS 3) 5000).setNum (Reg.ING_STR_SSRC 3) 7).setNum
    (Reg.ING_STR_RATE 3) (100 + 2 ^ 20)
  s1.setStream { freshStream 3 with tokens := 8192 * 20000 * 65536 }

theorem Tests.group_ok (s : State) (f : FrameView) (h : f.dst = 0x01005E000181) : s.addressOk 0 0 f = true := by
  have : (f.dst == groupMac 0xE0000181) = true := by rw [h]; decide
  simp [State.addressOk, this]

theorem witness_FramesPassTheIngressTests_1 :
    let s := Tests.listen
    let v := viewFrame (Tests.frame 0x800 Tests.rtp).bytes
    s.isSender = true ∧ s.portHas 0 0 = true ∧ v.dst = 0x01005E000181 ∧ s.controlFrame v = false ∧
      (List.range 16).find? (s.matchesStream 0 0 v) = some 3 ∧ s.formatBad 3 v = false ∧ oversize (Tests.frame 0x800 Tests.rtp) = false ∧
      v.udp.length * 8 * 20000 * 65536 ≤ s.bucketAt 3 10 ∧ heldBytes (s.stream 3) 0 + v.udp.length ≤ 2097152 / s.streamsOnPort 0 ∧
      settledSeq (s.stream 3) (extendedSeq (s.stream 3) (s.streamFormat 3) v.udp) = false ∧ (s.stream 3).held = [] ∧
      (s.stream 3).fill = none ∧ s.streamFormat 3 = 1 ∧ s.codedBytes 3 = 0 ∧
      (s.stream 3).nextSeq.getD 1 = 1 ∧ extendedSeq (s.stream 3) (s.streamFormat 3) v.udp = 1 ∧ s.agreed = false ∧
      ((s.modStream 3 (fun x => { x with nextSeq := some 9 })).stream 3 |> fun x => settledSeq x 1) = true ∧
      s.controlFrame (viewFrame (Tests.frame 0x806 []).bytes) = true ∧ (viewFrame (Tests.frame 0x806 []).bytes).kind = 1 ∧
      ptpFrame (viewFrame (Tests.frame 0x806 []).bytes) = false ∧
      Tests.ing.controlFrame v = false ∧ (List.range 16).find? (Tests.ing.matchesStream 0 0 v) = none ∧
      (s.setStream (freshStream 3)).bucketAt 3 0 < v.udp.length * 8 * 20000 * 65536 ∧
      (s.setNum (Reg.ING_STR_PORTS 3) (5000 + 97 * 65536 + 2 ^ 23)).formatBad 3 v = true ∧
      Tests.after (.ethernetFrameRx { Tests.frame 0x800 Tests.rtp with fcsOk := false }) s (fun t => t.reg (Reg.ING_DROP 0) == 1) = true := by
  decide +kernel

theorem witness_FramesPassTheIngressTests_2 :
    let s := Tests.listen
    let ptp (k : Byte) : List Byte := ([0x45, 0, 0, 29, 0, 0, 0, 0, 64, 17, 0, 0] : List Byte) ++ beBytes 4 0x0A000001 ++
      beBytes 4 0xE0000181 ++ beBytes 2 319 ++ beBytes 2 319 ++ beBytes 2 9 ++ zeroBytes 2 ++ [k]
    let v (k : Byte) := viewFrame (Tests.frame 0x800 (ptp k)).bytes
    let full := { s with ing := { s.ing with ctrl := [(0, 65536)] } }
    s.controlFrame (v 2) = true ∧ ptpFrame (v 2) = true ∧ ptpExcludedType (v 2) = true ∧ ptpTaken (v 0) = true ∧ (v 2).sumOk = true ∧
      bitOf ((s.setNum Reg.TIM_PTP_CFG 0x10000).reg Reg.TIM_PTP_CFG) 16 = true ∧
      65536 < ((full.ing.ctrl.filter (fun c => c.1 == 0)).map (·.2)).sum + 1 := by
  decide +kernel

theorem Tests.stream_setStream (s : State) (x : StreamSt) : (s.setStream x).stream x.stream = x := by
  have hf : (s.ing.streams.filter (fun y => y.stream != x.stream)).find? (fun y => y.stream == x.stream) = none := by
    simp [List.find?_eq_none]
  simp [State.stream, State.setStream, List.find?_append, hf]

theorem witness_FramesPassTheIngressTests_3 (n : Nat) (h : 2097152 / Tests.listen.streamsOnPort 0 < n) : ∃ x : StreamSt,
    x.stream = 3 ∧ 2097152 / Tests.listen.streamsOnPort 0 < heldBytes ((Tests.listen.setStream x).stream x.stream) 0 := by
  refine ⟨{ freshStream 3 with held := [{ seq := 2, stamp := 0, payload := List.replicate n 0, port := 0, answered := false }] }, rfl, ?_⟩
  rw [Tests.stream_setStream]
  simpa [heldBytes] using h

/-- A pair that is FORMED: this sender is the mirror (`true`) or the primary; stream 3 as given. -/
def Tests.paired (mirror : Bool) (x : StreamSt) : State :=
  let s := (Tests.ing.put Reg.RED_STATE Fld.RED_STATE_LINK 2).setStream x
  { s with gen := { s.gen with params := [{ spec := { id := 1, type := 0, apply := 3, size := 4, min := 0, max := 1, dflt := 0, blobDefault := [] }, value := [flag mirror] }] } }

theorem witness_StreamsAndPairTakePackets_2 :
    let x := freshStream 3
    let p : HeldPacket := { seq := 5, stamp := 0, payload := [1, 2, 3], port := 0, answered := false }
    let h := { x with held := [p] }
    let f := Tests.paired true x
    let l := Tests.paired false { x with nextSeq := some 5, learned := [(9, 0)] }
    let a := Tests.paired true { x with asked := [(5, 0)], verdicts := [.verdict 5 true 9] }
    let u := Tests.ing.setStream { h with nextSeq := some 4 }
    let pic : Fill := { rtp := 0, firstSeq := 5, last := 5, present := 1, regions := [], raw := [], target := none, packets := [], bytes := 0 }
    let k := { x with kept := [p], nextSeq := some 6, fill := some pic }
    let full := { Tests.paired false k with ing := { (Tests.paired false k).ing with fwdUntil := 9 * usT } }
    let next t0 q := Tests.after (.missing 3 t0) u (fun t => (t.stream 3).nextSeq == some q)
    f.follows = true ∧ f.agreed = true ∧ f.streamOn 3 = true ∧ settledSeq (f.stream 3) 5 = false ∧
      settledSeq ((Tests.paired true { x with nextSeq := some 6 }).stream 3) 5 = true ∧
      Tests.after (.digest { stream := 3, seq := 5, crc := 1, stamp := 0, t := 0 }) f (fun t => (t.stream 3).digests == [(5, 1)]) = true ∧
      Tests.after (.verdict { stream := 3, seq := 5, hasCopy := true, crc := 1, t := 8 }) f
        (fun t => (t.stream 3).asked == [(5, 8)] && t.out == [.link (.request 3 5)]) = true ∧
      Tests.after (.verdict { stream := 3, seq := 5, hasCopy := false, crc := 1, t := 8 }) f
        (fun t => (t.stream 3).nextSeq == some 6 && t.reg Reg.ING_LS_MISSING == 1) = true ∧
      Tests.after (.verdict { stream := 3, seq := 5, hasCopy := true, crc := 1, t := 8 }) (Tests.paired true h)
        (fun t => (t.stream 3).held == [] && t.reg Reg.ING_LS_MISMATCH == 1) = true ∧
      Tests.after (.verdict { stream := 3, seq := 5, hasCopy := true, crc := crc32c [1, 2, 3], t := 8 }) (Tests.paired true h)
        (fun t => (t.stream 3).kept == [p]) = true ∧
      Tests.after (.verdict { stream := 3, seq := 6, hasCopy := true, crc := 1, t := 8 }) a
        (fun t => (t.stream 3).verdicts == [.verdict 5 true 9, .verdict 6 true 1]) = true ∧
      Tests.after (.packet { stream := 3, seq := 5, payload := [7], t := 8 }) f (fun t => (t.stream 3).held.length == 1) = true ∧
      l.leads = true ∧ Tests.after (.packet { stream := 3, seq := 5, payload := [7], t := 8 }) l (fun t => t.out != []) = true ∧
      (Tests.paired true h).shareDone ((p.payload.length + 16) * 8) 0 ≤ 8 * usT ∧
      Tests.after (.request 3 5 0) (Tests.paired true h) (fun t => t.out == [.link (.packet 3 5 [1, 2, 3])]) = true ∧
      Tests.after (.forwardUnasked 3 5 (2 * usT)) (Tests.paired true h) (fun t => t.out == [.link (.packet 3 5 [1, 2, 3])]) = true ∧
      full.leads = true ∧ 8 * usT < full.shareDone ((p.payload.length + 16) * 8) 0 ∧ (full.stream 3).kept.contains p = true ∧
      Tests.after (.request 3 5 0) full (fun t => t.out == [.link (.verdict 3 5 false 0)] && t.reg Reg.ING_LS_MISSING == 1 &&
        (t.stream 3).fill.map (·.present) == some 0) = true ∧
      Tests.after (.verdict { stream := 3, seq := 5, hasCopy := false, crc := 0, t := 8 }) a
        (fun t => (t.stream 3).nextSeq == some 6 && (t.stream 3).verdicts == []) = true ∧
      Tests.after (.requestRepeat 3 5 (4 * usT)) a (fun t => t.out == [.link (.request 3 5)]) = true ∧
      (l.stream 3).learned.any (fun q => seqBefore 5 q.1 && decide (q.2 + 8 * usT ≤ 8 * usT)) = true ∧
      Tests.after (.missing 3 (8 * usT)) l (fun t => t.reg Reg.ING_LS_MISSING == 1 && (t.stream 3).nextSeq == some 6) = true ∧
      u.agreed = false ∧ next (4 * usT) 6 = true ∧ next (4 * usT - 1) 4 = true := by
  decide +kernel

/-- A sender with its management address on port 0, a window on the surface and one session. -/
def Tests.hosted : State :=
  let s := ((Tests.withSurf Tests.ing).setNum (Reg.ING_WIN 2) 0x30000).setNum Reg.ING_MGMT_IP 0x0A000001
  let s1 := (s.setNum (Reg.ING_PORT_CFG 0) 0x102).setNum Reg.ING_MGMT_CFG 0x20000
  { s1 with ing := { s1.ing with sessions := [{ id := 1, key := [], lastSeq := 3, sendSeq := 0, lastAt := 0 }] } }

theorem witness_HostAndManagementPaths :
    let s := Tests.hosted
    s.isSender = true ∧ s.follows = false ∧ s.surface? (fieldOf (s.reg (Reg.ING_WIN 2)) 0 16) = some Tests.surf ∧
      bitOf (s.reg (Reg.ING_WIN 2)) 17 = true ∧ bitOf (s.reg (Reg.ING_WIN 2)) 16 = true ∧
      Tests.after (.bar2Access { window := 2, offset := 3068, write := true, len := 0, data := [1, 2, 3, 4], t := 0 }) s
        (fun t => t.dramRead 68603 6 == [0, 1, 2, 3, 4, 0]) = true ∧
      Tests.after (.bar2Access { window := 2, offset := 0, write := false, len := 2, data := [], t := 0 }) s
        (fun t => t.out == [.readData [0, 0]]) = true ∧
      Tests.after (.bar2Access { window := 2, offset := 3070, write := false, len := 4, data := [], t := 0 }) s
        (fun t => t.out == [.readData [0, 0, 0, 0]] && t.reg Reg.ING_WIN_OOR == 1) = true ∧
      (Tests.paired true (freshStream 3)).follows = true ∧
      s.mgmtOpen 0 0 = true ∧ s.ing.sessions.length < s.get Reg.ING_MGMT_CFG ⟨16, 3⟩ ∧
      (s.ing.sessions.find? (fun y => y.id == 1)).map (·.lastSeq) = some 3 ∧
      named (Reg.GEN_ISL_CLK 0) = true ∧ s.blockAnswers (Reg.GEN_ISL_CLK 0) = true ∧ Reg.GEN_ISL_CLK 0 / 65536 = 0 ∧
      Tests.after (.sessionTimeout 1 (600 * secT)) s (fun t => t.ing.sessions == []) = true ∧
      s.mgmtAt 0 0 = true ∧ s.mgmtIp = 0x0A000001 ∧
      Tests.after (.arpRequest 0 0 0x0A000001 9) s (fun t => t.out == [.arpReply 0 0]) = true ∧
      Tests.after (.icmpEcho 0 0 0x0A000001 [7] 9) s (fun t => t.out == [.icmpReply 0 0 [7]]) = true ∧
      Tests.after (.pcieReset 9) s (fun t => t.cmd.waitingRsp == []) = true := by
  decide +kernel

/-- A session's tag is opaque: whatever it is, some request carries it. -/
theorem witness_HostAndManagementPaths_valid (b : MgmtBody) :
    ∃ r : MgmtReq, r.body = b ∧ (Tests.hosted.validSession r).isSome = true ∧ (Tests.hosted.validSession { r with seq := 3 }) = none := by
  refine ⟨{ port := 0, sub := 0, session := 1, seq := 4, covered := [], tag := Config.kmac [] [] 16, body := b, t := 9 }, rfl, ?_, ?_⟩ <;>
    simp [State.validSession, Tests.hosted]

/-! ### Chapter 5 -/

/-- A coded picture of channel 3, with no packet absent. -/
def Tests.coded : CodedPic := { channel := 3, rtp := 77, packets := [], bytes := 10, readyAt := 0, absent := 0, afterLoss := false }

/-- A decoder run of channel 3. -/
def Tests.decoding (decoder : Nat) (susp : Bool) : Decoding := { decoder := decoder, pic := Tests.coded, deadline := 100, suspended := susp }

/-- Stream 3 as JPEG XS: a surface, dimensions 64 by 16, LIVE as given. -/
def Tests.xs (live : Bool) : State :=
  ((Tests.withSurf Tests.listen).setNum (Reg.CDC_CH_DIM 3) (64 + 16 * 65536)).setNum (Reg.CDC_CH_STAT 3) (2 + 16 * flag live)

/-- A JPEG XS picture of 64 by 16, one slice. -/
def Tests.jxs : JxsPic :=
  { profile := .main444x12, tenK := false, starTetrix := false, temporal := false, losslessBad := false, width := 64, height := 16, chroma := 2,
    depth := 8, slices := 1, sliceRows := 16, lost := [], syntaxBad := false, colour := none }

/-- An IDR picture of 64 by 64. -/
def Tests.hevc (kind : HevcKind) : HevcPic :=
  { sps := { profile := .main, levelIdc := 120, width := 64, height := 64, chroma := 0, depth := 8, fieldSeq := false, buffers := 1, reorder := 0,
             latencyPlus1 := 0, ctu := 64 },
    kind := kind, poc := 0, refs := [], output := false, noPriorOutput := true, afterEos := false, lostCtus := [], syntaxBad := false,
    hashBad := false, colour := none }

/-- A decode of channel 3 that ends at 50. -/
def Tests.done (x : CodedContent) : DecodeDone := { channel := 3, t := 50, content := x }

theorem witness_DecodersServeChannels_1 :
    let s := Tests.xs true
    let ready := { s with cdc := { s.cdc with coded := [Tests.coded] } }
    let rec_ : Decoding := { Tests.decoding 1 false with pic := { Tests.coded with channel := 4 } }
    let busy := { ready with cdc := { ready.cdc with decoding := [rec_] } }
    let old := { s with cdc := { s.cdc with decoding := [{ rec_ with suspended := true }] } }
    let slow := { (Tests.xs false) with cdc := ready.cdc }
    (firstDue (ready.readyPictures 1 true)).isSome = true ∧ ready.cdc.decoding = [] ∧
      Tests.after (.decodeStart 1 0) ready (fun t => t.cdc.coded == [] && t.cdc.decoding.length == 1) = true ∧
      (firstDue (busy.readyPictures 1 true)).isSome = true ∧ busy.bit (Reg.CDC_CH_STAT 4) Fld.CDC_CH_STAT_LIVE = false ∧
      Tests.after (.decodeStart 1 0) busy (fun t => t.cdc.decoding.map (·.suspended) == [true, false]) = true ∧
      firstDue (old.readyPictures 1 true) = none ∧ old.cdc.decoding.find? (fun y => y.decoder == 1 && !y.suspended) = none ∧
      Tests.after (.decodeStart 1 0) old (fun t => t.cdc.decoding == [rec_]) = true ∧
      firstDue (slow.readyPictures 1 true) = none ∧ slow.cdc.decoding = [] ∧ (firstDue (slow.readyPictures 1 false)).isSome = true ∧
      Tests.after (.decodeStart 1 0) slow (fun t => t.cdc.decoding.length == 1) = true := by
  decide +kernel

theorem witness_DecodersServeChannels_2 :
    let s := Tests.xs true
    let run := { s with cdc := { s.cdc with decoding := [Tests.decoding 1 false] } }
    let pool : Surface := { Tests.surf with index := 1, fmt := 0x11, size := 65536 }
    let hv := (run.setNum (Reg.CDC_CH_DIM 3) (64 + 64 * 65536)).setNum (Reg.CDC_CH_POOL 3) (handleOf pool)
    let h := { hv with cdc := { hv.cdc with decoding := [Tests.decoding 0 false] }, cmp := { hv.cmp with surfaces := [pool] } }
    let wait := h.setNum (Reg.CDC_CH_STAT 3) 1
    let p := Tests.paired true (freshStream 3)
    let l := Tests.paired false (freshStream 3)
    let w : WrittenPic := { channel := 3, handle := 0, rtp := 1, damaged := false, t := 0, opening := (8, 0), announced := false }
    let lw := { l with cdc := { l.cdc with written := [w] } }
    run.cdc.decoding.find? (fun x => x.pic.channel == 3 && !x.suspended) = some (Tests.decoding 1 false) ∧
      64 ≤ fieldOf (run.reg (Reg.CDC_CH_DIM 3)) 0 16 ∧ 16 ≤ fieldOf (run.reg (Reg.CDC_CH_DIM 3)) 16 16 ∧ jxsExcluded Tests.jxs = false ∧
      jxsExcluded { Tests.jxs with temporal := true } = true ∧
      Tests.after (.pictureDecodeComplete (Tests.done (.jxs { Tests.jxs with temporal := true }))) run
        (fun t => t.reg (Reg.CDC_CH_SKIPPED 3) == 1 && t.cdc.decoding == []) = true ∧
      run.ringFree 3 = some 0 ∧ run.surface? 0 = some Tests.surf ∧ Tests.surf.width = 64 ∧ Tests.surf.height = 16 ∧ run.agreed = false ∧
      (fmtPicture Tests.surf.fmt && fmtSampling Tests.surf.fmt == Nat.min Tests.jxs.chroma 2 && (fmtRgb Tests.surf.fmt == (Tests.jxs.chroma == 3)))
        = true ∧
      spsExcluded (Tests.hevc .idr).sps = false ∧ h.chState 3 = 2 ∧ 1 ≤ h.poolBuffers 3 (Tests.hevc .idr).sps ∧
      wait.chState 3 = Ch.WAIT_IRAP ∧ hevcIrap (Tests.hevc .rasl).kind = false ∧
      Tests.after (.pictureDecodeComplete (Tests.done (.hevc (Tests.hevc .rasl)))) wait (fun t => t.reg (Reg.CDC_CH_SKIPPED 3) == 1) = true ∧
      p.follows = true ∧ Tests.after (.promote 3 9 0 1) p (fun t => t.cdc.announced == [(3, 9, 0)]) = true ∧
      l.leads = true ∧ l.cdc.otherWritten = [] ∧
      Tests.after (.promote 3 9 0 1) l (fun t => t.cdc.otherWritten == [(3, 9, 0)]) = true ∧
      Tests.after (.promote 3 9 0 1) lw (fun t => t.out == [.link (.promote 3 9 0)]) = true := by
  decide +kernel

/-- A return stream that is enabled with slices of one row, a ring of 64 KiB, in control; the size of its picture is the image's own (opaque). -/
def Tests.ret : State :=
  let s := (((Tests.run .sender 2).setNum Reg.CDC_RET_CTRL 5).setNum Reg.CDC_RET_RING_SIZE 16).putBit Reg.RED_STATE
    Fld.RED_STATE_IN_CONTROL true
  { s with cdc := { s.cdc with retNext := 100 } }

theorem witness_DecodersAndReturnStream_1 :
    let s := Tests.ret
    let off := (s.setNum Reg.CDC_RET_CTRL 4).setNum Reg.CDC_RET_WR 32
    off.admits .spi Reg.CDC_RET_CTRL (word 5) = true ∧ off.retOn = false ∧ off.admits .spi Reg.CDC_RET_CTRL (word (2 + 32)) = true ∧
      Tests.after (.forceIdr .spi (word (2 + 32))) off (fun t => t.cdc.idrDue) = true ∧
      s.retOn = true ∧ 5 % (s.retDivide + 1) = 0 ∧ s.inControl = true ∧ s.cdc.ret = [] ∧ s.retSliceRows = 1 ∧
      Tests.after (.returnSliceStart 5 0 0) s (fun t => t.cdc.ret.map (·.wfn) == [5]) = true ∧
      roundUp 32 (32 + 40) = 96 ∧ 96 ≤ s.retRing - 0 % s.retRing ∧ 96 ≤ s.retRing - (0 + 2 * s.retRing - 0) % (2 * s.retRing) ∧
      off.admits .spi Reg.CDC_RET_RD 32 = true ∧ 32 < 2 * off.retRing ∧
      Tests.after (.returnReadPointer .spi 32) off (fun t => t.reg Reg.CDC_RET_RD == 32) = true ∧
      Tests.after (.returnReadPointer .spi 33) off (fun t => t.reg Reg.CDC_RET_RD == 0) = true ∧
      off.admits .spi Reg.CDC_CNT_CLEAR 1 = true ∧
      Tests.after (.cdcCntClear .spi) (off.setNum Reg.CDC_RET_OVF 9) (fun t => t.reg Reg.CDC_RET_OVF == 0) = true := by
  decide +kernel

/-- A repeated picture's slice with one P slice segment is coded: its QPs are not rate control's, and the HRD buffer holds its bits. -/
theorem witness_DecodersAndReturnStream_2 :
    let p : RetPic := { wfn := 5, slot := 0, started := 3, next := 2, lastStart := 0, idr := false, isRepeat := true, lift := false, cut := false }
    let r : RetSlice := { wfn := 5, slice := 2, nal := [0, 0, 1, 2], t := 7, baseQp := 20, raise := 0, lift := 0, qps := [] }
    let s := Tests.ret.setNum Reg.CDC_RET_RATE (1000 + 2 ^ 20)
    let z := { s with cdc := { s.cdc with ret := [p], hrd := 8 * 4 * secT } }
    z.cdc.ret.find? (fun p => p.wfn == r.wfn && p.next == r.slice && decide (r.slice < p.started)) = some p ∧
      sliceNals p r.slice r.nal = true ∧ r.nal.length * 8 * secT ≤ z.hrdAtTime r.t ∧ z.sliceCoded p r = true := by
  decide +kernel

/-- A later slice of a picture that has as many (the size of a return picture is the image's own, opaque). -/
theorem witness_DecodersAndReturnStream_3 (h : 1 < Tests.ret.retSlices) :
    let p : RetPic := { wfn := 5, slot := 0, started := 1, next := 0, lastStart := 0, idr := false, isRepeat := false, lift := false, cut := false }
    let z := { Tests.ret with cdc := { Tests.ret.cdc with ret := [p] } }
    z.retOn = true ∧ 5 % (z.retDivide + 1) = 0 ∧ 0 < 1 ∧ 1 < z.retSlices ∧ z.cdc.ret.any (fun p => p.wfn == 5 && p.started == 1) = true :=
  ⟨by decide +kernel, by decide +kernel, by decide, h, by decide⟩

/-! ### Chapter 6 -/

/-- A command on the SPI path. -/
def Tests.cmd (body : List Byte) : MboxCmd := { path := .spi, len := body.length, tag := 7, reserved := [], body := body, t := 100 }

theorem witness_SurfacesLiveAndStandStill_1 :
    let s := Tests.run .sender 2
    let b : List Byte := [3, 0, 8, 0] ++ leBytes 2 64 ++ leBytes 2 16 ++ zeroBytes 4
    let v := Tests.withSurf s
    let r := { s with cmp := { s.cmp with surfaces := [{ Tests.surf with retiring := true }] } }
    s.takes 0x201 (Tests.cmd b) = true ∧ s.follows = false ∧ depthCode 3 8 = some 0 ∧ layoutOk 3 0 = true ∧
      s.freeIndex = some 1 ∧ s.poolFind (ceilDiv (surfaceBytes 3 0 64 16) 65536) = some 0 ∧
      Tests.after (.surfaceAlloc (Tests.cmd b)) s (fun t => t.cmp.surfaces.map handleOf == [4097]) = true ∧
      v.takes 0x202 (Tests.cmd (zeroBytes 4)) = true ∧ v.surface? 0 = some Tests.surf ∧ v.inUse 0 = false ∧
      r.surface? 0 = some { Tests.surf with retiring := true } ∧ r.endedUpTo 0 = true ∧ r.codecReads 0 = false ∧
      Tests.after (.surfaceFree 0 5) r (fun t => t.cmp.surfaces == []) = true ∧
      (Tests.paired true (freshStream 3)).follows = true ∧ s.cmp.goAfter = 0 := by
  decide +kernel

theorem witness_PendingSetsAreValidatedAndCommitted :
    let s := (Tests.run .sender 2).putBit Reg.CMP_COMMIT_STAT Fld.CMP_COMMIT_STAT_BUSY true
    let idle := Tests.run .sender 2
    let w : RegWrite := { path := .spi, addr := 0x64FFC, data := 5, be := 15 }
    let own := idle.setNum (Reg.CMP_LAYER 255) 0x10000
    let mesh : Surface := { Tests.surf with fmt := 0x12, size := 200 }
    let colour : Surface := { Tests.surf with index := 1, fmt := 0x13, size := 71042 }
    let ok := { s.setNum Reg.CMP_COLOUR 1 with cmp := { s.cmp with surfaces := [mesh, colour] } }
    let free := idle.setNum (Reg.CMP_LAYER 0) 0x30000
    free.writeAllowed { w with addr := Reg.CMP_LAYER 0 } = true ∧ (rowOf (Reg.CMP_LAYER 0)).isSome = true ∧
      fieldOf (free.reg (Reg.CMP_LAYER 0)) 16 2 = 3 ∧
      own.writeAllowed { w with addr := Reg.CMP_LAYER 255 } = true ∧ (rowOf (Reg.CMP_LAYER 255)).isSome = true ∧
      fieldOf (own.reg (Reg.CMP_LAYER 255)) 16 2 = 1 ∧ ownerCode .spi = 2 ∧
      Tests.after (.layerWrite { w with addr := Reg.CMP_LAYER 255 }) own (fun t => t.reg Reg.CMP_OWN_REJ == 1) = true ∧
      idle.admits .spi Reg.CMP_COMMIT 1 = true ∧ idle.bit Reg.CMP_COMMIT_STAT Fld.CMP_COMMIT_STAT_BUSY = false ∧
      Tests.after (.commitGo .spi 1) idle (fun t => t.bit Reg.CMP_COMMIT_STAT Fld.CMP_COMMIT_STAT_BUSY) = true ∧
      s.validate (Tests.img .sender) = (3, 0) ∧
      Tests.after (.commitValidationEnd 1 2) s (fun t => t.reg Reg.CMP_COMMIT_STAT == 35) = true ∧
      ok.validate (Tests.img .sender) = (0, 0) ∧
      Tests.after (.commitValidationEnd 1 2) ok (fun t => t.reg Reg.CMP_COMMIT_STAT == 96 && t.cmp.sets.length == 1) = true ∧
      Tests.after (.commitRecord 9 2) (Tests.paired true (freshStream 3)) (fun t => t.cmp.sets.map (·.wfn) == [9]) = true := by
  decide +kernel

theorem witness_SurfacesLiveAndStandStill_2 :
    let s := Tests.run .sender 2
    let st := s.setNum (Reg.CMP_STILL_CFG 15) (2 ^ 24)
    (s.gen.running = some (Tests.img .sender) ∧
      Tests.after (.latchInstant 5) s (fun t => t.cmp.prefills.map (·.wfn) == [7]) = true) ∧
    fieldOf (st.reg (Reg.CMP_STILL_CFG 15)) 24 8 = 1 ∧ bitOf (st.reg (Reg.CMP_STILL_STAT 15)) 1 = false ∧
      Tests.after (.staleTimeout 15 (10 * msT)) st (fun t => t.reg (Reg.CMP_STILL_STAT 15) == 2 && t.reg Reg.CMP_STILL_EVT == 32768) = true ∧
    s.admits .spi Reg.CMP_CNT_CLEAR 1 = true ∧
      Tests.after (.cmpCntClear .spi) (s.setNum Reg.CMP_OWN_REJ 3) (fun t => t.reg Reg.CMP_OWN_REJ == 0) = true := by
  decide +kernel

/-! ### Chapter 7 -/

/-- A device with a chain port in a state of bring-up and its bring-up record. -/
def Tests.port (r : Role) (p k : Nat) (x : PortSt) : State := ((Tests.run r 2).setPort p k).setPortSt x

theorem witness_BringUpRunsThroughItsStates :
    let f := freshPortSt 3
    let w : IdentWindow := { port := 3, ones := [2048, 3072, 4096, 5120], clockOnes := 8193, t := 1 }
    let i := Tests.port .sender 3 3 { f with classes := [some 0, some 1, some 2, some 3], same := [2, 2, 2, 2] }
    let j := Tests.port .sender 3 3 { f with windows := 73 }
    let l : LockIn := { port := 3, lane := 3, valid := 4096, offset := 65, error := false, identity := false, train := { dir := 0, rxUp := false, hop := 1, n := 4, rate := 3 }, t := 2 }
    let b := Tests.port .sender 3 4 f
    let b3 := Tests.port .sender 3 4 { f with locked := [0, 1, 2] }
    let u := Tests.port .sender 3 6 { f with goodRows := 3 }
    (b.hasPort 3 = true ∧ (Tests.port .sender 3 1 f).portState 3 = 1 ∧
      Tests.after (.signalDetect 3 ⟨true, 1⟩) (Tests.port .sender 3 1 f) (fun t => t.portState 3 == 2) = true ∧
      Tests.after (.equaliseDone 3 1) (Tests.port .sender 3 2 f) (fun t => t.portState 3 == 3) = true) ∧
    (i.portState 3 = 3 ∧ (i.portSt 3).same = [2, 2, 2, 2] ∧ (∀ k, k < 4 → laneClass (w.ones.getD k 0) = some k) ∧ (i.portSt 3).classes = [some 0, some 1, some 2, some 3] ∧
      Tests.after (.identifyWindow w) i (fun t => t.portState 3 == 4 && t.bit (Reg.CHN_PORT_STAT 3) Fld.CHN_PORT_STAT_CLK_INVERTED) = true) ∧
    ((j.portSt 3).windows = 73 ∧ (j.portSt 3).same = [0, 0, 0, 0] ∧ laneClass 0 = none ∧
      Tests.after (.identifyWindow { w with ones := [] }) j (fun t => t.reg (Reg.CHN_RELOCK 3) == 1) = true) ∧
    (b.bit (Reg.CHN_PORT_STAT 3) Fld.CHN_PORT_STAT_MODE = false ∧ (b.portSt 3).locked = [] ∧ (b3.portSt 3).locked = [0, 1, 2] ∧
      Tests.after (.blockLock l) b (fun t => (t.portSt 3).locked == [3] && t.get (Reg.CHN_SKEW 3 3) ⟨0, 7⟩ == 65) = true ∧
      Tests.after (.blockLock l) b3 (fun t => t.portState 3 == 5) = true ∧
      Tests.after (.blockLock { l with valid := 9, error := true }) b (fun t => (t.portSt 3).misses == [0, 0, 0, 1]) = true ∧
      (Tests.port .sender 3 4 { f with locked := [3] }).portState 3 = 4 ∧
      Tests.after (.blockLock { l with valid := 9, error := true }) (Tests.port .sender 3 4 { f with locked := [3], headers := List.replicate 4 (63, 9) })
        (fun t => (t.portSt 3).locked == []) = true) ∧
    (512 * 10 ≤ 16 * laneRate 7 ∧ (Tests.port .sender 3 5 f).portState 3 = 5 ∧
      Tests.after (.deskewDone 3 [128, 0, 0, 0] 2) (Tests.port .sender 3 5 f) (fun t => t.portState 3 == 6) = true) ∧
    ((u.portSt 3).goodRows = 3 ∧ Tests.after (.portUp 3 3 9) u (fun t => t.portState 3 == 7) = true) := by
  decide +kernel

theorem witness_LinksAreLostAndHeld :
    let f := freshPortSt 3
    let s := Tests.port .sender 3 4 f
    let d := { s with chn := { s.chn with bringUp := [(0, 0)] } }
    let e := Tests.run .tile 2
    let h := { e with chn := { e.chn with holdoverAt := [(1, 0)] } }
    s.hasPort 3 = true ∧ s.chn.sending = [] ∧
      Tests.after (.trainingCycleEnd 3 true 1) s (fun t => t.chn.sending == [3]) = true ∧
      Tests.after (.trainingCycleEnd 3 false 1) s (fun t => t.out.length == 1) = true ∧
      Tests.after (.portUp 4 0 1) s (fun t => t.red.linkUp) = true ∧
      Tests.after (.lossOfLock 3 .clock 1) s (fun t => t.portState 3 == 1 && t.reg (Reg.CHN_RELOCK 3) == 1) = true ∧
      s.admits .spi (Reg.CHN_PORT_CTRL 3) 1 = true ∧
      Tests.after (.retrain .spi 3 1) s (fun t => t.portState 3 == 1 && t.reg (Reg.CHN_RELOCK 3) == 1) = true ∧
      (d.chains.find? (fun x => x.chain == 0)).isSome = true ∧ bitOf (d.reg (Reg.CHN_CHAIN 0)) 7 = false ∧ d.chn.rated = [] ∧
      Tests.after (.chainDown 0 (400 * msT)) d (fun t => bitOf (t.reg (Reg.CHN_CHAIN 0)) 9) = true ∧
      e.isSender = false ∧ e.chn.eastAt + 4096 * 660 * nsT / laneRate 0 ≤ msT ∧
      Tests.after (.eastAbsent 0 msT) e (fun t => t.bit (Reg.CHN_PORT_STAT 1) Fld.CHN_PORT_STAT_ABSENT) = true ∧
      h.chn.fallback = [] ∧ Tests.after (.pllHoldoverExpiry 1 (10 * secT)) h (fun t => t.chn.fallback == [1]) = true ∧
      Tests.after (.refclkCoreStop 5) s (fun t => !t.chn.refclk) = true := by
  decide +kernel

theorem witness_RowsRatesAndExpressSymbols_1 :
    let f := freshPortSt 0
    let tile := Tests.port .tile 0 7 f
    let fwd := { tile with chn := { tile.chn with sending := [1] } }
    let shown := fwd.put Reg.RED_TILE Fld.RED_TILE_SEL 1
    let row : CtlRow := { sfn := 9, echo := 0, turn := 0, corr := 0, expState := 0, expSeq := 0, flags := 1, fragHdr := 0, frag := zeroBytes 11 }
    let c : CtlIn := { port := 0, hcrcOk := true, row := row, t := 3, departs := 4 }
    let sym : List Block := [{ header := 2, bytes := [0x66, 0x96, 0x96, 0x96, 0, 7, 7, 0] }]
    let s := Tests.port .sender 3 7 f
    let x : ExpTx := { chain := 3, eseq := 255, want := 0, sentNow := false, inWindow := 0, older := [], behind := 0 }
    let snd := { s with chn := { s.chn with sending := [3], exp := [x] } }
    (fwd.hasPort 0 = true ∧ fwd.portState 0 = 7 ∧ fwd.forwards 0 = true ∧ idleRow.length = 4 ∧
      (∀ b ∈ idleRow, b.header = 2 ∧ byteAt b.bytes 0 = 0x1E) ∧
      Tests.after (.rowForward 0 idleRow 1) fwd (fun t => t.out == [.row 0 idleRow]) = true) ∧
    (∀ w ∈ (fwd.portSt 0).headers, w.1 < 64) ∧ tabGet fwd.chn.dropIdle 1 = 0 ∧ (fwd.setSlice 0 1 true).slicePending 0 = (1, true) ∧
    (let data : List Block := List.replicate 4 { header := 1, bytes := zeroBytes 8 };
      data.length = 4 ∧ (∀ b ∈ data, b.header = 1) ∧
      Tests.after (.rowForward 0 data 1) (fwd.setSlice 0 1 true) (fun t => t.out == [.row 0 idleRow]) = true) ∧
    (rowError (fwd.slicePending 0).1 [] = true ∧
      Tests.after (.rowForward 0 [] 1) fwd (fun t => t.reg (Reg.CHN_ROW_ERR 0) == 1) = true) ∧
    (Tests.after (.controlRowRx { c with hcrcOk := false }) fwd (fun t => t.reg (Reg.CHN_CTL_CRC 0) == 1) = true ∧
      Tests.after (.controlRowRx c) fwd (fun t => (t.lastCtl? 0).map (·.row.sfn) == some 9) = true) ∧
    (snd.isSender = true ∧ snd.dbg.forced = false ∧
      Tests.after (.superframe 3 8) snd (fun t => tabGet t.chn.sfn 3 == 1) = true) ∧
    (let h := fwd.portFlag 0 Fld.CHN_PORT_STAT_TX_HOLDOVER true;
      h.isSender = false ∧ h.bit (Reg.CHN_PORT_STAT (opposite 1)) Fld.CHN_PORT_STAT_TX_HOLDOVER = true ∧ h.eastAbsent = false ∧
      Tests.after (.superframe 1 8) h (fun t => tabGet t.chn.sfnRx 0 == 1) = true) ∧
    (((shown.tick 5).countHeaders 0 sym 5).shownPort = some 0 ∧ ((shown.tick 5).countHeaders 0 sym 5).portUp 0 = true ∧
      ((shown.tick 5).countHeaders 0 sym 5).forwards 0 = true ∧ idleRow.findSome? expressBlock = none) ∧
    (shown.coreLive = true ∧ sym.findSome? expressBlock = some (0x96, 7) ∧ shown.shownPort = some 0 ∧ shown.portUp 0 = true ∧
      Tests.after (.expressSymbolRx 0 sym 5) shown (fun t => t.reg Reg.CHN_EXP_STATE == 0x701 && t.reg (Reg.CHN_EXP_RX 0) == 1) = true) ∧
    (snd.admits .spi Reg.CHN_EXPRESS (word 24) = true ∧ snd.formedMirror = false ∧ snd.chn.exp.find? (fun y => y.chain == 3) = some x ∧
      expressState (fieldOf (snd.reg Reg.CHN_EXP_STATE) 6 2) (requestCode 1) ≠ fieldOf (snd.reg Reg.CHN_EXP_STATE) 6 2 ∧
      expressState (fieldOf (snd.reg Reg.CHN_EXP_STATE) 6 2) (requestCode 2) ≠ fieldOf (snd.reg Reg.CHN_EXP_STATE) 6 2 ∧
      snd.admits .spi Reg.CHN_EXPRESS (word 40) = true ∧
      Tests.after (.expressRequest .spi (word 24)) snd (fun t => t.out == [.express 3 0x96 0]) = true) := by
  decide +kernel

theorem witness_RowsRatesAndExpressSymbols_2 :
    let s := Tests.port .sender 3 7 (freshPortSt 3)
    let r := { s with chn := { s.chn with rates := [{ dir := 3, code := 7, sfn := 4 }], sfn := [(3, 4)] } }
    s.hasPort 3 = true ∧ Tests.after (.rate 3 7 65536 1) s (fun t => t.chn.rates == [{ dir := 3, code := 7, sfn := 0 }]) = true ∧
      sfnReached (tabGet r.chn.sfn 3) 4 = true ∧
      Tests.after (.rateSwitch 3 1) r (fun t => t.get (Reg.CHN_PORT_STAT 3) Fld.CHN_PORT_STAT_RATE == 7 && t.portState 3 == 1) = true ∧
      Tests.after (.txslip 3 [65, 0, 1, 2] 1) s (fun t => t.reg (Reg.CHN_TXSLIP 3) == 0x02010041) = true ∧
      Tests.after (.announce { chain := 0, position := 2, west := 2, east := 1, identity := [], t := 1 }) s
        (fun t => t.chn.announced == [(0, 2)]) = true ∧
      s.admits .spi Reg.CHN_CNT_CLEAR 1 = true ∧
      Tests.after (.chnCntClear .spi) (s.setNum (Reg.CHN_RELOCK 3) 4) (fun t => t.reg (Reg.CHN_RELOCK 3) == 0) = true := by
  decide +kernel

/-! ### Chapter 8 -/

/-- A device whose one chain has tiles of 16 by 16 pixels. -/
def Tests.small (r : Role) : State :=
  let im := Tests.img r
  let c := im.chains.map (fun c => { c with width := 16, height := 16 })
  let s := Tests.run r 2
  { s with gen := { s.gen with running := some { im with chains := c } } }

/-- The record of that chain. -/
def Tests.smallChain : ChainRec :=
  { chain := 0, rate := 3, n := 4, mode := 0, width := 16, height := 16, emitters := 3, poolDepth := 0, qpMin := 0, qpInit := 20,
    sliceRows := 16, refreshRows := 16, roiMax := 4 }

/-- That sender with its coders at image start, its chain up, and the window of (5, 0) open. -/
def Tests.coders (refresh : List RefreshJob) : State :=
  let s := (Tests.small .sender).setNum (Reg.CHN_CHAIN 0) 128
  { s with ccx := { s.ccx with tiles := [freshCoder Tests.smallChain 1 2], refresh := refresh },
           cmp := { s.cmp with windows := [{ wfn := 5, slot := 0, pics := [] }] } }

theorem witness_SlicesAreCodedAndTaken_1 :
    let job : RefreshJob := { ta := 2, due := [0], ready := 2 ^ 70, startup := true }
    let s := Tests.coders [job]
    let n := Tests.coders []
    let e : EncodeIn := { ta := 2, wfn := 5, slot := 0, hints := [], t := windowOpen Tests.tl 5 0 }
    let im := (s.gen.running.getD (Tests.img .sender))
    (s.isSender = true ∧ (s.chainOf? 2).isSome = true ∧ (s.coder? 2).isSome = true ∧ s.chainRuns 0 = true ∧ s.uncoded 5 = false ∧
      s.inWindow im 5 0 e.t = true ∧ s.codesTile 2 = true ∧ s.transmits = true ∧ (s.chainOf? 2).map (fun c => s.sliceKind im c 2 5 0) = some (1, false) ∧
      Tests.after (.sliceEncode e) s (fun t => t.reg Reg.CCX_REPEAT == 1 && t.out.length == 1) = true) ∧
    ((n.chainOf? 2).map (fun c => n.sliceKind im c 2 5 0) = some (0, false) ∧
      (((n.coder? 2).bind (fun x => slotPool? x.pools 0)).map (·.lastSeq)) = some (some 0)) ∧
    (n.follows = false ∧ n.ccx.refresh = [] ∧
      Tests.after (.refreshReq 0 2 5 0 0 7) n (fun t => t.reg Reg.CCX_REFRESH_REQ == 1 && t.ccx.refresh.length == 1) = true) := by
  decide +kernel

/-- A tile at TA 2, its west port up and shown, with that slice received. -/
def Tests.tileRx (b : List Byte) : State :=
  let s := ((Tests.small .tile).setPort 0 7).put Reg.CHN_RING ⟨0, 8⟩ 2
  let s1 := s.put Reg.RED_TILE Fld.RED_TILE_SEL 1
  { s1 with ccx := { s1.ccx with rx := [{ port := 0, wfn := 5, slot := 0, flags := 4, scrcOk := true, fsig := 0, bytes := b, t := 0 }],
                                 pools := [{ slot := 0, lastSeq := none, entries := [], received := false }],
                                 asks := [{ slot := 0, wfn := 5, ref := 0, sentAt := 0, again := false }] } }

theorem witness_SlicesAreCodedAndTaken_2 :
    let rep := writeSlice { version := 1, kind := 1, lossy := 0, qp := 0, firstCell := 0, seq := 3, reserved := 0 } [.inherit]
    let s := Tests.tileRx rep
    let bad := Tests.tileRx []
    let r : SliceIn := { port := 0, ta := 2, flags := 4, wfn := 5, rows := 1, scrc := 0, fsig := 0, hcrcOk := true, bytes := rep, t := 3 }
    (s.isTile = true ∧ s.portUp 0 = true ∧ s.ownTa = 2 ∧ s.lockState = 2 ∧ (s.tick 3).consumes 0 2 5 = true ∧ (s.tick 3).consumes 0 3 5 = false ∧
      (s.tick 3).decodeShed 5 0 = false ∧
      Tests.after (.sliceRx r) s (fun t => t.reg (Reg.CHN_SCRC_ERR 0) == 1 && t.ccx.rx.length == 1) = true ∧
      Tests.after (.sliceRx { r with ta := 3 }) s (fun t => t.ccx == s.ccx) = true) ∧
    (s.tileChain?.isSome = true ∧ (s.chosenSlice 5 0).isSome = true ∧ s.laterPicture 5 0 = true ∧ s.earlierWaits 5 0 = false ∧
      (readSlice true 1 (fun e => (poolEntry? s.ccx.pools e).isSome) 4 rep).map (fun x => x.1.kind) = some 1 ∧
      (slotPool? s.ccx.pools 0).bind (·.lastSeq) = none) ∧
    (readSlice true 1 (fun e => (poolEntry? bad.ccx.pools e).isSome) 4 [] = none ∧
      Tests.after (.sliceDecode 5 0 1) bad (fun t => t.reg Reg.CCX_SYNTAX_ERR == 1 && t.lmp.rejected == [(5, 0)]) = true) ∧
    (16 * periodNs Tests.tl * nsT ≤ secT ∧
      Tests.after (.refreshReqRetry 0 secT) s (fun t => t.reg Reg.CCX_REFRESH_REQ == 1 && t.ccx.asks.map (·.again) == [true]) = true) ∧
    (s.admits .spi Reg.CCX_CNT_CLEAR 1 = true ∧
      Tests.after (.ccxCntClear .spi) (s.setNum Reg.CCX_REPEAT 5) (fun t => t.reg Reg.CCX_REPEAT == 0) = true) := by
  decide +kernel

/-! ### Chapter 9 -/

/-- A sender with PTP port 0 running in domain 127 and a qualified master heard there. -/
def Tests.master : Master :=
  { domain := 127, port := 0, source := 7, priority1 := 1, quality := 2, priority2 := 3, gm := 0x0102030405060708, steps := 1, utc := 37, lastAt := 0,
    interval := secT, qualified := true }
def Tests.ptp (l : List Master) (x : List Exchange) : State :=
  let s := ((Tests.run .sender 1).setNum Reg.TIM_PTP_CFG (127 + 3 * 512 + 65536)).setNum (Reg.ING_PORT_CFG 0) 1
  { s with tim := { s.tim with masters := l, exchanges := x } }
def Tests.udp : PtpOptions := { transport := .udpIpv4, tlvs := [], alternate := false }
def Tests.ptpMsg (seq stamp t : Nat) (two bad : Bool) : PtpMsg :=
  { options := { Tests.udp with alternate := bad }, port := 0, domain := 127, source := 7, seq := seq, twoStep := two, stamp := stamp,
    correction := 0, logInterval := 0, t := t }

theorem witness_PtpExchanges :
    let s := Tests.ptp [Tests.master] []
    let x : Exchange := { port := 0, syncSeq := 1, t1 := none, syncCorr := 5, t2 := 300, reqSeq := none, t3 := 0 }
    let f := Tests.ptp [Tests.master] [x]
    let r := Tests.ptp [Tests.master] [{ x with t1 := some 100, reqSeq := some 4, t3 := 400 }]
    let r7 := { r with tim := { r.tim with offsets := List.replicate 7 (0, 0) } }
    let ip := f.setReg Reg.ING_MGMT_IP 1
    let a : PtpAnnounce := { options := Tests.udp, port := 0, domain := 127, source := 7, priority1 := 1, quality := 2, priority2 := 3, gm := 9, steps := 1,
                             utc := 37, logInterval := 0, t := secT }
    let once := Tests.ptp [{ Tests.master with qualified := false }] []
    (s.ptpPort 0 = true ∧ s.ptpFromParent (Tests.ptpMsg 1 100 300 true false) = true ∧
      Tests.after (.sync (Tests.ptpMsg 1 100 300 true false)) s (fun t => (t.tim.exchanges.head?.bind (·.t1)) == none &&
        t.reg Reg.TIM_PTP_RX == 1) = true ∧
      Tests.after (.sync (Tests.ptpMsg 1 100 300 false false)) s (fun t => (t.tim.exchanges.head?.bind (·.t1)) == some 100) = true ∧
      Tests.after (.sync (Tests.ptpMsg 1 100 300 false true)) s (fun t => t.reg Reg.TIM_PTP_DISCARD == 1) = true) ∧
    (f.tim.exchanges.find? (fun y => y.port == 0 && y.syncSeq == 1 && y.t1.isNone) = some x ∧
      Tests.after (.followUp (Tests.ptpMsg 1 100 0 false false)) f (fun t => (t.tim.exchanges.head?.map (·.syncCorr)) == some 5) = true) ∧
    (ip.reg Reg.ING_MGMT_IP ≠ 0 ∧ ip.ptpPort 0 = true ∧ ip.parent?.any (fun p => p.port == 0) = true ∧
      Tests.after (.delayReq 0 4 400) ip (fun t => t.out == [.delayReq 0 4 false]) = true ∧ f.reg Reg.ING_MGMT_IP = 0 ∧
      Tests.after (.delayReq 0 4 400) f (fun t => t.out == []) = true) ∧
    (Tests.after (.followUp (Tests.ptpMsg 1 100 0 false true)) f (fun t => t.reg Reg.TIM_PTP_DISCARD == 1 && t.tim == f.tim) = true ∧
      Tests.after (.delayResp (Tests.ptpMsg 4 700 800 false true)) r (fun t => t.reg Reg.TIM_PTP_DISCARD == 1 && t.tim == r.tim) = true ∧
      Tests.after (.ptpAnnounce { a with options := { Tests.udp with tlvs := [.security] } }) s (fun t => t.tim == s.tim) = true ∧
      Tests.after (.ptpAnnounce { a with steps := 255 }) once (fun t => t.timeState == 0) = true ∧
      syncExcluded (Tests.ptpMsg 1 100 300 true false) = false ∧ syncExcluded (Tests.ptpMsg 1 100 300 true true) = true) ∧
    (r7.tim.started = false ∧ r7.lockState = 1 ∧ r7.formedMirror = false ∧ r7.tim.step = none ∧
      (r7.putBit Reg.TIM_CTRL Fld.TIM_CTRL_AUTO_STEP true).bit Reg.TIM_CTRL Fld.TIM_CTRL_AUTO_STEP = true) ∧
    (r.ptpFromParent (Tests.ptpMsg 4 700 800 false false) = true ∧ r.tim.offsets = [] ∧
      Tests.after (.delayResp (Tests.ptpMsg 4 700 800 false false)) r (fun t => t.tim.offsets == [(52, 247)] && t.tim.e == none) = true ∧
      filteredOffset (((52, 247) :: r7.tim.offsets).take 8) = some 0) ∧
    (Tests.after (.ptpAnnounce a) once (fun t => t.timeState == 1 && t.reg Reg.TIM_PTP_GM_LO == 9) = true ∧
      Tests.after (.ptpAnnounce a) (Tests.ptp [] []) (fun t => t.timeState == 0 && t.tim.masters.length == 1) = true) ∧
    (s.isSender = true ∧ s.get Reg.TIM_PTP_CFG Fld.TIM_PTP_CFG_ANN_TIMEOUT = 3 ∧
      Tests.after (.announceReceiptTimeout (3 * secT)) (s.put Reg.TIM_STATE Fld.TIM_STATE_STATE 2)
        (fun t => t.timeState == 3 && t.bit Reg.TIM_STATE Fld.TIM_STATE_LOCK_LOST) = true ∧
      Tests.after (.announceReceiptTimeout (3 * secT)) (s.put Reg.TIM_STATE Fld.TIM_STATE_STATE 1) (fun t => t.timeState == 0) = true) := by
  decide +kernel

/-- A tile that shows its west port, UP, with one row stamped. -/
def Tests.timeTile (state epoch : Nat) : State :=
  let s := ((Tests.run .tile 1).setPort 0 7).put Reg.RED_TILE Fld.RED_TILE_SEL 1
  let s1 := (s.put Reg.TIM_STATE Fld.TIM_STATE_STATE state).put Reg.TIM_STATE Fld.TIM_STATE_EPOCH epoch
  { s1 with chn := { s1.chn with timeRows := [(0, 16384, 5 * secT, 10)] }, tim := { s1.tim with started := true, tagPort := some 0 } }

theorem witness_TimeRunsAlongTheChain :
    let m : TimeMsg := { port := 0, tag := 3, sfn := 16384, departs := 5 * secT - 65536, t := 6 * secT }
    let a := Tests.timeTile 1 3
    let b := Tests.timeTile 2 2
    let s := Tests.run .sender 3
    let d := { s with chn := { s.chn with timeOwed := [(2, 32768, 7 * secT)], sfn := [(2, 36864)] } }
    let late := { s with chn := { s.chn with timeOwed := [(2, 32768, 7 * secT)], sfn := [(2, 36865)] } }
    let h := (Tests.timeTile 3 0).put Reg.TIM_CTRL Fld.TIM_CTRL_HOLDOVER_S 1
    let slews := { b with tim := { b.tim with yp := 5 } }
    (a.shownPort = some 0 ∧ a.portUp 0 = true ∧ a.get Reg.TIM_STATE Fld.TIM_STATE_EPOCH = 3 ∧
      Tests.after (.time m) a (fun t => t.tim.e == some (-62976) && t.now == 6 * secT) = true) ∧
    (b.get Reg.TIM_STATE Fld.TIM_STATE_EPOCH = 2 ∧
      Tests.after (.time m) b (fun t => t.now == 6 * secT - 62976 && t.get Reg.TIM_STATE Fld.TIM_STATE_EPOCH == 3) = true ∧
      Tests.after (.time { m with port := 1 }) b (fun t => t.tim == b.tim) = true) ∧
    (d.isSender = true ∧ Tests.after (.timeSend 2 32768 0) d (fun t => t.chn.tx.length == 1 && t.chn.timeOwed == []) = true ∧
      Tests.after (.timeSend 2 32768 0) late (fun t => t.chn == late.chn) = true ∧
      Tests.after (.timeSend 2 16384 0) d (fun t => t.chn == d.chn) = true) ∧
    (slews.tim.eAt + 4 * slews.offsetInterval ≤ secT ∧ 0 < slews.tim.eAt + 4 * slews.offsetInterval ∧
      Tests.after (.phaseSlewTimeout secT) slews (fun t => t.tim.yp == 0) = true ∧
      Tests.after (.phaseSlewTimeout 0) slews (fun t => t.tim.yp == 5) = true ∧ h.timeState = 3 ∧ h.tim.holdoverAt = 0 ∧
      h.get Reg.TIM_CTRL Fld.TIM_CTRL_HOLDOVER_S = 1 ∧ Tests.after (.holdoverExpiry secT) h (fun t => t.timeState == 4) = true ∧
      Tests.after (.holdoverExpiry (secT - 1)) h (fun t => t.timeState == 3) = true) ∧
    (b.isTile = true ∧ b.timeState = 2 ∧ b.shownPort = some 0 ∧ b.tim.timeAt + 64 * b.timeInterval 0 ≤ secT ∧
      Tests.after (.timeMessageTimeout secT) b (fun t => t.timeState == 3) = true ∧ a.timeState = 1 ∧
      Tests.after (.timeMessageTimeout secT) a (fun t => t.timeState == 1) = true ∧
      Tests.after (.timeMessageTimeout 1) b (fun t => t.timeState == 2) = true) := by
  decide +kernel

theorem witness_StepsMoveWallTime :
    let s := { Tests.run .sender 2 with now := 5 }
    let st (s : State) : State := { s with tim := { s.tim with step := some (usT, 4 * usT), offsets := [(1, 1)] } }
    let data : Word := word (1 + 20 * 16 + 60 * 4096)
    let m := { s with gen := { s.gen with params := [{ spec := { id := 1, type := 0, apply := 2, size := 1, min := 0, max := 1, dflt := 0, blobDefault := [] }, value := [1] }] } }
    let m2 := m.put Reg.RED_STATE Fld.RED_STATE_LINK 2
    (s.admits .spi Reg.TIM_CTRL data = true ∧ s.isTile = false ∧ s.formedMirror = false ∧ bitOf data 0 = true ∧ fieldOf data 4 8 = 20 ∧
      fieldOf data 12 17 = 60 ∧ s.tim.step = none ∧ s.lockState = 2 ∧ bitOf data 1 = false ∧
      Tests.after (.timeStep .spi data) s (fun t => t.tim.step == some (usT, (usT : Int)) && t.lockState == 1) = true ∧
      Tests.after (.timeStep .spi (data + 2)) (s.setNum Reg.TIM_SET_S_LO 9) (fun t => t.tim.step == some (usT, (9 * secT : Int))) = true ∧
      (Tests.run .sender 3).lockState = 3 ∧
      Tests.after (.timeStep .spi data) (Tests.run .sender 3) (fun t => t.bit Reg.TIM_STATE Fld.TIM_STATE_STEP_REJ) = true) ∧
    ((st s).tim.step.map (·.1) = some usT ∧
      Tests.after .stepBoundary (st s) (fun t => t.now == 4 * usT && t.get Reg.TIM_STATE Fld.TIM_STATE_EPOCH == 1) = true) ∧
    (m2.formedMirror = true ∧ m2.tim.step = none ∧
      Tests.after (.timeStep .spi data) m2 (fun t => t.bit Reg.TIM_STATE Fld.TIM_STATE_STEP_REJ && t.tim == m2.tim) = true ∧
      Tests.after (.stepRecord 256 usT 0) m2 (fun t => t.tim.step.map (·.1) == some usT) = true) := by
  decide +kernel

theorem witness_PulsesAndCaptures_1 :
    let s := Tests.run .sender 3
    let ready := ((s.setNum (Reg.TIM_OUT_WIDTH 7) 4).setNum (Reg.TIM_OUT_NS 7) 1000).setNum (Reg.TIM_OUT_PER 7) 8
    let p : Pulse := { unit := 7, next := some 100, left := 1, endAt := none }
    let runs (mode : Nat) (valid : Bool) : State :=
      let z := (((ready.putBit (Reg.TIM_OUT_CTRL 7) Fld.TIM_OUT_CTRL_ENABLE true).put (Reg.TIM_OUT_CTRL 7) Fld.TIM_OUT_CTRL_MODE mode).putBit
        (Reg.TIM_OUT_CTRL 7) Fld.TIM_OUT_CTRL_REQUIRE_VALID valid).setPulse p
      z
    (ready.admits .spi (Reg.TIM_OUT_CTRL 7) 1 = true ∧ ready.bit (Reg.TIM_OUT_CTRL 7) Fld.TIM_OUT_CTRL_ENABLE = false ∧
      (ready.reg (Reg.TIM_OUT_WIDTH 7)).toNat = 4 ∧ ready.now + usT ≤ ready.pulseStart 7 ∧ 4 * 1 * nsT + 4 * nsT ≤ ready.pulsePeriod 7 ∧
      Tests.after (.pulseEnable .spi 7 1) ready (fun t => (t.pulse? 7).bind (·.next) == some usT) = true ∧
      Tests.after (.pulseEnable .spi 7 3) ready (fun t => (t.pulse? 7).bind (·.next) == some usT &&
        t.bit (Reg.TIM_OUT_CTRL 7) Fld.TIM_OUT_CTRL_ENABLE) = true ∧
      Tests.after (.pulseEnable .spi 7 7) ready (fun t => t.bit (Reg.TIM_OUT_CTRL 7) Fld.TIM_OUT_CTRL_ERR) = true) ∧
    (4 * 1 * nsT + 4 * nsT ≤ periodNs Tests.tl * nsT * (fieldOf (ready.reg (Reg.TIM_OUT_PER 7)) 0 8 + 1) ∧
      ready.pulseOffset 7 < periodNs Tests.tl * nsT ∧
      fieldOf (ready.reg (Reg.TIM_OUT_PER 7)) 8 8 ≤ fieldOf (ready.reg (Reg.TIM_OUT_PER 7)) 0 8 ∧
      Tests.after (.pulseEnable .spi 7 5) ready (fun t => t.bit (Reg.TIM_OUT_CTRL 7) Fld.TIM_OUT_CTRL_ENABLE &&
        (t.pulse? 7).bind (·.next) == some (frameEdge Tests.tl (1000 * nsT) 8 0 1)) = true) ∧
    ((runs 1 false).bit (Reg.TIM_OUT_CTRL 7) Fld.TIM_OUT_CTRL_ENABLE = true ∧ (runs 1 false).pulse? 7 = some p ∧
      Tests.after (.pulseDisable .spi 7 0) (runs 1 false) (fun t => t.pulse? 7 == some { p with next := none }) = true ∧
      Tests.after (.pulseEdge 7) (runs 1 false) (fun t => t.out == [.timeOut 7 true] &&
        !t.bit (Reg.TIM_OUT_CTRL 7) Fld.TIM_OUT_CTRL_ENABLE) = true) ∧
    ((runs 1 true).bit (Reg.TIM_OUT_CTRL 7) Fld.TIM_OUT_CTRL_REQUIRE_VALID = true ∧ (runs 1 true).timeValid = false ∧
      Tests.after (.pulseEdge 7) (runs 1 true) (fun t => t.out == [] && t.bit (Reg.TIM_OUT_CTRL 7) Fld.TIM_OUT_CTRL_MISSED) = true) ∧
    (Tests.after (.pulseEnd 7) (ready.setPulse { p with endAt := some 200 }) (fun t => t.out == [.timeOut 7 false]) = true) := by
  decide +kernel

theorem witness_PulsesAndCaptures_2 :
    let s := (Tests.run .sender 3).setNum (Reg.TIM_IN_CTRL 7) 7
    let x : Capture := { t := 5, falling := false, epoch := 0 }
    let one := s.setCaptures 7 [x]
    let full := s.setCaptures 7 (List.replicate 16 x)
    (bitOf (s.reg (Reg.TIM_IN_CTRL 7)) 0 = true ∧ bitOf (s.reg (Reg.TIM_IN_CTRL 7)) 2 = true ∧ tabGet s.tim.lastEdge 7 = 0 ∧
      s.captures 7 = [] ∧ tabGet s.tim.inLevel 7 = 0 ∧
      Tests.after (.captureEdge 7 true ⟨20 * nsT + 5, 3 * nsT⟩) s (fun t => (t.captures 7).map (·.t) == [20 * nsT]) = true ∧
      Tests.after (.captureEdge 7 true ⟨20 * nsT, 3 * nsT - 1⟩) s (fun t => t.tim == s.tim) = true) ∧
    ((full.captures 7).length = 16 ∧
      Tests.after (.captureEdge 7 true ⟨usT, usT⟩) full (fun t => t.reg (Reg.TIM_IN_OVF 7) == 1) = true) ∧
    (one.regPathOpen .spi = true ∧ one.blockAnswers (Reg.TIM_IN_FRAC 7) = true ∧
      Tests.after (.capturePop .spi 7) one (fun t => t.captures 7 == [] && t.out == [.readData [5, 0, 0, 0]]) = true) ∧
    (s.blockAnswers Reg.TIM_NOW_S_LO = true ∧
      Tests.after (.timeNowLatch .spi) { s with now := 3 * secT } (fun t => t.timeLatched .spi == 3 * secT) = true) ∧
    (s.admits .spi Reg.TIM_CNT_CLEAR 1 = true ∧
      Tests.after (.timCntClear .spi) (s.setNum (Reg.TIM_IN_OVF 7) 3) (fun t => t.reg (Reg.TIM_IN_OVF 7) == 0) = true) := by
  decide +kernel

/-! ### Chapter 10 -/

theorem witness_FrameNumbersFollowWallTime :
    let s := { Tests.run .sender 3 with now := 5 * secT }
    0 < Tests.tl.num ∧ 0 < Tests.tl.den ∧ wfnAt Tests.tl (5 * secT) = 300 ∧ wfnAt Tests.tl (5 * secT - 1) = 299 ∧
      frameStart { Tests.tl with num := 120 } 210000000001 = (1750000000 * 10 ^ 9 + 8333333) * 65536 + 21845 ∧
      s.image?.map (·.timeline) = some Tests.tl ∧ s.wfnNow = 300 := by
  decide +kernel

theorem witness_RunsAreArmedAndStarted :
    let s := (Tests.run .sender 1).putBit Reg.FLK_CTRL Fld.FLK_CTRL_START_FREE true
    let v := (Tests.run .sender 1).put Reg.TIM_STATE Fld.TIM_STATE_STATE 3
    let pm := { spec := { id := 1, type := 0, apply := 2, size := 1, min := 0, max := 1, dflt := 0, blobDefault := [] }, value := [1] }
    let m := { s with gen := { s.gen with params := [pm] } }.put Reg.RED_STATE Fld.RED_STATE_LINK 2
    let k := ((((Tests.run .tile 1).setPort 0 7).put Reg.RED_TILE Fld.RED_TILE_SEL 1).put Reg.TIM_STATE Fld.TIM_STATE_STATE 2).setPortSt
      { freshPortSt 0 with upAt := some 5 }
    let a := { Tests.run .sender 2 with flk := { State.reset.flk with f0 := 121 } }
    let h := { a with flk := { a.flk with heldFrom := some 120 } }
    (Tests.tl.num ≤ Tests.tl.den * secT ∧ startFrame Tests.tl 0 (2 * msT) = 2 ∧ startFrame Tests.tl (secT - 2 * msT) (2 * msT) = 61) ∧
    (s.image?.map (·.role) = some .sender ∧ s.lockState = 1 ∧ s.tim.step = none ∧ s.formedMirror = false ∧ s.timeValid = false ∧
      v.timeValid = true ∧
      Tests.after (.startCondition 0 none) s (fun t => t.flk.f0 == 2 && t.bit Reg.FLK_STATE Fld.FLK_STATE_FREE_RUN) = true ∧
      Tests.after (.startCondition 0 none) v (fun t => t.lockState == 2 && !t.bit Reg.FLK_STATE Fld.FLK_STATE_FREE_RUN) = true) ∧
    (m.formedMirror = true ∧ Tests.after (.startCondition 0 (some 77)) m (fun t => t.flk.f0 == 77) = true) ∧
    (k.timeState = 2 ∧ k.shownPort.any k.portUp = true ∧
      Tests.after (.startCondition 0 none) k (fun t => t.lockState == 2) = true) ∧
    (a.lockState = 2 ∧ a.gen.loadDue = false ∧ k.lockState = 1 ∧ Tests.after .runStart a (fun t => t.lockState == 3 && t.now == 2 * secT && t.reg Reg.FLK_RUNS == 1) = true ∧
      h.heldAt 120 = true ∧ Tests.after .runStart h (fun t => t.lockState == 4) = true) ∧
    (k.isTile = true ∧ (k.chn.ports.find? (fun y => y.port == 0)).bind (·.upAt) = some 5 ∧
      Tests.after (.alignedRise (5 + secT)) k (fun t => t.aligned) = true) ∧
    (s.admits .spi Reg.FLK_CNT_CLEAR 1 = true ∧
      Tests.after (.flkCntClear .spi) (s.setNum (Reg.FLK_ABSENT 3) 3) (fun t => t.reg (Reg.FLK_ABSENT 3) == 0) = true) := by
  decide +kernel

theorem witness_FramesWindowsAndHoldsCome_1 :
    let s := Tests.run .sender 3
    let h := { Tests.run .sender 4 with flk := { State.reset.flk with heldFrom := some 3, heldTo := some 60 } }
    let x := { s with ing := { s.ing with streams := [{ freshStream 3 with latest := some 9 }] } }
    let row : CtlRow := { sfn := 9, echo := 0, turn := 0, corr := 0, expState := 0, expSeq := 0, flags := 3, fragHdr := 0, frag := zeroBytes 11 }
    let k := (Tests.run .tile 3).setPort 1 7
    let e := { k with chn := { k.chn with last := [{ port := 1, row := row, t := 0 }] } }
    (s.umb.entry = none ∧ s.lockState = 3 ∧ s.heldAt 60 = false ∧ h.lockState = 4 ∧ h.heldAt 59 = true ∧ h.heldAt 60 = false ∧
      Tests.after (.frameStart 60) s (fun t => t.now == secT && t.lockState == 3) = true ∧
      Tests.after (.frameStart 59) h (fun t => t.lockState == 4) = true ∧
      Tests.after (.frameStart 60) h (fun t => t.lockState == 3) = true) ∧
    (x.image?.map (·.role) = some .sender ∧ x.red.resync = false ∧
      Tests.after (.chainWindowOpen 60 0) x (fun t => (t.cmp.windows.getLast?.map (·.pics)) == some [(3, 9)]) = true) ∧
    (e.portEligible 0 = false ∧ e.portEligible 1 = true ∧ e.selCode = 0 ∧
      Tests.after (.chainWindowOpen 60 0) e (fun t => t.shownPort == some 1 && t.reg Reg.RED_SWITCHES == 1) = true) := by
  decide +kernel

theorem witness_FramesWindowsAndHoldsCome_2 :
    let s := Tests.run .tile 3
    let h := { s with flk := { s.flk with heldFrom := some 60 } }
    let x : HoldSend := { kind := 0, wfn := 60, t := 0, sends := 2 }
    let p := Tests.run .sender 3
    let q := { p with flk := { p.flk with holdSends := [x] } }
    let pm := { spec := { id := 1, type := 0, apply := 2, size := 1, min := 0, max := 1, dflt := 0, blobDefault := [] }, value := [1] }
    let m := { p with gen := { p.gen with params := [pm] } }.put Reg.RED_STATE Fld.RED_STATE_LINK 2
    m.isSender = true ∧ m.formedMirror = true ∧
      Tests.after (.holdMessage 1 60 1) m (fun t => t.flk.holdSends.length == 1 && t.chn.tx.length == 1) = true ∧
      s.isTile = true ∧ s.flk.heldFrom = none ∧ s.flk.ahead = [] ∧ Tests.after (.holdMessage 0 60 1) s (fun t => t.heldAt 60) = true ∧
      h.flk.heldTo = none ∧ Tests.after (.holdMessage 1 60 1) h (fun t => !t.heldAt 60 && t.flk.heldTo == some 60) = true ∧
      q.flk.holdSends = [x] ∧ q.chains.length = 1 ∧
      Tests.after (.holdMessageRepeat (1000 * usT)) q (fun t => t.chn.tx.length == 1 && t.flk.holdSends == []) = true := by
  decide +kernel

theorem witness_RegisterWritesPassTheGates :
    let s := Tests.run .sender 3
    let w : RegWrite := { path := .spi, addr := Reg.GEN_ISL_CLK 0, data := 0xFFFFFFFF, be := 15 }
    s.writeAllowed { w with be := 14 } = false ∧ s.writeAllowed { w with addr := 0x120000 } = false ∧ s.writeAllowed w = true ∧
      w.addr / 65536 = 0 ∧ (rowOf w.addr).isSome = true ∧
      Tests.after (.registerWrite w) (s.putBit w.addr Fld.GEN_ISL_CLK_FLOOR_EVENT true)
        (fun t => !t.bit w.addr Fld.GEN_ISL_CLK_FLOOR_EVENT) = true := by
  decide +kernel

/-! ### Chapters 11 and 12 -/

/-- The timeline with lines of 125 ns of which 100 ns are blanking. -/
def Tests.litTl : Timeline := { Tests.tl with slots := Tests.tl.slots.map (fun r => { r with blankNs := 100 }) }

/-- A tile in a run with a map of one lane, one driver and one channel at 100 Mbit/s, and no blank source asserted. -/
def Tests.lit : State :=
  let s := (Tests.run .tile 3).setReg Reg.LMP_BLANK_SRC 0
  { s with lmp := { s.lmp with map := some 1, rowPol := some false }, chn := { s.chn with rated := [0] },
           gen := { s.gen with running := some { Tests.img .tile with timeline := Tests.litTl } } }

/-- A calibration set of one point for the cell at the origin that uses channel 0. -/
def Tests.calset : CalSet :=
  { id := 1, width := 16, height := 16, emitters := 3, points := 1, shift := 0, temps := [400], chPos := List.replicate 16 (0, 0),
    chUse := 1, body := [] }

theorem witness_CorrectionIsRecomputedAndFaded_1 :
    let s := Tests.run .tile 3
    let l : LiveSet := { set := none, theta := none }
    let busy := { s with emc := { s.emc with running := some l } }
    let c := { s with emc := { s.emc with accepted := some Tests.calset } }
    let ch : TempChan := { channel := 0, use := some 512, history := [], rechecking := false, clean := 0 }
    let warm := { (c.put (Reg.THM_CH_CFG 0) Fld.THM_CH_CFG_MODE 1) with thm := { c.thm with chans := [ch] } }
    (busy.isTile = true ∧ busy.recomputeBusy = true ∧
      Tests.after (.correctionTick (100000000 * nsT)) busy (fun t => t.reg Reg.EMC_RECOMP_DEFER == 1) = true) ∧
    (warm.recomputeBusy = false ∧ warm.cellThetas = some [512]) ∧
    (s.cellThetas = none ∧ Tests.after (.correctionTick 0) s (fun t => t.bit Reg.EMC_STATE Fld.EMC_STATE_NO_TEMP) = true) ∧
    (busy.workLeft 0 = false ∧ s.emc.running = none ∧ Tests.after (.recomputeComplete 7) s (fun t => t.emc == s.emc) = true ∧
      Tests.after (.recomputeComplete 7) busy (fun t => t.emc.finished == some (l, 7)) = true) ∧
    (s.admits .spi Reg.EMC_CTRL 0x808 = true ∧ fieldOf 0x808 8 8 = 8 ∧ fieldOf 0x808 1 2 = 0 ∧
      Tests.after (.bankSwap .spi 0x808) s (fun t => t.bit Reg.EMC_STATE Fld.EMC_STATE_SWAP_PENDING) = true) ∧
    (s.admits .spi Reg.EMC_FADE_CTRL 0x30000005 = true ∧ fieldOf 0x30000005 16 13 = 4096 ∧
      Tests.after (.fadeArm .spi 0x30000005) s (fun t => t.emc.armed == some (5, 0)) = true) ∧
    (s.admits .spi Reg.EMC_CNT_CLEAR 1 = true ∧
      Tests.after (.emcCntClear .spi) (s.setNum Reg.EMC_LIVE_CNT 3) (fun t => t.reg Reg.EMC_LIVE_CNT == 0) = true) := by
  decide +kernel

/-- A sample of WFN 0 with unity gains and the default set. -/
def Tests.sample : EmcSample :=
  { wfn := 0, dither := true, mode := 0, inc := [], gamma := [], fade := 0, gains := [32768, 32768, 32768, 32768],
    old := { set := none, theta := none }, new := { set := none, theta := none }, r := 65536, rowMap := [] }

theorem witness_DitherAveragesExactly :
    let q := defaultRecord 3
    emitterGained Tests.sample q [58162, 0, 0] 0 = 58162 ∧ 58162 < 2 ^ 20 - 15 ∧
      emitterValue { Tests.sample with dither := false } q [58162, 0, 0] 0 0 0 = 3635 ∧
      emitterValue { Tests.sample with wfn := 6 } q [58162, 0, 0] 0 0 0 = 3636 ∧
      emitterValue { Tests.sample with wfn := 5 } q [58162, 0, 0] 0 0 0 = 3635 ∧
      ((List.range 16).map (fun k => emitterValue { Tests.sample with wfn := k } q [58162, 0, 0] 0 0 0)).sum = 58162 := by
  decide +kernel

/-- The set of the worked emitter of chapter 11, its pixel at the origin. -/
def Tests.worked : CalSet :=
  let rec_ (k o : Nat) : List Byte := leBytes 2 k ++ [0, 1, 0x80, 0xFF] ++ zeroBytes 18 ++ leBytes 2 o ++ zeroBytes 6
  { Tests.calset with points := 4, shift := 2, temps := [400, 640, 880, 1120],
                      body := zeroBytes 8192 ++ rec_ 0x3A00 40 ++ zeroBytes 8160 ++ rec_ 0x3800 56 }

theorem witness_LiveRecordsBracketTheTemperature :
    let at_ (th : Int) := liveRecord 3 { set := some Tests.worked, theta := some [th] } 0 0
    Tests.worked.temps.length = 4 ∧ Tests.worked.points = 4 ∧ (∀ k < 3, Tests.worked.temps.getD k 0 + 16 ≤ Tests.worked.temps.getD (k + 1) 0) ∧
      (at_ 724).getD 0 0 = 14669 ∧ (at_ 724).getD 1 0 = 256 ∧ (at_ 724).getD 2 0 = -128 ∧ (at_ 724).getD 12 0 = 46 ∧
      (at_ 400).getD 0 0 = 0 ∧ (at_ 640).getD 12 0 = 40 ∧ (at_ 1120).getD 12 0 = 0 := by
  decide +kernel

theorem witness_CorrectionIsRecomputedAndFaded_2 :
    let s := { State.reset with emc := { State.reset.emc with ramp := some (3, 8) } }
    65536 ≤ Tests.sample.r ∧ s.emc.ramp = some (3, 8) ∧ s.rampStep 3 = 8192 ∧ s.rampStep 10 = 65536 ∧ s.rampStep 9 = 57344 := by
  decide +kernel

theorem witness_LampSupplyFollowsItsConditions :
    let s := Tests.lit
    let fault := { s with lmp := { s.lmp with fault := true } }
    let up := (s.putBit Reg.LMP_STATE Fld.LMP_STATE_PG true)
    let on := { up with lmp := { s.lmp with pwrAt := some 0, pgAt := some 5 } }
    let wait := { s with lmp := { s.lmp with pwrAt := some 0 } }
    (s.admits .spi Reg.LMP_CTRL 0x101 = true ∧ fieldOf 0x101 8 8 = 1 ∧
      Tests.after (.lampOn .spi 0x101) s (fun t => t.lmp.pwrAt.isSome) = true ∧
      Tests.after (.lampOn .spi 0x100) on (fun t => t.lmp.pwrAt.isNone) = true) ∧
    (fault.admits .spi Reg.LMP_CTRL 0x104 = true ∧ bitOf 0x104 2 = true ∧
      Tests.after (.faultClr .spi 0x104) fault (fun t => !t.lmp.fault) = true ∧
      Tests.after (.faultClr .spi 0x105) fault (fun t => t.lmp.fault) = true) ∧
    (Tests.after (.forceBlank .spi 0x102) s (fun t => bitOf (t.reg Reg.LMP_BLANK_SRC) 3) = true) ∧ (fieldOf 3 8 8 = 0) ∧
    (s.bit Reg.LMP_STATE Fld.LMP_STATE_PG = false ∧ Tests.after (.lampPgRise 5) s (fun t => t.lmp.pgAt == some 5) = true) ∧
    (on.bit Reg.LMP_STATE Fld.LMP_STATE_PG = true ∧ on.lmp.settled = false ∧
      Tests.after (.lampPgSettled (5 + msT)) on (fun t => t.lmp.settled) = true) ∧
    (wait.get Reg.LMP_CTRL Fld.LMP_CTRL_PG_TIMEOUT = 100 ∧
      Tests.after (.lampPgTimeout (100 * msT)) wait (fun t => t.lmp.fault && t.lmp.pwrAt.isNone) = true) ∧
    (Tests.after (.lampPgFall 9) on (fun t => t.lmp.fault && bitOf (t.reg Reg.LMP_BLANK_SRC) 5) = true) := by
  decide +kernel

theorem witness_BlankingRowsAndRequests_1 :
    let s := Tests.lit
    let r : SlotRec := Tests.litTl.slots.headD { kind := 0, index := 0, passes := 0, startNs := 0, lengthNs := 0, lineQ := 0, blankNs := 0, expFirst := 0, expPasses := 0 }
    let q : ShadowMsg := { wfn := 60, slot := 0, lineCount := 3, row := 2, entries := [], t := 0 }
    let u : ShadowRun := { req := q, firstLine := secT, cut := 0, ramping := false, starts := secT, ends := secT, entry := none }
    let z := { s with lmp := { s.lmp with run := some u } }
    let fits : ShadowRun := { u with ends := 2 * secT }
    let y := { s with lmp := { s.lmp with run := some fits } }
    (Tests.after (.blankNFall ⟨1, 6 * nsT⟩) s (fun t => t.blanked) = true ∧
      Tests.after (.blankNFall ⟨1, 3 * nsT - 1⟩) s (fun t => !t.blanked) = true ∧
      Tests.after (.blankNRise ⟨2, 6 * nsT⟩) (s.setReg Reg.LMP_BLANK_SRC 1) (fun t => !t.blanked) = true) ∧
    (s.lmp.map = some 1 ∧ s.drivenTimeline? 60 = some Tests.litTl ∧ imageSlot Tests.litTl 0 = some r ∧ 31 < r.passes * 16 ∧ s.blanked = false ∧
      s.runsLines 60 = true ∧ { s with flk := { s.flk with f0 := 61 } }.runsLines 60 = false ∧
      s.lmp.clearedAt + 50 * nsT ≤ latchTime Tests.litTl 60 0 ∧
      Tests.after (.lineStart (.image 60 0 0)) { s with lmp := { s.lmp with rowMap := [3] } } (fun t => t.lmp.rowOn == some 3) = true ∧
      Tests.after (.lineStart (.image 60 0 0)) { s with lmp := { s.lmp with rowMap := [16] } } (fun t => t.lmp.rowOn == none) = true ∧
      Tests.after (.lineStart (.image 60 0 31)) (s.setReg Reg.LMP_BLANK_SRC 1) (fun t => t.lmp.rowOn == none) = true) ∧
    (y.lmp.run = some fits ∧ fits.firstLine + 2 * r.lineQ * 8192 + r.lineQ * 8192 + 22 * y.cellT ≤ fits.ends ∧
      Tests.after (.lineStart (.shadow 2)) y (fun t => t.lmp.rowOn == some 2 && t.out.length == 2) = true) ∧
    (z.lmp.run = some u ∧ u.ends < u.firstLine + 2 * r.lineQ * 8192 + r.lineQ * 8192 + 22 * z.cellT ∧
      Tests.after (.lineStart (.shadow 2)) z (fun t => t.reg Reg.LMP_SHADOW_CUT == 1) = true) ∧
    (s.admits .spi Reg.LMP_CNT_CLEAR 1 = true ∧
      Tests.after (.lmpCntClear .spi) (s.setNum Reg.LMP_CUT 3) (fun t => t.reg Reg.LMP_CUT == 0) = true) := by
  decide +kernel

theorem witness_PicturesAreWrittenAndLatched :
    let s := Tests.lit
    let p : DecodedPic := { wfn := 60, slot := 0, pixels := [1, 2], breached := false, t := 0 }
    let d := { s with ccx := { s.ccx with decoded := [p] } }
    let w : GlintWrite := { stream := { wfn := 60, slot := 0, lanes := [] }, endsAt := 9 }
    let wr := { d with lmp := { d.lmp with write := some w } }
    let dn := { d with lmp := { d.lmp with done := [w.stream], lastLatch := some (60, 0, true) } }
    let hr := { d with flk := { d.flk with heldFrom := some 60 }, lmp := { d.lmp with replay := [w.stream] } }
    let no := { d with lmp := { d.lmp with lastLatch := some (60, 0, false) } }
    (d.tileChain?.isSome = true ∧ d.drivenTimeline? 60 = some Tests.litTl ∧ d.replayAt 60 = false ∧
      d.ccx.decoded.find? (fun q => q.wfn == 60 && q.slot == 0) = some p ∧ msT + 22 * d.cellT < latchTime Tests.litTl 60 0 ∧
      previousLatch Tests.litTl 60 0 ≤ secT - msT ∧ d.lmp.write = none ∧ d.written 60 0 = none ∧
      Tests.after (.glintWriteStart 60 0 (secT - msT)) d (fun t => t.lmp.write.isSome) = true) ∧
    (wr.lmp.cfgDue = none ∧ Tests.after (.glintWriteComplete 9) wr (fun t => t.lmp.done == [w.stream]) = true) ∧
    (hr.replayAt 60 = true ∧ hr.replayStream 60 0 = some w.stream ∧ hr.written 60 0 = none ∧
      Tests.after (.glintWriteStart 60 0 (secT - msT)) hr (fun t => t.lmp.write.map (·.stream) == some w.stream) = true ∧ 3 ≤ hr.lockState ∧
      Tests.after (.imageSlotLatch 60 0) hr (fun t => t.ccx.shown == [] && t.reg Reg.SCH_SLOT_REPEAT == 0) = true) ∧
    (dn.isTile = true ∧ 0 < Tests.litTl.nImage ∧ dn.drives 60 = true ∧ dn.flk.f0 ≤ 60 ∧ dn.bit Reg.LMP_STATE Fld.LMP_STATE_DARK = false ∧
      dn.pictureTagged 60 0 = false ∧
      Tests.after (.latchSequence 60 0) dn (fun t => t.out == [.glintLatch 0 true secT]) = true ∧
      Tests.after (.latchSequence 60 0) wr (fun t => t.reg Reg.LMP_CUT == 1 && t.reg Reg.LMP_NOSWAP == 1) = true ∧
      Tests.after (.latchSequence 60 0) (dn.putBit Reg.LMP_STATE Fld.LMP_STATE_DARK true) (fun t => t.out == [.glintDark]) = true) ∧
    (dn.timeline? = some Tests.litTl ∧ dn.flk.f0 ≤ 60 ∧ (dn.written 60 0).isSome = true ∧
      Tests.after (.imageSlotLatch 60 0) dn (fun t => t.ccx.shown == [(0, [1, 2])]) = true ∧ no.lockState = 3 ∧ no.written 60 0 = none ∧
      Tests.after (.imageSlotLatch 60 0) no (fun t => t.reg Reg.SCH_SLOT_REPEAT == 1 && t.reg (Reg.FLK_LATE 0) == 1) = true) := by
  decide +kernel

theorem witness_BlankingRowsAndRequests_2 :
    let s := Tests.lit
    let at_ := secT + 13000000 * nsT
    let q : ShadowMsg := { wfn := 60, slot := 0, lineCount := 3, row := 15, entries := [], t := at_ - 100 * usT }
    s.drivenNow? at_ = some Tests.litTl ∧ s.drives (wfnAt Tests.litTl at_) = true ∧ configPoint Tests.litTl at_ = true ∧ s.lmp.write = none ∧
      s.configBlocked Tests.litTl at_ (at_ + s.configLength 1) = false ∧
      Tests.after (.configFrameSend at_) s (fun t => t.lmp.darkSent == some 0) = true ∧
      configPoint Tests.litTl (at_ + 1) = false ∧ s.lmp.cfgDue = none ∧
      Tests.after (.configFrameSend (at_ + 1)) s (fun t => t.out == []) = true ∧
      Tests.after (.configFrameSend at_) { s with lmp := { s.lmp with write := some { stream := { wfn := 60, slot := 0, lanes := [] }, endsAt := 9 } } }
        (fun t => t.lmp.cfgDue == some at_) = true ∧
      s.configBlocked Tests.litTl secT (secT + s.configLength 1) = false ∧
      s.configBlocked Tests.litTl (secT - s.cellT) (secT + s.configLength 1) = false ∧
      s.configBlocked Tests.litTl (secT - 22 * s.cellT) (secT + s.configLength 1) = true ∧
      Tests.after (.configFrameSend (secT - 22 * s.cellT)) { s with lmp := { s.lmp with cfgDue := some (secT - 22 * s.cellT) } }
        (fun t => t.reg Reg.LMP_CFG_SKIP == 1 && t.lmp.cfgDue == none) = true ∧
      (shadowSlot Tests.litTl 0).isSome = true ∧
      Tests.after (.shadow q) s (fun t => t.lmp.shadows == [q]) = true ∧
      Tests.after (.shadow { q with row := 16 }) s (fun t => t.lmp.shadows == []) = true ∧
      Tests.after (.shadow { q with t := q.t + 1 }) s (fun t => t.reg Reg.LMP_SHADOW_LATE == 1) = true := by
  decide +kernel

theorem witness_RowOrderIsSampled :
    let s := { Tests.lit with lmp := { Tests.lit.lmp with clearedAt := 0 } }
    let bad := s.setNum (Reg.LMP_ROW_MAP 0) 0x03020101
    let swap := s.setNum (Reg.LMP_ROW_MAP 0) 0x03020001
    let x := { Tests.sample with wfn := 60, rowMap := [1, 0] }
    let y := { s with emc := { s.emc with samples := [x] } }
    s.isTile = true ∧ 2 ≤ s.lockState ∧ s.flk.f0 ≤ 60 ∧ swap.rowEntries 16 = [1, 0] ++ (List.range 16).drop 2 ∧
      Tests.after (.frameStart 59) swap (fun t => t.lmp.rowMap == swap.rowEntries 16 && (t.sampleOf 60).map (·.rowMap) == some (swap.rowEntries 16)) = true ∧
      Tests.after (.frameStart 59) bad (fun t => t.lmp.rowMap == List.range 64 && t.bit Reg.LMP_STATE Fld.LMP_STATE_MAP_BAD) = true ∧
      y.sampleOf 60 = some x ∧ y.runsLines 60 = true ∧ x.rowMap.getD (16 % 16) 0 < 16 ∧ Tests.after (.lineStart (.image 60 0 16)) y (fun t => t.lmp.rowOn == some 1) = true ∧
      State.reset.rowEntries 64 = List.range 64 := by
  decide +kernel

/-! ### Chapter 13 -/

/-- A cabinet with one reference entry of emitter 0 at sensor port 0. -/
def Tests.cabinet : Cabinet :=
  { lampMap := 1, rowMap := [], loopS := 10, ki := 16, outlier := 32, stepMax := 16, gainMin := 0x7000, gainMax := 0x9000, stale := 6,
    gains := [], sensors := [{ addr := 5, speed := 0, start := [], resultReg := 9, chCount := 1, satHi := 255 }],
    refs := [{ emitter := 0, lane := 0, driver := 0, channel := 0, row := 2, port := 0, sensorCh := 0, value := 1, minCount := 100,
               targets := [40000, 0, 0, 0] }] }

/-- A CAL_STORE command over SPI of an object and length. -/
def Tests.storeCmd (o len : Nat) : MboxCmd := Tests.cmd ([byteOf o, 0, 0, 0] ++ leBytes 4 len ++ leBytes 4 7)

theorem witness_ObjectsAreStored :
    let s := Tests.run .sender 3
    let x : CalStore := { object := 2, slot := 1, length := 300, crc := 0, generation := 1, body := [1, 2, 3], token := 0, phase := .checking }
    let x3 : CalStore := { x with object := 3 }
    let st (p : StorePhase) (y : CalStore) : State := { s with cal := { s.cal with store := some { y with phase := p } } }
    let b : StageBytes := { offset := 65534, bytes := [7, 8], t := 1 }
    let k := { s with emc := { s.emc with copying := some Tests.calset } }
    (b.offset + b.bytes.length ≤ s.stageBytes ∧ s.cal.store = none ∧
      Tests.after (.calStageData b) s (fun t => t.cal.staging == [(65534, 7), (65535, 8)]) = true ∧
      Tests.after (.calStageData b) (st .checking x) (fun t => t.reg Reg.CAL_STAGE_DROP == 1) = true) ∧
    (s.takes 0x502 (Tests.storeCmd 2 65280) = true ∧ largestBody 2 = 65280 ∧ s.longFull = false ∧ s.topGeneration 2 = 0 ∧
      noSlack (Tests.img .sender) = false ∧ bitOf (s.reg (Reg.CAL_SLOT 2)) 4 = false ∧
      Tests.after (.calStore (Tests.storeCmd 2 65280)) s (fun t => (t.cal.store.map (·.slot)) == some 1) = true ∧
      s.takes 0x502 (Tests.storeCmd 3 1) = true ∧ s.isSender = true ∧
      Tests.after (.calStore (Tests.storeCmd 3 1)) s (fun t => t.reg Reg.CAL_STORE_FAIL == 1) = true ∧
      (Tests.run .tile 3).takes 0x502 (Tests.storeCmd 3 33619712) = true) ∧
    (s.flashStopped = false ∧ 0 + 1 < slotBytes 3 / 65536 ∧ slotBytes 2 / 65536 = 1 ∧
      Tests.after (.flashOperationComplete false true 1) (st (.erasing 0) x3) (fun t => (t.cal.store.map (·.phase)) == some (.erasing 1)) = true ∧
      0 + 1 < ceilDiv 300 256 ∧
      Tests.after (.flashOperationComplete false true 1) (st (.programming 0) x) (fun t => (t.cal.store.map (·.phase)) == some (.programming 1) &&
        t.flashRead (slotBase 2 1) 4 == [1, 2, 3, 0xFF]) = true ∧
      Tests.after (.flashOperationComplete false false 1) (st .commit x) (fun t => t.get Reg.CAL_STATE Fld.CAL_STATE_RESULT == 6) = true) ∧
    (k.emc.copying = some Tests.calset ∧ Tests.after (.calsetCopyComplete 1) k (fun t => t.emc.accepted == some Tests.calset) = true) := by
  decide +kernel

theorem witness_TrimsAndGainsMove :
    let s := Tests.run .tile 3
    let i : TrimId := { kind := 0, index := 19, sub := 2 }
    let m := s.setTrim { id := i, current := 3, target := 9, steppedAt := some 0, before := 3 }
    let q : ShadowMsg := { wfn := 60, slot := 0, lineCount := 3, row := 2, entries := [], t := 0 }
    let u : ShadowRun := { req := q, firstLine := secT, cut := 0, ramping := false, starts := secT, ends := secT, entry := some 0 }
    let c := { s with cal := { s.cal with cabinet := some Tests.cabinet, measuring := some (0, false, false) }, lmp := { s.lmp with run := some u } }
    let g0 := (s.putBit Reg.CAL_STATE Fld.CAL_STATE_LOOP_OFF false).put (Reg.EMC_GAIN 0) ⟨0, 16⟩ 0x7E00
    let g := { g0 with cal := { s.cal with rhos := [(0, 67216)] } }
    (m.bit Reg.CAL_CTRL Fld.CAL_CTRL_TRIM_EN = true ∧ m.tileSide = true ∧ m.mayStep (m.trim i) (msT - 1) = false ∧ (trimIds true).contains i = true ∧ m.mayStep (m.trim i) secT = true ∧
      Tests.after (.trimStep i secT) m (fun t => (t.trim i).current == 4 && t.reg Reg.CAL_TRIM_STEPS == 1) = true) ∧
    (c.lmp.run = some u ∧ Tests.cabinet.refs.length = 1 ∧
      Tests.after (.shadowSlotEnd 1) c (fun t => t.out == [.i2cRead 0 5 9 1]) = true) ∧
    (c.expectedReading (Tests.cabinet.refs.headD { emitter := 0, lane := 0, driver := 0, channel := 0, row := 0, port := 0, sensorCh := 0, value := 0, minCount := 0, targets := [] }) = 40000 ∧
      Tests.after (.colourMeasurement (.results [39000]) 1) c (fun t => t.cal.rhos == [(0, 67216)] && t.reg Reg.CAL_MEAS_OK == 1) = true ∧
      Tests.after (.colourMeasurement .failed 1) c (fun t => t.reg Reg.CAL_MEAS_DROP == 1) = true) ∧
    (g.loopOn = true ∧ (g.tileChain?.map (·.emitters)) = some 3 ∧ fieldOf (g.reg Reg.CAL_LOOP_CFG) 0 6 = 10 ∧
      Tests.after (.colourLoopPeriod (10 * secT) []) g (fun t => t.get (Reg.EMC_GAIN 0) ⟨0, 16⟩ == 32272) = true ∧
      Tests.after (.colourLoopPeriod (10 * secT) [0]) g (fun t => t.get (Reg.EMC_GAIN 0) ⟨0, 16⟩ == 0x7E00) = true) ∧
    (s.admits .spi Reg.CAL_CNT_CLEAR 1 = true ∧
      Tests.after (.calCntClear .spi) (s.setNum Reg.CAL_TRIM_STEPS 3) (fun t => t.reg Reg.CAL_TRIM_STEPS == 0) = true) := by
  decide +kernel

/-! ### Chapter 14 -/

/-- A tile on two 2 GiB channels at set point 0 of two, with a switch window of 10 µs and DRAM ports 0 (real time) and 63 (bulk). -/
def Tests.dramImg : Image :=
  { Tests.img .tile with
    ports := [{ port := 0, cls := 0, channels := 3, bytesPerFrame := 6400, latencyTarget := 1000, deadline := 1000000 },
              { port := 63, cls := 1, channels := 3, bytesPerFrame := 0, latencyTarget := 1000, deadline := 0 }]
    dram := { chanMask := 3, spCodes := [2, 7], spBoot := 0, trackMs := 100, switchStart := 0, switchLen := 10000, poolBase := 0,
              poolSize := 65536, density := [1, 1, 0, 0, 0, 0, 0, 0], ports := [{ port := 0, winStart := 0, winLen := 1000 }] } }
def Tests.chan (c : Nat) : DramChan :=
  { channel := c, idleSince := 0, burst := none, trackDue := 5, srCommit := none, exiting := false, refOver := false }
def Tests.dramAt (chans : List DramChan) (ports : List DramPort) : State :=
  let s := Tests.run .tile 3
  { s with gen := { s.gen with running := some Tests.dramImg }, drc := { s.drc with chans := chans, ports := ports } }
def Tests.req (p a t : Nat) : DramReq :=
  { port := p, write := true, addr := a, words := 1, sub := 0, bank := 1, row := 7, data := [9, 8], t := t }

theorem witness_DramRequestsAreServed :
    let s := Tests.dramAt [Tests.chan 0, Tests.chan 1] []
    let d := Tests.dramImg.dram
    let q := Tests.req 63 (2 ^ 32 - 64) 10
    let sr (k : Nat) : State := Tests.dramAt [Tests.chan 0, { Tests.chan 1 with srCommit := some k }] []
    let h := s.putPort { freshPort 63 with head := some q }
    let n := { s with sch := { s.sch with instances := [Tests.inst (Tests.waits 0) (Tests.waits 1) 0] } }
    let pool := s.putPort { freshPort 63 with head := some (Tests.req 63 65472 10) }
    let m := { h with dram := [(2 ^ 32 - 63, 5), (2 ^ 32 - 62, 6)] }
    s.dramRec? = some d ∧ dramBytes d = 2 ^ 32 ∧ q.addr + 64 * q.words ≤ dramBytes d ∧ (s.portRec? 63).isSome = true ∧
      (s.dramPort 63).head = none ∧
      (match exec (.dramRequest { q with addr := 2 ^ 32 - 63 }) s with | .fault .unpopulatedDram => true | _ => false) = true ∧
      Tests.after (.dramRequest q) s (fun t => (t.dramPort 63).head == some q) = true ∧ s.channelOf 63 q.addr = 1 ∧
      Tests.after (.dramRequest q) (sr 11) (fun t => t.reg Reg.DRC_SR_ABANDON == 1) = true ∧
      Tests.after (.dramRequest q) (sr 10) (fun t => t.reg Reg.DRC_SR_COLLIDE == 1) = true ∧
      (s.portRec? 5).isNone = true ∧ (h.dramPort 63).head = some q ∧ Tests.after (.dramRequest q) h (fun t => t.drc == h.drc) = true ∧
      s.grantee? 20 = none ∧ h.pool = (0, 1) ∧ h.cmp.surfaces = [] ∧ q.write = true ∧ pool.grantee? 20 = some (Tests.req 63 65472 10) ∧
      Tests.after (.dramGrant 20) pool (fun t => t.dram == [] && t.reg Reg.CMP_RETIRED_DROP == 1) = true ∧
      Tests.after (.dramReadReturn { port := 0, addr := 0, words := 2, failed := [0, 1], failedAgain := [1], op := some (5, 1), t := 3 }) n
        (fun t => t.sch.instances.map (fun i => i.ops.map (·.tainted)) == [[false, true]]) = true ∧
      h.grantee? 20 = some q ∧
      Tests.after (.dramGrant 20) m (fun t => t.dram == [(2 ^ 32 - 64, 9), (2 ^ 32 - 63, 8), (2 ^ 32 - 62, 6)]) = true ∧
      Tests.after (.dramReadReturn { port := 0, addr := 0, words := 2, failed := [0, 1], failedAgain := [1], op := none, t := 3 }) s
        (fun t => t.reg Reg.DRC_META_ERR == 1) = true := by
  decide +kernel

theorem witness_DramRequestsAreServed_2 :
    let q := Tests.req 0 65536 10
    let at_ (v : Surface) : State := { Tests.dramAt [Tests.chan 0, Tests.chan 1] [{ freshPort 0 with head := some q }] with
      cmp := { State.reset.cmp with surfaces := [v] } }
    let live := at_ Tests.surf
    let old := at_ { Tests.surf with retiring := true }
    let packed := at_ { Tests.surf with layout := 2 }
    live.grantee? 20 = some q ∧ q.write = true ∧
      Tests.after (.dramGrant 20) live (fun t => t.dram == [(65536, 9), (65537, 8)]) = true ∧
      old.grantee? 20 = some q ∧ Tests.after (.dramGrant 20) old (fun t => t.dram == [] && t.reg Reg.CMP_RETIRED_DROP == 1) = true ∧
      packed.grantee? 20 = some q ∧ (packed.cmp.surfaces.map (·.layout)) = [2] ∧
      Tests.after (.dramGrant 20) packed (fun t => t.dram == [] && t.cmp.graphRaw == [(65536, 9), (65537, 8)]) = true := by
  decide +kernel

theorem witness_GrantsFollowUrgencyAndAge :
    let a := Tests.req 0 0 10
    let b := Tests.req 63 4096 4
    let s := Tests.dramAt [Tests.chan 0, Tests.chan 1] [{ freshPort 0 with head := some a }, { freshPort 63 with head := some b }]
    s.heads = [a, b] ∧ (s.heads.all (fun h => s.serves (s.channelOf h.port h.addr))) = true ∧ s.eligibleHead b = true ∧
      s.urgency a 20 = 1 ∧ s.urgency b 20 = 0 ∧ s.grantee? 20 = some a ∧ s.urgency a (10 + 1000 * nsT) = 3 ∧ s.urgency b (10 + 1000 * nsT) = 1 ∧
      s.grantee? (10 + 1000 * nsT) = some a ∧ (s.portRec? 63).map (·.cls) = some 1 := by
  decide +kernel

theorem witness_PagesRefreshAndSetPoints_1 :
    let row : OpenRow := { channel := 0, sub := 0, bank := 1, row := 7, lastAt := 0, cycles := 64 }
    let s := Tests.dramAt [Tests.chan 0, Tests.chan 1] []
    let o := { s with drc := { s.drc with rows := [row] } }
    let g := Tests.dramAt [{ Tests.chan 0 with burst := some 1 }, Tests.chan 1] []
    let w := { g with drc := { g.drc with inWindow := true } }
    let gd : GatherDone := { channel := 0, osc := 77, refOver := true, t := 9 }
    s.cycleT = 1250 * nsT / 1000 ∧ Tests.after (.pageIdleExpiry 0 0 1 (64 * s.cycleT)) o (fun t => t.drc.rows == []) = true ∧
      Tests.after (.pageIdleExpiry 0 0 1 (64 * s.cycleT - 1)) o (fun t => t.drc.rows == [row]) = true ∧
      s.dramChan? 0 = some (Tests.chan 0) ∧ s.bit Reg.DRC_STAT Fld.DRC_STAT_SWITCHING = false ∧ s.heads = [] ∧
      Tests.after (.gatherBurst 0 5) s (fun t => !t.serves 0) = true ∧ g.drc.inWindow = false ∧
      Tests.after (.gatherBurstComplete gd) g (fun t => t.drc.trained == [((0, 1), 77)] && t.bit Reg.DRC_STAT Fld.DRC_STAT_REF_OVER) = true ∧
      Tests.after (.gatherBurstComplete gd) w (fun t => t.bit Reg.DRC_STAT Fld.DRC_STAT_SWITCHING) = true := by
  decide +kernel

theorem witness_PagesRefreshAndSetPoints_2 :
    let s := Tests.dramAt [Tests.chan 0, Tests.chan 1] []
    let none_ := { s with gen := { s.gen with running := some { Tests.dramImg with dram := { Tests.dramImg.dram with switchLen := 0 } } } }
    let p := (s.putBit Reg.DRC_STAT Fld.DRC_STAT_PENDING true).put Reg.DRC_STAT Fld.DRC_STAT_SP_PENDING 1
    let sw := (s.putBit Reg.DRC_STAT Fld.DRC_STAT_SWITCHING true)
    let sw1 := { sw with drc := { s.drc with switchTo := 1 } }
    let again := ({ sw1 with drc := { sw1.drc with urgent := true } }.putBit Reg.DRC_STAT Fld.DRC_STAT_PENDING true).put
      Reg.DRC_STAT Fld.DRC_STAT_SP_PENDING 3
    let idle := s.setNum Reg.DRC_SR_CTRL 1
    let out := Tests.dramAt [{ Tests.chan 0 with srCommit := some 3, exiting := true }, Tests.chan 1] []
    s.admits .spi Reg.DRC_SP_CTRL 0xD = true ∧ fieldOf 0xD 0 2 = 1 ∧ s.spActive = 0 ∧ s.anySelfRefresh = false ∧
      Tests.after (.setPointGo .spi 0xD) s (fun t => t.bit Reg.DRC_STAT Fld.DRC_STAT_SWITCHING && t.drc.switchTo == 1) = true ∧
      Tests.after (.setPointGo .spi 0x9) s (fun t => t.spWaiting) = true ∧
      Tests.after (.setPointGo .spi 0x9) none_ (fun t => t.bit Reg.DRC_STAT Fld.DRC_STAT_REJECT) = true ∧
      Tests.after (.setPointGo .spi 0x8) p (fun t => !t.spWaiting) = true ∧ p.spWaiting = true ∧ p.drc.urgent = false ∧
      0 = p.instanceStart 0 + 0 * nsT ∧
      Tests.after (.switchWindow 0) p (fun t => t.drc.switchTo == 1) = true ∧ Tests.after (.switchWindow 1) p (fun t => t.regs == p.regs) = true ∧
      again.drc.urgent = true ∧ again.spWaiting = true ∧ again.get Reg.DRC_STAT Fld.DRC_STAT_SP_PENDING = 3 ∧
      Tests.after (.setPointSwitchComplete 1) again (fun t => t.spActive == 1 && t.drc.switchTo == 3) = true ∧
      Tests.after (.setPointSwitchComplete 1) sw1 (fun t => t.spActive == 1) = true ∧
      idle.trafficOpen Tests.dramImg 0 (2000 * nsT) = false ∧ idle.trafficOpen Tests.dramImg 0 (999 * nsT) = true ∧
      Tests.after (.selfRefreshIdle 0 (2000 * nsT) (2000 * nsT)) idle
        (fun t => t.drcView (Reg.DRC_CH_STAT 0) == some 3 && t.regs == idle.regs) = true ∧
      Tests.after (.selfRefreshExit 0 9) out (fun t => t.dramChan? 0 == some { Tests.chan 0 with idleSince := 9 }) = true ∧
      s.admits .spi Reg.DRC_CNT_CLEAR 1 = true ∧
      Tests.after (.drcCntClear .spi) (s.setNum Reg.DRC_SW_COUNT 3) (fun t => t.reg Reg.DRC_SW_COUNT == 0) = true := by
  decide +kernel

/-! ### Chapter 15 -/

/-- A running tile whose channels 3 and 4 convert diodes, `cfg` the configuration of channel 3. -/
def Tests.therm (cfg : Nat) : State :=
  ((Tests.run .tile 3).setNum (Reg.THM_CH_CFG 3) cfg).setNum (Reg.THM_CH_CFG 4) 0x101
/-- A conversion of an input with its forced-current voltage in range, or above 1.0 V. -/
def Tests.conv (i : Nat) (above : Bool) (theta : Int) (code : Nat) : Conv :=
  { input := i, uv := if above then 1000001 else 1000000, theta := theta, code := code }

theorem witness_ConversionsAreChecked_1 :
    let s := Tests.therm 0x101
    let n := ((Tests.therm 0x102).setNum (Reg.THM_NTC 0 3) 400).setNum (Reg.THM_NTC 0 4) 272
    let old (v : Int) : State := s.setTemp { s.tempChan 3 with history := [(0, v)] }
    let x := Tests.conv 3 false 952 0
    let c : Conversion := { convs := [x, Tests.conv 16 false 800 0, Tests.conv 17 false 801 0], t := 129 * msT }
    c.convs.find? (fun y => y.input == 3) = some x ∧ s.tempMode 3 = 1 ∧ n.tempMode 3 = 2 ∧ s.tempFailed 3 = false ∧
      s.tempLimits 3 = (-640, 2400) ∧ s.measure 1 (-640, 2400) [] (4 * msT) 5 x = (none, some 952) ∧
      s.measure 1 (-640, 2400) [] (4 * msT) 5 (Tests.conv 3 true 952 0) = (some 0, none) ∧
      s.measure 1 (-640, 2400) [] (4 * msT) 5 (Tests.conv 3 false 2401 0) = (some 2, some 2401) ∧
      olderReading ((old 911).tempChan 3).history c.t (4 * msT) = some 911 ∧
      s.measure 1 (-640, 2400) [(0, 911)] (4 * msT) (129 * msT) x = (some 3, some 952) ∧
      s.measure 1 (-640, 2400) [(0, 912)] (4 * msT) (129 * msT) x = (none, some 952) ∧
      n.ntcTheta 0 (3 * 128 + 1) = 399 ∧ n.measure 2 (-640, 2400) [] (4 * msT) 5 (Tests.conv 3 false 0 385) = (none, some 399) ∧
      n.measure 2 (-640, 2400) [] (4 * msT) 5 (Tests.conv 3 false 0 4095) = (some 0, none) ∧
      n.measure 2 (-640, 2400) [] (4 * msT) 5 (Tests.conv 3 false 0 0) = (some 1, none) := by
  decide +kernel

theorem witness_ConversionsAreChecked_2 :
    let s := Tests.therm 0x101
    let f := s.latchFailure 3 0
    let r := f.setTemp { f.tempChan 3 with rechecking := true, clean := 15 }
    let x := Tests.conv 3 false 952 0
    let c : Conversion := { convs := [x, Tests.conv 16 false 800 0, Tests.conv 17 false 801 0], t := 129 * msT }
    let l := { s.setNum Reg.THM_LEVEL 3 with thm := { s.thm with fallSince := some 5 } }
    c.convs.find? (fun y => y.input == 16) = some (Tests.conv 16 false 800 0) ∧
      s.measureDie 9 c.convs = some (none, some 801) ∧ s.tempFailed 16 = false ∧ s.umb.coreOut = true ∧ State.reset.umb.coreOut = false ∧
      s.measureDie 9 [Tests.conv 16 true 800 0, Tests.conv 17 false 801 0] = some (none, some 801) ∧
      s.measureDie 9 [Tests.conv 16 true 800 0, { Tests.conv 17 false 801 0 with uv := 99999 }] = some (some 0, none) ∧
      s.etaOf 3 = 0 ∧ s.measure 1 (-640, 2400) [] (4 * msT) 5 { x with uv := 99999 } = (some 1, none) ∧
      s.measure 1 (-640, 2400) [] (4 * msT) 5 { x with uv := 100000 } = (none, some 952) ∧
      (s.convertChannel 3 9 (some 2, some 2401)).tempFailed 3 = true ∧
      bitOf ((s.convertChannel 3 9 (some 2, some 2401)).reg Reg.CMD_EVT) 4 = true ∧
      (s.convertChannel 3 9 (none, some 952)).usable 3 = some 952 ∧
      r.tempFailed 3 = true ∧ (r.tempChan 3).rechecking = true ∧ (r.convertChannel 3 9 (none, some 952)).tempFailed 3 = false ∧
      l.level = 3 ∧ l.thm.fallSince = some 5 ∧ fieldOf (l.reg Reg.THM_THR) 16 8 = 10 ∧
      Tests.after (.levelFall (5 + 10 * secT)) l (fun t => t.level == 2) = true ∧
      Tests.after (.levelFall (4 + 10 * secT)) l (fun t => t.level == 3) = true := by
  decide +kernel

theorem witness_FailuresAreAcknowledged :
    let s := Tests.therm 0x101
    let f := s.latchFailure 3 0
    let g := f.latchFailure 14 1
    let d := 4 + 48 * 65536
    let w : Word := BitVec.ofNat 32 d
    let a := match exec (.substitute .spi 3 w) f with | .next t => t | _ => s
    let b := { a with thm := { a.thm with subWrites := [] } }
    f.admits .spi (Reg.THM_SUB 3) w = true ∧ f.tempFailed 3 = true ∧ f.tempFailed 4 = false ∧ a.tempAcked 3 = true ∧
      subOf (a.reg (Reg.THM_SUB 3)) = some (4, 48) ∧
      Tests.after (.substitute .spi 3 17) f (fun t => t.bit Reg.THM_STATE Fld.THM_STATE_SUB_BAD) = true ∧
      Tests.after (.substitute .spi 3 3) f (fun t => t.bit Reg.THM_STATE Fld.THM_STATE_SUB_BAD) = true ∧
      Tests.after (.substitute .spi 3 14) f (fun t => t.bit Reg.THM_STATE Fld.THM_STATE_SUB_BAD) = true ∧
      Tests.after (.substitute .spi 3 30) f (fun t => t.bit Reg.THM_STATE Fld.THM_STATE_SUB_BAD) = true ∧
      Tests.after (.substitute .spi 3 31) f (fun t => !t.bit Reg.THM_STATE Fld.THM_STATE_SUB_BAD) = true ∧
      Tests.after (.substitute .spi 3 31) a (fun t => !t.tempAcked 3) = true ∧
      Tests.after (.substitute .spi 4 3) f (fun t => t.bit Reg.THM_STATE Fld.THM_STATE_SUB_BAD) = true ∧
      b.tempAcked 3 = true ∧ b.tempMode 3 = 1 ∧ b.thm.subWrites = [] ∧ (b.tempChan 3).rechecking = false ∧
      ((b.convertChannel 4 9 (none, some 864)).substituteChannel 3).usable 3 = some 912 ∧
      ((b.latchFailure 4 0).substituteChannel 3).tempAcked 3 = false ∧
      g.admits .spi Reg.THM_CTRL 1 = true ∧ Tests.after (.guardAck .spi 1) g (fun t => t.tempAcked 14 && !t.tempAcked 3) = true ∧
      fieldOf (0x302 : Word) 8 5 = 3 ∧ Tests.after (.recheck .spi 0x302) g (fun t => (t.tempChan 3).rechecking) = true ∧
      s.admits .spi Reg.THM_CNT_CLEAR 1 = true ∧ Tests.after (.thmCntClear .spi) f (fun t => t.reg Reg.THM_FAILS == 0) = true := by
  decide +kernel

/-- A tile on with one guard pair as given; G1 has inputs 14 and 15. -/
def Tests.guarded (g : GuardPair) : State :=
  let s := (Tests.run .tile 3).setNum (Reg.THM_CH_CFG 14) 0x101
  { s with thm := { s.thm with pairs := [g] }, umb := { s.umb with powered := true } }
def Tests.pair1 (blank halt drop : Bool) : GuardPair :=
  { pair := 1, atBlank := blank, atHalt := halt, atDrop := drop, reached := false, belowSince := none, halted := false }
def Tests.guardConv (t : Nat) (theta : Int) : GuardConv :=
  { convs := [Tests.conv 16 false 0 0, Tests.conv 17 false 0 0, Tests.conv 14 false theta 0, Tests.conv 15 true 0 0], t := t }

theorem witness_GuardProtectsAndRestarts_1 :
    let s := Tests.guarded (Tests.pair1 true true true)
    let hot := { s with umb := { s.umb with stopAt := some 1 } }
    let five := { s with thm := { s.thm with stamps := [1, 2, 3, 4, 5] } }
    let g : GuardInput := { input := 14, value := none, fail := none, history := [], rechecking := false, clean := 0 }
    let o := (Tests.run .tile 3).setNum (Reg.THM_CH_CFG 14) 0
    let d : GuardInput := { g with input := 16, fail := some 0, clean := 15 }
    s.umb.powered = true ∧ hot.umb.stopAt.isSome = true ∧ s.guardLimits 1 = (1360, 1520) ∧ s.thm.pairs.filter (·.atHalt) = [Tests.pair1 true true true] ∧
      Tests.after (.guardConversion (Tests.guardConv 9 1360)) s (fun t => t.pairTemp 1 == some 1360 && t.bit Reg.THM_STATE Fld.THM_STATE_T_BLANK &&
        bitOf (t.reg Reg.LMP_BLANK_SRC) 2 && t.umb.coreReq && t.thm.halts == 0) = true ∧
      Tests.after (.guardConversion (Tests.guardConv 9 1359)) s (fun t => !t.bit Reg.THM_STATE Fld.THM_STATE_T_BLANK) = true ∧
      Tests.after (.guardConversion (Tests.guardConv 9 1520)) s (fun t => t.thm.halts == 1 && !t.umb.coreReq &&
        fieldOf (t.reg Reg.UMB_HALT_INFO) 0 2 == 2 && !t.bit Reg.UMB_STATE Fld.UMB_STATE_LOCKOUT) = true ∧
      Tests.after (.guardConversion (Tests.guardConv 9 1520)) five (fun t => t.bit Reg.UMB_STATE Fld.UMB_STATE_LOCKOUT) = true ∧
      Tests.after (.guardConversion (Tests.guardConv 9 1600)) hot (fun t => !t.umb.coreReq) = true ∧
      o.tempMode 14 = 0 ∧ (o.convertGuard (Tests.guardConv 9 0) g).fail = some 0 ∧
      o.measure 1 (-640, 2400) [] (100 * usT) 9 (Tests.conv 16 true 0 0) = (some 0, none) ∧
      o.measure 1 (-640, 2400) [] (100 * usT) 9 (Tests.conv 16 false 5 0) = (none, some 5) ∧
      (o.convertGuard (Tests.guardConv 9 5) d).fail = none ∧ (o.convertGuard (Tests.guardConv 9 5) d).value = some 0 ∧
      (o.convertGuard (Tests.guardConv 9 5) { d with clean := 14 }).fail = some 0 ∧
      s.tempMode 14 = 1 ∧ (s.convertGuard (Tests.guardConv 9 5) { g with fail := some 0, clean := 15 }).fail = some 0 ∧
      (let off : State := { s with umb := { s.umb with powered := false } }; off.umb.powered = false) := by
  decide +kernel

theorem witness_GuardProtectsAndRestarts_2 :
    let r := Tests.guarded { Tests.pair1 true false false with reached := true, belowSince := some 7 }
    let s := Tests.guarded (Tests.pair1 false false false)
    let stop := { s with umb := { s.umb with stopAt := some 5 } }
    let st : CalStore := { object := 1, slot := 0, generation := 1, crc := 0, length := 256, body := [], token := 1, phase := .programming 0 }
    let prog := { stop with cal := { stop.cal with store := some st } }
    let cool := { s with umb := { s.umb with coreReq := false, powered := true }, thm := { s.thm with waiting := true, coolSince := some 9 } }
    let lock := cool.putBit Reg.UMB_STATE Fld.UMB_STATE_LOCKOUT true
    let c := Tests.cmd []
    (r.thm.pairs.any (·.reached)) = true ∧
      Tests.after (.blankRelease (7 + secT)) r (fun t => !t.thm.pairs.any (·.reached)) = true ∧
      Tests.after (.blankRelease (6 + secT)) r (fun t => t.thm.pairs.any (·.reached)) = true ∧
      stop.umb.stopAt = some 5 ∧ s.umb.stopAt = none ∧ cool.umb.coreReq = false ∧
      Tests.after (.thermalRestart (9 + 60 * secT)) { cool with umb := { cool.umb with coreReq := true } }
        (fun t => !t.thm.waiting && t.thm.stamps.isEmpty) = true ∧
      stop.storeProgramming = false ∧ Tests.after (.corePowerDrop 6) stop (fun t => !t.umb.coreReq && t.pstate == 5) = true ∧
      prog.storeProgramming = true ∧ prog.umb.dropNow = false ∧
      Tests.after (.corePowerDrop 6) prog (fun t => t.umb.coreReq) = true ∧
      fieldOf (cool.reg Reg.THM_RESTART) 8 16 = 60 ∧
      Tests.after (.thermalRestart (9 + 60 * secT)) cool (fun t => t.umb.coreReq && t.umb.cause == 2 && t.thm.stamps.length == 1) = true ∧
      Tests.after (.thermalRestart (9 + 60 * secT)) lock (fun t => !t.umb.coreReq) = true ∧
      s.takes 0x404 c = true ∧
      Tests.after (.thermalUnlock c) (s.putBit Reg.UMB_STATE Fld.UMB_STATE_LOCKOUT true)
        (fun t => !t.bit Reg.UMB_STATE Fld.UMB_STATE_LOCKOUT) = true := by
  decide +kernel

theorem witness_HaltsRestartTheTimer :
    let s0 := Tests.guarded (Tests.pair1 true true false)
    let g (th : Int) : GuardConv := { convs := [Tests.conv 14 false th 0, Tests.conv 15 true 0 0], t := 9 }
    let s := { s0 with thm := { s0.thm with waiting := true, coolSince := some 3, stamps := [2] }, umb := { s0.umb with coreReq := false } }
    let n := { s with thm := { s.thm with coolSince := none } }
    s.thm.coolSince = some 3 ∧ s.umb.powered = true ∧ s.guardLimits 1 = (1360, 1520) ∧
      Tests.after (.guardConversion (g 1520)) s (fun t => t.pairTemp 1 == some 1520 && t.thm.coolSince == none && t.thm.waiting &&
        t.thm.stamps == [2] && t.thm.halts == 1) = true ∧
      Tests.after (.guardConversion (g 1200)) n (fun t => t.thm.coolSince == some 9) = true ∧
      Tests.after (.thermalRestart (9 + 99 * secT)) n (fun t => !t.umb.coreReq) = true := by
  decide +kernel

/-! ### Chapter 16 -/

/-- A sender that executes frames, primary or mirror, with RED_STATE `w` and the lockstep link running. -/
def Tests.link (mirror : Bool) (w : Nat) : State :=
  let s := (Tests.run .sender 3).setNum Reg.RED_STATE w
  let one : ParamVal := { spec := { id := 1, type := 0, apply := 3, size := 4, min := 0, max := 1, dflt := 0, blobDefault := [] }, value := [flag mirror] }
  { s with gen := { s.gen with params := [one] }, red := { s.red with linkUp := true } }
/-- Stamps of a link whose other end's wall time lies `off` × 2^-4 ns ahead, at a cable delay of nothing. -/
def Tests.stamps (off : Int) : PairStamps := { sent := 0, arrived := 0, turn := 0, departed := 16 * off }
def Tests.other (w : Word) (t : Nat) : StateRec :=
  { redState := w, redHealth := 0, wfn := 7, crcOk := true, stamps := Tests.stamps 5, breached := false, locked := true, t := t }

theorem witness_LinkRecordsKeepThePair :
    let f := Tests.link false 0x16
    let j := { Tests.link false 0x21 with red := { (Tests.link false 0x21).red with joinAt := some 3 } }
    let c := Tests.link false 0x0D
    let d := { Tests.link true 0 with red := { (Tests.link true 0).red with failedAt := some 3 } }
    f.isSender = true ∧ f.red.linkUp = true ∧ f.linkCode = 2 ∧ j.linkCode = 1 ∧ c.linkCode = 1 ∧ d.linkCode = 0 ∧
      Tests.after (.stateRecord (Tests.other 6 9)) f (fun t => t.bit Reg.RED_HEALTH Fld.RED_HEALTH_OTHER_ACTIVE && t.linkCode == 2 &&
        t.bit Reg.RED_STATE Fld.RED_STATE_IN_CONTROL && t.reg Reg.TIM_PAIR_OFFSET == 5) = true ∧
      pairOffset { sent := 0, arrived := 1000, turn := 200, departed := 600 } = 0 ∧
      Tests.after (.stateRecord { Tests.other 6 9 with crcOk := false }) f (fun t => t.reg Reg.RED_LINK_ERR == 1 && t.red.otherWfn == 0) = true ∧
      Tests.after (.stateRecord { Tests.other 6 9 with breached := true }) { f with red := { f.red with holdoffUntil := some 5 } }
        (fun t => t.red.holdoffUntil == some (9 + 10000 * msT)) = true ∧
      State.reset.isSender = false ∧
      j.bit Reg.RED_STATE Fld.RED_STATE_JOINER = true ∧ bitOf (1 : Word) 2 = false ∧ fieldOf (1 : Word) 0 2 = 1 ∧
      Tests.after (.stateRecord (Tests.other 1 9)) j (fun t => t.linkCode == 0 && t.get Reg.RED_STATE Fld.RED_STATE_JOIN_FAIL == 5) = true ∧
      c.bit Reg.RED_STATE Fld.RED_STATE_JOINER = false ∧ fieldOf (6 : Word) 0 2 = 2 ∧
      Tests.after (.stateRecord (Tests.other 6 9)) c (fun t => t.linkCode == 2 && t.reg Reg.RED_JOINS == 1) = true ∧
      Tests.after (.stateRecordSend 9) f (fun t => t.out.length == 1) = true ∧ f.red.stateAt = 0 ∧
      Tests.after (.linkStateTimeout (8 * usT)) f (fun t => t.linkCode == 0 && !t.red.linkUp) = true ∧
      Tests.after (.linkStateTimeout (8 * usT - 1)) f (fun t => t.linkCode == 2) = true ∧
      Tests.after (.leave 0xFE 9) f (fun t => t.linkCode == 0 && fieldOf (t.reg Reg.RED_LEAVE) 0 8 == 0xFE) = true ∧
      j.get Reg.RED_CFG Fld.RED_CFG_JOIN_TIMEOUT = 60 ∧
      Tests.after (.joinTimeout (3 + 60 * secT)) j (fun t => t.linkCode == 0 && t.get Reg.RED_STATE Fld.RED_STATE_JOIN_FAIL == 3) = true ∧
      Tests.after (.joinRetry (3 + 10 * secT)) d (fun t => t.red.failedAt == none && !t.out.isEmpty) = true := by
  decide +kernel

theorem witness_SendersJoin :
    let h : HelloRec := { position := 1, imageId := 0x1234, epoch := 0, current := true, crcOk := true, stamps := Tests.stamps 1600, t := 9 }
    let p := Tests.link false 0
    let v := Tests.surf
    let s := { p with cmp := { p.cmp with surfaces := [v] } }
    let c := Tests.link false 0x08
    let idle := p.put Reg.FLK_STATE Fld.FLK_STATE_STATE 2
    let hi : HelloIn := { position := 1, imageId := 0x1234, current := true, t := 9 }
    let known := { s with red := { s.red with hello := some hi } }
    let m := Tests.link true 0x16
    let mx := { m with chn := { m.chn with exp := [{ chain := 0, eseq := 3, want := 2, older := [], behind := 0, sentNow := false, inWindow := 0 }] } }
    let cv := Tests.link false 0xCD
    let j := Tests.link false 0x121
    let r : TileRec := { ta := 2, slots := 1, wfn := 5, slot := 0, qp := [20], firstCell := [0], lastSeq := [4], unusable := 0,
                         refreshPending := true, refreshDue := 1, entries := [] }
    let g : SliceSig := { ta := 2, wfn := 5, slot := 0, scrc := 11, fsig := 12 }
    let sg := { m with red := { m.red with sigs := [g] } }
    s.gen.running = some (Tests.img .sender) ∧ s.isMirror = false ∧ s.linkCode = 0 ∧ s.runs = true ∧ idle.runs = false ∧
      Tests.after (.hello { h with position := 0 }) s (fun t => t.get Reg.RED_STATE Fld.RED_STATE_JOIN_FAIL == 7) = true ∧
      Tests.after (.hello { h with imageId := 1 }) s (fun t => t.get Reg.RED_STATE Fld.RED_STATE_JOIN_FAIL == 1) = true ∧
      Tests.after (.hello { h with stamps := Tests.stamps (-1601) }) s (fun t => t.get Reg.RED_STATE Fld.RED_STATE_JOIN_FAIL == 2 && t.linkCode == 0) = true ∧
      Tests.after (.hello h) s (fun t => t.linkCode == 1 && t.bit Reg.RED_STATE Fld.RED_STATE_JOINER && t.cmp.surfaces == []) = true ∧
      Tests.after (.hello { h with current := false }) idle (fun t => t.linkCode == 2) = true ∧
      c.bit Reg.RED_STATE Fld.RED_STATE_IN_CONTROL = true ∧
      Tests.after (.hello h) { c with cmp := s.cmp } (fun t => t.linkCode == 1 && t.out.contains (.link (.config (.surface v)))) = true ∧
      Tests.after (.hello { h with crcOk := false }) s (fun t => t.reg Reg.RED_LINK_ERR == 1) = true ∧
      Tests.after (.helloRecheck (Tests.stamps 1601) 9) known (fun t => t.get Reg.RED_STATE Fld.RED_STATE_JOIN_FAIL == 2) = true ∧
      Tests.after (.helloRecheck (Tests.stamps 5) 9) known (fun t => t.linkCode == 1) = true ∧ m.follows = true ∧ s.follows = false ∧ j.follows = true ∧
      Tests.after (.configRecord (.register Reg.CDC_RET_CTRL 3) 9) m (fun t => t.retOn && t.cdc.idrDue) = true ∧
      streamReg (Reg.ING_STR_CTRL 3) = true ∧ streamReg (Reg.ING_STR_DST 3) = true ∧ streamReg Reg.CMP_COLOUR = false ∧
      Tests.after (.configRecord (.register (Reg.ING_STR_CTRL 3) 1) 9) m (fun t => t.streamOn 3) = true ∧
      Tests.after (.configRecord (.register (Reg.ING_STR_CTRL 3) 1) 9) (m.modStream 3 (fun x => { x with verdicts := [.table 0 0] }))
        (fun t => !t.streamOn 3 && (t.stream 3).verdicts == [.table 0 0, .table (Reg.ING_STR_CTRL 3) 1]) = true ∧
      Tests.after (.configRecord (.param 2 [7]) 9) m (fun t => t.param 1 0 == 1) = true ∧
      Tests.after (.configRecord (.express 0 2 7) 9) mx (fun t => t.chn.exp.map (·.eseq) == [7]) = true ∧
      Tests.after (.configRecord (.refreshQueue []) 9) m (fun t => t.ccx.refresh == []) = true ∧
      Tests.after (.configRecord (.memory 64 [1, 2]) 9) m (fun t => t.dram == [(64, 1), (65, 2)]) = true ∧
      Tests.after (.configRecord (.surface v) 9) m (fun t => t.cmp.surfaces == [v]) = true ∧
      Tests.after (.configRecord (.freed (handleOf v)) 9) { m with cmp := s.cmp } (fun t => t.cmp.surfaces == []) = true ∧
      j.linkCode = 1 ∧ Tests.after (.configRecord .last 9) j (fun t => t.get Reg.RED_STATE Fld.RED_STATE_PHASE == 3) = true ∧
      cv.get Reg.RED_STATE Fld.RED_STATE_PHASE = 3 ∧ cv.linkCode = 1 ∧ ((List.range 16).all (fun k => !cv.streamOn k)) = true ∧
      cv.channelsOf 0 = [] ∧ (cv.setReg (Reg.ING_STR_CTRL 3) 1).streamOn 3 = true ∧ 3 ∉ cv.red.promoted ∧
      Tests.after (.convergeEnd 9) cv (fun t => t.get Reg.RED_STATE Fld.RED_STATE_PHASE == 4 && t.red.toRecord == [0, 1, 2, 3]) = true ∧
      Tests.after (.commitRecord 6 9) m (fun t => t.cmp.sets.map (·.wfn) == [6]) = true ∧ m.formedMirror = true ∧
      Tests.after (.expressRecord 1 2 300 9) mx (fun t => t.chn.exp.map (·.eseq) == [44]) = true ∧
      Tests.after (.refreshRecord 2 5 0 9) m (fun t => t.ccx.refresh.map (·.ta) == [2]) = true ∧
      (j.chainOf? 2).isSome = true ∧ j.bit Reg.RED_STATE Fld.RED_STATE_JOINER = true ∧
      Tests.after (.tileRecord r 9) j (fun t => t.red.applied == [2] && (t.coder? 2).map (·.qp) == some [20]) = true ∧
      Tests.after (.sliceSig 2 5 0 11 13 9) sg (fun t => t.reg Reg.RED_DIVERGE == 1) = true ∧
      Tests.after (.sliceSig 2 5 0 11 12 9) sg (fun t => t.reg Reg.RED_DIVERGE == 0) = true := by
  decide +kernel

theorem witness_RingIsChecked :
    let g : SliceSig := { ta := 2, wfn := 5, slot := 0, scrc := 11, fsig := 12 }
    let q : Receipt := { ta := 2, wfn40 := 5, slot := 0, consumed := true, result := 1, scrc := 11 }
    let m := Tests.link true 0x16
    let rc (l : List Receipt) : State := { m with red := { m.red with sigs := [g], receipts := l, reports := [(4, 0)] } }
    let tile := Tests.run .tile 3
    let p := Tests.link false 0x10
    (m.timeline?.map (·.nImage)) = some 1 ∧ m.isSender = true ∧ m.agreed = true ∧
      Tests.after (.receiptCheck 2 5 0) (rc []) (fun t => t.reg Reg.RED_UNCLAIMED == 1 && t.ringBad 0) = true ∧
      Tests.after (.receiptCheck 2 5 0) (rc [{ q with consumed := false }]) (fun t => t.reg Reg.RED_UNCLAIMED == 1) = true ∧
      Tests.after (.receiptCheck 2 5 0) (rc [{ q with result := 0 }]) (fun t => t.reg Reg.RED_RING_LINK == 1) = true ∧
      Tests.after (.receiptCheck 2 5 0) (rc [q]) (fun t => t.regs == m.regs) = true ∧
      Tests.after (.receiptCheck 2 5 0) (rc [{ q with scrc := 10 }]) (fun t => t.reg Reg.RED_CODE_DIFF == 1 && t.reg Reg.RED_DIVERGE == 1) = true ∧
      m.bit Reg.RED_STATE Fld.RED_STATE_IN_CONTROL = false ∧
      Tests.after (.diverge 0 2 5 0 9) (rc []) (fun t => t.red.resync) = true ∧
      Tests.after (.health 2 [1, 2] 9) m (fun t => t.red.health == [{ ta := 2, bytes := [1, 2], t := 9 }]) = true ∧
      tile.isTile = true ∧ tile.get Reg.RED_CFG Fld.RED_CFG_HEALTH_S = 1 ∧ (tile.tick secT).now = secT ∧
      Tests.after (.healthSend secT) tile (fun t => t.chn.tx.length == 2) = true ∧
      Tests.after (.healthSend (secT + 1)) tile (fun t => t.chn.tx.length == 0) = true ∧
      Tests.after (.healthSend (secT + 1)) { tile with red := { tile.red with selectedAt := some secT } } (fun t => t.chn.tx.length == 2) = true ∧
      2 ∈ m.tas ∧ (m.tick (3 * secT)).tileSilent 2 = true ∧ (m.tick (3 * secT - 1)).tileSilent 2 = false ∧
      (m.chains.map (·.chain)).Nodup ∧ (m.chains.all (fun c => decide (c.chain < 4))) = true ∧
      Tests.after (.silentTimeout 2 (3 * secT)) m (fun t => t.get Reg.RED_HEALTH Fld.RED_HEALTH_SILENT == 4) = true ∧
      p.linkCode = 0 ∧ p.runs = true ∧ p.bit Reg.RED_STATE Fld.RED_STATE_CURRENT = true ∧
      Tests.after (.ringReturnLoss 9) p (fun t => t.bit Reg.RED_STATE Fld.RED_STATE_ACTIVE) = true ∧
      m.admits .spi Reg.RED_CNT_CLEAR 1 = true ∧
      Tests.after (.redCntClear .spi) (m.setNum Reg.RED_SWITCHES 4) (fun t => t.reg Reg.RED_SWITCHES == 0) = true := by
  decide +kernel

theorem witness_ControlIsHandedOver :
    let h0 := Tests.link false 0x212
    let h := { h0 with red := { h0.red with holdoffUntil := some 5 } }
    let ok := (h.put Reg.TIM_STATE Fld.TIM_STATE_STATE 2).put (Reg.CHN_PORT_STAT 0) Fld.CHN_PORT_STAT_STATE 7
    let m := Tests.link true 0
    let c := { Tests.cmd [] with t := 100 }
    let fm := Tests.link true 0x16
    h.red.holdoffUntil = some 5 ∧ ok.timeState = 2 ∧ (ok.chains.all (fun c => ok.portUp c.chain)) = true ∧ h.timeState ≠ 2 ∧
      Tests.after (.holdoffExpiry 5) ok (fun t => t.red.takeBack && !t.bit Reg.RED_STATE Fld.RED_STATE_HOLDOFF) = true ∧
      Tests.after (.holdoffExpiry 5) h (fun t => t.red.holdoffUntil == some (5 + 10000 * msT)) = true ∧
      m.isSender = true ∧ m.isMirror = true ∧ m.linkCode = 0 ∧ m.red.standbyUntil = 0 ∧ m.runs = true ∧ (m.tick 9).ringRecent = false ∧
      m.bit Reg.RED_STATE Fld.RED_STATE_ACTIVE = false ∧
      Tests.after (.startupStandbyExpiry 9) m (fun t => t.bit Reg.RED_STATE Fld.RED_STATE_ACTIVE && t.bit Reg.RED_STATE Fld.RED_STATE_COLD) = true ∧
      Tests.after (.holdoffExpiry 4) ok (fun t => !t.red.takeBack) = true ∧
      m.bit Reg.RED_STATE Fld.RED_STATE_IN_CONTROL = false ∧ m.dbg.bist = none ∧ m.takes 0x301 c = true ∧
      fm.takes 0x301 c = true ∧ (Tests.link false 0x1E).takes 0x301 c = true ∧ fm.takes 0x302 c = true ∧ fm.takes 0x303 c = true ∧
      (Tests.link false 0x1E).bit Reg.RED_STATE Fld.RED_STATE_IN_CONTROL = true ∧ fm.bit Reg.RED_STATE Fld.RED_STATE_IN_CONTROL = false ∧
      (Tests.link false 0x21).takes 0x301 c = true ∧ (Tests.link false 0x21).linkCode = 1 ∧ fm.dbg.bist = none ∧
      Tests.after (.pairRejoin c) fm (fun t => fieldOf (t.reg Reg.RED_LEAVE) 8 8 == 3) = true ∧
      h.takes 0x302 c = true ∧ h.linkCode = 2 ∧ h.isMirror = false ∧
      Tests.after (.pairTakeback c) h (fun t => t.red.takeBack && t.red.holdoffUntil == none) = true ∧
      h.takes 0x303 c = true ∧ Tests.after (.pairRelinquish c) h (fun t => t.red.relinquish) = true ∧
      m.takes 0x302 c = true ∧ m.takes 0x303 c = true := by
  decide +kernel

/-! ### Chapter 17 -/

/-- A tile whose power state is `p`, Umbra powered. -/
def Tests.power (p : Nat) : State :=
  let s := (Tests.run .tile 3).put Reg.UMB_STATE Fld.UMB_STATE_PSTATE p
  { s with umb := { s.umb with powered := true } }
/-- The same with the core's supply off. -/
def Tests.down (cause : Nat) : State :=
  let s := Tests.power 5
  { s with umb := { s.umb with coreReq := false, corePg := none, coreOut := false, cause := cause } }

theorem witness_StandbyAndWake :
    let s := Tests.power 2
    let e := { Tests.power 3 with umb := { (Tests.power 3).umb with entry := some 1 } }
    let d := Tests.power 4
    let u := Tests.down 0
    let lock := u.putBit Reg.UMB_STATE Fld.UMB_STATE_LOCKOUT true
    let pin := d.setNum Reg.UMB_WAKE_CFG 0x44
    let al := (d.setNum Reg.UMB_CTRL 5).setNum Reg.UMB_ALARM_S_LO 3
    let w := Tests.power 6
    let c := Tests.cmd []
    let snd := (Tests.run .sender 3).put Reg.TIM_STATE Fld.TIM_STATE_STATE 3
    s.takes 0x401 c = true ∧ s.pstate = 2 ∧ s.cal.store = none ∧ s.gen.admission = none ∧ s.tru.activation = none ∧ s.linkCode = 0 ∧
      s.umb.entry = none ∧ s.longFull = false ∧ Tests.after (.standby c) s (fun t => t.umb.entry == some s.cmd.nextToken) = true ∧
      w.takes 0x401 c = true ∧ w.pstate = 6 ∧ e.umb.entry = some 1 ∧ e.pstate = 3 ∧ Tests.after (.gatePoint 9) e (fun t => t.pstate == 4) = true ∧
      d.takes 0x402 c = true ∧ d.wakes = true ∧ Tests.after (.wake c) d (fun t => t.pstate == 6 && bitOf (t.reg Reg.UMB_WAKE_SRC) 6) = true ∧
      u.takes 0x402 c = true ∧ Tests.after (.wake c) u (fun t => t.umb.coreReq && t.umb.cause == 6) = true ∧
      Tests.after (.wake c) lock (fun t => !t.umb.coreReq) = true ∧
      e.takes 0x402 c = true ∧ e.wakes = true ∧ Tests.after (.wake c) e (fun t => t.pstate == 2 && t.lockState == 1 && t.umb.entry == none) = true ∧
      u.admits .spi Reg.UMB_CTRL 3 = true ∧ u.wakes = true ∧ Tests.after (.wakeWrite .spi 3) u (fun t => t.umb.coreReq) = true ∧
      bitOf (pin.reg Reg.UMB_WAKE_CFG) 2 = true ∧ bitOf (pin.reg Reg.UMB_WAKE_CFG) 3 = false ∧ pin.wakes = true ∧
      Tests.after (.wakePin 2 ⟨true, 9⟩) pin (fun t => t.pstate == 6) = true ∧
      Tests.after (.wakePin 2 ⟨false, 9⟩) pin (fun t => t.pstate == 4) = true ∧ w.wakes = false ∧ w.takes 0x402 c = true ∧
      (al.tick secT).umbraCount / secT ≠ al.alarmSecond ∧ e.umb.draining = false ∧ e.takes 0x401 c = true ∧ al.wakes = true ∧
      al.bit Reg.UMB_CTRL Fld.UMB_CTRL_ALARM_EN = true ∧ (al.tick (3 * secT)).umbraCount / secT = al.alarmSecond ∧
      Tests.after (.alarm (3 * secT)) al (fun t => t.pstate == 6) = true ∧
      w.gen.running.isSome = true ∧ w.pstate = 6 ∧
      Tests.after (.wakeComplete (3 * secT)) w (fun t => t.pstate == 2 && t.lockState == 1 && t.timeState == 0 && t.now == 3 * secT) = true ∧
      snd.isSender = true ∧ snd.timeState = 3 ∧ Tests.after (.tcxoStop 9) snd (fun t => t.timeState == 4) = true ∧
      Tests.after (.tcxoResume 9) s (fun t => t.bit Reg.UMB_STATE Fld.UMB_STATE_TCXO_OK) = true ∧ s.umb.coreOut = true ∧
      Tests.after (.umbraRealign (41 * nsT)) s (fun t => t.umbraCount == 40 * nsT) = true ∧
      s.regPathOpen .spi = true ∧ s.blockAnswers Reg.UMB_RTC_S_LO = true ∧ Tests.after (.rtcLatch .spi) s (fun t => t.out.length == 1) = true := by
  decide +kernel

theorem witness_PowerFailsAndReturns :
    let s := Tests.power 2
    let low := s.putBit Reg.UMB_STATE Fld.UMB_STATE_PF_WARN true
    let d := Tests.down 3
    let r := { d with umb := { d.umb with warned := true, pfAbove := some 7 } }
    let q := { d with umb := { d.umb with coreReq := true, reqAt := 4, tries := 1 } }
    let y := { d with umb := { d.umb with retryAt := some 8 } }
    s.bit Reg.UMB_STATE Fld.UMB_STATE_PF_WARN = false ∧ s.umb.coreReq = true ∧ s.cal.store = none ∧
      Tests.after (.pfWarning ⟨9, 2 * usT - 1⟩) s (fun t => t.umb.coreReq) = true ∧
      Tests.after (.pfWarning ⟨9, 2 * usT⟩) s (fun t => t.reg Reg.UMB_PF_CNT == 1 && !t.umb.coreReq && t.pstate == 5) = true ∧
      Tests.after (.pfSenseRise 9) low (fun t => t.umb.pfAbove == some 9) = true ∧
      r.bit Reg.UMB_CTRL Fld.UMB_CTRL_AUTO_RESTART = true ∧ r.umb.coreReq = false ∧ r.pstate = 5 ∧
      Tests.after (.pfRestart (7 + 100 * msT)) r (fun t => t.umb.coreReq && t.umb.cause == 3) = true ∧
      Tests.after (.pfRestart (7 + 100 * msT)) (r.setNum Reg.UMB_CTRL 0) (fun t => !t.umb.coreReq) = true ∧
      q.umb.coreReq = true ∧ q.umb.corePg = none ∧ Tests.after (.corePgRise 9) q (fun t => t.umb.corePg == some 9) = true ∧
      Tests.after (.corePgTimeout (4 + 50 * msT)) q (fun t => t.bit Reg.UMB_STATE Fld.UMB_STATE_PWR_FAULT && t.umb.tries == 2 && t.umb.retryAt.isSome) = true ∧
      Tests.after (.corePgTimeout (3 + 50 * msT)) q (fun t => t.umb.coreReq) = true ∧
      Tests.after (.pfRestart (6 + 100 * msT)) r (fun t => !t.umb.coreReq) = true ∧
      Tests.after (.powerRetry 7) y (fun t => !t.umb.coreReq) = true ∧
      Tests.after (.corePgTimeout (4 + 50 * msT)) { q with umb := { q.umb with tries := 2 } } (fun t => t.umb.retryAt == none) = true ∧
      Tests.after (.powerRetry 8) y (fun t => t.umb.coreReq && t.umb.cause == 3) = true ∧ s.umb.corePg.isSome = true ∧
      Tests.after (.corePgFall 9) s (fun t => t.bit Reg.UMB_STATE Fld.UMB_STATE_PWR_FAULT && t.reg Reg.UMB_PF_CNT == 1) = true := by
  decide +kernel

theorem witness_ResetsAndTheStart :
    let s := Tests.power 2
    let d := Tests.down 3
    let q := { d with umb := { d.umb with coreReq := true, corePg := some 4 } }
    let b0 := Tests.power 1
    let hold := { b0 with umb := { b0.umb with spiHold := true } }
    let boot := { b0 with gen := { b0.gen with running := none } }
    let off := { d with umb := { d.umb with powered := false } }
    let due := { d with umb := { d.umb with startDue := true, powerOnAt := 5 } }
    let c := Tests.cmd []
    q.umb.coreOut = false ∧ q.umb.corePg = some 4 ∧ q.tru.lifecycle ≠ Lc.SCRAPPED ∧
      Tests.after (.coreResetRelease 1 (4 + 2 * msT)) q (fun t => t.umb.coreOut && t.pstate == 1 && t.umb.spiHold && t.reg Reg.UMB_RESET_CAUSE == 8) = true ∧
      Tests.after (.coreResetRelease 1 (3 + 2 * msT)) q (fun t => !t.umb.coreOut) = true ∧
      Tests.after (.resetN 9) q (fun t => t.pstate == 1) = true ∧ d.umb.corePg = none ∧
      Tests.after (.coreResetRelease 2 (4 + 2 * msT)) q (fun t => t.recovery && !t.umb.spiHold) = true ∧
      Tests.after (.coreResetRelease 3 (4 + 2 * msT)) q (fun t => t.reg Reg.UMB_STRAPS == 7) = true ∧
      hold.admits .spi Reg.UMB_CTRL 8 = true ∧ hold.umb.spiHold = true ∧ hold.fwValid 0 = false ∧ hold.fwValid 1 = false ∧
      Tests.after (.bootGo .spi 8) hold (fun t => t.recovery && !t.umb.spiHold) = true ∧
      boot.pstate = 1 ∧ boot.umb.coreOut = true ∧ boot.recovery = false ∧ boot.gen.admission = none ∧ boot.gen.running = none ∧
      Tests.after (.firmwareStart 9) boot (fun t => t.gen.admission.isSome && t.get Reg.GEN_IMG_STATE Fld.GEN_IMG_STATE_STATE == 1) = true ∧
      s.umb.coreReq = true ∧ s.umb.corePg.isSome = true ∧ s.umb.coreOut = true ∧
      Tests.after (.resetN 9) s (fun t => t.pstate == 1 && t.umb.cause == 1 && t.gen.running.isNone) = true ∧
      Tests.after (.watchdogExpiry 9) s (fun t => t.umb.cause == 4) = true ∧ s.takes 4 c = true ∧ s.umb.downDue = false ∧
      Tests.after (.reset c) s (fun t => t.umb.cause == 5 && t.pstate == 1) = true ∧ s.takes 0x403 c = true ∧
      Tests.after (.powerDown c) s (fun t => t.pstate == 5 && !t.umb.coreReq) = true ∧ off.umb.powered = false ∧
      Tests.after (.umbraPowerOn 9) off (fun t => t.umb.powered && t.umb.startDue && t.thm.umbLost) = true ∧
      due.umb.startDue = true ∧ Tests.after (.powerOnStart (5 + 10 * msT)) due (fun t => t.umb.coreReq && t.umb.cause == 0) = true ∧
      Tests.after (.umbraSupplyLoss 9) s (fun t => !t.umb.powered) = true := by
  decide +kernel

/-! ### Chapter 18 -/

/-- A running tile in a lifecycle state. -/
def Tests.life (k : Nat) : State :=
  let s := Tests.run .tile 3
  { s with tru := { s.tru with lifecycle := k }, umb := { s.umb with powered := true } }
/-- A certificate of the right form. -/
def Tests.certBytes : List Byte :=
  ([0x44, 0x4E, 0x4B, 0x43, 1, 0, 1, 0, 9, 0, 0, 0, 0, 0, 0, 0] : List Byte) ++ zeroBytes 240
/-- A lifecycle token: TYPE, TARGET, valid on every device. -/
def Tests.token (type target : Byte) : List Byte := [type, target] ++ zeroBytes 144

theorem witness_KeysAndLifecycle :
    let s := Tests.life 2
    let r := Tests.life 3
    s.takes 0x108 (Tests.cmd Tests.certBytes) = true ∧ certForm Tests.certBytes = true ∧ s.flashStopped = false ∧
      s.takes 0x108 (Tests.cmd (zeroBytes 256)) = true ∧ certForm (zeroBytes 256) = false ∧
      s.issuerKey (certIssuer Tests.certBytes) (certUsage Tests.certBytes) = none ∧
      s.takes 0x109 (Tests.cmd (Tests.token 1 2)) = true ∧ byteAt (Tests.token 1 2) 0 = 1 ∧ byteAt (Tests.token 1 2) 1 = 2 ∧
      allZero (slice (Tests.token 1 2) 26 6) = true ∧ allZero (slice (Tests.token 1 2) 2 16) = true ∧
      s.tokenCert (Tests.token 1 2) = none ∧ (s.setLifecycle 3).tru.lifecycle = 3 ∧
      s.takes 0x10A (Tests.cmd []) = true ∧ Tests.after (.scrap (Tests.cmd [])) r (fun t => t.tru.lifecycle == 4) = true ∧
      Tests.after (.scrap (Tests.cmd [])) s (fun t => t.tru.lifecycle == 2) = true ∧
      s.takes 0x10B (Tests.cmd (zeroBytes 32)) = true ∧
      ({ s with umb := { s.umb with stopAt := some 5 } } : State).flashStopped = true ∧
      s.takes 0x109 (Tests.cmd (Tests.token 4 2)) = true ∧ byteAt (Tests.token 4 2) 0 = 4 := by
  decide +kernel

/-- A session for firmware slot B of 8 bytes, over SPI. -/
def Tests.session (acc : List Nat) (ending : Option Nat) : StageSession :=
  { type := 0, slot := 1, length := 8, path := .spi, parts := [], accepted := acc, lastAt := 5, buffer := [], ending := ending }
def Tests.staging (r : Role) (x : StageSession) : State :=
  let s := Tests.run r 2
  { s with tru := { s.tru with sessions := [x] } }
/-- A block's STAGE_DATA: block 0 at an offset with a CRC. -/
def Tests.blockCmd (off crc : Nat) (data : List Byte) : MboxCmd :=
  Tests.cmd (([0, 0, 0, 0] : List Byte) ++ leBytes 4 off ++ leBytes 4 crc ++ data)

theorem witness_ObjectsAreStaged :
    let n := Tests.run .sender 2
    let s := Tests.staging .sender (Tests.session [] none)
    let full := Tests.staging .sender (Tests.session [0] none)
    let busy := Tests.staging .sender (Tests.session [0] (some 7))
    let d : List Byte := [1, 2, 3, 4, 5, 6, 7, 8]
    let b := Tests.cmd ([0, 1, 0, 0] ++ leBytes 4 8)
    let e := Tests.cmd [0, 0, 0, 0]
    let x := Tests.session [] none
    n.takes 0x101 b = true ∧ n.runningSlot 0 = some 0 ∧ n.session? 0 = none ∧ n.tru.activation = none ∧ n.gen.admission = none ∧
      stageSize 0 = 0x400000 ∧ Tests.after (.stageBegin b) n (fun t => (t.session? 0).any (fun y => y.slot == 1 && y.length == 8)) = true ∧
      s.takes 0x101 b = true ∧ (s.session? 0).isSome = true ∧
      s.takes 0x102 (Tests.blockCmd 0 (crc32c d) d) = true ∧ s.session? 0 = some x ∧ samePath .spi x.path = true ∧ blockCount 8 = 1 ∧
      blockBytes 8 0 = 8 ∧
      Tests.after (.stageData (Tests.blockCmd 0 (crc32c d) d)) s (fun t => t.flashRead 0x440000 8 == d && (t.session? 0).any (·.accepted == [0])) = true ∧
      Tests.after (.stageData (Tests.blockCmd 0 5 d)) s (fun t => t.reg Reg.TRU_CRC_ERR == 1) = true ∧
      Tests.after (.stageData (Tests.blockCmd 4 5 (d.take 4))) s (fun t => (t.session? 0).any (·.parts.length == 1)) = true ∧
      Tests.after (.stageData (Tests.blockCmd 0 (crc32c d) d)) { s with umb := { s.umb with stopAt := some 5 } }
        (fun t => t.session? 0 == none && t.get Reg.TRU_STAGE Fld.TRU_STAGE_RESULT == 6) = true ∧
      busy.workLeft 7 = false ∧ busy.takes 0x103 e = true ∧
      (List.range (blockCount 8)).all (fun b => (Tests.session [0] none).accepted.contains b) = true ∧
      Tests.after (.stageTimeout 0 (4 + 60 * secT)) s (fun t => (t.session? 0).isSome) = true ∧
      samePath .spi .pcie = false ∧ (Tests.staging .sender { x with path := .pcie }).takes 0x104 e = true ∧
      s.takes 0x103 e = true ∧ s.longFull = false ∧ s.gen.running.any noSlack = false ∧
      Tests.after (.stageEnd e) s (fun t => t.get Reg.TRU_STAGE Fld.TRU_STAGE_RESULT == 1) = true ∧
      Tests.after (.stageEnd e) full (fun t => (t.session? 0).any (·.ending.isSome)) = true ∧
      busy.session? 0 = some (Tests.session [0] (some 7)) ∧ busy.stageCheck (Tests.session [0] (some 7)) = (St.STAGE_FORMAT, 2) ∧
      Tests.after (.stageVerifyComplete 0 9) busy (fun t => t.get Reg.TRU_STAGE Fld.TRU_STAGE_RESULT == 2 && t.bit Reg.TRU_STAGE Fld.TRU_STAGE_DONE) = true ∧
      s.takes 0x104 e = true ∧ Tests.after (.stageAbort e) s (fun t => t.session? 0 == none) = true ∧
      Tests.after (.stageTimeout 0 (5 + 60 * secT)) s (fun t => t.session? 0 == none && t.get Reg.TRU_STAGE Fld.TRU_STAGE_RESULT == 8) = true ∧
      s.admits .spi Reg.TRU_CNT_CLEAR 1 = true ∧
      Tests.after (.truCntClear .spi) (s.setNum Reg.TRU_CRC_ERR 5) (fun t => t.reg Reg.TRU_CRC_ERR == 0) = true := by
  decide +kernel

theorem witness_ImagesAreActivated :
    let s := Tests.run .sender 3
    let j (b : Bool) : State := { s with gen := { s.gen with admission := some { staged := b, slot := 1, token := 7 } } }
    let a : Activation := { token := 7, type := 0, reboot := false, wfn := 5, at_ := 9, before := s.tru.desc }
    let act (x : Activation) : State := { s with tru := { s.tru with activation := some x } }
    let ready := { s with tru := { s.tru with verified := [(0, 1)] } }
    let trial := { s with tru := { s.tru with fwTrial := true, fwSlot := 1, siTrial := true } }
    let c := Tests.cmd ([0, 0, 0, 0] ++ zeroBytes 6)
    let k := Tests.cmd [0, 0, 0, 0]
    s.takes 0x105 (Tests.cmd []) = true ∧ s.gen.running = some (Tests.img .sender) ∧ s.gen.admission = none ∧ noSlack (Tests.img .sender) = false ∧
      s.longFull = false ∧ Tests.after (.admitStaged (Tests.cmd [])) s (fun t => t.gen.admission.isSome && t.bit Reg.GEN_ADM_STATUS Fld.GEN_ADM_STATUS_BUSY) = true ∧
      (j true).takes 0x105 (Tests.cmd []) = true ∧ (j true).gen.admission.isSome = true ∧
      (admitBytes (s.slotByte 1 1) (s.admCtx 1 [] true)).isNone = false ∧
      Tests.after (.admissionComplete [] 9) (j true) (fun t => t.gen.admission == none && t.gen.admitted == none) = true ∧
      s.tru.siSlot = 0 ∧ Tests.after (.admissionComplete [] 9) (j false) (fun t => t.recovery) = true ∧
      s.takes 0x106 c = true ∧ (s.tick 100).activateRefused 0 false 0 = some St.NOT_VERIFIED ∧
      ready.takes 0x106 c = true ∧ (ready.tick 100).activateRefused 0 false 0 = none ∧
      Tests.after (.activate c) ready (fun t => t.tru.desc.fw.trial == some 1 && t.get Reg.TRU_BOOT Fld.TRU_BOOT_ACT == 1 &&
        t.tru.activation.any (fun a => a.wfn == 1)) = true ∧
      ((j true).workLeft 7) = false ∧ (((act a).tick 9).shedAll 9).anyIssued = false ∧ ready.activateBusy = false ∧
      (act a).activateBusy = true ∧ s.timeline? = some Tests.tl ∧ frameStart Tests.tl 1 < (s.tick secT).now + 2 * msT ∧
      s.siReady false = false ∧ s.fwVerified = false ∧ ready.fwVerified = true ∧ s.gen.activating = false ∧ s.recovery = false ∧
      Tests.after (.activateCommit 9) (act { a with reboot := true }) (fun t => t.pstate == 1 && t.umb.cause == 5) = true ∧
      Tests.after (.activateCommit 9) (act a) (fun t => t.gen.activating && t.lockState == 1 && t.tru.fwTrial) = true ∧
      (act { a with type := 1 }).tru.activation = some { a with type := 1 } ∧
      trial.takes 0x107 k = true ∧ trial.flashStopped = false ∧
      Tests.after (.confirm k) trial (fun t => !t.tru.fwTrial && t.tru.desc.fw.running == 1) = true ∧
      s.takes 0x107 k = true ∧ s.tru.fwTrial = false ∧ (trial.reg Reg.TRU_CONFIRM_S).toNat = 600 ∧ trial.runs = true ∧ trial.tru.runSince = 0 ∧
      Tests.after (.confirmTimeout (600 * secT - 1)) trial (fun t => t.tru.fwTrial) = true ∧
      Tests.after (.activateCommit 8) (act a) (fun t => !t.gen.activating) = true ∧
      Tests.after (.confirmTimeout (600 * secT)) trial (fun t => !t.tru.fwTrial && !t.tru.siTrial) = true := by
  decide +kernel


/-! ### The meter -/

/-- A device with its meter powered, MODE ON or OFF, the seal closed or open. -/
def Tests.meter (r : Role) (on sealed : Bool) : State :=
  let s := Tests.run r 3
  let s1 := (s.setNum Reg.MET_CFG (60 * 16 + flag on)).setNum Reg.MET_DIV 20
  { s1 with met := { s1.met with powered := true, sealed := sealed } }

theorem witness_EnergyIsMeasured :
    let s := Tests.meter .tile true false
    let off := Tests.meter .tile false false
    let shut := Tests.meter .tile true true
    let m : MeterSampleIn := { shunt := 6400, bus := 64000000, shuntOpen := false, busRange := false, t := 9 }
    let full := { s with met := { s.met with records := [(3, [1, 2])], events := [(4, [5])] } }
    let due := { s with met := { s.met with offerDue := true } }
    let hot := { s with met := { s.met with energy := 2 ^ 33 + 7 } }
    let c := Tests.cmd [0, 0, 0, 0, 3, 0, 0, 0]
    s.met.powered = true ∧ s.meterOn = true ∧ 0 < s.meterProduct m ∧
      Tests.after (.meterSample m) s (fun t => t.met.remainder == s.meterProduct m % meterUnit && t.met.senseFault == 0) = true ∧
      Tests.after (.meterSample { m with shuntOpen := true }) s (fun t => t.met.senseFault == 1 && t.met.eventCount == s.met.eventCount + 1) = true ∧
      off.meterOn = false ∧ hot.regPathOpen .spi = true ∧ hot.blockAnswers Reg.MET_ENERGY_LO = true ∧
      Tests.after (.energyLatch .spi) hot (fun t => t.metView .spi Reg.MET_ENERGY_HI == 2) = true ∧
      Tests.after (.meterRead true 0x14) hot (fun t => t.out.head? == some (.meter [7, 0, 0, 0])) = true ∧
      metConfig 0x120004 = true ∧ shut.met.sealed = true ∧ (rowOf 0x120008).isSome = true ∧ metValueOk 0x120008 30 = true ∧
      Tests.after (.meterWrite true 8 30 9) s (fun t => t.reg Reg.MET_DIV == 30 && t.met.eventCount == s.met.eventCount + 1) = true ∧
      Tests.after (.meterWrite true 8 20 9) shut (fun t => t.out.head? == some .meterSealed) = true ∧
      s.met.sealed ≠ true ∧ off.met.sealed ≠ true ∧ s.met.opened.start ≠ (s.tick secT).umbraCount ∧
      Tests.after (.sealTransition true secT) s (fun t => t.met.sealed && t.met.nextSeq == s.met.nextSeq + 1) = true ∧
      Tests.after (.sealTransition true secT) off (fun t => t.met.sealed && t.met.nextSeq == s.met.nextSeq) = true ∧
      due.met.offerDue = true ∧ due.isTile = true ∧
      Tests.after (.lightOffer { wfn := 1, slot := 0, blanked := [], t := 9 }) due (fun t => !t.met.offerDue) = true ∧
      Tests.after (.recordFetch true 3) full (fun t => t.out.head? == some (.meter [1, 2])) = true ∧
      Tests.after (.eventFetch true 3) full (fun t => t.out.head? == some .meterNotFound) = true ∧
      ({ s with met := { s.met with powered := false } } : State).met.powered = false ∧
      full.takes 0x505 c = true ∧ byteAt c.body 0 = 0 := by
  decide +kernel

theorem witness_RecordsAreClosedAndSigned :
    let s := Tests.meter .tile true false
    let shut := Tests.meter .tile true true
    let p : MetPage := { event := true, number := 3, closed := 0, causes := 0, body := [1] }
    let wait (e bad : Bool) : State := { s with met := { s.met with toWrite := [{ p with event := e }], fwBad := bad } }
    let dead := { s with met := { s.met with powered := false, eventCount := 200, retained := true, fuses := 1 } }
    let b : MeterBlock := { index := 0, bytes := zeroBytes 4096, crc := 0 }
    let ready := { s with met := { s.met with updating := true, fwVerified := true } }
    let c := Tests.cmd (List.replicate 16 (7 : Byte) ++ [0, 0, 0, 0, 1, 0, 0, 0])
    s.met.powered = true ∧ s.meterOn = true ∧ (s.tick (60 * secT)).umbraCount % (s.recordS * secT) = 0 ∧
      s.met.opened.start ≠ (s.tick (60 * secT)).umbraCount ∧
      Tests.after (.recordClose (60 * secT)) s (fun t => t.met.nextSeq == s.met.nextSeq + 1 && t.met.toWrite.length == s.met.toWrite.length + 1) = true ∧
      (wait true true).met.fwBad = true ∧ (wait true false).met.fwBad = false ∧
      Tests.after (.recordProgrammed none 9) (wait true false) (fun t => t.met.toWrite == []) = true ∧
      Tests.after (.recordProgrammed none 9) (wait false false) (fun t => t.reg Reg.MET_REC_SEQ == 3) = true ∧
      Tests.after (.recordProgrammed (some 64) 9) (wait true false) (fun t => t.met.events == s.met.events) = true ∧
      s.takes 0x504 c = true ∧ Tests.after (.metTag c) s (fun t => t.met.tags.length == 1) = true ∧
      Tests.after (.meterSupplyTrip 9) (wait true false) (fun t => !t.met.powered && t.met.toWrite == []) = true ∧
      dead.met.powered = false ∧ dead.umb.powered = true ∧ fuseFloor 1 = 128 ∧
      shut.met.sealed = true ∧ s.met.sealed = false ∧ b.bytes.length = 4096 ∧ b.index < 256 ∧
      Tests.after (.meterFwBlock true b) shut (fun t => t.out.head? == some .meterSealed) = true ∧
      s.met.fwVerified = false ∧ ready.met.fwVerified = true ∧ ready.met.sealed = false ∧
      Tests.after (.meterActivate true 9) ready (fun t => t.met.fwSlot == 1 && !t.met.updating) = true := by
  decide +kernel

/-! ### The mailbox -/

/-- A command on the completion ring's path. -/
def Tests.pcie (body : List Byte) : MboxCmd := { Tests.cmd body with path := .pcie }

/-- A running sender with the rings on. -/
def Tests.rings : State :=
  let s := Tests.run .sender 3
  (s.setNum Reg.CMD_RING_CFG 0x10D06).setNum Reg.CMD_CQ_BASE_LO 4096

/-- A relay of TILE_REG to tile 1 in flight. -/
def Tests.flight (isReg : Bool) (sends : Nat) : Relay :=
  { ta := 1, msgTag := 0, isReg := isReg, path := .spi, hostOpcode := 0x601, hostTag := 9, msgType := Msg.REG_RD, bodies := [[1, 2, 3, 4]],
    sentAt := some 100, sends := sends }

def Tests.flying (isReg : Bool) (sends : Nat) : State :=
  let s := Tests.run .sender 3
  { s with cmd := { s.cmd with relays := [Tests.flight isReg sends] } }

theorem witness_CommandsAreCheckedAndAnswered :
    let s := Tests.run .sender 3
    let n := Tests.cmd []
    let ring := Tests.rings
    let full := ring.setNum Reg.CMD_CQ_TAIL 8192
    let busy := Tests.flying true 1
    let op (k : Nat) : LongOp := { token := 5, opcode := k, tag := 8, owner := some .spi, startWfn := 0, detail := 0 }
    let runs (k : Nat) : State := { s with cmd := { s.cmd with longOps := [op k] } }
    let late := { runs 0x106 with gen := { s.gen with activating := true } }
    let kept (b : Bool) : State :=
      let r : Response := { opcode := 0x503, tag := 8, status := 0, flags := 2, token := 5, detail := 0, wfn := 0, body := [] }
      { s with cmd := { s.cmd with kept := [{ record := r, owner := none, aborted := b }] } }
    let tok := Tests.cmd [5, 0, 0, 0]
    s.takes 0 n = true ∧ n.path = .spi ∧ (s.tick n.t).pathOpen n.path = true ∧ (s.tick n.t).creditsHeld n.path < creditLimit n.path ∧
      { n with len := 4 }.len ≠ n.body.length ∧ allZero { n with reserved := [1] }.reserved = false ∧
      (s.put Reg.UMB_STATE Fld.UMB_STATE_PSTATE 5).acceptsOpcode 0 = false ∧
      creditLimit .spi ≤ (busy.tick n.t).creditsHeld .spi ∧ (busy.tick n.t).pathOpen .spi = true ∧
      Tests.after (.nop n) busy (fun t => t.reg (Reg.CMD_CREDIT_DROP 2) == 1) = true ∧ (s.tick 100).pathOpen .pcie = false ∧
      Tests.after (.nop n) s (fun t => t.reg Reg.CMD_SPI_CTRL == 2) = true ∧
      ring.takes 0 (Tests.pcie []) = true ∧ ring.cmd.waitingRsp = [] ∧
      Tests.after (.nop (Tests.pcie [])) ring (fun t => t.reg Reg.CMD_CQ_TAIL == 1) = true ∧
      Tests.after (.nop (Tests.pcie [])) full (fun t => t.cmd.waitingRsp.length == 1) = true ∧
      s.takes 2 tok = true ∧ s.takes 3 tok = true ∧ (runs 0x503).longOp? 5 = some (op 0x503) ∧ mayAbort (some .spi) .spi = true ∧
      mayAbort (some .pcie) .spi = false ∧ Tests.after (.abort tok) (runs 0x503) (fun t => t.longOp? 5 == none) = true ∧
      late.takes 3 tok = true ∧ late.gen.activating = true ∧ (kept true).longOp? 5 = none ∧ ((kept true).kept? 5).isSome = true ∧
      (kept true).takes 3 tok = true ∧ s.longOp? 5 = none ∧ s.kept? 5 = none ∧ s.takes 1 n = true ∧
      (s.summaryHead .spi).length = 496 ∧ counterAddrs.length ≤ 768 := by
  decide +kernel

theorem witness_ParametersAndHoldsAreTaken :
    let s := Tests.run .sender 3
    let w (id : Nat) (v : Nat) : MboxCmd := Tests.cmd (leBytes 2 id ++ zeroBytes 2 ++ leBytes 4 1 ++ leBytes 4 v)
    let h (f : Nat) : MboxCmd := Tests.cmd (leBytes 6 f)
    let heldS := { s with flk := { s.flk with heldFrom := some 1 } }
    let act := { s with gen := { s.gen with activating := true } }
    let mir := Tests.link true 0x16
    let t5 := Tests.cmd [0, 0, 0, 0]
    let idle := { s with gen := { s.gen with running := none } }
    s.takes 7 (w 2 7) = true ∧ s.gen.activating = false ∧ (s.paramVal? 2).isSome = true ∧ (s.paramVal? 9).isSome = true ∧
      Tests.after (.paramWrite (w 2 7)) s (fun t => (t.paramVal? 2).any (fun p => p.value == [7])) = true ∧
      Tests.after (.paramWrite (w 2 70000)) s (fun t => (t.paramVal? 2) == s.paramVal? 2) = true ∧
      Tests.after (.paramWrite (w 9 7)) s (fun t => t.gen.pendingParams.length == 1) = true ∧
      act.takes 7 (w 2 7) = true ∧ s.takes 8 (Tests.cmd [2, 0, 0, 0]) = true ∧
      Tests.after (.paramWrite (w 3 7)) s (fun t => t.gen == s.gen) = true ∧ s.paramVal? 3 = none ∧
      s.takes 5 (h 0) = true ∧ (s.formed && s.isMirror) = false ∧ s.timeline?.isSome = true ∧ s.flk.heldFrom = none ∧ s.flk.ahead = [] ∧
      frameStart Tests.tl 0 < 2 * msT ∧ frameStart Tests.tl 1 ≥ 2 * msT + 100 ∧
      Tests.after (.hold (h 0)) s (fun t => t.flk.heldFrom == some 1) = true ∧ heldS.takes 6 (h 0) = true ∧ s.dbg.bist = none ∧
      Tests.after (.release (h 0)) heldS (fun t => t.flk.heldTo == some 1) = true ∧
      s.takes 0x503 t5 = true ∧ s.image? = some (Tests.img .sender) ∧ noSlack (Tests.img .sender) = false ∧ s.longFull = false ∧
      Tests.after (.selftest t5) s (fun t => t.sch.jobs.length == 1) = true ∧
      s.takes 0x503 (Tests.cmd [9, 0, 0, 0]) = true ∧ (Tests.img .sender).islands.any (fun r => r.island == 9 && r.enabled) = false ∧
      s.takes 0x503 (Tests.cmd [255, 0, 0, 0]) = true ∧ s.roomiest (Tests.img .sender) = [0] ∧ idle.image? = none ∧ idle.takes 0x503 t5 = true ∧
      (mir.formed && mir.isMirror) = true ∧ mir.takes 5 (h 0) = true := by
  decide +kernel

theorem witness_RelaysReachTheTiles :
    let s := Tests.run .sender 3
    let tile := Tests.run .tile 3
    let rd := Tests.cmd ([1, 0, 0, 0] ++ leBytes 4 0x400 ++ zeroBytes 4)
    let nopB : List Byte := zeroBytes 32
    let tc (ta m : Byte) : MboxCmd := Tests.cmd ([ta, m, 0, 0] ++ nopB)
    let f := Tests.flying true 1
    let g := Tests.flying false 3
    let x (b : List Byte) (bc : Bool) : MboxMsg := { side := 0, tag := 4, bcast := bc, segmented := false, body := b, t := 100 }
    let kept := { tile with cmd := { tile.cmd with dups := [{ side := 0, tag := 4, bodies := [[1]] }] } }
    let par := leBytes 2 7 ++ leBytes 2 12 ++ zeroBytes 28 ++ (leBytes 2 2 ++ zeroBytes 2 ++ leBytes 4 1 ++ leBytes 4 7)
    let bm : BulkMsg := { side := 0, tag := 4, body := [0, 0, 0, 1] ++ leBytes 4 32 ++ zeroBytes 32, t := 100 }
    let rm : RegMsg := { side := 0, tag := 4, addr := 0x400, data := 5, t := 100 }
    let four := { s with cmd := { s.cmd with relays := List.replicate 4 { Tests.flight true 1 with path := .mgmt 1 } } }
    s.takes 0x601 rd = true ∧ byteAt rd.body 1 ≤ 1 ∧ s.cmd.relays = [] ∧ s.takes 0x601 (Tests.cmd ([1, 2, 0, 0] ++ zeroBytes 8)) = true ∧
      Tests.after (.tileReg rd) s (fun t => (t.flying? 1 0).isSome && t.chn.tx.length == s.chn.tx.length + 1) = true ∧
      four.takes 0x601 rd = true ∧ (four.cmd.relays.filter (fun r => r.ta == 1 && r.sentAt.isSome)).length = 4 ∧
      s.takes 0x602 (tc 1 0) = true ∧ noBroadcast 0 = false ∧ noBroadcast 2 = true ∧
      Tests.after (.tileCmd (tc 1 0)) s (fun t => t.chn.tx.length == s.chn.tx.length + 1) = true ∧
      Tests.after (.tileCmd (tc 255 1)) s (fun t => t.cmd.relays == []) = true ∧
      s.takes 0x603 (tc 1 0) = true ∧ s.takes 0x603 (Tests.cmd ([1, 0, 0, 0, 2, 1] ++ zeroBytes 30)) = true ∧
      Tests.after (.tileBulk (Tests.cmd ([1, 0, 0, 0, 2, 1] ++ zeroBytes 30))) s (fun t => t.chn.tx.length == s.chn.tx.length + 1) = true ∧
      f.flying? 1 0 = some (Tests.flight true 1) ∧ s.flying? 1 0 = none ∧
      Tests.after (.regRsp { side := 0, ta := 1, tag := 0, status := 0, data := 7, t := 200 }) f (fun t => t.reg Reg.CMD_SPI_CTRL == 2 && t.cmd.relays == []) = true ∧
      g.isSender = true ∧ g.flying? 1 0 = some (Tests.flight false 3) ∧
      Tests.after (.mboxRsp { side := 0, ta := 1, tag := 0, segmented := false, body := zeroBytes 8 ++ [1] ++ zeroBytes 23, t := 200 }) g
        (fun t => t.cmd.relays == [] && t.cmd.tileOps.length == 1) = true ∧
      Tests.after (.relayRetry 1 0 (100 + 20 * msT)) f (fun t => (t.flying? 1 0).any (fun r => r.sends == 2)) = true ∧
      Tests.after (.relayTimeout 1 0 (100 + 60 * msT)) g (fun t => t.reg Reg.CMD_RELAY_TIMEOUT == 1) = true ∧
      (tile.tick 100).pathOpen (.chain 0 4) = true ∧ tile.cmd.dups = [] ∧ tile.umb.downDue = false ∧ tile.umb.resetDue = false ∧
      Tests.after (.mbox (x nopB false)) kept (fun t => t.reg Reg.CMD_DUP_ANSWERED == 1) = true ∧
      Tests.after (.mbox (x nopB false)) tile (fun t => t.cmd.dups.length == 1) = true ∧ leAt par 0 2 = 7 ∧
      Tests.after (.mbox (x par true)) tile (fun t => (t.paramVal? 2).any (fun p => p.value == [7]) && t.cmd.dups == []) = true ∧
      slice bm.body 2 2 = [0, 1] ∧ leAt bm.body 4 4 = (bm.body.drop 8).length ∧
      Tests.after (.bulk bm) tile (fun t => t.chn.tx == tile.chn.tx) = true ∧
      (tile.tick 100).regPathOpen (.chain 0) = true ∧ tile.blockAnswers 0x400 = true ∧ named 0x400 = true ∧
      Tests.after (.regRd rm) tile (fun t => t.chn.tx.length == tile.chn.tx.length + 2) = true ∧
      Tests.after (.regWr rm) tile (fun t => t.chn.tx.length == tile.chn.tx.length + 2) = true := by
  decide +kernel

theorem witness_StrayAccessesAreIgnored :
    let s := Tests.run .sender 3
    (rowOf 0x400).isSome = true ∧ named 0x402 = false ∧ named 0x50 = false ∧ s.regPathOpen .spi = true ∧ 0x120004 / 65536 = 18 ∧
      (s.regRead .spi 0x402).1 = 0 := by
  decide +kernel

theorem witness_PathsReachRegistersAndRings :
    let s := Tests.run .sender 3
    let ring := Tests.rings
    let w (be : Nat) : RegWrite := { path := .spi, addr := Reg.CMD_EVT_EN, data := 1, be := be }
    let g : RegWrite := { path := .spi, addr := 0x400, data := 0xFFFFFFFF, be := 15 }
    let x (v : Nat) : SqTail := { path := .spi, data := word v, entries := zeroBytes 64, t := 100 }
    let r : Response := { opcode := 0, tag := 1, status := 0, flags := 0, token := 0, detail := 0, wfn := 0, body := [] }
    let wait := { ring.setNum Reg.CMD_CQ_TAIL 8192 with cmd := { ring.cmd with waitingRsp := [r] } }
    s.writeAllowed (w 7) = false ∧ s.writeAllowed g = true ∧ (rowOf 0x400).isSome = true ∧
      s.admits .spi Reg.CMD_RING_CFG 0x10D06 = true ∧ s.ringOn = false ∧ ring.ringOn = true ∧
      Tests.after (.ringEnable .spi 0x10D06) s (fun t => t.ringOn && t.sqSize == 64) = true ∧
      Tests.after (.ringEnable .spi 0x10D05) s (fun t => !t.ringOn && t.bit Reg.CMD_RING_CFG Fld.CMD_RING_CFG_ERR) = true ∧
      Tests.after (.ringDisable .spi 0xD06) ring (fun t => !t.ringOn) = true ∧ ring.admits .spi Reg.CMD_RING_CFG 0xD06 = true ∧
      (ring.tick 100).admits .spi Reg.CMD_SQ_TAIL (word 1) = true ∧ ring.sqSize = 64 ∧ (ring.reg Reg.CMD_SQ_HEAD).toNat = 0 ∧
      Tests.after (.sqTailWrite (x 1)) ring (fun t => t.reg Reg.CMD_SQ_HEAD == 1 && t.reg Reg.CMD_CQ_TAIL == 1) = true ∧
      Tests.after (.sqTailWrite (x 65)) ring (fun t => t.reg Reg.CMD_SQ_TAIL == 0) = true ∧
      wait.admits .spi Reg.CMD_CQ_HEAD 1 = true ∧ Tests.after (.cqHeadWrite .spi 1) wait (fun t => t.cmd.waitingRsp == []) = true ∧
      ring.admits .spi Reg.CMD_CQ_HEAD 1 = true ∧ Tests.after (.cqHeadWrite .spi 1) ring (fun t => t.reg Reg.CMD_CQ_HEAD == 0) = true ∧
      (s.tick 100).admits .spi Reg.CMD_SPI_CTRL 1 = true ∧ bitOf (s.reg Reg.CMD_SPI_CTRL) 2 = false ∧ s.pstate ≠ Ps.UMBRA ∧
      cellRead (fun _ => (0 : Byte)) s.cmd.spiReq 2 2 = [0, 0] ∧
      Tests.after (.spiGo .spi 1 100) s (fun t => t.reg Reg.CMD_SPI_CTRL == 2) = true ∧
      Tests.after (.spiGo .spi 1 100) (s.setNum Reg.CMD_SPI_CTRL 4) (fun t => t.reg (Reg.CMD_CREDIT_DROP 2) == 1) = true ∧
      s.regPathOpen .spi = true ∧ s.blockAnswers 0x400 = true ∧ named 0x400 = true ∧
      Tests.after (.spiWrite 0x10004 [1]) s (fun t => t.out == s.out) = true ∧ Tests.after (.spiRead 0x400 1) s (fun t => t.out.length == s.out.length + 1) = true ∧
      s.admits .spi Reg.CMD_CNT_CLEAR 1 = true ∧ s.islandOn 1 = true ∧
      Tests.after (.islandBelowFloor 1 300 9) s (fun t => t.bit (Reg.GEN_ISL_CLK 1) Fld.GEN_ISL_CLK_FLOOR_EVENT) = true ∧
      Tests.after (.islandFloorRegained 1 500 9) s (fun t => t.get (Reg.GEN_ISL_CLK 1) Fld.GEN_ISL_CLK_FREQ == 500) = true := by
  decide +kernel

/-! ### Debug and test -/

theorem witness_DebugAccessFollowsTheLifecycle :
    let s := Tests.run .tile 4
    let life (k : Nat) (ir : Nat) : State := { s with tru := { s.tru with lifecycle := k }, dbg := { s.dbg with ir := ir } }
    let w (v : Nat) : RegWrite := { path := .spi, addr := 0x130010, data := word v, be := 15 }
    let b := Tests.cmd [0, 0, 0, 0]
    let job : LongOp := { token := 5, opcode := 0x701, tag := 8, owner := none, startWfn := 0, detail := 0 }
    let testing := { s with dbg := { s.dbg with bist := some { token := 5, scope := 1, groups := 0 } }, cmd := { s.cmd with longOps := [job] } }
    let live := { life 1 1 with chn := { s.chn with refclk := true } }
    s.coreLive = true ∧ (life 2 1).jtagAllowed 0x10 = false ∧ (life 4 1).jtagAllowed 2 = false ∧ (life 1 1).jtagAllowed 0x11 = true ∧
      Tests.after (.jtagUpdateIr 0x10 false) (life 2 1) (fun t => t.dbg.ir == 0xFF && t.bit Reg.DBG_STATE Fld.DBG_STATE_DENIED) = true ∧
      Tests.after (.jtagUpdateIr 3 false) (life 1 1) (fun t => t.dbg.ir == 3 && t.dbg.forced) = true ∧
      Tests.after (.jtagUpdateIr 0x55 false) (life 2 1) (fun t => t.dbg.ir == 0xFF && !t.bit Reg.DBG_STATE Fld.DBG_STATE_DENIED) = true ∧
      Tests.after .jtagReset (life 1 3) (fun t => t.dbg.ir == 1) = true ∧ irPublic (life 1 2).dbg.ir = true ∧
      Tests.after .jtagRunTestIdle (life 1 4) (fun t => t.out.head? == some (.acPulse false)) = true ∧
      Tests.after (.jtagUpdateDr (.boundary [true])) (life 1 3) (fun t => t.dbg.boundary == [true] && t.dbg.forced) = true ∧
      Tests.after (.jtagUpdateDr (.boundary [true])) (life 1 2) (fun t => t.dbg.boundary == [true] && t.out == s.out) = true ∧
      (life 1 0x10).regPathOpen .jtag = true ∧ (life 1 0x10).blockAnswers 0x400 = true ∧ named 0x400 = true ∧
      Tests.after (.jtagUpdateDr (.access true 0x100A0 5)) (life 1 0x10) (fun _ => true) = true ∧
      live.writeAllowed (w 1) = true ∧ (rowOf 0x130010).isSome = true ∧ live.chn.refclk = true ∧
      Tests.after (.tmuxSelect 0 (w 1)) live (fun t => t.reg 0x130010 == 1 && t.dbg.tmux.length == 1) = true ∧
      Tests.after (.tmuxSelect 0 (w 1)) { live with tru := { s.tru with lifecycle := 4 } }
        (fun t => t.bit Reg.DBG_STATE Fld.DBG_STATE_DENIED && t.out.head? == some (.tmux 0 none)) = true ∧
      (life 2 1).takes 0x701 b = true ∧ ((life 2 1).tick 100).bistRefused 0 = none ∧ s.held = true ∧
      Tests.after (.bist b) (life 2 1) (fun t => t.dbg.bist.isSome && t.bit Reg.DBG_STATE Fld.DBG_STATE_BIST_RUN) = true ∧
      (s.tick 100).bistRefused 3 = some St.BAD_FIELD ∧ (Tests.run .tile 3).held = false ∧ testing.dbg.bist.isSome = true ∧
      testing.anyIssued = false ∧ (life 1 3).coreLive = true ∧ State.reset.coreLive = false ∧
      testing.image? = some (Tests.img .tile) ∧ testing.longOp? 5 = some job ∧
      Tests.after (.bistComplete none 0 3 9) testing (fun t => t.dbg.bist == none && t.reg Reg.DBG_BIST_RUNS == 1) = true ∧
      Tests.after (.bistComplete (some 7) 128 3 9) testing (fun t => t.reg Reg.DBG_BIST_FAIL == 128) = true ∧
      live.writeAllowed { w 1 with addr := Reg.DBG_CNT_CLEAR } = true ∧
      Tests.after (.dbgCntClear { w 1 with addr := Reg.DBG_CNT_CLEAR }) (live.setNum Reg.DBG_BIST_RUNS 4) (fun t => t.reg Reg.DBG_BIST_RUNS == 0) = true := by
  decide +kernel

/-! ### The queue, reset and frames -/

theorem witness_StepRunsTheFrontCommand :
    let s := { Tests.run .sender 3 with pending := [.meterRead true 0, .jtagReset] }
    s.pending = [.meterRead true 0, .jtagReset] ∧ (match step s with
      | .next t => t.pending == [.jtagReset]
      | _ => false) = true := by
  decide +kernel

theorem witness_StepKeepsCanonicalForm :
    let s := { State.reset with pending := [.meterSupplyTrip 5] }
    (cellWf resetValue s.regs && cellWf (fun _ => (0 : Byte)) s.dram && cellWf erasedByte s.tru.flash && cellWf (fun _ => (0 : Byte)) s.tru.sram &&
      cellWf (fun _ => (0 : Byte)) s.cmd.spiReq && cellWf (fun _ => (0 : Byte)) s.cmd.spiRsp && cellWf (fun _ => (0 : Byte)) s.cal.staging &&
      cellWf erasedByte s.met.fwFlash) = true ∧ (match step s with
      | .next t => !t.met.powered
      | _ => false) = true := by
  decide +kernel

theorem witness_EveryCommandRunsAndKeepsTheRest :
    let s := Tests.dramAt [Tests.chan 0, Tests.chan 1] []
    let q := Tests.req 63 (2 ^ 32 - 64) 10
    s.dramRec?.all (fun d => decide (q.addr + 64 * q.words ≤ dramBytes d)) = true ∧ Tests.after (.dramRequest q) s (fun _ => true) = true ∧
      Tests.after (.timCntClear .spi) s (fun _ => true) = true ∧ Tests.after (.meterSupplyTrip 5) s (fun _ => true) = true := by
  decide +kernel

theorem witness_StoresStayInTheirPlace :
    let s := Tests.run .sender 3
    let x : CalStore := { object := 1, slot := 0, length := 4, crc := 0, generation := 1, body := [1, 2, 3, 4], token := 7, phase := .programming 0 }
    let st := { s with cal := { s.cal with store := some x } }
    s.cmp.surfaces = [] ∧ (List.range 16).all (fun k => (s.stream k).held == []) = true ∧ s.rowsFit [1, 2] = true ∧
      st.cal.store = some x ∧ x.target.2 = 256 ∧
      Tests.after (.flashOperationComplete false false 9) st (fun t => t.tru.flash == st.tru.flash) = true ∧
      Tests.after (.dramGrant 9) s (fun t => t.dram == s.dram) = true ∧
      Tests.after (.missing 0 9) s (fun t => t.dram == s.dram) = true := by
  decide +kernel
end

section
/-! Register access on every path (R7 to R9): what the gates refuse, what a read answers, and what a plain write leaves in a register. -/
namespace Sys2Proof.Machine

/-! ### The gates -/

theorem State.regWrite_of_refused {s : State} {w : RegWrite} (h : s.writeAllowed w = false) : s.regWrite w = s := by
  simp [State.regWrite, h]

theorem State.writeAllowed_eq_false_of_be {s : State} {w : RegWrite} (h : w.be ≠ 15) : s.writeAllowed w = false := by
  simp [State.writeAllowed, h]

theorem State.writeAllowed_eq_false_of_unnamed {s : State} {w : RegWrite} (h : named w.addr = false) : s.writeAllowed w = false := by
  simp [State.writeAllowed, h]

theorem State.writeAllowed_eq_false_of_met {s : State} {w : RegWrite} (h : w.addr / 65536 = 18) : s.writeAllowed w = false := by
  simp [State.writeAllowed, h]

/-- LMP_MAP alone is remembered before boot completes. -/
theorem State.noteMap_of_ne (s : State) (p : Path) {a : Nat} (h : a ≠ Reg.LMP_MAP) : s.noteMap p a = s := by
  simp [State.noteMap, h]

theorem State.regWrite_of_allowed {s : State} {w : RegWrite} (h : s.writeAllowed w = true) (hm : w.addr ≠ Reg.LMP_MAP) :
    s.regWrite w = s.blockWrite w.path w.addr w.data := by
  rw [State.regWrite, if_pos h, s.noteMap_of_ne w.path hm]

/-- A due write that the gates admit into the CMD block is that block's. -/
theorem State.rowWrite_cmd {s : State} {p : Path} {a : Nat} {data : Word} (h : s.admits p a data = true) (hb : a / 65536 = 1) :
    s.rowWrite p a data true = s.cmdWrite p a data := by
  have hm : a ≠ Reg.LMP_MAP := by rintro rfl; exact absurd hb (by decide)
  calc s.rowWrite p a data true = s.blockWrite p a data := State.regWrite_of_allowed h hm
    _ = s.cmdWrite p a data := by simp [State.blockWrite, hb]

/-! ### A plain write -/

theorem State.reg_plainWrite {s : State} {a : Nat} {r : RegRow} (h : rowOf a = some r) (data : Word) (b : Nat) :
    (s.plainWrite a data).reg b = if b = a then writeMask r (s.reg b) data else s.reg b := by
  rw [State.plainWrite, h, State.reg_setReg]
  by_cases hb : b = a
  · simp [hb]
  · simp [hb, Ne.symm hb]

@[simp] theorem State.plainWrite_cmd (s : State) (a : Nat) (data : Word) : (s.plainWrite a data).cmd = s.cmd := by
  unfold State.plainWrite
  split <;> rfl

/-- A bit after a write: the data's where it is writable, else the held one, less a written 1 of a W1C bit. -/
theorem bitOf_writeMask (r : RegRow) (old data : Word) {n : Nat} (hn : n < 32) :
    bitOf (writeMask r old data) n =
      ((if r.rw.testBit n then bitOf data n else bitOf old n) && !(r.w1c.testBit n && bitOf data n)) := by
  simp only [writeMask, bitOf, BitVec.getLsbD_and, BitVec.getLsbD_or, BitVec.getLsbD_not, BitVec.getLsbD_ofNat, hn, decide_true,
    Bool.true_and]
  cases r.rw.testBit n <;> cases data.getLsbD n <;> simp

/-- A field whose bits are all writable, and none of them W1C, takes the data's. -/
theorem fieldOf_writeMask (r : RegRow) (old data : Word) (lo len : Nat) (hlen : lo + len ≤ 32)
    (hw : ∀ i < len, r.rw.testBit (lo + i) = true ∧ r.w1c.testBit (lo + i) = false) :
    fieldOf (writeMask r old data) lo len = fieldOf data lo len := by
  refine Nat.eq_of_testBit_eq fun i => ?_
  rw [fieldOf_testBit, fieldOf_testBit]
  by_cases hi : i < len
  · obtain ⟨hrw, hw1c⟩ := hw i hi
    have hbit := bitOf_writeMask r old data (n := lo + i) (by omega)
    rw [hrw, hw1c] at hbit
    simpa [bitOf, hi] using hbit
  · simp [hi]

/-! ### A read -/

/-- The map ends with the DBG block of Table 0.8. -/
theorem block_le_of_rowOf {a : Nat} {r : RegRow} (h : rowOf a = some r) : a / 65536 ≤ 19 := by
  by_contra hgt
  have hrows : blockRows (a / 65536) = [] := by
    obtain ⟨k, hk⟩ := Nat.exists_eq_add_of_le' (Nat.lt_of_not_le hgt)
    rw [hk]
    rfl
  rw [rowOf, if_neg (by omega), hrows] at h
  cases h

theorem State.regRead_of_unnamed (s : State) (p : Path) {a : Nat} (h : named a = false) : s.regRead p a = (0, s) := by
  simp [State.regRead, h]

/-- What a read latches or pops shows in no output. -/
theorem State.afterRead_out (s : State) (p : Path) (a : Nat) : (s.afterRead p a).out = s.out := by
  unfold State.afterRead
  dsimp only
  split_ifs <;> rfl

theorem State.regRead_out (s : State) (p : Path) (a : Nat) : (s.regRead p a).2.out = s.out := by
  unfold State.regRead
  split_ifs
  · rfl
  · rfl
  · exact s.afterRead_out p a

/-- No register of the GEN block latches or pops anything at a read. -/
theorem State.afterRead_gen (s : State) (p : Path) {a : Nat} (h : a / 65536 = 0) : s.afterRead p a = s := by
  have hlt : a < 65536 := by omega
  simp [State.afterRead, inRange, Reg.TIM_NOW_S_LO, Reg.UMB_RTC_S_LO, Reg.MET_ENERGY_LO, Reg.TIM_IN_FRAC,
    show a ≠ 589824 by omega, show a ≠ 1048592 by omega, show a ≠ 1179668 by omega, show ¬ 590352 ≤ a by omega]

/-- A read of a GEN register answers what the block computes for it, else the value held. -/
theorem State.regRead_gen (s : State) (p : Path) {a : Nat} (hb : a / 65536 = 0) (hn : named a = true) (ha : s.blockAnswers a = true) :
    s.regRead p a = ((s.genView a).getD (s.reg a).toNat % 2 ^ 32, s) := by
  have hw : ¬ (Reg.SCH_TRACE_WIN ≤ a ∧ a < 0x30000 ∧ s.traceMoving = true) := by
    unfold Reg.SCH_TRACE_WIN
    omega
  simp [State.regRead, hn, ha, hw, State.regView, hb, s.afterRead_gen p hb]

/-- The DRAM controller's clock is the one GEN register computed at a read. -/
theorem State.genView_of_ne (s : State) {a : Nat} (h : a ≠ Reg.GEN_ISL_CLK 33) : s.genView a = none := by
  simp [State.genView, h]

/-! ### The frames of the SPI port -/

@[simp] theorem leBytes_length (n v : Nat) : (leBytes n v).length = n := by
  induction n generalizing v with
  | zero => rfl
  | succ n ih => simp [leBytes, ih]

@[simp] theorem beBytes_length (n v : Nat) : (beBytes n v).length = n := by simp [beBytes]

/-- A READ frame puts out nothing before its answer, of four bytes for each word. -/
theorem foldl_spiReadWord (l : List Nat) (z : State × List Byte) :
    (l.foldl State.spiReadWord z).1.out = z.1.out ∧ (l.foldl State.spiReadWord z).2.length = z.2.length + 4 * l.length := by
  induction l generalizing z with
  | nil => simp
  | cons a l ih =>
    obtain ⟨hout, hlen⟩ := ih (State.spiReadWord z a)
    refine ⟨hout.trans (z.1.regRead_out .spi a), ?_⟩
    have hword : (State.spiReadWord z a).2.length = z.2.length + 4 := by simp [State.spiReadWord]
    rw [List.foldl_cons, hlen, hword, List.length_cons]
    omega

theorem exec_spiRead_of_open {s : State} (h : s.regPathOpen .spi = true) (a n : Nat) :
    ∃ t bs, exec (.spiRead a n) s = .next t ∧ t.out = .readData bs :: s.out ∧ bs.length = 4 * n := by
  have hf := foldl_spiReadWord ((List.range n).map (fun k => (a + 4 * k) % 2 ^ 32)) (s, [])
  refine ⟨_, _, show execSpiRead a n s = _ by rw [execSpiRead, h]; rfl, congrArg _ hf.1, ?_⟩
  simpa using hf.2

/-- A READ frame of one word. -/
theorem exec_spiRead_one {s : State} (h : s.regPathOpen .spi = true) {a : Nat} (ha : a < 2 ^ 32) :
    exec (.spiRead a 1) s = .next ((s.regRead .spi a).2.emit (.readData (beBytes 4 (s.regRead .spi a).1))) := by
  change execSpiRead a 1 s = _
  have hz : ([0].map (fun k => (a + 4 * k) % 2 ^ 32)) = [a] := by simpa using ha
  rw [execSpiRead, h, show List.range 1 = [0] from rfl, hz]
  rfl

theorem exec_spiRead_of_closed {s : State} (h : s.regPathOpen .spi = false) (a n : Nat) : exec (.spiRead a n) s = .next s := by
  change execSpiRead a n s = _
  simp [execSpiRead, h]

theorem exec_spiStatus_of_closed {s : State} (h : s.regPathOpen .spi = false) (b : Bool) : exec (.spiStatus b) s = .next s := by
  change execSpiStatus b s = _
  simp [execSpiStatus, h]

theorem exec_spiStatus_of_open {s : State} (h : s.regPathOpen .spi = true) (b : Bool) :
    exec (.spiStatus b) s = .next (s.emit (.readData [byteOf (flag b + 2 * flag (bitOf (s.reg Reg.CMD_SPI_CTRL) 1) + 4 * flag s.umb.spiHold)])) := by
  change execSpiStatus b s = _
  simp [execSpiStatus, h]

/-- A WRITE frame is its first word's write, then the frame of the words after it. -/
theorem exec_spiWrite_cons (a : Nat) (w : Word) (ws : List Word) (s : State) :
    exec (.spiWrite a (w :: ws)) s =
      exec (.spiWrite (a + 4) ws) (s.regWrite { path := .spi, addr := a % 2 ^ 32, data := w, be := 15 }) := by
  change execSpiWrite a (w :: ws) s = execSpiWrite (a + 4) ws _
  simp [execSpiWrite, List.zipIdx_cons, List.zipIdx_succ, List.foldl_map, Nat.mul_add, Nat.add_assoc, Nat.add_comm 4]

/-- Settles O56: the gates refuse a stray write, and a read of an address without a register answers 0. -/
theorem strayAccessesAreIgnored : Obligations.StrayAccessesAreIgnored := by
  refine ⟨fun a r h => block_le_of_rowOf h, fun s p a h => s.regRead_of_unnamed p h, fun s a hopen ha hn => ?_, fun s w h => ?_⟩
  · rw [exec_spiRead_one hopen ha, s.regRead_of_unnamed .spi hn]
    simp [beBytes, leBytes]
  · have hw : s.writeAllowed w = false := by
      rcases h with h | h | h
      · exact State.writeAllowed_eq_false_of_unnamed h
      · exact State.writeAllowed_eq_false_of_be h
      · exact State.writeAllowed_eq_false_of_met h
    exact congrArg _ (State.regWrite_of_refused hw)

end Sys2Proof.Machine
end

section
/-! The registers of the CMD block on every path (R350, R351, R354, R363), and the island clocks of R28. -/
namespace Sys2Proof.Machine

/-! ### RING_EN -/

theorem rowOf_CMD_RING_CFG : rowOf Reg.CMD_RING_CFG = some ⟨0x10010, 0, 1, 0x10F0F, 0x0, 0, 0xD06⟩ := by decide

/-- A write of CMD_RING_CFG sets RING_EN and SQ_LOG2 as the data has them. -/
theorem ringCfg_plainWrite (s : State) (data : Word) :
    (s.plainWrite Reg.CMD_RING_CFG data).ringOn = bitOf data 16 ∧
      (s.plainWrite Reg.CMD_RING_CFG data).sqSize = 2 ^ fieldOf data 0 4 := by
  constructor
  · rw [State.ringOn, State.bit, State.reg_plainWrite rowOf_CMD_RING_CFG, if_pos rfl]
    exact (bitOf_writeMask _ _ data (by decide)).trans (by simp [Fld.CMD_RING_CFG_RING_EN, Nat.testBit])
  · rw [State.sqSize, State.get, State.reg_plainWrite rowOf_CMD_RING_CFG, if_pos rfl]
    exact congrArg _ (fieldOf_writeMask _ _ data 0 4 (by decide) (by decide))

theorem exec_ringEnable_of_on {p : Path} {data : Word} {s : State} (h : s.admits p Reg.CMD_RING_CFG data = true)
    (hen : bitOf data 16 = true) (hon : s.ringOn = true) : exec (.ringEnable p data) s = .next s := by
  change execRingEnable p data s = _
  rw [execRingEnable, hen, State.rowWrite_cmd h (by decide)]
  change Host.Outcome.next (s.ringWrite data) = _
  simp [State.ringWrite, hen, hon]

/-- RING_EN and ERR lie in one register, whose other fields they leave. -/
theorem ringCfg_put_en_err (s : State) (ok : Bool) (t : State)
    (ht : t = (s.putBit Reg.CMD_RING_CFG Fld.CMD_RING_CFG_RING_EN ok).putBit Reg.CMD_RING_CFG Fld.CMD_RING_CFG_ERR (!ok)) :
    t.ringOn = ok ∧ t.bit Reg.CMD_RING_CFG Fld.CMD_RING_CFG_ERR = !ok ∧ t.sqSize = s.sqSize := by
  subst ht
  refine ⟨?_, ?_, ?_⟩
  · cases ok <;> simp [State.ringOn, State.bit, Fld.CMD_RING_CFG_RING_EN, Fld.CMD_RING_CFG_ERR, bitOf_putField, flag]
  · cases ok <;> simp [State.bit, Fld.CMD_RING_CFG_ERR, bitOf_putField, flag]
  · simp [State.sqSize, State.get, Fld.CMD_RING_CFG_RING_EN, Fld.CMD_RING_CFG_ERR, Fld.CMD_RING_CFG_SQ_LOG2, fieldOf_putField_other]

theorem exec_ringEnable_of_off {p : Path} {data : Word} {s : State} (h : s.admits p Reg.CMD_RING_CFG data = true)
    (hen : bitOf data 16 = true) (hoff : s.ringOn = false) (ok : Bool)
    (hok : ok = (inRange (fieldOf data 0 4) 6 14 && inRange (fieldOf data 8 4) 13 16)) :
    ∃ t, exec (.ringEnable p data) s = .next t ∧ t.ringOn = ok ∧ t.bit Reg.CMD_RING_CFG Fld.CMD_RING_CFG_ERR = !ok ∧
      t.sqSize = 2 ^ fieldOf data 0 4 := by
  obtain ⟨hon, herr, hsize⟩ := ringCfg_put_en_err (s.plainWrite Reg.CMD_RING_CFG data) ok _ rfl
  refine ⟨_, ?_, hon, herr, hsize.trans (ringCfg_plainWrite s data).2⟩
  change execRingEnable p data s = _
  rw [execRingEnable, hen, State.rowWrite_cmd h (by decide)]
  change Host.Outcome.next (s.ringWrite data) = _
  simp [State.ringWrite, hen, hoff, hok]

/-- What a path's mailbox keeps once it is abandoned (R354). -/
theorem abandonPcie_cmd (s : State) :
    s.abandonPcie.cmd.waitingRsp = [] ∧ s.abandonPcie.cmd.longOps.length = s.cmd.longOps.length ∧
      s.abandonPcie.cmd.longOps.all (fun o => o.owner != some .pcie) = true ∧
      s.abandonPcie.cmd.relays.all (fun r => r.path != .pcie) = true := by
  refine ⟨rfl, by simp [State.abandonPcie, State.abandonOps], ?_, by simp [State.abandonPcie, State.abandonOps]⟩
  simp only [State.abandonPcie, State.abandonOps, List.all_map, List.all_eq_true, Function.comp_apply]
  intro o _
  by_cases ho : o.owner = some .pcie <;> simp [ho]

theorem exec_ringDisable {p : Path} {data : Word} {s : State} (h : s.admits p Reg.CMD_RING_CFG data = true)
    (hen : bitOf data 16 = false) : exec (.ringDisable p data) s = .next (s.plainWrite Reg.CMD_RING_CFG data).abandonPcie := by
  change execRingDisable p data s = _
  rw [execRingDisable, hen, Bool.not_false, State.rowWrite_cmd h (by decide)]
  change Host.Outcome.next (s.ringWrite data) = _
  simp [State.ringWrite, hen]

/-! ### The submission ring -/

theorem sqSize_le (s : State) : s.sqSize ≤ 2 ^ 15 := by
  have h : s.get Reg.CMD_RING_CFG Fld.CMD_RING_CFG_SQ_LOG2 < 16 := Nat.mod_lt _ (by decide)
  exact Nat.pow_le_pow_right (by decide) (by omega)

/-- On a ring of `m` indices, the index after `h` is one ahead of it. -/
theorem ring_succ_ahead {m h : Nat} (hm : 1 < m) (hh : h < m) : ((h + 1) % m + m - h % m) % m = 1 := by
  rw [Nat.mod_eq_of_lt hh]
  rcases Nat.lt_or_eq_of_le (Nat.succ_le_of_lt hh) with hlt | heq
  · rw [Nat.mod_eq_of_lt hlt, show h + 1 + m - h = 1 + m by omega, Nat.add_mod_right, Nat.mod_eq_of_lt hm]
  · rw [show h + 1 = m from heq, Nat.mod_self, show 0 + m - h = 1 by omega, Nat.mod_eq_of_lt hm]

theorem regWrite_sqTail {s : State} {p : Path} {data : Word} (h : s.admits p Reg.CMD_SQ_TAIL data = true) :
    s.regWrite { path := p, addr := Reg.CMD_SQ_TAIL, data := data, be := 15 } = s.sqTailSet data :=
  State.rowWrite_cmd h (by decide)

/-- A tail more than one ring ahead of the head is ignored, and no command runs. -/
theorem exec_sqTailWrite_of_beyond {x : SqTail} {s : State} (h : (s.tick x.t).admits x.path Reg.CMD_SQ_TAIL x.data = true) {v : Nat}
    (hv : v = x.data.toNat % 65536 % (2 * s.sqSize))
    (hfar : s.sqSize < (v + 2 * s.sqSize - (s.reg Reg.CMD_SQ_HEAD).toNat % (2 * s.sqSize)) % (2 * s.sqSize))
    (hne : (s.reg Reg.CMD_SQ_TAIL).toNat ≠ v) : exec (.sqTailWrite x) s = .next (s.tick x.t) := by
  subst hv
  have hset : (s.tick x.t).sqTailSet x.data = s.tick x.t := if_pos hfar
  change execSqTailWrite x s = _
  simp only [execSqTailWrite, regWrite_sqTail h, hset]
  exact if_neg fun hc => hne hc.2

theorem entriesOf_eq_one {n : Nat} (h32 : 32 ≤ n) (h64 : n ≤ 64) : entriesOf n = 1 := by
  unfold entriesOf ceilDiv
  omega

/-- A tail one ahead of the head is taken. -/
theorem sqTailSet_succ {s : State} (hsize : 1 < s.sqSize) (hhead : (s.reg Reg.CMD_SQ_HEAD).toNat < 2 * s.sqSize) {v : Nat}
    (hv : v = ((s.reg Reg.CMD_SQ_HEAD).toNat + 1) % (2 * s.sqSize)) :
    (word v).toNat % 65536 % (2 * s.sqSize) = v ∧ s.sqTailSet (word v) = s.setNum Reg.CMD_SQ_TAIL v := by
  have hle := sqSize_le s
  have hvlt : v < 2 * s.sqSize := hv ▸ Nat.mod_lt _ (by omega)
  have hword : (word v).toNat % 65536 % (2 * s.sqSize) = v := by
    rw [word, BitVec.toNat_ofNat, Nat.mod_eq_of_lt (a := v) (by omega), Nat.mod_eq_of_lt (a := v) (by omega), Nat.mod_eq_of_lt hvlt]
  have hahead : (v + 2 * s.sqSize - (s.reg Reg.CMD_SQ_HEAD).toNat % (2 * s.sqSize)) % (2 * s.sqSize) = 1 :=
    hv ▸ ring_succ_ahead (by omega) hhead
  refine ⟨hword, ?_⟩
  simp only [State.sqTailSet, hword, hahead]
  exact if_neg (by omega)

/-- Moving the tail leaves RING_EN, the ring size and the head. -/
theorem setNum_sqTail_ring (s : State) (v : Nat) :
    (s.setNum Reg.CMD_SQ_TAIL v).ringOn = s.ringOn ∧ (s.setNum Reg.CMD_SQ_TAIL v).sqSize = s.sqSize ∧
      (s.setNum Reg.CMD_SQ_TAIL v).reg Reg.CMD_SQ_HEAD = s.reg Reg.CMD_SQ_HEAD := by
  have hcfg : (s.setNum Reg.CMD_SQ_TAIL v).reg Reg.CMD_RING_CFG = s.reg Reg.CMD_RING_CFG := by
    rw [State.reg_setNum, if_neg (by decide)]
  refine ⟨by rw [State.ringOn, State.bit, hcfg]; rfl, by rw [State.sqSize, State.get, hcfg]; rfl, ?_⟩
  rw [State.reg_setNum, if_neg (by decide)]

/-- With one entry submitted, the command in it runs, and the head moves past it. -/
theorem runEntries_one {u : State} (t : Nat) {bytes : List Byte} (hon : u.ringOn = true) (hbody : leAt bytes 2 2 ≤ 32)
    (hwait : u.sqWaiting = 1) {v : Nat} (hv : v = ((u.reg Reg.CMD_SQ_HEAD).toNat + 1) % (2 * u.sqSize)) :
    State.runEntries t 1 u bytes = (u.setNum Reg.CMD_SQ_HEAD v).runCommand .pcie t (bytes.take (32 + leAt bytes 2 2)) := by
  have hone : entriesOf (32 + leAt bytes 2 2) = 1 := entriesOf_eq_one (by omega) (by omega)
  simp [State.runEntries, hone, hon, hwait, hv]

/-- A tail one ahead of the head runs the one command submitted there. -/
theorem exec_sqTailWrite_one {x : SqTail} {s : State} (h : (s.tick x.t).admits x.path Reg.CMD_SQ_TAIL x.data = true)
    (hon : s.ringOn = true) (hsize : 1 < s.sqSize) (hhead : (s.reg Reg.CMD_SQ_HEAD).toNat < 2 * s.sqSize) (hlen : x.entries.length = 64)
    (hbody : leAt x.entries 2 2 ≤ 32) {v : Nat} (hv : v = ((s.reg Reg.CMD_SQ_HEAD).toNat + 1) % (2 * s.sqSize)) (hdata : x.data = word v) :
    exec (.sqTailWrite x) s = .next ((((s.tick x.t).setNum Reg.CMD_SQ_TAIL v).setNum Reg.CMD_SQ_HEAD v).runCommand .pcie x.t
      (x.entries.take (32 + leAt x.entries 2 2))) := by
  obtain ⟨hvmod, hset⟩ := sqTailSet_succ (s := s.tick x.t) hsize hhead hv
  obtain ⟨huon, husize, huhead⟩ := setNum_sqTail_ring (s.tick x.t) v
  set u := (s.tick x.t).setNum Reg.CMD_SQ_TAIL v with hu
  have htail : (u.reg Reg.CMD_SQ_TAIL).toNat = v := by
    have hvlt : v < 2 * s.sqSize := hv ▸ Nat.mod_lt _ (by omega)
    have hle := sqSize_le s
    rw [hu, State.reg_setNum, if_pos rfl, BitVec.toNat_ofNat, Nat.mod_eq_of_lt (by omega)]
  have hwait : u.sqWaiting = 1 := by
    simp only [State.sqWaiting, husize, htail, huhead]
    exact hv ▸ ring_succ_ahead (by omega) hhead
  have hnext : v = ((u.reg Reg.CMD_SQ_HEAD).toNat + 1) % (2 * u.sqSize) := by
    rw [husize, huhead]
    exact hv
  have hwrite : (s.tick x.t).regWrite { path := x.path, addr := Reg.CMD_SQ_TAIL, data := x.data, be := 15 } = u := by
    rw [regWrite_sqTail h, hdata, hset]
  have htaken : (u.reg Reg.CMD_SQ_TAIL).toNat = x.data.toNat % 65536 % (2 * (s.tick x.t).sqSize) := by
    rw [htail, hdata, hvmod]
  change execSqTailWrite x s = _
  simp only [execSqTailWrite, hwrite, hlen]
  rw [if_pos ⟨h, htaken⟩]
  exact congrArg _ (runEntries_one x.t (huon.trans hon) hbody hwait hnext)

/-! ### The completion ring -/

theorem exec_cqHeadWrite {p : Path} {data : Word} {s : State} (h : s.admits p Reg.CMD_CQ_HEAD data = true) :
    exec (.cqHeadWrite p data) s = .next (s.cqHeadSet data) :=
  congrArg _ (State.rowWrite_cmd h (by decide))

theorem cqFlush_nil {s : State} (h : s.cmd.waitingRsp = []) : s.cqFlush [] = s := by
  rw [State.cqFlush, ← h]

/-- One waiting response goes into the ring when it has room, else it waits on. -/
theorem cqFlush_singleton (s : State) (r : Response) :
    (s.cqFlush [r]).cmd.waitingRsp = (if s.cqRoom r then [] else [r]) ∧
      (s.cqRoom r = true → (s.cqFlush [r]).reg Reg.CMD_CQ_TAIL = (s.cqWrite r).reg Reg.CMD_CQ_TAIL ∧
        (s.cqFlush [r]).out = (s.cqWrite r).out) := by
  cases hroom : s.cqRoom r
  · simp [State.cqFlush, hroom]
  · rw [State.cqFlush, hroom, if_pos rfl, if_pos rfl]
    exact ⟨rfl, fun _ => ⟨rfl, rfl⟩⟩

/-! ### GO -/

theorem exec_spiGo_admitted {data : Word} {t0 : Nat} {s : State} (h : (s.tick t0).admits .spi Reg.CMD_SPI_CTRL data = true)
    (hgo : bitOf data 0 = true) : exec (.spiGo .spi data t0) s = .next ((s.tick t0).spiCtrlWrite .spi data) := by
  change execSpiGo .spi data t0 s = _
  rw [execSpiGo, hgo, State.rowWrite_cmd h (by decide)]
  rfl

/-- GO while BUSY exceeds the one credit: it counts and does nothing else. -/
theorem exec_spiGo_of_busy {data : Word} {t0 : Nat} {s : State} (h : (s.tick t0).admits .spi Reg.CMD_SPI_CTRL data = true)
    (hgo : bitOf data 0 = true) (hbusy : bitOf (s.reg Reg.CMD_SPI_CTRL) 2 = true) :
    exec (.spiGo .spi data t0) s = .next ((s.tick t0).bump (Reg.CMD_CREDIT_DROP 2) 1) := by
  rw [exec_spiGo_admitted h hgo]
  simp [State.spiCtrlWrite, hgo, hbusy]

theorem exec_spiGo_of_idle {data : Word} {t0 : Nat} {s : State} (h : (s.tick t0).admits .spi Reg.CMD_SPI_CTRL data = true)
    (hgo : bitOf data 0 = true) (hidle : bitOf (s.reg Reg.CMD_SPI_CTRL) 2 = false) :
    exec (.spiGo .spi data t0) s = .next ((s.tick t0).setReg Reg.CMD_SPI_CTRL 4).runSpi := by
  rw [exec_spiGo_admitted h hgo]
  simp [State.spiCtrlWrite, hgo, hidle]

/-- CMD_SPI_CTRL takes a GO over SPI alone. -/
theorem exec_spiGo_of_other {p : Path} (hp : p ≠ .spi) (data : Word) (t0 : Nat) (s : State) :
    exec (.spiGo p data t0) s = .next (s.tick t0) := by
  have hrow : (s.tick t0).rowWrite p Reg.CMD_SPI_CTRL data true = s.tick t0 := by
    cases h : (s.tick t0).admits p Reg.CMD_SPI_CTRL data
    · exact State.regWrite_of_refused h
    · rw [State.rowWrite_cmd h (by decide)]
      change (s.tick t0).spiCtrlWrite p data = _
      simp [State.spiCtrlWrite, hp]
  change Host.Outcome.next ((s.tick t0).rowWrite p Reg.CMD_SPI_CTRL data (bitOf data 0)) = _
  cases bitOf data 0
  · rfl
  · rw [hrow]

/-! ### CMD_CNT_CLEAR -/

theorem exec_cmdCntClear {p : Path} {s : State} (h : s.admits p Reg.CMD_CNT_CLEAR 1 = true) :
    exec (.cmdCntClear p) s = .next (s.resetRegs cmdCounter) :=
  congrArg _ (State.rowWrite_cmd h (by decide))

/-! ### Islands below their floor -/

/-- FREQ and BELOW_FLOOR are as set; FLOOR_EVENT stays. -/
theorem setFloor_fields (s : State) (island freq : Nat) (below : Bool) {r : Nat} (hr : r = Reg.GEN_ISL_CLK island) :
    (s.setFloor island freq below).get r Fld.GEN_ISL_CLK_FREQ = freq % 65536 ∧
      (s.setFloor island freq below).bit r Fld.GEN_ISL_CLK_BELOW_FLOOR = below ∧
      (s.setFloor island freq below).bit r Fld.GEN_ISL_CLK_FLOOR_EVENT = s.bit r Fld.GEN_ISL_CLK_FLOOR_EVENT := by
  subst hr
  refine ⟨?_, ?_, ?_⟩
  · simp [State.setFloor, State.get, Fld.GEN_ISL_CLK_FREQ, Fld.GEN_ISL_CLK_BELOW_FLOOR, fieldOf_putField_other, fieldOf_putField_same]
  · cases below <;> simp [State.setFloor, State.bit, Fld.GEN_ISL_CLK_BELOW_FLOOR, bitOf_putField, flag]
  · simp [State.setFloor, State.bit, Fld.GEN_ISL_CLK_FREQ, Fld.GEN_ISL_CLK_BELOW_FLOOR, Fld.GEN_ISL_CLK_FLOOR_EVENT, bitOf_putField]

/-- Setting FLOOR_EVENT leaves FREQ and BELOW_FLOOR. -/
theorem putBit_floorEvent_fields (s : State) (r : Nat) :
    (s.putBit r Fld.GEN_ISL_CLK_FLOOR_EVENT true).get r Fld.GEN_ISL_CLK_FREQ = s.get r Fld.GEN_ISL_CLK_FREQ ∧
      (s.putBit r Fld.GEN_ISL_CLK_FLOOR_EVENT true).bit r Fld.GEN_ISL_CLK_BELOW_FLOOR = s.bit r Fld.GEN_ISL_CLK_BELOW_FLOOR ∧
      (s.putBit r Fld.GEN_ISL_CLK_FLOOR_EVENT true).bit r Fld.GEN_ISL_CLK_FLOOR_EVENT = true := by
  refine ⟨?_, ?_, ?_⟩
  · simp [State.get, Fld.GEN_ISL_CLK_FREQ, Fld.GEN_ISL_CLK_FLOOR_EVENT, fieldOf_putField_other]
  · simp [State.bit, Fld.GEN_ISL_CLK_BELOW_FLOOR, Fld.GEN_ISL_CLK_FLOOR_EVENT, bitOf_putField]
  · simp [State.bit, Fld.GEN_ISL_CLK_FLOOR_EVENT, bitOf_putField, flag]

theorem exec_islandBelowFloor {island : Nat} {s : State} (hon : s.islandOn island = true) (freq t0 : Nat) {r : Nat}
    (hr : r = Reg.GEN_ISL_CLK island) :
    ∃ t, exec (.islandBelowFloor island freq t0) s = .next t ∧ t.get r Fld.GEN_ISL_CLK_FREQ = freq % 65536 ∧
      t.bit r Fld.GEN_ISL_CLK_BELOW_FLOOR = true ∧
      t.bit r Fld.GEN_ISL_CLK_FLOOR_EVENT = (s.bit r Fld.GEN_ISL_CLK_FLOOR_EVENT || !s.bit r Fld.GEN_ISL_CLK_BELOW_FLOOR) := by
  obtain ⟨hfreq, hbelow, hevent⟩ := setFloor_fields (s.tick t0) island freq true hr
  have hexec : exec (.islandBelowFloor island freq t0) s = .next (if !s.bit r Fld.GEN_ISL_CLK_BELOW_FLOOR then
      ((s.tick t0).setFloor island freq true).putBit r Fld.GEN_ISL_CLK_FLOOR_EVENT true else (s.tick t0).setFloor island freq true) := by
    have hon' : (s.tick t0).islandOn island = true := hon
    change execIslandBelowFloor island freq t0 s = _
    simp only [execIslandBelowFloor, hon', hr]
    rfl
  cases hwas : s.bit r Fld.GEN_ISL_CLK_BELOW_FLOOR
  · obtain ⟨pfreq, pbelow, pevent⟩ := putBit_floorEvent_fields ((s.tick t0).setFloor island freq true) r
    exact ⟨_, by rw [hexec, hwas]; rfl, pfreq.trans hfreq, pbelow.trans hbelow, by simpa using pevent⟩
  · exact ⟨_, by rw [hexec, hwas]; rfl, hfreq, hbelow, by rw [hevent, Bool.not_true, Bool.or_false]; rfl⟩

theorem exec_islandFloorRegained {island : Nat} {s : State} (hon : s.islandOn island = true) (freq t0 : Nat) :
    exec (.islandFloorRegained island freq t0) s = .next ((s.tick t0).setFloor island freq false) := by
  have hon' : (s.tick t0).islandOn island = true := hon
  change execIslandFloorRegained island freq t0 s = _
  simp [execIslandFloorRegained, hon']

/-! ### The statement -/

/-- A write of a GEN register that passes its gates changes that register alone, by its access code. -/
theorem exec_registerWrite_gen {w : RegWrite} {s : State} {r : RegRow} (h : s.writeAllowed w = true) (hb : w.addr / 65536 = 0)
    (hr : rowOf w.addr = some r) :
    ∃ t, exec (.registerWrite w) s = .next t ∧ ∀ a, t.reg a = if a = w.addr then writeMask r (s.reg a) w.data else s.reg a := by
  have hm : w.addr ≠ Reg.LMP_MAP := by
    intro hm
    rw [hm] at hb
    exact absurd hb (by decide)
  have hwrite : s.regWrite w = s.plainWrite w.addr w.data := by
    simp [State.regWrite_of_allowed h hm, State.blockWrite, hb]
  exact ⟨_, congrArg Host.Outcome.next hwrite, State.reg_plainWrite hr w.data⟩

/-- Settles O57: each path's row is one admitted register write, and the write is its CMD register's. -/
theorem pathsReachRegistersAndRings : Obligations.PathsReachRegistersAndRings := by
  refine ⟨fun w s => ⟨fun h => congrArg _ (State.regWrite_of_refused h), State.writeAllowed_eq_false_of_be,
      fun r h hb hr => exec_registerWrite_gen h hb hr⟩,
    fun p data s h => ⟨exec_ringEnable_of_on h, fun hen hoff => exec_ringEnable_of_off h hen hoff _ rfl, fun hen => ?ringOff⟩,
    fun x s h hon hsize hhead hlen hbody hdata => exec_sqTailWrite_one h hon hsize hhead hlen hbody rfl hdata,
    fun x s h hfar hne => exec_sqTailWrite_of_beyond h rfl hfar hne,
    fun p data s h => ?cqHead,
    fun data t0 s h hgo => ⟨fun hbusy => ⟨_, exec_spiGo_of_busy h hgo hbusy, rfl, ?drop⟩, fun hidle => ?go⟩,
    fun p data t0 s hp => exec_spiGo_of_other hp data t0 s,
    fun a s hopen => ⟨exec_spiRead_of_open hopen a, fun ha hn hb h33 => ?read, exec_spiStatus_of_open hopen⟩,
    fun a n b s hclosed => ⟨exec_spiRead_of_closed hclosed a n, exec_spiStatus_of_closed hclosed b⟩,
    fun a w ws s => ⟨rfl, exec_spiWrite_cons a w [] s, exec_spiWrite_cons a w ws s⟩,
    fun p s h => ⟨_, exec_cmdCntClear h, s.reg_resetRegs cmdCounter⟩,
    fun island freq t0 s hon => ⟨exec_islandBelowFloor hon freq t0 rfl, _, exec_islandFloorRegained hon freq t0,
      setFloor_fields (s.tick t0) island freq false rfl⟩⟩
  case ringOff =>
    exact ⟨_, exec_ringDisable h hen, (ringCfg_plainWrite s data).1.trans hen,
      by simpa using abandonPcie_cmd (s.plainWrite Reg.CMD_RING_CFG data)⟩
  case cqHead =>
    intro m v old tail z
    rw [exec_cqHeadWrite h]
    have hset : ¬ (tail + m - old) % m < (v + m - old) % m → s.cqHeadSet data = z.cqFlush s.cmd.waitingRsp := fun hle => if_neg hle
    refine ⟨fun hlt => congrArg _ (if_pos hlt), fun hle hw => ?_, fun r hle hw => ?_⟩
    · rw [hset (Nat.not_lt.mpr hle), hw]
      exact congrArg _ (cqFlush_nil hw)
    · rw [hset (Nat.not_lt.mpr hle), hw]
      exact ⟨_, rfl, cqFlush_singleton z r⟩
  case drop =>
    intro a
    by_cases ha : a = Reg.CMD_CREDIT_DROP 2
    · simp [ha]
    · simp [ha, Ne.symm ha]
  case go =>
    have hps : ((s.tick t0).setReg Reg.CMD_SPI_CTRL 4).pstate = s.pstate := by
      simp [State.pstate, State.get, show Reg.CMD_SPI_CTRL ≠ Reg.UMB_STATE by decide]
    rw [exec_spiGo_of_idle h hgo hidle, ← hps]
    rfl
  case read =>
    rw [exec_spiRead_one hopen (by omega), s.regRead_gen .spi hb hn ha, s.genView_of_ne h33, Option.getD_none,
      Nat.mod_eq_of_lt (s.reg a).isLt]

end Sys2Proof.Machine
end

section
/-! Register reads on the management path (R79), and the one whose answer is not the value held: the DRAM controller's clock. -/
namespace Sys2Proof.Machine

/-- The state in which a management request that arrived at a port is served. -/
def State.mgmtServing (s : State) (r : MgmtReq) : State := ((s.tick r.t).takeControl r.port).noteRequest r

theorem find?_noteRequest {s : State} {r : MgmtReq} {x : Session} (h : s.ing.sessions.find? (fun y => y.id == r.session) = some x) :
    (s.noteRequest r).ing.sessions.find? (fun y => y.id == r.session) = some { x with lastSeq := r.seq, lastAt := r.t } := by
  have hid : x.id = r.session := by simpa using List.find?_some h
  have hp : ((fun y : Session => y.id == r.session) ∘ fun y => if y.id = r.session then { y with lastSeq := r.seq, lastAt := r.t } else y) =
      fun y => y.id == r.session := by
    funext y
    by_cases hy : y.id = r.session <;> simp [hy]
  rw [State.noteRequest, List.find?_map, hp, h]
  simp [hid]

theorem find?_of_validSession {s : State} {r : MgmtReq} {x : Session} (h : s.validSession r = some x) :
    s.ing.sessions.find? (fun y => y.id == r.session) = some x := by
  unfold State.validSession at h
  split at h
  · cases h
  next y hy =>
    split at h
    · exact hy.trans h
    · cases h

theorem exec_mgmtRequest_of_valid {s : State} {r : MgmtReq} {x : Session} (hopen : s.mgmtOpen r.port r.sub = true)
    (hvalid : s.validSession r = some x) :
    exec (.mgmtRequest r) s = .next ((s.mgmtServing r).mgmtServe r.session r.t r.body) := by
  have hopen' : ((s.tick r.t).takeControl r.port).mgmtOpen r.port r.sub = true := hopen
  have hvalid' : ((s.tick r.t).takeControl r.port).validSession r = some x := hvalid
  change execMgmtRequest r s = _
  simp [execMgmtRequest, hopen', hvalid', State.mgmtServing]

/-- A valid read of a GEN register is answered with what the register shows: what the block computes for it, else the value held. -/
theorem exec_mgmtRequest_read_gen {s : State} {r : MgmtReq} {x : Session} {a : Nat} (hopen : s.mgmtOpen r.port r.sub = true)
    (hvalid : s.validSession r = some x) (hbody : r.body = .read a) (hb : a / 65536 = 0) (hn : named a = true)
    (ha : s.blockAnswers a = true) :
    ∃ t tag, exec (.mgmtRequest r) s = .next t ∧
      t.out = .mgmt r.session (x.sendSeq + 1) tag (leBytes 4 ((s.genView a).getD (s.reg a).toNat % 2 ^ 32)) :: s.out := by
  have hread : (s.mgmtServing r).regRead (.mgmt r.session) a = ((s.genView a).getD (s.reg a).toNat % 2 ^ 32, s.mgmtServing r) :=
    (s.mgmtServing r).regRead_gen (.mgmt r.session) hb hn ha
  have hfind : (s.mgmtServing r).ing.sessions.find? (fun y => y.id == r.session) = some { x with lastSeq := r.seq, lastAt := r.t } :=
    find?_noteRequest (s := (s.tick r.t).takeControl r.port) (find?_of_validSession hvalid)
  have hout : ∃ tag, ((s.mgmtServing r).mgmtServe r.session r.t r.body).out =
      .mgmt r.session (x.sendSeq + 1) tag (leBytes 4 ((s.genView a).getD (s.reg a).toNat % 2 ^ 32)) :: s.out := by
    rw [hbody, State.mgmtServe, hread, State.mgmtSend, hfind]
    exact ⟨_, rfl⟩
  obtain ⟨tag, hout⟩ := hout
  exact ⟨_, tag, exec_mgmtRequest_of_valid hopen hvalid, hout⟩

/-- An image of a sender that enables the DRAM controller's island at a nominal 800,000 kHz, its DRAM at set point 0 of code 0: 3,200 Mbit/s,
8 transfers to a controller cycle. -/
def DerivedClock.image : Image :=
  { role := .sender, imageId := 1, imageLength := 4096, minSilicon := 0, minFirmware := 0, securityVersion := 1, keyId := [], routes := [],
    islands := [{ island := 33, enabled := true, queueShare := 0, floorKhz := 400000, nominalKhz := 800000, powerMw := 100 }],
    queues := [], ops := [], windows := [], slacks := [], ports := [], bounds := [],
    dram := { chanMask := 1, spCodes := [0, 0, 0, 0], spBoot := 0, trackMs := 100, switchStart := 0, switchLen := 0, poolBase := 0,
              poolSize := 2 ^ 20, density := [0, 0, 0, 0, 0, 0, 0, 0], ports := [] },
    timeline := { num := 60, den := 1, lines := 1000, nImage := 1, nShadow := 0, scan := 16, maxLayers := 4, maxOverlap := 2, slots := [] },
    chains := [], params := [], inits := [] }

/-- A session no request of which has been accepted yet. -/
def DerivedClock.session : Session := { id := 1, key := [], lastSeq := 0, sendSeq := 0, lastAt := 0 }

/-- A sender that runs that image as its start leaves the islands, with a management address on port 0 and one session open. -/
def DerivedClock.sender : State :=
  let s := { State.reset.loadImage DerivedClock.image 0 with umb := { UmbSt.reset with coreOut := true, coreReq := true, corePg := some 0 } }
  let s1 := ((s.put Reg.UMB_STATE Fld.UMB_STATE_PSTATE Ps.RUN).setNum Reg.ING_MGMT_IP 0x0A000001).setNum (Reg.ING_PORT_CFG 0) 0x102
  { s1 with ing := { s1.ing with sessions := [DerivedClock.session] } }

/-- That session's first request, its tag right: a read of the island's GEN_ISL_CLK. -/
def DerivedClock.request : MgmtReq :=
  { port := 0, sub := 0, session := 1, seq := 1, covered := [], tag := Config.kmac [] [] 16, body := .read (Reg.GEN_ISL_CLK 33), t := 0 }

theorem DerivedClock.request_valid : DerivedClock.sender.validSession DerivedClock.request = some DerivedClock.session := by
  simp [State.validSession, DerivedClock.sender, DerivedClock.request, DerivedClock.session]

/-- GEN_ISL_CLK(33) holds the nominal 800.0 MHz and shows the controller's 400.0 MHz. -/
theorem DerivedClock.sender_clock :
    DerivedClock.sender.reg (Reg.GEN_ISL_CLK 33) = word (2 ^ 18 + 8000) ∧
      DerivedClock.sender.genView (Reg.GEN_ISL_CLK 33) = some (2 ^ 18 + 4000) := by
  decide +kernel

theorem DerivedClock.sender_open :
    DerivedClock.sender.mgmtOpen DerivedClock.request.port DerivedClock.request.sub = true ∧
      DerivedClock.sender.blockAnswers (Reg.GEN_ISL_CLK 33) = true ∧ named (Reg.GEN_ISL_CLK 33) = true := by
  decide +kernel

/-- Refutes O9: its clause for reads gives every GEN register the value held, and the DRAM controller's GEN_ISL_CLK, once enabled, is answered
with the clock computed from the active set point (Table 2.15). -/
theorem not_hostAndManagementPaths : ¬ Obligations.HostAndManagementPaths := by
  rintro ⟨-, -, -, -, -, hrequest, -⟩
  obtain ⟨hopen, hanswers, hnamed⟩ := DerivedClock.sender_open
  obtain ⟨hheld, hview⟩ := DerivedClock.sender_clock
  obtain ⟨t, tag, hexec, -, hout⟩ :=
    (hrequest _ _ _ hopen DerivedClock.request_valid).1 _ rfl (by decide) hnamed hanswers
  obtain ⟨t', tag', hexec', hout'⟩ :=
    exec_mgmtRequest_read_gen (s := DerivedClock.sender) (r := DerivedClock.request) hopen DerivedClock.request_valid rfl (by decide) hnamed hanswers
  obtain rfl : t = t' := by simpa [hexec] using hexec'
  rw [hout, hheld, hview] at hout'
  simp only [List.cons.injEq, Output.mgmt.injEq, and_true, true_and] at hout'
  exact absurd hout'.2 (by decide)

end Sys2Proof.Machine
end

section
/-! Serving a mailbox command that passes its checks (R347), and what delivering an answer leaves unchanged. -/
namespace Sys2Proof.Machine

/-! ### The instant -/

theorem refSpan_zero (y : Int) : refSpan y 0 = 0 := by rw [refSpan, Nat.zero_mul, Nat.zero_div]

/-- Wall time that has reached an instant is there. -/
@[simp] theorem State.tick_tick (s : State) (t : Nat) : (s.tick t).tick t = s.tick t := by
  have hmax : Nat.max (s.tick t).now t = (s.tick t).now := max_eq_left (le_max_right s.now t)
  have hsub : t - (s.tick t).now = 0 := Nat.sub_eq_zero_of_le (Nat.le_max_right s.now t)
  rw [State.tick, hmax, hsub, refSpan_zero, Nat.add_zero]

@[simp] theorem State.isSender_tick (s : State) (t : Nat) : (s.tick t).isSender = s.isSender := rfl
@[simp] theorem State.side_tick (s : State) (t : Nat) : (s.tick t).side = s.side := rfl
@[simp] theorem State.flying?_tick (s : State) (t ta tag : Nat) : (s.tick t).flying? ta tag = s.flying? ta tag := rfl

/-! ### Serving a command -/

theorem State.takes_iff {s : State} {op : Nat} {c : MboxCmd} :
    s.takes op c = true ↔ (s.tick c.t).pathOpen c.path = true ∧ ¬ creditLimit c.path ≤ (s.tick c.t).creditsHeld c.path ∧
      (s.tick c.t).checkCommand op c = none := by
  simp [State.takes, and_assoc]

section
variable {s z : State} {op : Nat} {c : MboxCmd} {f : MboxCmd → State → State × Option Reply} (h : s.takes op c = true)
include h

theorem State.serveBy_answered {r : Reply} (hf : f c (s.tick c.t) = (z, some r)) : s.serveBy op c f = z.answer op c r := by
  obtain ⟨hpath, hcredit, hcheck⟩ := State.takes_iff.mp h
  simp only [State.serveBy, hpath, if_neg hcredit, hcheck, hf, Bool.not_true, Bool.false_eq_true, if_false]

theorem State.serveBy_relayed (hf : f c (s.tick c.t) = (z, none)) : s.serveBy op c f = z := by
  obtain ⟨hpath, hcredit, hcheck⟩ := State.takes_iff.mp h
  simp only [State.serveBy, hpath, if_neg hcredit, hcheck, hf, Bool.not_true, Bool.false_eq_true, if_false]

end

theorem State.serve_of_takes {s : State} {op : Nat} {c : MboxCmd} (h : s.takes op c = true) (f : MboxCmd → State → State × Reply) :
    s.serve op c f = (f c (s.tick c.t)).1.answer op c (f c (s.tick c.t)).2 :=
  State.serveBy_answered h rfl

/-- A command served at its own instant is served the same once wall time has reached it. -/
theorem State.serve_tick (s : State) (op : Nat) (c : MboxCmd) (f : MboxCmd → State → State × Reply) :
    (s.tick c.t).serve op c f = s.serve op c f := by
  simp only [State.serve, State.serveBy, State.tick_tick]

/-! ### What an answer leaves -/

/-- What no handler of a command that a tile runs here touches: Umbra's part and the segments received. -/
structure State.HandlerKeeps (s t : State) : Prop where
  umb : t.umb = s.umb
  segs : t.cmd.segs = s.cmd.segs

theorem State.HandlerKeeps.refl (s : State) : s.HandlerKeeps s := ⟨rfl, rfl⟩

theorem State.HandlerKeeps.trans {s t u : State} (h : s.HandlerKeeps t) (k : t.HandlerKeeps u) : s.HandlerKeeps u :=
  ⟨k.umb.trans h.umb, k.segs.trans h.segs⟩

/-- What no answer touches: the calibration store beside those. -/
structure State.AnswerKeeps (s t : State) : Prop extends s.HandlerKeeps t where
  cal : t.cal = s.cal

theorem State.AnswerKeeps.refl (s : State) : s.AnswerKeeps s := ⟨.refl s, rfl⟩

theorem State.AnswerKeeps.trans {s t u : State} (h : s.AnswerKeeps t) (k : t.AnswerKeeps u) : s.AnswerKeeps u :=
  ⟨h.toHandlerKeeps.trans k.toHandlerKeeps, k.cal.trans h.cal⟩

theorem State.AnswerKeeps.foldl {α : Type} {f : State → α → State} (h : ∀ (s : State) a, s.AnswerKeeps (f s a)) (l : List α) (s : State) :
    s.AnswerKeeps (l.foldl f s) := by
  induction l generalizing s with
  | nil => exact .refl s
  | cons a l ih => exact (h s a).trans (ih (f s a))

theorem State.event_answerKeeps (s : State) (n : Nat) : s.AnswerKeeps (s.event n) := ⟨⟨by simp, by simp⟩, by simp⟩

theorem State.cqWrite_answerKeeps (s : State) (r : Response) : s.AnswerKeeps (s.cqWrite r) := by
  refine State.AnswerKeeps.trans ?_ (State.event_answerKeeps _ 0)
  split <;> exact ⟨⟨rfl, rfl⟩, rfl⟩

theorem State.pcieRespond_answerKeeps (s : State) (r : Response) : s.AnswerKeeps (s.pcieRespond r) := by
  unfold State.pcieRespond
  split_ifs
  · exact .refl s
  · exact s.cqWrite_answerKeeps r
  · exact ⟨⟨rfl, rfl⟩, rfl⟩

theorem State.mgmtSend_answerKeeps (s : State) (k : Nat) (b : List Byte) : s.AnswerKeeps (s.mgmtSend k b) := by
  unfold State.mgmtSend
  split
  · exact .refl s
  · exact ⟨⟨rfl, rfl⟩, rfl⟩

theorem State.tileSend_answerKeeps (s : State) (type side tag : Nat) (b : List Byte) : s.AnswerKeeps (s.tileSend type side tag b) :=
  ⟨⟨rfl, rfl⟩, rfl⟩

theorem State.keepDup_answerKeeps (s : State) (side tag : Nat) (bs : List (List Byte)) : s.AnswerKeeps (s.keepDup side tag bs) :=
  ⟨⟨rfl, rfl⟩, rfl⟩

theorem State.nextSeg_answerKeeps (s : State) : s.AnswerKeeps s.nextSeg := ⟨⟨rfl, rfl⟩, rfl⟩

theorem State.respond_answerKeeps (s : State) (p : MboxPath) (r : Response) : s.AnswerKeeps (s.respond p r) := by
  cases p with
  | pcie => exact s.pcieRespond_answerKeeps r
  | spi => exact ⟨⟨rfl, rfl⟩, rfl⟩
  | mgmt k => exact s.nextSeg_answerKeeps.trans (.foldl (fun z b => z.mgmtSend_answerKeeps k b) _ _)
  | chain side tag =>
    refine State.AnswerKeeps.trans ?_ (.foldl (fun z b => z.tileSend_answerKeeps Msg.MBOX_RSP side tag b) _ _)
    split
    · exact s.nextSeg_answerKeeps.trans (s.nextSeg.keepDup_answerKeeps side tag _)
    · exact s.nextSeg_answerKeeps

theorem State.answer_answerKeeps (s : State) (op : Nat) (c : MboxCmd) (r : Reply) : s.AnswerKeeps (s.answer op c r) :=
  s.respond_answerKeeps c.path _

/-- The completion record of a long operation is an answer like another. -/
theorem State.longEnd_answerKeeps (s : State) (tok status detail : Nat) (aborted : Bool) :
    s.AnswerKeeps (s.longEnd tok status detail aborted) := by
  unfold State.longEnd
  split
  · exact .refl s
  · refine State.AnswerKeeps.trans ?_ (State.event_answerKeeps _ 1)
    split
    · exact ⟨⟨rfl, rfl⟩, rfl⟩
    · exact ⟨⟨rfl, rfl⟩, rfl⟩
    next p _ _ =>
      refine State.AnswerKeeps.trans ?_ (State.respond_answerKeeps _ p _)
      exact ⟨⟨rfl, rfl⟩, rfl⟩

theorem State.serve_handlerKeeps {op : Nat} {c : MboxCmd} {f : MboxCmd → State → State × Reply} (s : State)
    (hf : ∀ z : State, z.HandlerKeeps (f c z).1) : s.HandlerKeeps (s.serve op c f) := by
  have htick : s.HandlerKeeps (s.tick c.t) := ⟨rfl, rfl⟩
  unfold State.serve State.serveBy
  dsimp only
  split_ifs
  · exact htick
  · exact ⟨rfl, rfl⟩
  · split
    · exact htick.trans (State.answer_answerKeeps _ op c _).toHandlerKeeps
    · exact (htick.trans (hf _)).trans (State.answer_answerKeeps _ op c _).toHandlerKeeps

/-- RESET and POWER_DOWN alone act after their answer. -/
theorem State.afterAnswer_of_nothing_due {s : State} (hdown : s.umb.downDue = false) (hreset : s.umb.resetDue = false) :
    s.afterAnswer = s := by
  simp [State.afterAnswer, hdown, hreset]

end Sys2Proof.Machine
end

section
/-! Relays at a sender (R355 to R357): what queueing, sending and ending a relay do, and the answer it leaves on SPI. -/
namespace Sys2Proof.Machine

/-! ### Messages queued -/

/-- Add messages to the queues of the chain ports. -/
def State.queueAll (s : State) (l : List TxMsg) : State := { s with chn := { s.chn with tx := s.chn.tx ++ l } }

theorem State.queueAll_nil (s : State) : s.queueAll [] = s := by simp [State.queueAll]

theorem State.queueAll_queueAll (s : State) (l m : List TxMsg) : (s.queueAll l).queueAll m = s.queueAll (l ++ m) := by
  simp [State.queueAll]

theorem foldl_senderSend (type ta tag : Nat) (bodies : List (List Byte)) (s : State) :
    bodies.foldl (fun z b => z.senderSend type ta tag b) s =
      s.queueAll (bodies.map (fun b => { port := ta / 64, bytes := messageBytes type (4 * s.side) ta tag b, sent := 0 })) := by
  induction bodies generalizing s with
  | nil => exact s.queueAll_nil.symm
  | cons b bodies ih =>
    rw [List.foldl_cons, ih]
    exact s.queueAll_queueAll [_] _

theorem foldl_broadcast (chain type tag : Nat) (bodies : List (List Byte)) (s : State) :
    bodies.foldl (fun z b => z.broadcast chain type tag b) s =
      s.queueAll (bodies.map (fun b => { port := chain, bytes := messageBytes type (1 + 4 * s.side) 0xFF tag b, sent := 0 })) := by
  induction bodies generalizing s with
  | nil => exact s.queueAll_nil.symm
  | cons b bodies ih =>
    rw [List.foldl_cons, ih]
    exact s.queueAll_queueAll [_] _

theorem foldl_broadcast_chains (type tag : Nat) (bodies : List (List Byte)) (chains : List Nat) (s : State) :
    chains.foldl (fun z k => bodies.foldl (fun y b => y.broadcast k type tag b) z) s =
      s.queueAll (chains.flatMap (fun k => bodies.map (fun b =>
        { port := k, bytes := messageBytes type (1 + 4 * s.side) 0xFF tag b, sent := 0 }))) := by
  induction chains generalizing s with
  | nil => exact s.queueAll_nil.symm
  | cons k chains ih =>
    rw [List.foldl_cons, foldl_broadcast, ih, List.flatMap_cons]
    exact s.queueAll_queueAll _ _

/-! ### TAGs -/

theorem tabGet_tabSet (l : List (Nat × Nat)) (k v j : Nat) : tabGet (tabSet l k v) j = if k = j then v else tabGet l j :=
  cellGet_cellSet _ l k v j

/-! ### Sending a relay -/

theorem isRelay_iff {ta tag : Nat} {r : Relay} : isRelay ta tag r = true ↔ r.ta = ta ∧ r.msgTag = tag := by
  simp [isRelay]

/-- The relay once its messages have gone out. -/
def Relay.sentOnceMore (r : Relay) (now : Nat) : Relay := { r with sentAt := some (r.sentAt.getD now), sends := r.sends + 1 }

/-- The messages of a relay. -/
def Relay.messages (r : Relay) (side : Nat) : List TxMsg :=
  r.bodies.map (fun b => { port := r.ta / 64, bytes := messageBytes r.msgType (4 * side) r.ta r.msgTag b, sent := 0 })

theorem State.sendRelay_eq (s : State) (r : Relay) :
    s.sendRelay r = (s.setRelay (r.sentOnceMore s.now)).queueAll (r.messages s.side) :=
  foldl_senderSend r.msgType r.ta r.msgTag r.bodies _

/-- A relay that replaces those of its tile and TAG is the one then found there. -/
theorem State.flying?_setRelay {s : State} {r : Relay} (hs : r.sentAt.isSome = true)
    (hr : ∃ x ∈ s.cmd.relays, isRelay r.ta r.msgTag x = true) : (s.setRelay r).flying? r.ta r.msgTag = some r := by
  obtain ⟨x, hx, hx'⟩ := hr
  have hself : isRelay r.ta r.msgTag r = true := isRelay_iff.mpr ⟨rfl, rfl⟩
  have hmem : r ∈ (s.setRelay r).cmd.relays := List.mem_map.mpr ⟨x, hx, if_pos hx'⟩
  have honly : ∀ y ∈ (s.setRelay r).cmd.relays, isRelay r.ta r.msgTag y = true → y = r := by
    intro y hy hy'
    obtain ⟨z, -, rfl⟩ := List.mem_map.mp hy
    by_cases hz : isRelay r.ta r.msgTag z = true
    · exact if_pos hz
    · rw [if_neg hz] at hy'
      exact absurd hy' hz
  cases hf : (s.setRelay r).flying? r.ta r.msgTag with
  | none => exact absurd (List.find?_eq_none.mp hf r hmem) (by simp [hself, hs])
  | some y =>
    have hy : isRelay r.ta r.msgTag y = true ∧ y.sentAt.isSome = true := by simpa using List.find?_some hf
    rw [honly y (List.mem_of_find?_eq_some hf) hy.1]

theorem State.flying?_sendRelay {s : State} {r : Relay} (hr : ∃ x ∈ s.cmd.relays, isRelay r.ta r.msgTag x = true) :
    (s.sendRelay r).flying? r.ta r.msgTag = some (r.sentOnceMore s.now) := by
  rw [s.sendRelay_eq r]
  exact State.flying?_setRelay (r := r.sentOnceMore s.now) rfl hr

/-- Which tiles and TAGs have a relay. -/
def State.hasRelay (s : State) (ta tag : Nat) : Bool := s.cmd.relays.any (isRelay ta tag)

theorem State.flying?_eq_none_of_hasRelay {s : State} {ta tag : Nat} (h : s.hasRelay ta tag = false) : s.flying? ta tag = none := by
  rw [State.hasRelay, List.any_eq_false] at h
  exact List.find?_eq_none.mpr (fun x hx => by simp [h x hx])

theorem State.hasRelay_setRelay (s : State) (r : Relay) (ta tag : Nat) : (s.setRelay r).hasRelay ta tag = s.hasRelay ta tag := by
  have hsame : ∀ x, isRelay ta tag (if isRelay r.ta r.msgTag x = true then r else x) = isRelay ta tag x := by
    intro x
    split
    next hx =>
      obtain ⟨hta, htag⟩ := isRelay_iff.mp hx
      simp [isRelay, hta, htag]
    · rfl
  simp only [State.hasRelay, State.setRelay, List.any_map]
  exact congrArg (fun p => s.cmd.relays.any p) (funext hsame)

/-! ### The places of a tile -/

/-- What sending relays leaves: the registers, the response buffer, the long operations of tiles, and which tiles and TAGs have a relay. -/
structure State.SendKeeps (s t : State) : Prop where
  regs : t.regs = s.regs
  spiRsp : t.cmd.spiRsp = s.cmd.spiRsp
  tileOps : t.cmd.tileOps = s.cmd.tileOps
  hasRelay : ∀ ta tag, t.hasRelay ta tag = s.hasRelay ta tag

theorem State.sendRelay_sendKeeps (s : State) (r : Relay) : s.SendKeeps (s.sendRelay r) := by
  rw [s.sendRelay_eq r]
  exact ⟨rfl, rfl, rfl, s.hasRelay_setRelay (r.sentOnceMore s.now)⟩

theorem foldl_sendRelay_sendKeeps (l : List Relay) (s : State) : s.SendKeeps (l.foldl (fun z r => z.sendRelay r) s) := by
  induction l generalizing s with
  | nil => exact ⟨rfl, rfl, rfl, fun _ _ => rfl⟩
  | cons r l ih =>
    have hone := s.sendRelay_sendKeeps r
    have hrest := ih (s.sendRelay r)
    exact ⟨hrest.regs.trans hone.regs, hrest.spiRsp.trans hone.spiRsp, hrest.tileOps.trans hone.tileOps,
      fun ta tag => (hrest.hasRelay ta tag).trans (hone.hasRelay ta tag)⟩

theorem State.pumpRelays_sendKeeps (s : State) (ta : Nat) : s.SendKeeps (s.pumpRelays ta) :=
  foldl_sendRelay_sendKeeps _ s

/-- The relays of a tile in flight. -/
def State.inFlight (s : State) (ta : Nat) : List Relay := s.cmd.relays.filter (fun r => r.ta == ta && r.sentAt.isSome)

theorem State.pumpRelays_of_full {s : State} {ta : Nat} (h : 4 ≤ (s.inFlight ta).length) : s.pumpRelays ta = s := by
  have hroom : 4 - (s.inFlight ta).length = 0 := Nat.sub_eq_zero_of_le h
  rw [State.inFlight] at hroom
  simp [State.pumpRelays, hroom]

theorem State.pumpRelays_of_one {s : State} {ta : Nat} {r : Relay} (h : (s.inFlight ta).length < 4)
    (hw : s.cmd.relays.filter (fun r => r.ta == ta && r.sentAt.isNone) = [r]) : s.pumpRelays ta = s.sendRelay r := by
  obtain ⟨n, hn⟩ : ∃ n, 4 - (s.inFlight ta).length = n + 1 := ⟨_, (Nat.succ_pred_eq_of_pos (Nat.sub_pos_of_lt h)).symm⟩
  rw [State.inFlight] at hn
  simp [State.pumpRelays, hw, hn]

/-! ### Relaying a command -/

/-- The relay of a host command, still waiting, under its tile's next TAG. -/
def State.relayFor (s : State) (c : MboxCmd) (op ta msgType : Nat) (isReg : Bool) (bodies : List (List Byte)) : Relay :=
  { ta := ta, msgTag := tabGet s.cmd.relayTags ta, isReg := isReg, path := c.path, hostOpcode := op, hostTag := c.tag, msgType := msgType,
    bodies := bodies, sentAt := none, sends := 0 }

/-- A relay waits behind the others; its TAG is taken. -/
def State.queueRelay (s : State) (r : Relay) : State :=
  { s with cmd := { s.cmd with relayTags := tabSet s.cmd.relayTags r.ta ((r.msgTag + 1) % 256), relays := s.cmd.relays ++ [r] } }

theorem State.relay_eq (s : State) (c : MboxCmd) (op ta msgType : Nat) (isReg : Bool) (bodies : List (List Byte)) :
    s.relay c op ta msgType isReg bodies = (s.queueRelay (s.relayFor c op ta msgType isReg bodies)).pumpRelays ta := rfl

theorem State.inFlight_queueRelay (s : State) {r : Relay} (h : r.sentAt = none) (ta : Nat) :
    (s.queueRelay r).inFlight ta = s.inFlight ta := by
  simp [State.inFlight, State.queueRelay, h]

/-- A command finds a free place, and none waits before it: it goes out at once. -/
theorem State.relay_of_free {s : State} {ta : Nat} (hfree : (s.inFlight ta).length < 4)
    (hfirst : s.cmd.relays.all (fun r => r.ta != ta || r.sentAt.isSome) = true) (c : MboxCmd) (op msgType : Nat) (isReg : Bool)
    (bodies : List (List Byte)) :
    s.relay c op ta msgType isReg bodies =
      (s.queueRelay (s.relayFor c op ta msgType isReg bodies)).sendRelay (s.relayFor c op ta msgType isReg bodies) := by
  have hnone : s.cmd.relays.filter (fun r => r.ta == ta && r.sentAt.isNone) = [] := by
    rw [List.filter_eq_nil_iff]
    intro r hr
    have := List.all_eq_true.mp hfirst r hr
    cases hs : r.sentAt <;> simp_all
  rw [State.relay_eq]
  refine State.pumpRelays_of_one ?_ ?_
  · rwa [s.inFlight_queueRelay rfl]
  · rw [State.queueRelay, List.filter_append, hnone]
    simp [State.relayFor]

/-- A command finds no place: it waits. -/
theorem State.relay_of_full {s : State} {ta : Nat} (h : 4 ≤ (s.inFlight ta).length) (c : MboxCmd) (op msgType : Nat) (isReg : Bool)
    (bodies : List (List Byte)) :
    s.relay c op ta msgType isReg bodies = s.queueRelay (s.relayFor c op ta msgType isReg bodies) := by
  rw [State.relay_eq]
  refine State.pumpRelays_of_full ?_
  rwa [s.inFlight_queueRelay rfl]

/-- What a command that goes out at once leaves: its messages queued, the relay in flight, the next TAG taken. -/
theorem State.relay_of_free_spec {s : State} {ta : Nat} (hfree : (s.inFlight ta).length < 4)
    (hfirst : s.cmd.relays.all (fun r => r.ta != ta || r.sentAt.isSome) = true) (c : MboxCmd) (op msgType : Nat) (isReg : Bool)
    (bodies : List (List Byte)) {t : State} (ht : t = s.relay c op ta msgType isReg bodies) :
    t.chn.tx = s.chn.tx ++ (s.relayFor c op ta msgType isReg bodies).messages s.side ∧
      t.flying? ta (tabGet s.cmd.relayTags ta) = some ((s.relayFor c op ta msgType isReg bodies).sentOnceMore s.now) ∧
      tabGet t.cmd.relayTags ta = (tabGet s.cmd.relayTags ta + 1) % 256 ∧ t.out = s.out ∧ t.cmd.segSeq = s.cmd.segSeq := by
  have hmem : s.relayFor c op ta msgType isReg bodies ∈ (s.queueRelay (s.relayFor c op ta msgType isReg bodies)).cmd.relays := by
    simp [State.queueRelay]
  have hfly := State.flying?_sendRelay ⟨_, hmem, isRelay_iff.mpr ⟨rfl, rfl⟩⟩
  rw [ht, State.relay_of_free hfree hfirst]
  refine ⟨?_, hfly, ?_, ?_, ?_⟩ <;> rw [State.sendRelay_eq]
  · rfl
  · exact (tabGet_tabSet _ _ _ _).trans (if_pos rfl)
  · rfl
  · rfl

/-! ### The answer on SPI -/

/-- Bytes read back where they were written. -/
theorem cellRead_cellSetMany {β : Type} [DecidableEq β] (d : Nat → β) (bs : List β) (a n : Nat) (h : a + n ≤ bs.length) :
    cellRead d (cellSetMany d [] 0 bs) a n = (bs.drop a).take n := by
  refine List.ext_getElem ?_ fun i hi hi' => ?_
  · simp [cellRead]
    omega
  · have hin : i < n := by simpa [cellRead] using hi
    have hlt : a + i < bs.length := by omega
    have hcell : cellGet d (cellSetMany d [] 0 bs) (a + i) = bs[a + i] := by
      rw [cellGet_cellSetMany, if_pos ⟨Nat.zero_le _, by omega⟩]
      simp [hlt]
    simpa [cellRead] using hcell

theorem responseBytes_length (r : Response) : (responseBytes r).length = 32 + r.body.length := by
  simp [responseBytes, zeroBytes]
  omega

theorem State.spiRespond_spiRsp (s : State) (r : Response) :
    (s.spiRespond r).cmd.spiRsp = cellSetMany (fun _ => (0 : Byte)) [] 0 (padTo 8224 (responseBytes r)) := by
  simp only [State.spiRespond, State.setReg_cmd]

/-- An SPI response raises RSP_READY alone among the registers, and leaves the relays and the long operations of tiles. -/
theorem State.spiRespond_keeps (s : State) (r : Response) :
    (∀ a, (s.spiRespond r).reg a = if Reg.CMD_SPI_CTRL = a then 2 else s.reg a) ∧ (s.spiRespond r).cmd.relays = s.cmd.relays ∧
      (s.spiRespond r).cmd.tileOps = s.cmd.tileOps := by
  unfold State.spiRespond
  generalize padTo 8224 (responseBytes r) = bytes
  refine ⟨fun a => ?_, rfl, rfl⟩
  rw [State.reg_setReg]
  rfl

/-- The response buffer begins with the response. -/
theorem cellRead_spiRespond (s : State) (r : Response) {a n : Nat} (h : a + n ≤ 32 + r.body.length) :
    cellRead (fun _ => (0 : Byte)) (s.spiRespond r).cmd.spiRsp a n = ((responseBytes r).drop a).take n := by
  have hlen : a + n ≤ (responseBytes r).length := by rwa [responseBytes_length]
  have hpad : a + n ≤ (padTo 8224 (responseBytes r)).length := by
    rw [padTo, List.length_append]
    omega
  have hdrop : n ≤ ((responseBytes r).drop a).length := by
    rw [List.length_drop]
    omega
  rw [s.spiRespond_spiRsp, cellRead_cellSetMany _ _ a n hpad, padTo, List.drop_append_of_le_length (by omega),
    List.take_append_of_le_length hdrop]

/-- The response a relay's end gives its host. -/
def Relay.response (r : Relay) (y : Reply) : Response :=
  { opcode := r.hostOpcode, tag := r.hostTag, status := y.status, flags := y.flags, token := y.token, detail := y.detail, wfn := y.wfn,
    body := y.body }

/-- Remove the relays of a tile and TAG. -/
def State.dropRelay (s : State) (r : Relay) : State :=
  { s with cmd := { s.cmd with relays := s.cmd.relays.filter (fun x => !isRelay r.ta r.msgTag x) } }

theorem State.hasRelay_dropRelay (s : State) (r : Relay) : (s.dropRelay r).hasRelay r.ta r.msgTag = false := by
  simp [State.hasRelay, State.dropRelay]

theorem State.endRelay_eq (s : State) (r : Relay) (y : Reply) :
    s.endRelay r y = ((s.dropRelay r).respond r.path (r.response y)).pumpRelays r.ta := rfl

/-- A relay of an SPI command ends: it is gone, and its response stands in the buffer with RSP_READY set. -/
theorem State.endRelay_spi {s : State} {r : Relay} (h : r.path = .spi) (y : Reply) :
    (s.endRelay r y).flying? r.ta r.msgTag = none ∧
      (∀ a, (s.endRelay r y).reg a = if Reg.CMD_SPI_CTRL = a then 2 else s.reg a) ∧
      (s.endRelay r y).cmd.tileOps = s.cmd.tileOps ∧
      ∀ a n, a + n ≤ 32 + y.body.length →
        cellRead (fun _ => (0 : Byte)) (s.endRelay r y).cmd.spiRsp a n = ((responseBytes (r.response y)).drop a).take n := by
  obtain ⟨hreg, hrelays, hops⟩ := (s.dropRelay r).spiRespond_keeps (r.response y)
  have hread := fun a n => cellRead_spiRespond (s.dropRelay r) (r.response y) (a := a) (n := n)
  have heq : s.endRelay r y = ((s.dropRelay r).spiRespond (r.response y)).pumpRelays r.ta := by rw [s.endRelay_eq, h, State.respond]
  rw [heq]
  generalize (s.dropRelay r).spiRespond (r.response y) = z at hreg hrelays hops hread
  have hpump := z.pumpRelays_sendKeeps r.ta
  have hgone : z.hasRelay r.ta r.msgTag = false := by rw [State.hasRelay, hrelays, ← State.hasRelay, s.hasRelay_dropRelay]
  refine ⟨State.flying?_eq_none_of_hasRelay ((hpump.hasRelay _ _).trans hgone), fun a => ?_, hpump.tileOps.trans hops, fun a n han => ?_⟩
  · rw [State.reg, hpump.regs]
    exact hreg a
  · rw [hpump.spiRsp]
    exact hread a n han

end Sys2Proof.Machine
end

section
/-! Relays from the host's command to its answer (R18, R355 to R357), and the messages a tile answers. -/
namespace Sys2Proof.Machine

/-! ### TILE_REG -/

/-- The message of a TILE_REG: REG_RD with the address, or REG_WR with the address and the data. -/
theorem doTileReg_relays {c : MboxCmd} (h : byteAt c.body 1 ≤ 1) (s : State) :
    doTileReg c s = (s.relay c 0x601 (byteAt c.body 0) (if byteAt c.body 1 = 0 then Msg.REG_RD else Msg.REG_WR) true
      [if byteAt c.body 1 = 0 then slice c.body 4 4 else slice c.body 4 4 ++ slice c.body 8 4], none) := by
  rw [doTileReg, if_neg (Nat.not_lt.mpr h)]
  split <;> rfl

theorem exec_tileReg_of_badOp {c : MboxCmd} {s : State} (h : s.takes 0x601 c = true) (hop : 1 < byteAt c.body 1) :
    exec (.tileReg c) s = .next ((s.tick c.t).answer 0x601 c (Reply.of St.BAD_FIELD)) :=
  congrArg _ (State.serveBy_answered h (by simp [doTileReg, hop]))

theorem exec_tileReg {c : MboxCmd} {s : State} (h : s.takes 0x601 c = true) (hop : byteAt c.body 1 ≤ 1) :
    exec (.tileReg c) s = .next ((s.tick c.t).relay c 0x601 (byteAt c.body 0)
      (if byteAt c.body 1 = 0 then Msg.REG_RD else Msg.REG_WR) true
      [if byteAt c.body 1 = 0 then slice c.body 4 4 else slice c.body 4 4 ++ slice c.body 8 4]) :=
  congrArg _ (State.serveBy_relayed h (doTileReg_relays hop _))

/-! ### TILE_CMD and TILE_BULK -/

theorem exec_tileCmd_of_tile {c : MboxCmd} {s : State} (h : s.takes 0x602 c = true) (hta : byteAt c.body 0 ≠ 0xFF) :
    exec (.tileCmd c) s = .next ((s.tick c.t).nextSeg.relay c 0x602 (byteAt c.body 0) Msg.MBOX false
      (bodiesOf 1016 s.cmd.segSeq (c.body.drop 4))) :=
  congrArg _ (State.serveBy_relayed h (by simp [doTileCmd, hta]))

theorem State.bcast_eq (s : State) (mask type : Nat) (bodies : List (List Byte)) :
    s.bcast mask type bodies = (s.takeTag 0xFF).2.queueAll ((s.bcastChains mask).flatMap (fun k => bodies.map (fun b =>
      { port := k, bytes := messageBytes type (1 + 4 * s.side) 0xFF (tabGet s.cmd.relayTags 0xFF) b, sent := 0 }))) :=
  foldl_broadcast_chains type _ bodies _ _

theorem exec_tileCmd_of_broadcast {c : MboxCmd} {s : State} (h : s.takes 0x602 c = true) (hta : byteAt c.body 0 = 0xFF)
    (hmask : byteAt c.body 1 ≤ 15) (hop : noBroadcast (leAt (c.body.drop 4) 0 2) = false) :
    exec (.tileCmd c) s = .next (((s.tick c.t).nextSeg.bcast (byteAt c.body 1) Msg.MBOX
      (bodiesOf 1016 s.cmd.segSeq (c.body.drop 4))).answer 0x602 c (Reply.of St.OK)) :=
  congrArg _ (State.serveBy_answered h (by simp [doTileCmd, hta, hop, Nat.not_lt.mpr hmask]))

theorem exec_tileCmd_of_badBroadcast {c : MboxCmd} {s : State} (h : s.takes 0x602 c = true) (hta : byteAt c.body 0 = 0xFF)
    (hbad : 15 < byteAt c.body 1 ∨ noBroadcast (leAt (c.body.drop 4) 0 2) = true) :
    exec (.tileCmd c) s = .next ((s.tick c.t).answer 0x602 c (Reply.of St.BAD_FIELD)) :=
  congrArg _ (State.serveBy_answered h (by simp [doTileCmd, hta, hbad]))

/-- The commands TILE_BULK carries: STAGE_DATA and CAL_STAGE_DATA. -/
theorem exec_tileBulk_of_other {c : MboxCmd} {s : State} (h : s.takes 0x603 c = true) (h102 : leAt (c.body.drop 4) 0 2 ≠ 0x102)
    (h501 : leAt (c.body.drop 4) 0 2 ≠ 0x501) :
    exec (.tileBulk c) s = .next ((s.tick c.t).answer 0x603 c (Reply.of St.BAD_FIELD)) :=
  congrArg _ (State.serveBy_answered h (by simp [doTileBulk, h102, h501]))

theorem not_bulkRefused {op : Nat} (h : op = 0x102 ∨ op = 0x501) : ¬ (op ≠ 0x102 ∧ op ≠ 0x501) := by omega

/-- Queue the messages of a TILE_BULK to one tile, under its next TAG. -/
def State.bulkToTile (s : State) (ta : Nat) (bodies : List (List Byte)) : State :=
  (s.takeTag ta).2.queueAll (bodies.map (fun b =>
    { port := ta / 64, bytes := messageBytes Msg.BULK (4 * s.side) ta (tabGet s.cmd.relayTags ta) b, sent := 0 }))

section
variable {c : MboxCmd} {s : State} (h : s.takes 0x603 c = true)
  (hop : leAt (c.body.drop 4) 0 2 = 0x102 ∨ leAt (c.body.drop 4) 0 2 = 0x501)
include h hop

theorem exec_tileBulk_of_tile (hta : byteAt c.body 0 ≠ 0xFF) :
    exec (.tileBulk c) s = .next (((s.tick c.t).nextSeg.bulkToTile (byteAt c.body 0)
      (segments 1016 s.cmd.segSeq (c.body.drop 4))).answer 0x603 c (Reply.of St.OK)) := by
  refine congrArg _ (State.serveBy_answered h ?_)
  simp only [doTileBulk, if_neg (not_bulkRefused hop), hta, false_and, if_false]
  rw [foldl_senderSend]
  rfl

theorem exec_tileBulk_of_broadcast (hta : byteAt c.body 0 = 0xFF) (hmask : byteAt c.body 1 ≤ 15) :
    exec (.tileBulk c) s = .next (((s.tick c.t).nextSeg.bcast (byteAt c.body 1) Msg.BULK
      (segments 1016 s.cmd.segSeq (c.body.drop 4))).answer 0x603 c (Reply.of St.OK)) := by
  refine congrArg _ (State.serveBy_answered h ?_)
  simp only [doTileBulk, if_neg (not_bulkRefused hop), hta, Nat.not_lt.mpr hmask, and_false, if_false]
  rfl

theorem exec_tileBulk_of_badMask (hta : byteAt c.body 0 = 0xFF) (hmask : 15 < byteAt c.body 1) :
    exec (.tileBulk c) s = .next ((s.tick c.t).answer 0x603 c (Reply.of St.BAD_FIELD)) := by
  refine congrArg _ (State.serveBy_answered h ?_)
  simp only [doTileBulk, if_neg (not_bulkRefused hop), hta, hmask, and_self, if_true]

end

/-! ### Answers at a sender -/

/-- The relay found in flight is that of the tile and TAG. -/
theorem State.flying?_some {s : State} {ta tag : Nat} {r : Relay} (h : s.flying? ta tag = some r) :
    r.ta = ta ∧ r.msgTag = tag ∧ r ∈ s.cmd.relays := by
  have hr : isRelay ta tag r = true ∧ r.sentAt.isSome = true := by simpa using List.find?_some h
  exact ⟨(isRelay_iff.mp hr.1).1, (isRelay_iff.mp hr.1).2, List.mem_of_find?_eq_some h⟩

theorem exec_regRsp_of_stray {m : RegRspMsg} {s : State} (h : s.flying? m.ta m.tag = none ∨ m.side ≠ s.side) :
    exec (.regRsp m) s = .next (s.tick m.t) := by
  change execRegRsp m s = _
  rw [execRegRsp, s.flying?_tick]
  rcases h with h | h
  · rw [h]
  · split
    · rfl
    · exact if_neg (fun hm => h hm.2)

theorem exec_regRsp {m : RegRspMsg} {s : State} {r : Relay} (h : s.flying? m.ta m.tag = some r) (hside : m.side = s.side)
    (hreg : r.isReg = true) :
    exec (.regRsp m) s = .next ((s.tick m.t).endRelay r { status := St.OK, body := leBytes 4 m.data.toNat }) := by
  change execRegRsp m s = _
  simp [execRegRsp, h, hreg, hside]

theorem exec_mboxRsp_of_stray {m : MboxRspMsg} {s : State} (h : s.isSender = false ∨ m.side ≠ s.side) :
    exec (.mboxRsp m) s = .next (s.tick m.t) := by
  change execMboxRsp m s = _
  have hcond : (!(s.tick m.t).isSender) = true ∨ m.side ≠ (s.tick m.t).side := h.imp_left (fun hs => by simp [hs])
  rw [execMboxRsp, if_pos hcond]

/-- A relayed command that its tile runs as a long operation is noted under the tile's token. -/
def State.noteTileOp (s : State) (m : MboxRspMsg) (r : Relay) : State :=
  { s with cmd := { s.cmd with tileOps := s.cmd.tileOps ++ (if byteAt m.body 8 = St.ACCEPTED then
      [{ ta := m.ta, token := leAt m.body 12 4, path := r.path, hostTag := r.hostTag }] else []) } }

theorem exec_mboxRsp {m : MboxRspMsg} {s : State} {r : Relay} (hsend : s.isSender = true) (hside : m.side = s.side)
    (hseg : m.segmented = false) (hflags : byteAt m.body 9 = 0) (hfly : s.flying? m.ta m.tag = some r) (hreg : r.isReg = false) :
    exec (.mboxRsp m) s = .next (((s.tick m.t).noteTileOp m r).endRelay r (readReply m.body)) := by
  change execMboxRsp m s = _
  have hcond : ¬ ((!(s.tick m.t).isSender) = true ∨ m.side ≠ (s.tick m.t).side) := by simp [hsend, hside]
  have hbit : natBit (readReply m.body).flags 1 = false := by simp [readReply, hflags, natBit]
  rw [execMboxRsp, if_neg hcond, hseg]
  simp only [State.wholeBody, Bool.false_eq_true, if_false, hbit, s.flying?_tick, hfly, hreg]
  refine congrArg (fun z : State => Host.Outcome.next (z.endRelay r (readReply m.body))) ?_
  by_cases hacc : (readReply m.body).status = St.ACCEPTED
  · rw [if_pos hacc, State.noteTileOp, if_pos (show byteAt m.body 8 = St.ACCEPTED from hacc)]
    rfl
  · rw [if_neg hacc, State.noteTileOp, if_neg (show ¬ byteAt m.body 8 = St.ACCEPTED from hacc), List.append_nil]

/-- The first nine bytes of a response without a body: OPCODE, LEN 0, TAG and STATUS (Table 20.3). -/
theorem responseBytes_take_nine {r : Response} (h : r.body = []) :
    ((responseBytes r).drop 0).take 9 = leBytes 2 r.opcode ++ zeroBytes 2 ++ leBytes 4 r.tag ++ leBytes 1 r.status := by
  rw [responseBytes, h]
  rfl

theorem responseBytes_status (r : Response) : ((responseBytes r).drop 8).take 1 = leBytes 1 r.status := rfl

/-! ### Repeats and time-outs -/

section
variable {ta tag : Nat} {s : State} {r : Relay} (h : s.flying? ta tag = some r) {x : Nat} (hx : r.sentAt = some x)
include h hx

theorem exec_relayRetry_of_due {t : Nat} (hsends : r.sends < 3) (hdue : x + r.sends * 20 * msT ≤ t) :
    exec (.relayRetry ta tag t) s = .next ((s.tick t).sendRelay r) := by
  change execRelayRetry ta tag t s = _
  have hcond : r.sends < 3 ∧ r.sentAt.getD 0 + r.sends * 20 * msT ≤ t := ⟨hsends, by rw [hx]; exact hdue⟩
  simp only [execRelayRetry, s.flying?_tick, h, if_pos hcond]

omit hx in
theorem exec_relayRetry_of_spent (t : Nat) (hsends : 3 ≤ r.sends) : exec (.relayRetry ta tag t) s = .next (s.tick t) := by
  change execRelayRetry ta tag t s = _
  have hcond : ¬ (r.sends < 3 ∧ r.sentAt.getD 0 + r.sends * 20 * msT ≤ t) := fun hc => absurd hc.1 (Nat.not_lt.mpr hsends)
  simp only [execRelayRetry, s.flying?_tick, h, if_neg hcond]

theorem exec_relayTimeout_of_due {t : Nat} (hdue : x + 60 * msT ≤ t) :
    exec (.relayTimeout ta tag t) s =
      .next (((s.tick t).bump Reg.CMD_RELAY_TIMEOUT 1).endRelay r (Reply.of St.TIMEOUT)) := by
  change execRelayTimeout ta tag t s = _
  have hcond : r.sentAt.getD 0 + 60 * msT ≤ t := by rw [hx]; exact hdue
  simp only [execRelayTimeout, s.flying?_tick, h, if_pos hcond]

end

/-- A relay that goes out again keeps the instant of its first sending. -/
theorem Relay.sentOnceMore_of_sent {r : Relay} {x : Nat} (h : r.sentAt = some x) (now : Nat) :
    r.sentOnceMore now = { r with sends := r.sends + 1 } := by
  simp [Relay.sentOnceMore, h]

theorem State.sendRelay_again {s : State} {ta tag : Nat} {r : Relay} (h : s.flying? ta tag = some r) {x : Nat} (hx : r.sentAt = some x) :
    (s.sendRelay r).flying? ta tag = some { r with sends := r.sends + 1 } ∧
      (s.sendRelay r).chn.tx = s.chn.tx ++ r.messages s.side := by
  obtain ⟨rfl, rfl, hmem⟩ := State.flying?_some h
  refine ⟨?_, by rw [s.sendRelay_eq]; rfl⟩
  rw [State.flying?_sendRelay ⟨r, hmem, isRelay_iff.mpr ⟨rfl, rfl⟩⟩, Relay.sentOnceMore_of_sent hx]

/-! ### Commands at a tile -/

theorem foldl_tileSend_length (type side tag : Nat) (bodies : List (List Byte)) (s : State) :
    (bodies.foldl (fun z x => z.tileSend type side tag x) s).chn.tx.length = s.chn.tx.length + 2 * bodies.length := by
  induction bodies generalizing s with
  | nil => rfl
  | cons b bodies ih =>
    rw [List.foldl_cons, ih]
    simp [State.tileSend, State.queueMsg]
    omega

/-- A tile's messages wait in its queues: no register, output or parameter changes. -/
theorem foldl_tileSend_keeps (type side tag : Nat) (bodies : List (List Byte)) (s : State) :
    (bodies.foldl (fun z x => z.tileSend type side tag x) s).regs = s.regs ∧
      (bodies.foldl (fun z x => z.tileSend type side tag x) s).gen = s.gen ∧
      (bodies.foldl (fun z x => z.tileSend type side tag x) s).out = s.out := by
  induction bodies generalizing s with
  | nil => exact ⟨rfl, rfl, rfl⟩
  | cons b bodies ih => exact ih (s.tileSend type side tag b)

section
variable {m : MboxMsg} {s : State} (hopen : (s.tick m.t).pathOpen (.chain m.side m.tag) = true) (hseg : m.segmented = false)
include hopen hseg

theorem exec_mbox_of_broadcast (hb : m.bcast = true) :
    exec (.mbox m) s = .next ((s.tick m.t).runSilent (.chain m.side m.tag) m.t m.body) := by
  change execMbox m s = _
  simp [execMbox, hopen, hseg, hb, State.wholeBody]

theorem exec_mbox_of_repeat (hb : m.bcast = false) {d : DupEntry}
    (hd : s.cmd.dups.find? (fun d => d.side == m.side && d.tag == m.tag) = some d) :
    exec (.mbox m) s = .next (d.bodies.foldl (fun (z : State) x => z.tileSend Msg.MBOX_RSP m.side m.tag x)
      ((s.tick m.t).bump Reg.CMD_DUP_ANSWERED 1)) := by
  change execMbox m s = _
  have hd' : (s.tick m.t).cmd.dups.find? (fun d => d.side == m.side && d.tag == m.tag) = some d := hd
  simp only [execMbox, hopen, hseg, hb, State.wholeBody, hd', Bool.not_true, Bool.false_eq_true, if_false]

theorem exec_mbox_of_new (hb : m.bcast = false)
    (hd : s.cmd.dups.find? (fun d => d.side == m.side && d.tag == m.tag) = none) :
    exec (.mbox m) s = .next ((s.tick m.t).runCommand (.chain m.side m.tag) m.t m.body) := by
  change execMbox m s = _
  have hd' : (s.tick m.t).cmd.dups.find? (fun d => d.side == m.side && d.tag == m.tag) = none := hd
  simp only [execMbox, hopen, hseg, hb, State.wholeBody, hd', Bool.not_true, Bool.false_eq_true, if_false]

end

/-- A command whose handler leaves Umbra's part is over once answered. -/
theorem State.runCommand_of_serve {s : State} {p : MboxPath} {t op : Nat} {b : List Byte} {f : MboxCmd → State → State × Reply}
    (hop : (s.tick t).runOpcode (leAt b 0 2) (readCommand p t b) = (s.tick t).serve op (readCommand p t b) f)
    (hf : ∀ z : State, z.HandlerKeeps (f (readCommand p t b) z).1)
    (hdown : s.umb.downDue = false) (hreset : s.umb.resetDue = false) :
    (s.tick t).runCommand p t b = s.serve op (readCommand p t b) f := by
  have hserve : (s.tick t).serve op (readCommand p t b) f = s.serve op (readCommand p t b) f := s.serve_tick op (readCommand p t b) f
  have humb := (s.serve_handlerKeeps (op := op) hf).umb
  rw [State.runCommand, hop, hserve]
  exact State.afterAnswer_of_nothing_due (by rw [humb, hdown]) (by rw [humb, hreset])

theorem doParamWrite_handlerKeeps (formed : Bool) (c : MboxCmd) (s : State) : s.HandlerKeeps (doParamWrite formed c s).1 := by
  unfold doParamWrite
  dsimp only
  split
  · exact .refl s
  · split
    · exact .refl s
    · split
      · exact .refl s
      · split
        · exact .refl s
        · split <;> exact ⟨rfl, rfl⟩

theorem doParamRead_handlerKeeps (c : MboxCmd) (s : State) : s.HandlerKeeps (doParamRead c s).1 := by
  unfold doParamRead
  split <;> exact .refl s

/-! ### BULK at a tile -/

theorem State.closeSession_handlerKeeps (s : State) (x : StageSession) (result status : Nat) :
    s.HandlerKeeps (s.closeSession x result status) := by
  have hresult : ∀ (z : State) r d, s.HandlerKeeps z → s.HandlerKeeps (z.stageResult r d) := by
    intro z r d h
    unfold State.stageResult
    split
    · exact ⟨h.umb, h.segs⟩
    · exact ⟨h.umb, h.segs⟩
  have hdrop : ∀ (z : State) tok, s.HandlerKeeps z → s.HandlerKeeps (z.dropJob tok) := fun z tok h => ⟨h.umb, h.segs⟩
  unfold State.closeSession
  dsimp only
  split
  · exact hresult _ _ _ ⟨rfl, rfl⟩
  next tok _ =>
    refine State.HandlerKeeps.trans ?_ (State.longEnd_answerKeeps _ tok status 0 _).toHandlerKeeps
    refine hdrop _ tok (hresult _ _ _ ?_)
    exact ⟨rfl, rfl⟩

theorem State.acceptBlock_handlerKeeps (s : State) (x : StageSession) (b : Nat) (bytes : List Byte) :
    s.HandlerKeeps (s.acceptBlock x b bytes) := by
  unfold State.acceptBlock
  dsimp only
  split_ifs
  · exact s.closeSession_handlerKeeps x 6 St.FAILED
  · exact ⟨rfl, rfl⟩
  · exact ⟨rfl, rfl⟩

theorem doStageData_handlerKeeps (c : MboxCmd) (s : State) : s.HandlerKeeps (doStageData c s).1 := by
  unfold doStageData
  dsimp only
  split
  · exact .refl s
  · split_ifs
    · exact .refl s
    · exact .refl s
    · exact .refl s
    · exact ⟨rfl, rfl⟩
    · exact ⟨rfl, rfl⟩
    · exact s.acceptBlock_handlerKeeps _ _ _

theorem State.calStage_handlerKeeps (s : State) (off : Nat) (bs : List Byte) : s.HandlerKeeps (s.calStage off bs) := by
  unfold State.calStage
  split <;> exact ⟨rfl, rfl⟩

theorem doCalStageData_handlerKeeps (c : MboxCmd) (s : State) : s.HandlerKeeps (doCalStageData c s).1 := by
  unfold doCalStageData
  dsimp only
  split
  · exact .refl s
  · exact s.calStage_handlerKeeps _ _

/-- Segments received, and nothing else, differ. -/
def State.withSegs (s : State) (l : List SegAsm) : State := { s with cmd := { s.cmd with segs := l } }

/-- A message in one segment is whole at once. -/
theorem State.assemble_of_single {s : State} {source tag : Nat} {body : List Byte} (hone : slice body 2 2 = [0, 1])
    (hlen : leAt body 4 4 = (body.drop 8).length) :
    ∃ l, s.assemble source tag body = (s.withSegs l, some (body.drop 8)) := by
  have hget : ∀ i, ([(0 : Byte), 1][i]?).isSome = true → body[2 + i]? = [(0 : Byte), 1][i]? := by
    intro i hi
    have hlt : i < 2 := by simpa using hi
    rw [← hone, slice, List.getElem?_take_of_lt hlt, List.getElem?_drop]
  have hidx : byteAt body 2 = 0 := by simp [byteAt, List.getD_eq_getElem?_getD, hget 0 rfl]
  have hn : byteAt body 3 = 1 := by simp [byteAt, List.getD_eq_getElem?_getD, hget 1 rfl]
  refine ⟨s.cmd.segs.filter (fun x => !(x.source == source && seqBehind x.seq (leAt body 0 2))), ?_⟩
  simp [State.assemble, hidx, hn, hlen, State.withSegs]

section
variable {m : BulkMsg} {s : State} (hopen : (s.tick m.t).pathOpen (.chain m.side m.tag) = true)
  (hone : slice m.body 2 2 = [0, 1]) (hlen : leAt m.body 4 4 = (m.body.drop 8).length)
include hopen hone hlen

/-- A BULK message in one segment carries a STAGE_DATA or a CAL_STAGE_DATA to run, or nothing. -/
theorem exec_bulk_of_single : ∃ l, exec (.bulk m) s = .next
    (if leAt (m.body.drop 8) 0 2 = 0x102 ∨ leAt (m.body.drop 8) 0 2 = 0x501 then
      ((s.tick m.t).withSegs l).runSilent (.chain m.side m.tag) m.t (m.body.drop 8) else (s.tick m.t).withSegs l) := by
  obtain ⟨l, hl⟩ := State.assemble_of_single (s := s.tick m.t) (source := 2 + m.side) (tag := m.tag) hone hlen
  refine ⟨l, ?_⟩
  change execBulk m s = _
  simp only [execBulk, hopen, hl, Bool.not_true, Bool.false_eq_true, if_false]
  split <;> rfl

end

/-- A command run without an answer: its effects, with the messages queued before. -/
theorem State.runSilent_of_serve {s : State} {p : MboxPath} {t op : Nat} {b : List Byte} {f : MboxCmd → State → State × Reply}
    (hop : (s.tick t).runOpcode (leAt b 0 2) (readCommand p t b) = (s.tick t).serve op (readCommand p t b) f)
    (hf : ∀ z : State, z.HandlerKeeps (f (readCommand p t b) z).1) (hdown : s.umb.downDue = false) (hreset : s.umb.resetDue = false) :
    ((s.tick t).runSilent p t b).gen = (s.serve op (readCommand p t b) f).gen ∧
      ((s.tick t).runSilent p t b).tru = (s.serve op (readCommand p t b) f).tru ∧
      ((s.tick t).runSilent p t b).cal = (s.serve op (readCommand p t b) f).cal ∧
      ((s.tick t).runSilent p t b).chn.tx = s.chn.tx ∧ ((s.tick t).runSilent p t b).cmd.dups = s.cmd.dups ∧
      ((s.tick t).runSilent p t b).cmd.segs = s.cmd.segs := by
  have hserve : (s.tick t).serve op (readCommand p t b) f = s.serve op (readCommand p t b) f := s.serve_tick op (readCommand p t b) f
  have hkeep := s.serve_handlerKeeps (op := op) hf
  rw [State.runSilent, hop, hserve, State.afterAnswer_of_nothing_due]
  · exact ⟨rfl, rfl, rfl, rfl, rfl, hkeep.segs⟩
  · exact (congrArg (·.downDue) hkeep.umb).trans hdown
  · exact (congrArg (·.resetDue) hkeep.umb).trans hreset

end Sys2Proof.Machine
end

section
/-! The statement on relays (R18, R355 to R357). -/
namespace Sys2Proof.Machine

/-! ### A command relayed -/

theorem exec_tileReg_sent {c : MboxCmd} {s : State} (h : s.takes 0x601 c = true) (hop : byteAt c.body 1 ≤ 1) {ta tag type : Nat} {body : List Byte}
    (hta : ta = byteAt c.body 0) (htag : tag = tabGet s.cmd.relayTags ta)
    (hbody : body = if byteAt c.body 1 = 0 then slice c.body 4 4 else slice c.body 4 4 ++ slice c.body 8 4)
    (htype : type = if byteAt c.body 1 = 0 then Msg.REG_RD else Msg.REG_WR) (hfree : (s.inFlight ta).length < 4)
    (hfirst : s.cmd.relays.all (fun r => r.ta != ta || r.sentAt.isSome) = true) :
    ∃ t, exec (.tileReg c) s = .next t ∧
      t.chn.tx = s.chn.tx ++ [{ port := ta / 64, bytes := messageBytes type (4 * s.side) ta tag body, sent := 0 }] ∧
      (t.flying? ta tag).map (fun r => (r.isReg, r.hostTag, r.sentAt, r.sends)) = some (true, c.tag, some (Nat.max s.now c.t), 1) ∧
      tabGet t.cmd.relayTags ta = (tag + 1) % 256 ∧ t.out = s.out := by
  subst hta htag hbody htype
  obtain ⟨htx, hfly, hnext, hout, -⟩ := State.relay_of_free_spec (s := s.tick c.t) hfree hfirst c 0x601 _ true _ rfl
  exact ⟨_, exec_tileReg h hop, htx, (congrArg _ hfly).trans rfl, hnext, hout⟩

theorem exec_tileReg_waits {c : MboxCmd} {s : State} (h : s.takes 0x601 c = true) (hop : byteAt c.body 1 ≤ 1)
    (hfull : 4 ≤ (s.inFlight (byteAt c.body 0)).length) :
    ∃ t, exec (.tileReg c) s = .next t ∧ t.chn.tx = s.chn.tx ∧ t.cmd.relays.length = s.cmd.relays.length + 1 := by
  refine ⟨_, exec_tileReg h hop, ?_⟩
  rw [State.relay_of_full (s := s.tick c.t) hfull]
  exact ⟨rfl, List.length_append⟩

theorem exec_tileCmd_sent {c : MboxCmd} {s : State} (h : s.takes 0x602 c = true) (hta : byteAt c.body 0 ≠ 0xFF) (hnone : s.cmd.relays = [])
    {ta : Nat} (hta' : ta = byteAt c.body 0) :
    ∃ t, exec (.tileCmd c) s = .next t ∧ t.out = s.out ∧ t.cmd.segSeq = (s.cmd.segSeq + 1) % 65536 ∧
      t.chn.tx = s.chn.tx ++ (bodiesOf 1016 s.cmd.segSeq (c.body.drop 4)).map (fun b =>
        { port := ta / 64, bytes := messageBytes Msg.MBOX (4 * s.side) ta (tabGet s.cmd.relayTags ta) b, sent := 0 }) ∧
      (t.flying? ta (tabGet s.cmd.relayTags ta)).map (fun r => (r.isReg, r.hostTag, r.sends)) = some (false, c.tag, 1) := by
  subst hta'
  have hnone' : (s.tick c.t).nextSeg.cmd.relays = [] := hnone
  have hfree : ((s.tick c.t).nextSeg.inFlight (byteAt c.body 0)).length < 4 := by simp [State.inFlight, hnone']
  obtain ⟨htx, hfly, -, hout, hseq⟩ :=
    State.relay_of_free_spec hfree (by rw [hnone']; rfl) c 0x602 Msg.MBOX false (bodiesOf 1016 s.cmd.segSeq (c.body.drop 4)) rfl
  exact ⟨_, exec_tileCmd_of_tile h hta, hout, hseq, htx, (congrArg _ hfly).trans rfl⟩

/-! ### A relay answered -/

theorem exec_regRsp_answers {m : RegRspMsg} {s : State} {r : Relay} (h : s.flying? m.ta m.tag = some r) (hside : m.side = s.side)
    (hreg : r.isReg = true) (hspi : r.path = .spi) :
    ∃ t, exec (.regRsp m) s = .next t ∧ t.flying? m.ta m.tag = none ∧ t.reg Reg.CMD_SPI_CTRL = 2 ∧
      cellRead (fun _ => (0 : Byte)) t.cmd.spiRsp 0 36 =
        responseBytes (r.response { status := St.OK, body := leBytes 4 m.data.toNat }) := by
  obtain ⟨hta, htag, -⟩ := State.flying?_some h
  obtain ⟨hgone, hregs, -, hread⟩ :=
    State.endRelay_spi (s := s.tick m.t) hspi { status := St.OK, body := leBytes 4 m.data.toNat }
  rw [hta, htag] at hgone
  refine ⟨_, exec_regRsp h hside hreg, hgone, (hregs _).trans (if_pos rfl), (hread 0 36 (by simp)).trans ?_⟩
  refine List.take_of_length_le ?_
  rw [List.drop_zero, responseBytes_length]
  simp [Relay.response]

theorem exec_mboxRsp_answers {m : MboxRspMsg} {s : State} {r : Relay} (hsend : s.isSender = true) (hside : m.side = s.side)
    (hseg : m.segmented = false) (hflags : byteAt m.body 9 = 0) (h : s.flying? m.ta m.tag = some r) (hreg : r.isReg = false)
    (hspi : r.path = .spi) (hlen : m.body.length = 32) :
    ∃ t, exec (.mboxRsp m) s = .next t ∧ t.flying? m.ta m.tag = none ∧
      cellRead (fun _ => (0 : Byte)) t.cmd.spiRsp 0 9 =
        leBytes 2 r.hostOpcode ++ zeroBytes 2 ++ leBytes 4 r.hostTag ++ leBytes 1 (byteAt m.body 8) ∧
      t.cmd.tileOps = s.cmd.tileOps ++ (if byteAt m.body 8 = St.ACCEPTED then
        [{ ta := m.ta, token := leAt m.body 12 4, path := .spi, hostTag := r.hostTag }] else []) := by
  obtain ⟨hta, htag, -⟩ := State.flying?_some h
  obtain ⟨hgone, -, hops, hread⟩ := State.endRelay_spi (s := (s.tick m.t).noteTileOp m r) hspi (readReply m.body)
  rw [hta, htag] at hgone
  have hbody : (readReply m.body).body = [] := List.drop_eq_nil_of_le (le_of_eq hlen)
  refine ⟨_, exec_mboxRsp hsend hside hseg hflags h hreg, hgone, (hread 0 9 (by omega)).trans ?_, hops.trans ?_⟩
  · exact responseBytes_take_nine (r := r.response (readReply m.body)) hbody
  · rw [← hspi]
    rfl

theorem exec_relayTimeout_answers {ta tag t0 : Nat} {s : State} {r : Relay} {x : Nat} (h : s.flying? ta tag = some r) (hx : r.sentAt = some x)
    (hdue : x + 60 * msT ≤ t0) (hspi : r.path = .spi) :
    ∃ t, exec (.relayTimeout ta tag t0) s = .next t ∧ t.flying? ta tag = none ∧
      t.reg Reg.CMD_RELAY_TIMEOUT = satAdd (s.reg Reg.CMD_RELAY_TIMEOUT) 1 ∧
      cellRead (fun _ => (0 : Byte)) t.cmd.spiRsp 8 1 = leBytes 1 St.TIMEOUT := by
  obtain ⟨hta, htag, -⟩ := State.flying?_some h
  obtain ⟨hgone, hregs, -, hread⟩ :=
    State.endRelay_spi (s := (s.tick t0).bump Reg.CMD_RELAY_TIMEOUT 1) hspi (Reply.of St.TIMEOUT)
  rw [hta, htag] at hgone
  have hne : Reg.CMD_SPI_CTRL ≠ Reg.CMD_RELAY_TIMEOUT := by decide
  refine ⟨_, exec_relayTimeout_of_due h hx hdue, hgone, ((hregs _).trans (if_neg hne)).trans (by simp), ?_⟩
  exact (hread 8 1 (by omega)).trans (responseBytes_status (r.response (Reply.of St.TIMEOUT)))

/-! ### The messages a tile takes -/

section
variable {m : MboxMsg} {s : State} (hopen : (s.tick m.t).pathOpen (.chain m.side m.tag) = true) (hseg : m.segmented = false)
include hopen hseg

theorem exec_mbox_answers_repeat (hb : m.bcast = false) {d : DupEntry}
    (hd : s.cmd.dups.find? (fun d => d.side == m.side && d.tag == m.tag) = some d) :
    ∃ t, exec (.mbox m) s = .next t ∧ t.reg Reg.CMD_DUP_ANSWERED = satAdd (s.reg Reg.CMD_DUP_ANSWERED) 1 ∧ t.gen = s.gen ∧
      t.chn.tx.length = s.chn.tx.length + 2 * d.bodies.length ∧ t.out = s.out := by
  obtain ⟨hregs, hgen, hout⟩ :=
    foldl_tileSend_keeps Msg.MBOX_RSP m.side m.tag d.bodies ((s.tick m.t).bump Reg.CMD_DUP_ANSWERED 1)
  refine ⟨_, exec_mbox_of_repeat hopen hseg hb hd, ?_, hgen, foldl_tileSend_length _ _ _ _ _, hout⟩
  exact (congrArg (fun l => cellGet resetValue l Reg.CMD_DUP_ANSWERED) hregs).trans
    ((State.reg_bump _ _ _ _).trans (if_pos rfl))

section
variable (hdown : s.umb.downDue = false) (hreset : s.umb.resetDue = false)
include hdown hreset

theorem exec_mbox_eq_serve (hb : m.bcast = false)
    (hd : s.cmd.dups.find? (fun d => d.side == m.side && d.tag == m.tag) = none) {op : Nat} {f : MboxCmd → State → State × Reply}
    (hop : (s.tick m.t).runOpcode (leAt m.body 0 2) (readCommand (.chain m.side m.tag) m.t m.body) =
      (s.tick m.t).serve op (readCommand (.chain m.side m.tag) m.t m.body) f)
    (hf : ∀ z : State, z.HandlerKeeps (f (readCommand (.chain m.side m.tag) m.t m.body) z).1) :
    exec (.mbox m) s = .next (s.serve op (readCommand (.chain m.side m.tag) m.t m.body) f) := by
  rw [exec_mbox_of_new hopen hseg hb hd, State.runCommand_of_serve hop hf hdown hreset]

theorem exec_mbox_broadcast_paramWrite (hb : m.bcast = true) (hop : leAt m.body 0 2 = 7) :
    ∃ t u, exec (.mbox m) s = .next t ∧ exec (.paramWrite (readCommand (.chain m.side m.tag) m.t m.body)) s = .next u ∧
      t.gen = u.gen ∧ t.chn.tx = s.chn.tx ∧ t.cmd.dups = s.cmd.dups := by
  obtain ⟨hgen, -, -, htx, hdups, -⟩ := State.runSilent_of_serve (op := 7) (f := fun c s => doParamWrite s.formed c s)
    (p := .chain m.side m.tag) (by rw [hop]; rfl) (fun z => doParamWrite_handlerKeeps z.formed _ z) hdown hreset
  exact ⟨_, _, exec_mbox_of_broadcast hopen hseg hb, rfl, hgen, htx, hdups⟩

end
end

/-- The bytes of CAL_STAGE_DATA reach the staging area as the mailbox command takes them there. -/
theorem exec_calStageData_eq (c : MboxCmd) (s : State) :
    exec (.calStageData { offset := leAt c.body 0 4, bytes := c.body.drop 4, t := c.t }) s = .next (doCalStageData c (s.tick c.t)).1 := by
  change execCalStageData _ s = _
  unfold execCalStageData doCalStageData
  dsimp only
  split <;> rfl

theorem doCalStageData_withSegs_cal (c : MboxCmd) (s : State) (l : List SegAsm) :
    (doCalStageData c (s.withSegs l)).1.cal = (doCalStageData c s).1.cal := by
  have hbytes : (s.withSegs l).stageBytes = s.stageBytes := rfl
  have hstage : ∀ off bs, ((s.withSegs l).calStage off bs).cal = (s.calStage off bs).cal := by
    intro off bs
    unfold State.calStage
    rw [show (s.withSegs l).cal = s.cal from rfl]
    split <;> rfl
  unfold doCalStageData
  dsimp only
  rw [hbytes]
  split
  · rfl
  · exact hstage _ _

theorem serve_calStageData_cal {s : State} {c : MboxCmd} (h : s.takes 0x501 c = true) :
    (s.serve 0x501 c doCalStageData).cal = (doCalStageData c (s.tick c.t)).1.cal := by
  rw [State.serve_of_takes h]
  exact (State.answer_answerKeeps _ _ _ _).cal

section
variable {m : BulkMsg} {s : State} (hopen : (s.tick m.t).pathOpen (.chain m.side m.tag) = true)
  (hone : slice m.body 2 2 = [0, 1]) (hlen : leAt m.body 4 4 = (m.body.drop 8).length)
  (hdown : s.umb.downDue = false) (hreset : s.umb.resetDue = false)
include hopen hone hlen hdown hreset

theorem exec_bulk_spec : ∃ t, exec (.bulk m) s = .next t ∧ t.chn.tx = s.chn.tx ∧
    (leAt (m.body.drop 8) 0 2 ≠ 0x102 → leAt (m.body.drop 8) 0 2 ≠ 0x501 → t.tru = s.tru ∧ t.cal = s.cal ∧ t.regs = s.regs) ∧
    (leAt (m.body.drop 8) 0 2 = 0x102 →
      ∃ u : State, exec (.stageData (readCommand (.chain m.side m.tag) m.t (m.body.drop 8))) (s.withSegs t.cmd.segs) = .next u ∧
        t.tru = u.tru) ∧
    (leAt (m.body.drop 8) 0 2 = 0x501 → s.takes 0x501 (readCommand (.chain m.side m.tag) m.t (m.body.drop 8)) = true →
      ∃ u : State, exec (.calStageData { offset := leAt (m.body.drop 40) 0 4, bytes := m.body.drop 44, t := m.t }) s = .next u ∧
        t.cal = u.cal) := by
  obtain ⟨l, hexec⟩ := exec_bulk_of_single hopen hone hlen
  by_cases hop : leAt (m.body.drop 8) 0 2 = 0x102 ∨ leAt (m.body.drop 8) 0 2 = 0x501
  · rw [if_pos hop] at hexec
    refine ⟨_, hexec, ?_⟩
    rcases hop with hop | hop
    · obtain ⟨-, htru, -, htx, -, hsegs⟩ := State.runSilent_of_serve (s := s.withSegs l) (p := .chain m.side m.tag) (t := m.t) (op := 0x102)
        (b := m.body.drop 8) (f := doStageData) (by rw [hop]; rfl) (doStageData_handlerKeeps _) hdown hreset
      refine ⟨htx, fun h => absurd hop h, fun _ => ⟨_, rfl, ?_⟩, fun h => by omega⟩
      exact htru.trans (congrArg (fun l => (State.serve (s.withSegs l) 0x102 _ doStageData).tru) hsegs.symm)
    · obtain ⟨-, -, hcal, htx, -, -⟩ := State.runSilent_of_serve (s := s.withSegs l) (p := .chain m.side m.tag) (t := m.t) (op := 0x501)
        (b := m.body.drop 8) (f := doCalStageData) (by rw [hop]; rfl) (doCalStageData_handlerKeeps _) hdown hreset
      refine ⟨htx, fun _ h => absurd hop h, fun h => by omega, fun _ htakes => ?_⟩
      have h40 : m.body.drop 40 = (m.body.drop 8).drop 32 := by rw [List.drop_drop]
      have h44 : m.body.drop 44 = ((m.body.drop 8).drop 32).drop 4 := by simp only [List.drop_drop]
      rw [h40, h44]
      exact ⟨_, exec_calStageData_eq (readCommand (.chain m.side m.tag) m.t (m.body.drop 8)) s,
        (hcal.trans (serve_calStageData_cal htakes)).trans (doCalStageData_withSegs_cal _ (s.tick m.t) l)⟩
  · rw [if_neg hop] at hexec
    exact ⟨_, hexec, rfl, fun _ _ => ⟨rfl, rfl, rfl⟩, fun h => absurd (.inl h) hop, fun h => absurd (.inr h) hop⟩

end

/-! ### Register messages at a tile -/

theorem exec_regRd_of_open {m : RegMsg} {s : State} (h : (s.tick m.t).regPathOpen (.chain m.side) = true) :
    exec (.regRd m) s = .next (((s.tick m.t).regRead (.chain m.side) m.addr).2.tileSend Msg.REG_RSP m.side m.tag
      (0 :: leBytes 4 ((s.tick m.t).regRead (.chain m.side) m.addr).1)) := by
  change execRegRd m s = _
  simp only [execRegRd, h, Bool.not_true, Bool.false_eq_true, if_false]

theorem exec_regWr_of_open {m : RegMsg} {s : State} (h : (s.tick m.t).regPathOpen (.chain m.side) = true) :
    ∃ t, exec (.regWr m) s = .next t ∧
      t.regs = ((s.tick m.t).regWrite { path := .chain m.side, addr := m.addr, data := m.data, be := 15 }).regs := by
  change ∃ t, execRegWr m s = _ ∧ _
  simp only [execRegWr, h, Bool.not_true, Bool.false_eq_true, if_false]
  exact ⟨_, rfl, rfl⟩

/-- Settles O55: a command for a tile is one relay under the tile's next TAG, ended by its response or its time-out, and a tile's
messages run as the commands they carry. -/
theorem relaysReachTheTiles : Obligations.RelaysReachTheTiles := by
  refine ⟨fun c s h => ⟨exec_tileReg_of_badOp h, fun hop hfree hfirst => exec_tileReg_sent h hop rfl rfl rfl rfl hfree hfirst,
      exec_tileReg_waits h⟩,
    fun c s h => ⟨fun hta hnone => exec_tileCmd_sent h hta hnone rfl,
      fun hta hmask hop => ⟨_, exec_tileCmd_of_broadcast h hta hmask hop, ?bcastRelays, ?bcastTx⟩, exec_tileCmd_of_badBroadcast h⟩,
    fun c s h => ⟨exec_tileBulk_of_other h, fun hop hta => ⟨_, exec_tileBulk_of_tile h hop hta, rfl⟩,
      fun hop hta => ⟨exec_tileBulk_of_badMask h hop hta, fun hmask => ⟨_, exec_tileBulk_of_broadcast h hop hta hmask, ?bulkTx⟩⟩⟩,
    fun m s => ⟨exec_regRsp_of_stray, fun r h hside hreg hspi => exec_regRsp_answers h hside hreg hspi⟩,
    fun m s => exec_mboxRsp_of_stray,
    fun m s r hsend hside hseg hflags h hreg hspi hlen => exec_mboxRsp_answers hsend hside hseg hflags h hreg hspi hlen,
    fun ta tag t0 s r x h hx => ⟨fun hsends hdue => ?retry, exec_relayRetry_of_spent h t0, exec_relayTimeout_answers h hx⟩,
    fun m s hopen hseg => ⟨fun hb d hd => exec_mbox_answers_repeat hopen hseg hb hd, fun hb hd hdown hreset => ?new,
      fun hb hdown hreset hop => exec_mbox_broadcast_paramWrite hopen hseg hdown hreset hb hop⟩,
    fun m s hopen hone hlen hdown hreset => exec_bulk_spec hopen hone hlen hdown hreset,
    fun m s hopen => ⟨?read, fun ha hn hb h33 => ?readGen, ?write⟩⟩
  case bcastRelays => rw [State.bcast_eq]; rfl
  case bcastTx => rw [State.bcast_eq]; rfl
  case bulkTx => rw [State.bcast_eq]; rfl
  case retry =>
    obtain ⟨rfl, rfl, -⟩ := State.flying?_some h
    exact ⟨_, exec_relayRetry_of_due h hx hsends hdue, State.sendRelay_again (s := s.tick t0) h hx⟩
  case new =>
    exact ⟨fun hop => exec_mbox_eq_serve hopen hseg hdown hreset hb hd (op := 0) (by rw [hop]; rfl) (fun z => .refl z),
      fun hop => exec_mbox_eq_serve hopen hseg hdown hreset hb hd (op := 7) (f := fun c s => doParamWrite s.formed c s)
        (by rw [hop]; rfl) (fun z => doParamWrite_handlerKeeps z.formed _ z),
      fun hop => exec_mbox_eq_serve hopen hseg hdown hreset hb hd (op := 8) (by rw [hop]; rfl) (doParamRead_handlerKeeps _)⟩
  case read => exact exec_regRd_of_open hopen
  case readGen =>
    have hread := (s.tick m.t).regRead_gen (.chain m.side) hb hn ha
    rw [exec_regRd_of_open hopen, hread, State.genView_of_ne _ h33, Option.getD_none, Nat.mod_eq_of_lt (BitVec.isLt _)]
    rfl
  case write => exact exec_regWr_of_open hopen

end Sys2Proof.Machine
end

section
/-! Slices at a tile (chapter 8; R127, R128, R154 to R157, R286): what receiving and decoding one do to the block's counters and to the
pictures the tile holds. -/
namespace Sys2Proof.Machine

@[simp] theorem State.reg_noteHealth (s : State) (k n b : Nat) : (s.noteHealth k n).reg b = s.reg b := rfl

/-! ### The counters -/

theorem exec_ccxCntClear {p : Path} {s : State} (h : s.admits p Reg.CCX_CNT_CLEAR 1 = true) :
    exec (.ccxCntClear p) s = .next (s.resetRegs ccxCounter) := by
  have hmap : Reg.CCX_CNT_CLEAR ≠ Reg.LMP_MAP := by decide
  have hblock : Reg.CCX_CNT_CLEAR / 65536 = 8 := by decide
  have hwrite : s.blockWrite p Reg.CCX_CNT_CLEAR 1 = s.ccxWrite Reg.CCX_CNT_CLEAR 1 := by simp only [State.blockWrite, hblock]
  exact congrArg _ ((State.regWrite_of_allowed h hmap).trans hwrite)

/-! ### Refresh requests -/

theorem State.reg_sendRefreshReq (s : State) (f slot ref b : Nat) :
    (s.sendRefreshReq f slot ref).reg b = if Reg.CCX_REFRESH_REQ = b then satAdd (s.reg Reg.CCX_REFRESH_REQ) 1 else s.reg b :=
  s.reg_bump Reg.CCX_REFRESH_REQ 1 b

theorem exec_refreshReqRetry_of_due {slot t0 : Nat} {s : State} {a : RefreshAsk} {tl : Timeline}
    (ha : s.ccx.asks.find? (fun a => a.slot == slot) = some a) (hagain : a.again = false) (htl : s.timeline? = some tl)
    (hn : tl.nImage ≠ 0) (hdue : a.sentAt + 16 * periodNs tl * nsT / tl.nImage ≤ t0) :
    ∃ t, exec (.refreshReqRetry slot t0) s = .next t ∧ t.reg Reg.CCX_REFRESH_REQ = satAdd (s.reg Reg.CCX_REFRESH_REQ) 1 ∧
      t.ccx.asks = s.ccx.asks.map (fun x => if x.slot = slot then { x with again := true } else x) := by
  have ha' : (s.tick t0).ccx.asks.find? (fun a => a.slot == slot) = some a := ha
  have htl' : (s.tick t0).timeline? = some tl := htl
  have hcond : ¬ (a.again = true ∨ tl.nImage = 0 ∨ t0 < a.sentAt + 16 * periodNs tl * nsT / tl.nImage) := by
    simp [hagain, hn, Nat.not_lt.mpr hdue]
  change ∃ t, execRefreshReqRetry slot t0 s = _ ∧ _
  unfold execRefreshReqRetry
  dsimp only
  rw [ha', htl']
  dsimp only
  rw [if_neg hcond]
  exact ⟨_, rfl, (State.reg_sendRefreshReq _ _ _ _ _).trans (if_pos rfl), rfl⟩

/-- The part a sender plays in its pair is read from RED_STATE and PAIR_POSITION. -/
theorem State.follows_congr {s t : State} (hred : t.reg Reg.RED_STATE = s.reg Reg.RED_STATE) (hgen : t.gen = s.gen) :
    t.follows = s.follows := by
  have hlink : t.linkCode = s.linkCode := by simp only [State.linkCode, State.get, hred]
  have hjoiner : t.bit Reg.RED_STATE Fld.RED_STATE_JOINER = s.bit Reg.RED_STATE Fld.RED_STATE_JOINER := by
    simp only [State.bit, hred]
  have hmirror : t.isMirror = s.isMirror := by
    unfold State.isMirror State.param
    rw [hgen]
  unfold State.follows State.leads State.agreed State.formed
  rw [hlink, hjoiner, hmirror]

/-- A pool marked unusable is the coder's alone. -/
theorem State.markUnusable_keeps (s : State) (ta : Nat) :
    (∀ b, (s.markUnusable ta).reg b = s.reg b) ∧ (s.markUnusable ta).gen = s.gen ∧ (s.markUnusable ta).ccx.refresh = s.ccx.refresh := by
  unfold State.markUnusable
  split <;> exact ⟨fun _ => rfl, rfl, rfl⟩

@[simp] theorem State.reg_sendLink (s : State) (r : LinkRecord) (b : Nat) : (s.sendLink r).reg b = s.reg b := by
  unfold State.sendLink
  split <;> rfl

@[simp] theorem State.sendLink_ccx (s : State) (r : LinkRecord) : (s.sendLink r).ccx = s.ccx := by
  unfold State.sendLink
  split <;> rfl

theorem State.oweRefresh_of_none {s : State} {ta : Nat} (h : s.ccx.refresh.any (fun j => j.ta == ta) = false) (ready n : Nat) :
    s.oweRefresh ta ready n =
      { s with ccx := { s.ccx with refresh := s.ccx.refresh ++ [{ ta := ta, due := List.range n, ready := ready, startup := false }] } } := by
  simp only [State.oweRefresh, h, Bool.false_eq_true, if_false]

theorem exec_refreshReq_of_chain {ta t0 : Nat} {s : State} {im : Image} {c : ChainRec} (him : s.gen.running = some im)
    (hsend : s.isSender = true) (hc : s.chainOf? ta = some c) (chain wfn slot ref : Nat) :
    ∃ t, exec (.refreshReq chain ta wfn slot ref t0) s = .next t ∧
      t.reg Reg.CCX_REFRESH_REQ = satAdd (s.reg Reg.CCX_REFRESH_REQ) 1 ∧
      t.ccx.refresh = (if s.follows || s.ccx.refresh.any (fun j => j.ta == ta) then s.ccx.refresh
        else s.ccx.refresh ++ [{ ta := ta, due := List.range im.timeline.nImage, ready := t0 + 200 * usT, startup := false }]) := by
  have him' : (s.tick t0).image? = some im := him
  have hsend' : (s.tick t0).isSender = true := hsend
  have hc' : (s.tick t0).chainOf? ta = some c := hc
  have hcount : ((s.tick t0).bump Reg.CCX_REFRESH_REQ 1).reg Reg.CCX_REFRESH_REQ = satAdd (s.reg Reg.CCX_REFRESH_REQ) 1 :=
    (State.reg_bump _ _ _ _).trans (if_pos rfl)
  have hred : ((s.tick t0).bump Reg.CCX_REFRESH_REQ 1).reg Reg.RED_STATE = s.reg Reg.RED_STATE :=
    (State.reg_bump _ _ _ _).trans (if_neg (by decide))
  have hgen' : ((s.tick t0).bump Reg.CCX_REFRESH_REQ 1).gen = s.gen := rfl
  have hccx : ((s.tick t0).bump Reg.CCX_REFRESH_REQ 1).ccx = s.ccx := rfl
  change ∃ t, execRefreshReq chain ta wfn slot ref t0 s = _ ∧ _
  simp only [execRefreshReq, him', hc', hsend', Bool.not_true, Bool.false_eq_true, if_false]
  generalize (s.tick t0).bump Reg.CCX_REFRESH_REQ 1 = z at hcount hred hgen' hccx
  obtain ⟨hreg, hgen, hrefresh⟩ := z.markUnusable_keeps ta
  have hfollows : (z.markUnusable ta).follows = s.follows := State.follows_congr ((hreg _).trans hred) (hgen.trans hgen')
  rw [hccx, hfollows]
  rw [hccx] at hrefresh
  cases hany : s.ccx.refresh.any (fun j => j.ta == ta)
  · cases hf : s.follows
    · have hnone : (z.markUnusable ta).ccx.refresh.any (fun j => j.ta == ta) = false := by rw [hrefresh, hany]
      refine ⟨_, rfl, ?_, ?_⟩
      · rw [State.reg_sendLink, State.oweRefresh_of_none hnone]
        exact (hreg _).trans hcount
      · rw [State.sendLink_ccx, State.oweRefresh_of_none hnone, ← hrefresh]
        rfl
    · exact ⟨_, rfl, (hreg _).trans hcount, hrefresh⟩
  · exact ⟨_, rfl, hcount, by simp [hccx]⟩

/-! ### Receiving a slice -/

/-- What a tile reads to forward, the messages it put out, its chain coding and its chain registers: what noting a divergent picture leaves. -/
structure State.ForwardKeeps (s t : State) : Prop where
  gen : t.gen = s.gen
  sending : t.chn.sending = s.chn.sending
  dbg : t.dbg = s.dbg
  out : t.out = s.out
  ccx : t.ccx = s.ccx
  regs : ∀ b, b / 65536 = 7 → t.reg b = s.reg b

theorem State.ForwardKeeps.refl (s : State) : s.ForwardKeeps s := ⟨rfl, rfl, rfl, rfl, rfl, fun _ _ => rfl⟩

theorem State.ForwardKeeps.trans {s t u : State} (h : s.ForwardKeeps t) (k : t.ForwardKeeps u) : s.ForwardKeeps u :=
  ⟨k.gen.trans h.gen, k.sending.trans h.sending, k.dbg.trans h.dbg, k.out.trans h.out, k.ccx.trans h.ccx,
    fun b hb => (k.regs b hb).trans (h.regs b hb)⟩

theorem State.forwards_congr {s t : State} (hgen : t.gen = s.gen) (hsending : t.chn.sending = s.chn.sending) (hdbg : t.dbg = s.dbg)
    (habsent : t.eastAbsent = s.eastAbsent) (port : Nat) : t.forwards port = s.forwards port := by
  unfold State.forwards State.isSender State.role?
  rw [hgen, hsending, hdbg, habsent]

theorem State.ForwardKeeps.forwards {s t : State} (h : s.ForwardKeeps t) (port : Nat) : t.forwards port = s.forwards port := by
  refine State.forwards_congr h.gen h.sending h.dbg ?_ port
  unfold State.eastAbsent State.bit
  rw [h.regs _ (by decide)]

theorem State.setReg_forwardKeeps (s : State) {a : Nat} (ha : a / 65536 ≠ 7) (v : Word) : s.ForwardKeeps (s.setReg a v) := by
  refine ⟨rfl, rfl, rfl, rfl, rfl, fun b hb => ?_⟩
  rw [State.reg_setReg, if_neg]
  rintro rfl
  exact ha hb

theorem State.tileSend_forwardKeeps (s : State) (type side tag : Nat) (body : List Byte) :
    s.ForwardKeeps (s.tileSend type side tag body) := ⟨rfl, rfl, rfl, rfl, rfl, fun _ _ => rfl⟩

/-- The pair's part alone differs. -/
def State.withRed (s : State) (x : RedSt) : State := { s with red := x }

theorem State.withRed_forwardKeeps (s : State) (x : RedSt) : s.ForwardKeeps (s.withRed x) := ⟨rfl, rfl, rfl, rfl, rfl, fun _ _ => rfl⟩

theorem State.noteHealth_forwardKeeps (s : State) (k n : Nat) : s.ForwardKeeps (s.noteHealth k n) := s.withRed_forwardKeeps _

theorem State.noteDivergent_forwardKeeps (s : State) (f slot : Nat) : s.ForwardKeeps (s.noteDivergent f slot) := by
  unfold State.noteDivergent
  split
  · exact .refl s
  · have hcount := (s.withRed_forwardKeeps { s.red with diverged := (f, slot) :: s.red.diverged.take 15 }).trans
      (State.setReg_forwardKeeps _ (a := Reg.RED_DIVERGE) (by decide) (satAdd (s.reg Reg.RED_DIVERGE) 1))
    exact (hcount.trans (State.noteHealth_forwardKeeps _ 2 1)).trans (State.tileSend_forwardKeeps _ _ _ _ _)

/-- The SCRC of a slice: a failing one counts, in the register and for the next HEALTH record. -/
def State.noteScrc (s : State) (port : Nat) (ok : Bool) : State :=
  if ok then s else (s.bump (Reg.CHN_SCRC_ERR port) 1).noteHealth port 1

/-- A slice of the tile's own, as it is kept. -/
def State.sliceOf (s : State) (r : SliceIn) : RxSlice :=
  { port := r.port, wfn := wfn48 s.wfnNow r.wfn, slot := r.flags % 4, flags := r.flags, scrcOk := crc32c r.bytes == r.scrc, fsig := r.fsig,
    bytes := r.bytes, t := r.t }

/-- Keep a slice in place of an earlier one of its picture and port, unless its decoding is shed; a good REFRESH slice meets the request
of its slot. -/
def State.keepSlice (s : State) (x : RxSlice) : State :=
  let rest := s.ccx.rx.filter (fun y => !(y.port == x.port && y.wfn == x.wfn && y.slot == x.slot))
  let asks := if x.scrcOk ∧ x.flags / 4 % 4 = 2 then s.ccx.asks.filter (fun a => a.slot != x.slot) else s.ccx.asks
  { s with ccx := { s.ccx with rx := if s.decodeShed x.wfn x.slot then rest else rest ++ [x], asks := asks } }

@[simp] theorem State.reg_keepSlice (s : State) (x : RxSlice) (b : Nat) : (s.keepSlice x).reg b = s.reg b := rfl

/-- A divergent picture is shown, and reported once. -/
def State.noteDiverging (s : State) (f slot : Nat) : State :=
  (s.putBit Reg.RED_TILE Fld.RED_TILE_DIVERGING (s.divergent f slot)).noteDivergent f slot

/-- A good slice of a picture already repeated counts it late (R194). -/
def State.settleLate (s : State) (ok : Bool) (f slot : Nat) : State :=
  if ok ∧ s.lmp.undecided.contains (f, slot) then
    { s.bump (Reg.FLK_LATE slot) 1 with lmp := { s.lmp with undecided := s.lmp.undecided.filter (· != (f, slot)) } }
  else s

/-- The state in which a slice of the tile's own has been taken, its receipt not yet sent. -/
def State.takeSlice (s : State) (r : SliceIn) : State :=
  let x := s.sliceOf r
  (((s.noteScrc r.port x.scrcOk).keepSlice x).noteDiverging x.wfn x.slot).settleLate x.scrcOk x.wfn x.slot

theorem exec_sliceRx_of_consumed {r : SliceIn} {s : State} (hport : r.port < 2) (hup : s.portUp r.port = true) (hhcrc : r.hcrcOk = true)
    (hrows : r.rows ≠ 0) (hmine : (s.tick r.t).consumes r.port r.ta r.wfn = true) :
    ∃ acc, exec (.sliceRx r) s = .next (if ((s.tick r.t).takeSlice r).forwards r.port then
      ((s.tick r.t).takeSlice r).emit (.receipt r.port r.ta r.flags r.wfn r.rows (crc32c r.bytes) acc)
      else (s.tick r.t).takeSlice r) := by
  have hup' : (s.tick r.t).portUp r.port = true := hup
  have htile : (s.tick r.t).isTile = true := by
    simp only [State.consumes, Bool.and_eq_true] at hmine
    exact hmine.1.1.1.1.1
  have hopen : ¬ ((!(s.tick r.t).isTile) = true ∨ 2 ≤ r.port ∨ (!(s.tick r.t).portUp r.port) = true) := by
    simp [htile, hup', hport]
  have hstart : ¬ ((!r.hcrcOk) = true ∨ r.rows = 0) := by simp [hhcrc, hrows]
  change ∃ acc, execSliceRx r s = _
  unfold execSliceRx
  dsimp only
  rw [if_neg hopen, if_neg hstart, hmine]
  exact ⟨_, rfl⟩

theorem State.noteDiverging_forwardKeeps (s : State) (f slot : Nat) : s.ForwardKeeps (s.noteDiverging f slot) :=
  (s.setReg_forwardKeeps (a := Reg.RED_TILE) (by decide) _).trans (State.noteDivergent_forwardKeeps _ f slot)

theorem State.settleLate_forwardKeeps (s : State) (ok : Bool) (f slot : Nat) : s.ForwardKeeps (s.settleLate ok f slot) := by
  have hblock : Reg.FLK_LATE slot / 65536 ≠ 7 := by
    unfold Reg.FLK_LATE
    omega
  unfold State.settleLate
  split
  · exact (s.setReg_forwardKeeps hblock _).trans ⟨rfl, rfl, rfl, rfl, rfl, fun _ _ => rfl⟩
  · exact .refl s

/-- What taking a slice leaves, from the state in which it is kept. -/
theorem State.takeSlice_forwardKeeps (s : State) (r : SliceIn) :
    ((s.noteScrc r.port (s.sliceOf r).scrcOk).keepSlice (s.sliceOf r)).ForwardKeeps (s.takeSlice r) :=
  (State.noteDiverging_forwardKeeps _ _ _).trans (State.settleLate_forwardKeeps _ _ _ _)

theorem State.takeSlice_forwards (s : State) (r : SliceIn) (port : Nat) : (s.takeSlice r).forwards port = s.forwards port := by
  rw [(s.takeSlice_forwardKeeps r).forwards port]
  have hscrc : (s.noteScrc r.port (s.sliceOf r).scrcOk).forwards port = s.forwards port := by
    unfold State.noteScrc
    split
    · rfl
    · refine State.forwards_congr (s := s) (t := (s.bump (Reg.CHN_SCRC_ERR r.port) 1).noteHealth r.port 1) rfl rfl rfl ?_ port
      have hne : Reg.CHN_SCRC_ERR r.port ≠ Reg.CHN_PORT_STAT 1 := by
        unfold Reg.CHN_SCRC_ERR Reg.CHN_PORT_STAT
        omega
      unfold State.eastAbsent State.bit
      rw [State.reg_noteHealth, State.reg_bump, if_neg hne]
  exact hscrc

theorem State.reg_noteScrc (s : State) (port : Nat) (ok : Bool) :
    (s.noteScrc port ok).reg (Reg.CHN_SCRC_ERR port) =
      if ok then s.reg (Reg.CHN_SCRC_ERR port) else satAdd (s.reg (Reg.CHN_SCRC_ERR port)) 1 := by
  cases ok <;> simp [State.noteScrc]

theorem State.reg_takeSlice_scrcErr (s : State) (r : SliceIn) :
    (s.takeSlice r).reg (Reg.CHN_SCRC_ERR r.port) = if crc32c r.bytes = r.scrc then s.reg (Reg.CHN_SCRC_ERR r.port)
      else satAdd (s.reg (Reg.CHN_SCRC_ERR r.port)) 1 := by
  have hblock : Reg.CHN_SCRC_ERR r.port / 65536 = 7 := by
    unfold Reg.CHN_SCRC_ERR
    omega
  rw [(s.takeSlice_forwardKeeps r).regs _ hblock, State.reg_keepSlice, State.reg_noteScrc]
  simp only [State.sliceOf, beq_iff_eq]

/-- A slice whose decoding is not shed is the last one kept. -/
theorem State.takeSlice_rx_getLast {s : State} {r : SliceIn} (h : s.decodeShed (s.sliceOf r).wfn (s.sliceOf r).slot = false) :
    (s.takeSlice r).ccx.rx.getLast? = some (s.sliceOf r) := by
  have hshed : (s.noteScrc r.port (s.sliceOf r).scrcOk).decodeShed (s.sliceOf r).wfn (s.sliceOf r).slot = false := by
    rw [← h]
    unfold State.noteScrc
    split <;> rfl
  rw [(s.takeSlice_forwardKeeps r).ccx, State.keepSlice]
  simp [hshed]

theorem State.takeSlice_out (s : State) (r : SliceIn) : (s.takeSlice r).out = s.out := by
  have hscrc : (s.noteScrc r.port (s.sliceOf r).scrcOk).out = s.out := by
    unfold State.noteScrc
    split <;> rfl
  exact (s.takeSlice_forwardKeeps r).out.trans hscrc

/-! ### Slices sent on -/

theorem State.passSlice_keeps (s : State) (r : SliceIn) :
    (s.passSlice r).ccx = s.ccx ∧ (∀ b, (s.passSlice r).reg b = s.reg b) ∧
      (s.passSlice r).out =
        if s.forwards r.port then .slice r.port r.ta r.flags r.wfn r.rows r.scrc r.fsig r.bytes :: s.out else s.out := by
  unfold State.passSlice
  split <;> exact ⟨rfl, fun _ => rfl, rfl⟩

/-- A slice that is not the tile's own, or whose start fails, goes on unchanged; a failing start is a row error. -/
theorem exec_sliceRx_of_passed {r : SliceIn} {s : State} (htile : s.isTile = true) (hport : r.port < 2) (hup : s.portUp r.port = true)
    (hother : r.hcrcOk = true → r.rows ≠ 0 → (s.tick r.t).consumes r.port r.ta r.wfn = false) :
    exec (.sliceRx r) s = .next
      ((if r.hcrcOk && r.rows != 0 then s.tick r.t else (s.tick r.t).bump (Reg.CHN_ROW_ERR r.port) 1).passSlice r) := by
  have hup' : (s.tick r.t).portUp r.port = true := hup
  have htile' : (s.tick r.t).isTile = true := htile
  have hopen : ¬ ((!(s.tick r.t).isTile) = true ∨ 2 ≤ r.port ∨ (!(s.tick r.t).portUp r.port) = true) := by
    simp [htile', hup', hport]
  change execSliceRx r s = _
  unfold execSliceRx
  dsimp only
  rw [if_neg hopen]
  by_cases hstart : (!r.hcrcOk) = true ∨ r.rows = 0
  · have hbad : ¬ (r.hcrcOk && r.rows != 0) = true := by
      rcases hstart with h | h
      · simp_all
      · simp [h]
    rw [if_pos hstart, if_neg hbad]
  · have hgood : r.hcrcOk = true ∧ r.rows ≠ 0 := by simpa using hstart
    rw [if_neg hstart, hother hgood.1 hgood.2]
    simp [hgood]

theorem exec_sliceRx_passed_spec {r : SliceIn} {s : State} (htile : s.isTile = true) (hport : r.port < 2) (hup : s.portUp r.port = true)
    (hother : r.hcrcOk = true → r.rows ≠ 0 → (s.tick r.t).consumes r.port r.ta r.wfn = false) :
    ∃ t, exec (.sliceRx r) s = .next t ∧ t.ccx = s.ccx ∧
      t.reg (Reg.CHN_ROW_ERR r.port) = (if r.hcrcOk && r.rows != 0 then s.reg (Reg.CHN_ROW_ERR r.port)
        else satAdd (s.reg (Reg.CHN_ROW_ERR r.port)) 1) ∧
      t.out = if s.forwards r.port then .slice r.port r.ta r.flags r.wfn r.rows r.scrc r.fsig r.bytes :: s.out else s.out := by
  refine ⟨_, exec_sliceRx_of_passed htile hport hup hother, ?_⟩
  split
  · obtain ⟨hccx, hreg, hout⟩ := (s.tick r.t).passSlice_keeps r
    exact ⟨hccx, hreg _, hout⟩
  · obtain ⟨hccx, hreg, hout⟩ := ((s.tick r.t).bump (Reg.CHN_ROW_ERR r.port) 1).passSlice_keeps r
    have hforwards : ((s.tick r.t).bump (Reg.CHN_ROW_ERR r.port) 1).forwards r.port = s.forwards r.port := by
      refine State.forwards_congr (s := s) (t := (s.tick r.t).bump (Reg.CHN_ROW_ERR r.port) 1) rfl rfl rfl ?_ r.port
      have hne : Reg.CHN_ROW_ERR r.port ≠ Reg.CHN_PORT_STAT 1 := by
        unfold Reg.CHN_ROW_ERR Reg.CHN_PORT_STAT
        omega
      unfold State.eastAbsent State.bit
      rw [State.reg_bump, if_neg hne, State.reg_tick]
    rw [hforwards] at hout
    exact ⟨hccx, (hreg _).trans ((State.reg_bump _ _ _ _).trans (if_pos rfl)), hout⟩

theorem exec_sliceRx_consumed_spec {r : SliceIn} {s : State} (hport : r.port < 2) (hup : s.portUp r.port = true) (hhcrc : r.hcrcOk = true)
    (hrows : r.rows ≠ 0) (hmine : (s.tick r.t).consumes r.port r.ta r.wfn = true) :
    ∃ t acc, exec (.sliceRx r) s = .next t ∧
      ((s.tick r.t).decodeShed (wfn48 (s.tick r.t).wfnNow r.wfn) (r.flags % 4) = false →
        ∃ x, t.ccx.rx.getLast? = some x ∧ x.port = r.port ∧ x.wfn = wfn48 (s.tick r.t).wfnNow r.wfn ∧ x.slot = r.flags % 4 ∧
          x.flags = r.flags ∧ x.bytes = r.bytes ∧ x.fsig = r.fsig ∧ (x.scrcOk = true ↔ crc32c r.bytes = r.scrc)) ∧
      t.reg (Reg.CHN_SCRC_ERR r.port) =
        (if crc32c r.bytes = r.scrc then s.reg (Reg.CHN_SCRC_ERR r.port) else satAdd (s.reg (Reg.CHN_SCRC_ERR r.port)) 1) ∧
      t.out = if s.forwards r.port then .receipt r.port r.ta r.flags r.wfn r.rows (crc32c r.bytes) acc :: s.out else s.out := by
  obtain ⟨acc, hexec⟩ := exec_sliceRx_of_consumed hport hup hhcrc hrows hmine
  have hforwards : ((s.tick r.t).takeSlice r).forwards r.port = s.forwards r.port := (s.tick r.t).takeSlice_forwards r r.port
  have hreg := (s.tick r.t).reg_takeSlice_scrcErr r
  have hout : ((s.tick r.t).takeSlice r).out = s.out := (s.tick r.t).takeSlice_out r
  have hlast : (s.tick r.t).decodeShed (wfn48 (s.tick r.t).wfnNow r.wfn) (r.flags % 4) = false →
      ∃ x, ((s.tick r.t).takeSlice r).ccx.rx.getLast? = some x ∧ x.port = r.port ∧ x.wfn = wfn48 (s.tick r.t).wfnNow r.wfn ∧
        x.slot = r.flags % 4 ∧ x.flags = r.flags ∧ x.bytes = r.bytes ∧ x.fsig = r.fsig ∧
        (x.scrcOk = true ↔ crc32c r.bytes = r.scrc) :=
    fun h => ⟨_, State.takeSlice_rx_getLast h, rfl, rfl, rfl, rfl, rfl, rfl, beq_iff_eq⟩
  rw [hforwards] at hexec
  refine ⟨_, acc, hexec, ?_⟩
  split
  · exact ⟨hlast, hreg, congrArg _ hout⟩
  · exact ⟨hlast, hreg, hout⟩

end Sys2Proof.Machine
end

section
/-! Decoding a slice at a tile (R153 to R156, R285): the counters and the pictures it leaves. -/
namespace Sys2Proof.Machine

/-! ### What the steps of decoding leave -/

/-- What filling the pool, asking for a refresh and leaving the held state leave: the counters of slices, the lamp drive's part, the pictures
decoded and the last of them. -/
structure State.DecodeKeeps (s t : State) : Prop where
  syntaxErr : t.reg Reg.CCX_SYNTAX_ERR = s.reg Reg.CCX_SYNTAX_ERR
  repeats : t.reg Reg.CCX_REPEAT = s.reg Reg.CCX_REPEAT
  refreshes : t.reg Reg.CCX_REFRESH_SLICES = s.reg Reg.CCX_REFRESH_SLICES
  lmp : t.lmp = s.lmp
  decoded : t.ccx.decoded = s.ccx.decoded
  lastDecoded : t.ccx.lastDecoded = s.ccx.lastDecoded

theorem State.DecodeKeeps.refl (s : State) : s.DecodeKeeps s := ⟨rfl, rfl, rfl, rfl, rfl, rfl⟩

theorem State.DecodeKeeps.trans {s t u : State} (h : s.DecodeKeeps t) (k : t.DecodeKeeps u) : s.DecodeKeeps u :=
  ⟨k.syntaxErr.trans h.syntaxErr, k.repeats.trans h.repeats, k.refreshes.trans h.refreshes, k.lmp.trans h.lmp, k.decoded.trans h.decoded,
    k.lastDecoded.trans h.lastDecoded⟩

/-- A write of another register. -/
theorem State.setReg_decodeKeeps (s : State) {a : Nat} (v : Word)
    (h : a ≠ Reg.CCX_SYNTAX_ERR ∧ a ≠ Reg.CCX_REPEAT ∧ a ≠ Reg.CCX_REFRESH_SLICES) : s.DecodeKeeps (s.setReg a v) := by
  obtain ⟨hsyntax, hrepeat, hrefresh⟩ := h
  exact ⟨by rw [State.reg_setReg, if_neg hsyntax], by rw [State.reg_setReg, if_neg hrepeat], by rw [State.reg_setReg, if_neg hrefresh],
    rfl, rfl, rfl⟩

theorem State.bump_decodeKeeps (s : State) {a : Nat} (k : Nat)
    (h : a ≠ Reg.CCX_SYNTAX_ERR ∧ a ≠ Reg.CCX_REPEAT ∧ a ≠ Reg.CCX_REFRESH_SLICES) : s.DecodeKeeps (s.bump a k) :=
  s.setReg_decodeKeeps _ h

theorem State.noteReceived_decodeKeeps (s : State) (slot : Nat) : s.DecodeKeeps (s.noteReceived slot) :=
  ⟨rfl, rfl, rfl, rfl, rfl, rfl⟩

/-- The pools alone differ. -/
def State.withPools (s : State) (l : List SlotPool) : State := { s with ccx := { s.ccx with pools := l } }

theorem State.withPools_decodeKeeps (s : State) (l : List SlotPool) : s.DecodeKeeps (s.withPools l) := ⟨rfl, rfl, rfl, rfl, rfl, rfl⟩

theorem State.shiftMissingPics_decodeKeeps (s : State) (slot seq f n last : Nat) :
    s.DecodeKeeps (s.shiftMissingPics slot seq f n last) :=
  (s.withPools_decodeKeeps _).trans (State.setReg_decodeKeeps (s.withPools _) (a := Reg.CCX_MISSING_PICS) _ (by decide))

theorem State.leaveHeld_decodeKeeps (s : State) : s.DecodeKeeps s.leaveHeld := by
  unfold State.leaveHeld
  split
  · exact (s.setReg_decodeKeeps (a := Reg.FLK_STATE) _ (by decide)).trans ⟨rfl, rfl, rfl, rfl, rfl, rfl⟩
  · exact .refl s

theorem State.askRefresh_decodeKeeps (s : State) (f slot ref t : Nat) : s.DecodeKeeps (s.askRefresh f slot ref t) := by
  unfold State.askRefresh
  split
  · exact .refl s
  · dsimp only
    have hne : Reg.CCX_REFRESH_REQ ≠ Reg.CCX_SYNTAX_ERR ∧ Reg.CCX_REFRESH_REQ ≠ Reg.CCX_REPEAT ∧
      Reg.CCX_REFRESH_REQ ≠ Reg.CCX_REFRESH_SLICES := by decide
    refine ⟨?_, ?_, ?_, rfl, rfl, rfl⟩ <;> rw [State.reg_sendRefreshReq, if_neg (by simp only [hne, not_false_eq_true])] <;> rfl

/-! ### A slice rejected -/

/-- A slice rejected is counted, and its picture is noted (R155). -/
def State.noteRejected (s : State) (slot f : Nat) : State :=
  { s.bump Reg.CCX_SYNTAX_ERR 1 with lmp := { s.lmp with rejected := (f, slot) :: s.lmp.rejected } }

theorem State.rejectSlice_decodeKeeps (s : State) (slot f : Nat) (bytes : List Byte) :
    (s.noteRejected slot f).DecodeKeeps (s.rejectSlice slot f bytes) := by
  unfold State.rejectSlice
  dsimp only
  split
  next h last _ _ =>
    refine State.DecodeKeeps.trans ?_ (State.noteReceived_decodeKeeps _ slot)
    split
    · exact State.shiftMissingPics_decodeKeeps (s.noteRejected slot f) slot h.seq f _ last
    · exact .refl (s.noteRejected slot f)
  · exact (s.noteRejected slot f).noteReceived_decodeKeeps slot

theorem State.rejectSlice_spec (s : State) (slot f : Nat) (bytes : List Byte) :
    (s.rejectSlice slot f bytes).reg Reg.CCX_SYNTAX_ERR = satAdd (s.reg Reg.CCX_SYNTAX_ERR) 1 ∧
      (s.rejectSlice slot f bytes).lmp.rejected = (f, slot) :: s.lmp.rejected ∧
      (s.rejectSlice slot f bytes).ccx.decoded = s.ccx.decoded ∧ (s.rejectSlice slot f bytes).ccx.lastDecoded = s.ccx.lastDecoded := by
  have h := s.rejectSlice_decodeKeeps slot f bytes
  exact ⟨h.syntaxErr.trans ((s.reg_bump _ 1 _).trans (if_pos rfl)), congrArg (·.rejected) h.lmp, h.decoded, h.lastDecoded⟩

/-! ### A slice decoded -/

/-- The MISSING pictures before a slice are shifted in. -/
def State.shiftGap (s : State) (r : RxSlice) (h : SliceHead) (gap last : Nat) : State :=
  if gap = 0 then s else s.shiftMissingPics r.slot h.seq r.wfn gap last

/-- What a slice decodes to. -/
def State.pictureOf (s : State) (c : ChainRec) (r : RxSlice) (h : SliceHead) (cells : List Cell) : PictureOut :=
  decodePicture c.width c.height h.qp r.slot h.firstCell s.ccx.pools
    (((s.ccx.shown.find? (fun x => x.1 == r.slot)).map (·.2)).getD (List.replicate (c.width * c.height) 0)) cells

/-- A picture other than a REPEAT whose signature is not the slice's (R285). -/
def badSignature (r : RxSlice) (h : SliceHead) (out : PictureOut) : Bool :=
  h.kind != 1 && out.unresolved == [] && frameSignature out.pixels != r.fsig

/-- A decoded picture enters the pool and waits to be shown; a bad one enters as MISSING and does not. -/
def State.storePicture (s : State) (r : RxSlice) (h : SliceHead) (out : PictureOut) (t : Nat) : State :=
  let bad := badSignature r h out
  let entry : PoolEntry :=
    if bad then missingEntry h.seq r.wfn
    else { state := 1, seq := h.seq, wfn := r.wfn, unresolved := out.unresolved, pixels := out.pixels, usable := true }
  let pools := if h.kind = 1 then modPool s.ccx.pools r.slot (fun p => { p with lastSeq := some h.seq })
    else modPool s.ccx.pools r.slot (fun p => { shiftIn p entry with lastSeq := some h.seq })
  let pic : DecodedPic := { wfn := r.wfn, slot := r.slot, pixels := out.pixels, breached := false, t := t }
  { s with ccx := { s.ccx with pools := pools, decoded := if bad then s.ccx.decoded else s.ccx.decoded ++ [pic] } }

/-- The cells unresolved and a bad signature are counted. -/
def State.countFaults (s : State) (bad : Bool) (n : Nat) : State :=
  let z := s.bump Reg.CCX_UNRESOLVED n
  if bad then (z.bump Reg.RED_FSIG_FAIL 1).noteHealth 3 1 else z

/-- REPEAT and REFRESH slices are counted. -/
def State.countKind (s : State) (kind : Nat) : State :=
  if kind = 1 then s.bump Reg.CCX_REPEAT 1 else if kind = 2 then s.bump Reg.CCX_REFRESH_SLICES 1 else s

/-- A slice that is no REPEAT ends the held state, and an unresolved cell asks for a refresh. -/
def State.closePicture (s : State) (r : RxSlice) (kind : Nat) (cause : Option Nat) (t : Nat) : State :=
  let z := if kind = 1 then s else s.leaveHeld
  match cause with
  | none => z
  | some e => z.askRefresh r.wfn r.slot e t

theorem State.decodeInto_eq (s : State) (c : ChainRec) (r : RxSlice) (h : SliceHead) (cells : List Cell) (gap last t : Nat)
    {z : State} (hz : z = s.shiftGap r h gap last) {out : PictureOut} (hout : out = z.pictureOf c r h cells) :
    s.decodeInto c r h cells gap last t =
      ((((z.storePicture r h out t).countFaults (badSignature r h out) out.unresolved.length).countKind h.kind).closePicture
        r h.kind out.cause t) := by
  subst hz hout
  rfl

theorem State.shiftGap_decodeKeeps (s : State) (r : RxSlice) (h : SliceHead) (gap last : Nat) : s.DecodeKeeps (s.shiftGap r h gap last) := by
  unfold State.shiftGap
  split
  · exact .refl s
  · exact s.shiftMissingPics_decodeKeeps _ _ _ _ _

theorem State.countFaults_decodeKeeps (s : State) (bad : Bool) (n : Nat) : s.DecodeKeeps (s.countFaults bad n) := by
  have hcells := s.bump_decodeKeeps (a := Reg.CCX_UNRESOLVED) n (by decide)
  unfold State.countFaults
  dsimp only
  split
  · have hsig := (s.bump Reg.CCX_UNRESOLVED n).bump_decodeKeeps (a := Reg.RED_FSIG_FAIL) 1 (by decide)
    exact (hcells.trans hsig).trans ⟨rfl, rfl, rfl, rfl, rfl, rfl⟩
  · exact hcells

theorem State.closePicture_decodeKeeps (s : State) (r : RxSlice) (kind : Nat) (cause : Option Nat) (t : Nat) :
    s.DecodeKeeps (s.closePicture r kind cause t) := by
  have hheld : s.DecodeKeeps (if kind = 1 then s else s.leaveHeld) := by
    split
    · exact .refl s
    · exact s.leaveHeld_decodeKeeps
  unfold State.closePicture
  dsimp only
  split
  · exact hheld
  · exact hheld.trans (State.askRefresh_decodeKeeps _ _ _ _ _)

/-- A REPEAT is shown again, whatever it carries for a signature. -/
theorem State.storePicture_repeat {h : SliceHead} (hk : h.kind = 1) (s : State) (r : RxSlice) (out : PictureOut) (t : Nat) :
    (s.storePicture r h out t).ccx.decoded.length = s.ccx.decoded.length + 1 := by
  have hgood : badSignature r h out = false := by simp [badSignature, hk]
  simp [State.storePicture, hgood]

theorem State.decodeInto_spec (s : State) (c : ChainRec) (r : RxSlice) (h : SliceHead) (cells : List Cell) (gap last t : Nat) {u : State}
    (hu : u = s.decodeInto c r h cells gap last t) :
    u.reg Reg.CCX_SYNTAX_ERR = s.reg Reg.CCX_SYNTAX_ERR ∧ u.ccx.lastDecoded = s.ccx.lastDecoded ∧
      (h.kind = 1 → u.reg Reg.CCX_REPEAT = satAdd (s.reg Reg.CCX_REPEAT) 1 ∧ u.ccx.decoded.length = s.ccx.decoded.length + 1) ∧
      (h.kind = 2 → u.reg Reg.CCX_REFRESH_SLICES = satAdd (s.reg Reg.CCX_REFRESH_SLICES) 1) := by
  rw [s.decodeInto_eq c r h cells gap last t rfl rfl] at hu
  generalize hz : s.shiftGap r h gap last = z at hu
  have hgap : s.DecodeKeeps z := hz ▸ s.shiftGap_decodeKeeps r h gap last
  generalize z.pictureOf c r h cells = out at hu
  have hfaults := (z.storePicture r h out t).countFaults_decodeKeeps (badSignature r h out) out.unresolved.length
  generalize (z.storePicture r h out t).countFaults (badSignature r h out) out.unresolved.length = y at hu hfaults
  have hclose : (y.countKind h.kind).DecodeKeeps u := hu ▸ State.closePicture_decodeKeeps _ r h.kind out.cause t
  have hsyntax : y.reg Reg.CCX_SYNTAX_ERR = s.reg Reg.CCX_SYNTAX_ERR := hfaults.syntaxErr.trans hgap.syntaxErr
  have hrepeats : y.reg Reg.CCX_REPEAT = s.reg Reg.CCX_REPEAT := hfaults.repeats.trans hgap.repeats
  have hrefreshes : y.reg Reg.CCX_REFRESH_SLICES = s.reg Reg.CCX_REFRESH_SLICES := hfaults.refreshes.trans hgap.refreshes
  refine ⟨hclose.syntaxErr.trans ?_, hclose.lastDecoded.trans ?_, fun hk => ⟨hclose.repeats.trans ?_, ?_⟩,
    fun hk => hclose.refreshes.trans ?_⟩
  · have hne1 : Reg.CCX_REPEAT ≠ Reg.CCX_SYNTAX_ERR := by decide
    have hne2 : Reg.CCX_REFRESH_SLICES ≠ Reg.CCX_SYNTAX_ERR := by decide
    rw [← hsyntax]
    unfold State.countKind
    split_ifs
    · rw [State.reg_bump, if_neg hne1]
    · rw [State.reg_bump, if_neg hne2]
    · rfl
  · have hkind : (y.countKind h.kind).ccx = y.ccx := by
      unfold State.countKind
      split_ifs <;> rfl
    rw [hkind, hfaults.lastDecoded]
    exact hgap.lastDecoded
  · rw [State.countKind, if_pos hk, State.reg_bump, if_pos rfl, hrepeats]
  · rw [hclose.decoded, State.countKind, if_pos hk, State.bump_ccx, hfaults.decoded, State.storePicture_repeat hk, hgap.decoded]
  · rw [State.countKind, if_neg (by omega), if_pos hk, State.reg_bump, if_pos rfl, hrefreshes]

/-! ### SLICE_DECODE -/

/-- The picture of (F, s) is the last decoded from here on, and slices of earlier ones are dropped. -/
def State.startDecode (s : State) (wfn slot : Nat) : State :=
  { s with ccx := { s.ccx with lastDecoded := some (wfn, slot),
                               rx := s.ccx.rx.filter (fun y => !earlierPicture (y.wfn, y.slot) (wfn, slot)) } }

/-- A slice read as chapter 8 codes it, its references resolved in the tile's pool. -/
def State.readOwn (s : State) (c : ChainRec) (r : RxSlice) : Option (SliceHead × List Cell) :=
  readSlice (c.mode == 0) (cellCount c) (fun e => (poolEntry? s.ccx.pools e).isSome) r.flags r.bytes

/-- The SEQ last stored of a slot. -/
def State.lastSeq? (s : State) (slot : Nat) : Option Nat := (slotPool? s.ccx.pools slot).bind (·.lastSeq)

/-- What becomes of the tile's next slice: rejected for its coding or its SEQ, or decoded. -/
def State.decodeNext (s : State) (c : ChainRec) (r : RxSlice) (wfn slot t : Nat) : Host.Outcome State Fault Refusal :=
  match s.readOwn c r with
  | none => .next (s.rejectSlice slot wfn r.bytes)
  | some (h, cells) =>
    match s.lastSeq? slot with
    | none => .next ((s.decodeInto c r h cells 0 0 t).noteReceived slot)
    | some last =>
      let d := (h.seq + 256 - last) % 256
      if 128 ≤ d ∨ (d = 0 ∧ h.kind ≠ 1) then .next (s.rejectSlice slot wfn r.bytes)
      else .next ((s.decodeInto c r h cells (if h.kind = 1 then d else d - 1) last t).noteReceived slot)

theorem exec_sliceDecode_of_next {wfn slot t0 : Nat} {s : State} {c : ChainRec} {r : RxSlice} (hc : s.tileChain? = some c)
    (hr : s.chosenSlice wfn slot = some r) (hlater : s.laterPicture wfn slot = true) (hfirst : s.earlierWaits wfn slot = false) :
    exec (.sliceDecode wfn slot t0) s = ((s.tick t0).startDecode wfn slot).decodeNext c r wfn slot t0 := by
  have hc' : (s.tick t0).tileChain? = some c := hc
  have hr' : (s.tick t0).chosenSlice wfn slot = some r := hr
  have hnext : ¬ (!(s.tick t0).laterPicture wfn slot || (s.tick t0).earlierWaits wfn slot) = true := by
    have hlater' : (s.tick t0).laterPicture wfn slot = true := hlater
    have hfirst' : (s.tick t0).earlierWaits wfn slot = false := hfirst
    simp [hlater', hfirst']
  change execSliceDecode wfn slot t0 s = _
  unfold execSliceDecode
  dsimp only
  rw [hc', hr']
  dsimp only
  rw [if_neg hnext]
  rfl

section
variable {s : State} {c : ChainRec} {r : RxSlice} {slot : Nat}

theorem State.decodeNext_of_rejected
    (h : s.readOwn c r = none ∨ ∃ h cells last, s.readOwn c r = some (h, cells) ∧ s.lastSeq? slot = some last ∧
      (128 ≤ (h.seq + 256 - last) % 256 ∨ ((h.seq + 256 - last) % 256 = 0 ∧ h.kind ≠ 1))) (wfn t : Nat) :
    s.decodeNext c r wfn slot t = .next (s.rejectSlice slot wfn r.bytes) := by
  unfold State.decodeNext
  rcases h with hread | ⟨h, cells, last, hread, hlast, hbad⟩
  · rw [hread]
  · simp only [hread, hlast, if_pos hbad]

theorem State.decodeNext_of_allowed {h : SliceHead} {cells : List Cell} (hread : s.readOwn c r = some (h, cells))
    (hseq : ∀ last, s.lastSeq? slot = some last →
      (h.seq + 256 - last) % 256 < 128 ∧ (h.kind ≠ 1 → (h.seq + 256 - last) % 256 ≠ 0)) (wfn t : Nat) :
    ∃ gap last, s.decodeNext c r wfn slot t = .next ((s.decodeInto c r h cells gap last t).noteReceived slot) := by
  unfold State.decodeNext
  cases hlast : s.lastSeq? slot with
  | none => exact ⟨0, 0, by simp only [hread]⟩
  | some last =>
    obtain ⟨hlt, hne⟩ := hseq last hlast
    have hgood : ¬ (128 ≤ (h.seq + 256 - last) % 256 ∨ ((h.seq + 256 - last) % 256 = 0 ∧ h.kind ≠ 1)) := by
      rintro (hge | ⟨hzero, hkind⟩)
      · omega
      · exact hne hkind hzero
    exact ⟨if h.kind = 1 then (h.seq + 256 - last) % 256 else (h.seq + 256 - last) % 256 - 1, last,
      by simp only [hread, if_neg hgood]⟩

end

/-- The next slice is rejected or decoded. -/
theorem State.decodeNext_cases (s : State) (c : ChainRec) (r : RxSlice) (wfn slot t : Nat) :
    s.decodeNext c r wfn slot t = .next (s.rejectSlice slot wfn r.bytes) ∨
      ∃ h cells gap last, s.decodeNext c r wfn slot t = .next ((s.decodeInto c r h cells gap last t).noteReceived slot) := by
  unfold State.decodeNext
  split
  · exact .inl rfl
  · split
    · exact .inr ⟨_, _, _, _, rfl⟩
    · dsimp only
      split
      · exact .inl rfl
      · exact .inr ⟨_, _, _, _, rfl⟩

/-- Whatever becomes of it, the slice's picture is the last decoded. -/
theorem State.decodeNext_lastDecoded {s u : State} {c : ChainRec} {r : RxSlice} {wfn slot t : Nat}
    (h : s.decodeNext c r wfn slot t = .next u) : u.ccx.lastDecoded = s.ccx.lastDecoded := by
  rcases s.decodeNext_cases c r wfn slot t with hcase | ⟨hd, cells, gap, last, hcase⟩
  · obtain rfl : s.rejectSlice slot wfn r.bytes = u := by simpa [hcase] using h
    exact (s.rejectSlice_spec slot wfn r.bytes).2.2.2
  · obtain rfl : (s.decodeInto c r hd cells gap last t).noteReceived slot = u := by simpa [hcase] using h
    exact (s.decodeInto_spec c r hd cells gap last t rfl).2.1

theorem exec_sliceDecode_spec {wfn slot t0 : Nat} {s : State} {c : ChainRec} {r : RxSlice} (hc : s.tileChain? = some c)
    (hr : s.chosenSlice wfn slot = some r) (hlater : s.laterPicture wfn slot = true) (hfirst : s.earlierWaits wfn slot = false) :
    ∃ t, exec (.sliceDecode wfn slot t0) s = .next t ∧ t.ccx.lastDecoded = some (wfn, slot) ∧
      (∀ h cells, s.readOwn c r = some (h, cells) →
        (∀ last, s.lastSeq? slot = some last → (h.seq + 256 - last) % 256 < 128 ∧ (h.kind ≠ 1 → (h.seq + 256 - last) % 256 ≠ 0)) →
        t.reg Reg.CCX_SYNTAX_ERR = s.reg Reg.CCX_SYNTAX_ERR ∧
        (h.kind = 1 → t.reg Reg.CCX_REPEAT = satAdd (s.reg Reg.CCX_REPEAT) 1 ∧ t.ccx.decoded.length = s.ccx.decoded.length + 1) ∧
        (h.kind = 2 → t.reg Reg.CCX_REFRESH_SLICES = satAdd (s.reg Reg.CCX_REFRESH_SLICES) 1)) ∧
      (s.readOwn c r = none ∨ (∃ h cells last, s.readOwn c r = some (h, cells) ∧ s.lastSeq? slot = some last ∧
          (128 ≤ (h.seq + 256 - last) % 256 ∨ ((h.seq + 256 - last) % 256 = 0 ∧ h.kind ≠ 1))) →
        t.reg Reg.CCX_SYNTAX_ERR = satAdd (s.reg Reg.CCX_SYNTAX_ERR) 1 ∧ t.lmp.rejected = (wfn, slot) :: s.lmp.rejected ∧
          t.ccx.decoded = s.ccx.decoded) := by
  obtain ⟨u, hu⟩ : ∃ u, ((s.tick t0).startDecode wfn slot).decodeNext c r wfn slot t0 = .next u := by
    rcases ((s.tick t0).startDecode wfn slot).decodeNext_cases c r wfn slot t0 with h | ⟨_, _, _, _, h⟩
    · exact ⟨_, h⟩
    · exact ⟨_, h⟩
  refine ⟨u, (exec_sliceDecode_of_next hc hr hlater hfirst).trans hu, State.decodeNext_lastDecoded hu, fun h cells hread hseq => ?_,
    fun hbad => ?_⟩
  · obtain ⟨gap, last, hnext⟩ :=
      State.decodeNext_of_allowed (s := (s.tick t0).startDecode wfn slot) (slot := slot) hread hseq wfn t0
    obtain rfl : (((s.tick t0).startDecode wfn slot).decodeInto c r h cells gap last t0).noteReceived slot = u := by
      simpa [hnext] using hu
    obtain ⟨hsyntax, -, hkinds⟩ := ((s.tick t0).startDecode wfn slot).decodeInto_spec c r h cells gap last t0 rfl
    exact ⟨hsyntax, hkinds⟩
  · have hnext := State.decodeNext_of_rejected (s := (s.tick t0).startDecode wfn slot) (slot := slot) hbad wfn t0
    obtain rfl : ((s.tick t0).startDecode wfn slot).rejectSlice slot wfn r.bytes = u := by simpa [hnext] using hu
    obtain ⟨hsyntax, hrejected, hdecoded, -⟩ := ((s.tick t0).startDecode wfn slot).rejectSlice_spec slot wfn r.bytes
    exact ⟨hsyntax, hrejected, hdecoded⟩

end Sys2Proof.Machine
end

section
/-! Coding a slice at a sender (R150, R154, R161, R278, R279): the coder and counters it leaves, and the messages it puts out. -/
namespace Sys2Proof.Machine

/-! ### Pools and coders -/

theorem slotPool?_modPool {ps : List SlotPool} {slot : Nat} {p : SlotPool} {f : SlotPool → SlotPool} (hf : ∀ q, (f q).slot = q.slot)
    (h : slotPool? ps slot = some p) : slotPool? (modPool ps slot f) slot = some (f p) := by
  have hp : p.slot = slot := by simpa using List.find?_some h
  have hcomp : ((fun q : SlotPool => q.slot == slot) ∘ fun q => if q.slot = slot then f q else q) = fun q => q.slot == slot := by
    funext q
    by_cases hq : q.slot = slot <;> simp [hq, hf]
  rw [slotPool?, modPool, List.find?_map, hcomp]
  rw [slotPool?] at h
  simp [h, hp]

/-- The coder that replaces a tile's is the one then found. -/
theorem State.coder?_setCoder {s : State} {ta : Nat} {x y : TileCoder} (h : s.coder? ta = some x) (hy : y.ta = ta) :
    (s.setCoder y).coder? ta = some y := by
  have hx : x.ta = ta := by simpa using List.find?_some h
  have hcomp : ((fun z : TileCoder => z.ta == ta) ∘ fun z => if z.ta = y.ta then y else z) = fun z => z.ta == ta := by
    funext z
    by_cases hz : z.ta = ta <;> simp [hz, hy]
  rw [State.coder?, State.setCoder, List.find?_map, hcomp]
  rw [State.coder?] at h
  simp [h, hx, hy]

section
variable (c : ChainRec) (x : TileCoder) (slot kind f : Nat) (roi : List Nat) (hints : List Hint) (pic : List Nat)

theorem codePicture_ta : (codePicture c x slot kind f roi hints pic).coder.ta = x.ta := by
  unfold codePicture
  dsimp only
  split <;> rfl

theorem codePicture_flags : (codePicture c x slot kind f roi hints pic).flags % 4 = slot % 4 := by
  unfold codePicture
  dsimp only
  split_ifs <;> omega

/-- A NORMAL or REFRESH slice takes the next SEQ of its slot (R154). -/
theorem codePicture_lastSeq {p : SlotPool} (h : slotPool? x.pools slot = some p) :
    ∃ q, slotPool? (codePicture c x slot kind f roi hints pic).coder.pools slot = some q ∧
      q.lastSeq = some ((p.lastSeq.getD 0 + 1) % 256) := by
  obtain ⟨y, e, hy, hcoder⟩ : ∃ (y : TileCoder) (e : PoolEntry), y.pools = x.pools ∧
      (codePicture c x slot kind f roi hints pic).coder.pools = modPool y.pools slot (fun p =>
        { shiftIn p e with lastSeq := some ((((slotPool? y.pools slot).bind (·.lastSeq)).getD 0 + 1) % 256) }) := by
    unfold codePicture
    dsimp only
    refine ⟨_, _, ?_, rfl⟩
    split <;> rfl
  rw [hcoder, hy, h]
  exact ⟨_, slotPool?_modPool (fun _ => rfl) h, rfl⟩

end

/-! ### What counting and sending a slice leave -/

/-- The coders and the counters of slices. -/
structure State.CodingKeeps (s t : State) : Prop where
  tiles : t.ccx.tiles = s.ccx.tiles
  repeats : t.reg Reg.CCX_REPEAT = s.reg Reg.CCX_REPEAT
  refreshes : t.reg Reg.CCX_REFRESH_SLICES = s.reg Reg.CCX_REFRESH_SLICES

/-- Those, and the part the sender plays in its pair: what the counts of a coded slice leave. -/
structure State.RoleKeeps (s t : State) : Prop extends s.CodingKeeps t where
  link : t.linkCode = s.linkCode
  joiner : t.bit Reg.RED_STATE Fld.RED_STATE_JOINER = s.bit Reg.RED_STATE Fld.RED_STATE_JOINER

/-- Those, and whatever was put out: what the pair's bookkeeping after a slice leaves. -/
structure State.OutputKeeps (s t : State) : Prop extends s.CodingKeeps t where
  out : ∀ o ∈ s.out, o ∈ t.out

theorem State.CodingKeeps.refl (s : State) : s.CodingKeeps s := ⟨rfl, rfl, rfl⟩

theorem State.CodingKeeps.trans {s t u : State} (h : s.CodingKeeps t) (k : t.CodingKeeps u) : s.CodingKeeps u :=
  ⟨k.tiles.trans h.tiles, k.repeats.trans h.repeats, k.refreshes.trans h.refreshes⟩

theorem State.RoleKeeps.refl (s : State) : s.RoleKeeps s := ⟨.refl s, rfl, rfl⟩

theorem State.RoleKeeps.trans {s t u : State} (h : s.RoleKeeps t) (k : t.RoleKeeps u) : s.RoleKeeps u :=
  ⟨h.toCodingKeeps.trans k.toCodingKeeps, k.link.trans h.link, k.joiner.trans h.joiner⟩

theorem State.OutputKeeps.refl (s : State) : s.OutputKeeps s := ⟨.refl s, fun _ h => h⟩

theorem State.OutputKeeps.trans {s t u : State} (h : s.OutputKeeps t) (k : t.OutputKeeps u) : s.OutputKeeps u :=
  ⟨h.toCodingKeeps.trans k.toCodingKeeps, fun o ho => k.out o (h.out o ho)⟩

theorem State.setReg_codingKeeps (s : State) {a : Nat} (v : Word) (h : a ≠ Reg.CCX_REPEAT ∧ a ≠ Reg.CCX_REFRESH_SLICES) :
    s.CodingKeeps (s.setReg a v) :=
  ⟨rfl, by rw [State.reg_setReg, if_neg h.1], by rw [State.reg_setReg, if_neg h.2]⟩

theorem State.setReg_outputKeeps (s : State) {a : Nat} (v : Word) (h : a ≠ Reg.CCX_REPEAT ∧ a ≠ Reg.CCX_REFRESH_SLICES) :
    s.OutputKeeps (s.setReg a v) := ⟨s.setReg_codingKeeps v h, fun _ ho => ho⟩

/-- The part in the pair is read from RED_STATE. -/
theorem State.role_congr {s t : State} (h : t.reg Reg.RED_STATE = s.reg Reg.RED_STATE) :
    t.linkCode = s.linkCode ∧ t.bit Reg.RED_STATE Fld.RED_STATE_JOINER = s.bit Reg.RED_STATE Fld.RED_STATE_JOINER := by
  simp only [State.linkCode, State.get, State.bit, h, and_self]

theorem State.bump_roleKeeps (s : State) {a : Nat} (k : Nat) (h : a ≠ Reg.CCX_REPEAT ∧ a ≠ Reg.CCX_REFRESH_SLICES)
    (hred : a ≠ Reg.RED_STATE) : s.RoleKeeps (s.bump a k) := by
  obtain ⟨hlink, hjoiner⟩ := State.role_congr (s := s) (t := s.bump a k) (by rw [State.reg_bump, if_neg hred])
  exact ⟨s.setReg_codingKeeps _ h, hlink, hjoiner⟩

theorem State.event_outputKeeps (s : State) (n : Nat) : s.OutputKeeps (s.event n) := by
  have hreg := s.setReg_outputKeeps (a := Reg.CMD_EVT) (s.reg Reg.CMD_EVT ||| BitVec.ofNat 32 (2 ^ n)) (by decide)
  unfold State.event
  dsimp only
  split
  · exact hreg.trans ⟨⟨rfl, rfl, rfl⟩, fun _ ho => List.mem_cons_of_mem _ ho⟩
  · exact hreg

theorem State.setRed_outputKeeps (s : State) (w : Word) : s.OutputKeeps (s.setRed w) := by
  unfold State.setRed
  dsimp only
  split
  · exact .refl s
  · exact (s.setReg_outputKeeps (a := Reg.RED_STATE) _ (by decide)).trans (State.event_outputKeeps _ 5)

theorem State.sendLink_outputKeeps (s : State) (r : LinkRecord) : s.OutputKeeps (s.sendLink r) := by
  unfold State.sendLink
  split
  · exact ⟨⟨rfl, rfl, rfl⟩, fun _ ho => List.mem_cons_of_mem _ ho⟩
  · exact .refl s

/-- COLD ends: LINK and JOINER stay. -/
theorem State.putRed_cold_roleKeeps (s : State) : s.RoleKeeps (s.putRed Fld.RED_STATE_COLD 0) := by
  have hcoding := (s.setRed_outputKeeps (putField (s.reg Reg.RED_STATE) Fld.RED_STATE_COLD.lo Fld.RED_STATE_COLD.len 0)).toCodingKeeps
  have hevt : Reg.CMD_EVT ≠ Reg.RED_STATE := by decide
  have hred : (s.putRed Fld.RED_STATE_COLD 0).reg Reg.RED_STATE = s.reg Reg.RED_STATE ∨
      (s.putRed Fld.RED_STATE_COLD 0).reg Reg.RED_STATE = putField (putField (s.reg Reg.RED_STATE) 12 1 0) 17 1 1 := by
    unfold State.putRed State.setRed
    dsimp only
    split
    · exact .inl rfl
    · exact .inr (by rw [State.reg_event_other _ _ _ hevt, State.reg_setReg, if_pos rfl]; rfl)
  rcases hred with hred | hred
  · exact ⟨hcoding, (State.role_congr hred).1, (State.role_congr hred).2⟩
  · refine ⟨hcoding, ?_, ?_⟩
    · rw [State.linkCode, State.get, hred, fieldOf_putField_other _ _ _ _ _ _ (by decide), fieldOf_putField_other _ _ _ _ _ _ (by decide)]
      rfl
    · rw [State.bit, hred, bitOf_putField _ _ _ _ _ (by decide), if_neg (by decide), bitOf_putField _ _ _ _ _ (by decide),
        if_neg (by decide)]
      rfl

/-- The refreshes due alone differ. -/
def State.withRefresh (s : State) (l : List RefreshJob) : State := { s with ccx := { s.ccx with refresh := l } }

theorem State.withRefresh_roleKeeps (s : State) (l : List RefreshJob) : s.RoleKeeps (s.withRefresh l) := ⟨⟨rfl, rfl, rfl⟩, rfl, rfl⟩

theorem State.refreshDone_roleKeeps (s : State) (ta slot : Nat) : s.RoleKeeps (s.refreshDone ta slot) := by
  unfold State.refreshDone
  dsimp only
  split
  · exact (s.withRefresh_roleKeeps _).trans (State.putRed_cold_roleKeeps _)
  · exact s.withRefresh_roleKeeps _

/-! ### The pair's bookkeeping -/

theorem State.withRed_outputKeeps (s : State) (x : RedSt) : s.OutputKeeps (s.withRed x) := ⟨⟨rfl, rfl, rfl⟩, fun _ ho => ho⟩

theorem State.report_outputKeeps (s : State) (f slot : Nat) : s.OutputKeeps (s.report f slot) := by
  have hbump := s.setReg_outputKeeps (a := Reg.RED_DIVERGE) (satAdd (s.reg Reg.RED_DIVERGE) 1) (by decide)
  have hholdoff : ∀ z : State, z.OutputKeeps z.restartHoldoff := by
    intro z
    unfold State.restartHoldoff
    split
    · exact z.withRed_outputKeeps _
    · exact .refl z
  exact (hbump.trans (hholdoff _)).trans (State.withRed_outputKeeps _ _)

theorem State.reachFormed_outputKeeps (s : State) (joined : Bool) : s.OutputKeeps (s.reachFormed joined) := by
  unfold State.reachFormed
  dsimp only
  split
  · exact ((s.setRed_outputKeeps _).trans (State.withRed_outputKeeps _ _)).trans
      (State.setReg_outputKeeps _ (a := Reg.RED_JOINS) _ (by decide))
  · exact (s.setRed_outputKeeps _).trans (State.withRed_outputKeeps _ _)

theorem State.compareSig_outputKeeps (s : State) (a b : SliceSig) : s.OutputKeeps (s.compareSig a b) := by
  unfold State.compareSig
  dsimp only
  split
  · split
    · exact .refl s
    · exact s.report_outputKeeps _ _
  · split
    · split
      · split
        · exact s.withRed_outputKeeps _
        · split
          · exact (s.withRed_outputKeeps _).trans (State.reachFormed_outputKeeps _ true)
          · exact s.withRed_outputKeeps _
      · exact s.withRed_outputKeeps _
    · exact .refl s

theorem State.ownSig_outputKeeps (s : State) (a : SliceSig) : s.OutputKeeps (s.ownSig a) := by
  unfold State.ownSig
  dsimp only
  split
  · exact s.withRed_outputKeeps _
  · exact (s.withRed_outputKeeps _).trans (State.compareSig_outputKeeps _ _ _)

theorem State.sendTileRecord_outputKeeps (s : State) (im : Image) (x : TileCoder) (f slot : Nat) :
    s.OutputKeeps (s.sendTileRecord im x f slot) := by
  unfold State.sendTileRecord
  dsimp only
  generalize (if s.red.recTaken.1 = f ∧ s.red.recTaken.2.1 = slot then s.red.recTaken.2.2 else 0) = used
  split
  · exact .refl s
  · split
    · exact .refl s
    · split
      · exact ((s.withRed_outputKeeps _).trans (State.sendLink_outputKeeps _ _)).trans (State.setRed_outputKeeps _ _)
      · exact (s.withRed_outputKeeps _).trans (State.sendLink_outputKeeps _ _)

/-! ### SLICE_ENCODE -/

/-- What a coder makes of a tile's picture: a REPEAT, or the picture composed. -/
def State.codeSlice (s : State) (e : EncodeIn) (c : ChainRec) (x : TileCoder) (kind : Nat) : CodedSlice :=
  if kind = 1 then codeRepeat c x e.slot
  else codePicture c x e.slot kind e.wfn (s.roiCells c e.ta e.slot) e.hints
    (s.composeTile (s.composeIn e.wfn e.slot e.ta) e.slot c.width c.height)

/-- REPEAT and REFRESH slices are counted, and the bad bricks of a picture. -/
def State.countCoded (s : State) (e : EncodeIn) (c : ChainRec) (inp : ComposeIn) (kind : Nat) : State :=
  let z := if kind = 1 then s.bump Reg.CCX_REPEAT 1 else s.bump Reg.CMP_PACK_ERR (s.badBricks inp e.slot c.width c.height).length
  if kind = 2 then (z.bump Reg.CCX_REFRESH_SLICES 1).refreshDone e.ta e.slot else z

/-- Cells owed are counted. -/
def State.countStarved (s : State) (owed : Nat) : State :=
  if owed = 0 then s else (s.bump Reg.CCX_STARVED_CELLS owed).bump Reg.CCX_STARVED_SLICES 1

/-- A picture repeated for a breach is counted once. -/
def State.countBreach (s : State) (e : EncodeIn) (breach : Bool) : State :=
  if breach ∧ !s.ccx.repeated.contains (e.wfn, e.slot) then
    ({ s with ccx := { s.ccx with repeated := (e.wfn, e.slot) :: s.ccx.repeated.take 15 } } : State).bump Reg.SCH_SLOT_REPEAT 1
  else s

/-- The slice goes out on its chain, but from a joiner. -/
def State.emitSlice (s : State) (e : EncodeIn) (c : ChainRec) (r : CodedSlice) : State :=
  if s.transmits then
    s.emit (.slice c.chain e.ta r.flags (e.wfn % 2 ^ 40) (r.bytes.length / 32) (crc32c r.bytes) r.fsig r.bytes) else s

/-- The pair learns of a slice: its signatures go over, are compared, and its tile's record follows. -/
def State.tellPair (s : State) (im : Image) (e : EncodeIn) (r : CodedSlice) : State :=
  ((s.sendLink (.sliceSig e.ta e.wfn e.slot (crc32c r.bytes) r.fsig)).ownSig
    { ta := e.ta, wfn := e.wfn, slot := e.slot, scrc := crc32c r.bytes, fsig := r.fsig }).sendTileRecord im r.coder e.wfn e.slot

/-- The state in which a slice is coded and counted, nothing of it put out yet. -/
def State.storeSlice (s : State) (e : EncodeIn) (c : ChainRec) (r : CodedSlice) (kind : Nat) (breach : Bool) : State :=
  (((s.setCoder r.coder).countCoded e c (s.composeIn e.wfn e.slot e.ta) kind).countStarved r.owed).countBreach e breach

theorem exec_sliceEncode_of_open {e : EncodeIn} {s : State} {im : Image} {c : ChainRec} {x : TileCoder} {k : Nat} {b : Bool}
    (him : s.gen.running = some im) (hrole : im.role = .sender) (hc : s.chainOf? e.ta = some c) (hx : s.coder? e.ta = some x)
    (hruns : s.chainRuns c.chain = true) (hheld : s.uncoded e.wfn = false) (hwin : s.inWindow im e.wfn e.slot e.t = true)
    (hcodes : s.codesTile e.ta = true) (hslot : e.slot < im.timeline.nImage) (hkind : s.sliceKind im c e.ta e.wfn e.slot = (k, b))
    {r : CodedSlice} (hr : r = (s.tick e.t).codeSlice e c x k) :
    exec (.sliceEncode e) s = .next ((((s.tick e.t).storeSlice e c r k b).emitSlice e c r).tellPair im e r) := by
  subst hr
  have him' : (s.tick e.t).image? = some im := him
  have hc' : (s.tick e.t).chainOf? e.ta = some c := hc
  have hx' : (s.tick e.t).coder? e.ta = some x := hx
  have hkind' : (s.tick e.t).sliceKind im c e.ta e.wfn e.slot = (k, b) := hkind
  have hopen : ¬ ((!(s.tick e.t).inWindow im e.wfn e.slot e.t) = true ∨ im.role ≠ .sender ∨ (!(s.tick e.t).chainRuns c.chain) = true ∨
      (s.tick e.t).uncoded e.wfn = true ∨ (!(s.tick e.t).codesTile e.ta) = true ∨ im.timeline.nImage ≤ e.slot) := by
    have hruns' : (s.tick e.t).chainRuns c.chain = true := hruns
    have hheld' : (s.tick e.t).uncoded e.wfn = false := hheld
    have hwin' : (s.tick e.t).inWindow im e.wfn e.slot e.t = true := hwin
    have hcodes' : (s.tick e.t).codesTile e.ta = true := hcodes
    simp [hruns', hheld', hwin', hcodes', hrole, hslot]
  change execSliceEncode e s = _
  unfold execSliceEncode
  dsimp only
  rw [him', hc', hx']
  dsimp only
  rw [if_neg hopen, hkind']
  rfl

end Sys2Proof.Machine
end

section
/-! The statement on slices (chapter 8; R127, R128, R148 to R166). -/
namespace Sys2Proof.Machine

/-! ### A slice coded and counted -/

theorem State.countStarved_roleKeeps (s : State) (owed : Nat) : s.RoleKeeps (s.countStarved owed) := by
  unfold State.countStarved
  split
  · exact .refl s
  · exact (s.bump_roleKeeps (a := Reg.CCX_STARVED_CELLS) owed (by decide) (by decide)).trans
      (State.bump_roleKeeps _ (a := Reg.CCX_STARVED_SLICES) 1 (by decide) (by decide))

/-- The pictures counted as repeated alone differ. -/
def State.withRepeated (s : State) (l : List (Nat × Nat)) : State := { s with ccx := { s.ccx with repeated := l } }

theorem State.withRepeated_roleKeeps (s : State) (l : List (Nat × Nat)) : s.RoleKeeps (s.withRepeated l) := ⟨⟨rfl, rfl, rfl⟩, rfl, rfl⟩

theorem State.countBreach_roleKeeps (s : State) (e : EncodeIn) (breach : Bool) : s.RoleKeeps (s.countBreach e breach) := by
  unfold State.countBreach
  split
  · exact (s.withRepeated_roleKeeps _).trans (State.bump_roleKeeps (s.withRepeated _) (a := Reg.SCH_SLOT_REPEAT) 1 (by decide) (by decide))
  · exact .refl s

theorem State.countCoded_repeat (s : State) (e : EncodeIn) (c : ChainRec) (inp : ComposeIn) :
    s.countCoded e c inp 1 = s.bump Reg.CCX_REPEAT 1 := rfl

/-- A picture coded anew: REFRESH slices are counted. -/
theorem State.countCoded_picture (s : State) (e : EncodeIn) (c : ChainRec) (inp : ComposeIn) {kind : Nat} (h : kind ≠ 1) :
    (s.countCoded e c inp kind).ccx.tiles = s.ccx.tiles ∧ (s.countCoded e c inp kind).linkCode = s.linkCode ∧
      (s.countCoded e c inp kind).bit Reg.RED_STATE Fld.RED_STATE_JOINER = s.bit Reg.RED_STATE Fld.RED_STATE_JOINER ∧
      (s.countCoded e c inp kind).reg Reg.CCX_REFRESH_SLICES =
        if kind = 2 then satAdd (s.reg Reg.CCX_REFRESH_SLICES) 1 else s.reg Reg.CCX_REFRESH_SLICES := by
  have hbad := s.bump_roleKeeps (a := Reg.CMP_PACK_ERR) (s.badBricks inp e.slot c.width c.height).length (by decide) (by decide)
  unfold State.countCoded
  dsimp only
  rw [if_neg h]
  generalize s.bump Reg.CMP_PACK_ERR (s.badBricks inp e.slot c.width c.height).length = z at hbad
  split
  · have hdone := (z.bump Reg.CCX_REFRESH_SLICES 1).refreshDone_roleKeeps e.ta e.slot
    have hred : Reg.CCX_REFRESH_SLICES ≠ Reg.RED_STATE := by decide
    obtain ⟨hlink, hjoiner⟩ := State.role_congr (s := z) (t := z.bump Reg.CCX_REFRESH_SLICES 1) (by rw [State.reg_bump, if_neg hred])
    exact ⟨hdone.tiles.trans hbad.tiles, hdone.link.trans (hlink.trans hbad.link), hdone.joiner.trans (hjoiner.trans hbad.joiner),
      hdone.refreshes.trans (by rw [State.reg_bump, if_pos rfl, hbad.refreshes])⟩
  · exact ⟨hbad.tiles, hbad.link, hbad.joiner, hbad.refreshes⟩

/-- What coding a slice leaves: its coder's new state, the part in the pair, the count of its KIND. -/
theorem State.storeSlice_spec (s : State) (e : EncodeIn) (c : ChainRec) (r : CodedSlice) (kind : Nat) (breach : Bool) :
    (s.storeSlice e c r kind breach).ccx.tiles = (s.setCoder r.coder).ccx.tiles ∧
      (s.storeSlice e c r kind breach).linkCode = s.linkCode ∧
      (s.storeSlice e c r kind breach).bit Reg.RED_STATE Fld.RED_STATE_JOINER = s.bit Reg.RED_STATE Fld.RED_STATE_JOINER ∧
      (kind = 1 → (s.storeSlice e c r kind breach).reg Reg.CCX_REPEAT = satAdd (s.reg Reg.CCX_REPEAT) 1) ∧
      (kind ≠ 1 → (s.storeSlice e c r kind breach).reg Reg.CCX_REFRESH_SLICES =
        if kind = 2 then satAdd (s.reg Reg.CCX_REFRESH_SLICES) 1 else s.reg Reg.CCX_REFRESH_SLICES) := by
  unfold State.storeSlice
  generalize s.composeIn e.wfn e.slot e.ta = inp
  have hrest := (State.countStarved_roleKeeps ((s.setCoder r.coder).countCoded e c inp kind) r.owed).trans
    (State.countBreach_roleKeeps _ e breach)
  by_cases hk : kind = 1
  · subst hk
    rw [State.countCoded_repeat] at hrest ⊢
    have hred : Reg.CCX_REPEAT ≠ Reg.RED_STATE := by decide
    obtain ⟨hlink, hjoiner⟩ := State.role_congr (s := s) (t := (s.setCoder r.coder).bump Reg.CCX_REPEAT 1)
      (by rw [State.reg_bump, if_neg hred]; rfl)
    refine ⟨hrest.tiles, hrest.link.trans hlink, hrest.joiner.trans hjoiner, fun _ => hrest.repeats.trans ?_, fun h => absurd rfl h⟩
    rw [State.reg_bump, if_pos rfl]
    rfl
  · obtain ⟨htiles, hlink, hjoiner, hrefreshes⟩ := (s.setCoder r.coder).countCoded_picture e c inp hk
    exact ⟨hrest.tiles.trans htiles, hrest.link.trans hlink, hrest.joiner.trans hjoiner, fun h => absurd h hk,
      fun _ => hrest.refreshes.trans hrefreshes⟩

/-! ### A slice sent -/

theorem State.emitSlice_outputKeeps (s : State) (e : EncodeIn) (c : ChainRec) (r : CodedSlice) : s.OutputKeeps (s.emitSlice e c r) := by
  unfold State.emitSlice
  split
  · exact ⟨⟨rfl, rfl, rfl⟩, fun _ ho => List.mem_cons_of_mem _ ho⟩
  · exact .refl s

theorem State.agreed_emitSlice (s : State) (e : EncodeIn) (c : ChainRec) (r : CodedSlice) : (s.emitSlice e c r).agreed = s.agreed := by
  unfold State.emitSlice
  split <;> rfl

theorem State.tellPair_outputKeeps (s : State) (im : Image) (e : EncodeIn) (r : CodedSlice) : s.OutputKeeps (s.tellPair im e r) :=
  ((s.sendLink_outputKeeps _).trans (State.ownSig_outputKeeps _ _)).trans (State.sendTileRecord_outputKeeps _ im r.coder e.wfn e.slot)

/-- An agreed pair hears the slice's signatures. -/
theorem State.tellPair_link {s : State} (h : s.agreed = true) (im : Image) (e : EncodeIn) (r : CodedSlice) :
    .link (.sliceSig e.ta e.wfn e.slot (crc32c r.bytes) r.fsig) ∈ (s.tellPair im e r).out := by
  have hsent : .link (.sliceSig e.ta e.wfn e.slot (crc32c r.bytes) r.fsig) ∈
      (s.sendLink (.sliceSig e.ta e.wfn e.slot (crc32c r.bytes) r.fsig)).out := by
    rw [State.sendLink, if_pos h]
    exact List.mem_cons_self
  exact ((State.ownSig_outputKeeps _ _).trans (State.sendTileRecord_outputKeeps _ im r.coder e.wfn e.slot)).out _ hsent

theorem State.coder?_congr {s t : State} (h : t.ccx.tiles = s.ccx.tiles) (ta : Nat) : t.coder? ta = s.coder? ta := by
  rw [State.coder?, State.coder?, h]

/-- The coder of a coded slice is that of its tile. -/
theorem State.codeSlice_ta (s : State) (e : EncodeIn) (c : ChainRec) (x : TileCoder) (kind : Nat) :
    (s.codeSlice e c x kind).coder.ta = x.ta := by
  unfold State.codeSlice
  split
  · rfl
  · exact codePicture_ta _ _ _ _ _ _ _ _

theorem State.codeSlice_flags (s : State) (e : EncodeIn) (c : ChainRec) (x : TileCoder) (kind : Nat) :
    (s.codeSlice e c x kind).flags % 4 = e.slot % 4 := by
  unfold State.codeSlice
  split
  · exact Nat.add_mod_right e.slot 4
  · exact codePicture_flags _ _ _ _ _ _ _ _

theorem State.codeSlice_lastSeq {s : State} {e : EncodeIn} {c : ChainRec} {x : TileCoder} {k : Nat} (hk : k ≠ 1) {p : SlotPool}
    (hp : slotPool? x.pools e.slot = some p) :
    ∃ q, slotPool? (s.codeSlice e c x k).coder.pools e.slot = some q ∧ q.lastSeq = some ((p.lastSeq.getD 0 + 1) % 256) := by
  rw [State.codeSlice, if_neg hk]
  exact codePicture_lastSeq _ _ _ _ _ _ _ _ hp

/-- What SLICE_ENCODE leaves, by the KIND due. -/
theorem State.encoded_spec {s : State} {e : EncodeIn} {c : ChainRec} {x : TileCoder} {k : Nat} {b : Bool} {im : Image} {r : CodedSlice}
    (hx : s.coder? e.ta = some x) (hr : r = s.codeSlice e c x k) {t : State}
    (ht : t = ((s.storeSlice e c r k b).emitSlice e c r).tellPair im e r) :
    (s.transmits = true →
        .slice c.chain e.ta r.flags (e.wfn % 2 ^ 40) (r.bytes.length / 32) (crc32c r.bytes) r.fsig r.bytes ∈ t.out) ∧
      (s.agreed = true → .link (.sliceSig e.ta e.wfn e.slot (crc32c r.bytes) r.fsig) ∈ t.out) ∧
      t.coder? e.ta = some r.coder ∧
      (k = 1 → t.reg Reg.CCX_REPEAT = satAdd (s.reg Reg.CCX_REPEAT) 1) ∧
      (k ≠ 1 → t.reg Reg.CCX_REFRESH_SLICES =
        if k = 2 then satAdd (s.reg Reg.CCX_REFRESH_SLICES) 1 else s.reg Reg.CCX_REFRESH_SLICES) := by
  obtain ⟨htiles, hlink, hjoiner, hrepeats, hrefreshes⟩ := s.storeSlice_spec e c r k b
  generalize s.storeSlice e c r k b = z at ht htiles hlink hjoiner hrepeats hrefreshes
  have hta : x.ta = e.ta := by simpa using List.find?_some hx
  have htell := (z.emitSlice e c r).tellPair_outputKeeps im e r
  have hkeep := (z.emitSlice_outputKeeps e c r).trans htell
  have hcoder : (s.setCoder r.coder).coder? e.ta = some r.coder :=
    State.coder?_setCoder hx (by rw [hr, s.codeSlice_ta, hta])
  subst ht
  refine ⟨fun htransmits => htell.out _ ?_, fun hagreed => State.tellPair_link ?_ im e r,
    (State.coder?_congr (hkeep.tiles.trans htiles) _).trans hcoder, fun hk => hkeep.repeats.trans (hrepeats hk),
    fun hk => hkeep.refreshes.trans (hrefreshes hk)⟩
  · have hz : z.transmits = true := by rw [← htransmits, State.transmits, State.transmits, hlink, hjoiner]
    rw [State.emitSlice, if_pos hz]
    exact List.mem_cons_self
  · rw [State.agreed_emitSlice, State.agreed, hlink]
    exact hagreed

/-- Settles O17: coding, receiving and decoding a slice are each one chain of named steps, and each step's counters and pictures are its own. -/
theorem slicesAreCodedAndTaken : Obligations.SlicesAreCodedAndTaken := by
  refine ⟨fun e s im c x k b him hrole hc hx hruns hheld hwin hcodes hslot hkind => ?encode,
    fun chain ta wfn slot ref t0 s im c him hsend hc => exec_refreshReq_of_chain him hsend hc chain wfn slot ref,
    fun r s hport hup hhcrc hrows hmine => exec_sliceRx_consumed_spec hport hup hhcrc hrows hmine,
    fun r s htile hport hup hother => exec_sliceRx_passed_spec htile hport hup hother,
    fun wfn slot t0 s c r hc hr hlater hfirst => exec_sliceDecode_spec hc hr hlater hfirst,
    fun slot t0 s a tl ha hagain htl hn hdue => exec_refreshReqRetry_of_due ha hagain htl hn hdue,
    fun p s h => ⟨_, exec_ccxCntClear h, s.reg_resetRegs ccxCounter⟩⟩
  case encode =>
    obtain ⟨r, hr⟩ : ∃ r, r = (s.tick e.t).codeSlice e c x k := ⟨_, rfl⟩
    have hexec := exec_sliceEncode_of_open him hrole hc hx hruns hheld hwin hcodes hslot hkind hr
    have hx' : (s.tick e.t).coder? e.ta = some x := hx
    obtain ⟨hslice, hsig, hcoder, hrepeats, hrefreshes⟩ := State.encoded_spec (c := c) (k := k) (b := b) (im := im) hx' hr rfl
    have hflags : r.flags % 4 = e.slot % 4 := by rw [hr, State.codeSlice_flags]
    refine ⟨_, r.flags, r.bytes.length / 32, crc32c r.bytes, r.fsig, r.bytes, hexec, hslice, hsig, rfl, rfl, hflags,
      fun hk => ?repeated, fun hk p hp => ⟨?picture, hrefreshes hk⟩⟩
    case repeated =>
      have hr' : r = codeRepeat c x e.slot := by rw [hr, State.codeSlice, if_pos hk]
      exact ⟨congrArg _ hr', hcoder.trans (by rw [hr']; rfl), hrepeats hk⟩
    case picture =>
      obtain ⟨q, hq, hlast⟩ := State.codeSlice_lastSeq (s := s.tick e.t) (e := e) (c := c) hk hp
      rw [← hr] at hq
      exact ⟨r.coder, q, hcoder, hq, hlast⟩

end Sys2Proof.Machine
end

section
/-! Parameters over the mailbox (R40 to R42): PARAM_WRITE by its apply point, and PARAM_READ. -/
namespace Sys2Proof.Machine

/-! ### Parameters and their records -/

@[simp] theorem State.paramVal?_tick (s : State) (t id : Nat) : (s.tick t).paramVal? id = s.paramVal? id := rfl

theorem State.paramVal?_id {s : State} {id : Nat} {p : ParamVal} (h : s.paramVal? id = some p) : p.spec.id = id := by
  simpa using List.find?_some h

theorem State.paramVal?_setParam (s : State) (id : Nat) (vs : List Nat) (j : Nat) :
    (s.setParam id vs).paramVal? j = (s.paramVal? j).map (fun p => if p.spec.id = id then { p with value := vs } else p) := by
  unfold State.paramVal? State.setParam
  rw [List.find?_map]
  congr 2
  funext p
  dsimp only [Function.comp]
  split <;> rfl

theorem State.paramVal?_setParam_same {s : State} {id : Nat} {p : ParamVal} (h : s.paramVal? id = some p) (vs : List Nat) :
    (s.setParam id vs).paramVal? id = some { p with value := vs } := by
  rw [State.paramVal?_setParam, h, Option.map_some, if_pos (State.paramVal?_id h)]

theorem State.paramVal?_setParam_other (s : State) {id j : Nat} (hj : j ≠ id) (vs : List Nat) :
    (s.setParam id vs).paramVal? j = s.paramVal? j := by
  rw [State.paramVal?_setParam]
  cases h : s.paramVal? j with
  | none => rfl
  | some p => rw [Option.map_some, if_neg (by rw [State.paramVal?_id h]; exact hj)]

/-! ### PARAM_WRITE -/

theorem State.serve_answered {s z : State} {op : Nat} {c : MboxCmd} {f : MboxCmd → State → State × Reply} {r : Reply}
    (h : s.takes op c = true) (hf : f c (s.tick c.t) = (z, r)) : s.serve op c f = z.answer op c r := by
  rw [State.serve_of_takes h, hf]

/-- The elements a PARAM_WRITE carries. -/
def paramWords (c : MboxCmd) : List Nat := (List.range (leAt c.body 4 4)).map (fun i => leAt c.body (8 + 4 * i) 4)

/-- An accepted write waits for its apply point, in the place of one that waited for the same (R42). -/
def State.queueParam (s : State) (id : Nat) (vs : List Nat) (a : ApplyAt) : State :=
  { s with gen := { s.gen with pendingParams :=
      s.gen.pendingParams.filter (fun q => !(q.id == id && q.apply == a)) ++ [{ id := id, value := vs, apply := a }] } }

section
variable {c : MboxCmd} {s : State} (h : s.takes 7 c = true)
include h

theorem exec_paramWrite_of_reply {u : State} {r : Reply} (hf : doParamWrite s.formed c (s.tick c.t) = (u, r)) :
    exec (.paramWrite c) s = .next (u.answer 7 c r) :=
  congrArg _ (State.serve_answered h hf)

theorem exec_paramWrite_of_activating (ha : s.gen.activating = true) :
    exec (.paramWrite c) s = .next ((s.tick c.t).answer 7 c (Reply.of St.PARAM_BUSY)) :=
  exec_paramWrite_of_reply h (by simp [doParamWrite, ha])

section
variable (ha : s.gen.activating = false)
include ha

theorem exec_paramWrite_of_unknown (hp : s.paramVal? (leAt c.body 0 2) = none) :
    exec (.paramWrite c) s = .next ((s.tick c.t).answer 7 c (Reply.of St.PARAM_RANGE)) :=
  exec_paramWrite_of_reply h (by simp [doParamWrite, ha, hp])

theorem exec_paramWrite_of_formed {p : ParamVal} (hp : s.paramVal? (leAt c.body 0 2) = some p)
    (hid : leAt c.body 0 2 = 1 ∧ s.formed = true) :
    exec (.paramWrite c) s = .next ((s.tick c.t).answer 7 c (Reply.of St.PARAM_BUSY)) :=
  exec_paramWrite_of_reply h (by rw [hid.1] at hp; simp [doParamWrite, ha, hp, hid])

variable {p : ParamVal} (hp : s.paramVal? (leAt c.body 0 2) = some p) (hid : ¬(leAt c.body 0 2 = 1 ∧ s.formed = true))
include hp hid

theorem exec_paramWrite_of_outside (hv : paramValuesOk p.spec (paramWords c) = false) :
    exec (.paramWrite c) s = .next ((s.tick c.t).answer 7 c (Reply.of St.PARAM_RANGE)) :=
  exec_paramWrite_of_reply h (by rw [paramWords] at hv; simp [doParamWrite, ha, hp, hid, hv])

variable (hv : paramValuesOk p.spec (paramWords c) = true)
include hv

theorem exec_paramWrite_of_immediate {w : Nat} (hat : (s.tick c.t).applyPoint p.spec = (none, w)) :
    exec (.paramWrite c) s =
      .next (((s.tick c.t).setParam (leAt c.body 0 2) (paramWords c)).answer 7 c { status := St.OK, wfn := w }) :=
  exec_paramWrite_of_reply h (by unfold paramWords at hv ⊢; simp [doParamWrite, ha, hp, hid, hv, hat])

/-- A write that waits: queued last, and no value in force changes. -/
theorem exec_paramWrite_of_waiting {a : ApplyAt} {w : Nat} (hat : (s.tick c.t).applyPoint p.spec = (some a, w)) :
    ∃ (u : State) (sup : Nat), sup ≤ 1 ∧
      exec (.paramWrite c) s = .next (u.answer 7 c { status := St.OK, wfn := w, flags := sup }) ∧
      u.gen.pendingParams.getLast? = some { id := leAt c.body 0 2, value := paramWords c, apply := a } ∧
      (∀ id, u.paramVal? id = s.paramVal? id) := by
  refine ⟨(s.tick c.t).queueParam (leAt c.body 0 2) (paramWords c) a,
    flag (s.gen.pendingParams.any (fun q => q.id == leAt c.body 0 2 && q.apply == a)), ?_, ?_, ?_, fun _ => rfl⟩
  · unfold flag; split <;> omega
  · refine exec_paramWrite_of_reply h ?_
    unfold paramWords at hv ⊢
    simp [doParamWrite, ha, hp, hid, hv, hat, State.queueParam]
  · simp [State.queueParam]

end
end

theorem applyPoint_of_restart (s : State) {r : ParamRec} (h : 2 < r.apply) : s.applyPoint r = (some .restart, 0xFFFFFFFFFFFF) := by
  unfold State.applyPoint
  split
  · omega
  · omega
  · omega
  · rfl

theorem exec_paramRead {c : MboxCmd} {s : State} (h : s.takes 8 c = true) :
    exec (.paramRead c) s = .next ((s.tick c.t).answer 8 c
      (match s.paramVal? (leAt c.body 0 2) with
       | none => Reply.of St.PARAM_RANGE
       | some p => { status := St.OK, body := leBytes 1 p.spec.type ++ zeroBytes 3 ++ leBytes 4 p.value.length ++ p.value.flatMap (leBytes 4) })) := by
  refine congrArg _ ((State.serve_of_takes h _).trans ?_)
  rw [doParamRead, State.paramVal?_tick]
  cases s.paramVal? (leAt c.body 0 2) <;> rfl

end Sys2Proof.Machine
end

section
/-! HOLD, RELEASE and SELFTEST over the mailbox (R246, R358). -/
namespace Sys2Proof.Machine

/-! ### HOLD and RELEASE -/

theorem State.broadcastAll_eq (s : State) (type tag : Nat) (body : List Byte) :
    s.broadcastAll type tag body = s.queueAll (s.chains.map (fun k =>
      { port := k.chain, bytes := messageBytes type (1 + 4 * s.side) 0xFF tag body, sent := 0 })) := by
  have h := foldl_broadcast_chains type tag [body] (s.chains.map (·.chain)) s
  rw [List.foldl_map, List.flatMap_map] at h
  simpa [State.broadcastAll, List.map_eq_flatMap] using h

/-- A HOLD or RELEASE accepted for frame `f`: taken, sent on every chain, and in a formed pair to the mirror. -/
def State.acceptHold (s : State) (kind f : Nat) : State :=
  if (s.startHold kind f).formed then (s.startHold kind f).sendLink (.hold kind f) else s.startHold kind f

theorem State.acceptHold_eq_startHold (s : State) (kind f : Nat) :
    (s.acceptHold kind f).flk = (s.startHold kind f).flk ∧ (s.acceptHold kind f).chn = (s.startHold kind f).chn := by
  unfold State.acceptHold State.sendLink
  split_ifs <;> exact ⟨rfl, rfl⟩

theorem State.acceptHold_flk (s : State) (kind f : Nat) :
    (s.acceptHold kind f).flk = { s.flk.take kind f with
      holdSends := (s.flk.take kind f).holdSends ++ [{ kind := kind, wfn := f, t := s.now, sends := 1 }] } := by
  rw [(s.acceptHold_eq_startHold kind f).1, State.startHold, State.broadcastAll_eq]
  rfl

theorem State.acceptHold_tx (s : State) (kind f : Nat) :
    (s.acceptHold kind f).chn.tx = s.chn.tx ++ s.chains.map (fun k =>
      { port := k.chain, bytes := messageBytes Msg.HOLD (1 + 4 * s.side) 0xFF 0 (holdBody kind f), sent := 0 }) := by
  rw [(s.acceptHold_eq_startHold kind f).2, State.startHold, State.broadcastAll_eq]
  rfl

theorem FlkSt.hold_of_free {x : FlkSt} (hfrom : x.heldFrom = none) (hahead : x.ahead = []) (f : Nat) :
    x.hold f = { x with heldFrom := some f, heldTo := none } := by
  simp [FlkSt.hold, hfrom, hahead]

theorem FlkSt.release_of_held {x : FlkSt} {a : Nat} (hfrom : x.heldFrom = some a) (hto : x.heldTo = none) (hahead : x.ahead = []) (f : Nat) :
    x.release f = { x with heldTo := some f } := by
  simp [FlkSt.release, hfrom, hto, hahead]

theorem doHold_of_mirror {s : State} (hm : (s.formed && s.isMirror) = true) (kind : Nat) (c : MboxCmd) :
    doHold kind c s = (s, Reply.of St.NOT_PRIMARY) := by
  rw [doHold, if_pos hm]

section
variable {kind : Nat} {s : State} (hm : (s.formed && s.isMirror) = false)
include hm

theorem doHold_of_bist (hb : kind = 1 ∧ s.dbg.bist.isSome = true) (c : MboxCmd) : doHold kind c s = (s, Reply.of St.BUSY) := by
  rw [doHold, hm, if_neg Bool.false_ne_true, if_pos hb]

variable {c : MboxCmd} {tl : Timeline} (htl : s.timeline? = some tl) (hb : ¬(kind = 1 ∧ s.dbg.bist.isSome = true))
include htl hb

theorem doHold_of_late (hlate : leAt c.body 0 6 ≠ 0 ∧ frameStart tl (leAt c.body 0 6) < s.now + 2 * msT) :
    doHold kind c s = (s, Reply.of St.TOO_LATE) := by
  have hframe : s.holdFrame (leAt c.body 0 6) = none := by simp only [State.holdFrame, htl, if_pos hlate]
  rw [doHold, hm, if_neg Bool.false_ne_true, if_neg hb, hframe]

theorem doHold_of_due (hdue : ¬(leAt c.body 0 6 ≠ 0 ∧ frameStart tl (leAt c.body 0 6) < s.now + 2 * msT)) :
    doHold kind c s =
      (s.acceptHold kind (Nat.max (leAt c.body 0 6) (frameFrom tl (s.now + 2 * msT))),
        { status := St.OK, wfn := Nat.max (leAt c.body 0 6) (frameFrom tl (s.now + 2 * msT)) }) := by
  have hframe : s.holdFrame (leAt c.body 0 6) = some (Nat.max (leAt c.body 0 6) (frameFrom tl (s.now + 2 * msT))) := by
    simp only [State.holdFrame, htl, if_neg hdue]
  rw [doHold, hm, if_neg Bool.false_ne_true, if_neg hb, hframe]
  rfl

end

theorem exec_hold_of_reply {c : MboxCmd} {s u : State} {r : Reply} (h : s.takes 5 c = true) (hf : doHold 0 c (s.tick c.t) = (u, r)) :
    exec (.hold c) s = .next (u.answer 5 c r) := congrArg _ (State.serve_answered h hf)

theorem exec_release_of_reply {c : MboxCmd} {s u : State} {r : Reply} (h : s.takes 6 c = true) (hf : doHold 1 c (s.tick c.t) = (u, r)) :
    exec (.release c) s = .next (u.answer 6 c r) := congrArg _ (State.serve_answered h hf)

/-! ### Background work -/

/-- Other chunks run. -/
def State.withChunks (s : State) (l : List BgChunk) : State := { s with sch := { s.sch with chunks := l } }

theorem State.startChunk_chunks (s : State) (island t w : Nat) : ∃ l, s.startChunk island t w = s.withChunks l := by
  unfold State.startChunk
  dsimp only
  split
  · exact ⟨_, rfl⟩
  · split_ifs <;> exact ⟨_, rfl⟩

/-- The work is offered to one island. -/
def State.offerIsland (s : State) (im : Image) (i : Nat) : State :=
  match openWindow im i s.now with
  | some w => if s.paused i s.now || !s.slackTaken then s else s.startChunk i s.now w.2
  | none => s

theorem State.offerIsland_chunks (s : State) (im : Image) (i : Nat) : ∃ l, s.offerIsland im i = s.withChunks l := by
  unfold State.offerIsland
  split
  · split_ifs
    · exact ⟨_, rfl⟩
    · exact s.startChunk_chunks _ _ _
  · exact ⟨_, rfl⟩

theorem State.offerWork_chunks (s : State) (islands : List Nat) : ∃ l, s.offerWork islands = s.withChunks l := by
  unfold State.offerWork
  split
  · exact ⟨_, rfl⟩
  next im _ =>
    change ∃ l, islands.foldl (fun (z : State) i => z.offerIsland im i) s = s.withChunks l
    clear * -
    induction islands generalizing s with
    | nil => exact ⟨_, rfl⟩
    | cons i is ih =>
      obtain ⟨l, hl⟩ := s.offerIsland_chunks im i
      rw [List.foldl_cons, hl]
      exact ih _

/-- Background work joins the queue of jobs; only chunks may start besides. -/
theorem State.background_eq (s : State) (kind : BgKind) (tok : Nat) (work : Option Nat) (islands : List Nat) :
    ∃ l, s.background kind tok work islands = { s with sch := { s.sch with
      jobs := s.sch.jobs ++ [{ kind := kind, token := tok, left := work, work := work, islands := islands }], chunks := l } } :=
  State.offerWork_chunks _ islands

/-! ### SELFTEST -/

section
variable {c : MboxCmd} {s : State} (h : s.takes 0x503 c = true)
include h

theorem exec_selftest_of_reply {u : State} {r : Reply} (hf : doSelftest c (s.tick c.t) = (u, r)) :
    exec (.selftest c) s = .next (u.answer 0x503 c r) := congrArg _ (State.serve_answered h hf)

theorem exec_selftest_of_no_image (him : s.image? = none) :
    exec (.selftest c) s = .next ((s.tick c.t).answer 0x503 c (Reply.of St.NO_SLACK)) := by
  have him' : (s.tick c.t).image? = none := him
  exact exec_selftest_of_reply h (by rw [doSelftest, him'])

end

/-- SELFTEST names every island, or an enabled facet island. -/
def selftestKnows (im : Image) (i : Nat) : Bool := i == 0xFF || (decide (i ≤ 31) && im.islands.any (fun r => r.island == i && r.enabled))

theorem selftestKnows_eq_false_iff {im : Image} {i : Nat} :
    (i ≠ 0xFF ∧ !im.islands.any (fun r => r.island == i && r.enabled && decide (i ≤ 31))) ↔ selftestKnows im i = false := by
  simp only [selftestKnows, Bool.or_eq_false_iff, beq_eq_false_iff_ne, Bool.not_eq_true', ne_eq]
  refine and_congr_right fun _ => ?_
  by_cases h : i ≤ 31 <;> simp [h]

/-- The island SELFTEST works on: the one named, or the roomiest. -/
def State.selftestIslands (s : State) (im : Image) (i : Nat) : List Nat := if i = 0xFF then s.roomiest im else [i]

/-- SELFTEST accepted: a long operation and its 6 ms of work. -/
def State.startSelftest (s : State) (c : MboxCmd) (isl : List Nat) : State :=
  (s.longStart 0x503 c (isl.headD (byteAt c.body 0))).1.background (.selftest (isl.headD (byteAt c.body 0))) s.cmd.nextToken (some 6000000) isl

theorem State.startSelftest_spec (s : State) (c : MboxCmd) (isl : List Nat) :
    (s.startSelftest c isl).cmd.nextToken = s.cmd.nextToken + 1 ∧
      (s.startSelftest c isl).cmd.longOps.getLast?.map (fun o => (o.token, o.opcode, o.owner)) = some (s.cmd.nextToken, 0x503, some c.path) ∧
      (s.startSelftest c isl).sch.jobs.getLast? =
        some { kind := .selftest (isl.headD (byteAt c.body 0)), token := s.cmd.nextToken, left := some 6000000, work := some 6000000, islands := isl } := by
  obtain ⟨l, hl⟩ := (s.longStart 0x503 c (isl.headD (byteAt c.body 0))).1.background_eq
    (.selftest (isl.headD (byteAt c.body 0))) s.cmd.nextToken (some 6000000) isl
  rw [State.startSelftest, hl]
  exact ⟨rfl, by simp [State.longStart], by simp⟩

section
variable {c : MboxCmd} {s : State} {im : Image} (him : s.image? = some im)
include him

theorem doSelftest_of_unknown (hk : selftestKnows im (byteAt c.body 0) = false) : doSelftest c s = (s, Reply.of St.BAD_FIELD) := by
  simp only [doSelftest, him, if_pos (selftestKnows_eq_false_iff.mpr hk)]

variable (hk : selftestKnows im (byteAt c.body 0) = true)
include hk

theorem doSelftest_of_noSlack (hs : noSlack im = true) : doSelftest c s = (s, Reply.of St.NO_SLACK) := by
  simp only [doSelftest, him, selftestKnows_eq_false_iff, hk, hs, Bool.true_eq_false, if_false, if_true]

variable (hs : noSlack im = false)
include hs

theorem doSelftest_of_full (hfull : s.longFull = true) : doSelftest c s = (s, Reply.of St.BUSY) := by
  simp only [doSelftest, him, selftestKnows_eq_false_iff, hk, hs, hfull, Bool.true_eq_false, Bool.false_eq_true, if_false, if_true]

theorem doSelftest_of_room (hfull : s.longFull = false) :
    doSelftest c s = (s.startSelftest c (s.selftestIslands im (byteAt c.body 0)), { status := St.ACCEPTED, token := s.cmd.nextToken }) := by
  simp only [doSelftest, him, selftestKnows_eq_false_iff, hk, hs, hfull, Bool.true_eq_false, Bool.false_eq_true, if_false]
  rfl

end

/-! ### The statement -/

/-- Settles O54: each command's reply follows from the branch of its handler that its case takes. -/
theorem parametersAndHoldsAreTaken : Obligations.ParametersAndHoldsAreTaken := by
  refine ⟨fun c s p h ha hp hid => ⟨fun hv => exec_paramWrite_of_outside h ha hp hid hv, fun hv hat => ?immediate,
      fun tl hv hat htl => exec_paramWrite_of_waiting h ha hp hid hv ?frame,
      fun hv hat => exec_paramWrite_of_waiting h ha hp hid hv (by simp [State.applyPoint, hat]),
      fun hv hat => exec_paramWrite_of_waiting h ha hp hid hv (applyPoint_of_restart _ hat)⟩,
    fun c s h ha => ⟨fun hp => exec_paramWrite_of_unknown h ha hp, fun hid hf hp => ?formed⟩,
    fun c s h ha => exec_paramWrite_of_activating h ha,
    fun c s h => exec_paramRead h,
    fun c s tl h hm htl hfrom hahead => ?hold,
    fun c s tl a h hm htl hfrom hto hahead => ?release,
    fun c s hm => ⟨fun h => exec_hold_of_reply h (doHold_of_mirror (s := s.tick c.t) hm 0 c),
      fun h => exec_release_of_reply h (doHold_of_mirror (s := s.tick c.t) hm 1 c)⟩,
    fun c s h him => exec_selftest_of_no_image h him,
    fun c s im h him => ⟨fun hk => exec_selftest_of_reply h (doSelftest_of_unknown him hk),
      fun hk hs => exec_selftest_of_reply h (doSelftest_of_noSlack him hk hs),
      fun hk hs hfull => exec_selftest_of_reply h (doSelftest_of_full him hk hs hfull),
      fun hk hs hfull => ⟨_, exec_selftest_of_reply h (doSelftest_of_room him hk hs hfull), State.startSelftest_spec _ c _⟩⟩⟩
  case immediate =>
    refine ⟨_, exec_paramWrite_of_immediate h ha hp hid hv (by simp [State.applyPoint, hat]), ?_, fun id hne => ?_⟩
    · exact State.paramVal?_setParam_same hp _
    · exact State.paramVal?_setParam_other _ hne _
  case frame =>
    have htl' : (s.tick c.t).timeline? = some tl := htl
    simp only [State.applyPoint, hat, htl']
  case formed =>
    obtain ⟨p, hp'⟩ := Option.isSome_iff_exists.mp hp
    exact exec_paramWrite_of_formed h ha (by rw [hid]; exact hp') ⟨hid, hf⟩
  case hold =>
    have hkind : ¬((0 : Nat) = 1 ∧ (s.tick c.t).dbg.bist.isSome = true) := by omega
    dsimp only
    split_ifs with hlate
    · exact exec_hold_of_reply h (doHold_of_late (s := s.tick c.t) hm htl hkind hlate)
    · have htake : ∀ f, s.flk.take 0 f = { s.flk with heldFrom := some f, heldTo := none } := FlkSt.hold_of_free hfrom hahead
      refine ⟨_, exec_hold_of_reply h (doHold_of_due (s := s.tick c.t) hm htl hkind hlate), ?_⟩
      rw [State.acceptHold_flk, State.acceptHold_tx, State.tick_flk, htake]
      exact ⟨rfl, rfl, List.getLast?_concat, rfl⟩
  case release =>
    dsimp only
    split_ifs with hbist hlate
    · exact exec_release_of_reply h (doHold_of_bist (s := s.tick c.t) hm ⟨rfl, hbist⟩ c)
    · exact exec_release_of_reply h (doHold_of_late (s := s.tick c.t) hm htl (fun hb => hbist hb.2) hlate)
    · have htake : ∀ f, s.flk.take 1 f = { s.flk with heldTo := some f } := FlkSt.release_of_held hfrom hto hahead
      refine ⟨_, exec_release_of_reply h (doHold_of_due (s := s.tick c.t) hm htl (fun hb => hbist hb.2) hlate), ?_⟩
      rw [State.acceptHold_flk, State.tick_flk, htake]
      exact ⟨hfrom, rfl⟩

end Sys2Proof.Machine
end

section
/-! What the schedule's bookkeeping leaves unchanged (chapter 3): the trace, the queues, the dispatchers and the end of a pause. -/
namespace Sys2Proof.Machine

/-! ### What is kept -/

/-- The registers of the schedule's bookkeeping: those of the SCH block behind its counters (Table 3.4), and FLK_ABSENT. -/
def bookReg (a : Nat) : Bool := inRange a Reg.SCH_BRC_FIRST0 Reg.SCH_TRACE_WIN || inRange a (Reg.FLK_ABSENT 0) (Reg.FLK_ABSENT 3)

/-- What the schedule never touches: the image, the trust state, Umbra, the held state and DRAM. -/
structure State.RunKeeps (s t : State) : Prop where
  gen : t.gen = s.gen
  tru : t.tru = s.tru
  umb : t.umb = s.umb
  flk : t.flk = s.flk
  dram : t.dram = s.dram

/-- What no dispatch touches besides: the pending decrements, and every register outside the bookkeeping. -/
structure State.BookKeeps (s t : State) : Prop extends s.RunKeeps t where
  decrements : t.sch.decrements = s.sch.decrements
  regs : ∀ a, bookReg a = false → t.reg a = s.reg a

/-- What no trace record and no movement of words touches besides: the instances. -/
structure State.TraceKeeps (s t : State) : Prop extends s.BookKeeps t where
  instances : t.sch.instances = s.sch.instances

theorem State.RunKeeps.refl (s : State) : s.RunKeeps s := ⟨rfl, rfl, rfl, rfl, rfl⟩

theorem State.RunKeeps.trans {s t u : State} (h : s.RunKeeps t) (k : t.RunKeeps u) : s.RunKeeps u :=
  ⟨k.gen.trans h.gen, k.tru.trans h.tru, k.umb.trans h.umb, k.flk.trans h.flk, k.dram.trans h.dram⟩

theorem State.BookKeeps.refl (s : State) : s.BookKeeps s := ⟨.refl s, rfl, fun _ _ => rfl⟩

theorem State.BookKeeps.trans {s t u : State} (h : s.BookKeeps t) (k : t.BookKeeps u) : s.BookKeeps u :=
  ⟨h.toRunKeeps.trans k.toRunKeeps, k.decrements.trans h.decrements, fun a ha => (k.regs a ha).trans (h.regs a ha)⟩

theorem State.TraceKeeps.refl (s : State) : s.TraceKeeps s := ⟨.refl s, rfl⟩

theorem State.TraceKeeps.trans {s t u : State} (h : s.TraceKeeps t) (k : t.TraceKeeps u) : s.TraceKeeps u :=
  ⟨h.toBookKeeps.trans k.toBookKeeps, k.instances.trans h.instances⟩

theorem State.BookKeeps.foldl {α : Type} {f : State → α → State} (h : ∀ (s : State) a, s.BookKeeps (f s a)) (l : List α) (s : State) :
    s.BookKeeps (l.foldl f s) := by
  induction l generalizing s with
  | nil => exact .refl s
  | cons a l ih => exact (h s a).trans (ih (f s a))

theorem State.TraceKeeps.foldl {α : Type} {f : State → α → State} (h : ∀ (s : State) a, s.TraceKeeps (f s a)) (l : List α) (s : State) :
    s.TraceKeeps (l.foldl f s) := by
  induction l generalizing s with
  | nil => exact .refl s
  | cons a l ih => exact (h s a).trans (ih (f s a))

theorem State.setReg_traceKeeps (s : State) {a : Nat} (v : Word) (h : bookReg a = true) : s.TraceKeeps (s.setReg a v) := by
  refine ⟨⟨⟨rfl, rfl, rfl, rfl, rfl⟩, rfl, fun b hb => ?_⟩, rfl⟩
  rw [State.reg_setReg, if_neg]
  rintro rfl
  rw [h] at hb
  cases hb

/-- Another state of the dispatchers. -/
def State.withSch (s : State) (x : SchSt) : State := { s with sch := x }

theorem State.withSch_traceKeeps (s : State) {x : SchSt} (hd : x.decrements = s.sch.decrements) (hi : x.instances = s.sch.instances) :
    s.TraceKeeps (s.withSch x) := ⟨⟨⟨rfl, rfl, rfl, rfl, rfl⟩, hd, fun _ _ => rfl⟩, hi⟩

theorem State.tick_traceKeeps (s : State) (t : Nat) : s.TraceKeeps (s.tick t) := ⟨⟨⟨rfl, rfl, rfl, rfl, rfl⟩, rfl, fun _ _ => rfl⟩, rfl⟩

theorem bookReg_traceCtrl : bookReg Reg.SCH_TRACE_CTRL = true := by decide
theorem bookReg_tracePtr : bookReg Reg.SCH_TRACE_PTR = true := by decide

theorem bookReg_of_sch {a : Nat} (hlo : Reg.SCH_BRC_FIRST0 ≤ a) (hhi : a ≤ Reg.SCH_TRACE_WIN) : bookReg a = true := by
  simp [bookReg, inRange, hlo, hhi]

theorem bookReg_margin (f : Nat) : bookReg (Reg.SCH_FCT_MARGIN f) = true := by
  apply bookReg_of_sch <;> simp only [Reg.SCH_FCT_MARGIN, Reg.SCH_BRC_FIRST0, Reg.SCH_TRACE_WIN] <;> omega

theorem bookReg_hist (k : Nat) : bookReg (Reg.SCH_HIST k) = true := by
  apply bookReg_of_sch <;> simp only [Reg.SCH_HIST, Reg.SCH_BRC_FIRST0, Reg.SCH_TRACE_WIN] <;> omega

theorem bookReg_absent (k : Nat) : bookReg (Reg.FLK_ABSENT k) = true := by
  have hlo : Reg.FLK_ABSENT 0 ≤ Reg.FLK_ABSENT k := by simp only [Reg.FLK_ABSENT]; omega
  have hhi : Reg.FLK_ABSENT k ≤ Reg.FLK_ABSENT 3 := by simp only [Reg.FLK_ABSENT]; omega
  simp [bookReg, inRange, hlo, hhi]

/-! ### The trace (R64, R65) -/

theorem State.traceAppend_traceKeeps (s : State) (t : Nat) (r : TraceRec) : s.TraceKeeps (s.traceAppend t r) := by
  unfold State.traceAppend
  dsimp only
  generalize hx : ({ s.sch with trace := _, tracePtr := _, traceAt := _, traceLost := _ } : SchSt) = x
  have hsch : s.TraceKeeps (s.withSch x) := s.withSch_traceKeeps (by rw [← hx]) (by rw [← hx])
  have hptr := hsch.trans ((s.withSch x).setReg_traceKeeps (a := Reg.SCH_TRACE_PTR) (putField (putField ((s.withSch x).reg Reg.SCH_TRACE_PTR) 0 12
    ((s.sch.tracePtr + 1) % 4096)) 12 1 (flag (bitOf (s.reg Reg.SCH_TRACE_PTR) 12 || (s.sch.tracePtr + 1) % 4096 == 0)))
    bookReg_tracePtr)
  split_ifs
  · refine State.TraceKeeps.trans ?_ (State.setReg_traceKeeps _ _ bookReg_traceCtrl)
    exact hptr.trans (State.withSch_traceKeeps _ rfl rfl)
  · exact hptr.trans (State.withSch_traceKeeps _ rfl rfl)
  · exact hptr

theorem State.trace_traceKeeps (s : State) (t : Nat) (r : TraceRec) : s.TraceKeeps (s.trace t r) := by
  unfold State.trace
  dsimp only
  split_ifs
  · exact .refl s
  · split
    · exact s.traceAppend_traceKeeps t r
    · split_ifs
      · exact s.withSch_traceKeeps rfl rfl
      · exact s.traceAppend_traceKeeps t r

theorem State.traceTrigger_traceKeeps (s : State) : s.TraceKeeps s.traceTrigger := by
  unfold State.traceTrigger
  dsimp only
  split_ifs
  · exact .refl s
  · refine State.TraceKeeps.trans ?_ (State.setReg_traceKeeps _ _ bookReg_traceCtrl)
    refine State.TraceKeeps.trans ?_ (State.setReg_traceKeeps _ _ bookReg_tracePtr)
    exact s.withSch_traceKeeps rfl rfl
  · refine State.TraceKeeps.trans ?_ (State.setReg_traceKeeps _ _ bookReg_tracePtr)
    exact s.withSch_traceKeeps rfl rfl

/-! ### Queues -/

theorem State.watchQueue_traceKeeps (s : State) : s.TraceKeeps s.watchQueue := s.setReg_traceKeeps _ (by decide)

theorem State.setQueue_traceKeeps (s : State) (q wfn n : Nat) : s.TraceKeeps (s.setQueue q wfn n) := s.withSch_traceKeeps rfl rfl

theorem State.pushWords_traceKeeps (s : State) (im : Image) (i : Instance) (p : Nat × Nat) : s.TraceKeeps (s.pushWords im i p) := by
  unfold State.pushWords
  split_ifs
  · exact s.setQueue_traceKeeps _ _ _
  · exact .refl s

theorem State.sweepInstance_traceKeeps (s : State) (wfn : Nat) : s.TraceKeeps (s.sweepInstance wfn) := by
  unfold State.sweepInstance
  split_ifs
  · refine State.TraceKeeps.trans ?_ (State.watchQueue_traceKeeps _)
    exact s.withSch_traceKeeps rfl rfl
  · exact .refl s

theorem State.settleDecodes_traceKeeps (s : State) : s.TraceKeeps s.settleDecodes := by
  have hcount := State.TraceKeeps.foldl (f := fun (z : State) (p : Nat × Nat) => z.bump (Reg.FLK_ABSENT p.2) 1)
    (fun z p => z.setReg_traceKeeps _ (bookReg_absent p.2)) (s.lmp.undecided.filter (fun p => s.decodeShed p.1 p.2)) s
  exact hcount.trans ⟨⟨⟨rfl, rfl, rfl, rfl, rfl⟩, rfl, fun _ _ => rfl⟩, rfl⟩

/-! ### Dispatch and pauses (R49, R58) -/

theorem State.modInst_bookKeeps (s : State) (wfn : Nat) (f : Instance → Instance) : s.BookKeeps (s.modInst wfn f) :=
  ⟨⟨rfl, rfl, rfl, rfl, rfl⟩, rfl, fun _ _ => rfl⟩

theorem State.modOp_bookKeeps (s : State) (wfn op : Nat) (f : OpRun → OpRun) : s.BookKeeps (s.modOp wfn op f) :=
  s.modInst_bookKeeps wfn _

/-- What issuing an operation leaves but for its own run: the histogram and the trace. -/
theorem State.issue_traceKeeps {s : State} {im : Image} {op wfn : Nat} {o : OpRec} {r : OpRun} (ho : im.ops[op]? = some o)
    (hr : s.opRun? wfn op = some r) (f t : Nat) :
    (s.modOp wfn op (fun r => { r with status := .issued t })).TraceKeeps (s.issue im f t op wfn) := by
  simp only [State.issue, ho, hr]
  refine State.TraceKeeps.trans ?_ (State.trace_traceKeeps _ _ _)
  split_ifs
  · exact State.setReg_traceKeeps _ _ (bookReg_hist _)
  · exact .refl _

theorem State.issue_bookKeeps (s : State) (im : Image) (f t op wfn : Nat) : s.BookKeeps (s.issue im f t op wfn) := by
  cases ho : im.ops[op]? with
  | none => simp only [State.issue, ho]; exact .refl s
  | some o =>
    cases hr : s.opRun? wfn op with
    | none => simp only [State.issue, ho, hr]; exact .refl s
    | some r => exact (s.modOp_bookKeeps wfn op _).trans (State.issue_traceKeeps ho hr f t).toBookKeeps

theorem earlier_eq (a b : Nat × Nat × Nat) : earlier a b = a ∨ earlier a b = b := by
  unfold earlier
  split_ifs
  · exact .inl rfl
  · exact .inr rfl

theorem foldl_earlier_mem (l : List (Nat × Nat × Nat)) (x : Nat × Nat × Nat) : l.foldl earlier x ∈ x :: l := by
  induction l generalizing x with
  | nil => exact List.mem_cons_self
  | cons y l ih =>
    rw [List.foldl_cons]
    obtain h | h := List.mem_cons.mp (ih (earlier x y))
    · obtain hx | hy := earlier_eq x y
      · rw [h, hx]; exact List.mem_cons_self
      · rw [h, hy]; exact List.mem_cons_of_mem _ List.mem_cons_self
    · exact List.mem_cons_of_mem _ (List.mem_cons_of_mem _ h)

/-- A facet leaves its operations as they are, or issues one that waits. -/
theorem State.dispatch_cases (s : State) (f t : Nat) :
    s.dispatch f t = s ∨ ∃ im b, s.gen.running = some im ∧ b ∈ s.readyList im f t ∧ s.dispatch f t = s.issue im f t b.2.1 b.2.2 := by
  unfold State.dispatch
  split
  · exact .inl rfl
  next im him =>
    split_ifs
    · exact .inl rfl
    · split
      · exact .inl rfl
      next x xs hready => exact .inr ⟨im, xs.foldl earlier x, him, hready ▸ foldl_earlier_mem xs x, rfl⟩

theorem State.dispatch_bookKeeps (s : State) (f t : Nat) : s.BookKeeps (s.dispatch f t) := by
  obtain h | ⟨im, b, -, -, h⟩ := s.dispatch_cases f t
  · rw [h]; exact .refl s
  · rw [h]; exact s.issue_bookKeeps im f t _ _

theorem State.startChunk_traceKeeps (s : State) (island t w : Nat) : s.TraceKeeps (s.startChunk island t w) := by
  obtain ⟨l, hl⟩ := s.startChunk_chunks island t w
  rw [hl]
  exact s.withSch_traceKeeps rfl rfl

theorem State.endPause_bookKeeps (s : State) (p : PauseRun) : s.BookKeeps (s.endPause p) := by
  refine State.BookKeeps.trans (State.TraceKeeps.toBookKeeps ?_) (.foldl (fun z k => z.dispatch_bookKeeps (4 * p.island + k) p.ends) _ _)
  refine State.TraceKeeps.trans ?_ (State.startChunk_traceKeeps _ _ _ _)
  exact s.withSch_traceKeeps rfl rfl

theorem State.advance_bookKeeps (s : State) (t : Nat) : s.BookKeeps (s.advance t) :=
  (s.tick_traceKeeps t).toBookKeeps.trans (.foldl State.endPause_bookKeeps _ _)

end Sys2Proof.Machine
end

section
/-! The runs of a frame's operations (R48, R56), a completion and a shedding (R35, R49, R56). -/
namespace Sys2Proof.Machine

/-! ### The run of an operation -/

theorem State.opRun?_congr {s t : State} (h : t.sch.instances = s.sch.instances) (wfn op : Nat) : t.opRun? wfn op = s.opRun? wfn op := by
  simp only [State.opRun?, State.inst?, h]

theorem State.inst?_wfn {s : State} {wfn : Nat} {i : Instance} (h : s.inst? wfn = some i) : i.wfn = wfn := by
  simpa using List.find?_some h

theorem State.opRun?_of_inst {s : State} {wfn : Nat} {i : Instance} (h : s.inst? wfn = some i) (op : Nat) : s.opRun? wfn op = i.ops[op]? := by
  rw [State.opRun?, h, Option.bind_some]

theorem State.inst?_modInst (s : State) (wfn : Nat) {f : Instance → Instance} (hf : ∀ i, (f i).wfn = i.wfn) (v : Nat) :
    (s.modInst wfn f).inst? v = (s.inst? v).map (fun i => if i.wfn = wfn then f i else i) := by
  unfold State.inst? State.modInst
  rw [List.find?_map]
  congr 2
  funext i
  dsimp only [Function.comp]
  split_ifs
  · rw [hf]
  · rfl

theorem State.opRun?_modOp (s : State) (wfn op : Nat) (f : OpRun → OpRun) (v k : Nat) :
    (s.modOp wfn op f).opRun? v k = if v = wfn ∧ k = op then (s.opRun? v k).map f else s.opRun? v k := by
  rw [State.opRun?, State.modOp, State.inst?_modInst s wfn (f := fun i => { i with ops := modifyAt i.ops op f }) (fun _ => rfl)]
  cases hi : s.inst? v with
  | none => simp [State.opRun?, hi]
  | some i =>
    rw [State.opRun?_of_inst hi, ← State.inst?_wfn hi, Option.map_some, Option.bind_some]
    split_ifs with hw hboth hboth
    · rw [modifyAt, hboth.2, List.getElem?_modify_eq]
      rfl
    · have hne : op ≠ k := fun hk => hboth ⟨hw, hk.symm⟩
      simp [modifyAt, hne]
    · exact absurd hboth.1 hw
    · rfl

/-- A property that a change keeps, of whatever run it changes. -/
theorem State.any_opRun?_modOp {P : OpRun → Bool} {f : OpRun → OpRun} (hf : ∀ r, P r = true → P (f r) = true) {s : State} {v k : Nat}
    (h : (s.opRun? v k).any P = true) (wfn op : Nat) : ((s.modOp wfn op f).opRun? v k).any P = true := by
  rw [State.opRun?_modOp]
  split_ifs
  · rw [Option.any_map]
    cases hr : s.opRun? v k with
    | none => rw [hr] at h; cases h
    | some r => rw [hr] at h; exact hf r h
  · exact h

/-! ### Successors (R48) -/

theorem State.feedSuccessors_spec (s : State) (wfn : Nat) (o : OpRec) (tagged : Bool) :
    s.RunKeeps (s.feedSuccessors wfn o tagged) ∧ (s.feedSuccessors wfn o tagged).regs = s.regs ∧
      (s.feedSuccessors wfn o tagged).sch.decrements = s.sch.decrements ++ o.succs.map (fun k => (wfn, k)) := by
  unfold State.feedSuccessors
  generalize o.succs = l
  induction l generalizing s with
  | nil => exact ⟨.refl s, rfl, (List.append_nil _).symm⟩
  | cons k l ih =>
    obtain ⟨u, hu, hrun, hregs, hdec⟩ : ∃ u, u = (if tagged then State.modOp (s.withSch { s.sch with decrements := s.sch.decrements ++ [(wfn, k)] })
        wfn k (fun r => { r with tainted := true }) else s.withSch { s.sch with decrements := s.sch.decrements ++ [(wfn, k)] }) ∧
        s.RunKeeps u ∧ u.regs = s.regs ∧ u.sch.decrements = s.sch.decrements ++ [(wfn, k)] := by
      refine ⟨_, rfl, ?_⟩
      split_ifs <;> exact ⟨⟨rfl, rfl, rfl, rfl, rfl⟩, rfl, rfl⟩
    obtain ⟨ihrun, ihregs, ihdec⟩ := ih u
    rw [List.foldl_cons]
    subst hu
    refine ⟨hrun.trans ihrun, ihregs.trans hregs, ihdec.trans ?_⟩
    rw [hdec, List.append_assoc]
    rfl

/-- Feeding its successors taints runs and changes nothing else of them. -/
theorem State.any_opRun?_feedSuccessors {P : OpRun → Bool} (hP : ∀ r, P r = true → P { r with tainted := true } = true) {s : State} {v k : Nat}
    (h : (s.opRun? v k).any P = true) (wfn : Nat) (o : OpRec) (tagged : Bool) :
    ((s.feedSuccessors wfn o tagged).opRun? v k).any P = true := by
  unfold State.feedSuccessors
  generalize o.succs = l
  induction l generalizing s with
  | nil => exact h
  | cons j l ih =>
    rw [List.foldl_cons]
    refine ih ?_
    have hsch : ((s.withSch { s.sch with decrements := s.sch.decrements ++ [(wfn, j)] }).opRun? v k).any P = true := h
    split_ifs
    · exact State.any_opRun?_modOp hP hsch wfn j
    · exact hsch

/-! ### Runs that no dispatch issues -/

/-- The run waits to be issued. -/
def waits (r : OpRun) : Bool := r.status == .waiting

/-- No run of an operation of a WFN waits. -/
def State.noneWaits (s : State) (v k : Nat) : Prop := ∀ i ∈ s.sch.instances, i.wfn = v → (i.ops[k]?).any waits = false

theorem State.noneWaits_modOp {f : OpRun → OpRun} {s : State} {wfn op v k : Nat} (hf : ∀ r, waits r = false → waits (f r) = false)
    (h : s.noneWaits v k) : (s.modOp wfn op f).noneWaits v k := by
  intro i hi hv
  obtain ⟨j, hj, rfl⟩ := List.mem_map.mp hi
  split_ifs at hv ⊢ with hw
  · have hold := h j hj hv
    dsimp only [modifyAt]
    rw [List.getElem?_modify]
    cases hr : j.ops[k]? with
    | none => rfl
    | some r =>
      rw [hr] at hold
      by_cases hk : op = k
      · simpa [hk] using hf r hold
      · simpa [hk] using hold
  · exact h j hj hv

theorem State.noneWaits_modOp_same {f : OpRun → OpRun} (s : State) (v k : Nat) (hf : ∀ r, waits (f r) = false) : (s.modOp v k f).noneWaits v k := by
  intro i hi hv
  obtain ⟨j, hj, rfl⟩ := List.mem_map.mp hi
  split_ifs at hv ⊢ with hw
  · dsimp only [modifyAt]
    rw [List.getElem?_modify_eq]
    cases j.ops[k]? with
    | none => rfl
    | some r => exact hf r
  · exact absurd hv hw

theorem State.noneWaits_feedSuccessors {s : State} {v k : Nat} (h : s.noneWaits v k) (wfn : Nat) (o : OpRec) (tagged : Bool) :
    (s.feedSuccessors wfn o tagged).noneWaits v k := by
  unfold State.feedSuccessors
  generalize o.succs = l
  induction l generalizing s with
  | nil => exact h
  | cons j l ih =>
    rw [List.foldl_cons]
    refine ih ?_
    split_ifs
    · exact State.noneWaits_modOp (fun _ hr => hr) h
    · exact h

theorem State.noneWaits_congr {s t : State} (h : t.sch.instances = s.sch.instances) {v k : Nat} (hs : s.noneWaits v k) : t.noneWaits v k := by
  rw [State.noneWaits, h]
  exact hs

theorem State.waits_of_mem_readyList {s : State} {im : Image} {f t : Nat} {b : Nat × Nat × Nat} (h : b ∈ s.readyList im f t) :
    ¬ s.noneWaits b.2.2 b.2.1 := by
  obtain ⟨i, hi, hb⟩ := List.mem_flatMap.mp h
  obtain ⟨⟨r, k⟩, hr, hb⟩ := List.mem_filterMap.mp hb
  have hk : i.ops[k]? = some r := List.mem_zipIdx_iff_getElem?.mp hr
  intro hnone
  dsimp only at hb
  split at hb
  next hst _ =>
    split_ifs at hb
    cases hb
    have := hnone i hi rfl
    rw [hk, Option.any_some, waits, hst] at this
    cases this
  · cases hb

/-- A dispatch changes no run of an operation that waits nowhere. -/
theorem State.opRun?_dispatch {s : State} {v k : Nat} (h : s.noneWaits v k) (f t : Nat) : (s.dispatch f t).opRun? v k = s.opRun? v k := by
  obtain heq | ⟨im, b, -, hb, heq⟩ := s.dispatch_cases f t
  · rw [heq]
  · have hne : ¬(v = b.2.2 ∧ k = b.2.1) := by
      rintro ⟨rfl, rfl⟩
      exact State.waits_of_mem_readyList hb h
    rw [heq]
    cases ho : im.ops[b.2.1]? with
    | none => simp only [State.issue, ho]
    | some o =>
      cases hr : s.opRun? b.2.2 b.2.1 with
      | none => simp only [State.issue, ho, hr]
      | some r => rw [State.opRun?_congr (State.issue_traceKeeps ho hr f t).instances, State.opRun?_modOp, if_neg hne]

/-! ### OPERATION_COMPLETE (R35, R49) -/

/-- The words a completion puts into queues. -/
def keptWords (d : OpDone) (im : Image) (i : Instance) : List (Nat × Nat) :=
  d.produced.filter (fun p => keepsWords im p.1 && queueWanted im i p.1)

/-- The words an operation consumed leave their queues. -/
def State.consumeWords (s : State) (d : OpDone) : State :=
  d.consumed.foldl (fun z p => z.setQueue p.1 d.wfn (z.queueOf p.1 d.wfn - p.2)) s

/-- The words a completion moves, and its busy time and margin. -/
def State.noteCompletion (s : State) (im : Image) (d : OpDone) (o : OpRec) (t0 since : Nat) : State :=
  let z := s.watchQueue.modOp d.wfn d.op (fun r => { r with status := .completed })
  ({ z with sch := { z.sch with busy := tabAdd z.sch.busy o.facet (d.t - Nat.max t0 since) } } : State).noteMargin o.facet (deadlineAt im d.wfn o) d.t

/-- The trace record of a completion; then no word outlives its frame's operations. -/
def State.closeCompletion (s : State) (d : OpDone) (o : OpRec) : State :=
  (s.trace d.t { time := 0, wfn := d.wfn % 65536, facet := o.facet, event := 2, cause := if d.cycles > o.wcc then 3 else 0,
                 object := s.traceObject d.wfn d.op, value := satTo 0xFFFFFFFF d.cycles }).sweepInstance d.wfn

/-- The completion of an issued operation whose words find room, before its facet issues the next. -/
def State.finishOp (s : State) (im : Image) (d : OpDone) (o : OpRec) (r : OpRun) (i : Instance) (t0 : Nat) : State :=
  let moved := (keptWords d im i).foldl (fun z p => z.pushWords im i p) (s.consumeWords d)
  let noted := moved.noteCompletion im d o t0 s.sch.frameAt
  (if i.abandoned then noted else noted.feedSuccessors d.wfn o r.tainted).closeCompletion d o

theorem State.completeOp_of_room {s : State} {d : OpDone} {im : Image} {o : OpRec} {r : OpRun} {i : Instance} {t0 : Nat}
    (him : s.gen.running = some im) (ho : im.ops[d.op]? = some o) (hi : (s.advance d.t).inst? d.wfn = some i) (hr : i.ops[d.op]? = some r)
    (hst : r.status = .issued t0) (hroom : ((s.advance d.t).consumeWords d).roomFor im d.produced = true) :
    s.completeOp d = ((s.advance d.t).finishOp im d o r i t0).dispatch o.facet d.t := by
  have him' : (s.advance d.t).gen.running = some im := by rw [(s.advance_bookKeeps d.t).gen, him]
  have ho' : (s.advance d.t).opRec? d.op = some o := by rw [State.opRec?, him', Option.bind_some, ho]
  have hr' : (s.advance d.t).opRun? d.wfn d.op = some r := by rw [State.opRun?_of_inst hi, hr]
  have hkept : ((s.advance d.t).consumeWords d).roomFor im (keptWords d im i) = true :=
    List.all_eq_true.mpr fun p hp => List.all_eq_true.mp hroom p (List.mem_of_mem_filter hp)
  unfold State.consumeWords keptWords at hkept
  simp only [State.completeOp, him', ho', hr', hi, hst, hkept, Bool.not_true, Bool.false_eq_true, if_false]
  rfl

/-- An operation's completion, with its pending decrements, and no run of it left to issue. -/
structure State.Completes (s t : State) (v k : Nat) (l : List (Nat × Nat)) : Prop where
  run : s.RunKeeps t
  decrements : t.sch.decrements = s.sch.decrements ++ l
  completed : (t.opRun? v k).any (fun r => r.status == .completed) = true
  idle : t.noneWaits v k

theorem State.Completes.trans_trace {s t u : State} {v k : Nat} {l : List (Nat × Nat)} (h : s.Completes t v k l) (hu : t.TraceKeeps u) :
    s.Completes u v k l where
  run := h.run.trans hu.toRunKeeps
  decrements := hu.decrements.trans h.decrements
  completed := by rw [State.opRun?_congr hu.instances]; exact h.completed
  idle := State.noneWaits_congr hu.instances h.idle

theorem State.noteMargin_traceKeeps (s : State) (f deadline t : Nat) : s.TraceKeeps (s.noteMargin f deadline t) := by
  have hreg (v : Word) := s.setReg_traceKeeps v (bookReg_margin f)
  unfold State.noteMargin
  dsimp only
  split_ifs
  · exact hreg _
  · exact (hreg _).trans (State.withSch_traceKeeps _ rfl rfl)

theorem State.noteCompletion_completes {s : State} {d : OpDone} {r : OpRun} (hr : s.opRun? d.wfn d.op = some r) (im : Image) (o : OpRec) (t0 since : Nat) :
    s.Completes (s.noteCompletion im d o t0 since) d.wfn d.op [] := by
  have hwatch := s.watchQueue_traceKeeps
  have hdone : s.Completes (s.watchQueue.modOp d.wfn d.op (fun r => { r with status := .completed })) d.wfn d.op [] := by
    refine ⟨hwatch.toRunKeeps.trans (State.modOp_bookKeeps _ _ _ _).toRunKeeps, ?_, ?_, State.noneWaits_modOp_same _ _ _ (fun _ => rfl)⟩
    · rw [List.append_nil]
      exact hwatch.decrements
    · rw [State.opRun?_modOp, if_pos ⟨rfl, rfl⟩, State.opRun?_congr hwatch.instances, hr]
      rfl
  refine hdone.trans_trace (State.TraceKeeps.trans ?_ (State.noteMargin_traceKeeps _ _ _ _))
  exact State.withSch_traceKeeps _ rfl rfl

theorem State.Completes.feedSuccessors {s t : State} {v k : Nat} (h : s.Completes t v k []) (wfn : Nat) (o : OpRec) (tagged : Bool) :
    s.Completes (t.feedSuccessors wfn o tagged) v k (o.succs.map (fun j => (wfn, j))) := by
  obtain ⟨hrun, -, hdec⟩ := t.feedSuccessors_spec wfn o tagged
  refine ⟨h.run.trans hrun, ?_, State.any_opRun?_feedSuccessors (P := fun r => r.status == .completed) (fun _ hr => hr) h.completed wfn o tagged,
    State.noneWaits_feedSuccessors h.idle wfn o tagged⟩
  rw [hdec, h.decrements, List.append_nil]

theorem State.closeCompletion_traceKeeps (s : State) (d : OpDone) (o : OpRec) : s.TraceKeeps (s.closeCompletion d o) :=
  (s.trace_traceKeeps _ _).trans (State.sweepInstance_traceKeeps _ _)

theorem State.finishOp_completes {s : State} {d : OpDone} {i : Instance} {r : OpRun} (hi : s.inst? d.wfn = some i) (hr : i.ops[d.op]? = some r)
    (im : Image) (o : OpRec) (t0 : Nat) :
    s.Completes (s.finishOp im d o r i t0) d.wfn d.op (if i.abandoned then [] else o.succs.map (fun k => (d.wfn, k))) := by
  have hmoved : s.TraceKeeps ((keptWords d im i).foldl (fun z p => z.pushWords im i p) (s.consumeWords d)) :=
    (State.TraceKeeps.foldl (fun z p => z.setQueue_traceKeeps p.1 d.wfn _) d.consumed s).trans
      (.foldl (fun z p => z.pushWords_traceKeeps im i p) _ _)
  have hnoted := State.noteCompletion_completes (by rw [State.opRun?_congr hmoved.instances, State.opRun?_of_inst hi, hr]) im o t0 s.sch.frameAt
  have hdone : s.Completes _ d.wfn d.op [] := ⟨hmoved.toRunKeeps.trans hnoted.run, hnoted.decrements.trans (by rw [hmoved.decrements]),
    hnoted.completed, hnoted.idle⟩
  unfold State.finishOp
  dsimp only
  split_ifs
  · exact hdone.trans_trace (State.closeCompletion_traceKeeps _ d o)
  · exact (hdone.feedSuccessors d.wfn o r.tainted).trans_trace (State.closeCompletion_traceKeeps _ d o)

/-- With no step waiting for the operations still running, a completion is all that happens. -/
theorem exec_operationComplete_of_idle {d : OpDone} {s : State} (hdrain : (s.completeOp d).umb.draining = false)
    (hload : (s.completeOp d).gen.loadDue = false) : exec (.operationComplete d) s = .next (s.completeOp d) := by
  change execOperationComplete d s = _
  simp only [execOperationComplete, hdrain, hload, Bool.false_eq_true, if_false]
  split_ifs
  · rfl
  · split <;> rfl

end Sys2Proof.Machine
end

section
/-! A waiting operation shed, and breaches (R54 to R58). -/
namespace Sys2Proof.Machine

/-! ### SHED_EXPIRY (R56) -/

/-- The operation's run is shed, and tainted. -/
def State.markShed (s : State) (wfn op : Nat) : State := s.modOp wfn op (fun r => { r with status := .shed, tainted := true })

/-- The words in the input queues of a shed operation are discarded. -/
def State.discardInputs (s : State) (im : Image) (wfn : Nat) (o : OpRec) : State :=
  (s.withSch { s.sch with queueWords := s.sch.queueWords.filter (fun w => !((opReads im o).contains w.1 && w.2.1 % 4 == wfn % 4)) }).watchQueue

/-- The trace record of a shedding; then no word outlives its frame's operations. -/
def State.closeShed (s : State) (wfn op : Nat) (o : OpRec) (t : Nat) : State :=
  (s.trace t { time := 0, wfn := wfn % 65536, facet := o.facet, event := 4, cause := 0, object := s.traceObject wfn op, value := 0 }).sweepInstance wfn

theorem State.shedOp_eq (s : State) (im : Image) (wfn op : Nat) (o : OpRec) (t : Nat) :
    s.shedOp im wfn op o t =
      ((((s.markShed wfn op).discardInputs im wfn o).feedSuccessors wfn o true).bump Reg.SCH_SHED 1).closeShed wfn op o t := rfl

theorem State.discardInputs_traceKeeps (s : State) (im : Image) (wfn : Nat) (o : OpRec) : s.TraceKeeps (s.discardInputs im wfn o) := by
  refine State.TraceKeeps.trans ?_ (State.watchQueue_traceKeeps _)
  exact s.withSch_traceKeeps rfl rfl

theorem State.closeShed_traceKeeps (s : State) (wfn op : Nat) (o : OpRec) (t : Nat) : s.TraceKeeps (s.closeShed wfn op o t) :=
  (s.trace_traceKeeps _ _).trans (State.sweepInstance_traceKeeps _ _)

theorem State.setReg_runKeeps (s : State) (a : Nat) (v : Word) : s.RunKeeps (s.setReg a v) := ⟨rfl, rfl, rfl, rfl, rfl⟩

/-- Shedding an operation: its run is shed and tainted, its successors get their decrements, and SCH_SHED counts it. -/
theorem State.shedOp_spec (s : State) (im : Image) (wfn op : Nat) (o : OpRec) (t : Nat) :
    s.RunKeeps (s.shedOp im wfn op o t) ∧
      (s.shedOp im wfn op o t).sch.decrements = s.sch.decrements ++ o.succs.map (fun k => (wfn, k)) ∧
      (∀ a, bookReg a = false → (s.shedOp im wfn op o t).reg a = if Reg.SCH_SHED = a then satAdd (s.reg a) 1 else s.reg a) ∧
      ((s.opRun? wfn op).isSome = true →
        ((s.shedOp im wfn op o t).opRun? wfn op).any (fun r => r.status == .shed && r.tainted) = true) := by
  have hin := (s.modOp_bookKeeps wfn op (fun r => { r with status := .shed, tainted := true })).trans
    ((s.markShed wfn op).discardInputs_traceKeeps im wfn o).toBookKeeps
  obtain ⟨hfeed, hregs, hdec⟩ := ((s.markShed wfn op).discardInputs im wfn o).feedSuccessors_spec wfn o true
  have hclose := ((((s.markShed wfn op).discardInputs im wfn o).feedSuccessors wfn o true).bump Reg.SCH_SHED 1).closeShed_traceKeeps wfn op o t
  rw [State.shedOp_eq]
  refine ⟨?run, ?dec, fun a ha => ?reg, fun hsome => ?shed⟩
  case run => exact ((hin.toRunKeeps.trans hfeed).trans (State.setReg_runKeeps _ _ _)).trans hclose.toRunKeeps
  case dec => rw [hclose.decrements, State.bump_sch, hdec, hin.decrements]
  case reg =>
    have hreg (b : Nat) (hb : bookReg b = false) : (((s.markShed wfn op).discardInputs im wfn o).feedSuccessors wfn o true).reg b = s.reg b :=
      (congrArg (fun l => cellGet resetValue l b) hregs).trans (hin.regs b hb)
    rw [hclose.regs a ha, State.reg_bump, hreg a ha]
    split_ifs with hshed
    · rw [hshed, hreg a ha]
    · rfl
  case shed =>
    obtain ⟨r, hr⟩ := Option.isSome_iff_exists.mp hsome
    have hmark : ((s.markShed wfn op).opRun? wfn op).any (fun r => r.status == .shed && r.tainted) = true := by
      rw [State.markShed, State.opRun?_modOp, if_pos ⟨rfl, rfl⟩, hr]
      rfl
    rw [State.opRun?_congr hclose.instances]
    refine State.any_opRun?_feedSuccessors (P := fun r => r.status == .shed && r.tainted) (fun r hr => ?_) ?_ wfn o true
    · exact Bool.and_eq_true_iff.mpr ⟨(Bool.and_eq_true_iff.mp hr).1, rfl⟩
    · rw [State.opRun?_congr ((s.markShed wfn op).discardInputs_traceKeeps im wfn o).instances]
      exact hmark

theorem exec_shedExpiry_of_waiting {wfn op : Nat} {s : State} {im : Image} {o : OpRec} {r : OpRun} (him : s.gen.running = some im)
    (ho : im.ops[op]? = some o) (hr : (s.advance (shedAt im wfn o)).opRun? wfn op = some r) (hst : r.status = .waiting) :
    exec (.shedExpiry wfn op) s =
      .next (((s.advance (shedAt im wfn o)).shedOp im wfn op o (shedAt im wfn o)).settleDecodes) := by
  have ho' : s.opRec? op = some o := by rw [State.opRec?, him, Option.bind_some, ho]
  change execShedExpiry wfn op s = _
  simp only [execShedExpiry, him, ho', hr, hst, Option.map_some]

/-! ### Breaches (R54, R55) -/

/-- The operation's run is breached, and its frame's operations carry the breach tag (R55). -/
def State.markBreached (s : State) (wfn op : Nat) : State :=
  (s.modOp wfn op (fun r => { r with breached := true, tainted := true })).modInst wfn (fun i => { i with tag := true })

/-- The breach counts in SCH_BRC_TOTAL and in its cause's counter, raises its event and restarts the hold-off. -/
def State.countCause (s : State) (cause : Nat) : State :=
  (((s.bump Reg.SCH_BRC_TOTAL 1).bump (causeReg cause) 1).event 6).restartHoldoff

/-- The first breach since the counters were cleared is recorded. -/
def State.recordFirst (s : State) (o : OpRec) (wfn op cause : Nat) : State :=
  if s.bit Reg.SCH_BRC_FIRST0 Fld.SCH_BRC_FIRST0_VALID then s
  else (s.setNum Reg.SCH_BRC_FIRST0 (op % 2 ^ 20 + (o.facet % 128) * 2 ^ 20 + cause * 2 ^ 27 + 2 ^ 30)).setNum Reg.SCH_BRC_FIRST1 wfn

/-- The facet's BREACHED mark. -/
def State.markFacet (s : State) (f : Nat) : State := s.setReg (Reg.SCH_FCT_MARGIN f) (s.reg (Reg.SCH_FCT_MARGIN f) ||| 0x80000000#32)

/-- The trace record of a breach, and the trigger where the image asks for it. -/
def State.traceBreach (s : State) (o : OpRec) (r : OpRun) (wfn op cause t : Nat) : State :=
  let z := s.trace t { time := 0, wfn := wfn % 65536, facet := o.facet, event := 3, cause := cause, object := s.traceObject wfn op, value := r.counter }
  if z.param 5 1 = 1 then z.traceTrigger else z

theorem State.breach_of_counted {s : State} {wfn op : Nat} {o : OpRec} {r : OpRun} (ho : s.opRec? op = some o) (hr : s.opRun? wfn op = some r)
    (hbr : r.breached = false) (hab : (s.inst? wfn).any (·.abandoned) = false) (hex : s.exempt wfn o = false) (cause t : Nat) :
    s.breach wfn op cause t =
      ((((s.markBreached wfn op).countCause cause).recordFirst o wfn op cause).markFacet o.facet).traceBreach o r wfn op cause t := by
  have hex' : (s.markBreached wfn op).exempt wfn o = false := hex
  unfold State.markBreached at hex'
  simp only [State.breach, ho, hr, hbr, hab, hex', Bool.or_self, Bool.false_eq_true, if_false]
  rfl

theorem State.recordFirst_traceKeeps (s : State) (o : OpRec) (wfn op cause : Nat) : s.TraceKeeps (s.recordFirst o wfn op cause) := by
  unfold State.recordFirst
  split_ifs
  · exact .refl s
  · exact (s.setReg_traceKeeps (a := Reg.SCH_BRC_FIRST0) _ (by decide)).trans (State.setReg_traceKeeps _ (a := Reg.SCH_BRC_FIRST1) _ (by decide))

theorem State.markFacet_traceKeeps (s : State) (f : Nat) : s.TraceKeeps (s.markFacet f) := s.setReg_traceKeeps _ (bookReg_margin f)

theorem State.traceBreach_traceKeeps (s : State) (o : OpRec) (r : OpRun) (wfn op cause t : Nat) : s.TraceKeeps (s.traceBreach o r wfn op cause t) := by
  unfold State.traceBreach
  dsimp only
  split_ifs
  · exact (s.trace_traceKeeps _ _).trans (State.traceTrigger_traceKeeps _)
  · exact s.trace_traceKeeps _ _

/-- The counter of a cause is one of three, none of them SCH_BRC_TOTAL. -/
theorem causeReg_mem (cause : Nat) : causeReg cause ∈ [Reg.SCH_BRC_DEP, Reg.SCH_BRC_BUSY, Reg.SCH_BRC_OVERRUN] := by
  unfold causeReg
  split_ifs <;> simp

theorem causeReg_other (cause : Nat) :
    Reg.SCH_BRC_TOTAL ≠ causeReg cause ∧ Reg.CMD_EVT ≠ causeReg cause ∧ bookReg (causeReg cause) = false := by
  have h : ∀ a ∈ [Reg.SCH_BRC_DEP, Reg.SCH_BRC_BUSY, Reg.SCH_BRC_OVERRUN], Reg.SCH_BRC_TOTAL ≠ a ∧ Reg.CMD_EVT ≠ a ∧ bookReg a = false := by decide
  exact h _ (causeReg_mem cause)

theorem State.reg_countCause (s : State) (cause : Nat) :
    (s.countCause cause).reg Reg.SCH_BRC_TOTAL = satAdd (s.reg Reg.SCH_BRC_TOTAL) 1 ∧
      (s.countCause cause).reg (causeReg cause) = satAdd (s.reg (causeReg cause)) 1 := by
  obtain ⟨htotal, hevt, -⟩ := causeReg_other cause
  rw [State.countCause, State.reg_restartHoldoff, State.reg_restartHoldoff, State.reg_event_other _ _ _ (by decide), State.reg_event_other _ _ _ hevt]
  simp [htotal, htotal.symm]

theorem State.countCause_instances (s : State) (cause : Nat) : (s.countCause cause).sch.instances = s.sch.instances := by
  simp [State.countCause]

theorem State.opRun?_markBreached {s : State} {wfn op : Nat} {r : OpRun} (hr : s.opRun? wfn op = some r) :
    (s.markBreached wfn op).opRun? wfn op = some { r with breached := true, tainted := true } := by
  have hmod : (s.modOp wfn op (fun r => { r with breached := true, tainted := true })).opRun? wfn op =
      some { r with breached := true, tainted := true } := by rw [State.opRun?_modOp, if_pos ⟨rfl, rfl⟩, hr, Option.map_some]
  rw [← hmod, State.opRun?, State.markBreached, State.inst?_modInst _ _ (f := fun i => { i with tag := true }) (fun _ => rfl), State.opRun?]
  cases (s.modOp wfn op (fun r => { r with breached := true, tainted := true })).inst? wfn with
  | none => rfl
  | some i =>
    rw [Option.map_some, Option.bind_some, Option.bind_some]
    split_ifs <;> rfl

/-- A breach that counts: the run is breached, and both counters rise by one. -/
theorem State.breach_counts {s : State} {wfn op : Nat} {o : OpRec} {r : OpRun} {i : Instance} (ho : s.opRec? op = some o)
    (hi : s.inst? wfn = some i) (hr : i.ops[op]? = some r) (hbr : r.breached = false) (hab : i.abandoned = false) (hex : s.exempt wfn o = false)
    (cause t : Nat) :
    (s.breach wfn op cause t).reg Reg.SCH_BRC_TOTAL = satAdd (s.reg Reg.SCH_BRC_TOTAL) 1 ∧
      (s.breach wfn op cause t).reg (causeReg cause) = satAdd (s.reg (causeReg cause)) 1 ∧
      ((s.breach wfn op cause t).opRun? wfn op).any (·.breached) = true := by
  have hr' : s.opRun? wfn op = some r := by rw [State.opRun?_of_inst hi, hr]
  rw [State.breach_of_counted ho hr' hbr (by rw [hi]; exact hab) hex]
  have hkeep := ((((s.markBreached wfn op).countCause cause).recordFirst_traceKeeps o wfn op cause).trans
    (State.markFacet_traceKeeps _ o.facet)).trans (State.traceBreach_traceKeeps _ o r wfn op cause t)
  obtain ⟨htotal, hcause⟩ := (s.markBreached wfn op).reg_countCause cause
  refine ⟨(hkeep.regs _ (by decide)).trans htotal, (hkeep.regs _ (causeReg_other cause).2.2).trans hcause, ?_⟩
  rw [State.opRun?_congr (hkeep.instances.trans (State.countCause_instances _ cause)), State.opRun?_markBreached hr']
  rfl

/-! ### LATEST_START and OPERATION_DEADLINE (R50, R54, R57) -/

theorem State.exempt_congr {s t : State} (h : t.flk = s.flk) (wfn : Nat) (o : OpRec) : t.exempt wfn o = s.exempt wfn o := by
  simp only [State.exempt, State.heldAt, h]

section
variable {wfn op at_ : Nat} {s : State} {im : Image} {o : OpRec} {r : OpRun} {i : Instance} (him : s.gen.running = some im)
  (ho : im.ops[op]? = some o) (hi : (s.advance at_).inst? wfn = some i) (hr : i.ops[op]? = some r)
include him ho

theorem State.opRec?_of_image : s.opRec? op = some o := by rw [State.opRec?, him, Option.bind_some, ho]

include hi hr

/-- A breach counted at an instant wall time has come to, against the counters before it. -/
theorem State.advance_breach_counts (hab : i.abandoned = false) (hbr : r.breached = false) (hex : s.exempt wfn o = false) (cause : Nat) :
    ((s.advance at_).breach wfn op cause at_).reg Reg.SCH_BRC_TOTAL = satAdd (s.reg Reg.SCH_BRC_TOTAL) 1 ∧
      ((s.advance at_).breach wfn op cause at_).reg (causeReg cause) = satAdd (s.reg (causeReg cause)) 1 ∧
      (((s.advance at_).breach wfn op cause at_).opRun? wfn op).any (·.breached) = true := by
  have hadv := s.advance_bookKeeps at_
  have him' : (s.advance at_).gen.running = some im := by rw [hadv.gen, him]
  have hcount := State.breach_counts (State.opRec?_of_image him' ho) hi hr hbr hab (by rw [State.exempt_congr hadv.flk]; exact hex) cause at_
  rwa [hadv.regs _ (by decide), hadv.regs _ (causeReg_other cause).2.2] at hcount

end

theorem exec_latestStart_of_cause {wfn op c : Nat} {s : State} {im : Image} {o : OpRec} {r : OpRun} (him : s.gen.running = some im)
    (ho : im.ops[op]? = some o) (hr : (s.advance (latestStartAt im wfn o)).opRun? wfn op = some r)
    (hc : (s.advance (latestStartAt im wfn o)).startCause im wfn o r = c) (hne : c ≠ 0) :
    exec (.latestStart wfn op) s = .next ((s.advance (latestStartAt im wfn o)).breach wfn op c (latestStartAt im wfn o)) := by
  change execLatestStart wfn op s = _
  simp only [execLatestStart, him, State.opRec?_of_image him ho, hr, hc, if_neg hne]

theorem exec_operationDeadline_of_issued {wfn op t0 : Nat} {s : State} {im : Image} {o : OpRec} {r : OpRun} (him : s.gen.running = some im)
    (ho : im.ops[op]? = some o) (hr : (s.advance (overrunAt im wfn o)).opRun? wfn op = some r) (hst : r.status = .issued t0) :
    exec (.operationDeadline wfn op) s = .next ((s.advance (overrunAt im wfn o)).breach wfn op 3 (overrunAt im wfn o)) := by
  change execOperationDeadline wfn op s = _
  simp only [execOperationDeadline, him, State.opRec?_of_image him ho, hr, hst, Option.map_some]

/-- DEP: the counter is not 0, or came to 0 in this nanosecond. -/
theorem State.startCause_dep {s : State} {im : Image} {wfn : Nat} {o : OpRec} {r : OpRun}
    (h : zeroAtStart im wfn o r = true ∨ (r.status = .waiting ∧ r.counter ≠ 0)) : s.startCause im wfn o r = 1 := by
  unfold State.startCause
  by_cases hz : zeroAtStart im wfn o r = true
  · rw [if_pos hz]
  · obtain ⟨hst, hc⟩ := h.resolve_left hz
    rw [if_neg hz]
    simp only [hst, if_pos hc]

/-- BUSY: ready, on a facet that is occupied or paused. -/
theorem State.startCause_busy {s : State} {im : Image} {wfn : Nat} {o : OpRec} {r : OpRun} (hz : zeroAtStart im wfn o r = false)
    (hst : r.status = .waiting) (hc : r.counter = 0)
    (h : s.facetBusy im o.facet = true ∨ s.paused (o.facet / 4) (latestStartAt im wfn o) = true) : s.startCause im wfn o r = 2 := by
  simp only [State.startCause, hz, hst, hc, Bool.or_eq_true, if_pos h, ne_eq, not_true_eq_false, Bool.false_eq_true, if_false]

/-! ### The statement -/

/-- Settles O5: a completion keeps its decrements through the dispatch that follows it, and a breach counts once through its trace. -/
theorem completionsFeedAndBreachesCount : Obligations.CompletionsFeedAndBreachesCount := by
  refine ⟨fun d s im o r i t0 him ho hi hr hst hroom hdrain hload => ?complete, fun wfn op s im o r him ho hr hst => ?shed,
    fun wfn op s im o r i him ho hi hr hab hbr hex => ⟨fun hdep => ?dep, fun hz hst hc hbusy => ?busy⟩,
    fun wfn op t0 s im o r i him ho hi hr hab hst hbr hex => ?overrun⟩
  case complete =>
    have hadv := s.advance_bookKeeps d.t
    have hdone := State.finishOp_completes hi hr im o t0
    have heq := State.completeOp_of_room him ho hi hr hst hroom
    have hdisp := ((s.advance d.t).finishOp im d o r i t0).dispatch_bookKeeps o.facet d.t
    have hrun := (hadv.toRunKeeps.trans hdone.run).trans hdisp.toRunKeeps
    refine ⟨_, exec_operationComplete_of_idle (by rw [heq, hrun.umb, hdrain]) (by rw [heq, hrun.gen, hload]), ?_, ?_⟩
    · have hstatus := hdone.completed
      rw [heq, State.opRun?_dispatch hdone.idle]
      cases hx : ((s.advance d.t).finishOp im d o r i t0).opRun? d.wfn d.op with
      | none => rw [hx] at hstatus; cases hstatus
      | some x => rw [hx] at hstatus; exact congrArg some (eq_of_beq hstatus)
    · rw [heq, hdisp.decrements, hdone.decrements, hadv.decrements]
  case shed =>
    have hadv := s.advance_bookKeeps (shedAt im wfn o)
    obtain ⟨-, hdec, hreg, hrun⟩ := (s.advance (shedAt im wfn o)).shedOp_spec im wfn op o (shedAt im wfn o)
    have hset := ((s.advance (shedAt im wfn o)).shedOp im wfn op o (shedAt im wfn o)).settleDecodes_traceKeeps
    refine ⟨_, exec_shedExpiry_of_waiting him ho hr hst, ?_, ?_, ?_⟩
    · rw [State.opRun?_congr hset.instances]
      exact hrun (by rw [hr]; rfl)
    · rw [hset.decrements, hdec, hadv.decrements]
    · rw [hset.regs _ (by decide), hreg _ (by decide), if_pos rfl, hadv.regs _ (by decide)]
  case dep =>
    exact ⟨_, exec_latestStart_of_cause him ho (by rw [State.opRun?_of_inst hi, hr]) (State.startCause_dep hdep) (by decide),
      State.advance_breach_counts him ho hi hr hab hbr hex 1⟩
  case busy =>
    exact ⟨_, exec_latestStart_of_cause him ho (by rw [State.opRun?_of_inst hi, hr]) (State.startCause_busy hz hst hc hbusy) (by decide),
      State.advance_breach_counts him ho hi hr hab hbr hex 2⟩
  case overrun =>
    exact ⟨_, exec_operationDeadline_of_issued him ho (by rw [State.opRun?_of_inst hi, hr]) hst,
      State.advance_breach_counts him ho hi hr hab hbr hex 3⟩

end Sys2Proof.Machine
end

section
/-! What leaves the running image alone (R323 to R328): deliveries, the stream writes that end the pair's agreement, the lamp and the boot's
training change neither the image, the schedule, the trust state nor Umbra. -/
namespace Sys2Proof.Machine

/-! ### What is kept -/

/-- The registers that say which image runs and how: those of the GEN, FLK, UMB and TRU blocks. -/
def imageReg (a : Nat) : Bool := decide (a < 0x10000 ∨ (0xA0000 ≤ a ∧ a < 0xB0000) ∨ (0x100000 ≤ a ∧ a < 0x120000))

/-- The running image with its parameters, the schedule, the trust state, Umbra, and their registers. -/
structure State.ImageKeeps (s t : State) : Prop where
  gen : t.gen = s.gen
  sch : t.sch = s.sch
  tru : t.tru = s.tru
  umb : t.umb = s.umb
  regs : ∀ a, imageReg a = true → t.reg a = s.reg a

theorem State.ImageKeeps.refl (s : State) : s.ImageKeeps s := ⟨rfl, rfl, rfl, rfl, fun _ _ => rfl⟩

theorem State.ImageKeeps.trans {s t u : State} (h : s.ImageKeeps t) (k : t.ImageKeeps u) : s.ImageKeeps u :=
  ⟨k.gen.trans h.gen, k.sch.trans h.sch, k.tru.trans h.tru, k.umb.trans h.umb, fun a ha => (k.regs a ha).trans (h.regs a ha)⟩

theorem State.ImageKeeps.withCdc {s t : State} (h : s.ImageKeeps t) (x : CdcSt) : s.ImageKeeps { t with cdc := x } :=
  h.trans ⟨rfl, rfl, rfl, rfl, fun _ _ => rfl⟩
theorem State.ImageKeeps.withRed {s t : State} (h : s.ImageKeeps t) (x : RedSt) : s.ImageKeeps { t with red := x } :=
  h.trans ⟨rfl, rfl, rfl, rfl, fun _ _ => rfl⟩

theorem State.ImageKeeps.foldl {α : Type} {f : State → α → State} (h : ∀ (s : State) a, s.ImageKeeps (f s a)) (l : List α) (s : State) :
    s.ImageKeeps (l.foldl f s) := by
  induction l generalizing s with
  | nil => exact .refl s
  | cons a l ih => exact (h s a).trans (ih (f s a))

theorem State.ImageKeeps.foldl_fst {α β : Type} {f : State × β → α → State × β} (h : ∀ (z : State × β) a, z.1.ImageKeeps (f z a).1)
    (l : List α) (z : State × β) : z.1.ImageKeeps (l.foldl f z).1 := by
  induction l generalizing z with
  | nil => exact .refl z.1
  | cons a l ih => exact (h z a).trans (ih (f z a))

theorem State.setReg_imageKeeps (s : State) {a : Nat} (v : Word) (h : imageReg a = false) : s.ImageKeeps (s.setReg a v) := by
  refine ⟨rfl, rfl, rfl, rfl, fun b hb => ?_⟩
  rw [State.reg_setReg, if_neg]
  rintro rfl
  rw [h] at hb
  cases hb

theorem State.event_imageKeeps (s : State) (n : Nat) : s.ImageKeeps (s.event n) :=
  ⟨by simp, by simp, by simp, by simp, fun a ha => s.reg_event_other n a (by rintro rfl; revert ha; decide)⟩

/-- A register of the blocks between, by its place in the map (Table 0.8). -/
theorem imageReg_of_between {a : Nat} (h : (0x10000 ≤ a ∧ a < 0xA0000) ∨ (0xB0000 ≤ a ∧ a < 0x100000)) : imageReg a = false := by
  simp only [imageReg, decide_eq_false_iff_not]
  omega

theorem imageReg_strCtrl (k : Nat) : imageReg (Reg.ING_STR_CTRL k) = false := imageReg_of_between (by simp only [Reg.ING_STR_CTRL]; omega)
theorem imageReg_chStat (c : Nat) : imageReg (Reg.CDC_CH_STAT c) = false := imageReg_of_between (by simp only [Reg.CDC_CH_STAT]; omega)

/-! ### Answers and completion records (R348, R352) -/

theorem State.cqWrite_imageKeeps (s : State) (r : Response) : s.ImageKeeps (s.cqWrite r) := by
  refine State.ImageKeeps.trans ?_ (State.event_imageKeeps _ 0)
  refine State.ImageKeeps.trans ?_ (State.setReg_imageKeeps _ (a := Reg.CMD_CQ_TAIL) _ (by decide))
  split <;> exact ⟨rfl, rfl, rfl, rfl, fun _ _ => rfl⟩

theorem State.mgmtSend_imageKeeps (s : State) (k : Nat) (b : List Byte) : s.ImageKeeps (s.mgmtSend k b) := by
  unfold State.mgmtSend
  split
  · exact .refl s
  · exact ⟨rfl, rfl, rfl, rfl, fun _ _ => rfl⟩

theorem State.respond_imageKeeps (s : State) (p : MboxPath) (r : Response) : s.ImageKeeps (s.respond p r) := by
  have hseg : s.ImageKeeps s.nextSeg := ⟨rfl, rfl, rfl, rfl, fun _ _ => rfl⟩
  cases p with
  | pcie =>
    change s.ImageKeeps (s.pcieRespond r)
    unfold State.pcieRespond
    split_ifs
    · exact .refl s
    · exact s.cqWrite_imageKeeps r
    · exact ⟨rfl, rfl, rfl, rfl, fun _ _ => rfl⟩
  | spi =>
    refine State.ImageKeeps.trans ?_ (State.setReg_imageKeeps _ (a := Reg.CMD_SPI_CTRL) _ (by decide))
    exact ⟨rfl, rfl, rfl, rfl, fun _ _ => rfl⟩
  | mgmt k => exact hseg.trans (.foldl (fun z b => z.mgmtSend_imageKeeps k b) _ _)
  | chain side tag =>
    have hsend (z : State) (b : List Byte) : z.ImageKeeps (z.tileSend Msg.MBOX_RSP side tag b) := ⟨rfl, rfl, rfl, rfl, fun _ _ => rfl⟩
    refine State.ImageKeeps.trans ?_ (.foldl hsend _ _)
    split <;> exact ⟨rfl, rfl, rfl, rfl, fun _ _ => rfl⟩

theorem State.answer_imageKeeps (s : State) (op : Nat) (c : MboxCmd) (r : Reply) : s.ImageKeeps (s.answer op c r) := s.respond_imageKeeps c.path _

theorem State.longEnd_imageKeeps (s : State) (tok status detail : Nat) (aborted : Bool) : s.ImageKeeps (s.longEnd tok status detail aborted) := by
  unfold State.longEnd
  split
  · exact .refl s
  · refine State.ImageKeeps.trans ?_ (State.event_imageKeeps _ 1)
    split
    · exact ⟨rfl, rfl, rfl, rfl, fun _ _ => rfl⟩
    · exact ⟨rfl, rfl, rfl, rfl, fun _ _ => rfl⟩
    next p _ _ =>
      refine State.ImageKeeps.trans ?_ (State.respond_imageKeeps _ p _)
      exact ⟨rfl, rfl, rfl, rfl, fun _ _ => rfl⟩

/-! ### Samples and bricks (R100 to R104) -/

theorem State.dramWrite_imageKeeps (s : State) (a : Nat) (bs : List Byte) : s.ImageKeeps (s.dramWrite a bs) :=
  ⟨rfl, rfl, rfl, rfl, fun _ _ => rfl⟩

theorem State.putSample_imageKeeps (s : State) (v : Surface) (c x y val : Nat) : s.ImageKeeps (s.putSample v c x y val) := by
  unfold State.putSample
  dsimp only
  split_ifs
  · exact s.dramWrite_imageKeeps _ _
  · exact s.dramWrite_imageKeeps _ _

theorem State.writeBrick_imageKeeps (s : State) (v : Surface) (bx by' : Nat) (x : Nat → Nat → Nat → Nat) :
    s.ImageKeeps (s.writeBrick v bx by' x) := by
  unfold State.writeBrick
  dsimp only
  split_ifs
  · refine State.ImageKeeps.trans ?_ (State.dramWrite_imageKeeps _ _ _)
    exact .foldl (fun z p => .foldl (fun y k => y.putSample_imageKeeps _ _ _ _ _) _ z) _ s
  · exact (s.dramWrite_imageKeeps _ _).trans (State.dramWrite_imageKeeps _ _ _)

theorem State.codeFillBrick_imageKeeps (s : State) (v : Surface) (z : Fill) (bx by' : Nat) (x : Nat → Nat → Nat → Nat) :
    s.ImageKeeps (s.codeFillBrick v z bx by' x).1 := s.writeBrick_imageKeeps v bx by' x

theorem State.readBricks_imageKeeps (s : State) (v : Surface) (bricks : List Nat) : s.ImageKeeps (s.readBricks v bricks) :=
  s.setReg_imageKeeps (a := Reg.CMP_PACK_ERR) _ (by decide)

theorem State.padEdges_imageKeeps (s : State) (v : Surface) : s.ImageKeeps (s.padEdges v) :=
  .foldl (fun z _ => .foldl (fun y _ => .foldl (fun x _ => x.putSample_imageKeeps _ _ _ _ _) _ y) _ z) _ s

theorem State.writeRows_imageKeeps (s : State) (v : Surface) (f : Fill) (payload : List Byte) : s.ImageKeeps (s.writeRows v f payload).1 := by
  unfold State.writeRows
  dsimp only
  split_ifs
  · exact .foldl (fun z q => z.putSample_imageKeeps _ _ _ _ _) _ s
  · refine State.ImageKeeps.foldl_fst (fun z b => ?_) _ (s, _)
    split_ifs
    · exact State.codeFillBrick_imageKeeps _ _ _ _ _ _
    · exact .refl z.1

theorem State.patchPicture_imageKeeps (s : State) (v : Surface) (f : Fill) (prev : Option Surface) : s.ImageKeeps (s.patchPicture v f prev) := by
  unfold State.patchPicture
  extract_lets old bricks gaps s0
  have hread : s.ImageKeeps s0 := by
    unfold s0
    split
    · split_ifs
      · exact s.readBricks_imageKeeps _ _
      · exact .refl s
    · exact .refl s
  split_ifs
  · refine hread.trans (State.ImageKeeps.foldl_fst (fun z b => ?_) _ (s0, _))
    exact State.codeFillBrick_imageKeeps _ _ _ _ _ _
  · refine hread.trans (.foldl (fun z c => .foldl (fun y k => ?_) _ z) _ s0)
    dsimp only
    split_ifs
    · exact .refl y
    · exact y.putSample_imageKeeps _ _ _ _ _

/-! ### Pictures of a stream (R71, R85, R88, R120) -/

/-- Receive states, surfaces, pictures and the pair's record of promotions are no part of the image. -/
theorem State.setStream_imageKeeps (s : State) (x : StreamSt) : s.ImageKeeps (s.setStream x) := ⟨rfl, rfl, rfl, rfl, fun _ _ => rfl⟩
theorem State.modStream_imageKeeps (s : State) (str : Nat) (f : StreamSt → StreamSt) : s.ImageKeeps (s.modStream str f) := s.setStream_imageKeeps _
theorem State.modSurface_imageKeeps (s : State) (h : Nat) (f : Surface → Surface) : s.ImageKeeps (s.modSurface h f) :=
  ⟨rfl, rfl, rfl, rfl, fun _ _ => rfl⟩

theorem State.stillCheck_imageKeeps (s : State) (str : Nat) (v : Surface) (t : Nat) : s.ImageKeeps (s.stillCheck str v t) := by
  have hstat (k : Nat) : imageReg (Reg.CMP_STILL_STAT k) = false := imageReg_of_between (by simp only [Reg.CMP_STILL_STAT]; omega)
  unfold State.stillCheck
  extract_lets old now s0 m cfg st low run was is s1 x cmp s2
  have hread : s.ImageKeeps s0 := by
    unfold s0
    split_ifs
    · exact s.readBricks_imageKeeps _ _
    · exact .refl s
  have hnote : s.ImageKeeps s2 := (hread.trans (s0.setReg_imageKeeps _ (hstat str))).trans ⟨rfl, rfl, rfl, rfl, fun _ _ => rfl⟩
  split_ifs
  · exact (hnote.trans (s2.setReg_imageKeeps (a := Reg.CMP_STILL_EVT) _ (by decide))).trans (State.event_imageKeeps _ 3)
  · exact hnote

theorem State.promotePicture_imageKeeps (s : State) (str h rtp : Nat) (patched : Bool) (t : Nat) :
    s.ImageKeeps (s.promotePicture str h rtp patched t) := by
  have hpic (k : Nat) : imageReg (Reg.ING_STR_LASTPIC k) = false := imageReg_of_between (by simp only [Reg.ING_STR_LASTPIC]; omega)
  unfold State.promotePicture
  extract_lets s1 s2
  have hset : s.ImageKeeps s2 := by
    refine State.ImageKeeps.trans ?_ (State.modSurface_imageKeeps _ _ _)
    refine State.ImageKeeps.trans ?_ (State.setReg_imageKeeps _ _ (hpic str))
    exact ⟨rfl, rfl, rfl, rfl, fun _ _ => rfl⟩
  split
  · exact hset
  · exact hset.trans (s2.stillCheck_imageKeeps _ _ _)

theorem State.endPicture_imageKeeps (s : State) (str last t : Nat) : s.ImageKeeps (s.endPicture str last t) := by
  have hlost (k : Nat) : imageReg (Reg.ING_STR_LOST k) = false := imageReg_of_between (by simp only [Reg.ING_STR_LOST]; omega)
  have hpatch (k : Nat) : imageReg (Reg.ING_STR_PATCH k) = false := imageReg_of_between (by simp only [Reg.ING_STR_PATCH]; omega)
  have hskip (k : Nat) : imageReg (Reg.CDC_CH_SKIPPED k) = false := imageReg_of_between (by simp only [Reg.CDC_CH_SKIPPED]; omega)
  unfold State.endPicture
  extract_lets x s1 cdc
  split
  · exact .refl s
  next f _ =>
    extract_lets total
    have hend : s.ImageKeeps s1 := (s.setStream_imageKeeps _).trans (State.setReg_imageKeeps _ _ (imageReg_strCtrl str))
    split
    · split
      · exact hend.trans (s1.setReg_imageKeeps _ (hlost str))
      · split_ifs
        · exact hend.trans (s1.promotePicture_imageKeeps _ _ _ _ _)
        · exact ((hend.trans (s1.patchPicture_imageKeeps _ _ _)).trans (State.promotePicture_imageKeeps _ _ _ _ _ _)).trans
            (State.setReg_imageKeeps _ _ (hpatch str))
        · exact hend.trans (s1.setReg_imageKeeps _ (hlost str))
    · split
      · exact hend.trans (s1.setReg_imageKeeps _ (hskip str))
      · exact hend.withCdc _

theorem State.startPicture_imageKeeps (s : State) (str : Nat) (p : HeldPacket) : s.ImageKeeps (s.startPicture str p) := by
  unfold State.startPicture
  extract_lets x tgt gap own f s1
  have hset : s.ImageKeeps s1 := s.setStream_imageKeeps _
  split
  · split_ifs
    · exact hset.trans (s1.padEdges_imageKeeps _)
    · exact hset
  · exact hset

theorem State.codecErr_imageKeeps (s : State) (c code : Nat) : s.ImageKeeps (s.codecErr c code) :=
  (s.setReg_imageKeeps _ (imageReg_chStat c)).trans (State.setReg_imageKeeps _ (a := Reg.CDC_ERR_EVT) _ (by decide))

theorem State.writeInto_imageKeeps (s : State) (str : Nat) (f : Fill) (p : HeldPacket) : s.ImageKeeps (s.writeInto str f p) := by
  have hrx (k : Nat) : imageReg (Reg.ING_STR_RX k) = false := imageReg_of_between (by simp only [Reg.ING_STR_RX]; omega)
  have hwrote (z : State) : z.ImageKeeps ((z.bump (Reg.ING_STR_RX str) 1).putBit (Reg.ING_STR_CTRL str) Fld.ING_STR_CTRL_ACTIVE true) :=
    (z.setReg_imageKeeps _ (hrx str)).trans (State.setReg_imageKeeps _ _ (imageReg_strCtrl str))
  unfold State.writeInto
  extract_lets g wrote put
  have hput (z : State) (x : Fill) : z.ImageKeeps (put z x) := z.modStream_imageKeeps _ _
  split_ifs
  · split
    · exact hput s g
    · dsimp only
      split_ifs
      · exact (hput s _).trans (State.setReg_imageKeeps _ (a := Reg.ING_DROP 4) _ (by decide))
      · exact ((s.writeRows_imageKeeps _ g _).trans (hput _ _)).trans (hwrote _)
  · exact hput s g
  · exact ((hput s _).trans (State.codecErr_imageKeeps _ str 7)).withCdc _
  · exact ((hput s _).trans (State.codecErr_imageKeeps _ str 7)).withCdc _
  · exact (hput s _).trans (hwrote _)

theorem State.writePacket_imageKeeps (s : State) (str : Nat) (p : HeldPacket) (t : Nat) : s.ImageKeeps (s.writePacket str p t) := by
  unfold State.writePacket
  extract_lets s1 s2 s3
  have hfirst : s.ImageKeeps s1 := by
    unfold s1
    split
    · split_ifs
      · exact s.endPicture_imageKeeps _ _ _
      · exact .refl s
    · exact .refl s
  have hstart : s1.ImageKeeps s2 := by
    unfold s2
    split_ifs
    · exact s1.startPicture_imageKeeps _ _
    · exact .refl s1
  have hwrite : s2.ImageKeeps s3 := by
    unfold s3
    split
    · exact .refl s2
    · exact s2.writeInto_imageKeeps _ _ _
  have hall := (hfirst.trans hstart).trans hwrite
  split_ifs
  · exact hall.trans (s3.endPicture_imageKeeps _ _ _)
  · exact hall

/-! ### Streams enabled and disabled (R70, R76) -/

theorem State.stopChannel_imageKeeps (s : State) (c : Nat) : s.ImageKeeps (s.stopChannel c) := by
  have hmark (k : Nat) : imageReg (Reg.CDC_CH_POOLMARK k) = false := imageReg_of_between (by simp only [Reg.CDC_CH_POOLMARK]; omega)
  unfold State.stopChannel
  extract_lets s1
  have hpool (p : PoolState) : s1.ImageKeeps (s1.setPool p) := by
    refine State.ImageKeeps.trans ?_ (State.setReg_imageKeeps _ _ (hmark p.channel))
    exact ⟨rfl, rfl, rfl, rfl, fun _ _ => rfl⟩
  exact ((s.setReg_imageKeeps _ (imageReg_chStat c)).trans (hpool _)).withCdc _

theorem State.streamStop_imageKeeps (s : State) (str : Nat) : s.ImageKeeps (s.streamStop str) :=
  ((s.setReg_imageKeeps _ (imageReg_strCtrl str)).trans (State.setStream_imageKeeps _ _)).trans (State.stopChannel_imageKeeps _ str)

theorem State.startChannel_imageKeeps (s : State) (c : Nat) : s.ImageKeeps (s.startChannel c) := by
  unfold State.startChannel
  split
  · exact .refl s
  · extract_lets wants others live err dmg s1 cdc s2
    have hset : s.ImageKeeps s2 := (s.setReg_imageKeeps _ (imageReg_chStat c)).withCdc _
    split_ifs
    · exact (hset.trans (s2.setReg_imageKeeps _ (imageReg_chStat c))).trans (State.codecErr_imageKeeps _ c 9)
    · exact hset

theorem State.streamStart_imageKeeps (s : State) (str : Nat) : s.ImageKeeps (s.streamStart str) :=
  ((s.setReg_imageKeeps _ (imageReg_strCtrl str)).trans (State.setStream_imageKeeps _ _)).trans (State.startChannel_imageKeeps _ str)

theorem imageReg_of_streamReg {a : Nat} (h : streamReg a = true) : imageReg a = false := by
  simp only [streamReg, inRange, Bool.and_eq_true, decide_eq_true_eq] at h
  obtain ⟨⟨hlo, hhi⟩, -⟩ := h
  simp only [Reg.ING_STR_CTRL, Reg.ING_STR_SURF23] at hlo hhi
  exact imageReg_of_between (by omega)

theorem State.copyStreamReg_imageKeeps (s : State) (a : Nat) (data : Word) : s.ImageKeeps (s.copyStreamReg a data) := by
  unfold State.copyStreamReg
  extract_lets str own
  split_ifs with hreg
  · exact .refl s
  all_goals
    have ha : imageReg a = false := imageReg_of_streamReg (by simpa using hreg)
  · exact s.setReg_imageKeeps _ ha
  · exact s.setReg_imageKeeps _ ha
  · exact (s.setReg_imageKeeps _ ha).trans (State.streamStop_imageKeeps _ str)
  · exact (s.setReg_imageKeeps _ ha).trans (State.streamStart_imageKeeps _ str)
  · exact s.setReg_imageKeeps _ ha

/-! ### The pair's agreement ends (R72, R76, R89, R280, R293) -/

theorem State.settlePresent_imageKeeps (s : State) (str : Nat) (p : HeldPacket) (t : Nat) : s.ImageKeeps (s.settlePresent str p t) :=
  (s.modStream_imageKeeps _ _).trans (State.writePacket_imageKeeps _ _ _ _)

theorem State.writeInOrder_imageKeeps (s : State) (str t n : Nat) : s.ImageKeeps (s.writeInOrder str t n) := by
  induction n generalizing s with
  | zero => exact .refl s
  | succ n ih =>
    rw [State.writeInOrder]
    split
    · exact (s.settlePresent_imageKeeps _ _ _).trans (ih _)
    · split
      · exact (s.modStream_imageKeeps _ _).trans (ih _)
      · exact .refl s

theorem State.promoteWritten_imageKeeps (s : State) (w : WrittenPic) (t : Nat) : s.ImageKeeps (s.promoteWritten w t) := by
  have hlast (k : Nat) : imageReg (Reg.CDC_CH_LASTPIC k) = false := imageReg_of_between (by simp only [Reg.CDC_CH_LASTPIC]; omega)
  exact ((s.promotePicture_imageKeeps _ _ _ _ _).trans (State.setReg_imageKeeps _ _ (hlast w.channel))).trans
    (State.setReg_imageKeeps _ _ (imageReg_chStat w.channel))

theorem State.endAgreement_imageKeeps (s : State) : s.ImageKeeps s.endAgreement := by
  have happly (z : State) (x : Settle) : z.ImageKeeps (Settle.apply z x) := by
    cases x with
    | verdict => exact .refl z
    | table a d => exact z.copyStreamReg_imageKeeps a d
  unfold State.endAgreement State.promoteAll
  extract_lets drain cdc s1
  have hdrain (z : State) (str : Nat) : z.ImageKeeps (drain z str) := by
    unfold drain
    dsimp only
    split_ifs
    · exact .refl z
    · exact ((z.modStream_imageKeeps _ _).trans (.foldl happly _ _)).trans (State.writeInOrder_imageKeeps _ _ _ _)
  have hcut : s.ImageKeeps s1 := (State.ImageKeeps.foldl hdrain _ s).withCdc _
  exact hcut.trans (.foldl (fun z w => z.promoteWritten_imageKeeps w _) _ _)

theorem State.setRed_imageKeeps (s : State) (w : Word) : s.ImageKeeps (s.setRed w) := by
  unfold State.setRed
  dsimp only
  split_ifs
  · exact .refl s
  · exact (s.setReg_imageKeeps (a := Reg.RED_STATE) _ (by decide)).trans (State.event_imageKeeps _ 5)

theorem State.applyFlag_imageKeeps (s : State) : s.ImageKeeps s.applyFlag := by
  have hsync (z : State) : z.ImageKeeps z.syncControl := by
    have hred := z.setRed_imageKeeps
    unfold State.syncControl
    dsimp only
    split_ifs
    · exact (hred _).withCdc _
    · exact hred _
  have hcold (z : State) : z.ImageKeeps z.coldTakeover := by
    unfold State.coldTakeover
    split
    · exact .refl z
    · refine State.ImageKeeps.trans ?_ (State.setRed_imageKeeps _ _)
      exact ⟨rfl, rfl, rfl, rfl, fun _ _ => rfl⟩
  unfold State.applyFlag
  extract_lets want a s1
  refine State.ImageKeeps.trans ?_ (hsync s1)
  unfold s1
  have hact (v : Word) : s.ImageKeeps ((s.setRed v).bump Reg.RED_SWITCHES 1) :=
    (s.setRed_imageKeeps v).trans (State.setReg_imageKeeps _ (a := Reg.RED_SWITCHES) _ (by decide))
  split_ifs
  · exact .refl s
  · exact hact _
  · exact (hact _).trans (hcold _)
  · exact hact _
  · exact (hact _).trans (State.setRed_imageKeeps _ _)

theorem State.unform_imageKeeps (s : State) : s.ImageKeeps s.unform := by
  have hhealth (z : State) : z.ImageKeeps z.syncHealth := by
    have hreg := z.setReg_imageKeeps (a := Reg.RED_HEALTH) z.healthWord (by decide)
    unfold State.syncHealth
    dsimp only
    split_ifs
    · exact hreg.trans (State.event_imageKeeps _ 5)
    · exact hreg
  refine State.ImageKeeps.trans ?_ (hhealth _)
  refine State.ImageKeeps.trans ?_ (State.applyFlag_imageKeeps _)
  refine State.ImageKeeps.trans ?_ (State.endAgreement_imageKeeps _)
  exact ((s.setRed_imageKeeps _).trans (State.setReg_imageKeeps _ (a := Reg.TIM_PAIR_OFFSET) _ (by decide))).withRed _

theorem State.sendLeave_imageKeeps (s : State) (cause : Nat) : s.ImageKeeps (s.sendLeave cause) := by
  have hfail (z : State) (k : Nat) : z.ImageKeeps (z.failJoin k) := by
    refine State.ImageKeeps.trans ?_ (State.unform_imageKeeps _)
    exact ((z.setReg_imageKeeps (a := Reg.RED_JOIN_FAIL) _ (by decide)).trans (State.setRed_imageKeeps _ _)).withRed _
  have hend (z : State) (k : Nat) : z.ImageKeeps (z.lockstepEnd k) := by
    unfold State.lockstepEnd
    split_ifs
    · exact hfail z k
    · exact z.unform_imageKeeps
    · exact .refl z
  have hlink (z : State) (r : LinkRecord) : z.ImageKeeps (z.sendLink r) := by
    unfold State.sendLink
    split_ifs
    · exact ⟨rfl, rfl, rfl, rfl, fun _ _ => rfl⟩
    · exact .refl z
  unfold State.sendLeave
  split_ifs
  · exact .refl s
  all_goals
    exact ((hlink s _).trans (State.setReg_imageKeeps _ (a := Reg.RED_LEAVE) _ (by decide))).trans (hend _ _)

end Sys2Proof.Machine
end

section
/-! What an image's load and the wait for time change (R36, R37, R325 to R327). -/
namespace Sys2Proof.Machine

/-! ### Registers read back -/

theorem State.get_put_same (s : State) (a : Nat) (f : Field) (v : Nat) (h : f.lo + f.len ≤ 32) : (s.put a f v).get a f = v % 2 ^ f.len := by
  rw [State.get, State.reg_put, if_pos rfl, fieldOf_putField_same _ _ _ _ h]

theorem State.get_put_other (s : State) {a b : Nat} (h : a ≠ b) (f g : Field) (v : Nat) : (s.put a f v).get b g = s.get b g := by
  rw [State.get, State.reg_put, if_neg h, State.get]

theorem State.ImageKeeps.get {s t : State} (h : s.ImageKeeps t) (a : Nat) (f : Field) (ha : imageReg a = true) : t.get a f = s.get a f :=
  congrArg (fieldOf · f.lo f.len) (h.regs a ha)

/-! ### The lamp and the calibration's copy (R216, R230, R241) -/

/-- What the lamp and the calibration's copy leave besides: the surfaces, the streams and DRAM. -/
structure State.LampKeeps (s t : State) : Prop extends s.ImageKeeps t where
  dram : t.dram = s.dram
  cmp : t.cmp = s.cmp
  ing : t.ing = s.ing

theorem State.LampKeeps.refl (s : State) : s.LampKeeps s := ⟨.refl s, rfl, rfl, rfl⟩

theorem State.LampKeeps.trans {s t u : State} (h : s.LampKeeps t) (k : t.LampKeeps u) : s.LampKeeps u :=
  ⟨h.toImageKeeps.trans k.toImageKeeps, k.dram.trans h.dram, k.cmp.trans h.cmp, k.ing.trans h.ing⟩

theorem State.LampKeeps.withLmp {s t : State} (h : s.LampKeeps t) (x : LmpSt) : s.LampKeeps { t with lmp := x } :=
  h.trans ⟨⟨rfl, rfl, rfl, rfl, fun _ _ => rfl⟩, rfl, rfl, rfl⟩

theorem State.LampKeeps.withLmpMet {s t : State} (h : s.LampKeeps t) (x : LmpSt) (y : MetSt) : s.LampKeeps { t with lmp := x, met := y } :=
  h.trans ⟨⟨rfl, rfl, rfl, rfl, fun _ _ => rfl⟩, rfl, rfl, rfl⟩

theorem State.LampKeeps.withEmc {s t : State} (h : s.LampKeeps t) (x : EmcSt) : s.LampKeeps { t with emc := x } :=
  h.trans ⟨⟨rfl, rfl, rfl, rfl, fun _ _ => rfl⟩, rfl, rfl, rfl⟩

theorem State.LampKeeps.emit {s t : State} (h : s.LampKeeps t) (o : Output) : s.LampKeeps (t.emit o) :=
  h.trans ⟨⟨rfl, rfl, rfl, rfl, fun _ _ => rfl⟩, rfl, rfl, rfl⟩

theorem State.setReg_lampKeeps (s : State) {a : Nat} (v : Word) (h : imageReg a = false) : s.LampKeeps (s.setReg a v) :=
  ⟨s.setReg_imageKeeps v h, rfl, rfl, rfl⟩

theorem State.setBlank_lampKeeps (s : State) (n : Nat) (on : Bool) (t : Nat) : s.LampKeeps (s.setBlank n on t) := by
  unfold State.setBlank
  extract_lets w w1 w2 was s1 s2
  have hset : s.LampKeeps s2 := (s.setReg_lampKeeps (a := Reg.LMP_BLANK_SRC) _ (by decide)).trans
    (State.setReg_lampKeeps _ (a := Reg.LMP_STATE) _ (by decide))
  have hcount : s.LampKeeps (s2.bump Reg.LMP_BLANK_EVT 1) := hset.trans (State.setReg_lampKeeps _ (a := Reg.LMP_BLANK_EVT) _ (by decide))
  split_ifs
  · exact .refl s
  · exact hset
  · exact (hcount.withLmp _).emit _
  · exact hset
  · exact hset.withLmp _

theorem State.driveLanes_lampKeeps (s : State) (t : Nat) : s.LampKeeps (s.driveLanes t) := by
  unfold State.driveLanes
  extract_lets n lmp s1
  have hlanes : s.LampKeeps s1 := by
    unfold s1
    split_ifs
    · exact .refl s
    · exact ((State.LampKeeps.refl s).withLmp _).emit _
  split_ifs
  · exact hlanes
  · exact hlanes.trans (s1.setBlank_lampKeeps 4 true t)

theorem State.lampPower_lampKeeps (s : State) (t : Nat) : s.LampKeeps (s.lampPower t) := by
  unfold State.lampPower
  extract_lets z want s1 g
  have hdrive : s.LampKeeps z := s.driveLanes_lampKeeps t
  have hset : s.LampKeeps s1 := (hdrive.trans (State.setReg_lampKeeps _ (a := Reg.LMP_STATE) _ (by decide))).emit _
  split_ifs
  · exact hdrive
  · exact hset.withLmpMet _ _
  · exact hset.withLmpMet _ _
  · exact (hset.withLmp _).trans (State.setBlank_lampKeeps _ 5 true t)

theorem State.checkMap_lampKeeps (s : State) (im : Image) (t : Nat) : s.LampKeeps (s.checkMap im t) := by
  unfold State.checkMap
  split
  · extract_lets m none_ k s1 ok lmp s2 s3
    have hset : s.LampKeeps s2 := (s.setReg_lampKeeps (a := Reg.LMP_STATE) _ (by decide)).withLmp _
    have hblank : s2.LampKeeps s3 := by
      unfold s3
      split_ifs
      · exact .refl s2
      · exact s2.setBlank_lampKeeps 4 true t
    exact (hset.trans hblank).trans (s3.lampPower_lampKeeps t)
  · exact (((State.LampKeeps.refl s).withLmp _).trans (State.setBlank_lampKeeps _ 4 true t)).trans (State.lampPower_lampKeeps _ t)

theorem State.reportSlot_lampKeeps (s : State) (o : Nat) (k : Option Nat) : s.LampKeeps (s.reportSlot o k) :=
  (s.setReg_lampKeeps (a := Reg.CAL_GEN o) _ (imageReg_of_between (by simp only [Reg.CAL_GEN]; omega))).trans
    (State.setReg_lampKeeps _ (a := Reg.CAL_SLOT o) _ (imageReg_of_between (by simp only [Reg.CAL_SLOT]; omega)))

theorem State.startCopy_lampKeeps (s : State) : s.LampKeeps s.startCopy := by
  have hemc (z : State) (f : Field) (b : Bool) : z.LampKeeps (z.putBit Reg.EMC_STATE f b) := z.setReg_lampKeeps _ (by decide)
  unfold State.startCopy
  extract_lets set s1
  have hreport : s.LampKeeps s1 := by
    refine State.LampKeeps.trans ?_ (State.reportSlot_lampKeeps _ 3 _)
    split_ifs
    · exact hemc s _ _
    · exact .refl s
  clear_value set
  cases set with
  | none => exact (hreport.trans (hemc s1 _ _)).trans (hemc _ _ _)
  | some q => exact hreport.withEmc _

/-! ### The wait for time (R37) -/

/-- Only registers of the FLK block change. -/
structure State.TimeKeeps (s t : State) : Prop where
  rest : t = { s with regs := t.regs }
  regs : ∀ a, (a < 0xA0000 ∨ 0xB0000 ≤ a) → t.reg a = s.reg a

theorem State.TimeKeeps.refl (s : State) : s.TimeKeeps s := ⟨rfl, fun _ _ => rfl⟩

theorem State.TimeKeeps.trans {s t u : State} (h : s.TimeKeeps t) (k : t.TimeKeeps u) : s.TimeKeeps u where
  rest := by rw [k.rest, h.rest]
  regs a ha := (k.regs a ha).trans (h.regs a ha)

theorem State.TimeKeeps.foldl {α : Type} {f : State → α → State} (h : ∀ (s : State) a, s.TimeKeeps (f s a)) (l : List α) (s : State) :
    s.TimeKeeps (l.foldl f s) := by
  induction l generalizing s with
  | nil => exact .refl s
  | cons a l ih => exact (h s a).trans (ih (f s a))

theorem State.setReg_timeKeeps (s : State) {a : Nat} (v : Word) (h : 0xA0000 ≤ a ∧ a < 0xB0000) : s.TimeKeeps (s.setReg a v) :=
  ⟨rfl, fun b hb => by rw [State.reg_setReg, if_neg (by omega)]⟩

theorem State.setTimeline_timeKeeps (s : State) (tl : Timeline) : s.TimeKeeps (s.setTimeline tl) := by
  have hslot (z : State) (k v : Nat) : z.TimeKeeps (z.setNum (Reg.FLK_SLOT_START k) v) :=
    z.setReg_timeKeeps _ (by simp only [Reg.FLK_SLOT_START]; omega)
  have hopen (z : State) (k v : Nat) : z.TimeKeeps (z.setNum (Reg.FLK_EXP_OPEN k) v) :=
    z.setReg_timeKeeps _ (by simp only [Reg.FLK_EXP_OPEN]; omega)
  have hlen (z : State) (k v : Nat) : z.TimeKeeps (z.setNum (Reg.FLK_EXP_LEN k) v) := z.setReg_timeKeeps _ (by simp only [Reg.FLK_EXP_LEN]; omega)
  have hshadow (z : State) (k v v' : Nat) : z.TimeKeeps ((z.setNum (Reg.FLK_SHADOW_START k) v).setNum (Reg.FLK_SHADOW_LEN k) v') :=
    (z.setReg_timeKeeps _ (by simp only [Reg.FLK_SHADOW_START]; omega)).trans
      (State.setReg_timeKeeps _ _ (by simp only [Reg.FLK_SHADOW_LEN]; omega))
  have hexp (z : State) (k v v' : Nat) : z.TimeKeeps ((z.setNum (Reg.FLK_EXP_OPEN k) v).setNum (Reg.FLK_EXP_LEN k) v') :=
    (hopen z k v).trans (hlen _ k v')
  unfold State.setTimeline
  refine State.TimeKeeps.trans ?_ (State.TimeKeeps.foldl (fun z k => ?_) _ _)
  · exact (s.setReg_timeKeeps (a := Reg.FLK_STATE) _ (by decide)).trans (State.setReg_timeKeeps _ (a := Reg.FLK_STATE) _ (by decide))
  · extract_lets s2
    have himage : z.TimeKeeps s2 := by
      unfold s2
      split
      · exact (hslot z k _).trans (hexp _ k _ _)
      · dsimp only
        split_ifs
        · exact (hslot z k _).trans (hexp _ k _ _)
        · exact (hslot z k _).trans (hexp _ k _ _)
    split
    · exact himage.trans (hshadow _ k _ _)
    · exact himage.trans (hshadow _ k _ _)

theorem State.waitTime_timeKeeps (s : State) (im : Image) : s.TimeKeeps (s.waitTime im) :=
  (s.setTimeline_timeKeeps _).trans (State.setReg_timeKeeps _ (a := Reg.FLK_STATE) _ (by decide))

@[simp] theorem State.lockState_waitTime (s : State) (im : Image) : (s.waitTime im).lockState = 1 :=
  State.get_put_same _ _ _ _ (by decide)

/-! ### Parameters carried over (R40, R327) -/

theorem State.foldl_setParam (l : List PendingParam) (s : State) :
    ∃ ps, l.foldl (fun s q => s.setParam q.id q.value) s = { s with gen := { s.gen with params := ps } } := by
  induction l generalizing s with
  | nil => exact ⟨_, rfl⟩
  | cons q l ih => exact ih (s.setParam q.id q.value)

theorem State.applyParams_eq (s : State) (due : ApplyAt → Bool) :
    ∃ ps qs, s.applyParams due = { s with gen := { s.gen with params := ps, pendingParams := qs } } := by
  obtain ⟨ps, hps⟩ := State.foldl_setParam (s.gen.pendingParams.filter (fun q => due q.apply)) s
  refine ⟨ps, s.gen.pendingParams.filter (fun q => !due q.apply), ?_⟩
  unfold State.applyParams
  dsimp only
  rw [hps]

/-- An activation's trial has been loaded: its parameters are carried over, and the activation waits. -/
def State.carryOver (s : State) (im : Image) : State :=
  { s.carryParams im with gen := { (s.carryParams im).gen with activating := true, loadDue := false, pendingParams := [] } }

theorem State.carryOver_eq (s : State) (im : Image) :
    ∃ ps w, s.carryOver im =
      { s with gen := { s.gen with params := ps, pendingParams := [], activating := true, loadDue := false } }.setNum Reg.GEN_PARAM_CARRY w := by
  obtain ⟨ps, qs, happly⟩ := s.applyParams_eq (fun _ => true)
  unfold State.carryOver State.carryParams
  rw [happly]
  exact ⟨_, _, rfl⟩

/-! ### The activation's last steps (R325 to R327) -/

/-- Once the trial has been loaded, the image waits for time. -/
def State.awaitRun (s : State) (im : Image) (t : Nat) : State :=
  ((((s.carryOver im).waitTime im).put Reg.GEN_IMG_STATE Fld.GEN_IMG_STATE_STATE 3).put Reg.TRU_BOOT Fld.TRU_BOOT_ACT 2).lampPower t

/-- An activation that waits for time, and what it leaves. -/
structure State.AwaitsRun (s t : State) : Prop where
  activating : t.gen.activating = true
  loaded : t.gen.loadDue = false
  running : t.gen.running = s.gen.running
  lock : t.lockState = 1
  state : t.get Reg.GEN_IMG_STATE Fld.GEN_IMG_STATE_STATE = 3
  act : t.get Reg.TRU_BOOT Fld.TRU_BOOT_ACT = 2
  sch : t.sch = s.sch
  tru : t.tru = s.tru
  dram : t.dram = s.dram
  cmp : t.cmp = s.cmp
  ing : t.ing = s.ing

theorem State.awaitRun_spec (s : State) (im : Image) (t : Nat) : s.AwaitsRun (s.awaitRun im t) := by
  obtain ⟨ps, w, hcarry⟩ := s.carryOver_eq im
  obtain ⟨hrest, -⟩ := (s.carryOver im).waitTime_timeKeeps im
  have hlock := (s.carryOver im).lockState_waitTime im
  unfold State.awaitRun
  rw [hcarry] at hrest hlock ⊢
  generalize State.waitTime _ im = u at hrest hlock ⊢
  have hlamp := State.lampPower_lampKeeps ((u.put Reg.GEN_IMG_STATE Fld.GEN_IMG_STATE_STATE 3).put Reg.TRU_BOOT Fld.TRU_BOOT_ACT 2) t
  constructor
  case activating => rw [hlamp.gen, hrest]; rfl
  case loaded => rw [hlamp.gen, hrest]; rfl
  case running => rw [hlamp.gen, hrest]; rfl
  case lock =>
    rw [State.lockState, hlamp.get _ _ (by decide), State.get_put_other _ (by decide), State.get_put_other _ (by decide)]
    exact hlock
  case state => rw [hlamp.get _ _ (by decide), State.get_put_other _ (by decide), State.get_put_same _ _ _ _ (by decide)]; rfl
  case act => rw [hlamp.get _ _ (by decide), State.get_put_same _ _ _ _ (by decide)]; rfl
  case sch => rw [hlamp.sch, hrest]; rfl
  case tru => rw [hlamp.tru, hrest]; rfl
  case dram => rw [hlamp.dram, hrest]; rfl
  case cmp => rw [hlamp.cmp, hrest]; rfl
  case ing => rw [hlamp.ing, hrest]; rfl

end Sys2Proof.Machine
end

section
/-! An image loaded at the boot and in its place (R36, R37, R323, R327). -/
namespace Sys2Proof.Machine

/-! ### What a load keeps of the running machine -/

theorem State.RunKeeps.foldl {α : Type} {f : State → α → State} (h : ∀ (s : State) a, s.RunKeeps (f s a)) (l : List α) (s : State) :
    s.RunKeeps (l.foldl f s) := by
  induction l generalizing s with
  | nil => exact .refl s
  | cons a l ih => exact (h s a).trans (ih (f s a))

theorem State.takeFree_runKeeps (s : State) : s.RunKeeps s.takeFree.2 := ⟨rfl, rfl, rfl, rfl, rfl⟩

theorem State.setIslands_runKeeps (s : State) (im : Image) : s.RunKeeps (s.setIslands im) := by
  have hclock (z : State) (i f : Nat) (on : Bool) : z.RunKeeps (z.setIslandClock i f on) := z.setReg_runKeeps _ _
  unfold State.setIslands
  refine State.RunKeeps.trans (.foldl (fun z i => hclock z i 0 false) _ s) (.foldl (fun z r => ?_) _ _)
  split_ifs
  · exact .refl z
  · exact z.takeFree_runKeeps.trans (hclock _ _ _ _)
  · exact hclock z _ _ _

/-- The load of an image: it runs, from its slot. -/
theorem State.loadImage_spec (s : State) (im : Image) (slot : Nat) :
    (s.loadImage im slot).gen = { s.gen with running := some im } ∧
      (s.loadImage im slot).tru = { s.tru with siSlot := slot, sram := initSram im } := by
  unfold State.loadImage
  extract_lets role s1 s2 gen tru
  have hset : s.RunKeeps s2 := by
    refine State.RunKeeps.trans ?_ (State.setIslands_runKeeps _ im)
    exact ⟨rfl, rfl, rfl, rfl, rfl⟩
  have hgen : gen = s.gen := hset.gen
  have htru : tru = s.tru := hset.tru
  exact ⟨by rw [hgen], by rw [htru]⟩

theorem State.startDram_runKeeps (s : State) (im : Image) (t : Nat) : s.RunKeeps (s.startDram im t) := by
  unfold State.startDram
  refine State.RunKeeps.trans ?_ (State.RunKeeps.foldl (fun z c => ?_) _ _)
  · exact ⟨rfl, rfl, rfl, rfl, rfl⟩
  · exact ⟨rfl, rfl, rfl, rfl, rfl⟩

theorem State.startCoding_eq (s : State) (im : Image) (t : Nat) : ∃ x, s.startCoding im t = { s with ccx := x } := by
  unfold State.startCoding
  dsimp only
  split
  · exact ⟨_, rfl⟩
  · exact ⟨_, rfl⟩

theorem State.startChains_runKeeps (s : State) (im : Image) (t : Nat) : s.RunKeeps (s.startChains im t) := by
  have hport (z : State) (p : Nat) : z.RunKeeps (if z.get (Reg.CHN_PORT_STAT p) Fld.CHN_PORT_STAT_STATE = 0 then
      z.put (Reg.CHN_PORT_STAT p) Fld.CHN_PORT_STAT_STATE 1 else z) := by
    split_ifs
    · exact z.setReg_runKeeps _ _
    · exact .refl z
  unfold State.startChains
  split_ifs
  · exact .refl s
  · refine State.RunKeeps.trans (.foldl hport [2, 3] s) ?_
    exact ⟨rfl, rfl, rfl, rfl, rfl⟩

theorem State.trainedTables_runKeeps (s : State) (im : Image) (c : Nat) : s.RunKeeps (s.trainedTables im c) := by
  refine State.RunKeeps.foldl (fun z i => ?_) _ s
  exact ⟨rfl, rfl, rfl, rfl, rfl⟩

theorem State.powerDownOthers_runKeeps (s : State) (im : Image) : s.RunKeeps (s.powerDownOthers im) := by
  refine State.RunKeeps.trans (.foldl (fun z c => ?_) _ s) (State.setReg_runKeeps _ _ _)
  exact z.setReg_runKeeps _ _

theorem State.noteTraining_runKeeps (s : State) (im : Image) (train : List Nat) (f : Option AdmFail) : s.RunKeeps (s.noteTraining im train f) := by
  unfold State.noteTraining
  extract_lets ran all
  split_ifs
  · exact .refl s
  · refine (s.powerDownOthers_runKeeps im).trans (.foldl (fun y c => ?_) _ _)
    extract_lets a z res d q z1 sp w z2
    have htrain : y.RunKeeps z := by
      unfold z
      split_ifs
      · exact y.trainedTables_runKeeps im c
      · exact .refl y
    have htake : z.RunKeeps z1 := by
      unfold z1
      split_ifs
      · exact .refl z
      · exact z.takeFree_runKeeps
    have hset : y.RunKeeps z2 := (htrain.trans htake).trans (z1.setReg_runKeeps _ _)
    split_ifs
    · exact hset.trans (z2.setReg_runKeeps _ _)
    · exact hset

/-! ### The start of an image (R36, R37, R323) -/

/-- Once the image is in place and its parameters at their defaults: DRAM, coding and chains start, and the power state is RUN. -/
def State.powerUp (s : State) (im : Image) (t : Nat) : State :=
  (((({ s with gen := { s.gen with bootDone := true, bootAt := t }, chn := { s.chn with exp := expressOf [] im },
               red := { s.red with firstRun := true } } : State).startDram im t).startCoding im t).startChains im t).setPower Ps.RUN

theorem State.powerUp_gen (s : State) (im : Image) (t : Nat) : (s.powerUp im t).gen = { s.gen with bootDone := true, bootAt := t } := by
  unfold State.powerUp
  generalize hz : ({ s with gen := _, chn := _, red := _ } : State) = z
  obtain ⟨x, hx⟩ := (z.startDram im t).startCoding_eq im t
  have hrun : z.RunKeeps ((((z.startDram im t).startCoding im t).startChains im t).setPower Ps.RUN) := by
    refine (z.startDram_runKeeps im t).trans (State.RunKeeps.trans ?_ ((State.startChains_runKeeps _ im t).trans (State.setReg_runKeeps _ _ _)))
    rw [hx]
    exact ⟨rfl, rfl, rfl, rfl, rfl⟩
  rw [hrun.gen, ← hz]

theorem State.powerUp_pstate (s : State) (im : Image) (t : Nat) : (s.powerUp im t).pstate = Ps.RUN :=
  State.get_put_same _ _ _ _ (by decide)

/-- A started image runs, and waits for time. -/
structure State.StartsImage (t : State) (im : Image) : Prop where
  running : t.gen.running = some im
  power : t.pstate = Ps.RUN
  done : t.gen.bootDone = true
  lock : t.lockState = 1

theorem State.startImage_spec (s : State) (im : Image) (slot t : Nat) : (s.startImage im slot t).StartsImage im := by
  obtain ⟨hgen, -⟩ := s.loadImage_spec im slot
  have hgenUp := (((s.loadImage im slot).freshParams im)).powerUp_gen im t
  have hpowerUp := (((s.loadImage im slot).freshParams im)).powerUp_pstate im t
  have hstart : ∃ z : State, z = (((s.loadImage im slot).freshParams im).powerUp im t).waitTime im ∧ z.ImageKeeps (s.startImage im slot t) := by
    refine ⟨_, rfl, ?_⟩
    have hmap := ((((s.loadImage im slot).freshParams im).powerUp im t).waitTime im).checkMap_lampKeeps im t
    unfold State.startImage
    dsimp only
    split_ifs
    · exact (hmap.trans (State.startCopy_lampKeeps _)).toImageKeeps
    · exact hmap.toImageKeeps
  obtain ⟨z, hz, hkeeps⟩ := hstart
  obtain ⟨hrest, hregs⟩ := (((s.loadImage im slot).freshParams im).powerUp im t).waitTime_timeKeeps im
  have hgenZ : z.gen = (((s.loadImage im slot).freshParams im).powerUp im t).gen := by rw [hz, hrest]
  constructor
  case running => rw [hkeeps.gen, hgenZ, hgenUp]; exact congrArg GenSt.running hgen
  case power =>
    rw [State.pstate, hkeeps.get _ _ (by decide), hz, State.get, hregs _ (by decide)]
    exact hpowerUp
  case done => rw [hkeeps.gen, hgenZ, hgenUp]
  case lock =>
    rw [State.lockState, hkeeps.get _ _ (by decide), hz]
    exact State.lockState_waitTime _ im

/-! ### The load of a structure image in place (R325, R327) -/

theorem State.freeSurfaces_spec (s : State) :
    s.ImageKeeps s.freeSurfaces ∧ s.freeSurfaces.cmp.surfaces = [] ∧ s.freeSurfaces.ing.streams = [] := by
  refine ⟨?_, rfl, rfl⟩
  have hstop (z : State) (k : Nat) : z.ImageKeeps (if z.streamOn k then z.streamStop k else z) := by
    split_ifs
    · exact z.streamStop_imageKeeps k
    · exact .refl z
  refine (State.ImageKeeps.foldl hstop (List.range 16) s).trans ?_
  exact ⟨rfl, rfl, rfl, rfl, fun _ _ => rfl⟩

/-- A structure image loaded in place runs, with no surface and no stream left. -/
structure State.Swapped (s t : State) (im : Image) : Prop where
  running : t.gen.running = some im
  surfaces : t.cmp.surfaces = []
  streams : t.ing.streams = []
  trial : t.tru.siTrial = s.tru.siTrial

theorem State.Swapped.lamp {s t u : State} {im : Image} (h : s.Swapped t im) (k : t.LampKeeps u) : s.Swapped u im where
  running := by rw [k.gen, h.running]
  surfaces := by rw [k.cmp, h.surfaces]
  streams := by rw [k.ing, h.streams]
  trial := by rw [k.tru, h.trial]

theorem State.swapImage_spec (s : State) (slot t : Nat) : s.Swapped (s.swapImage slot t) (readImage (s.slotByte 1 slot)) := by
  unfold State.swapImage
  extract_lets im old pools e s1 s2 sch chn red drc ccx emc s3 s4 s5
  obtain ⟨hgen, htru⟩ := s.endRecompute.loadImage_spec im slot
  obtain ⟨hfree, hsurf, hstr⟩ := s1.freeSurfaces_spec
  obtain ⟨x, hx⟩ := s1.freeSurfaces.startCoding_eq im t
  have hswap : s.Swapped s3 im := by
    have hs2 : s2 = { s1.freeSurfaces with ccx := x } := hx
    unfold s3
    rw [hs2]
    exact ⟨by rw [hfree.gen, hgen], hsurf, hstr, by rw [hfree.tru, htru]; rfl⟩
  have hmark : s.Swapped s4 im := by
    obtain ⟨hrun, hs, hi, ht⟩ := hswap
    unfold s4
    split_ifs
    · exact ⟨hrun, hs, hi, ht⟩
    · exact ⟨hrun, hs, hi, ht⟩
  have hpulse : s4.LampKeeps s4.retimePulses := ⟨⟨rfl, rfl, rfl, rfl, fun _ _ => rfl⟩, rfl, rfl, rfl⟩
  have hmap : s.Swapped s5 im := hmark.lamp (hpulse.trans (State.checkMap_lampKeeps _ im t))
  split_ifs
  · exact hmap.lamp s5.startCopy_lampKeeps
  · exact hmap

end Sys2Proof.Machine
end

section
/-! The commit of an activation (R324 to R327): all instances shed, then the load at once or at the last completion. -/
namespace Sys2Proof.Machine

/-! ### All instances shed (R325) -/

/-- What shedding leaves: the image, the trust state, Umbra, DRAM, and every register but the schedule's bookkeeping and SCH_SHED. -/
structure State.ShedKeeps (s t : State) : Prop extends s.RunKeeps t where
  regs : ∀ a, bookReg a = false → a ≠ Reg.SCH_SHED → t.reg a = s.reg a

theorem State.ShedKeeps.refl (s : State) : s.ShedKeeps s := ⟨.refl s, fun _ _ _ => rfl⟩

theorem State.ShedKeeps.trans {s t u : State} (h : s.ShedKeeps t) (k : t.ShedKeeps u) : s.ShedKeeps u :=
  ⟨h.toRunKeeps.trans k.toRunKeeps, fun a ha hs => (k.regs a ha hs).trans (h.regs a ha hs)⟩

theorem State.ShedKeeps.foldl {α : Type} {f : State → α → State} (h : ∀ (s : State) a, s.ShedKeeps (f s a)) (l : List α) (s : State) :
    s.ShedKeeps (l.foldl f s) := by
  induction l generalizing s with
  | nil => exact .refl s
  | cons a l ih => exact (h s a).trans (ih (f s a))

theorem State.BookKeeps.toShedKeeps {s t : State} (h : s.BookKeeps t) : s.ShedKeeps t := ⟨h.toRunKeeps, fun a ha _ => h.regs a ha⟩

theorem State.shedOp_shedKeeps (s : State) (im : Image) (wfn op : Nat) (o : OpRec) (t : Nat) : s.ShedKeeps (s.shedOp im wfn op o t) := by
  obtain ⟨hrun, -, hreg, -⟩ := s.shedOp_spec im wfn op o t
  exact ⟨hrun, fun a ha hs => by rw [hreg a ha, if_neg hs.symm]⟩

/-- All instances are abandoned. -/
def State.allAbandoned (s : State) : Bool := s.sch.instances.all (fun i => i.abandoned)

theorem State.abandon_spec {s z : State} (h : s.ShedKeeps z) {f : Instance → Instance} (hf : ∀ i, (f i).abandoned = true) {u : State}
    (hu : u = { z with sch := { z.sch with instances := z.sch.instances.map f, decrements := [], queueWords := [] } }) :
    s.ShedKeeps u.watchQueue.settleDecodes ∧ u.watchQueue.settleDecodes.allAbandoned = true := by
  have hlost : z.ShedKeeps u := by
    subst hu
    exact ⟨⟨rfl, rfl, rfl, rfl, rfl⟩, fun _ _ _ => rfl⟩
  have hsettle := u.watchQueue_traceKeeps.trans (State.settleDecodes_traceKeeps _)
  refine ⟨(h.trans hlost).trans hsettle.toBookKeeps.toShedKeeps, ?_⟩
  rw [State.allAbandoned, hsettle.instances, hu]
  exact List.all_map.trans (List.all_eq_true.mpr fun i _ => hf i)

theorem State.shedAll_spec {s : State} {im : Image} (him : s.gen.running = some im) (t : Nat) :
    s.ShedKeeps (s.shedAll t) ∧ (s.shedAll t).allAbandoned = true := by
  unfold State.shedAll
  rw [him]
  refine State.abandon_spec (State.ShedKeeps.foldl (fun z i => State.ShedKeeps.foldl (fun y p => ?_) _ z) _ s) (fun _ => rfl) rfl
  split
  · exact y.shedOp_shedKeeps _ _ _ _ _
  · exact .refl y

/-! ### The completion that a load waits for -/

theorem State.stall_runKeeps (s : State) (im : Image) (d : OpDone) (r : OpRun) : s.RunKeeps (s.stall im d r) := by
  unfold State.stall
  dsimp only
  split_ifs
  · exact (s.setReg_runKeeps _ _).trans (State.modOp_bookKeeps _ _ _ _).toRunKeeps
  · exact .refl s

theorem State.completeOp_runKeeps (s : State) (d : OpDone) : s.RunKeeps (s.completeOp d) := by
  unfold State.completeOp
  extract_lets z s0
  have hadvance : s.RunKeeps z := (s.advance_bookKeeps d.t).toRunKeeps
  refine hadvance.trans ?_
  split
  next im o r i _ _ hr hi =>
    split
    next t0 _ =>
      extract_lets kept
      split
      · exact z.stall_runKeeps im d r
      · rw [State.opRun?_of_inst hi] at hr
        exact (State.finishOp_completes hi hr im o t0).run.trans (State.dispatch_bookKeeps _ o.facet d.t).toRunKeeps
    · exact .refl z
  · exact .refl z

/-! ### The descriptor -/

/-- A descriptor is written with the next generation number, unless the flash has stopped (R318). -/
theorem State.writeDesc_eq (s : State) (d : BootDesc) :
    ∃ d', s.writeDesc d = { s with tru := { s.tru with desc := d' } } ∧
      (s.flashStopped = false → d' = { d with generation := s.tru.desc.generation + 1 }) := by
  unfold State.writeDesc
  split_ifs with hstop
  · exact ⟨s.tru.desc, rfl, fun h => absurd hstop (by simp [h])⟩
  · exact ⟨_, rfl, fun _ => rfl⟩

theorem State.writeDesc_of_live {s : State} (h : s.flashStopped = false) (d : BootDesc) :
    s.writeDesc d = { s with tru := { s.tru with desc := { d with generation := s.tru.desc.generation + 1 } } } := by
  rw [State.writeDesc, h]
  rfl

/-! ### The trial loaded (R325 to R327) -/

/-- The descriptor once the trial slots of an activation of this type have been booted. -/
def BootDesc.bootTrials (d : BootDesc) (type : Nat) : BootDesc :=
  { d with fw := if type = 1 then d.fw else { d.fw with booted := true }, si := if type = 0 then d.si else { d.si with booted := true } }

/-- The trial slots of an activation are booted, and its firmware is the trial that runs. -/
def State.bootTrial (s : State) (a : Activation) : State :=
  let fw := (s.trialSlot 0).getD 0
  let z := s.writeDesc (s.tru.desc.bootTrials a.type)
  if a.type = 1 then z
  else { z with tru := { z.tru with fwVersion := z.fwVersionOf fw, fwSlot := fw, fwTrial := true,
                                    verified := z.tru.verified.filter (fun p => p.1 != 0) } }

/-- The structure of an activation is the trial, and takes the place of the image that runs. -/
def State.swapTrial (s : State) (si t : Nat) : State :=
  { s with tru := { s.tru with siTrial := true, verified := s.tru.verified.filter (fun p => p.1 != 1) },
           gen := { s.gen with admitted := none, rebootOnly := none } }.swapImage si t

/-- The state an activation waits in, before it waits. -/
def State.loadTrial (s : State) (a : Activation) (t : Nat) : State :=
  if a.type = 0 then s.bootTrial a else (s.bootTrial a).swapTrial ((s.trialSlot 1).getD 0) t

theorem State.loadActivation_of_running {s : State} {a : Activation} {t : Nat} {im : Image} (h : (s.loadTrial a t).gen.running = some im) :
    s.loadActivation a t = (s.loadTrial a t).awaitRun im t := by
  change (match (s.loadTrial a t).gen.running with
    | none => s.loadTrial a t
    | some im => (s.loadTrial a t).awaitRun im t) = _
  rw [h]

/-- The firmware part of a trial changes the trust state alone, and in it neither the flash nor the structure image's slot. -/
theorem State.bootTrial_spec (s : State) (a : Activation) :
    ∃ x, s.bootTrial a = { s with tru := x } ∧ x.flash = s.tru.flash ∧
      (a.type ≠ 1 → x.fwTrial = true) ∧ (a.type ≠ 1 → s.flashStopped = false → x.desc.fw.booted = true) := by
  obtain ⟨d, hwrite, hlive⟩ := s.writeDesc_eq (s.tru.desc.bootTrials a.type)
  unfold State.bootTrial
  rw [hwrite]
  split_ifs with htype
  · exact ⟨_, rfl, rfl, fun h => absurd htype h, fun h => absurd htype h⟩
  · exact ⟨_, rfl, rfl, fun _ => rfl, fun _ hstop => by simp [hlive hstop, BootDesc.bootTrials, htype]⟩

/-- A structure image's trial runs from its slot, with no surface and no stream left. -/
theorem State.swapTrial_spec (s : State) (si t : Nat) :
    (s.swapTrial si t).gen.running = some (readImage (s.slotByte 1 si)) ∧ (s.swapTrial si t).cmp.surfaces = [] ∧
      (s.swapTrial si t).ing.streams = [] ∧ (s.swapTrial si t).tru.siTrial = true := by
  obtain ⟨hrun, hsurf, hstr, htrial⟩ := State.swapImage_spec
    { s with tru := { s.tru with siTrial := true, verified := s.tru.verified.filter (fun p => p.1 != 1) },
             gen := { s.gen with admitted := none, rebootOnly := none } } si t
  exact ⟨hrun, hsurf, hstr, htrial⟩

/-! ### The commit point (R324, R325) -/

/-- All instances are shed, the pair is left, and a tile's lamp repeats the picture. -/
def State.clearForLoad (s : State) (t : Nat) : State :=
  let s1 := s.shedAll t
  let s2 := if s1.isSender && s1.agreed then s1.sendLeave 2 else s1
  if s2.isTile then { s2 with lmp := { s2.lmp with replaying := s2.lmp.replaying.orElse (fun _ => s2.timeline?), write := none } } else s2

/-- The load waits for the operations that still run. -/
def State.awaitLoad (s : State) : State :=
  ((({ s with gen := { s.gen with activating := true, loadDue := true } } : State).put Reg.GEN_IMG_STATE Fld.GEN_IMG_STATE_STATE 3).put
    Reg.FLK_STATE Fld.FLK_STATE_STATE 0).put Reg.FLK_STATE Fld.FLK_STATE_N_IMAGE 0

theorem State.commitActivation_of_issued {s : State} {t : Nat} (h : (s.clearForLoad t).anyIssued = true) (a : Activation) :
    s.commitActivation a t = (s.clearForLoad t).awaitLoad := if_pos h

theorem State.commitActivation_of_idle {s : State} {t : Nat} (h : (s.clearForLoad t).anyIssued = false) (a : Activation) :
    s.commitActivation a t = (s.clearForLoad t).loadActivation a t := if_neg (Bool.eq_false_iff.mp h)

/-- What the commit point leaves to the load. -/
structure State.ClearedForLoad (s t : State) : Prop where
  gen : t.gen = s.gen
  tru : t.tru = s.tru
  umb : t.umb = s.umb
  image : t.reg Reg.GEN_IMG_STATE = s.reg Reg.GEN_IMG_STATE
  abandoned : t.allAbandoned = true

theorem State.ClearedForLoad.trans {s t u : State} (h : s.ClearedForLoad t) (k : t.ImageKeeps u) : s.ClearedForLoad u where
  gen := k.gen.trans h.gen
  tru := k.tru.trans h.tru
  umb := k.umb.trans h.umb
  image := (k.regs _ (by decide)).trans h.image
  abandoned := by rw [State.allAbandoned, k.sch]; exact h.abandoned

theorem State.clearForLoad_imageKeeps (s : State) (t : Nat) : (s.shedAll t).ImageKeeps (s.clearForLoad t) := by
  unfold State.clearForLoad
  extract_lets s1 s2
  have hleave : s1.ImageKeeps s2 := by
    unfold s2
    split_ifs
    · exact s1.sendLeave_imageKeeps 2
    · exact .refl s1
  split_ifs
  · exact hleave.trans (u := { s2 with lmp := _ }) ⟨rfl, rfl, rfl, rfl, fun _ _ => rfl⟩
  · exact hleave

theorem State.anyIssued_congr {s t : State} (h : t.sch = s.sch) : t.anyIssued = s.anyIssued := by rw [State.anyIssued, h, State.anyIssued]

theorem State.clearForLoad_spec {s : State} {im : Image} (him : s.gen.running = some im) (t : Nat) :
    s.ClearedForLoad (s.clearForLoad t) ∧ (s.clearForLoad t).anyIssued = (s.shedAll t).anyIssued := by
  obtain ⟨hshed, hall⟩ := State.shedAll_spec him t
  have hkeeps := s.clearForLoad_imageKeeps t
  have hclear : s.ClearedForLoad (s.shedAll t) := ⟨hshed.gen, hshed.tru, hshed.umb, hshed.regs _ (by decide) (by decide), hall⟩
  exact ⟨hclear.trans hkeeps, State.anyIssued_congr hkeeps.sch⟩

/-- With no partner to leave, the commit point leaves DRAM. -/
theorem State.clearForLoad_dram {s : State} {im : Image} (him : s.gen.running = some im) (halone : s.isSender = false ∨ s.linkCode = 0) (t : Nat) :
    (s.clearForLoad t).dram = s.dram := by
  obtain ⟨hshed, -⟩ := State.shedAll_spec him t
  have hsender : (s.shedAll t).isSender = s.isSender := by rw [State.isSender, State.role?, hshed.gen, State.isSender, State.role?]
  have hlink : (s.shedAll t).linkCode = s.linkCode := by
    rw [State.linkCode, State.get, hshed.regs _ (by decide) (by decide), State.linkCode, State.get]
  have hstay : ((s.shedAll t).isSender && (s.shedAll t).agreed) = false := by
    rw [State.agreed, hsender, hlink]
    obtain h | h := halone <;> simp [h]
  unfold State.clearForLoad
  simp only [hstay, Bool.false_eq_true, if_false]
  rw [← hshed.dram]
  split_ifs <;> rfl

theorem State.awaitLoad_spec {s t : State} {im : Image} (h : s.ClearedForLoad t) (him : s.gen.running = some im) :
    t.awaitLoad.gen.activating = true ∧ t.awaitLoad.gen.loadDue = true ∧ t.awaitLoad.gen.running = some im ∧
      t.awaitLoad.get Reg.GEN_IMG_STATE Fld.GEN_IMG_STATE_STATE = 3 ∧ t.awaitLoad.allAbandoned = true := by
  refine ⟨rfl, rfl, (congrArg GenSt.running h.gen).trans him, ?_, h.abandoned⟩
  unfold State.awaitLoad
  rw [State.get_put_other _ (by decide), State.get_put_other _ (by decide), State.get_put_same _ _ _ _ (by decide)]
  rfl

end Sys2Proof.Machine
end

section
/-! Admission, activation and confirmation (R36, R246, R323 to R329). -/
namespace Sys2Proof.Machine

/-! ### ADMIT and the ends of an admission (R36, R246, R323) -/

@[simp] theorem State.slotByte_tick (s : State) (t type k : Nat) : (s.tick t).slotByte type k = s.slotByte type k := rfl
@[simp] theorem State.admCtx_tick (s : State) (t k : Nat) (train : List Nat) (staged : Bool) :
    (s.tick t).admCtx k train staged = s.admCtx k train staged := rfl

theorem State.gen_background (s : State) (kind : BgKind) (tok : Nat) (work : Option Nat) (islands : List Nat) :
    (s.background kind tok work islands).gen = s.gen := by
  obtain ⟨l, hl⟩ := s.background_eq kind tok work islands
  rw [hl]

theorem State.bit_background (s : State) (kind : BgKind) (tok : Nat) (work : Option Nat) (islands : List Nat) (a : Nat) (f : Field) :
    (s.background kind tok work islands).bit a f = s.bit a f := by
  obtain ⟨l, hl⟩ := s.background_eq kind tok work islands
  rw [hl]
  rfl

theorem State.admStart_spec (s : State) (j : AdmJob) :
    (s.admStart j).gen.admission = some j ∧ (s.admStart j).bit Reg.GEN_ADM_STATUS Fld.GEN_ADM_STATUS_BUSY = true := by
  refine ⟨rfl, ?_⟩
  change bitOf (State.reg ((s.putBit Reg.GEN_ADM_STATUS Fld.GEN_ADM_STATUS_BUSY true).putBit Reg.GEN_ADM_STATUS Fld.GEN_ADM_STATUS_TARGET j.staged)
    Reg.GEN_ADM_STATUS) Fld.GEN_ADM_STATUS_BUSY.lo = true
  rw [State.reg_putBit, if_pos rfl, State.reg_putBit, if_pos rfl, bitOf_putField _ _ _ _ _ (by decide), if_neg (by decide),
    bitOf_putField _ _ _ _ _ (by decide), if_pos (by decide)]
  decide

section
variable {c : MboxCmd} {s : State} {im : Image} (him : s.gen.running = some im)
include him

theorem doAdmit_of_slack (hadm : s.gen.admission = none) (hslack : noSlack im = false) (hfull : s.longFull = false) :
    (doAdmit c s).1.gen.admission = some { staged := true, slot := 1 - s.tru.siSlot, token := s.cmd.nextToken } ∧
      (doAdmit c s).1.bit Reg.GEN_ADM_STATUS Fld.GEN_ADM_STATUS_BUSY = true := by
  simp only [doAdmit, hadm, him, hslack, hfull, Option.isSome_none, Bool.false_eq_true, if_false, State.gen_background, State.bit_background]
  exact State.admStart_spec _ _

theorem doAdmit_of_noSlack (hadm : s.gen.admission = none) (hslack : noSlack im = true) : doAdmit c s = (s, Reply.of St.NO_SLACK) := by
  simp only [doAdmit, hadm, him, hslack, Option.isSome_none, Bool.false_eq_true, if_false, if_true]

end

theorem doAdmit_of_running {c : MboxCmd} {s : State} (hadm : s.gen.admission.isSome = true) : doAdmit c s = (s, Reply.of St.ADM_BUSY) :=
  if_pos hadm

theorem State.admEnd_gen (s : State) (staged : Bool) (f : Option AdmFail) : (s.admEnd staged f).gen = { s.gen with admission := none } := by
  unfold State.admEnd
  dsimp only
  cases f with
  | none => rw [State.setNum_gen]
  | some x => rw [State.setNum_gen, State.setNum_gen, State.setNum_gen]

theorem State.admEnd_tru (s : State) (staged : Bool) (f : Option AdmFail) : (s.admEnd staged f).tru = s.tru := by
  have hclear (z : State) : ({ z with gen := { z.gen with admission := none } } : State).tru = z.tru := rfl
  unfold State.admEnd
  cases f with
  | none => exact (hclear _).trans (State.setNum_tru _ _ _)
  | some x => exact ((State.setNum_tru _ _ _).trans (State.setNum_tru _ _ _)).trans ((hclear _).trans (State.setNum_tru _ _ _))

/-- The slots that an admission leaves admitted, and admitted for a reboot only. -/
def State.noteAdmitted (s : State) (k only : Option Nat) : State := { s with gen := { s.gen with admitted := k, rebootOnly := only } }

theorem State.noteAdmitted_longEnd (s : State) (k only : Option Nat) (tok status detail : Nat) :
    ((s.noteAdmitted k only).longEnd tok status detail false).gen = { s.gen with admitted := k, rebootOnly := only } :=
  (State.longEnd_imageKeeps _ tok status detail false).gen

/-- The end of a staged admission with its result. -/
def State.endStaged (s : State) (j : AdmJob) (f : Option AdmFail) : State :=
  let s1 := (s.dropJob j.token).admEnd true f
  match f with
  | none => (s1.noteAdmitted (some j.slot) none).longEnd j.token St.OK 0 false
  | some x =>
    let s2 := if x.step = 4 then s1.sigFailed else s1
    let s3 := s2.noteAdmitted none (if x.step == 9 && (x.elem / 256 == 0x0D || x.elem / 256 == 0x0E) then some j.slot else none)
    s3.longEnd j.token St.FAILED (s3.reg Reg.GEN_ADM_STATUS).toNat false

theorem State.endStaged_spec (s : State) (j : AdmJob) (f : Option AdmFail) :
    (s.endStaged j f).gen.admission = none ∧ (s.endStaged j f).gen.admitted = (if f.isNone = true then some j.slot else none) ∧
      (s.endStaged j f).gen.running = s.gen.running := by
  have hgen : ((s.dropJob j.token).admEnd true f).gen = { s.gen with admission := none } := State.admEnd_gen _ true f
  cases f with
  | none =>
    simp only [State.endStaged, State.noteAdmitted_longEnd]
    exact ⟨by rw [hgen], rfl, by rw [hgen]⟩
  | some x =>
    have hsig (z : State) : (if x.step = 4 then z.sigFailed else z).gen = z.gen := by split_ifs <;> rfl
    simp only [State.endStaged, State.noteAdmitted_longEnd, hsig]
    exact ⟨by rw [hgen], rfl, by rw [hgen]⟩

theorem exec_admissionComplete_staged {train : List Nat} {t0 : Nat} {s : State} {j : AdmJob} (hadm : s.gen.admission = some j)
    (hstaged : j.staged = true) (hwork : s.workLeft j.token = false) :
    exec (.admissionComplete train t0) s =
      .next ((s.tick t0).endStaged j (admitBytes (s.slotByte 1 j.slot) (s.admCtx j.slot [] true))) := by
  have hadm' : (s.tick t0).gen.admission = some j := hadm
  have hwork' : (s.tick t0).workLeft j.token = false := hwork
  change execAdmissionComplete train t0 s = _
  simp only [execAdmissionComplete, hadm', hstaged, hwork', Bool.not_true, Bool.false_eq_true, if_false, State.slotByte_tick, State.admCtx_tick]
  generalize admitBytes (s.slotByte 1 j.slot) (s.admCtx j.slot [] true) = f
  cases f <;> rfl

theorem State.recovery_enterRecovery (s : State) : s.enterRecovery.recovery = true := by
  rw [State.recovery, State.enterRecovery, State.get_put_same _ _ _ _ (by decide)]
  rfl

/-- The boot's admission has ended: its training and its result are shown. -/
def State.noteBoot (s : State) (im : Image) (train : List Nat) (f : Option AdmFail) : State :=
  let s1 := (s.noteTraining im train f).admEnd false f
  if f.any (fun x => x.step == 4) then s1.sigFailed else s1

theorem State.noteBoot_tru (s : State) (im : Image) (train : List Nat) (f : Option AdmFail) : (s.noteBoot im train f).tru = s.tru := by
  have hsig (z : State) : (if f.any (fun x => x.step == 4) then z.sigFailed else z).tru = z.tru := by split_ifs <;> rfl
  rw [State.noteBoot, hsig, State.admEnd_tru, (s.noteTraining_runKeeps im train f).tru]

/-- What follows the boot's admission with its result: the image starts, the other slot is tried, or the core enters recovery. -/
def State.afterBoot (s : State) (j : AdmJob) (im : Image) (f : Option AdmFail) (t : Nat) : State :=
  if f.isNone then ({ s with tru := { s.tru with siTrial := s.tru.siTrial && j.slot == s.tru.siSlot } } : State).startImage im j.slot t
  else if j.slot = s.tru.siSlot then (s.reselectCal j.slot).admStart { staged := false, slot := 1 - j.slot, token := 0 }
  else s.enterRecovery

theorem State.bootAdmitted_eq (s : State) (j : AdmJob) (train : List Nat) (t : Nat) :
    s.bootAdmitted j train t =
      (s.noteBoot (readImage (s.slotByte 1 j.slot)) train (admitBytes (s.slotByte 1 j.slot) (s.admCtx j.slot train false))).afterBoot j
        (readImage (s.slotByte 1 j.slot)) (admitBytes (s.slotByte 1 j.slot) (s.admCtx j.slot train false)) t := by
  unfold State.bootAdmitted
  dsimp only
  generalize admitBytes (s.slotByte 1 j.slot) (s.admCtx j.slot train false) = f
  generalize readImage (s.slotByte 1 j.slot) = im
  rfl

theorem State.bootAdmitted_spec (s : State) (j : AdmJob) (train : List Nat) (t : Nat) :
    (if (admitBytes (s.slotByte 1 j.slot) (s.admCtx j.slot train false)).isNone = true then
       (s.bootAdmitted j train t).StartsImage (readImage (s.slotByte 1 j.slot))
     else if j.slot = s.tru.siSlot then (s.bootAdmitted j train t).gen.admission = some { staged := false, slot := 1 - j.slot, token := 0 }
     else (s.bootAdmitted j train t).recovery = true) := by
  rw [State.bootAdmitted_eq]
  generalize admitBytes (s.slotByte 1 j.slot) (s.admCtx j.slot train false) = f
  generalize readImage (s.slotByte 1 j.slot) = im
  rw [State.afterBoot, s.noteBoot_tru im train f]
  split_ifs
  · exact State.startImage_spec _ im j.slot t
  · exact (State.admStart_spec _ _).1
  · exact State.recovery_enterRecovery _

theorem exec_admissionComplete_boot {train : List Nat} {t0 : Nat} {s : State} {j : AdmJob} (hadm : s.gen.admission = some j)
    (hboot : j.staged = false) : exec (.admissionComplete train t0) s = .next ((s.tick t0).bootAdmitted j train t0) := by
  have hadm' : (s.tick t0).gen.admission = some j := hadm
  change execAdmissionComplete train t0 s = _
  simp only [execAdmissionComplete, hadm', hboot, Bool.not_false, if_true]

/-! ### ACTIVATE (R324) -/

theorem doActivate_of_refused {c : MboxCmd} {s : State} (htype : byteAt c.body 0 ≤ 2) (hreboot : byteAt c.body 1 ≤ 1) {st : Nat}
    (h : s.activateRefused (byteAt c.body 0) (byteAt c.body 1 == 1) (leAt c.body 4 6) = some st) : doActivate c s = (s, Reply.of st) := by
  have hfields : ¬(2 < byteAt c.body 0 ∨ 1 < byteAt c.body 1) := by omega
  simp only [doActivate, if_neg hfields, h]

/-- What refuses nothing has found the flash running. -/
theorem State.flashStopped_of_activateRefused {s : State} {type w : Nat} {rb : Bool} (h : s.activateRefused type rb w = none) :
    s.flashStopped = false := by
  have hbusy : s.activateBusy = false := by
    rw [Bool.eq_false_iff]
    intro hb
    simp only [State.activateRefused, hb, if_true] at h
    split_ifs at h
  simp only [State.activateBusy, Bool.or_eq_false_iff] at hbusy
  exact hbusy.2

/-- An accepted activation waits for its frame, its trial slots written into the descriptor. -/
structure State.Activates (s t : State) (c : MboxCmd) (a : Activation) : Prop where
  activation : t.tru.activation = some a
  type : a.type = byteAt c.body 0
  token : a.token = s.cmd.nextToken
  before : a.before = s.tru.desc
  act : t.get Reg.TRU_BOOT Fld.TRU_BOOT_ACT = 1
  generation : t.tru.desc.generation = s.tru.desc.generation + 1
  firmware : byteAt c.body 0 ≠ 1 → t.tru.desc.fw.trial = some ((s.trialSlot 0).getD 0)
  image : byteAt c.body 0 ≠ 0 → t.tru.desc.si.trial = some ((s.trialSlot 1).getD 0)
  due : ∀ tl, s.timeline? = some tl → a.wfn = Nat.max (leAt c.body 4 6) (frameFrom tl (s.now + 2 * msT)) ∧ a.at_ = frameStart tl a.wfn

theorem doActivate_of_taken {c : MboxCmd} {s : State} (htype : byteAt c.body 0 ≤ 2) (hreboot : byteAt c.body 1 ≤ 1)
    (h : s.activateRefused (byteAt c.body 0) (byteAt c.body 1 == 1) (leAt c.body 4 6) = none) :
    ∃ a, s.Activates (doActivate c s).1 c a := by
  have hfields : ¬(2 < byteAt c.body 0 ∨ 1 < byteAt c.body 1) := by omega
  have hlive : (s.longStart 0x106 c (byteAt c.body 0)).1.flashStopped = false :=
    (State.flashStopped_of_activateRefused h : s.flashStopped = false)
  simp only [doActivate, if_neg hfields, h, State.writeDesc_of_live hlive]
  refine ⟨_, rfl, rfl, rfl, rfl, State.get_put_same _ _ _ _ (by decide), rfl, fun hfw => ?_, fun hsi => ?_, fun tl htl => ?_⟩
  · exact congrArg BootEntry.trial (if_neg hfw)
  · exact congrArg BootEntry.trial (if_neg hsi)
  · rw [htl]
    exact ⟨rfl, rfl⟩

theorem State.Activates.answer {s t : State} {c : MboxCmd} {a : Activation} (h : s.Activates t c a) (op : Nat) (r : Reply) :
    s.Activates (t.answer op c r) c a := by
  have hkeeps := t.answer_imageKeeps op c r
  obtain ⟨hactivation, htype, htoken, hbefore, hact, hgen, hfw, hsi, hdue⟩ := h
  rw [← hkeeps.tru] at hactivation hgen hfw hsi
  exact ⟨hactivation, htype, htoken, hbefore, (hkeeps.get _ _ (by decide)).trans hact, hgen, hfw, hsi, hdue⟩

/-! ### The commit point (R325 to R327) -/

theorem State.clearCore_gen (s : State) (cycle : Bool) : (s.clearCore cycle).gen = State.reset.gen := by
  have hemit (z : State) (p : Prop) [Decidable p] (o : Output) : (if p then z.emit o else z).gen = z.gen := by split_ifs <;> rfl
  have hemit' (z : State) (p : Prop) [Decidable p] (o : Output) : (if p then z else z.emit o).gen = z.gen := by split_ifs <;> rfl
  unfold State.clearCore
  dsimp only
  rw [hemit, hemit', hemit]
  rfl

theorem exec_activateCommit_waiting {t0 : Nat} {s : State} (h : ∀ a, s.tru.activation = some a → s.gen.activating = true ∨ t0 < a.at_) :
    exec (.activateCommit t0) s = .next (s.tick t0) := by
  change execActivateCommit t0 s = _
  unfold execActivateCommit
  dsimp only
  split
  · rfl
  next a ha => exact if_pos (h a ha)

section
variable {t0 : Nat} {s : State} {a : Activation} (ha : s.tru.activation = some a) (hact : s.gen.activating = false) (hdue : a.at_ ≤ t0)
include ha hact hdue

theorem exec_activateCommit_reset (h : a.reboot = true ∨ s.recovery = true) :
    exec (.activateCommit t0) s = .next ((s.tick t0).coreReset 5) := by
  have ha' : (s.tick t0).tru.activation = some a := ha
  have hwait : ¬((s.tick t0).gen.activating = true ∨ t0 < a.at_) := by
    rintro (hon | hlate)
    · exact Bool.false_ne_true (hact.symm.trans hon)
    · omega
  change execActivateCommit t0 s = _
  simp only [execActivateCommit, ha', if_neg hwait]
  exact if_pos h

theorem exec_activateCommit_load (hreboot : a.reboot = false) (hrec : s.recovery = false) :
    exec (.activateCommit t0) s = .next ((s.tick t0).commitActivation a t0) := by
  have ha' : (s.tick t0).tru.activation = some a := ha
  have hrec' : (s.tick t0).recovery = false := hrec
  have hact' : (s.tick t0).gen.activating = false := hact
  have hlate : ¬ t0 < a.at_ := by omega
  change execActivateCommit t0 s = _
  simp only [execActivateCommit, ha', hact', hreboot, hrec', hlate, Bool.false_eq_true, or_self, if_false]

end

theorem State.coreReset_spec (s : State) (cause : Nat) :
    (s.coreReset cause).pstate = Ps.BOOT ∧ (s.coreReset cause).umb.cause = cause ∧ (s.coreReset cause).gen.running = none := by
  have hgen := s.settleFlash.clearCore_gen false
  unfold State.coreReset
  dsimp only
  generalize s.settleFlash.clearCore false = z at hgen ⊢
  exact ⟨z.get_put_same Reg.UMB_STATE Fld.UMB_STATE_PSTATE Ps.BOOT (by decide), rfl, congrArg GenSt.running hgen⟩

/-- A firmware activation that has been loaded: its trial runs and waits for time, with the image kept. -/
structure State.LoadsFirmware (s t : State) : Prop where
  activating : t.gen.activating = true
  loaded : t.gen.loadDue = false
  running : t.gen.running = s.gen.running
  lock : t.lockState = 1
  abandoned : t.allAbandoned = s.allAbandoned
  state : t.get Reg.GEN_IMG_STATE Fld.GEN_IMG_STATE_STATE = 3
  act : t.get Reg.TRU_BOOT Fld.TRU_BOOT_ACT = 2
  trial : t.tru.fwTrial = true
  booted : s.flashStopped = false → t.tru.desc.fw.booted = true
  dram : t.dram = s.dram

theorem State.loadActivation_firmware {s : State} {a : Activation} {im : Image} (him : s.gen.running = some im) (htype : a.type = 0) (t : Nat) :
    s.LoadsFirmware (s.loadActivation a t) := by
  obtain ⟨x, hx, -, htrial, hbooted⟩ := s.bootTrial_spec a
  have hload : s.loadTrial a t = { s with tru := x } := by rw [State.loadTrial, if_pos htype, hx]
  have hfw : a.type ≠ 1 := by omega
  have hwait := (s.loadTrial a t).awaitRun_spec im t
  rw [← State.loadActivation_of_running (im := im) (by rw [hload]; exact him)] at hwait
  obtain ⟨hact, hloaded, hrun, hlock, hstate, hboot, hsch, htru, hdram, -, -⟩ := hwait
  rw [hload] at hrun hsch htru hdram
  exact ⟨hact, hloaded, hrun, hlock, by rw [State.allAbandoned, hsch, State.allAbandoned], hstate, hboot, by rw [htru]; exact htrial hfw,
    fun hlive => by rw [htru]; exact hbooted hfw hlive, hdram⟩

/-- A structure activation that has been loaded runs its trial, with no surface and no stream left. -/
theorem State.loadActivation_structure {s : State} {a : Activation} (htype : a.type ≠ 0) (t : Nat) :
    (s.loadActivation a t).gen.running = some (readImage (s.slotByte 1 ((s.trialSlot 1).getD 0))) ∧ (s.loadActivation a t).cmp.surfaces = [] ∧
      (s.loadActivation a t).ing.streams = [] ∧ (s.loadActivation a t).tru.siTrial = true ∧ (s.loadActivation a t).lockState = 1 := by
  obtain ⟨x, hx, hflash, -⟩ := s.bootTrial_spec a
  obtain ⟨hrun, hsurf, hstr, htrial⟩ := (s.bootTrial a).swapTrial_spec ((s.trialSlot 1).getD 0) t
  have hload : s.loadTrial a t = (s.bootTrial a).swapTrial ((s.trialSlot 1).getD 0) t := if_neg htype
  have hbyte : (s.bootTrial a).slotByte 1 ((s.trialSlot 1).getD 0) = s.slotByte 1 ((s.trialSlot 1).getD 0) := by
    funext i
    rw [hx, State.slotByte, hflash, State.slotByte]
  rw [hbyte] at hrun
  rw [← hload] at hrun hsurf hstr htrial
  rw [State.loadActivation_of_running hrun]
  have hwait := (s.loadTrial a t).awaitRun_spec (readImage (s.slotByte 1 ((s.trialSlot 1).getD 0))) t
  exact ⟨hwait.running.trans hrun, by rw [hwait.cmp, hsurf], by rw [hwait.ing, hstr], by rw [hwait.tru, htrial], hwait.lock⟩

theorem State.ClearedForLoad.trialSlot {s t : State} (h : s.ClearedForLoad t) (type : Nat) : t.trialSlot type = s.trialSlot type := by
  have hrec : t.recovery = s.recovery := by rw [State.recovery, State.get, h.image, State.recovery, State.get]
  have hrunning : t.runningSlot type = s.runningSlot type := by rw [State.runningSlot, hrec, h.tru, State.runningSlot]
  rw [State.trialSlot, hrunning, h.tru, State.trialSlot]

theorem State.ClearedForLoad.slotByte {s t : State} (h : s.ClearedForLoad t) (type k : Nat) : t.slotByte type k = s.slotByte type k := by
  funext i
  rw [State.slotByte, h.tru, State.slotByte]

theorem exec_operationComplete_load {d : OpDone} {s : State} {a : Activation} (ha : s.tru.activation = some a) (hload : s.gen.loadDue = true)
    (hdrain : s.umb.draining = false) (hidle : (s.completeOp d).anyIssued = false) :
    exec (.operationComplete d) s = .next ((s.completeOp d).loadActivation a d.t) := by
  have hrun := s.completeOp_runKeeps d
  have ha' : (s.completeOp d).tru.activation = some a := by rw [hrun.tru, ha]
  have hload' : (s.completeOp d).gen.loadDue = true := by rw [hrun.gen, hload]
  have hdrain' : (s.completeOp d).umb.draining = false := by rw [hrun.umb, hdrain]
  change execOperationComplete d s = _
  simp only [execOperationComplete, hidle, hdrain', ha', hload', Bool.false_eq_true, if_false, if_true]

/-! ### CONFIRM and CONFIRM_TIMEOUT (R328, R329) -/

/-- The firmware slot that runs is RUNNING, and its floor is raised. -/
theorem State.confirmType_firmware {s : State} (hlive : s.flashStopped = false) :
    s.confirmType 0 = { s with tru := { s.tru with
      desc := { s.tru.desc with fw := { running := s.tru.fwSlot, trial := none, booted := false }, generation := s.tru.desc.generation + 1 },
      fwTrial := false, fwFloor := raisedFloor s.tru.fwFloor (slotSecurity (s.slotByte 0 s.tru.fwSlot)) } } := by
  unfold State.confirmType
  simp only [if_true, State.writeDesc_of_live hlive]

/-- The structure slot that runs is RUNNING, and its floor is raised. -/
theorem State.confirmType_structure {s : State} (hlive : s.flashStopped = false) :
    s.confirmType 1 = { s with tru := { s.tru with
      desc := { s.tru.desc with si := { running := s.tru.siSlot, trial := none, booted := false }, generation := s.tru.desc.generation + 1 },
      siTrial := false, siFloor := raisedFloor s.tru.siFloor ((s.image?.map (·.securityVersion)).getD 0) } } := by
  unfold State.confirmType
  simp only [Nat.one_ne_zero, if_false, State.writeDesc_of_live hlive]

section
variable {c : MboxCmd} {s : State}

theorem doConfirm_of_stopped (htype : byteAt c.body 0 ≤ 2) (hstop : s.flashStopped = true) : doConfirm c s = (s, Reply.of St.BUSY) := by
  simp only [doConfirm, if_neg (Nat.not_lt.mpr htype), hstop, if_true]

theorem doConfirm_of_confirmed (htype : byteAt c.body 0 = 0) (hlive : s.flashStopped = false) (hno : s.tru.fwTrial = false) :
    doConfirm c s = (s, Reply.of St.BAD_STATE) := by
  simp [doConfirm, htype, hlive, hno]

theorem doConfirm_of_trial (htype : byteAt c.body 0 = 0) (hlive : s.flashStopped = false) (htrial : s.tru.fwTrial = true)
    (hact : s.gen.activating = false) : doConfirm c s = (s.confirmType 0, Reply.of St.OK) := by
  simp [doConfirm, htype, hlive, htrial, hact]

theorem exec_confirm_of_reply {u : State} {r : Reply} (h : s.takes 0x107 c = true) (hf : doConfirm c (s.tick c.t) = (u, r)) :
    exec (.confirm c) s = .next (u.answer 0x107 c r) := congrArg _ (State.serve_answered h hf)

end

/-- Both slots that are still trials are confirmed. -/
def State.confirmTrials (s : State) : State :=
  let z := if s.tru.fwTrial then s.confirmType 0 else s
  if z.tru.siTrial then z.confirmType 1 else z

theorem State.confirmTrials_spec {s : State} (hlive : s.flashStopped = false) :
    s.confirmTrials.tru.fwTrial = false ∧ s.confirmTrials.tru.siTrial = false ∧
      (s.tru.fwTrial = true → s.confirmTrials.tru.desc.fw.running = s.tru.fwSlot) ∧
      (s.tru.siTrial = true → s.confirmTrials.tru.desc.si.running = s.tru.siSlot) := by
  have hsi (z : State) (hz : z.flashStopped = false) : (if z.tru.siTrial then z.confirmType 1 else z).tru.siTrial = false ∧
      (if z.tru.siTrial then z.confirmType 1 else z).tru.fwTrial = z.tru.fwTrial ∧
      (if z.tru.siTrial then z.confirmType 1 else z).tru.desc.fw = z.tru.desc.fw ∧
      (z.tru.siTrial = true → (if z.tru.siTrial then z.confirmType 1 else z).tru.desc.si.running = z.tru.siSlot) := by
    split_ifs with htrial
    · rw [State.confirmType_structure hz]
      exact ⟨rfl, rfl, rfl, fun _ => rfl⟩
    · exact ⟨Bool.eq_false_iff.mpr htrial, rfl, rfl, fun h => absurd h htrial⟩
  unfold State.confirmTrials
  cases hfw : s.tru.fwTrial
  · obtain ⟨hnone, hkept, -, hrun⟩ := hsi s hlive
    exact ⟨hkept.trans hfw, hnone, fun h => absurd h (by decide), hrun⟩
  · have hz := State.confirmType_firmware hlive
    obtain ⟨hnone, hkept, hdesc, hrun⟩ := hsi (s.confirmType 0) (by rw [hz]; exact hlive)
    rw [if_pos rfl]
    refine ⟨hkept.trans (by rw [hz]), hnone, fun _ => ?_, fun h => ?_⟩
    · rw [hdesc, hz]
    · rw [hrun (by rw [hz]; exact h), hz]

theorem exec_confirmTimeout_early {t0 : Nat} {s : State}
    (h : (s.reg Reg.TRU_CONFIRM_S).toNat = 0 ∨ t0 < s.tru.runSince + (s.reg Reg.TRU_CONFIRM_S).toNat * secT) :
    exec (.confirmTimeout t0) s = .next (s.tick t0) :=
  if_pos (h.elim .inl fun h => .inr (.inr (.inl h)))

theorem exec_confirmTimeout_due {t0 : Nat} {s : State} (hset : (s.reg Reg.TRU_CONFIRM_S).toNat ≠ 0) (hruns : s.runs = true)
    (hact : s.gen.activating = false) (hlive : s.flashStopped = false)
    (hdue : s.tru.runSince + (s.reg Reg.TRU_CONFIRM_S).toNat * secT ≤ t0) :
    exec (.confirmTimeout t0) s = .next (s.tick t0).confirmTrials := by
  refine if_neg ?_
  rintro (h | h | h | h | h)
  · exact hset h
  · have hruns' : (s.tick t0).runs = true := hruns
    rw [hruns'] at h
    exact absurd h (by decide)
  · exact absurd hdue (Nat.not_le.mpr h)
  · exact Bool.false_ne_true (hact.symm.trans h)
  · exact Bool.false_ne_true (hlive.symm.trans h)

/-! ### O50 -/

/-- Settles O50: an answer and the pair's leave keep the image and the trust state, shedding keeps both and abandons all instances, and a load
is a descriptor's write, the image in place and the wait for time. -/
theorem imagesAreActivated : Obligations.ImagesAreActivated := by
  unfold Obligations.ImagesAreActivated
  refine ⟨?staging, ?stagedEnd, ?bootEnd, ?activate, ?refusals, ?reset, ?commit, ?lastCompletion, ?waiting,
    ?confirm, ?confirmed, ?stopped, ?early, ?due⟩
  case staging =>
    intro c s im h him
    have hserve (u : State) (r : Reply) (hf : doAdmit c (s.tick c.t) = (u, r)) : exec (.admitStaged c) s = .next (u.answer 0x105 c r) :=
      congrArg _ (State.serve_answered h hf)
    refine ⟨fun hadm hslack hfull => ⟨_, hserve _ _ rfl, ?_, ?_⟩, fun hadm hslack => hserve _ _ (doAdmit_of_noSlack him hadm hslack),
      fun hadm => hserve _ _ (doAdmit_of_running hadm)⟩
    · rw [(State.answer_imageKeeps _ _ _ _).gen]
      exact (doAdmit_of_slack (s := s.tick c.t) him hadm hslack hfull).1
    · rw [State.bit, (State.answer_imageKeeps _ _ _ _).regs _ (by decide)]
      exact (doAdmit_of_slack (s := s.tick c.t) him hadm hslack hfull).2
  case stagedEnd =>
    intro train t0 s j hadm hstaged hwork
    exact ⟨_, exec_admissionComplete_staged hadm hstaged hwork, (s.tick t0).endStaged_spec j _⟩
  case bootEnd =>
    intro train t0 s j hadm hboot
    refine ⟨_, exec_admissionComplete_boot hadm hboot, ?_⟩
    have hspec := (s.tick t0).bootAdmitted_spec j train t0
    change if _ then _ else if j.slot = s.tru.siSlot then _ else _ at hspec
    rw [State.slotByte_tick, State.admCtx_tick] at hspec
    split_ifs at hspec ⊢
    · exact ⟨hspec.running, hspec.power, hspec.done, hspec.lock⟩
    · exact hspec
    · exact hspec
  case activate =>
    intro c s h htype hreboot
    refine ⟨_, congrArg Host.Outcome.next (State.serve_of_takes h doActivate), ?_⟩
    split
    next st hst => rw [doActivate_of_refused htype hreboot hst]
    next hst =>
      obtain ⟨a, ha⟩ := doActivate_of_taken htype hreboot hst
      have hkept := ha.answer 0x106 (doActivate c (s.tick c.t)).2
      exact ⟨a, hkept.activation, hkept.type, hkept.token, hkept.before, hkept.act, hkept.generation, hkept.firmware, hkept.image, hkept.due⟩
  case refusals =>
    intro s type w rb _
    refine ⟨fun htype hready => ?_, fun htype hfw => ?_, fun htype hfw hbusy => ?_, fun htype hfw hbusy hsender hctl hcurrent => ?_,
      fun tl htype hready hbusy htl hw hlate => ?_⟩
    · simp [State.activateRefused, htype, hready]
    · simp [State.activateRefused, htype, hfw]
    · simp [State.activateRefused, htype, hfw, hbusy]
    · simp [State.activateRefused, htype, hfw, hbusy, hsender, hctl, hcurrent]
    · simp [State.activateRefused, htype, hready, hbusy, htl, hw, hlate]
  case reset =>
    intro t0 s a ha hact hdue hreset
    exact ⟨_, exec_activateCommit_reset ha hact hdue hreset, (s.tick t0).coreReset_spec 5⟩
  case commit =>
    intro t0 s a im ha hact hdue hreboot hrec him
    have hexec := exec_activateCommit_load ha hact hdue hreboot hrec
    obtain ⟨hclear, hissued⟩ := State.clearForLoad_spec (s := s.tick t0) him t0
    have him' : ((s.tick t0).clearForLoad t0).gen.running = some im := (congrArg GenSt.running hclear.gen).trans him
    rw [← hissued]
    refine ⟨fun hany => ?_, fun hnone htype => ?_, fun hnone htype => ?_⟩
    · rw [State.commitActivation_of_issued hany] at hexec
      exact ⟨_, hexec, State.awaitLoad_spec hclear him⟩
    · rw [State.commitActivation_of_idle hnone] at hexec
      obtain ⟨hactivating, hloaded, hrun, hlock, hall, hstate, hboot, htrial, hbooted, hdram⟩ := State.loadActivation_firmware him' htype t0
      refine ⟨_, hexec, hactivating, hloaded, hrun.trans him', hlock, hall.trans hclear.abandoned, hstate, hboot, htrial, fun hlive => hbooted ?_,
        fun halone => hdram.trans (State.clearForLoad_dram (s := s.tick t0) him halone t0)⟩
      rw [State.flashStopped, hclear.umb]
      exact hlive
    · rw [State.commitActivation_of_idle hnone] at hexec
      have hload := ((s.tick t0).clearForLoad t0).loadActivation_structure htype t0
      rw [hclear.trialSlot, hclear.slotByte] at hload
      exact ⟨_, hexec, hload⟩
  case lastCompletion => exact fun d s a ha hload hdrain hidle => exec_operationComplete_load ha hload hdrain hidle
  case waiting => exact fun t0 s h => exec_activateCommit_waiting h
  case confirm =>
    intro c s h htype hlive htrial hact
    refine ⟨_, exec_confirm_of_reply h (doConfirm_of_trial (s := s.tick c.t) htype hlive htrial hact), ?_⟩
    rw [(State.answer_imageKeeps _ _ _ _).tru, State.confirmType_firmware (s := s.tick c.t) hlive]
    exact ⟨rfl, rfl, rfl, rfl⟩
  case confirmed => exact fun c s h htype hlive hno => exec_confirm_of_reply h (doConfirm_of_confirmed htype hlive hno)
  case stopped => exact fun c s h htype hstop => exec_confirm_of_reply h (doConfirm_of_stopped htype hstop)
  case early => exact fun t0 s h => exec_confirmTimeout_early h
  case due =>
    intro t0 s hset hruns hact hlive hdue
    exact ⟨_, exec_confirmTimeout_due hset hruns hact hlive hdue, State.confirmTrials_spec (s := s.tick t0) hlive⟩

end Sys2Proof.Machine
end

section
/-! INSTANCE_LOAD, ISSUE_SLOT and DEPENDENCE_DECREMENT (R48, R49, R52). -/
namespace Sys2Proof.Machine

/-! ### What the schedule keeps of the loaded instances -/

/-- What no dispatch and no movement of time touches besides: the words that came early, the newest WFN, and which instances are in progress. -/
structure State.LoadKeeps (s t : State) : Prop where
  early : t.sch.early = s.sch.early
  newest : t.sch.newest = s.sch.newest
  wfns : t.sch.instances.map (·.wfn) = s.sch.instances.map (·.wfn)

theorem State.LoadKeeps.refl (s : State) : s.LoadKeeps s := ⟨rfl, rfl, rfl⟩

theorem State.LoadKeeps.trans {s t u : State} (h : s.LoadKeeps t) (k : t.LoadKeeps u) : s.LoadKeeps u :=
  ⟨k.early.trans h.early, k.newest.trans h.newest, k.wfns.trans h.wfns⟩

theorem State.LoadKeeps.foldl {α : Type} {f : State → α → State} (h : ∀ (s : State) a, s.LoadKeeps (f s a)) (l : List α) (s : State) :
    s.LoadKeeps (l.foldl f s) := by
  induction l generalizing s with
  | nil => exact .refl s
  | cons a l ih => exact (h s a).trans (ih (f s a))

theorem State.traceAppend_loadKeeps (s : State) (t : Nat) (r : TraceRec) : s.LoadKeeps (s.traceAppend t r) := by
  unfold State.traceAppend
  dsimp only
  split_ifs <;> exact ⟨rfl, rfl, rfl⟩

theorem State.trace_loadKeeps (s : State) (t : Nat) (r : TraceRec) : s.LoadKeeps (s.trace t r) := by
  unfold State.trace
  dsimp only
  split_ifs
  · exact .refl s
  · split
    · exact s.traceAppend_loadKeeps t r
    · split_ifs
      · exact ⟨rfl, rfl, rfl⟩
      · exact s.traceAppend_loadKeeps t r

theorem State.modOp_loadKeeps (s : State) (wfn op : Nat) (f : OpRun → OpRun) : s.LoadKeeps (s.modOp wfn op f) := by
  refine ⟨rfl, rfl, ?_⟩
  simp only [State.modOp, State.modInst, List.map_map]
  refine List.map_congr_left fun i _ => ?_
  dsimp only [Function.comp]
  split_ifs <;> rfl

theorem State.issue_loadKeeps (s : State) (im : Image) (f t op wfn : Nat) : s.LoadKeeps (s.issue im f t op wfn) := by
  unfold State.issue
  split
  · have hmod := s.modOp_loadKeeps wfn op (fun r => { r with status := .issued t })
    refine State.LoadKeeps.trans ?_ (State.trace_loadKeeps _ _ _)
    split_ifs
    · exact hmod.trans ⟨rfl, rfl, rfl⟩
    · exact hmod
  · exact .refl s

theorem State.dispatch_loadKeeps (s : State) (f t : Nat) : s.LoadKeeps (s.dispatch f t) := by
  obtain h | ⟨im, b, -, -, h⟩ := s.dispatch_cases f t
  · rw [h]; exact .refl s
  · rw [h]; exact s.issue_loadKeeps im f t _ _

theorem State.endPause_loadKeeps (s : State) (p : PauseRun) : s.LoadKeeps (s.endPause p) := by
  refine State.LoadKeeps.trans ?_ (.foldl (fun z k => z.dispatch_loadKeeps (4 * p.island + k) p.ends) _ _)
  dsimp only
  generalize hu : ({ s with sch := _ } : State) = u
  obtain ⟨l, hl⟩ := u.startChunk_chunks p.island p.ends p.windowEnds
  rw [hl, ← hu]
  exact ⟨rfl, rfl, rfl⟩

theorem State.advance_loadKeeps (s : State) (t : Nat) : s.LoadKeeps (s.advance t) :=
  State.LoadKeeps.trans (t := s.tick t) ⟨rfl, rfl, rfl⟩ (.foldl State.endPause_loadKeeps _ _)

/-- No WFN's instances come or go. -/
theorem State.LoadKeeps.inst?_eq_none {s t : State} (h : s.LoadKeeps t) {wfn : Nat} (hno : s.inst? wfn = none) : t.inst? wfn = none := by
  have hmem (z : State) : z.inst? wfn = none ↔ wfn ∉ z.sch.instances.map (·.wfn) := by
    simp [State.inst?, List.find?_eq_none]
  rw [hmem, h.wfns, ← hmem]
  exact hno

theorem State.LoadKeeps.earlyOf {s t : State} (h : s.LoadKeeps t) (wfn : Nat) : t.earlyOf wfn = s.earlyOf wfn := by
  funext w
  rw [State.earlyOf, h.early, State.earlyOf]

/-! ### INSTANCE_LOAD (R48, R52) -/

/-- What a WFN starts with: every operation waits with its declared count, and the words that came early are delivered. -/
def State.freshInstance (s : State) (im : Image) (wfn t : Nat) : Instance :=
  let got := (List.range im.windows.length).map (s.earlyOf wfn)
  { wfn := wfn, delivered := got, fired := (im.windows.zip got).map (fun p => p.2 == p.1.words), tag := false, abandoned := false,
    ops := im.ops.map (fun o => { status := .waiting, counter := o.depInit, zeroAt := t, breached := false, tainted := false, stalled := none }) }

/-- It joins the instances in progress, its early words with it. -/
def State.addInstance (s : State) (i : Instance) : State :=
  s.withSch { s.sch with instances := s.sch.instances ++ [i], newest := i.wfn, early := s.sch.early.filter (fun e => e.1 != i.wfn) }

/-- The windows that early words have filled fire their arrival events. -/
def State.fireFilled (s : State) (im : Image) (i : Instance) : State :=
  (im.windows.zip i.delivered).foldl (fun z p => if p.2 = p.1.words then z.fireWindow im i.wfn p.1 else z) s

/-- A load: it joins the instances in progress, its filled windows fire, SCH_INSTANCE names it, and the trace records it. -/
def State.loadInstance (s : State) (im : Image) (i : Instance) (t : Nat) : State :=
  (((s.addInstance i).fireFilled im i).setNum Reg.SCH_INSTANCE i.wfn).trace t
    { time := 0, wfn := i.wfn % 65536, facet := 0xFF, event := 8, cause := 0, object := 0, value := (i.wfn / 65536) % 2 ^ 32 }

theorem exec_instanceLoad_of_due {wfn : Nat} {s : State} {im : Image} (him : s.gen.running = some im) (hno : s.inst? wfn = none)
    (hbist : s.dbg.bist = none) (hload : s.gen.loadDue = false) (harmed : 2 ≤ s.get Reg.FLK_STATE Fld.FLK_STATE_STATE)
    (hf0 : s.flk.f0 ≤ wfn) {t : Nat} (ht : t = refAt im wfn - usT) :
    exec (.instanceLoad wfn) s = .next ((s.advance t).loadInstance im ((s.advance t).freshInstance im wfn t) t) := by
  have hdue : ¬((s.inst? wfn).isSome ∨ s.dbg.bist.isSome ∨ s.gen.loadDue ∨ s.get Reg.FLK_STATE Fld.FLK_STATE_STATE < 2 ∨ wfn < s.flk.f0) := by
    simp [hno, hbist, hload]
    omega
  change execInstanceLoad wfn s = _
  simp only [execInstanceLoad, him, if_neg hdue, ← ht]
  rfl

theorem State.fireFilled_keeps (s : State) (im : Image) (i : Instance) :
    (s.fireFilled im i).sch.instances = s.sch.instances ∧ (s.fireFilled im i).sch.newest = s.sch.newest := by
  unfold State.fireFilled
  generalize im.windows.zip i.delivered = l
  induction l generalizing s with
  | nil => exact ⟨rfl, rfl⟩
  | cons p l ih =>
    obtain ⟨hinst, hnew⟩ := ih (if p.2 = p.1.words then s.fireWindow im i.wfn p.1 else s)
    rw [List.foldl_cons, hinst, hnew]
    split_ifs <;> exact ⟨rfl, rfl⟩

theorem State.inst?_congr {s t : State} (h : t.sch.instances = s.sch.instances) (wfn : Nat) : t.inst? wfn = s.inst? wfn := by
  rw [State.inst?, h, State.inst?]

theorem State.inst?_addInstance {s : State} {i : Instance} (h : s.inst? i.wfn = none) : (s.addInstance i).inst? i.wfn = some i := by
  simp only [State.inst?] at h
  simp [State.inst?, State.addInstance, State.withSch, List.find?_append, h]

theorem State.loadInstance_spec {s : State} {i : Instance} (h : s.inst? i.wfn = none) (im : Image) (t : Nat) :
    (s.loadInstance im i t).inst? i.wfn = some i ∧ (s.loadInstance im i t).sch.newest = i.wfn ∧
      (s.loadInstance im i t).reg Reg.SCH_INSTANCE = BitVec.ofNat 32 i.wfn := by
  obtain ⟨hinst, hnew⟩ := (s.addInstance i).fireFilled_keeps im i
  have htrace := State.trace_traceKeeps (((s.addInstance i).fireFilled im i).setNum Reg.SCH_INSTANCE i.wfn) t
  refine ⟨?_, (State.trace_loadKeeps _ _ _).newest.trans hnew, ?_⟩
  · rw [State.loadInstance, State.inst?_congr ((htrace _).instances.trans hinst), State.inst?_addInstance h]
  · rw [State.loadInstance, (htrace _).regs _ (by decide), State.reg_setNum, if_pos rfl]

/-! ### ISSUE_SLOT (R49) -/

/-- The facet, idle and not paused, issues the first of its ready operations. -/
theorem State.dispatch_of_ready {s : State} {im : Image} {f t op wfn : Nat} {x : Nat × Nat × Nat} {xs : List (Nat × Nat × Nat)}
    (him : s.gen.running = some im) (hidle : s.facetBusy im f = false) (hrun : s.paused (f / 4) t = false)
    (hready : s.readyList im f t = x :: xs) (hfirst : (xs.foldl earlier x).2 = (op, wfn)) : s.dispatch f t = s.issue im f t op wfn := by
  simp only [State.dispatch, him, hidle, hrun, hready, hfirst, Bool.or_self, Bool.false_eq_true, if_false]

theorem State.opRun?_issue {s : State} {im : Image} {op wfn : Nat} {o : OpRec} {r : OpRun} (ho : im.ops[op]? = some o)
    (hr : s.opRun? wfn op = some r) (f t : Nat) (v k : Nat) :
    (s.issue im f t op wfn).opRun? v k =
      if v = wfn ∧ k = op then (s.opRun? v k).map (fun r => { r with status := .issued t }) else s.opRun? v k := by
  rw [State.opRun?_congr (State.issue_traceKeeps ho hr f t).instances, State.opRun?_modOp]

theorem exec_issueSlot {wfn op : Nat} {s : State} {im : Image} {o : OpRec} (him : s.gen.running = some im) (ho : im.ops[op]? = some o) :
    exec (.issueSlot wfn op) s = .next ((s.advance (issueAt im wfn o)).dispatch o.facet (issueAt im wfn o)) := by
  change execIssueSlot wfn op s = _
  simp only [execIssueSlot, him, State.opRec?_of_image him ho]

/-! ### DEPENDENCE_DECREMENT (R48) -/

/-- A dispatch changes no counter. -/
theorem State.counter_dispatch (s : State) (f t v k : Nat) :
    ((s.dispatch f t).opRun? v k).map (·.counter) = (s.opRun? v k).map (·.counter) := by
  obtain heq | ⟨im, b, -, -, heq⟩ := s.dispatch_cases f t
  · rw [heq]
  · rw [heq]
    cases ho : im.ops[b.2.1]? with
    | none => simp only [State.issue, ho]
    | some o =>
      cases hr : s.opRun? b.2.2 b.2.1 with
      | none => simp only [State.issue, ho, hr]
      | some r =>
        rw [State.opRun?_issue ho hr]
        split_ifs
        · rw [Option.map_map]; rfl
        · rfl

/-- A pending decrement is used up. -/
def State.dropDecrement (s : State) (wfn op : Nat) : State := s.withSch { s.sch with decrements := s.sch.decrements.erase (wfn, op) }

/-- A decrement takes 1 off an operation's counter, and records the instant at which it comes to 0. -/
def State.countDown (s : State) (wfn op t : Nat) : State :=
  s.modOp wfn op (fun r => { r with counter := r.counter - 1, zeroAt := if r.counter = 1 then t else r.zeroAt })

theorem exec_dependenceDecrement_of_pending {wfn op t : Nat} {s : State} {im : Image} {o : OpRec} {r : OpRun}
    (him : s.gen.running = some im) (ho : im.ops[op]? = some o) (hr : (s.advance t).opRun? wfn op = some r)
    (hd : (wfn, op) ∈ s.sch.decrements) (hc : 0 < r.counter) :
    exec (.dependenceDecrement wfn op t) s = .next ((((s.advance t).dropDecrement wfn op).countDown wfn op t).dispatch o.facet t) := by
  have hadv := s.advance_bookKeeps t
  have ho' : (s.advance t).opRec? op = some o := State.opRec?_of_image (by rw [hadv.gen, him]) ho
  have hd' : (s.advance t).sch.decrements.contains (wfn, op) = true := by
    rw [hadv.decrements, List.contains_iff_mem]
    exact hd
  change execDependenceDecrement wfn op t s = _
  simp only [execDependenceDecrement, ho', hr, hd', if_neg hc.ne', Bool.not_true, Bool.false_eq_true, if_false]
  rfl

/-! ### The statement -/

/-- Settles O4: a load, an issue slot and a decrement, each after what the movement of time to its instant leaves alone. -/
theorem instancesLoadIssueAndCount : Obligations.InstancesLoadIssueAndCount := by
  refine ⟨fun wfn s im him hno hbist hload harmed hf0 => ?load, fun wfn op s im o r x xs him ho hr hidle hrun hready hfirst => ?issue,
    fun wfn op t0 s im o r him ho hr hd hc => ?decrement⟩
  case load =>
    obtain ⟨t, ht⟩ : ∃ t, t = refAt im wfn - usT := ⟨_, rfl⟩
    have hadv := s.advance_loadKeeps t
    obtain ⟨hinst, hnew, hreg⟩ := State.loadInstance_spec (i := (s.advance t).freshInstance im wfn t) (hadv.inst?_eq_none hno) im t
    refine ⟨_, _, exec_instanceLoad_of_due him hno hbist hload harmed hf0 ht, hinst, rfl, rfl, ?_, ?_, ?_, hnew, hreg⟩
    · rw [State.freshInstance, List.map_map]
      rfl
    · exact List.forall_mem_map.mpr fun o _ => rfl
    · rw [State.freshInstance, hadv.earlyOf]
  case issue =>
    have him' : (s.advance (issueAt im wfn o)).gen.running = some im := by rw [(s.advance_bookKeeps _).gen, him]
    refine ⟨_, { r with status := .issued (issueAt im wfn o) }, exec_issueSlot him ho, ?_, rfl, rfl⟩
    rw [State.dispatch_of_ready him' hidle hrun hready hfirst, State.opRun?_issue ho hr, if_pos ⟨rfl, rfl⟩, hr, Option.map_some]
  case decrement =>
    have hcount : ((((s.advance t0).dropDecrement wfn op).countDown wfn op t0).opRun? wfn op).map (·.counter) = some (r.counter - 1) := by
      rw [State.countDown, State.opRun?_modOp, if_pos ⟨rfl, rfl⟩, State.opRun?_congr (t := (s.advance t0).dropDecrement wfn op) (s := s.advance t0) rfl, hr]
      rfl
    rw [← State.counter_dispatch _ o.facet t0] at hcount
    obtain ⟨r', hr', hc'⟩ := Option.map_eq_some_iff.mp hcount
    refine ⟨_, r', exec_dependenceDecrement_of_pending him ho hr hd hc, hr', hc', ?_⟩
    rw [(State.dispatch_bookKeeps _ _ _).decrements]
    exact congrArg (·.erase (wfn, op)) (s.advance_bookKeeps t0).decrements

end Sys2Proof.Machine
end

section
/-! Writes of the image's graphs into device DRAM (R104, R108): which bytes they reach. -/
namespace Sys2Proof.Machine

/-! ### Bytes written -/

/-- Between two states the memory controller is as it was, and every byte of DRAM outside a set. -/
structure State.WritesWithin (P : Nat → Prop) (s t : State) : Prop where
  drc : t.drc = s.drc
  cells : ∀ a, ¬P a → cellGet (fun _ => (0 : Byte)) t.dram a = cellGet (fun _ => (0 : Byte)) s.dram a

theorem State.WritesWithin.refl (P : Nat → Prop) (s : State) : State.WritesWithin P s s := ⟨rfl, fun _ _ => rfl⟩

theorem State.WritesWithin.trans {P : Nat → Prop} {s t u : State} (h : State.WritesWithin P s t) (k : State.WritesWithin P t u) :
    State.WritesWithin P s u := ⟨k.drc.trans h.drc, fun a ha => (k.cells a ha).trans (h.cells a ha)⟩

theorem State.WritesWithin.withCmp {P : Nat → Prop} {s t : State} (h : State.WritesWithin P s t) (x : CmpSt) :
    State.WritesWithin P s { t with cmp := x } := ⟨h.drc, h.cells⟩

theorem State.WritesWithin.foldl {α : Type} {P : Nat → Prop} {f : State → α → State} {l : List α}
    (h : ∀ (s : State), ∀ a ∈ l, State.WritesWithin P s (f s a)) (s : State) : State.WritesWithin P s (l.foldl f s) := by
  induction l generalizing s with
  | nil => exact .refl P s
  | cons a l ih => exact (h s a List.mem_cons_self).trans (ih (fun z b hb => h z b (List.mem_cons_of_mem a hb)) _)

theorem State.cellGet_dramWrite (s : State) (a : Nat) (bs : List Byte) (b : Nat) :
    cellGet (fun _ => (0 : Byte)) (s.dramWrite a bs).dram b =
      if a ≤ b ∧ b < a + bs.length then bs.getD (b - a) 0 else cellGet (fun _ => (0 : Byte)) s.dram b :=
  cellGet_cellSetMany _ _ _ _ _

theorem State.dramWrite_within {P : Nat → Prop} (s : State) {a : Nat} {bs : List Byte} (h : ∀ b, a ≤ b → b < a + bs.length → P b) :
    State.WritesWithin P s (s.dramWrite a bs) :=
  ⟨rfl, fun b hb => by rw [State.cellGet_dramWrite, if_neg fun hin => hb (h b hin.1 hin.2)]⟩

/-! ### Samples and bricks (R101 to R103) -/

theorem fmtPlanes_le_four (f : Nat) : fmtPlanes f ≤ 4 := by
  unfold fmtPlanes
  split_ifs <;> omega

theorem planeSize_bounds (f p : Nat) : (planeSize f p).1 ≤ 64 ∧ (planeSize f p).2 ≤ 16 := by
  unfold planeSize
  split_ifs <;> decide

/-- A cell of a grid of blocks lies inside the grid, and inside any grid of larger blocks. -/
theorem block_mul_add_lt {i n j m k : Nat} (hi : i < n) (hj : j < m) (hm : m ≤ k) : i * m + j < n * k :=
  calc i * m + j < (i + 1) * m := by rw [Nat.add_one_mul]; omega
    _ ≤ n * k := Nat.mul_le_mul hi hm

theorem State.putSample_within (s : State) (v : Surface) {c x y : Nat} (hc : c < 4) (hx : x < roundUp 64 v.width)
    (hy : y < roundUp 16 v.height) (val : Nat) : State.WritesWithin (sampleByte v) s (s.putSample v c x y val) := by
  have hsample (b : Nat) (hlo : sampleAddr v c x y ≤ b) (hhi : b < sampleAddr v c x y + 2) : sampleByte v b :=
    .inl ⟨c, x, y, hc, hx, hy, hlo, hhi⟩
  unfold State.putSample
  dsimp only
  split_ifs
  · exact s.dramWrite_within fun b hlo hhi => hsample b hlo (by rw [List.length_singleton] at hhi; omega)
  · exact s.dramWrite_within fun b hlo hhi => hsample b hlo (by rwa [leBytes_length] at hhi)

/-- A packed string takes whole units of 64 bytes (R103). -/
theorem packBytes_length_dvd (bs : List Bool) : 64 ∣ (packBytes bs).length := by simp [packBytes, roundUp]

section
variable {v : Surface} (hl : v.layout = 2)
include hl

theorem sampleByte_header {k : Nat} (hk : k < brickCols v.width * brickRows v.height) : sampleByte v (headerAddr v k) :=
  .inr ⟨hl, k, hk, .inl rfl⟩

theorem sampleByte_slot {k a : Nat} (hk : k < brickCols v.width * brickRows v.height) (hlo : v.base + k * brickBytes v.fmt ≤ a)
    (hhi : a < v.base + (k + 1) * brickBytes v.fmt) : sampleByte v a := .inr ⟨hl, k, hk, .inr ⟨hlo, hhi⟩⟩

theorem State.writeHeader_within (s : State) {k : Nat} (hk : k < brickCols v.width * brickRows v.height) (b : Byte) :
    State.WritesWithin (sampleByte v) s (s.dramWrite (headerAddr v k) [b]) := by
  refine s.dramWrite_within fun a hlo hhi => ?_
  rw [List.length_singleton] at hhi
  obtain rfl : a = headerAddr v k := by omega
  exact sampleByte_header hl hk

/-- Whole units fewer than a brick's stay inside its slot. -/
theorem State.writeSlot_within (s : State) {k : Nat} (hk : k < brickCols v.width * brickRows v.height) {bs : List Byte} (h64 : 64 ∣ bs.length)
    (hlen : bs.length / 64 < brickBytes v.fmt / 64) : State.WritesWithin (sampleByte v) s (s.dramWrite (v.base + k * brickBytes v.fmt) bs) := by
  refine s.dramWrite_within fun a hlo hhi => sampleByte_slot hl hk hlo (hhi.trans_le ?_)
  rw [Nat.add_one_mul]
  omega

/-- Coding a brick writes its samples raw, or its slot, and its header byte. -/
theorem State.writeBrick_within (s : State) {bx by' : Nat} (hbx : bx < brickCols v.width) (hby : by' < brickRows v.height)
    (x : Nat → Nat → Nat → Nat) : State.WritesWithin (sampleByte v) s (s.writeBrick v bx by' x) := by
  have hk : by' * brickCols v.width + bx < brickCols v.width * brickRows v.height := by
    rw [Nat.mul_comm (brickCols v.width)]
    exact block_mul_add_lt hby hbx le_rfl
  unfold State.writeBrick
  dsimp only
  split_ifs with hraw
  · refine State.WritesWithin.trans ?_ (State.writeHeader_within hl _ hk _)
    refine .foldl (fun z p hp => .foldl (fun y k hk => ?_) z) s
    obtain ⟨hw, hh⟩ := planeSize_bounds v.fmt p
    have hcell : k < (planeSize v.fmt p).1 * (planeSize v.fmt p).2 := List.mem_range.mp hk
    have hpos : 0 < (planeSize v.fmt p).1 := Nat.pos_of_mul_pos_right (Nat.zero_lt_of_lt hcell)
    exact y.putSample_within v ((List.mem_range.mp hp).trans_le (fmtPlanes_le_four v.fmt))
      (block_mul_add_lt hbx (Nat.mod_lt k hpos) hw) (block_mul_add_lt hby (Nat.div_lt_of_lt_mul hcell) hh) _
  · exact (State.writeSlot_within hl s hk (packBytes_length_dvd _) (Nat.lt_of_not_ge hraw)).trans (State.writeHeader_within hl _ hk _)

theorem State.codeGraphBrick_within (s : State) {k : Nat} (hk : k < brickCols v.width * brickRows v.height) :
    State.WritesWithin (sampleByte v) s (s.codeGraphBrick v k) := by
  have hpos : 0 < brickCols v.width := Nat.pos_of_mul_pos_right (Nat.zero_lt_of_lt hk)
  exact (State.writeBrick_within hl s (Nat.mod_lt k hpos) (Nat.div_lt_of_lt_mul hk) _).withCmp _

end

/-! ### GRAPH writes (R104, R108) -/

/-- The surface that holds an address. -/
def State.surfaceAt? (s : State) (a : Nat) : Option Surface :=
  s.cmp.surfaces.find? (fun v => decide (v.base ≤ a) && decide (a < v.base + v.size))

/-- The address lies in the host pool. -/
def State.inPool (s : State) (a : Nat) : Prop := s.pool.1 * 65536 ≤ a ∧ a < (s.pool.1 + s.pool.2) * 65536

/-- A surface takes writes unless it is RETIRING and no pool surface (R108). -/
theorem not_retired_iff {v : Surface} : ¬(v.retiring = true ∧ v.fmt ≠ 0x11) ↔ v.retiring = false ∨ v.fmt = 0x11 := by
  rw [not_and_or, not_not, Bool.not_eq_true]

theorem State.graphWrite_of_open {s : State} {a : Nat} (h : (s.surfaceAt? a = none ∧ ¬s.inPool a) ∨
    ∃ v, s.surfaceAt? a = some v ∧ v.layout ≠ 2 ∧ (v.retiring = false ∨ v.fmt = 0x11)) (bs : List Byte) :
    s.graphWrite a bs = s.dramWrite a bs := by
  unfold State.surfaceAt? State.inPool at h
  obtain ⟨hnone, hout⟩ | ⟨v, hv, hl, hlive⟩ := h
  · simp only [State.graphWrite, hnone, if_neg hout]
  · simp only [State.graphWrite, hv, if_neg (not_retired_iff.mpr hlive), if_pos hl]

theorem State.graphWrite_of_dropped {s : State} {a : Nat} (h : (s.surfaceAt? a = none ∧ s.inPool a) ∨
    ∃ v, s.surfaceAt? a = some v ∧ v.retiring = true ∧ v.fmt ≠ 0x11) (bs : List Byte) :
    s.graphWrite a bs = s.bump Reg.CMP_RETIRED_DROP 1 := by
  unfold State.surfaceAt? State.inPool at h
  obtain ⟨hnone, hin⟩ | ⟨v, hv, hretired⟩ := h
  · simp only [State.graphWrite, hnone, if_pos hin]
  · simp only [State.graphWrite, hv, if_pos hretired]

/-- A write into a PACKED surface reaches its bricks and their headers alone. -/
theorem State.graphWrite_packed_within {s : State} {a : Nat} {v : Surface} (hv : s.surfaceAt? a = some v) (hl : v.layout = 2)
    (hlive : v.retiring = false ∨ v.fmt = 0x11) (bs : List Byte) : State.WritesWithin (sampleByte v) s (s.graphWrite a bs) := by
  unfold State.surfaceAt? at hv
  simp only [State.graphWrite, hv, if_neg (not_retired_iff.mpr hlive), hl, ne_eq, not_true_eq_false, if_false]
  refine ((State.WritesWithin.refl _ s).withCmp _).trans (.foldl (fun z k hk => ?_) _)
  split_ifs
  · exact State.codeGraphBrick_within hl z (of_decide_eq_true (List.mem_filter.mp hk).2)
  · exact .refl _ z

/-- A graph's write leaves the memory controller. -/
theorem State.graphWrite_drc (s : State) (a : Nat) (bs : List Byte) : (s.graphWrite a bs).drc = s.drc := by
  cases hv : s.surfaceAt? a with
  | none =>
    by_cases hin : s.inPool a
    · rw [State.graphWrite_of_dropped (.inl ⟨hv, hin⟩), State.bump_drc]
    · rw [State.graphWrite_of_open (.inl ⟨hv, hin⟩)]
      rfl
  | some v =>
    by_cases hretired : v.retiring = true ∧ v.fmt ≠ 0x11
    · rw [State.graphWrite_of_dropped (.inr ⟨v, hv, hretired⟩), State.bump_drc]
    · have hlive := not_retired_iff.mp hretired
      by_cases hl : v.layout = 2
      · exact (State.graphWrite_packed_within hv hl hlive bs).drc
      · rw [State.graphWrite_of_open (.inr ⟨v, hv, hl, hlive⟩)]
        rfl

end Sys2Proof.Machine
end

section
/-! Requests, grants and read data of the memory controller (R55, R104, R108, R248, R250, R251, R262). -/
namespace Sys2Proof.Machine

/-! ### Ports and channels -/

@[simp] theorem State.dramPort_port (s : State) (p : Nat) : (s.dramPort p).port = p := by
  unfold State.dramPort
  cases h : s.drc.ports.find? (fun x => x.port == p) with
  | none => rfl
  | some x => exact eq_of_beq (List.find?_some h :)

theorem State.dramPort_congr {s t : State} (h : t.drc.ports = s.drc.ports) (p : Nat) : t.dramPort p = s.dramPort p := by
  rw [State.dramPort, h, State.dramPort]

theorem State.dramPort_putPort (s : State) {q : DramPort} {p : Nat} (h : q.port = p) : (s.putPort q).dramPort p = q := by
  subst h
  have hgone : (s.drc.ports.filter (fun x => x.port != q.port)).find? (fun x => x.port == q.port) = none :=
    List.find?_eq_none.mpr fun x hx => by simpa using (List.mem_filter.mp hx).2
  simp [State.dramPort, State.putPort, List.find?_append, hgone]

theorem State.dramChan?_modChan (s : State) (c : Nat) {f : DramChan → DramChan} (hf : ∀ x, (f x).channel = x.channel) :
    (s.modChan c f).dramChan? c = (s.dramChan? c).map f := by
  have hkeep : (fun x : DramChan => x.channel == c) ∘ (fun x => if x.channel = c then f x else x) = fun x => x.channel == c := by
    funext x
    dsimp only [Function.comp]
    split_ifs
    · rw [hf]
    · rfl
  unfold State.dramChan? State.modChan
  rw [List.find?_map, hkeep]
  cases h : s.drc.chans.find? (fun x => x.channel == c) with
  | none => rfl
  | some x =>
    have hc : x.channel = c := eq_of_beq (List.find?_some h :)
    rw [Option.map_some, Option.map_some, if_pos hc]

/-! ### DRAM_REQUEST (R248, R250, R262) -/

/-- The port presents its head. -/
def State.presentHead (s : State) (r : DramReq) : State := s.putPort { s.dramPort r.port with head := some r }

/-- A request reaches its channel: it abandons an entry into self-refresh before the commit point, and forces the exit after it. -/
def State.wakeChannel (s : State) (c t : Nat) : State :=
  match s.dramChan? c with
  | none => s
  | some x =>
    match x.srCommit with
    | none => s.modChan c (fun y => { y with idleSince := t })
    | some k =>
      if t < k then (s.bump Reg.DRC_SR_ABANDON 1).modChan c (fun y => { y with srCommit := none, idleSince := t })
      else if x.exiting then s
      else (s.bump Reg.DRC_SR_COLLIDE 1).modChan c (fun y => { y with exiting := true })

theorem State.dramPort_presentHead (s : State) (r : DramReq) : ((s.presentHead r).dramPort r.port).head = some r := by
  rw [State.presentHead, State.dramPort_putPort s (q := { s.dramPort r.port with head := some r }) (s.dramPort_port r.port)]

theorem State.wakeChannel_keeps (s : State) (c t : Nat) : (s.wakeChannel c t).drc.ports = s.drc.ports ∧ (s.wakeChannel c t).dram = s.dram := by
  unfold State.wakeChannel
  split
  · exact ⟨rfl, rfl⟩
  · split
    · exact ⟨rfl, rfl⟩
    · split_ifs <;> exact ⟨rfl, rfl⟩

section
variable {s : State} {c t k : Nat} {x : DramChan} (hx : s.dramChan? c = some x) (hk : x.srCommit = some k)
include hx hk

/-- Before the commit point the entry is abandoned. -/
theorem State.wakeChannel_before (ht : t < k) :
    (s.wakeChannel c t).reg Reg.DRC_SR_ABANDON = satAdd (s.reg Reg.DRC_SR_ABANDON) 1 ∧
      ((s.wakeChannel c t).dramChan? c).map (·.srCommit) = some none := by
  simp only [State.wakeChannel, hx, hk, if_pos ht]
  have hx' : (s.bump Reg.DRC_SR_ABANDON 1).dramChan? c = some x := hx
  refine ⟨State.reg_bump s _ _ _, ?_⟩
  rw [State.dramChan?_modChan _ c (f := fun y => { y with srCommit := none, idleSince := t }) (fun _ => rfl), hx']
  rfl

/-- From the commit point on the exit is forced, and a first such request counts. -/
theorem State.wakeChannel_after (ht : k ≤ t) :
    (s.wakeChannel c t).dramChan? c = some { x with exiting := true } ∧
      (s.wakeChannel c t).reg Reg.DRC_SR_COLLIDE =
        (if x.exiting then s.reg Reg.DRC_SR_COLLIDE else satAdd (s.reg Reg.DRC_SR_COLLIDE) 1) := by
  have hwake : s.wakeChannel c t = if x.exiting then s else (s.bump Reg.DRC_SR_COLLIDE 1).modChan c (fun y => { y with exiting := true }) := by
    simp only [State.wakeChannel, hx, hk, if_neg ht.not_gt]
  rw [hwake]
  split_ifs with hexit
  · obtain ⟨_, _, _, _, _, _, _⟩ := x
    cases hexit
    exact ⟨hx, rfl⟩
  · have hx' : (s.bump Reg.DRC_SR_COLLIDE 1).dramChan? c = some x := hx
    refine ⟨?_, State.reg_bump s _ _ _⟩
    rw [State.dramChan?_modChan _ c (f := fun y => { y with exiting := true }) (fun _ => rfl), hx']
    rfl

end

section
variable {r : DramReq} {s : State} {d : DramRec} (hd : s.dramRec? = some d)
include hd

theorem exec_dramRequest_of_outside (h : dramBytes d < r.addr + 64 * r.words) : exec (.dramRequest r) s = .fault .unpopulatedDram := by
  have hd' : (s.tick r.t).dramRec? = some d := hd
  change execDramRequest r s = _
  simp only [execDramRequest, hd', if_pos h]

theorem exec_dramRequest_of_taken (h : r.addr + 64 * r.words ≤ dramBytes d)
    (hno : s.portRec? r.port = none ∨ (s.dramPort r.port).head.isSome = true) : exec (.dramRequest r) s = .next (s.tick r.t) := by
  have hd' : (s.tick r.t).dramRec? = some d := hd
  have hno' : ((s.tick r.t).portRec? r.port).isNone = true ∨ ((s.tick r.t).dramPort r.port).head.isSome = true :=
    hno.imp_left Option.isNone_iff_eq_none.mpr
  change execDramRequest r s = _
  simp only [execDramRequest, hd', if_neg h.not_gt, if_pos hno']

theorem exec_dramRequest_of_free (h : r.addr + 64 * r.words ≤ dramBytes d) (hport : (s.portRec? r.port).isSome = true)
    (hhead : (s.dramPort r.port).head = none) :
    exec (.dramRequest r) s = .next (((s.tick r.t).presentHead r).wakeChannel (s.channelOf r.port r.addr) r.t) := by
  have hd' : (s.tick r.t).dramRec? = some d := hd
  have hfree : ¬(((s.tick r.t).portRec? r.port).isNone = true ∨ ((s.tick r.t).dramPort r.port).head.isSome = true) := by
    rintro (hnone | hsome)
    · exact absurd (Option.isNone_iff_eq_none.mp hnone) (Option.isSome_iff_ne_none.mp hport)
    · exact absurd hhead (Option.isSome_iff_ne_none.mp hsome)
  change execDramRequest r s = _
  simp only [execDramRequest, hd', if_neg h.not_gt, if_neg hfree]
  change (match ((s.tick r.t).presentHead r).dramChan? (s.channelOf r.port r.addr) with | none => _ | some x => _) = _
  unfold State.wakeChannel
  cases ((s.tick r.t).presentHead r).dramChan? (s.channelOf r.port r.addr) with
  | none => rfl
  | some x =>
    dsimp only
    cases x.srCommit with
    | none => rfl
    | some k =>
      dsimp only
      split_ifs <;> rfl

end

/-! ### DRAM_GRANT (R104, R108, R251) -/

/-- A port's counts after the grant of its head. -/
def State.grantedPort (s : State) (q : DramReq) (t : Nat) : DramPort :=
  let p := s.dramPort q.port
  { p with head := none, lastGrant := some t, served := p.served + 64 * q.words, maxLat := Nat.max p.maxLat (satTo 65535 ((t - q.t) / nsT)),
           l3 := satTo 0xFFFFFFFF (p.l3 + flag (s.urgency q t == 3)) }

/-- The grant of a head: its port is free again, and its row open. -/
def State.serveHead (s : State) (q : DramReq) (t : Nat) : State :=
  ((s.putPort (s.grantedPort q t)).openRow (s.channelOf q.port q.addr) q t).modChan (s.channelOf q.port q.addr) (fun y => { y with idleSince := t })

theorem State.dramPort_serveHead (s : State) (q : DramReq) (t : Nat) : (s.serveHead q t).dramPort q.port = s.grantedPort q t := by
  rw [State.dramPort_congr (t := s.serveHead q t) (s := s.putPort (s.grantedPort q t)) rfl,
    State.dramPort_putPort s (q := s.grantedPort q t) (s.dramPort_port q.port)]

theorem exec_dramGrant_of_none {t : Nat} {s : State} (h : s.grantee? t = none) : exec (.dramGrant t) s = .next (s.tick t) := by
  have h' : (s.tick t).grantee? t = none := h
  change execDramGrant t s = _
  simp only [execDramGrant, h']

theorem exec_dramGrant_of_grantee {t : Nat} {s : State} {q : DramReq} (h : s.grantee? t = some q) :
    exec (.dramGrant t) s = .next (if q.write then ((s.tick t).serveHead q t).graphWrite q.addr (q.data.take (64 * q.words))
      else (s.tick t).serveHead q t) := by
  have h' : (s.tick t).grantee? t = some q := h
  change execDramGrant t s = _
  simp only [execDramGrant, h']
  split_ifs <;> rfl

/-! ### DRAM_READ_RETURN (R55, R248) -/

/-- The words of a read that failed at first and again at the repeat. -/
def failedTwice (r : DramRead) : List Nat := r.failedAgain.filter (fun w => r.failed.contains w && decide (w < r.words))

/-- The operation that reads words that failed twice works on tagged data. -/
def State.tagReader (s : State) (r : DramRead) : State :=
  match r.op with
  | some o => if failedTwice r = [] then s else s.modOp o.1 o.2 (fun x => { x with tainted := true })
  | none => s

/-- The words that failed twice count, and their reader is tagged. -/
def State.noteRead (s : State) (r : DramRead) : State := (s.bump Reg.DRC_META_ERR (failedTwice r).length).tagReader r

theorem exec_dramReadReturn (r : DramRead) (s : State) :
    exec (.dramReadReturn r) s = .next (((s.tick r.t).noteRead r).emit
      (.dramData r.port (cellRead (fun _ => 0) ((s.tick r.t).noteRead r).dram r.addr (64 * r.words)) (failedTwice r))) := rfl

theorem State.noteRead_keeps (s : State) (r : DramRead) :
    (s.noteRead r).dram = s.dram ∧ (s.noteRead r).out = s.out ∧ (s.noteRead r).regs = (s.bump Reg.DRC_META_ERR (failedTwice r).length).regs := by
  unfold State.noteRead State.tagReader
  split
  · split_ifs <;> exact ⟨rfl, rfl, rfl⟩
  · exact ⟨rfl, rfl, rfl⟩

theorem State.noteRead_tags (s : State) {r : DramRead} {o : Nat × Nat} (ho : r.op = some o) (hbad : failedTwice r ≠ []) :
    (s.noteRead r).sch = (s.modOp o.1 o.2 (fun x => { x with tainted := true })).sch := by
  rw [State.noteRead, State.tagReader, ho]
  dsimp only
  rw [if_neg hbad]
  rfl

theorem State.noteRead_untagged (s : State) {r : DramRead} (h : r.op = none ∨ failedTwice r = []) : (s.noteRead r).sch = s.sch := by
  unfold State.noteRead State.tagReader
  split
  next o ho =>
    have hgood : failedTwice r = [] := h.resolve_left (by simp [ho])
    rw [if_pos hgood, State.bump_sch]
  · rfl

/-! ### The statement -/

/-- Settles O34: a request by the state of its port and channel, a grant by where its head's address lies, a read by the words that failed
twice. -/
theorem dramRequestsAreServed : Obligations.DramRequestsAreServed := by
  refine ⟨fun r s d hd hout => exec_dramRequest_of_outside hd hout, fun r s d hd hin hport hhead => ?present,
    fun r s d hd hin hno => ⟨_, exec_dramRequest_of_taken hd hin hno, rfl, rfl, rfl⟩,
    fun r s d x k hd hin hport hhead hx hk ht => ?before, fun r s d x k hd hin hport hhead hx hk ht => ?after,
    fun t0 s q hq => ?grant, fun t0 s hno => ⟨_, exec_dramGrant_of_none hno, rfl, rfl, rfl⟩, fun r s => ?data⟩
  case present =>
    obtain ⟨hports, hdram⟩ := ((s.tick r.t).presentHead r).wakeChannel_keeps (s.channelOf r.port r.addr) r.t
    refine ⟨_, exec_dramRequest_of_free hd hin hport hhead, ?_, hdram⟩
    rw [State.dramPort_congr hports, State.dramPort_presentHead]
  case before => exact ⟨_, exec_dramRequest_of_free hd hin hport hhead, State.wakeChannel_before (s := (s.tick r.t).presentHead r) hx hk ht⟩
  case after => exact ⟨_, exec_dramRequest_of_free hd hin hport hhead, State.wakeChannel_after (s := (s.tick r.t).presentHead r) hx hk ht⟩
  case grant =>
    have hserved (t : State) (ht : t.drc = ((s.tick t0).serveHead q t0).drc) : (t.dramPort q.port).head = none ∧
        (t.dramPort q.port).lastGrant = some t0 ∧ (t.dramPort q.port).served = (s.dramPort q.port).served + 64 * q.words := by
      rw [State.dramPort_congr (congrArg (·.ports) ht), State.dramPort_serveHead]
      exact ⟨rfl, rfl, rfl⟩
    refine ⟨_, exec_dramGrant_of_grantee hq, ?_⟩
    cases hw : q.write with
    | false =>
      obtain ⟨hhead, hlast, hcount⟩ := hserved ((s.tick t0).serveHead q t0) rfl
      exact ⟨hhead, hlast, hcount, fun _ => rfl, nofun⟩
    | true =>
      obtain ⟨hhead, hlast, hcount⟩ := hserved _ (((s.tick t0).serveHead q t0).graphWrite_drc q.addr (q.data.take (64 * q.words)))
      refine ⟨hhead, hlast, hcount, nofun, fun _ => ⟨fun hopen a => ?_, fun hdrop => ?_, fun v hv hl hlive => ?_⟩⟩
      · rw [if_pos rfl, State.graphWrite_of_open (s := (s.tick t0).serveHead q t0) hopen, State.cellGet_dramWrite]
        rfl
      · rw [if_pos rfl, State.graphWrite_of_dropped (s := (s.tick t0).serveHead q t0) hdrop]
        exact ⟨rfl, State.reg_bump _ _ _ _⟩
      · exact (State.graphWrite_packed_within (s := (s.tick t0).serveHead q t0) hv hl hlive _).cells
  case data =>
    obtain ⟨hdram, hout, hregs⟩ := (s.tick r.t).noteRead_keeps r
    refine ⟨_, exec_dramReadReturn r s, hdram, ?_, ?_, fun o ho hbad => (s.tick r.t).noteRead_tags ho hbad,
      fun hgood => (s.tick r.t).noteRead_untagged hgood⟩
    · exact (congrArg (cellGet resetValue · _) hregs).trans (State.reg_bump _ _ _ _)
    · rw [hdram, State.emit_out, hout]
      rfl

end Sys2Proof.Machine
end

section
/-! SCH_HIST_SEL on every path (R63): which bits a write of it leaves as they were. -/
namespace Sys2Proof.Machine

/-- A due write that the gates admit into the SCH block is that block's. -/
theorem State.rowWrite_sch {s : State} {p : Path} {a : Nat} {data : Word} (h : s.admits p a data = true) (hb : a / 65536 = 2) :
    s.rowWrite p a data true = s.schWrite a data := by
  have hm : a ≠ Reg.LMP_MAP := by rintro rfl; exact absurd hb (by decide)
  calc s.rowWrite p a data true = s.blockWrite p a data := State.regWrite_of_allowed h hm
    _ = s.schWrite a data := by simp [State.blockWrite, hb]

theorem rowOf_SCH_HIST_SEL : rowOf Reg.SCH_HIST_SEL = some ⟨0x20800, 0, 1, 0x7F, 0x0, 0, 0x0⟩ := by decide

theorem exec_histSelect {p : Path} {data : Word} {s : State} (h : s.admits p Reg.SCH_HIST_SEL data = true) :
    exec (.histSelect p data) s = .next ((s.plainWrite Reg.SCH_HIST_SEL data).resetRegs schHist) :=
  congrArg Host.Outcome.next (State.rowWrite_sch h (by decide))

/-- A selection takes the data's bits 6:0; the bits above are as they were. -/
theorem State.reg_histSelect (s : State) (data : Word) :
    ((s.plainWrite Reg.SCH_HIST_SEL data).resetRegs schHist).reg Reg.SCH_HIST_SEL =
      (s.reg Reg.SCH_HIST_SEL &&& ~~~0x7F#32) ||| (data &&& 0x7F#32) := by
  rw [State.reg_resetRegs, if_neg (by decide), State.reg_plainWrite rowOf_SCH_HIST_SEL, if_pos rfl]
  simp only [writeMask, BitVec.and_zero, BitVec.not_zero, BitVec.and_allOnes]

/-- A running sender whose SCH_HIST_SEL holds 0x80: bit 7, which no write changes. -/
def StaleSelection.sender : State := DerivedClock.sender.setReg Reg.SCH_HIST_SEL 0x80#32

theorem StaleSelection.sender_admits : StaleSelection.sender.admits .spi Reg.SCH_HIST_SEL 0x7F#32 = true := by decide +kernel

/-- Refutes O6: its clause for HIST_SELECT has SCH_HIST_SEL read the data's bits 6:0 alone after the write, in every state. The register's bits
31:7 are not writable and keep what they hold, so over 0x80 a selection of 127 leaves 0xFF. (No command puts a value above 127 there: the
clause lacks the premise that bits 31:7 hold 0.) -/
theorem not_arrivalsSlackAndStatistics : ¬ Obligations.ArrivalsSlackAndStatistics := by
  rintro ⟨-, -, -, -, -, -, -, -, hselect, -⟩
  obtain ⟨t, hexec, hreg, -⟩ := hselect _ _ _ StaleSelection.sender_admits
  obtain rfl := Host.Outcome.next.inj (hexec.symm.trans (exec_histSelect StaleSelection.sender_admits))
  rw [State.reg_histSelect, StaleSelection.sender, State.reg_setReg, if_pos rfl] at hreg
  exact absurd hreg (by decide)

end Sys2Proof.Machine
end

section
/-! A grant of a write into a PACKED surface (R103, R104, R251): a write that holds a whole brick codes it, and its header byte, which lies
behind the bricks, changes with it. -/
namespace Sys2Proof.Machine

/-! ### The header byte of a coded brick (R103) -/

theorem brickBytes_le (f : Nat) : brickBytes f ≤ 8192 := by
  have hb : fmtBytes2 f ≤ 16 := by
    unfold fmtBytes2
    rcases Nat.lt_or_ge f 11 with h | h
    · interval_cases f <;> decide
    · rw [List.getD_eq_default _ _ (by simpa using h)]
      exact Nat.zero_le 16
  unfold brickBytes
  omega

theorem groupBits_ne_nil (us : List Nat) : groupBits us ≠ [] := by simp [groupBits, bitsOf]

theorem brickBits_ne_nil (f d : Nat) (x : Nat → Nat → Nat → Nat) : brickBits f d x ≠ [] := by
  have hplane : 0 < fmtPlanes f := by
    unfold fmtPlanes
    split_ifs <;> decide
  have hgroups (p : Nat → Nat → Nat) : 0 < (planeCodes d (planeSize f 0).1 (planeSize f 0).2 p).length / 8 := by
    simp [planeCodes, planeSize]
  intro hnil
  rw [brickBits, List.flatMap_eq_nil_iff] at hnil
  have hfirst := hnil 0 (List.mem_range.mpr hplane)
  rw [List.flatMap_eq_nil_iff] at hfirst
  exact groupBits_ne_nil _ (hfirst 0 (List.mem_range.mpr (hgroups (x 0))))

theorem packBytes_length_pos {bs : List Bool} (h : bs ≠ []) : 0 < (packBytes bs).length := by
  have hpos : 0 < bs.length := List.length_pos_iff.mpr h
  simp only [packBytes, roundUp, ceilDiv, List.length_map, List.length_range]
  omega

/-- The header byte of a brick that has been coded is not 0, the header of a brick that was never written. -/
theorem State.header_writeBrick_ne_zero (s : State) (v : Surface) (bx by' : Nat) (x : Nat → Nat → Nat → Nat) :
    cellGet (fun _ => (0 : Byte)) (s.writeBrick v bx by' x).dram (headerAddr v (by' * brickCols v.width + bx)) ≠ 0 := by
  unfold State.writeBrick
  extract_lets f cell brick bytes units s1
  have hcoded : ∀ (z : State) (b : Byte),
      cellGet (fun _ => (0 : Byte)) (z.dramWrite (headerAddr v brick) [b]).dram (headerAddr v brick) = b := by
    intro z b
    rw [State.cellGet_dramWrite, if_pos (by simp), Nat.sub_self, List.getD_cons_zero]
  split_ifs with hraw
  · rw [hcoded]
    decide
  · rw [hcoded]
    have hpos : 0 < bytes.length := packBytes_length_pos (brickBits_ne_nil f _ cell)
    have hunits : 64 * units = bytes.length := Nat.mul_div_cancel' (packBytes_length_dvd _)
    have hle := brickBytes_le f
    intro hzero
    have hmod : units % 256 = 0 := by simpa [byteOf] using congrArg BitVec.toNat hzero
    omega

/-! ### A write of a whole brick (R104) -/

/-- A graph's write that holds one brick whole codes that brick. -/
theorem State.graphWrite_brick {s : State} {v : Surface} {a k : Nat} {bs : List Byte} (ha : a = v.base + k * brickBytes v.fmt)
    (hv : s.surfaceAt? a = some v) (hl : v.layout = 2) (hlive : v.retiring = false ∨ v.fmt = 0x11)
    (hk : k < brickCols v.width * brickRows v.height) (hlen : bs.length = brickBytes v.fmt) (hpos : 0 < brickBytes v.fmt) :
    ∃ z : State, s.graphWrite a bs = z.codeGraphBrick v k := by
  subst ha
  unfold State.surfaceAt? at hv
  simp only [State.graphWrite, hv, if_neg (not_retired_iff.mpr hlive), hl, ne_eq, not_true_eq_false, if_false]
  generalize hb : brickBytes v.fmt = b at *
  have hplace (i : Nat) (hi : i < b) : (v.base + k * b + i - v.base) / b = k := by
    rw [Nat.add_assoc, Nat.add_sub_cancel_left, Nat.mul_comm, Nat.mul_add_div hpos, Nat.div_eq_of_lt hi, Nat.add_zero]
  have hin (c : Byte × Nat) (hc : c ∈ bs.zipIdx) : c.2 < b := by
    rw [← hlen]
    exact (List.mem_zipIdx hc).2.1.trans_eq (Nat.zero_add _)
  have htouched : ((bs.zipIdx.map (fun x => (v.base + k * b + x.2, x.1))).map (fun c => (c.1 - v.base) / b)).dedup = [k] := by
    rw [List.eq_replicate_of_mem (l := List.map _ _) (a := k), List.length_map, List.length_map, List.length_zipIdx, hlen,
      List.replicate_dedup hpos.ne']
    simp only [List.mem_map, forall_exists_index, and_imp, forall_apply_eq_imp_iff₂]
    exact fun c hc => hplace c.2 (hin c hc)
  rw [htouched, List.filter_cons_of_pos (by simpa using hk), List.filter_nil, List.foldl_cons, List.foldl_nil, if_pos]
  · exact ⟨_, rfl⟩
  · rw [beq_iff_eq, List.filter_append, List.filter_eq_nil_iff.mpr, List.nil_append, List.filter_eq_self.mpr, List.length_map,
      List.length_zipIdx, hlen]
    · intro c hc
      obtain ⟨y, hy, rfl⟩ := List.mem_map.mp hc
      have := hin y hy
      simp only [Bool.and_eq_true, decide_eq_true_eq, Nat.add_one_mul]
      omega
    · intro c hc
      have := (List.mem_filter.mp hc).2
      simp only [Bool.and_eq_true, decide_eq_true_eq, Bool.not_eq_true', Bool.and_eq_false_iff, decide_eq_false_iff_not, Nat.add_one_mul] at this ⊢
      omega

theorem State.header_codeGraphBrick_ne_zero (s : State) (v : Surface) {k : Nat} :
    cellGet (fun _ => (0 : Byte)) (s.codeGraphBrick v k).dram (headerAddr v k) ≠ 0 := by
  unfold State.codeGraphBrick
  extract_lets lo sample s1
  have h := s.header_writeBrick_ne_zero v (k % brickCols v.width) (k / brickCols v.width) sample
  rwa [Nat.div_add_mod'] at h

/-! ### The statement -/

/-- A LIVE PACKED surface of one brick: 64 by 16 8-bit 4:2:0 samples, 1,536 bytes and a header unit behind them. -/
def PackedGrant.surface : Surface :=
  { index := 1, gen := 1, fmt := 7, layout := 2, depth := 0, width := 64, height := 16, stride := 0, base := 65536, size := 1600,
    units := 1, retiring := false, fence := 0, damaged := false, generated := false, patched := false, rtp := none, colour := none,
    lastNamed := none }

/-- A graph's write of the brick: 24 words from the foot of the surface. -/
def PackedGrant.request : DramReq :=
  { port := 0, write := true, addr := 65536, words := 24, sub := 0, bank := 0, row := 16, data := zeroBytes 1536, t := 0 }

/-- A running sender with that surface, the request at the head of its port, and nothing stored in DRAM yet. -/
def PackedGrant.sender : State :=
  let s := DerivedClock.sender
  { s with cmp := { s.cmp with surfaces := [PackedGrant.surface] },
           drc := { s.drc with ports := [{ freshPort 0 with head := some PackedGrant.request }] } }

theorem PackedGrant.sender_grants : PackedGrant.sender.grantee? 0 = some PackedGrant.request := by decide +kernel

theorem PackedGrant.surfaceAt_request :
    ((PackedGrant.sender.tick 0).serveHead PackedGrant.request 0).surfaceAt? PackedGrant.request.addr = some PackedGrant.surface := by
  decide +kernel

theorem PackedGrant.request_length :
    (PackedGrant.request.data.take (64 * PackedGrant.request.words)).length = brickBytes PackedGrant.surface.fmt := by
  decide +kernel

theorem PackedGrant.sender_dram : PackedGrant.sender.dram = [] := by decide +kernel

/-- Refutes O60: its clause for DRAM_GRANT has a granted write change the bytes of its request alone. A write that completes a brick of a PACKED
surface codes the brick with its header byte (R104), and the header bytes lie behind the bricks (R103): here the request takes the surface's one
brick, 24 words, and the byte after them becomes the brick's header. -/
theorem not_storesStayInTheirPlace : ¬ Obligations.StoresStayInTheirPlace := by
  rintro ⟨-, -, -, -, hgrant, -⟩
  have hclause {s : State} {q : DramReq} (hq : s.grantee? 0 = some q) (hw : q.write = true) {a : Nat} (ha : q.addr + 64 * q.words ≤ a) :
      cellGet (fun _ => (0 : Byte)) (((s.tick 0).serveHead q 0).graphWrite q.addr (q.data.take (64 * q.words))).dram a =
        cellGet (fun _ => (0 : Byte)) s.dram a := by
    have h := hgrant 0 s _ (exec_dramGrant_of_grantee hq)
    rw [if_pos hw, show (s.tick 0).grantee? 0 = some q from hq] at h
    exact h a (.inr (.inr ha))
  have hkept := hclause PackedGrant.sender_grants rfl (a := headerAddr PackedGrant.surface 0) (by decide)
  obtain ⟨z, hwrite⟩ := State.graphWrite_brick (a := PackedGrant.request.addr) (k := 0) (by decide) PackedGrant.surfaceAt_request rfl (.inl rfl)
    (by decide) PackedGrant.request_length (by decide)
  rw [hwrite, PackedGrant.sender_dram] at hkept
  exact z.header_codeGraphBrick_ne_zero PackedGrant.surface hkept

end Sys2Proof.Machine
end

section
/-! A forwarded packet at a mirror whose stream is to be disabled behind that packet's verdict (R70, R74, R76). -/
namespace Sys2Proof.Machine

/-- What a stream keeps for a REQUEST after a command. -/
def keptAfter (c : Instr) (s : State) (str : Nat) : Option (List HeldPacket) :=
  match exec c s with
  | .next t => some (t.stream str).kept
  | _ => none

/-- The packet that the mirror lacks, as the primary forwards it. -/
def DisabledBehind.packet : PacketRec := { stream := 0, seq := 5, payload := [7], t := 8 }

/-- Stream 0 at the mirror: the primary's verdict on packet 5, which has not come, and behind it the primary's disable of the stream. -/
def DisabledBehind.stream : StreamSt :=
  { freshStream 0 with asked := [(5, 4)],
                       verdicts := [.verdict 5 true (crc32c DisabledBehind.packet.payload), .table (Reg.ING_STR_CTRL 0) 0] }

/-- A running sender that is the mirror of a FORMED pair, with stream 0 enabled. -/
def DisabledBehind.mirror : State :=
  let s := ((DerivedClock.sender.put Reg.RED_STATE Fld.RED_STATE_LINK 2).putBit (Reg.ING_STR_CTRL 0) Fld.ING_STR_CTRL_ENABLE true).setStream
    DisabledBehind.stream
  { s with gen := { s.gen with params :=
      [{ spec := { id := 1, type := 0, apply := 3, size := 4, min := 0, max := 1, dflt := 0, blobDefault := [] }, value := [1] }] } }

theorem DisabledBehind.mirror_waits :
    DisabledBehind.mirror.agreed = true ∧ DisabledBehind.mirror.follows = true ∧ DisabledBehind.mirror.streamOn 0 = true ∧
      settledSeq (DisabledBehind.mirror.stream 0) 5 = false ∧ (DisabledBehind.mirror.stream 0).held.any (fun h => h.seq == 5) = false ∧
      (DisabledBehind.mirror.stream 0).verdicts = DisabledBehind.stream.verdicts := by
  decide +kernel

/-- The packet is settled, the disable behind it acts, and the stream keeps nothing. -/
theorem DisabledBehind.mirror_forgets : keptAfter (.packet DisabledBehind.packet) DisabledBehind.mirror 0 = some [] := by decide +kernel

/-- Refutes O7: its clause for PACKET at the follower has a forwarded packet whose verdict waited kept for a REQUEST, whatever waits behind that
verdict. A disable of the stream may wait there (R76): it acts as soon as the packet is settled, and the stream forgets all it received (R70). -/
theorem not_streamsAndPairTakePackets : ¬ Obligations.StreamsAndPairTakePackets := by
  rintro ⟨-, -, -, -, -, -, -, -, -, -, -, -, -, hpacket, -⟩
  obtain ⟨hagreed, hfollows, hon, hopen, hlacks, hverdicts⟩ := DisabledBehind.mirror_waits
  obtain ⟨-, hwaited, -⟩ := hpacket DisabledBehind.packet _ (by decide) hagreed hon hopen hlacks
  obtain ⟨t, hexec, hkept⟩ := hwaited _ hfollows hverdicts
  have hforgets := DisabledBehind.mirror_forgets
  rw [keptAfter, hexec] at hforgets
  have hnone : (t.stream DisabledBehind.packet.stream).kept = [] := Option.some.inj hforgets
  rw [hnone] at hkept
  exact List.not_mem_nil hkept

end Sys2Proof.Machine
end

section
/-! What writing a settled packet leaves of the agreement on packets (R71, R74, R85, R86): every stream's next sequence number, held and kept
packets stay, and no output is taken back. -/
namespace Sys2Proof.Machine

/-! ### Receive states -/

@[simp] theorem State.stream_stream (s : State) (k : Nat) : (s.stream k).stream = k := by
  unfold State.stream
  cases h : s.ing.streams.find? (fun x => x.stream == k) with
  | none => rfl
  | some x => exact eq_of_beq (List.find?_some h :)

theorem State.stream_congr {s t : State} (h : t.ing.streams = s.ing.streams) (k : Nat) : t.stream k = s.stream k := by
  rw [State.stream, h, State.stream]

theorem State.stream_setStream (s : State) (x : StreamSt) (k : Nat) : (s.setStream x).stream k = if k = x.stream then x else s.stream k := by
  have hlast : [x].find? (fun y => y.stream == k) = if k = x.stream then some x else none := by
    by_cases h : k = x.stream
    · simp [h]
    · simp [h, Ne.symm h]
  unfold State.stream State.setStream
  rw [List.find?_append, hlast]
  split_ifs with hk
  · have hgone : (s.ing.streams.filter (fun y => y.stream != x.stream)).find? (fun y => y.stream == k) = none :=
      List.find?_eq_none.mpr fun y hy => by simpa [hk] using (List.mem_filter.mp hy).2
    rw [hgone]
    rfl
  · have hsame : (s.ing.streams.filter (fun y => y.stream != x.stream)).find? (fun y => y.stream == k) =
        s.ing.streams.find? (fun y => y.stream == k) := by
      rw [List.find?_filter]
      congr 1
      funext y
      by_cases hy : y.stream = k <;> simp [hy, hk]
    rw [hsame, Option.or_none]

theorem State.stream_modStream (s : State) {k : Nat} {f : StreamSt → StreamSt} (hf : (f (s.stream k)).stream = k) (j : Nat) :
    (s.modStream k f).stream j = if j = k then f (s.stream k) else s.stream j := by
  rw [State.modStream, State.stream_setStream, hf]

theorem State.stream_modStream_same (s : State) {k : Nat} {f : StreamSt → StreamSt} (hf : (f (s.stream k)).stream = k) :
    (s.modStream k f).stream k = f (s.stream k) := by
  rw [s.stream_modStream hf, if_pos rfl]

/-! ### What is kept -/

/-- The ingest state, and the outputs: what storing pixels leaves. -/
structure State.StoreKeeps (s t : State) : Prop where
  ing : t.ing = s.ing
  out : t.out = s.out

theorem State.StoreKeeps.refl (s : State) : s.StoreKeeps s := ⟨rfl, rfl⟩

theorem State.StoreKeeps.trans {s t u : State} (h : s.StoreKeeps t) (k : t.StoreKeeps u) : s.StoreKeeps u :=
  ⟨k.ing.trans h.ing, k.out.trans h.out⟩

theorem State.StoreKeeps.foldl {α : Type} {f : State → α → State} (h : ∀ (s : State) a, s.StoreKeeps (f s a)) (l : List α) (s : State) :
    s.StoreKeeps (l.foldl f s) := by
  induction l generalizing s with
  | nil => exact .refl s
  | cons a l ih => exact (h s a).trans (ih (f s a))

theorem State.StoreKeeps.foldl_fst {α β : Type} {f : State × β → α → State × β} (h : ∀ (z : State × β) a, z.1.StoreKeeps (f z a).1)
    (l : List α) (z : State × β) : z.1.StoreKeeps (l.foldl f z).1 := by
  induction l generalizing z with
  | nil => exact .refl z.1
  | cons a l ih => exact (h z a).trans (ih (f z a))

/-- What the agreement reads of every stream, and the outputs so far: what writing a settled packet leaves. -/
structure State.PacketKeeps (s t : State) : Prop where
  nextSeq : ∀ k, (t.stream k).nextSeq = (s.stream k).nextSeq
  held : ∀ k, (t.stream k).held = (s.stream k).held
  kept : ∀ k, (t.stream k).kept = (s.stream k).kept
  out : ∀ o ∈ s.out, o ∈ t.out

theorem State.PacketKeeps.refl (s : State) : s.PacketKeeps s := ⟨fun _ => rfl, fun _ => rfl, fun _ => rfl, fun _ h => h⟩

theorem State.PacketKeeps.trans {s t u : State} (h : s.PacketKeeps t) (k : t.PacketKeeps u) : s.PacketKeeps u :=
  ⟨fun j => (k.nextSeq j).trans (h.nextSeq j), fun j => (k.held j).trans (h.held j), fun j => (k.kept j).trans (h.kept j),
    fun o ho => k.out o (h.out o ho)⟩

theorem State.StoreKeeps.packetKeeps {s t : State} (h : s.StoreKeeps t) : s.PacketKeeps t := by
  have hs := State.stream_congr (congrArg (·.streams) h.ing)
  exact ⟨fun k => by rw [hs], fun k => by rw [hs], fun k => by rw [hs], fun o ho => h.out ▸ ho⟩

theorem State.setReg_storeKeeps (s : State) (a : Nat) (v : Word) : s.StoreKeeps (s.setReg a v) := ⟨rfl, rfl⟩
theorem State.setReg_packetKeeps (s : State) (a : Nat) (v : Word) : s.PacketKeeps (s.setReg a v) := (s.setReg_storeKeeps a v).packetKeeps
theorem State.PacketKeeps.withCdc {s t : State} (h : s.PacketKeeps t) (x : CdcSt) : s.PacketKeeps { t with cdc := x } :=
  h.trans (State.StoreKeeps.packetKeeps ⟨rfl, rfl⟩)

/-- A change of a stream's picture alone. -/
theorem State.setStream_packetKeeps (s : State) {x : StreamSt} (hnext : x.nextSeq = (s.stream x.stream).nextSeq)
    (hheld : x.held = (s.stream x.stream).held) (hkept : x.kept = (s.stream x.stream).kept) : s.PacketKeeps (s.setStream x) := by
  refine ⟨fun k => ?_, fun k => ?_, fun k => ?_, fun _ h => h⟩ <;> rw [State.stream_setStream] <;> split_ifs with hk <;>
    simp only [hk, hnext, hheld, hkept]

theorem State.event_packetKeeps (s : State) (n : Nat) : s.PacketKeeps (s.event n) := by
  unfold State.event
  dsimp only
  split_ifs
  · exact (s.setReg_packetKeeps _ _).trans ⟨fun _ => rfl, fun _ => rfl, fun _ => rfl, fun _ h => List.mem_cons_of_mem _ h⟩
  · exact s.setReg_packetKeeps _ _

/-! ### Samples and bricks (R100 to R104) -/

theorem State.putSample_storeKeeps (s : State) (v : Surface) (c x y val : Nat) : s.StoreKeeps (s.putSample v c x y val) := by
  unfold State.putSample
  dsimp only
  split_ifs <;> exact ⟨rfl, rfl⟩

theorem State.writeBrick_storeKeeps (s : State) (v : Surface) (bx by' : Nat) (x : Nat → Nat → Nat → Nat) :
    s.StoreKeeps (s.writeBrick v bx by' x) := by
  unfold State.writeBrick
  dsimp only
  split_ifs
  · refine State.StoreKeeps.trans (.foldl (fun z p => .foldl (fun y k => y.putSample_storeKeeps _ _ _ _ _) _ z) _ s) ⟨rfl, rfl⟩
  · exact ⟨rfl, rfl⟩

theorem State.codeFillBrick_storeKeeps (s : State) (v : Surface) (z : Fill) (bx by' : Nat) (x : Nat → Nat → Nat → Nat) :
    s.StoreKeeps (s.codeFillBrick v z bx by' x).1 := s.writeBrick_storeKeeps v bx by' x

theorem State.padEdges_storeKeeps (s : State) (v : Surface) : s.StoreKeeps (s.padEdges v) :=
  .foldl (fun z _ => .foldl (fun y _ => .foldl (fun x _ => x.putSample_storeKeeps _ _ _ _ _) _ y) _ z) _ s

theorem State.writeRows_storeKeeps (s : State) (v : Surface) (f : Fill) (payload : List Byte) : s.StoreKeeps (s.writeRows v f payload).1 := by
  unfold State.writeRows
  dsimp only
  split_ifs
  · exact .foldl (fun z q => z.putSample_storeKeeps _ _ _ _ _) _ s
  · refine State.StoreKeeps.foldl_fst (fun z b => ?_) _ (s, _)
    split_ifs
    · exact State.codeFillBrick_storeKeeps _ _ _ _ _ _
    · exact .refl z.1

theorem State.patchPicture_storeKeeps (s : State) (v : Surface) (f : Fill) (prev : Option Surface) : s.StoreKeeps (s.patchPicture v f prev) := by
  unfold State.patchPicture
  extract_lets old bricks gaps s0
  have hread : s.StoreKeeps s0 := by
    unfold s0
    split
    · split_ifs
      · exact s.setReg_storeKeeps _ _
      · exact .refl s
    · exact .refl s
  split_ifs
  · refine hread.trans (State.StoreKeeps.foldl_fst (fun z b => ?_) _ (s0, _))
    exact State.codeFillBrick_storeKeeps _ _ _ _ _ _
  · refine hread.trans (.foldl (fun z c => .foldl (fun y k => ?_) _ z) _ s0)
    dsimp only
    split_ifs
    · exact .refl y
    · exact y.putSample_storeKeeps _ _ _ _ _

/-! ### Pictures of a stream (R71, R85, R120) -/

theorem State.stillCheck_packetKeeps (s : State) (str : Nat) (v : Surface) (t : Nat) : s.PacketKeeps (s.stillCheck str v t) := by
  unfold State.stillCheck
  extract_lets old now s0 m cfg st low run was is s1 x cmp s2
  have hread : s.StoreKeeps s0 := by
    unfold s0
    split_ifs
    · exact s.setReg_storeKeeps _ _
    · exact .refl s
  have hnote : s.PacketKeeps s2 := (hread.trans (u := s2) ⟨rfl, rfl⟩).packetKeeps
  split_ifs
  · exact (hnote.trans (s2.setReg_packetKeeps _ _)).trans (State.event_packetKeeps _ 3)
  · exact hnote

theorem State.promotePicture_packetKeeps (s : State) (str h rtp : Nat) (patched : Bool) (t : Nat) :
    s.PacketKeeps (s.promotePicture str h rtp patched t) := by
  unfold State.promotePicture
  extract_lets s1 s2
  have hlatest : s.PacketKeeps ((s.notePromoted str).modStream str (fun x => { x with latest := some h })) := by
    refine State.PacketKeeps.trans (t := s.notePromoted str) (State.StoreKeeps.packetKeeps ⟨rfl, rfl⟩) ?_
    exact State.setStream_packetKeeps _ (by simp) (by simp) (by simp)
  have hset : s.PacketKeeps s2 := hlatest.trans (State.StoreKeeps.packetKeeps ⟨rfl, rfl⟩)
  split
  · exact hset
  · exact hset.trans (s2.stillCheck_packetKeeps _ _ _)

theorem State.endPicture_packetKeeps (s : State) (str last t : Nat) : s.PacketKeeps (s.endPicture str last t) := by
  unfold State.endPicture
  extract_lets x s1 cdc
  split
  · exact .refl s
  next f _ =>
    extract_lets total
    have hend : s.PacketKeeps s1 := by
      refine State.PacketKeeps.trans ?_ (State.setReg_packetKeeps _ _ _)
      exact s.setStream_packetKeeps (by simp [x]) (by simp [x]) (by simp [x])
    have hbump (a : Nat) : s.PacketKeeps (s1.bump a 1) := hend.trans (s1.setReg_packetKeeps _ _)
    split
    · split
      · exact hbump _
      · split_ifs
        · exact hend.trans (s1.promotePicture_packetKeeps _ _ _ _ _)
        · exact ((hend.trans (s1.patchPicture_storeKeeps _ _ _).packetKeeps).trans (State.promotePicture_packetKeeps _ _ _ _ _ _)).trans
            (State.setReg_packetKeeps _ _ _)
        · exact hbump _
    · split
      · exact hbump _
      · exact hend.withCdc _

theorem State.startPicture_packetKeeps (s : State) (str : Nat) (p : HeldPacket) : s.PacketKeeps (s.startPicture str p) := by
  unfold State.startPicture
  extract_lets x tgt gap own f s1
  have hset : s.PacketKeeps s1 := s.setStream_packetKeeps (by simp [x]) (by simp [x]) (by simp [x])
  split
  · split_ifs
    · exact hset.trans (s1.padEdges_storeKeeps _).packetKeeps
    · exact hset
  · exact hset

theorem State.writeInto_packetKeeps (s : State) (str : Nat) (f : Fill) (p : HeldPacket) : s.PacketKeeps (s.writeInto str f p) := by
  unfold State.writeInto
  extract_lets g wrote put
  have hput (z : State) (x : Fill) : z.PacketKeeps (put z x) := z.setStream_packetKeeps (by simp) (by simp) (by simp)
  have hwrote (z : State) : z.PacketKeeps (wrote z) := State.StoreKeeps.packetKeeps ⟨rfl, rfl⟩
  split_ifs
  · split
    · exact hput s g
    · dsimp only
      split_ifs
      · exact (hput s _).trans (State.setReg_packetKeeps _ _ _)
      · exact ((s.writeRows_storeKeeps _ g _).packetKeeps.trans (hput _ _)).trans (hwrote _)
  · exact hput s g
  · exact (hput s _).trans (State.StoreKeeps.packetKeeps ⟨rfl, rfl⟩)
  · exact (hput s _).trans (State.StoreKeeps.packetKeeps ⟨rfl, rfl⟩)
  · exact (hput s _).trans (hwrote _)

/-- A settled packet is written. -/
theorem State.writePacket_packetKeeps (s : State) (str : Nat) (p : HeldPacket) (t : Nat) : s.PacketKeeps (s.writePacket str p t) := by
  unfold State.writePacket
  extract_lets s1 s2 s3
  have hfirst : s.PacketKeeps s1 := by
    unfold s1
    split
    · split_ifs
      · exact s.endPicture_packetKeeps _ _ _
      · exact .refl s
    · exact .refl s
  have hstart : s1.PacketKeeps s2 := by
    unfold s2
    split_ifs
    · exact s1.startPicture_packetKeeps _ _
    · exact .refl s1
  have hwrite : s2.PacketKeeps s3 := by
    unfold s3
    split
    · exact .refl s2
    · exact s2.writeInto_packetKeeps _ _ _
  have hall := (hfirst.trans hstart).trans hwrite
  split_ifs
  · exact hall.trans (s3.endPicture_packetKeeps _ _ _)
  · exact hall

end Sys2Proof.Machine
end

section
/-! Packets held, settled and written in order (R71, R72, R74, R76): what each loop over a stream keeps. -/
namespace Sys2Proof.Machine

/-! ### The lockstep link -/

theorem State.mem_out_sendLink (s : State) (r : LinkRecord) {o : Output} (h : o ∈ s.out) : o ∈ (s.sendLink r).out := by
  unfold State.sendLink
  split_ifs
  · exact List.mem_cons_of_mem _ h
  · exact h

theorem State.out_sendLink_of_agreed {s : State} (h : s.agreed = true) (r : LinkRecord) : (s.sendLink r).out = .link r :: s.out := by
  rw [State.sendLink, if_pos h, State.emit_out]

theorem State.sendLink_ing (s : State) (r : LinkRecord) : (s.sendLink r).ing = s.ing := by
  unfold State.sendLink
  split_ifs <;> rfl

theorem State.sendLink_gen (s : State) (r : LinkRecord) : (s.sendLink r).gen = s.gen := by
  unfold State.sendLink
  split_ifs <;> rfl

/-- The part a sender plays in its pair is read from RED_STATE and PAIR_POSITION. -/
theorem State.leads_congr {s t : State} (hred : t.reg Reg.RED_STATE = s.reg Reg.RED_STATE) (hgen : t.gen = s.gen) : t.leads = s.leads := by
  have hlink : t.linkCode = s.linkCode := by simp only [State.linkCode, State.get, hred]
  have hjoiner : t.bit Reg.RED_STATE Fld.RED_STATE_JOINER = s.bit Reg.RED_STATE Fld.RED_STATE_JOINER := by simp only [State.bit, hred]
  have hmirror : t.isMirror = s.isMirror := by
    unfold State.isMirror State.param
    rw [hgen]
  unfold State.leads State.agreed State.formed
  rw [hlink, hjoiner, hmirror]

theorem State.leads_sendLink (s : State) (r : LinkRecord) : (s.sendLink r).leads = s.leads :=
  State.leads_congr (s.reg_sendLink r _) (s.sendLink_gen r)

theorem State.agreed_of_leads {s : State} (h : s.leads = true) : s.agreed = true := by
  by_contra hno
  have hlink : s.linkCode = 0 := by simpa [State.agreed] using hno
  simp [State.leads, State.formed, State.agreed, hlink] at h

/-! ### One packet settled -/

/-- A stream whose packet `p` is settled: `p` is held no more, and kept beside those of the last 1 ms. -/
def StreamSt.settled (x : StreamSt) (p : HeldPacket) (t : Nat) : StreamSt :=
  { settleNext x p.seq with kept := x.kept.filter (fun k => decide (t < k.stamp + msT)) ++ [p] }

theorem State.settlePresent_eq (s : State) (str : Nat) (p : HeldPacket) (t : Nat) :
    s.settlePresent str p t = (s.modStream str (fun x => x.settled p t)).writePacket str p t := rfl

theorem State.settlePresent_spec (s : State) (str : Nat) (p : HeldPacket) (t : Nat) :
    ((s.settlePresent str p t).stream str).held = (s.stream str).held.filter (fun h => h.seq != p.seq) ∧
      ((s.settlePresent str p t).stream str).kept = (s.stream str).kept.filter (fun k => decide (t < k.stamp + msT)) ++ [p] ∧
      (∀ o ∈ s.out, o ∈ (s.settlePresent str p t).out) := by
  obtain ⟨-, hheld, hkept, hout⟩ := (s.modStream str (fun x => x.settled p t)).writePacket_packetKeeps str p t
  have hx : (s.modStream str (fun x => x.settled p t)).stream str = (s.stream str).settled p t :=
    s.stream_modStream_same (f := fun x => x.settled p t) (s.stream_stream str)
  rw [s.settlePresent_eq]
  exact ⟨by rw [hheld, hx]; rfl, by rw [hkept, hx]; rfl, hout⟩

/-! ### Outputs stay -/

theorem State.mem_out_copyStreamReg (s : State) (a : Nat) (d : Word) {o : Output} (h : o ∈ s.out) : o ∈ (s.copyStreamReg a d).out := by
  have hstart (z : State) (k : Nat) : (z.startChannel k).out = z.out := by
    unfold State.startChannel
    split
    · rfl
    · dsimp only
      split_ifs <;> rfl
  have hon (z : State) (k : Nat) : (z.streamStart k).out = z.out := hstart _ k
  have hoff (z : State) (k : Nat) : (z.streamStop k).out = z.out := by
    simp [State.streamStop, State.stopChannel, State.setPool, State.setStream]
  unfold State.copyStreamReg
  dsimp only
  split_ifs
  · exact h
  · exact h
  · exact h
  · rw [hoff]
    exact h
  · rw [hon]
    exact h
  · exact h

theorem State.mem_out_leadVerdicts {s : State} {o : Output} (h : o ∈ s.out) (str t n : Nat) : o ∈ (s.leadVerdicts str t n).out := by
  induction n generalizing s with
  | zero => exact h
  | succ n ih =>
    rw [State.leadVerdicts]
    split
    · exact h
    · exact ih ((State.settlePresent_spec _ str _ t).2.2 o (s.mem_out_sendLink _ h))

theorem State.mem_out_followVerdicts {s : State} {o : Output} (h : o ∈ s.out) (str t n : Nat) : o ∈ (s.followVerdicts str t n).out := by
  induction n generalizing s with
  | zero => exact h
  | succ n ih =>
    rw [State.followVerdicts]
    split
    · exact h
    · exact ih (State.mem_out_copyStreamReg _ _ _ h)
    · split
      · exact ih h
      · split
        · split_ifs
          · exact ih ((State.settlePresent_spec _ str _ t).2.2 o h)
          · exact State.mem_out_sendLink _ _ h
        · split_ifs
          · exact h
          · exact State.mem_out_sendLink _ _ h

theorem State.mem_out_runVerdicts {s : State} {o : Output} (h : o ∈ s.out) (str t : Nat) : o ∈ (s.runVerdicts str t).out := by
  unfold State.runVerdicts
  dsimp only
  split_ifs
  · exact State.mem_out_leadVerdicts h _ _ _
  · exact State.mem_out_followVerdicts h _ _ _

/-- The leader's verdict on the next packet goes out as soon as it holds it (R74). -/
theorem State.verdict_mem_out_runVerdicts {s : State} {str q : Nat} {p : HeldPacket} (hlead : s.leads = true)
    (hnext : (s.stream str).nextSeq = some q) (hp : (s.stream str).held.find? (fun h => h.seq == q) = some p) (t : Nat) :
    .link (.verdict str p.seq true (crc32c p.payload)) ∈ (s.runVerdicts str t).out := by
  have hfind : (s.stream str).nextSeq.bind (fun q => (s.stream str).held.find? (fun h => h.seq == q)) = some p := by
    rw [hnext]
    exact hp
  unfold State.runVerdicts
  dsimp only
  rw [if_pos hlead, State.leadVerdicts]
  rw [hfind]
  refine State.mem_out_leadVerdicts ((State.settlePresent_spec _ str p t).2.2 _ ?_) str t _
  rw [State.out_sendLink_of_agreed (State.agreed_of_leads hlead)]
  exact List.mem_cons_self

/-! ### Writing in sequence order without the pair's agreement (R71, R72) -/

theorem State.writeInOrder_next {s : State} {str q : Nat} {p : HeldPacket} (hnext : (s.stream str).nextSeq = some q)
    (hp : (s.stream str).held.find? (fun h => h.seq == q) = some p) (t n : Nat) :
    s.writeInOrder str t (n + 1) = (s.settlePresent str p t).writeInOrder str t n := by
  have hfind : (s.stream str).nextSeq.bind (fun q => (s.stream str).held.find? (fun h => h.seq == q)) = some p := by
    rw [hnext]
    exact hp
  rw [State.writeInOrder]
  rw [hfind]

theorem State.writeInOrder_of_held_nil {s : State} {str : Nat} (h : (s.stream str).held = []) (t n : Nat) : s.writeInOrder str t n = s := by
  cases n with
  | zero => rfl
  | succ n =>
    rw [State.writeInOrder]
    rw [h]
    cases (s.stream str).nextSeq <;> rfl

/-- Nothing new is held. -/
theorem State.mem_held_of_writeInOrder {s : State} {str t n : Nat} {h : HeldPacket} (hh : h ∈ ((s.writeInOrder str t n).stream str).held) :
    h ∈ (s.stream str).held := by
  induction n generalizing s with
  | zero => exact hh
  | succ n ih =>
    rw [State.writeInOrder] at hh
    split at hh
    next p _ =>
      have hmem := ih hh
      rw [(s.settlePresent_spec str p t).1] at hmem
      exact (List.mem_filter.mp hmem).1
    next =>
      split at hh
      next q _ _ =>
        have hmem := ih hh
        rw [s.stream_modStream_same (f := fun x => { x with nextSeq := some q }) (s.stream_stream str)] at hmem
        exact hmem
      · exact hh

/-- A packet kept within the last 1 ms stays kept. -/
theorem State.mem_kept_writeInOrder {s : State} {str t : Nat} {p : HeldPacket} (hp : p ∈ (s.stream str).kept) (ht : t < p.stamp + msT)
    (n : Nat) : p ∈ ((s.writeInOrder str t n).stream str).kept := by
  induction n generalizing s with
  | zero => exact hp
  | succ n ih =>
    rw [State.writeInOrder]
    split
    next r _ =>
      refine ih ?_
      rw [(s.settlePresent_spec str r t).2.1]
      exact List.mem_append_left _ (List.mem_filter.mpr ⟨hp, decide_eq_true ht⟩)
    next =>
      split
      next q _ _ =>
        refine ih ?_
        rw [s.stream_modStream_same (f := fun x => { x with nextSeq := some q }) (s.stream_stream str)]
        exact hp
      · exact hp

/-! ### A packet that passed the tests (R71, R72, R74) -/

/-- The packet as it is held: answered when the other sender's digest of it has come. -/
def HeldPacket.answeredIn (p : HeldPacket) (x : StreamSt) : HeldPacket := { p with answered := x.digests.any (fun d => d.1 == p.seq) }

/-- The stream that holds it. -/
def StreamSt.holding (x : StreamSt) (p : HeldPacket) (t : Nat) : StreamSt :=
  { learn x p.seq t with held := x.held ++ [p.answeredIn x] }

theorem State.acceptPacket_of_agreed {s : State} (h : s.agreed = true) (str : Nat) (p : HeldPacket) (t : Nat) :
    s.acceptPacket str p t = ((s.modStream str (fun x => x.holding p t)).sendLink
      (.digest str p.seq (crc32c p.payload) (p.stamp / nsT % 2 ^ 48))).runVerdicts str t := by
  have h' : (s.modStream str (fun x => x.holding p t)).agreed = true := h
  unfold State.acceptPacket
  dsimp only
  rw [if_pos h]
  rfl

theorem find?_append_singleton {l : List HeldPacket} {q : Nat} (h : l.any (fun h => h.seq == q) = false) {p : HeldPacket} (hp : p.seq = q) :
    (l ++ [p]).find? (fun h => h.seq == q) = some p := by
  have hnone : l.find? (fun h => h.seq == q) = none := by
    rw [List.find?_eq_none]
    intro x hx
    simpa using List.any_eq_false.mp h x hx
  rw [List.find?_append, hnone]
  simp [hp]

/-- While the pair agrees the digest goes over, and the leader's verdict on the next packet with it (R74). -/
theorem State.acceptPacket_agreed_out {s : State} {str : Nat} {p : HeldPacket} (h : s.agreed = true)
    (hnew : (s.stream str).held.any (fun h => h.seq == p.seq) = false) (t : Nat) :
    .link (.digest str p.seq (crc32c p.payload) (p.stamp / nsT % 2 ^ 48)) ∈ (s.acceptPacket str p t).out ∧
      (s.leads = true → (s.stream str).nextSeq.getD p.seq = p.seq →
        .link (.verdict str p.seq true (crc32c p.payload)) ∈ (s.acceptPacket str p t).out) := by
  have h' : (s.modStream str (fun x => x.holding p t)).agreed = true := h
  rw [State.acceptPacket_of_agreed h]
  refine ⟨State.mem_out_runVerdicts ?_ str t, fun hlead hnext => ?_⟩
  · rw [State.out_sendLink_of_agreed h']
    exact List.mem_cons_self
  · have hstream : ((s.modStream str (fun x => x.holding p t)).sendLink
        (.digest str p.seq (crc32c p.payload) (p.stamp / nsT % 2 ^ 48))).stream str = (s.stream str).holding p t := by
      rw [State.stream_congr (congrArg (·.streams) (State.sendLink_ing _ _))]
      exact s.stream_modStream_same (f := fun x => x.holding p t) (s.stream_stream str)
    refine State.verdict_mem_out_runVerdicts (q := p.seq) (p := p.answeredIn (s.stream str)) ?_ ?_ ?_ t
    · rw [State.leads_sendLink]
      exact hlead
    · rw [hstream]
      exact congrArg some hnext
    · rw [hstream]
      exact find?_append_singleton hnew rfl

/-- What an unpaired sender holds when the packet has come: nothing learnt waits. -/
def StreamSt.alone (x : StreamSt) : StreamSt := { x with learned := [] }

theorem State.acceptPacket_of_alone {s : State} {str : Nat} {p : HeldPacket} (h : s.agreed = false)
    (hnew : (s.stream str).held.any (fun h => h.seq == p.seq) = false) (hnext : (s.stream str).nextSeq.getD p.seq = p.seq) (t : Nat) :
    ∃ z : State, z.stream str = ((s.stream str).holding p t).alone ∧ z.regs = s.regs ∧ z.cdc = s.cdc ∧ ∃ n,
      s.acceptPacket str p t = (z.settlePresent str (p.answeredIn (s.stream str)) t).writeInOrder str t n := by
  have hz : (s.modStream str (fun x => x.holding p t)).stream str = (s.stream str).holding p t :=
    s.stream_modStream_same (f := fun x => x.holding p t) (s.stream_stream str)
  have hy : ((s.modStream str (fun x => x.holding p t)).modStream str StreamSt.alone).stream str = ((s.stream str).holding p t).alone := by
    rw [State.stream_modStream_same _ (f := StreamSt.alone) (State.stream_stream _ str), hz]
  refine ⟨(s.modStream str (fun x => x.holding p t)).modStream str StreamSt.alone, hy, rfl, rfl,
    2 * (((s.modStream str (fun x => x.holding p t)).modStream str StreamSt.alone).stream str).held.length, ?_⟩
  have hrun : s.acceptPacket str p t = ((s.modStream str (fun x => x.holding p t)).modStream str StreamSt.alone).runUnpaired str t := by
    unfold State.acceptPacket
    dsimp only
    rw [if_neg (by simp [h])]
    rfl
  rw [hrun]
  refine State.writeInOrder_next (q := p.seq) ?_ ?_ t _
  · rw [hy]
    exact congrArg some hnext
  · rw [hy]
    exact find?_append_singleton hnew rfl

/-- An unpaired sender settles the next packet at once (R72). -/
theorem State.acceptPacket_alone_settles {s : State} {str : Nat} {p : HeldPacket} {t : Nat} (h : s.agreed = false)
    (hnew : (s.stream str).held.any (fun h => h.seq == p.seq) = false) (hnext : (s.stream str).nextSeq.getD p.seq = p.seq)
    (ht : t < p.stamp + msT) :
    p.answeredIn (s.stream str) ∈ ((s.acceptPacket str p t).stream str).kept ∧
      ∀ x ∈ ((s.acceptPacket str p t).stream str).held, x.seq ≠ p.seq := by
  obtain ⟨z, -, -, -, n, hrun⟩ := State.acceptPacket_of_alone h hnew hnext t
  obtain ⟨hheld, hkept, -⟩ := z.settlePresent_spec str (p.answeredIn (s.stream str)) t
  rw [hrun]
  refine ⟨State.mem_kept_writeInOrder (p := p.answeredIn (s.stream str)) ?_ ht n, fun x hx => ?_⟩
  · rw [hkept]
    exact List.mem_append_right _ (List.mem_singleton_self _)
  · have hmem := State.mem_held_of_writeInOrder hx
    rw [hheld] at hmem
    simpa [HeldPacket.answeredIn] using (List.mem_filter.mp hmem).2

end Sys2Proof.Machine
end

section
/-! The ingress tests of Table 4.2 in their order (R68, R69, R71, R72, R74, R169). -/
namespace Sys2Proof.Machine

/-! ### The first packet of a coded picture (R71, R86) -/

section
variable {s : State} {str : Nat} (hcoded : s.streamFormat str ≠ 0)
include hcoded

theorem State.startPicture_coded (p : HeldPacket) : ∃ f : Fill, f.target = some 0 ∧ f.bytes = 0 ∧
    s.startPicture str p = s.setStream { s.stream str with fill := some f, lastRtp := some f.rtp } := by
  unfold State.startPicture
  extract_lets x tgt gap own f s1
  have htgt : tgt = some 0 := if_neg hcoded
  refine ⟨f, htgt, rfl, ?_⟩
  split
  · rw [if_neg fun h => hcoded h.1]
  · rfl

theorem State.writeInto_coded {f : Fill} (htgt : f.target = some 0) (p : HeldPacket)
    (hroom : s.codedBytes str + f.bytes + (rtpPayload p.payload).length ≤ 33554432) :
    ∃ g : Fill, s.writeInto str f p = ((s.modStream str (fun x => { x with fill := some g })).bump (Reg.ING_STR_RX str) 1).putBit
      (Reg.ING_STR_CTRL str) Fld.ING_STR_CTRL_ACTIVE true := by
  unfold State.writeInto
  dsimp only
  rw [if_neg hcoded, htgt, if_neg (by simp), if_neg hroom.not_gt]
  exact ⟨_, rfl⟩

theorem State.reg_endPicture_coded (last t : Nat) : (s.endPicture str last t).reg (Reg.ING_STR_RX str) = s.reg (Reg.ING_STR_RX str) := by
  have hctl : Reg.ING_STR_CTRL str ≠ Reg.ING_STR_RX str := by simp only [Reg.ING_STR_CTRL, Reg.ING_STR_RX]; omega
  have hskip : Reg.CDC_CH_SKIPPED str ≠ Reg.ING_STR_RX str := by simp only [Reg.CDC_CH_SKIPPED, Reg.ING_STR_RX]; omega
  unfold State.endPicture
  extract_lets x s1 cdc
  have hend : s1.reg (Reg.ING_STR_RX str) = s.reg (Reg.ING_STR_RX str) := by
    rw [State.reg_putBit, if_neg hctl]
    rfl
  split
  · rfl
  · rw [if_neg hcoded]
    split
    · rw [State.reg_bump, if_neg hskip, hend]
    · exact hend

/-- It counts in ING_STR_RX. -/
theorem State.reg_writePacket_coded (hfill : (s.stream str).fill = none) (p : HeldPacket)
    (hroom : s.codedBytes str + (rtpPayload p.payload).length ≤ 33554432) (t : Nat) :
    (s.writePacket str p t).reg (Reg.ING_STR_RX str) = satAdd (s.reg (Reg.ING_STR_RX str)) 1 := by
  obtain ⟨f, htgt, hbytes, hstart⟩ := State.startPicture_coded hcoded p
  generalize hz : s.setStream { s.stream str with fill := some f, lastRtp := some f.rtp } = z at hstart
  have hzfill : (z.stream str).fill = some f := by
    rw [← hz, State.stream_setStream, if_pos (by simp)]
  have hzcoded : z.streamFormat str ≠ 0 := by
    rw [← hz]
    exact hcoded
  have hzroom : z.codedBytes str + f.bytes + (rtpPayload p.payload).length ≤ 33554432 := by
    rw [← hz, hbytes]
    exact hroom
  have hzreg : z.reg (Reg.ING_STR_RX str) = s.reg (Reg.ING_STR_RX str) := by
    rw [← hz]
    rfl
  obtain ⟨g, hwrite⟩ := State.writeInto_coded hzcoded htgt p hzroom
  have hctl : Reg.ING_STR_CTRL str ≠ Reg.ING_STR_RX str := by simp only [Reg.ING_STR_CTRL, Reg.ING_STR_RX]; omega
  have hwritten : (z.writeInto str f p).reg (Reg.ING_STR_RX str) = satAdd (s.reg (Reg.ING_STR_RX str)) 1 := by
    rw [hwrite, State.reg_putBit, if_neg hctl, State.reg_bump, if_pos rfl, ← hzreg]
    rfl
  have hwcoded : (z.writeInto str f p).streamFormat str ≠ 0 := by
    rw [hwrite, State.streamFormat, State.get, State.reg_putBit, if_pos rfl, fieldOf_putField_other _ _ _ _ _ _ (.inl (by decide)),
      State.reg_bump, if_neg hctl.symm]
    exact hzcoded
  unfold State.writePacket
  simp only [hfill, Option.isNone_none, if_true, hstart, hzfill]
  split_ifs
  · rw [State.reg_endPicture_coded hwcoded, hwritten]
  · exact hwritten

end

/-- An unpaired sender's first packet of a coded picture, with none held before it, counts in ING_STR_RX. -/
theorem State.acceptPacket_alone_rx {s : State} {str : Nat} {p : HeldPacket} {t : Nat} (h : s.agreed = false)
    (hnext : (s.stream str).nextSeq.getD p.seq = p.seq) (hheld : (s.stream str).held = []) (hfill : (s.stream str).fill = none)
    (hcoded : s.streamFormat str ≠ 0) (hroom : s.codedBytes str + (rtpPayload p.payload).length ≤ 33554432) :
    (s.acceptPacket str p t).reg (Reg.ING_STR_RX str) = satAdd (s.reg (Reg.ING_STR_RX str)) 1 := by
  obtain ⟨z, hz, hregs, hcdc, n, hrun⟩ := State.acceptPacket_of_alone h (p := p) (by rw [hheld]; rfl) hnext t
  have hreg (a : Nat) : z.reg a = s.reg a := congrArg (cellGet resetValue · a) hregs
  generalize hr : p.answeredIn (s.stream str) = r at hrun
  have hlast : ((z.settlePresent str r t).stream str).held = [] := by
    rw [(z.settlePresent_spec str r t).1, hz, ← hr]
    change (((s.stream str).held ++ [p.answeredIn (s.stream str)]).filter _) = []
    rw [hheld]
    simp
  have hzfill : ((z.modStream str (fun x => x.settled r t)).stream str).fill = none := by
    rw [z.stream_modStream_same (f := fun x => x.settled r t) (z.stream_stream str), hz]
    exact hfill
  have hzcoded : z.streamFormat str ≠ 0 := by
    rw [State.streamFormat, State.get, hreg]
    exact hcoded
  have hzroom : z.codedBytes str + (rtpPayload r.payload).length ≤ 33554432 := by
    rw [State.codedBytes, hcdc, ← hr]
    exact hroom
  rw [hrun, State.writeInOrder_of_held_nil hlast, State.settlePresent_eq,
    State.reg_writePacket_coded (s := z.modStream str (fun x => x.settled r t)) hzcoded hzfill r hzroom t, ← hreg]
  rfl

/-! ### The tests of a frame (Table 4.2) -/

section
variable {f : EthFrame} {s : State} (hsend : s.isSender = true) (hport : s.portHas f.port f.sub = true)
include hsend hport

theorem exec_ethernetFrameRx_badFcs (hfcs : f.fcsOk = false) : exec (.ethernetFrameRx f) s = .next ((s.tick f.t).bump (Reg.ING_DROP 0) 1) := by
  change execEthernetFrameRx f s = _
  simp [execEthernetFrameRx, hsend, hport, hfcs, State.dropFrame]

variable (hfcs : f.fcsOk = true)
include hfcs

theorem exec_ethernetFrameRx_foreign (haddr : s.addressOk f.port f.sub (viewFrame f.bytes) = false) :
    exec (.ethernetFrameRx f) s = .next ((s.tick f.t).bump (Reg.ING_DROP 1) 1) := by
  change execEthernetFrameRx f s = _
  simp [execEthernetFrameRx, hsend, hport, hfcs, haddr, State.dropFrame]

variable (haddr : s.addressOk f.port f.sub (viewFrame f.bytes) = true)
include haddr

/-- A control frame: dropped for want of room, or taken. -/
theorem exec_ethernetFrameRx_control (hctl : s.controlFrame (viewFrame f.bytes) = true) :
    exec (.ethernetFrameRx f) s = .next
      (if 65536 < ((s.ing.ctrl.filter (fun c => c.1 == f.port)).map (·.2)).sum + f.bytes.length then (s.tick f.t).dropFrame 2
        else (s.tick f.t).acceptControl f (viewFrame f.bytes)) := by
  change execEthernetFrameRx f s = _
  simp only [execEthernetFrameRx, hsend, hport, hfcs, haddr, hctl, Bool.not_true, Bool.false_eq_true, or_self, if_false, if_true]
  split_ifs <;> rfl

variable (hctl : s.controlFrame (viewFrame f.bytes) = false)
include hctl

theorem exec_ethernetFrameRx_noStream (hno : (List.range 16).find? (s.matchesStream f.port f.sub (viewFrame f.bytes)) = none) :
    exec (.ethernetFrameRx f) s = .next ((s.tick f.t).bump (Reg.ING_DROP 3) 1) := by
  change execEthernetFrameRx f s = _
  simp [execEthernetFrameRx, hsend, hport, hfcs, haddr, hctl, hno, State.dropFrame]

/-- The stream's bucket brought up to a frame's instant, and what the frame takes of it. -/
def State.charge (s : State) (f : EthFrame) (str taken : Nat) : State :=
  (s.tick f.t).setStream { s.stream str with tokens := s.bucketAt str f.t - taken, tokensAt := f.t }

/-- The bits of a frame's packet, in the unit of the bucket, taken of it. -/
def State.paid (s : State) (f : EthFrame) (str : Nat) : State := s.charge f str ((viewFrame f.bytes).udp.length * 8 * 20000 * 65536)

/-- A stream's packet as it has come. -/
def State.arrival (s : State) (f : EthFrame) (str : Nat) : HeldPacket :=
  { seq := extendedSeq (s.stream str) (s.streamFormat str) (viewFrame f.bytes).udp, stamp := f.t, payload := (viewFrame f.bytes).udp,
    port := f.port, answered := false }

variable {str : Nat} (hstr : (List.range 16).find? (s.matchesStream f.port f.sub (viewFrame f.bytes)) = some str)
include hstr

theorem exec_ethernetFrameRx_malformed (hbad : oversize f = true ∨ s.formatBad str (viewFrame f.bytes) = true) :
    exec (.ethernetFrameRx f) s = .next ((s.tick f.t).bump (Reg.ING_DROP 4) 1) := by
  have hbad' : (oversize f || s.formatBad str (viewFrame f.bytes)) = true := Bool.or_eq_true_iff.mpr hbad
  change execEthernetFrameRx f s = _
  simp [execEthernetFrameRx, hsend, hport, hfcs, haddr, hctl, hstr, hbad', State.dropFrame]

variable (hsize : oversize f = false) (hform : s.formatBad str (viewFrame f.bytes) = false)
include hsize hform

theorem exec_ethernetFrameRx_overRate (hrate : s.bucketAt str f.t < (viewFrame f.bytes).udp.length * 8 * 20000 * 65536) :
    exec (.ethernetFrameRx f) s = .next ((s.charge f str 0).dropFrame 5) := by
  change execEthernetFrameRx f s = _
  simp only [execEthernetFrameRx, hsend, hport, hfcs, haddr, hctl, hstr, hsize, hform, hrate, Bool.not_true, Bool.false_eq_true, or_self,
    if_false, if_true]
  rfl

/-- Within its rate: beyond its share, already taken, or accepted. -/
theorem exec_ethernetFrameRx_inRate (hrate : (viewFrame f.bytes).udp.length * 8 * 20000 * 65536 ≤ s.bucketAt str f.t) :
    exec (.ethernetFrameRx f) s = .next
      (if 2097152 / s.streamsOnPort f.port < heldBytes (s.stream str) f.port + (viewFrame f.bytes).udp.length then
        (s.paid f str).dropFrame 6
      else if settledSeq (s.stream str) (extendedSeq (s.stream str) (s.streamFormat str) (viewFrame f.bytes).udp) ||
          (s.stream str).held.any (fun h => h.seq == extendedSeq (s.stream str) (s.streamFormat str) (viewFrame f.bytes).udp) then
        (s.paid f str).dropFrame 7
      else (s.paid f str).acceptPacket str (s.arrival f str) f.t) := by
  change execEthernetFrameRx f s = _
  simp only [execEthernetFrameRx, hsend, hport, hfcs, haddr, hctl, hstr, hsize, hform, hrate.not_gt, Bool.not_true, Bool.false_eq_true, or_self,
    Bool.or_self, if_false, apply_ite Host.Outcome.next, State.paid, State.charge, State.arrival]

end

theorem State.stream_charge (s : State) (f : EthFrame) (str taken : Nat) :
    (s.charge f str taken).stream str = { s.stream str with tokens := s.bucketAt str f.t - taken, tokensAt := f.t } := by
  rw [State.charge, State.stream_setStream, if_pos (by simp)]

/-! ### Control frames (R67, R68, R169) -/

theorem State.acceptControl_malformed {s : State} {f : EthFrame} {v : FrameView}
    (h : oversize f = true ∨ (v.kind = 2 ∧ v.proto = 17 ∧ v.sumOk = false)) : s.acceptControl f v = s.dropFrame 4 := by
  rw [State.acceptControl, if_pos]
  rcases h with h | ⟨hkind, hproto, hsum⟩
  · simp [h]
  · simp [hkind, hproto, hsum]

section
variable {s : State} {f : EthFrame} {v : FrameView} (hsize : oversize f = false) (hsum : v.sumOk = true ∨ v.proto ≠ 17 ∨ v.kind ≠ 2)
include hsize hsum

theorem State.acceptControl_wellFormed : s.acceptControl f v =
    if ptpFrame v && !ptpTaken v then
      if ptpExcludedType v && bitOf (s.reg Reg.TIM_PTP_CFG) (16 + 4 * f.port + f.sub) then s.bump Reg.TIM_PTP_DISCARD 1 else s
    else { s with ing := { s.ing with ctrl := s.ing.ctrl ++ [(f.port, f.bytes.length)] } } := by
  rw [State.acceptControl, if_neg]
  rcases hsum with h | h | h <;> simp [hsize, h]

theorem State.acceptControl_excluded (hptp : ptpFrame v = true) (hex : ptpExcludedType v = true)
    (hon : bitOf (s.reg Reg.TIM_PTP_CFG) (16 + 4 * f.port + f.sub) = true) : s.acceptControl f v = s.bump Reg.TIM_PTP_DISCARD 1 := by
  have hno : ptpTaken v = false := by
    simp only [ptpExcludedType, ptpTaken, List.contains_eq_mem, List.mem_cons, List.not_mem_nil, or_false, decide_eq_true_eq,
      decide_eq_false_iff_not] at hex ⊢
    omega
  rw [State.acceptControl_wellFormed hsize hsum, hptp, hno, hex, hon]
  rfl

theorem State.acceptControl_taken (htake : ptpFrame v = true → ptpTaken v = true) :
    s.acceptControl f v = { s with ing := { s.ing with ctrl := s.ing.ctrl ++ [(f.port, f.bytes.length)] } } := by
  rw [State.acceptControl_wellFormed hsize hsum, if_neg]
  cases hptp : ptpFrame v <;> simp [htake, hptp]

end

/-! ### The statement -/

theorem nat_lt_add_msT (n : Nat) : n < n + msT := Nat.lt_add_of_pos_right (by decide)

/-- Settles O8: each test of Table 4.2 by the branch it takes, and a packet that passes them by what its stream then holds, keeps and sends. -/
theorem framesPassTheIngressTests : Obligations.FramesPassTheIngressTests := by
  intro f s hsend hport
  refine ⟨fun hfcs => ⟨_, exec_ethernetFrameRx_badFcs hsend hport hfcs, rfl⟩,
    fun hfcs haddr => ⟨_, exec_ethernetFrameRx_foreign hsend hport hfcs haddr, rfl⟩, fun hfcs haddr hctl => ?control,
    fun hfcs haddr hctl => ⟨fun hno => ⟨_, exec_ethernetFrameRx_noStream hsend hport hfcs haddr hctl hno, rfl⟩, fun str hstr =>
      ⟨fun hbad => ⟨_, exec_ethernetFrameRx_malformed hsend hport hfcs haddr hctl hstr hbad, rfl⟩, fun hsize hform => ⟨fun hrate => ?rate,
        fun hrate => ?stream⟩⟩⟩⟩
  case control =>
    have hexec := exec_ethernetFrameRx_control hsend hport hfcs haddr hctl
    refine ⟨fun hfull => ⟨_, hexec, if_pos hfull⟩, fun hroom => ⟨fun hbad => ⟨_, hexec, ?_⟩, fun hsize hsum =>
      ⟨fun hptp hex hon => ⟨_, hexec, ?_⟩, fun htake => ⟨_, hexec, ?_⟩⟩⟩⟩ <;> rw [if_neg hroom.not_gt]
    · exact State.acceptControl_malformed hbad
    · exact State.acceptControl_excluded hsize hsum hptp hex hon
    · rw [State.acceptControl_taken hsize hsum htake]
      exact ⟨rfl, rfl⟩
  case rate =>
    exact ⟨_, exec_ethernetFrameRx_overRate hsend hport hfcs haddr hctl hstr hsize hform hrate, State.reg_bump _ _ _ _, s.stream_charge f str 0⟩
  case stream =>
    have hexec := exec_ethernetFrameRx_inRate hsend hport hfcs haddr hctl hstr hsize hform hrate
    have hstream := s.stream_charge f str ((viewFrame f.bytes).udp.length * 8 * 20000 * 65536)
    change (s.paid f str).stream str = _ at hstream
    have hheld : ((s.paid f str).stream str).held = (s.stream str).held := congrArg (·.held) hstream
    have hnext : ((s.paid f str).stream str).nextSeq = (s.stream str).nextSeq := congrArg (·.nextSeq) hstream
    refine ⟨fun hfull => ⟨_, hexec, ?_⟩, fun hroom q hq => ⟨fun hold => ⟨_, hexec, ?_⟩, fun hopen hnew => ?_⟩⟩
    · rw [if_pos hfull]
      exact ⟨State.reg_bump _ _ _ _, hheld⟩
    · subst hq
      rw [if_neg hroom.not_gt, if_pos (Bool.or_eq_true_iff.mpr hold)]
      exact ⟨State.reg_bump _ _ _ _, hheld⟩
    · subst hq
      rw [if_neg hroom.not_gt, if_neg (by simp only [hopen, hnew]; decide)] at hexec
      have hnew' : ((s.paid f str).stream str).held.any (fun h => h.seq == (s.arrival f str).seq) = false := by rw [hheld]; exact hnew
      refine ⟨fun hagreed => ⟨_, hexec, ?_⟩, fun halone hfirst => ⟨_, hexec, ?_⟩⟩
      · have hout := State.acceptPacket_agreed_out (s := s.paid f str) (p := s.arrival f str) hagreed hnew' f.t
        rw [hnext] at hout
        exact hout
      · rw [← hnext] at hfirst
        obtain ⟨hkept, hgone⟩ := State.acceptPacket_alone_settles (s := s.paid f str) (p := s.arrival f str) halone hnew' hfirst
          (nat_lt_add_msT f.t)
        rw [hstream] at hkept
        refine ⟨hkept, hgone, fun hnone hfill hcoded hbytes => ?_⟩
        exact State.acceptPacket_alone_rx (s := s.paid f str) (p := s.arrival f str) halone hfirst (by rw [hheld]; exact hnone)
          (by rw [hstream]; exact hfill) hcoded hbytes

end Sys2Proof.Machine
end

section
/-! What RED_STATE reads after each operation that writes it, and what the operations of the stream flag leave (R281, Tables 16.2 and 16.7). -/
namespace Sys2Proof.Machine

/-! ### RED_STATE (Table 16.7) -/

/-- Bits [16:0] of RED_STATE decide every field but PAIR_EVT. -/
theorem fieldOf_congr_low {w v : Word} (h : fieldOf w 0 17 = fieldOf v 0 17) {lo len : Nat} (hlow : lo + len ≤ 17) :
    fieldOf w lo len = fieldOf v lo len := by
  have hbit (i : Nat) (hi : i < 17) : w.getLsbD i = v.getLsbD i := by
    simpa [fieldOf_testBit, hi] using congrArg (Nat.testBit · i) h
  refine Nat.eq_of_testBit_eq fun i => ?_
  rw [fieldOf_testBit, fieldOf_testBit]
  by_cases hi : i < len
  · rw [hbit (lo + i) (by omega)]
  · simp [hi]

theorem bitOf_eq_fieldOf (w : Word) (n : Nat) : bitOf w n = (fieldOf w n 1).testBit 0 := by
  rw [fieldOf_testBit, bitOf]
  simp

theorem State.get_setRed (s : State) (w : Word) {f : Field} (h : f.lo + f.len ≤ 17) :
    (s.setRed w).get Reg.RED_STATE f = fieldOf w f.lo f.len := by
  have hevt : Reg.CMD_EVT ≠ Reg.RED_STATE := by decide
  unfold State.setRed
  dsimp only
  split
  case isTrue heq => exact (fieldOf_congr_low heq h).symm
  case isFalse =>
    rw [State.get, State.reg_event_other _ _ _ hevt, State.reg_setReg, if_pos rfl, fieldOf_putField_other _ _ _ _ _ _ (.inl h)]

theorem State.bit_setRed (s : State) (w : Word) {f : Field} (h : f.lo < 17) : (s.setRed w).bit Reg.RED_STATE f = bitOf w f.lo := by
  have hget := s.get_setRed w (f := ⟨f.lo, 1⟩) h
  rw [State.bit, bitOf_eq_fieldOf, bitOf_eq_fieldOf, ← hget]
  rfl

theorem State.get_putRed_same (s : State) {f : Field} (v : Nat) (h : f.lo + f.len ≤ 17) :
    (s.putRed f v).get Reg.RED_STATE f = v % 2 ^ f.len := by
  rw [State.putRed, State.get_setRed _ _ h, fieldOf_putField_same _ _ _ _ (by omega)]

theorem State.get_putRed_other (s : State) {f g : Field} (v : Nat) (h : g.lo + g.len ≤ 17) (hne : g.lo + g.len ≤ f.lo ∨ f.lo + f.len ≤ g.lo) :
    (s.putRed f v).get Reg.RED_STATE g = s.get Reg.RED_STATE g := by
  rw [State.putRed, State.get_setRed _ _ h, fieldOf_putField_other _ _ _ _ _ _ hne]
  rfl

theorem State.bit_putRed_same (s : State) {f : Field} (v : Nat) (h : f.lo < 17) (hlen : 0 < f.len) :
    (s.putRed f v).bit Reg.RED_STATE f = v.testBit 0 := by
  rw [State.putRed, State.bit_setRed _ _ h, bitOf_putField _ _ _ _ _ (by omega), if_pos (by omega), Nat.sub_self]

theorem State.bit_putRed_other (s : State) {f g : Field} (v : Nat) (h : g.lo < 17) (hne : g.lo < f.lo ∨ f.lo + f.len ≤ g.lo) :
    (s.putRed f v).bit Reg.RED_STATE g = s.bit Reg.RED_STATE g := by
  rw [State.putRed, State.bit_setRed _ _ h, bitOf_putField _ _ _ _ _ (by omega), if_neg (by omega)]
  rfl

/-! ### What a write of RED_STATE leaves -/

/-- The image, surfaces and committed sets, the coders and refreshes, and the pair's own records: what a write of a register leaves, even one
that raises an event. -/
structure State.TablesKeep (s t : State) : Prop where
  gen : t.gen = s.gen
  cmp : t.cmp = s.cmp
  ccx : t.ccx = s.ccx
  red : t.red = s.red
  out : ∀ o ∈ s.out, o ∈ t.out

theorem State.TablesKeep.refl (s : State) : s.TablesKeep s := ⟨rfl, rfl, rfl, rfl, fun _ h => h⟩

theorem State.TablesKeep.trans {s t u : State} (h : s.TablesKeep t) (k : t.TablesKeep u) : s.TablesKeep u :=
  ⟨k.gen.trans h.gen, k.cmp.trans h.cmp, k.ccx.trans h.ccx, k.red.trans h.red, fun o ho => k.out o (h.out o ho)⟩

theorem State.setReg_tablesKeep (s : State) (a : Nat) (v : Word) : s.TablesKeep (s.setReg a v) := ⟨rfl, rfl, rfl, rfl, fun _ h => h⟩

theorem State.event_tablesKeep (s : State) (n : Nat) : s.TablesKeep (s.event n) := by
  unfold State.event
  dsimp only
  split
  · exact ⟨rfl, rfl, rfl, rfl, fun _ h => List.mem_cons_of_mem _ h⟩
  · exact s.setReg_tablesKeep _ _

theorem State.setRed_tablesKeep (s : State) (w : Word) : s.TablesKeep (s.setRed w) := by
  unfold State.setRed
  dsimp only
  split
  · exact .refl s
  · exact (s.setReg_tablesKeep _ _).trans (State.event_tablesKeep _ 5)

theorem State.putRed_tablesKeep (s : State) (f : Field) (v : Nat) : s.TablesKeep (s.putRed f v) := s.setRed_tablesKeep _

theorem State.sendLink_tablesKeep (s : State) (r : LinkRecord) : s.TablesKeep (s.sendLink r) := by
  unfold State.sendLink
  split
  · exact ⟨rfl, rfl, rfl, rfl, fun _ h => List.mem_cons_of_mem _ h⟩
  · exact .refl s

/-- RED_HEALTH brought up to date leaves RED_STATE. -/
theorem State.reg_syncHealth (s : State) : s.syncHealth.reg Reg.RED_STATE = s.reg Reg.RED_STATE := by
  have hevt : Reg.CMD_EVT ≠ Reg.RED_STATE := by decide
  have hhealth : Reg.RED_HEALTH ≠ Reg.RED_STATE := by decide
  unfold State.syncHealth
  dsimp only
  split
  · rw [State.reg_event_other _ _ _ hevt, State.reg_setReg, if_neg hhealth]
  · rw [State.reg_setReg, if_neg hhealth]

/-! ### Records sent one after another -/

section
variable {α : Type} (r : α → LinkRecord)

theorem State.reg_foldl_sendLink (l : List α) (s : State) (b : Nat) : (l.foldl (fun z o => z.sendLink (r o)) s).reg b = s.reg b := by
  induction l generalizing s with
  | nil => rfl
  | cons o l ih => rw [List.foldl_cons, ih, State.reg_sendLink]

theorem State.foldl_sendLink_tablesKeep (l : List α) (s : State) : s.TablesKeep (l.foldl (fun z o => z.sendLink (r o)) s) := by
  induction l generalizing s with
  | nil => exact .refl s
  | cons o l ih => exact (s.sendLink_tablesKeep (r o)).trans (ih _)

theorem State.agreed_congr {s t : State} (h : t.reg Reg.RED_STATE = s.reg Reg.RED_STATE) : t.agreed = s.agreed := by
  simp only [State.agreed, State.linkCode, State.get, h]

/-- While the link carries records, each one goes out. -/
theorem State.out_foldl_sendLink {l : List α} {s : State} (h : s.agreed = true) {o : α} (ho : o ∈ l) :
    .link (r o) ∈ (l.foldl (fun z o => z.sendLink (r o)) s).out := by
  induction l generalizing s with
  | nil => simp at ho
  | cons p l ih =>
    have hagreed : (s.sendLink (r p)).agreed = true := (State.agreed_congr (s.reg_sendLink (r p) _)).trans h
    rw [List.foldl_cons]
    rcases List.mem_cons.mp ho with rfl | ho
    · refine (State.foldl_sendLink_tablesKeep r l _).out _ ?_
      rw [State.out_sendLink_of_agreed h]
      exact List.mem_cons_self
    · exact ih hagreed ho

end

/-- A field that is neither ACTIVE, IN_CONTROL nor CURRENT. -/
def flagFree (f : Field) : Prop := f.lo + f.len ≤ 2 ∨ (5 ≤ f.lo ∧ f.lo + f.len ≤ 17)

end Sys2Proof.Machine
end

section
/-! Joining over the lockstep link: HELLO and its check, the source and the joiner (R76, R280, R281, R290, R291). -/
namespace Sys2Proof.Machine

/-! ### Channels write registers of their own block (R91, R93) -/

/-- An address outside the codec block's channels. -/
def offChannel (b : Nat) : Prop := b < 0x50000 ∨ 0x50800 ≤ b

section
variable {b : Nat} (h : offChannel b)
include h

theorem chStat_ne (k : Nat) : Reg.CDC_CH_STAT k ≠ b := by
  simp only [Reg.CDC_CH_STAT]
  unfold offChannel at h
  omega

theorem chPoolmark_ne (k : Nat) : Reg.CDC_CH_POOLMARK k ≠ b := by
  simp only [Reg.CDC_CH_POOLMARK]
  unfold offChannel at h
  omega

theorem errEvt_ne : Reg.CDC_ERR_EVT ≠ b := by
  simp only [Reg.CDC_ERR_EVT]
  unfold offChannel at h
  omega

theorem State.reg_setPool (s : State) (p : PoolState) : (s.setPool p).reg b = s.reg b := by
  rw [State.setPool, State.reg_setNum, if_neg (chPoolmark_ne h _)]
  rfl

theorem State.reg_stopChannel (s : State) (k : Nat) : (s.stopChannel k).reg b = s.reg b := by
  unfold State.stopChannel
  extract_lets s1 old s2
  have hpool : s2.reg b = s1.reg b := s1.reg_setPool h _
  have hstat : s1.reg b = s.reg b := (s.reg_setReg _ _ _).trans (if_neg (chStat_ne h k))
  have hcut (z : State) (c : CdcSt) : ({ z with cdc := c } : State).reg b = z.reg b := rfl
  exact (hcut s2 _).trans (hpool.trans hstat)

theorem State.reg_codecConfigErr (s : State) (k : Nat) : (s.codecConfigErr k).reg b = s.reg b := by
  rw [State.codecConfigErr, State.codecErr, State.reg_setReg, if_neg (errEvt_ne h), State.reg_put, if_neg (chStat_ne h k), State.reg_put,
    if_neg (chStat_ne h k)]

theorem State.reg_startChannel (s : State) (k : Nat) : (s.startChannel k).reg b = s.reg b := by
  unfold State.startChannel
  split
  · rfl
  · extract_lets wants others live err dmg s1 cdc s2
    have hset : s2.reg b = s.reg b := (s.reg_setNum _ _ _).trans (if_neg (chStat_ne h k))
    split
    · exact (s2.reg_codecConfigErr h k).trans hset
    · exact hset

end

theorem offChannel_red : offChannel Reg.RED_STATE := .inr (by decide)

theorem offChannel_strCtrl (k : Nat) : offChannel (Reg.ING_STR_CTRL k) := .inl (by simp only [Reg.ING_STR_CTRL]; omega)

theorem strCtrl_ne_red (k : Nat) : Reg.ING_STR_CTRL k ≠ Reg.RED_STATE := by
  simp only [Reg.ING_STR_CTRL, Reg.RED_STATE]
  omega

theorem State.reg_streamStop_red (s : State) (k : Nat) : (s.streamStop k).reg Reg.RED_STATE = s.reg Reg.RED_STATE := by
  rw [State.streamStop, State.reg_stopChannel offChannel_red]
  exact (s.reg_setReg _ _ _).trans (if_neg (strCtrl_ne_red k))

/-! ### The joiner stands down (R281, Table 16.2) -/

/-- A step towards STANDBY: the tables stay, and RED_STATE but for its three flags, of which CURRENT is not set. -/
structure State.StandsDown (s t : State) : Prop extends s.TablesKeep t where
  free : ∀ f, flagFree f → t.get Reg.RED_STATE f = s.get Reg.RED_STATE f
  current : s.bit Reg.RED_STATE Fld.RED_STATE_CURRENT = false → t.bit Reg.RED_STATE Fld.RED_STATE_CURRENT = false

theorem State.StandsDown.refl (s : State) : s.StandsDown s := ⟨.refl s, fun _ _ => rfl, id⟩

theorem State.StandsDown.trans {s t u : State} (h : s.StandsDown t) (k : t.StandsDown u) : s.StandsDown u :=
  ⟨h.toTablesKeep.trans k.toTablesKeep, fun f hf => (k.free f hf).trans (h.free f hf), fun hc => k.current (h.current hc)⟩

theorem State.setReg_standsDown (s : State) {a : Nat} (v : Word) (h : a ≠ Reg.RED_STATE) : s.StandsDown (s.setReg a v) := by
  have hreg : (s.setReg a v).reg Reg.RED_STATE = s.reg Reg.RED_STATE := by rw [State.reg_setReg, if_neg h]
  exact ⟨s.setReg_tablesKeep a v, fun f _ => by rw [State.get, hreg, State.get], fun hc => by rw [State.bit, hreg]; exact hc⟩

theorem State.putRed_active_standsDown (s : State) (v : Nat) : s.StandsDown (s.putRed Fld.RED_STATE_ACTIVE v) where
  toTablesKeep := s.putRed_tablesKeep _ v
  free f hf := s.get_putRed_other v (by unfold flagFree at hf; omega) (hf.imp_right (fun h => le_trans (by decide) h.1))
  current hc := (s.bit_putRed_other v (by decide) (by decide)).trans hc

theorem State.putRed_control_standsDown (s : State) (v : Nat) : s.StandsDown (s.putRed Fld.RED_STATE_IN_CONTROL v) where
  toTablesKeep := s.putRed_tablesKeep _ v
  free f hf := s.get_putRed_other v (by unfold flagFree at hf; omega)
    (hf.imp (fun h => h.trans (by decide)) (fun h => le_trans (by decide) h.1))
  current hc := (s.bit_putRed_other v (by decide) (by decide)).trans hc

theorem State.putRed_current_standsDown (s : State) : s.StandsDown (s.putRed Fld.RED_STATE_CURRENT 0) where
  toTablesKeep := s.putRed_tablesKeep _ 0
  free f hf := s.get_putRed_other 0 (by unfold flagFree at hf; omega)
    (hf.imp (fun h => h.trans (by decide)) (fun h => le_trans (by decide) h.1))
  current _ := s.bit_putRed_same 0 (by decide) (by decide)

theorem State.syncControl_standsDown (s : State) : s.StandsDown s.syncControl := by
  unfold State.syncControl
  dsimp only
  split
  · exact (s.putRed_control_standsDown _).trans ⟨⟨rfl, rfl, rfl, rfl, fun _ h => h⟩, fun _ _ => rfl, id⟩
  · exact s.putRed_control_standsDown _

/-- A sender that is wanted at STANDBY. -/
theorem State.applyFlag_standsDown {s : State} (hwant : s.wantedFlag = false) : s.StandsDown s.applyFlag := by
  have hoff : s.StandsDown ((s.putRed Fld.RED_STATE_ACTIVE (flag false)).bump Reg.RED_SWITCHES 1) :=
    (s.putRed_active_standsDown _).trans (State.setReg_standsDown _ _ (by decide))
  unfold State.applyFlag
  rw [hwant]
  simp only [Bool.false_eq_true, if_false]
  refine State.StandsDown.trans ?_ (State.syncControl_standsDown _)
  split_ifs
  · exact .refl s
  · exact hoff
  · exact hoff.trans (State.putRed_current_standsDown _)

/-- The joiner's flag is STANDBY (Table 16.2). -/
theorem State.wantedFlag_joiner {s : State} (hlink : s.linkCode = 1) (hjoiner : s.bit Reg.RED_STATE Fld.RED_STATE_JOINER = true) :
    s.wantedFlag = false := by
  have hformed : s.formed = false := by rw [State.formed, hlink]; rfl
  have hbit : bitOf (s.reg Reg.RED_STATE) 5 = true := hjoiner
  unfold State.wantedFlag
  simp [hlink, hformed, hbit]

/-! ### The joiner discards its tables (R290) -/

theorem streamTable_ne_red : ∀ a ∈ streamTable, a ≠ Reg.RED_STATE := by
  intro a ha
  simp only [streamTable, List.mem_flatMap, List.mem_map, List.mem_range] at ha
  obtain ⟨k, hk, o, ho, rfl⟩ := ha
  have hoff : o ≤ 28 := (by decide : ∀ o ∈ [4, 8, 12, 16, 20, 24, 28, 0], o ≤ 28) o ho
  simp only [Reg.ING_STR_CTRL, Reg.RED_STATE]
  omega

theorem State.reg_discardTables_red (s : State) : s.discardTables.reg Reg.RED_STATE = s.reg Reg.RED_STATE := by
  have hstop (l : List Nat) (z : State) :
      (l.foldl (fun s k => if s.streamOn k then s.streamStop k else s) z).reg Reg.RED_STATE = z.reg Reg.RED_STATE := by
    induction l generalizing z with
    | nil => rfl
    | cons k l ih =>
      rw [List.foldl_cons, ih]
      split
      · exact z.reg_streamStop_red k
      · rfl
  have htable (l : List Nat) (hl : ∀ a ∈ l, a ≠ Reg.RED_STATE) (z : State) :
      (l.foldl (fun s a => s.setReg a (resetValue a)) z).reg Reg.RED_STATE = z.reg Reg.RED_STATE := by
    induction l generalizing z with
    | nil => rfl
    | cons a l ih =>
      rw [List.foldl_cons, ih (fun b hb => hl b (List.mem_cons_of_mem _ hb)), State.reg_setReg, if_neg (hl a List.mem_cons_self)]
  unfold State.discardTables
  extract_lets s1 s2
  have hcut (z : State) (c : CmpSt) (i : IngSt) (d : List (Nat × Byte)) :
      ({ z with cmp := c, ing := i, dram := d } : State).reg Reg.RED_STATE = z.reg Reg.RED_STATE := rfl
  exact (hcut s2 _ _ _).trans ((htable streamTable streamTable_ne_red s1).trans (hstop (List.range 16) s))

/-! ### JOIN starts (R290, R291) -/

/-- RED_STATE with the join begun (Table 16.7): LINK JOIN, JOINER, PHASE CONFIG, the causes of an earlier failure cleared, CURRENT at the
source alone. -/
def State.joinWord (s : State) : Word :=
  let source := s.bit Reg.RED_STATE Fld.RED_STATE_IN_CONTROL
  let w := putField (putField (putField (s.reg Reg.RED_STATE) 0 2 1) 5 1 (flag (!source))) 6 3 2
  let w1 := putField (putField w 13 4 0) 11 1 0
  if source then w1 else putField w1 4 1 0

/-- The join has begun at this sender: its RED_STATE and what it has to record, before the source sends and the joiner discards. -/
def State.joinBegun (s : State) : State :=
  let s1 := s.setRed s.joinWord
  { s1 with red := { s1.red with joinAt := some s1.now, stateAt := s1.now, toRecord := [], applied := [], matches_ := [],
                                 verified := [], others := [], reports := [] } }

theorem State.startJoin_eq (s : State) : s.startJoin =
    if s.bit Reg.RED_STATE Fld.RED_STATE_IN_CONTROL then
      (s.joinBegun.configObjects.foldl (fun s o => s.sendLink (.config o)) s.joinBegun).startConverge
    else s.joinBegun.discardTables.applyFlag := by
  unfold State.startJoin State.joinBegun State.joinWord
  rfl

/-- Its fields: those of the join are put after the two bits of the failure, and CURRENT beside them all. -/
theorem State.joinWord_fields (s : State) : fieldOf s.joinWord 0 2 = 1 ∧ fieldOf s.joinWord 6 3 = 2 ∧
    bitOf s.joinWord 5 = !s.bit Reg.RED_STATE Fld.RED_STATE_IN_CONTROL ∧
    (s.bit Reg.RED_STATE Fld.RED_STATE_IN_CONTROL = false → bitOf s.joinWord 4 = false) := by
  have hflag (x : Bool) : (flag x).testBit 0 = x := by cases x <;> rfl
  unfold State.joinWord
  cases s.bit Reg.RED_STATE Fld.RED_STATE_IN_CONTROL <;>
    simp (disch := decide) [fieldOf_putField_other, fieldOf_putField_same, bitOf_putField, hflag]

theorem State.joinBegun_red (s : State) : s.joinBegun.linkCode = 1 ∧ s.joinBegun.get Reg.RED_STATE Fld.RED_STATE_PHASE = 2 ∧
    s.joinBegun.bit Reg.RED_STATE Fld.RED_STATE_JOINER = !s.bit Reg.RED_STATE Fld.RED_STATE_IN_CONTROL ∧
    (s.bit Reg.RED_STATE Fld.RED_STATE_IN_CONTROL = false → s.joinBegun.bit Reg.RED_STATE Fld.RED_STATE_CURRENT = false) := by
  obtain ⟨hlink, hphase, hjoiner, hcurrent⟩ := s.joinWord_fields
  exact ⟨(s.get_setRed s.joinWord (f := Fld.RED_STATE_LINK) (by decide)).trans hlink,
    (s.get_setRed s.joinWord (f := Fld.RED_STATE_PHASE) (by decide)).trans hphase,
    (s.bit_setRed s.joinWord (f := Fld.RED_STATE_JOINER) (by decide)).trans hjoiner,
    fun h => (s.bit_setRed s.joinWord (f := Fld.RED_STATE_CURRENT) (by decide)).trans (hcurrent h)⟩

theorem State.joinBegun_keeps (s : State) : s.joinBegun.cmp = s.cmp ∧ s.joinBegun.ccx = s.ccx := by
  have hkeep := s.setRed_tablesKeep
  exact ⟨(hkeep _).cmp, (hkeep _).ccx⟩

theorem State.startConverge_keeps (s : State) : s.startConverge.get Reg.RED_STATE Fld.RED_STATE_PHASE = 3 ∧
    s.startConverge.linkCode = s.linkCode ∧
    s.startConverge.bit Reg.RED_STATE Fld.RED_STATE_JOINER = s.bit Reg.RED_STATE Fld.RED_STATE_JOINER ∧
    ∀ o ∈ s.out, o ∈ s.startConverge.out :=
  ⟨State.get_putRed_same _ 3 (by decide), State.get_putRed_other _ 3 (by decide) (by decide), State.bit_putRed_other _ 3 (by decide) (by decide),
    (State.putRed_tablesKeep { s with red := { s.red with promoted := [], iraps := [] } } _ 3).out⟩

/-- The source sends its tables and goes on to CONVERGE. -/
theorem State.startJoin_source {s : State} (h : s.bit Reg.RED_STATE Fld.RED_STATE_IN_CONTROL = true) :
    s.startJoin.linkCode = 1 ∧ s.startJoin.bit Reg.RED_STATE Fld.RED_STATE_JOINER = false ∧
      s.startJoin.get Reg.RED_STATE Fld.RED_STATE_PHASE = 3 ∧
      (∀ v ∈ s.cmp.surfaces, Output.link (.config (.surface v)) ∈ s.startJoin.out) ∧
      (∀ x ∈ s.ccx.tiles, Output.link (.config (.coder x.ta x.qp x.firstCell)) ∈ s.startJoin.out) ∧
      Output.link (.config (.refreshQueue s.ccx.refresh)) ∈ s.startJoin.out := by
  obtain ⟨hlink, -, hjoiner, -⟩ := s.joinBegun_red
  obtain ⟨hcmp, hccx⟩ := s.joinBegun_keeps
  let z := s.joinBegun.configObjects.foldl (fun s o => s.sendLink (.config o)) s.joinBegun
  have hreg : z.reg Reg.RED_STATE = s.joinBegun.reg Reg.RED_STATE := State.reg_foldl_sendLink .config _ _ _
  obtain ⟨hzlink, hzjoiner⟩ := State.role_congr hreg
  obtain ⟨hphase, hclink, hcjoiner, hout⟩ := z.startConverge_keeps
  have hagreed : s.joinBegun.agreed = true := by rw [State.agreed, hlink]; rfl
  have hsent {o : ConfigObj} (ho : o ∈ s.joinBegun.configObjects) : Output.link (.config o) ∈ z.startConverge.out :=
    hout _ (State.out_foldl_sendLink .config hagreed ho)
  rw [State.startJoin_eq, if_pos h]
  refine ⟨hclink.trans (hzlink.trans hlink), hcjoiner.trans (hzjoiner.trans (by rw [hjoiner, h]; rfl)), hphase, fun v hv => hsent ?_,
    fun x hx => hsent ?_, hsent ?_⟩
  · simp [State.configObjects, hcmp, hv]
  · simp only [State.configObjects, hccx, List.mem_append, List.mem_map]
    exact .inl (.inr ⟨x, hx, rfl⟩)
  · simp [State.configObjects, hccx]

/-- The joiner is no longer current and holds no surface. -/
theorem State.startJoin_joiner {s : State} (h : s.bit Reg.RED_STATE Fld.RED_STATE_IN_CONTROL = false) :
    s.startJoin.linkCode = 1 ∧ s.startJoin.bit Reg.RED_STATE Fld.RED_STATE_JOINER = true ∧
      s.startJoin.bit Reg.RED_STATE Fld.RED_STATE_CURRENT = false ∧ s.startJoin.cmp.surfaces = [] ∧
      s.startJoin.get Reg.RED_STATE Fld.RED_STATE_PHASE = 2 := by
  obtain ⟨hlink, hphase, hjoiner, hcurrent⟩ := s.joinBegun_red
  let z := s.joinBegun.discardTables
  have hreg : z.reg Reg.RED_STATE = s.joinBegun.reg Reg.RED_STATE := s.joinBegun.reg_discardTables_red
  obtain ⟨hzlink, hzjoiner⟩ := State.role_congr hreg
  have hone : z.linkCode = 1 := hzlink.trans hlink
  have hjoins : z.bit Reg.RED_STATE Fld.RED_STATE_JOINER = true := by rw [hzjoiner, hjoiner, h]; rfl
  have hlast : z.bit Reg.RED_STATE Fld.RED_STATE_CURRENT = false := by rw [State.bit, hreg]; exact hcurrent h
  have hdown := State.applyFlag_standsDown (State.wantedFlag_joiner hone hjoins)
  rw [State.startJoin_eq, if_neg (by simp [h])]
  refine ⟨(hdown.free _ (.inl (by decide))).trans hone, ?_, hdown.current hlast, congrArg (·.surfaces) hdown.cmp,
    (hdown.free _ (.inr (by decide))).trans ?_⟩
  · have hbit := hdown.free Fld.RED_STATE_JOINER (.inr (by decide))
    rw [State.bit, bitOf_eq_fieldOf]
    rw [State.bit, bitOf_eq_fieldOf] at hjoins
    exact (congrArg (Nat.testBit · 0) hbit).trans hjoins
  · rw [State.get, hreg]
    exact hphase

end Sys2Proof.Machine
end

section
/-! HELLO and its check: the refusals, FORMED at once, JOIN (R76, R281, R290). -/
namespace Sys2Proof.Machine

/-! ### A join that is refused, and two senders that start together -/

/-- A join refused for a cause, and PAIR_CONFLICT as it then reads. -/
def State.joinRefused (s : State) (cause conflict : Nat) : State :=
  ({ s.putRed Fld.RED_STATE_JOIN_FAIL cause with red := { s.red with joinFailed := true } } : State).syncHealth.putRed
    Fld.RED_STATE_PAIR_CONFLICT conflict

theorem State.joinRefused_red (s : State) (cause conflict : Nat) :
    (s.joinRefused cause conflict).linkCode = s.linkCode ∧
      (s.joinRefused cause conflict).get Reg.RED_STATE Fld.RED_STATE_JOIN_FAIL = cause % 16 ∧
      (s.joinRefused cause conflict).bit Reg.RED_STATE Fld.RED_STATE_PAIR_CONFLICT = conflict.testBit 0 := by
  let z : State := { s.putRed Fld.RED_STATE_JOIN_FAIL cause with red := { s.red with joinFailed := true } }
  have hget (f : Field) : z.syncHealth.get Reg.RED_STATE f = (s.putRed Fld.RED_STATE_JOIN_FAIL cause).get Reg.RED_STATE f := by
    rw [State.get, State.reg_syncHealth]
    rfl
  refine ⟨(State.get_putRed_other z.syncHealth conflict (by decide) (by decide)).trans ((hget _).trans ?_),
    (State.get_putRed_other z.syncHealth conflict (by decide) (by decide)).trans ((hget _).trans ?_),
    State.bit_putRed_same z.syncHealth conflict (by decide) (by decide)⟩
  · exact s.get_putRed_other cause (by decide) (by decide)
  · exact s.get_putRed_same cause (by decide)

/-- FORMED without a join: LINK and CURRENT alone matter here. -/
theorem State.reachFormed_false_red (s : State) : (s.reachFormed false).linkCode = 2 ∧
    (s.reachFormed false).bit Reg.RED_STATE Fld.RED_STATE_CURRENT = true := by
  let w := putField (putField (putField (s.reg Reg.RED_STATE) 0 2 2) 4 1 1) 5 4 0
  have hlink := s.get_setRed w (f := Fld.RED_STATE_LINK) (by decide)
  have hcurrent := s.bit_setRed w (f := Fld.RED_STATE_CURRENT) (by decide)
  refine ⟨hlink.trans ?_, hcurrent.trans ?_⟩
  · simp (disch := decide) [w, Fld.RED_STATE_LINK, fieldOf_putField_other, fieldOf_putField_same]
  · simp (disch := decide) [w, Fld.RED_STATE_CURRENT, bitOf_putField]

/-- Two senders that start together are FORMED at once (R281). -/
def State.formedAtOnce (s : State) : State :=
  (({ s with red := { s.red with stateAt := s.now } } : State).putRed Fld.RED_STATE_PAIR_CONFLICT 0).reachFormed false

/-- The primary then sends its stream table (R76). -/
def State.startTogether (s : State) : State :=
  if s.formedAtOnce.leads then s.formedAtOnce.streamTableObjects.foldl (fun s o => s.sendLink (.config o)) s.formedAtOnce else s.formedAtOnce

theorem State.startTogether_red (s : State) : s.startTogether.linkCode = 2 ∧
    s.startTogether.bit Reg.RED_STATE Fld.RED_STATE_CURRENT = true := by
  obtain ⟨hlink, hcurrent⟩ : s.formedAtOnce.linkCode = 2 ∧ s.formedAtOnce.bit Reg.RED_STATE Fld.RED_STATE_CURRENT = true :=
    State.reachFormed_false_red _
  unfold State.startTogether
  split
  · have hreg := State.reg_foldl_sendLink .config s.formedAtOnce.streamTableObjects s.formedAtOnce Reg.RED_STATE
    exact ⟨(State.role_congr hreg).1.trans hlink, (congrArg (bitOf · 4) hreg).trans hcurrent⟩
  · exact ⟨hlink, hcurrent⟩

/-! ### The check of R290 -/

section
variable {s : State} {h : HelloIn} {im : Image} (hello : s.red.hello = some h) (hup : s.red.linkUp = true) (hdown : s.linkCode = 0)
  (him : s.gen.running = some im)
include hello hup hdown him

theorem State.tryJoin_eq : s.tryJoin =
    if h.position = flag s.isMirror then s.joinRefused 7 1
    else if h.imageId ≠ im.imageId then s.joinRefused 1 0
    else if 1600 < s.red.pairOffset.natAbs then s.joinRefused 2 0
    else if !s.runs ∧ !h.current then s.startTogether
    else ({ s with red := { s.red with stateAt := s.now } } : State).startJoin := by
  have hagreed : s.agreed = false := by rw [State.agreed, hdown]; rfl
  have himage : (s.image?.map (·.imageId)).getD 0 = im.imageId := by rw [State.image?, him]; rfl
  have hguard : ¬((!s.red.linkUp) = true ∨ s.agreed = true) := by simp [hup, hagreed]
  unfold State.tryJoin
  rw [hello]
  dsimp only
  rw [if_neg hguard, himage]
  rfl

/-- Equal positions. -/
theorem State.tryJoin_conflict (hpos : h.position = flag s.isMirror) : s.tryJoin.linkCode = 0 ∧
    s.tryJoin.get Reg.RED_STATE Fld.RED_STATE_JOIN_FAIL = 7 ∧ s.tryJoin.bit Reg.RED_STATE Fld.RED_STATE_PAIR_CONFLICT = true := by
  obtain ⟨hlink, hcause, hconflict⟩ := s.joinRefused_red 7 1
  rw [State.tryJoin_eq hello hup hdown him, if_pos hpos]
  exact ⟨hlink.trans hdown, hcause, hconflict⟩

variable (hpos : h.position ≠ flag s.isMirror)
include hpos

/-- Unequal images. -/
theorem State.tryJoin_image (himg : h.imageId ≠ im.imageId) : s.tryJoin.linkCode = 0 ∧
    s.tryJoin.get Reg.RED_STATE Fld.RED_STATE_JOIN_FAIL = 1 := by
  obtain ⟨hlink, hcause, -⟩ := s.joinRefused_red 1 0
  rw [State.tryJoin_eq hello hup hdown him, if_neg hpos, if_pos himg]
  exact ⟨hlink.trans hdown, hcause⟩

variable (himg : h.imageId = im.imageId)
include himg

/-- Times more than 100 ns apart. -/
theorem State.tryJoin_time (hoff : 1600 < s.red.pairOffset.natAbs) : s.tryJoin.linkCode = 0 ∧
    s.tryJoin.get Reg.RED_STATE Fld.RED_STATE_JOIN_FAIL = 2 := by
  obtain ⟨hlink, hcause, -⟩ := s.joinRefused_red 2 0
  rw [State.tryJoin_eq hello hup hdown him, if_neg hpos, if_neg (not_not_intro himg), if_pos hoff]
  exact ⟨hlink.trans hdown, hcause⟩

variable (hoff : s.red.pairOffset.natAbs ≤ 1600)
include hoff

theorem State.tryJoin_together (hfresh : s.runs = false ∧ h.current = false) : s.tryJoin = s.startTogether := by
  rw [State.tryJoin_eq hello hup hdown him, if_neg hpos, if_neg (not_not_intro himg), if_neg hoff.not_gt,
    if_pos (by simpa using hfresh)]

theorem State.tryJoin_join (hold : ¬(s.runs = false ∧ h.current = false)) : ∃ u : State, s.tryJoin = u.startJoin ∧
    u.bit Reg.RED_STATE Fld.RED_STATE_IN_CONTROL = s.bit Reg.RED_STATE Fld.RED_STATE_IN_CONTROL ∧ u.cmp = s.cmp ∧ u.ccx = s.ccx := by
  refine ⟨{ s with red := { s.red with stateAt := s.now } }, ?_, rfl, rfl, rfl⟩
  rw [State.tryJoin_eq hello hup hdown him, if_neg hpos, if_neg (not_not_intro himg), if_neg hoff.not_gt,
    if_neg (by simpa using hold)]

end

/-- JOIN has begun at either sender. -/
theorem State.linkCode_startJoin (s : State) : s.startJoin.linkCode = 1 := by
  cases h : s.bit Reg.RED_STATE Fld.RED_STATE_IN_CONTROL
  · exact (State.startJoin_joiner h).1
  · exact (State.startJoin_source h).1

/-! ### HELLO and HELLO_RECHECK -/

theorem isSender_of_running {s : State} {im : Image} (him : s.gen.running = some im) (hrole : im.role = .sender) : s.isSender = true := by
  rw [State.isSender, State.role?, him, Option.map_some, hrole]
  rfl

/-- HELLO taken, before JOIN is tried. -/
def State.helloTaken (s : State) (r : HelloRec) : State :=
  { s.tick r.t with red := { s.red with
      hello := some { position := r.position, imageId := r.imageId, current := r.current, t := r.t }, linkUp := true,
      pairOffset := pairOffset r.stamps } }

theorem exec_hello_good {s : State} {r : HelloRec} (hsend : s.isSender = true) (hcrc : r.crcOk = true) :
    exec (.hello r) s = .next (s.helloTaken r).tryJoin := by
  have hsend' : (s.tick r.t).isSender = true := hsend
  change execHello r s = _
  simp only [execHello, hsend', hcrc, Bool.not_true, Bool.false_eq_true, if_false]
  rfl

theorem exec_hello_bad {s : State} {r : HelloRec} (hsend : s.isSender = true) (hcrc : r.crcOk = false) :
    exec (.hello r) s = .next ((s.tick r.t).bump Reg.RED_LINK_ERR 1) := by
  have hsend' : (s.tick r.t).isSender = true := hsend
  change execHello r s = _
  simp only [execHello, hsend', hcrc, Bool.not_true, Bool.not_false, Bool.false_eq_true, if_false, if_true]

/-- The offset measured again, before JOIN is tried. -/
def State.offsetTaken (s : State) (p : PairStamps) (t0 : Nat) : State :=
  { s.tick t0 with red := { s.red with pairOffset := pairOffset p } }

theorem exec_helloRecheck_down {s : State} (hsend : s.isSender = true) (hdown : s.linkCode = 0) (p : PairStamps) (t0 : Nat) :
    exec (.helloRecheck p t0) s = .next (s.offsetTaken p t0).tryJoin := by
  have hboth : (s.tick t0).isSender = true ∧ (s.tick t0).linkCode = 0 := ⟨hsend, hdown⟩
  change execHelloRecheck p t0 s = _
  rw [execHelloRecheck, if_pos hboth]
  rfl

end Sys2Proof.Machine
end

section
/-! What the follower takes over the lockstep link: CONFIG, COMMIT, EXPRESS, REFRESH and tile records, and the signatures of slices (R76, R111,
R136, R157, R286, R291, R292). -/
namespace Sys2Proof.Machine

/-! ### The stream table's copy (R76) -/

theorem State.streamOn_setReg (s : State) (k : Nat) (v : Word) : (s.setReg (Reg.ING_STR_CTRL k) v).streamOn k = bitOf v 0 := by
  rw [State.streamOn, State.bit, State.reg_setReg, if_pos rfl]
  rfl

theorem State.streamOn_streamStop (s : State) (k : Nat) : (s.streamStop k).streamOn k = false := by
  rw [State.streamStop, State.streamOn, State.bit, State.reg_stopChannel (offChannel_strCtrl k)]
  refine (State.streamOn_setReg s k _).trans ?_
  simp (disch := decide) [bitOf_putField]

theorem State.streamOn_streamStart (s : State) (k : Nat) : (s.streamStart k).streamOn k = true := by
  rw [State.streamStart, State.streamOn, State.bit, State.reg_startChannel (offChannel_strCtrl k)]
  refine (State.streamOn_setReg s k _).trans ?_
  simp (disch := decide) [bitOf_putField]

section
variable {a : Nat} (hreg : streamReg a = true)
include hreg

theorem State.copyStreamReg_field (hne : a ≠ Reg.ING_STR_CTRL ((a - Reg.ING_STR_CTRL 0) / 0x40)) (s : State) (d : Word) :
    s.copyStreamReg a d = s.setReg a d := by
  rw [State.copyStreamReg, if_neg (by simp [hreg]), if_pos hne]

/-- The copy of ING_STR_CTRL enables or disables its stream. -/
theorem State.streamOn_copyStreamReg {str : Nat} (hstr : str = (a - Reg.ING_STR_CTRL 0) / 0x40) (ha : a = Reg.ING_STR_CTRL str) (s : State)
    (d : Word) : (s.copyStreamReg a d).streamOn str = bitOf d 0 := by
  have hown (v : Word) : (s.setReg a v).streamOn str = bitOf v 0 := by rw [ha, State.streamOn_setReg]
  unfold State.copyStreamReg
  rw [← hstr, if_neg (by simp [hreg]), if_neg (not_not_intro ha)]
  extract_lets own
  cases hd : bitOf d 0
  · simp only [Bool.false_eq_true, if_false]
    split
    · exact State.streamOn_streamStop _ _
    · rw [hown]
      simp (disch := decide) [bitOf_putField]
  · simp only [if_true]
    split
    · rw [hown]
      simp (disch := decide) [own, bitOf_putField, hd]
    · exact State.streamOn_streamStart _ _

end

/-! ### CONFIG (R291) -/

/-- A pool that retires leaves every surface. -/
theorem State.cmp_poolRetired (s : State) (handle : Nat) : (s.poolRetired handle).cmp = s.cmp := by
  unfold State.poolRetired
  generalize List.range 16 = l
  induction l generalizing s with
  | nil => rfl
  | cons k l ih =>
    rw [List.foldl_cons, ih]
    split <;> rfl

theorem State.retOn_retCtrlCopy (s : State) (d : Word) : (s.retCtrlCopy d).retOn = bitOf d 0 ∧
    (bitOf d 1 = true → (s.retCtrlCopy d).cdc.idrDue = true) := by
  have hbit : bitOf (putField d 1 1 0) 0 = bitOf d 0 := by simp (disch := decide) [bitOf_putField]
  have hon {z : State} (hz : z.regs = (s.setReg Reg.CDC_RET_CTRL (putField d 1 1 0)).regs) : z.retOn = bitOf d 0 := by
    change bitOf (cellGet resetValue z.regs Reg.CDC_RET_CTRL) 0 = _
    rw [hz]
    exact (congrArg (bitOf · 0) ((s.reg_setReg _ _ _).trans (if_pos rfl))).trans hbit
  unfold State.retCtrlCopy
  cases bitOf d 1
  · simp only [Bool.false_eq_true, if_false]
    split_ifs <;> exact ⟨hon rfl, by simp⟩
  · simp only [if_true]
    split_ifs <;> exact ⟨hon rfl, fun _ => rfl⟩

theorem exec_configRecord (o : ConfigObj) (t0 : Nat) (s : State) : exec (.configRecord o t0) s = execConfigRecord o t0 s := rfl

section
variable {s : State} (hf : s.follows = true) (t0 : Nat)
include hf

theorem follows_tick : (s.tick t0).follows = true := (State.follows_congr rfl rfl).trans hf

theorem exec_configRecord_register {a : Nat} (ha : streamReg a = false) (hret : a ≠ Reg.CDC_RET_CTRL) (d : Word) :
    exec (.configRecord (.register a d) t0) s = .next ((s.tick t0).setReg a d) := by
  have hf' := follows_tick hf t0
  simp only [exec_configRecord, execConfigRecord, hf', ha, hret, Bool.not_true, Bool.false_eq_true, if_false]

theorem exec_configRecord_streamReg {a : Nat} (ha : streamReg a = true) (d : Word) :
    exec (.configRecord (.register a d) t0) s = .next
      (if (s.stream ((a - Reg.ING_STR_CTRL 0) / 0x40)).verdicts = [] then (s.tick t0).copyStreamReg a d
      else (s.tick t0).modStream ((a - Reg.ING_STR_CTRL 0) / 0x40) (fun x => { x with verdicts := x.verdicts ++ [.table a d] })) := by
  have hf' := follows_tick hf t0
  have hstream (k : Nat) : (s.tick t0).stream k = s.stream k := rfl
  simp only [exec_configRecord, execConfigRecord, hf', ha, hstream, Bool.not_true, Bool.false_eq_true, if_false, if_true, apply_ite Host.Outcome.next]

theorem exec_configRecord_retCtrl (d : Word) :
    exec (.configRecord (.register Reg.CDC_RET_CTRL d) t0) s = .next ((s.tick t0).retCtrlCopy d) := by
  have hf' := follows_tick hf t0
  have ha : streamReg Reg.CDC_RET_CTRL = false := by decide
  simp only [exec_configRecord, execConfigRecord, hf', ha, Bool.not_true, Bool.false_eq_true, if_false, if_true]

theorem exec_configRecord_param (id : Nat) (v : List Nat) :
    exec (.configRecord (.param id v) t0) s = .next ((s.tick t0).setParam id v) := by
  have hf' := follows_tick hf t0
  simp only [exec_configRecord, execConfigRecord, hf', Bool.not_true, Bool.false_eq_true, if_false]

theorem exec_configRecord_surface (v : Surface) : ∃ t, exec (.configRecord (.surface v) t0) s = .next t ∧ v ∈ t.cmp.surfaces ∧
    ∀ u ∈ t.cmp.surfaces, u.index = v.index → u = v := by
  have hf' := follows_tick hf t0
  have hlist {t : State} (h : t.cmp.surfaces = v :: s.cmp.surfaces.filter (fun x => x.index != v.index)) :
      v ∈ t.cmp.surfaces ∧ ∀ u ∈ t.cmp.surfaces, u.index = v.index → u = v := by
    rw [h]
    refine ⟨List.mem_cons_self, fun u hu hix => ?_⟩
    rcases List.mem_cons.mp hu with rfl | hu
    · rfl
    · simp [hix] at hu
  simp only [exec_configRecord, execConfigRecord, hf', Bool.not_true, Bool.false_eq_true, if_false]
  refine ⟨_, rfl, hlist ?_⟩
  split
  · exact congrArg (·.surfaces) (State.cmp_poolRetired _ _)
  · rfl

theorem exec_configRecord_freed (h : Nat) : ∃ t, exec (.configRecord (.freed h) t0) s = .next t ∧ ∀ u ∈ t.cmp.surfaces, handleOf u ≠ h := by
  have hf' := follows_tick hf t0
  simp only [exec_configRecord, execConfigRecord, hf', Bool.not_true, Bool.false_eq_true, if_false]
  exact ⟨_, rfl, fun u hu => by simpa using (List.mem_filter.mp hu).2⟩

theorem exec_configRecord_memory (a : Nat) (bs : List Byte) :
    exec (.configRecord (.memory a bs) t0) s = .next ((s.tick t0).dramWrite a bs) := by
  have hf' := follows_tick hf t0
  simp only [exec_configRecord, execConfigRecord, hf', Bool.not_true, Bool.false_eq_true, if_false]

theorem exec_configRecord_committed (c : CommitSet) : ∃ t, exec (.configRecord (.committed c) t0) s = .next t ∧ t.regs = s.regs ∧
    c ∈ t.cmp.sets := by
  have hf' := follows_tick hf t0
  simp only [exec_configRecord, execConfigRecord, hf', Bool.not_true, Bool.false_eq_true, if_false]
  exact ⟨_, rfl, rfl, List.mem_append_right _ List.mem_cons_self⟩

theorem exec_configRecord_express {c : Nat} (hc : c < 4) (st e : Nat) : ∃ t, exec (.configRecord (.express c st e) t0) s = .next t ∧
    fieldOf (t.reg Reg.CHN_EXP_STATE) (2 * c) 2 = st % 4 ∧ ∀ x ∈ t.chn.exp, x.chain = c → x.eseq = e := by
  have hf' := follows_tick hf t0
  simp only [exec_configRecord, execConfigRecord, hf', Bool.not_true, Bool.false_eq_true, if_false]
  refine ⟨_, rfl, ?_, fun x hx hchain => ?_⟩
  · rw [State.reg_put, if_pos rfl]
    exact fieldOf_putField_same _ _ _ _ (by change 2 * c + 2 ≤ 32; omega)
  · obtain ⟨y, -, rfl⟩ := List.mem_map.mp hx
    by_cases hy : y.chain = c
    · rw [if_pos hy]
    · rw [if_neg hy] at hchain
      exact absurd hchain hy

theorem exec_configRecord_coder {ta : Nat} {x : TileCoder} (hx : s.coder? ta = some x) (qp fc : List Nat) :
    exec (.configRecord (.coder ta qp fc) t0) s = .next ((s.tick t0).setCoder { x with qp := qp, firstCell := fc }) := by
  have hf' := follows_tick hf t0
  have hx' : (s.tick t0).coder? ta = some x := hx
  simp only [exec_configRecord, execConfigRecord, hf', hx', Bool.not_true, Bool.false_eq_true, if_false]

theorem exec_configRecord_refreshQueue (jobs : List RefreshJob) :
    exec (.configRecord (.refreshQueue jobs) t0) s = .next { s.tick t0 with ccx := { s.ccx with refresh := jobs } } := by
  have hf' := follows_tick hf t0
  simp only [exec_configRecord, execConfigRecord, hf', Bool.not_true, Bool.false_eq_true, if_false]
  rfl

theorem exec_configRecord_last (hlink : s.linkCode = 1) : exec (.configRecord .last t0) s = .next (s.tick t0).startConverge := by
  have hf' := follows_tick hf t0
  have hlink' : (s.tick t0).linkCode = 1 := hlink
  simp only [exec_configRecord, execConfigRecord, hf', hlink', Bool.not_true, Bool.false_eq_true, if_false, if_true]

end

/-! ### CONVERGE (R291) -/

theorem State.converged_iff (s : State) : s.converged = true ↔
    (∀ k < 16, s.streamOn k = true → k ∈ s.red.promoted) ∧ ∀ k ∈ s.channelsOf 0, k ∈ s.red.iraps := by
  unfold State.converged
  simp only [Bool.and_eq_true, List.all_eq_true, List.mem_range, Bool.or_eq_true, Bool.not_eq_true', List.contains_eq_mem, decide_eq_true_eq]
  refine and_congr (forall₂_congr fun k _ => ?_) Iff.rfl
  cases s.streamOn k <;> simp

theorem exec_convergeEnd_waits {s : State} (t0 : Nat)
    (h : s.linkCode ≠ 1 ∨ s.get Reg.RED_STATE Fld.RED_STATE_PHASE ≠ 3 ∨ s.converged = false) :
    exec (.convergeEnd t0) s = .next (s.tick t0) := by
  have hguard : (s.tick t0).linkCode ≠ 1 ∨ (s.tick t0).get Reg.RED_STATE Fld.RED_STATE_PHASE ≠ 3 ∨ (!(s.tick t0).converged) = true :=
    h.imp_right (Or.imp_right fun hc => congrArg (! ·) hc)
  change execConvergeEnd t0 s = _
  rw [execConvergeEnd, if_pos hguard]

theorem exec_convergeEnd_ends {s : State} (t0 : Nat) (hlink : s.linkCode = 1) (hphase : s.get Reg.RED_STATE Fld.RED_STATE_PHASE = 3)
    (hconv : s.converged = true) : ∃ t, exec (.convergeEnd t0) s = .next t ∧ t.get Reg.RED_STATE Fld.RED_STATE_PHASE = 4 ∧
      (s.bit Reg.RED_STATE Fld.RED_STATE_JOINER = false → t.red.toRecord = s.tas) := by
  have hguard : ¬((s.tick t0).linkCode ≠ 1 ∨ (s.tick t0).get Reg.RED_STATE Fld.RED_STATE_PHASE ≠ 3 ∨ (!(s.tick t0).converged) = true) := by
    have hconv' : (s.tick t0).converged = true := hconv
    have hlink' : (s.tick t0).linkCode = 1 := hlink
    have hphase' : (s.tick t0).get Reg.RED_STATE Fld.RED_STATE_PHASE = 3 := hphase
    simp [hconv', hlink', hphase']
  have hput : ((s.tick t0).putRed Fld.RED_STATE_PHASE 4).get Reg.RED_STATE Fld.RED_STATE_PHASE = 4 :=
    State.get_putRed_same _ 4 (by decide)
  have hjoiner : ((s.tick t0).putRed Fld.RED_STATE_PHASE 4).bit Reg.RED_STATE Fld.RED_STATE_JOINER =
      s.bit Reg.RED_STATE Fld.RED_STATE_JOINER := State.bit_putRed_other _ 4 (by decide) (by decide)
  have hgen : ((s.tick t0).putRed Fld.RED_STATE_PHASE 4).gen = s.gen := (State.putRed_tablesKeep _ _ _).gen
  change ∃ t, execConvergeEnd t0 s = _ ∧ _
  rw [execConvergeEnd, if_neg hguard]
  dsimp only
  rw [hjoiner]
  cases hj : s.bit Reg.RED_STATE Fld.RED_STATE_JOINER
  · refine ⟨_, if_neg (by simp), hput, fun _ => ?_⟩
    change State.tas _ = _
    unfold State.tas State.chains
    rw [hgen]
  · exact ⟨_, if_pos rfl, hput, by simp⟩

/-! ### COMMIT and REFRESH records (R111, R113, R157) -/

theorem exec_commitRecord_of_follows {s : State} (hf : s.follows = true) (wfn t0 : Nat) :
    exec (.commitRecord wfn t0) s = .next
      ((((s.tick t0).installSet wfn).1.putCommitWfn wfn).commitStat 0 ((s.tick t0).installSet wfn).2) := by
  change execCommitRecord wfn t0 s = _
  simp only [execCommitRecord, hf, Bool.not_true, Bool.false_eq_true, if_false]

theorem exec_refreshRecord_of_follows {s : State} {im : Image} (him : s.gen.running = some im) (hf : s.follows = true)
    (ta wfn slot t0 : Nat) : exec (.refreshRecord ta wfn slot t0) s = .next
      (((s.tick t0).markUnusable ta).oweRefresh ta (windowOpen im.timeline wfn slot) im.timeline.nImage) := by
  have hf' := follows_tick hf t0
  have him' : (s.tick t0).image? = some im := him
  change execRefreshRecord ta wfn slot t0 s = _
  simp only [execRefreshRecord, him', hf', Bool.not_true, Bool.false_eq_true, if_false]

/-- A tile owed a refresh has one due. -/
theorem State.oweRefresh_any (s : State) (ta ready n : Nat) : (s.oweRefresh ta ready n).ccx.refresh.any (fun j => j.ta == ta) = true := by
  unfold State.oweRefresh
  split
  · assumption
  · simp

/-! ### EXPRESS records (R136) -/

/-- A chain's request of an EXPRESS record goes out. -/
def State.relaySymbol (code eseq : Nat) (z : State) (c : Nat) : State :=
  match z.chn.exp.find? (fun x => x.chain == c) with
  | none => z
  | some x => z.sendSymbol x code eseq

theorem exec_expressRecord_of_mirror {s : State} (hf : s.formedMirror = true) {code : Nat} (hlo : 1 ≤ code) (hhi : code ≤ 3)
    (mask eseq t0 : Nat) : exec (.expressRecord mask code eseq t0) s = .next ((setBits 4 mask).foldl (State.relaySymbol code eseq) (s.tick t0)) := by
  have hf' : (s.tick t0).formedMirror = true := hf
  have hguard : ¬((!(s.tick t0).formedMirror) = true ∨ code = 0 ∨ 3 < code) := by
    rintro (h | h | h)
    · simp [hf'] at h
    · omega
    · omega
  change execExpressRecord mask code eseq t0 s = _
  rw [execExpressRecord, if_neg hguard]
  rfl

/-- What an EXPRESS record leaves a chain with. -/
def relayed (code eseq : Nat) (x : ExpTx) : Prop := x.eseq = eseq % 256 ∧ (x.want = 0 ∨ x.want < code)

theorem State.exp_sendSymbol (s : State) (x : ExpTx) (k eseq : Nat) : ∃ x1, relayed k eseq x1 ∧
    (s.sendSymbol x k eseq).chn.exp = s.chn.exp.map (fun y => if y.chain = x.chain then x1 else y) := by
  refine ⟨_, ⟨rfl, ?_⟩, rfl⟩
  dsimp only
  split_ifs with hk
  · exact .inl rfl
  · exact .inr (not_le.mp hk)

/-- A chain that has no transmitter is passed over; another sends the symbol. -/
theorem State.relaySymbol_cases (code eseq : Nat) (z : State) (c : Nat) :
    (z.relaySymbol code eseq c = z ∧ ∀ y ∈ z.chn.exp, y.chain ≠ c) ∨
      ∃ x, x.chain = c ∧ z.relaySymbol code eseq c = z.sendSymbol x code eseq := by
  unfold State.relaySymbol
  split
  case h_1 hnone => exact .inl ⟨rfl, by simpa using hnone⟩
  case h_2 x hsome => exact .inr ⟨x, by simpa using List.find?_some hsome, rfl⟩

theorem State.mem_exp_relaySymbol {z : State} {c code eseq : Nat} {y : ExpTx} (hy : y ∈ (z.relaySymbol code eseq c).chn.exp) :
    (y ∈ z.chn.exp ∧ y.chain ≠ c) ∨ relayed code eseq y := by
  rcases State.relaySymbol_cases code eseq z c with ⟨heq, hnone⟩ | ⟨x, hx, heq⟩
  · rw [heq] at hy
    exact .inl ⟨hy, hnone y hy⟩
  · obtain ⟨x1, hx1, hexp⟩ := z.exp_sendSymbol x code eseq
    rw [heq, hexp, hx] at hy
    obtain ⟨u, hu, rfl⟩ := List.mem_map.mp hy
    split_ifs with hc
    · exact .inr hx1
    · exact .inl ⟨hu, hc⟩

theorem State.relaySymbol_other {z : State} {c : Nat} {y : ExpTx} (hy : y ∈ z.chn.exp) (hc : y.chain ≠ c) (code eseq : Nat) :
    y ∈ (z.relaySymbol code eseq c).chn.exp := by
  rcases State.relaySymbol_cases code eseq z c with ⟨heq, -⟩ | ⟨x, hx, heq⟩
  · rw [heq]
    exact hy
  · obtain ⟨x1, -, hexp⟩ := z.exp_sendSymbol x code eseq
    rw [heq, hexp, hx]
    exact List.mem_map.mpr ⟨y, hy, if_neg hc⟩

theorem State.relaySymbol_out {z : State} {y : ExpTx} (hy : y ∈ z.chn.exp) (code eseq : Nat) :
    Output.express y.chain (requestCode code) (eseq % 256) ∈ (z.relaySymbol code eseq y.chain).out := by
  rcases State.relaySymbol_cases code eseq z y.chain with ⟨-, hnone⟩ | ⟨x, hx, heq⟩
  · exact absurd rfl (hnone y hy)
  · rw [heq, ← hx]
    exact List.mem_cons_self

theorem State.mem_out_relaySymbol {z : State} {o : Output} (ho : o ∈ z.out) (code eseq c : Nat) : o ∈ (z.relaySymbol code eseq c).out := by
  rcases State.relaySymbol_cases code eseq z c with ⟨heq, -⟩ | ⟨x, -, heq⟩
  · rw [heq]
    exact ho
  · rw [heq]
    exact List.mem_cons_of_mem _ ho

theorem State.mem_out_foldl_relaySymbol {z : State} {o : Output} (ho : o ∈ z.out) (code eseq : Nat) (l : List Nat) :
    o ∈ (l.foldl (State.relaySymbol code eseq) z).out := by
  induction l generalizing z with
  | nil => exact ho
  | cons c l ih => exact ih (State.mem_out_relaySymbol ho code eseq c)

/-- Every transmitter afterwards is one the record did not name, or as it leaves it. -/
theorem State.mem_exp_foldl_relaySymbol {code eseq : Nat} {l : List Nat} {z : State} {y : ExpTx}
    (hy : y ∈ (l.foldl (State.relaySymbol code eseq) z).chn.exp) : (y ∈ z.chn.exp ∧ y.chain ∉ l) ∨ relayed code eseq y := by
  induction l generalizing z with
  | nil => exact .inl ⟨hy, List.not_mem_nil⟩
  | cons c l ih =>
    rcases ih hy with ⟨hstep, hl⟩ | hdone
    · refine (State.mem_exp_relaySymbol hstep).imp_left fun ⟨hz, hc⟩ => ⟨hz, ?_⟩
      simp [hc, hl]
    · exact .inr hdone

theorem State.foldl_relaySymbol_other {l : List Nat} {z : State} {y : ExpTx} (hy : y ∈ z.chn.exp) (hl : y.chain ∉ l) (code eseq : Nat) :
    y ∈ (l.foldl (State.relaySymbol code eseq) z).chn.exp := by
  induction l generalizing z with
  | nil => exact hy
  | cons c l ih =>
    obtain ⟨hc, hl⟩ := not_or.mp (fun h => hl (List.mem_cons.mpr h))
    exact ih (State.relaySymbol_other hy hc code eseq) hl

theorem State.foldl_relaySymbol_out {l : List Nat} {z : State} {y : ExpTx} (hy : y ∈ z.chn.exp) (hl : y.chain ∈ l) (code eseq : Nat) :
    Output.express y.chain (requestCode code) (eseq % 256) ∈ (l.foldl (State.relaySymbol code eseq) z).out := by
  induction l generalizing z with
  | nil => simp at hl
  | cons c l ih =>
    by_cases hc : y.chain = c
    · subst hc
      exact State.mem_out_foldl_relaySymbol (State.relaySymbol_out hy code eseq) code eseq l
    · exact ih (State.relaySymbol_other hy hc code eseq) ((List.mem_cons.mp hl).resolve_left hc)

/-! ### Tile records (R292) -/

/-- The coder a tile record describes. -/
def coderOfRecord (r : TileRec) (c : ChainRec) : TileCoder := { ta := r.ta, pools := poolsOf r c, qp := r.qp, firstCell := r.firstCell }

/-- The refreshes due once a tile record is applied. -/
def State.refreshOfRecord (s : State) (r : TileRec) (t0 : Nat) : List RefreshJob :=
  let rest := s.ccx.refresh.filter (fun j => j.ta != r.ta)
  if r.refreshPending then
    rest ++ [{ ta := r.ta, due := (List.range r.slots).drop (r.slots - r.refreshDue), ready := t0, startup := false }]
  else rest

/-- A tile record applied. -/
def State.recordApplied (s : State) (r : TileRec) (c : ChainRec) (t0 : Nat) : State :=
  { s with
    ccx := { s.ccx with tiles := coderOfRecord r c :: s.ccx.tiles.filter (fun y => y.ta != r.ta), refresh := s.refreshOfRecord r t0 },
    red := { s.red with applied := r.ta :: s.red.applied.filter (· != r.ta),
                        matches_ := s.red.matches_.filter (fun m => m.1.1 != r.ta) } }

/-- VERIFY begins once every tile's record is applied. -/
def State.verifyIfAll (s : State) : State :=
  if s.tas.all (fun x => s.red.applied.contains x) ∧ s.get Reg.RED_STATE Fld.RED_STATE_PHASE = 4 then s.putRed Fld.RED_STATE_PHASE 5 else s

theorem State.verifyIfAll_keeps (s : State) : s.TablesKeep s.verifyIfAll := by
  unfold State.verifyIfAll
  split
  · exact s.putRed_tablesKeep _ _
  · exact .refl s

theorem exec_tileRecord_of_joiner {r : TileRec} {s : State} {c : ChainRec} (hc : s.chainOf? r.ta = some c) (hlink : s.linkCode = 1)
    (hjoiner : s.bit Reg.RED_STATE Fld.RED_STATE_JOINER = true) (t0 : Nat) :
    exec (.tileRecord r t0) s = .next ((s.tick t0).recordApplied r c t0).verifyIfAll := by
  have hc' : (s.tick t0).chainOf? r.ta = some c := hc
  have hguard : ¬((s.tick t0).linkCode ≠ 1 ∨ (!(s.tick t0).bit Reg.RED_STATE Fld.RED_STATE_JOINER) = true) := by
    have hlink' : (s.tick t0).linkCode = 1 := hlink
    have hjoiner' : (s.tick t0).bit Reg.RED_STATE Fld.RED_STATE_JOINER = true := hjoiner
    simp [hlink', hjoiner']
  change execTileRecord r t0 s = _
  unfold execTileRecord
  dsimp only
  rw [hc']
  dsimp only
  rw [if_neg hguard, ← apply_ite Host.Outcome.next]
  rfl

/-! ### SLICE_SIG (R286) -/

theorem sameSlice_comm (a b : SliceSig) : sameSlice a b = sameSlice b a := by
  simp only [sameSlice, BEq.comm]

theorem State.otherSig_of_coded {s : State} {b g : SliceSig} (hg : s.red.sigs.find? (fun y => sameSlice y b) = some g) :
    s.otherSig b = s.compareSig g b := by
  have hsame : (fun y => sameSlice y b) = sameSlice b := funext fun y => sameSlice_comm y b
  rw [hsame] at hg
  unfold State.otherSig
  rw [hg]

/-- While FORMED a mismatch is a divergence report. -/
theorem State.diverge_compareSig {s : State} (hlink : s.linkCode = 2) (a b : SliceSig) :
    (s.compareSig a b).reg Reg.RED_DIVERGE =
      if a.scrc = b.scrc ∧ a.fsig = b.fsig then s.reg Reg.RED_DIVERGE else satAdd (s.reg Reg.RED_DIVERGE) 1 := by
  have hformed : s.formed = true := by rw [State.formed, hlink]; rfl
  have hsame : (a.scrc == b.scrc && a.fsig == b.fsig) = decide (a.scrc = b.scrc ∧ a.fsig = b.fsig) := by
    rw [Bool.decide_and]
    rfl
  have hreport (f slot : Nat) : (s.report f slot).reg Reg.RED_DIVERGE = satAdd (s.reg Reg.RED_DIVERGE) 1 :=
    (State.reg_restartHoldoff (s.bump Reg.RED_DIVERGE 1) _).trans ((s.reg_bump _ _ _).trans (if_pos rfl))
  unfold State.compareSig
  dsimp only
  rw [if_pos hformed, hsame]
  by_cases heq : a.scrc = b.scrc ∧ a.fsig = b.fsig
  · rw [if_pos heq, if_pos (decide_eq_true heq)]
  · rw [if_neg heq, if_neg (by simpa using heq), hreport]

theorem exec_sliceSig_formed {ta wfn slot scrc fsig t0 : Nat} {s : State} {g : SliceSig} (hsend : s.isSender = true) (hlink : s.linkCode = 2)
    (hg : s.red.sigs.find? (fun y => y.ta == ta && y.wfn == wfn && y.slot == slot) = some g) :
    exec (.sliceSig ta wfn slot scrc fsig t0) s = .next
      ((s.tick t0).compareSig g { ta := ta, wfn := wfn, slot := slot, scrc := scrc, fsig := fsig }) := by
  have hagreed : s.agreed = true := by rw [State.agreed, hlink]; rfl
  have hboth : (s.tick t0).isSender = true ∧ (s.tick t0).agreed = true := ⟨hsend, hagreed⟩
  have hg' : (s.tick t0).red.sigs.find? (fun y => sameSlice y { ta := ta, wfn := wfn, slot := slot, scrc := scrc, fsig := fsig }) = some g := hg
  change execSliceSig ta wfn slot scrc fsig t0 s = _
  rw [execSliceSig, if_pos hboth, State.otherSig_of_coded hg']

end Sys2Proof.Machine
end

section
/-! Senders join (O42): the clauses of HELLO and CONFIG put together from the lemmas above. -/
namespace Sys2Proof.Machine

/-! ### HELLO -/

section
variable {r : HelloRec} {s : State} {im : Image} (him : s.gen.running = some im) (hdown : s.linkCode = 0)
include him hdown

theorem State.helloTaken_refused :
    (r.position = flag s.isMirror → (s.helloTaken r).tryJoin.linkCode = 0 ∧
      (s.helloTaken r).tryJoin.get Reg.RED_STATE Fld.RED_STATE_JOIN_FAIL = 7 ∧
      (s.helloTaken r).tryJoin.bit Reg.RED_STATE Fld.RED_STATE_PAIR_CONFLICT = true) ∧
    (r.position ≠ flag s.isMirror → r.imageId ≠ im.imageId → (s.helloTaken r).tryJoin.linkCode = 0 ∧
      (s.helloTaken r).tryJoin.get Reg.RED_STATE Fld.RED_STATE_JOIN_FAIL = 1) ∧
    (r.position ≠ flag s.isMirror → r.imageId = im.imageId → 1600 < (pairOffset r.stamps).natAbs →
      (s.helloTaken r).tryJoin.linkCode = 0 ∧ (s.helloTaken r).tryJoin.get Reg.RED_STATE Fld.RED_STATE_JOIN_FAIL = 2) :=
  ⟨State.tryJoin_conflict (s := s.helloTaken r) rfl rfl hdown him, State.tryJoin_image (s := s.helloTaken r) rfl rfl hdown him,
    State.tryJoin_time (s := s.helloTaken r) rfl rfl hdown him⟩

variable (hpos : r.position ≠ flag s.isMirror) (himg : r.imageId = im.imageId) (hoff : (pairOffset r.stamps).natAbs ≤ 1600)
include hpos himg hoff

theorem State.helloTaken_together (hfresh : s.runs = false ∧ r.current = false) : (s.helloTaken r).tryJoin.linkCode = 2 ∧
    (s.helloTaken r).tryJoin.bit Reg.RED_STATE Fld.RED_STATE_CURRENT = true := by
  rw [State.tryJoin_together (s := s.helloTaken r) rfl rfl hdown him hpos himg hoff hfresh]
  exact State.startTogether_red _

theorem State.helloTaken_join (hold : ¬(s.runs = false ∧ r.current = false)) : ∃ u : State, (s.helloTaken r).tryJoin = u.startJoin ∧
    u.bit Reg.RED_STATE Fld.RED_STATE_IN_CONTROL = s.bit Reg.RED_STATE Fld.RED_STATE_IN_CONTROL ∧ u.cmp = s.cmp ∧ u.ccx = s.ccx :=
  State.tryJoin_join (s := s.helloTaken r) rfl rfl hdown him hpos himg hoff hold

end

/-! ### The statement -/

/-- Settles O42: HELLO by the check of R290 and the part the sender then plays, CONFIG record by record, and each other record by what the
follower takes of it. -/
theorem sendersJoin : Obligations.SendersJoin := by
  refine ⟨fun r s im him hrole hcrc hdown => ?hello, fun r s hsend hcrc => exec_hello_bad hsend hcrc,
    fun p t0 s im h him hrole hdown hup hello hpos himg => ?recheck, fun t0 s hf => ?config, fun o t0 s hf => ?ignored,
    fun t0 s hlink hphase hstreams hchannels => ?ends, fun t0 s hwait => ?waits, fun wfn t0 s hf => ?commit,
    fun mask code eseq t0 s hf hlo hhi => ?express, fun ta wfn slot t0 s im him hf => ?refresh, fun r t0 s c hc hlink hjoiner => ?tile,
    fun ta wfn slot scrc fsig t0 s g hsend hlink hg => ?sig⟩
  case hello =>
    obtain ⟨hconflict, himage, htime⟩ := State.helloTaken_refused (r := r) him hdown
    refine ⟨_, exec_hello_good (isSender_of_running him hrole) hcrc, hconflict, himage, htime, fun hpos himg hoff => ?_⟩
    split_ifs with hfresh
    · exact State.helloTaken_together him hdown hpos himg hoff hfresh
    · obtain ⟨u, hu, hcontrol, hcmp, hccx⟩ := State.helloTaken_join him hdown hpos himg hoff hfresh
      rw [hu, ← hcontrol, ← hcmp, ← hccx]
      cases hc : u.bit Reg.RED_STATE Fld.RED_STATE_IN_CONTROL
      · obtain ⟨hlink, hjoiner, hcurrent, hsurfaces, hphase⟩ := State.startJoin_joiner hc
        exact ⟨hlink, hjoiner, fun _ => ⟨hcurrent, hsurfaces, hphase⟩, by simp⟩
      · obtain ⟨hlink, hjoiner, hphase, hsurfaces, hcoders, hqueue⟩ := State.startJoin_source hc
        exact ⟨hlink, hjoiner, by simp, fun _ => ⟨hphase, hsurfaces, hcoders, hqueue⟩⟩
  case recheck =>
    refine ⟨_, exec_helloRecheck_down (isSender_of_running him hrole) hdown p t0,
      State.tryJoin_time (s := s.offsetTaken p t0) hello hup hdown him hpos himg, fun hoff => ?_⟩
    by_cases hfresh : s.runs = false ∧ h.current = false
    · rw [State.tryJoin_together (s := s.offsetTaken p t0) hello hup hdown him hpos himg hoff hfresh, (State.startTogether_red _).1]
      decide
    · obtain ⟨u, hu, -⟩ := State.tryJoin_join (s := s.offsetTaken p t0) hello hup hdown him hpos himg hoff hfresh
      rw [hu, State.linkCode_startJoin]
      decide
  case config =>
    refine ⟨fun a d ha hret => ⟨_, exec_configRecord_register hf t0 ha hret d, ?_, fun b hb => ?_⟩, fun a d ha => ?stream,
      fun d => ⟨_, exec_configRecord_retCtrl hf t0 d, State.retOn_retCtrlCopy _ d⟩,
      fun id v => ⟨_, exec_configRecord_param hf t0 id v, rfl, rfl⟩, exec_configRecord_committed hf t0,
      fun c st e hc => exec_configRecord_express hf t0 hc st e,
      fun ta qp fc x hx hta => ⟨_, exec_configRecord_coder hf t0 hx qp fc, State.coder?_setCoder (s := s.tick t0) hx hta⟩,
      fun jobs => ⟨_, exec_configRecord_refreshQueue hf t0 jobs, rfl⟩, fun a bs => ⟨_, exec_configRecord_memory hf t0 a bs, rfl, rfl⟩,
      exec_configRecord_surface hf t0, exec_configRecord_freed hf t0,
      fun hlink => ⟨_, exec_configRecord_last hf t0 hlink, (State.startConverge_keeps _).1⟩⟩
    · exact (State.reg_setReg _ _ _ _).trans (if_pos rfl)
    · exact (State.reg_setReg _ _ _ _).trans (if_neg hb.symm)
    case stream =>
      have hexec := exec_configRecord_streamReg hf t0 ha d
      refine ⟨fun hnone hne => ⟨_, hexec, ?_⟩, fun hnone heq => ⟨_, hexec, ?_⟩, fun hwait => ⟨_, hexec, ?_⟩⟩
      · rw [if_pos hnone, State.copyStreamReg_field ha hne]
        exact ⟨(State.reg_setReg _ _ _ _).trans (if_pos rfl), fun b hb => (State.reg_setReg _ _ _ _).trans (if_neg hb.symm)⟩
      · rw [if_pos hnone]
        exact State.streamOn_copyStreamReg ha rfl heq _ d
      · rw [if_neg hwait]
        exact ⟨rfl, congrArg (·.verdicts) (State.stream_modStream_same (s.tick t0) (State.stream_stream _ _))⟩
  case ignored =>
    have hf' : (s.tick t0).follows = false := (State.follows_congr rfl rfl).trans hf
    simp only [exec_configRecord, execConfigRecord, hf', Bool.not_false, if_true]
  case ends => exact exec_convergeEnd_ends t0 hlink hphase (s.converged_iff.mpr ⟨hstreams, hchannels⟩)
  case waits =>
    refine exec_convergeEnd_waits t0 (hwait.imp_right (Or.imp_right fun hmissing => ?_))
    rw [← Bool.not_eq_true, s.converged_iff, not_and_or]
    refine hmissing.imp ?_ ?_
    · rintro ⟨k, hk, hon, hno⟩ hall
      exact hno (hall k hk hon)
    · rintro ⟨k, hk, hno⟩ hall
      exact hno (hall k hk)
  case commit =>
    refine ⟨_, exec_commitRecord_of_follows hf wfn t0, ⟨_, List.mem_append_right _ List.mem_cons_self, rfl, rfl⟩, fun c hc hw => ?_⟩
    rcases List.mem_append.mp hc with hc | hc
    · simp [hw] at hc
    · rw [List.mem_singleton.mp hc]
      rfl
  case express =>
    refine ⟨_, exec_expressRecord_of_mirror hf hlo hhi mask eseq t0, fun x hx hmask => ?_, fun x hx => ?_⟩
    · exact (State.mem_exp_foldl_relaySymbol hx).resolve_left fun h => h.2 hmask
    · split_ifs with hmask
      · exact State.foldl_relaySymbol_out (z := s.tick t0) hx hmask code eseq
      · exact State.foldl_relaySymbol_other (z := s.tick t0) hx hmask code eseq
  case refresh =>
    obtain ⟨-, -, hkeep⟩ := (s.tick t0).markUnusable_keeps ta
    refine ⟨_, exec_refreshRecord_of_follows him hf ta wfn slot t0, State.oweRefresh_any _ _ _ _, fun hnone => ?_⟩
    rw [State.oweRefresh_of_none (by rw [hkeep]; exact hnone)]
    exact congrArg (· ++ _) hkeep
  case tile =>
    have hkeep := ((s.tick t0).recordApplied r c t0).verifyIfAll_keeps
    refine ⟨_, exec_tileRecord_of_joiner hc hlink hjoiner t0, ?_, ?_, fun hpending => ?_⟩
    · rw [hkeep.red]
      exact List.mem_cons_self
    · rw [State.coder?_congr (congrArg (·.tiles) hkeep.ccx)]
      exact List.find?_cons_of_pos (by simp [coderOfRecord])
    · rw [hkeep.ccx]
      simp [State.recordApplied, State.refreshOfRecord, hpending]
  case sig => exact ⟨_, exec_sliceSig_formed hsend hlink hg, State.diverge_compareSig (s := s.tick t0) hlink _ _⟩

end Sys2Proof.Machine
end

section
/-! Decoders take their next picture (R84), and the pair's PROMOTE records (R89). -/
namespace Sys2Proof.Machine

/-! ### DECODE_START (R84) -/

section
variable {decoder : Nat} {s : State} {x : Nat × CodedPic} (t0 : Nat)

theorem exec_decodeStart (decoder : Nat) (s : State) : exec (.decodeStart decoder t0) s = execDecodeStart decoder t0 s := rfl

/-- A LIVE picture is ready and the decoder runs none: RECORDED work is parked for it. -/
theorem exec_decodeStart_live (hx : firstDue (s.readyPictures decoder true) = some x)
    (hrun : ∀ y ∈ s.cdc.decoding, y.decoder = decoder → y.suspended = false →
      s.bit (Reg.CDC_CH_STAT y.pic.channel) Fld.CDC_CH_STAT_LIVE = false) :
    ∃ t, exec (.decodeStart decoder t0) s = .next t ∧ t.cdc.coded = s.cdc.coded.erase x.2 ∧ t.regs = s.regs ∧
      t.cdc.decoding = s.cdc.decoding.map (fun y => if y.decoder = decoder then { y with suspended := true } else y) ++
        [{ decoder := decoder, pic := x.2, deadline := x.1, suspended := false }] := by
  have hrecorded : (s.cdc.decoding.find? (fun y => y.decoder == decoder && !y.suspended)).any
      (fun y => s.bit (Reg.CDC_CH_STAT y.pic.channel) Fld.CDC_CH_STAT_LIVE) = false := by
    cases hfind : s.cdc.decoding.find? (fun y => y.decoder == decoder && !y.suspended) with
    | none => rfl
    | some y =>
      obtain ⟨hdec, hsus⟩ : y.decoder = decoder ∧ y.suspended = false := by simpa using List.find?_some hfind
      exact hrun y (List.mem_of_find?_eq_some hfind) hdec hsus
  simp only [exec_decodeStart, execDecodeStart, hx, hrecorded, Bool.false_eq_true, if_false]
  exact ⟨_, rfl, rfl, rfl, rfl⟩

section
variable (hlive : firstDue (s.readyPictures decoder true) = none)
  (hidle : s.cdc.decoding.find? (fun y => y.decoder == decoder && !y.suspended) = none)
include hlive hidle

/-- The parked picture resumes. -/
theorem exec_decodeStart_resume {y : Decoding} (hy : s.cdc.decoding.find? (fun y => y.decoder == decoder) = some y) :
    ∃ t, exec (.decodeStart decoder t0) s = .next t ∧ t.cdc.coded = s.cdc.coded ∧ t.regs = s.regs ∧
      t.cdc.decoding = s.cdc.decoding.map (fun z => if z = y then { z with suspended := false } else z) := by
  simp only [exec_decodeStart, execDecodeStart, hlive, hidle, hy, Option.isSome_none, Bool.false_eq_true, if_false]
  exact ⟨_, rfl, rfl, rfl, rfl⟩

theorem exec_decodeStart_recorded (hnone : s.cdc.decoding.find? (fun y => y.decoder == decoder) = none)
    (hx : firstDue (s.readyPictures decoder false) = some x) :
    ∃ t, exec (.decodeStart decoder t0) s = .next t ∧ t.cdc.coded = s.cdc.coded.erase x.2 ∧ t.regs = s.regs ∧
      t.cdc.decoding = s.cdc.decoding ++ [{ decoder := decoder, pic := x.2, deadline := x.1, suspended := false }] := by
  simp only [exec_decodeStart, execDecodeStart, hlive, hidle, hnone, hx, Option.isSome_none, Bool.false_eq_true, if_false]
  exact ⟨_, rfl, rfl, rfl, rfl⟩

end
end

/-! ### PROMOTE (R89) -/

theorem State.sendLink_regs (s : State) (r : LinkRecord) : (s.sendLink r).regs = s.regs := by
  unfold State.sendLink
  split_ifs <;> rfl

theorem State.sendLink_cdc (s : State) (r : LinkRecord) : (s.sendLink r).cdc = s.cdc := by
  unfold State.sendLink
  split_ifs <;> rfl

/-- The other sender's opening for a channel's picture, kept. -/
def State.keepOther (s : State) (target wfn slot : Nat) : State :=
  { s with cdc := { s.cdc with otherWritten := s.cdc.otherWritten ++ [(target, wfn, slot)] } }

theorem State.announceReady_of_unwritten {s : State} {c : Nat}
    (h : s.cdc.written.find? (fun w => w.channel == c && !w.announced) = none) : s.announceReady c = s := by
  simp only [State.announceReady, h]

/-- Both senders have written the channel's picture: it is announced for the later of their openings. -/
theorem State.announceReady_of_both {s : State} {c : Nat} {w : WrittenPic} {o : Nat × Nat × Nat} (ha : s.agreed = true)
    (hw : s.cdc.written.find? (fun w => w.channel == c && !w.announced) = some w)
    (ho : s.cdc.otherWritten.find? (fun o => o.1 == c) = some o) :
    (s.announceReady c).regs = s.regs ∧ (s.announceReady c).cdc.announced = s.cdc.announced ++ [(c, laterOpening w.opening o.2)] ∧
      (s.announceReady c).out = .link (.promote c (laterOpening w.opening o.2).1 (laterOpening w.opening o.2).2) :: s.out := by
  simp only [State.announceReady, hw, ho]
  refine ⟨State.sendLink_regs _ _, congrArg (·.announced) (State.sendLink_cdc _ _), State.out_sendLink_of_agreed ?_ _⟩
  exact (State.agreed_congr (s := s) rfl).trans ha

section
variable {target : Nat} {s : State} (wfn slot t0 : Nat)

theorem exec_promote (target : Nat) (s : State) : exec (.promote target wfn slot t0) s = execPromote target wfn slot t0 s := rfl

theorem exec_promote_of_follows (hf : s.follows = true) :
    exec (.promote target wfn slot t0) s = .next { s.tick t0 with
      cdc := { s.cdc with announced := s.cdc.announced ++ [(target, wfn, slot)] } } := by
  simp only [exec_promote, execPromote, hf, if_true]
  rfl

/-- The leader keeps the other sender's opening, and announces the picture if it has written its own. -/
theorem exec_promote_of_leads (hl : s.leads = true) :
    exec (.promote target wfn slot t0) s = .next (((s.tick t0).keepOther target wfn slot).announceReady target) := by
  have hf : s.follows = false := by simp [State.follows, hl]
  simp only [exec_promote, execPromote, hf, hl, Bool.false_eq_true, if_false, if_true]
  rfl

/-- No other opening of the channel was kept, so the one at hand is its first. -/
theorem find?_otherWritten_append {l : List (Nat × Nat × Nat)} (h : l.any (fun o => o.1 == target) = false) :
    (l ++ [(target, wfn, slot)]).find? (fun o => o.1 == target) = some (target, wfn, slot) := by
  have hnone : l.find? (fun o => o.1 == target) = none := by simpa using h
  simp [List.find?_append, hnone]

theorem exec_promote_announces (hl : s.leads = true) (ha : s.agreed = true) (hother : s.cdc.otherWritten.any (fun o => o.1 == target) = false)
    {w : WrittenPic} (hw : s.cdc.written.find? (fun w => w.channel == target && !w.announced) = some w) :
    ∃ t, exec (.promote target wfn slot t0) s = .next t ∧ t.regs = s.regs ∧
      t.cdc.announced = s.cdc.announced ++ [(target, laterOpening w.opening (wfn, slot))] ∧
      t.out = .link (.promote target (laterOpening w.opening (wfn, slot)).1 (laterOpening w.opening (wfn, slot)).2) :: s.out :=
  ⟨_, exec_promote_of_leads wfn slot t0 hl, State.announceReady_of_both (s := (s.tick t0).keepOther target wfn slot)
    ((State.agreed_congr (s := s) rfl).trans ha) hw (find?_otherWritten_append wfn slot hother)⟩

theorem exec_promote_keeps (hl : s.leads = true) (hw : s.cdc.written.find? (fun w => w.channel == target && !w.announced) = none) :
    ∃ t, exec (.promote target wfn slot t0) s = .next t ∧ t.regs = s.regs ∧ t.out = s.out ∧
      t.cdc.otherWritten = s.cdc.otherWritten ++ [(target, wfn, slot)] := by
  refine ⟨_, exec_promote_of_leads wfn slot t0 hl, ?_⟩
  rw [State.announceReady_of_unwritten (s := (s.tick t0).keepOther target wfn slot) hw]
  exact ⟨rfl, rfl, rfl⟩

end

end Sys2Proof.Machine
end

section
/-! What a decoded picture's writing and a discarded one's report leave of the channels (chapter 5; R85, R88, R89, R92). -/
namespace Sys2Proof.Machine

/-! ### Reports of a channel (Table 5.5) -/

/-- The registers in which a channel reports: its state and last error, the error events, its late pictures. -/
def reportReg (c b : Nat) : Prop := b = Reg.CDC_CH_STAT c ∨ b = Reg.CDC_ERR_EVT ∨ b = Reg.CDC_CH_LATE c

/-- Only the registers in which a channel reports may differ. -/
structure State.ReportsOnly (c : Nat) (s t : State) : Prop where
  ing : t.ing = s.ing
  cmp : t.cmp = s.cmp
  cdc : t.cdc = s.cdc
  regs : ∀ b, ¬reportReg c b → t.reg b = s.reg b

theorem State.ReportsOnly.refl (c : Nat) (s : State) : s.ReportsOnly c s := ⟨rfl, rfl, rfl, fun _ _ => rfl⟩

theorem State.ReportsOnly.trans {c : Nat} {s t u : State} (h : s.ReportsOnly c t) (k : t.ReportsOnly c u) : s.ReportsOnly c u :=
  ⟨k.ing.trans h.ing, k.cmp.trans h.cmp, k.cdc.trans h.cdc, fun b hb => (k.regs b hb).trans (h.regs b hb)⟩

theorem State.setReg_reportsOnly {c a : Nat} (s : State) (v : Word) (h : reportReg c a) : s.ReportsOnly c (s.setReg a v) :=
  ⟨rfl, rfl, rfl, fun b hb => (s.reg_setReg a v b).trans (if_neg (by rintro rfl; exact hb h))⟩

section
variable (s : State) (c : Nat)

theorem State.setChState_reportsOnly (v : Nat) : s.ReportsOnly c (s.setChState c v) := s.setReg_reportsOnly _ (.inl rfl)

theorem State.codecErr_reportsOnly (code : Nat) : s.ReportsOnly c (s.codecErr c code) :=
  (s.setReg_reportsOnly _ (.inl rfl)).trans (State.setReg_reportsOnly _ _ (.inr (.inl rfl)))

theorem State.codecConfigErr_reportsOnly : s.ReportsOnly c (s.codecConfigErr c) :=
  (s.setReg_reportsOnly _ (.inl rfl)).trans (State.codecErr_reportsOnly _ c 9)

theorem State.reportErr_reportsOnly (code n : Nat) : s.ReportsOnly c (s.reportErr c code n) := by
  unfold State.reportErr
  split_ifs
  · exact .refl c s
  · exact s.codecErr_reportsOnly c code

theorem State.noteLate_reportsOnly (t deadline : Nat) : s.ReportsOnly c (s.noteLate c t deadline) := by
  unfold State.noteLate
  split_ifs
  · exact (s.setReg_reportsOnly _ (.inr (.inr rfl))).trans (State.codecErr_reportsOnly _ c 8)
  · exact .refl c s

/-- A discarded picture is counted; the rest is its report. -/
theorem State.chSkip_reportsOnly (code : Nat) (waitIrap : Bool) :
    (s.bump (Reg.CDC_CH_SKIPPED c) 1).ReportsOnly c (s.chSkip c code waitIrap) := by
  unfold State.chSkip
  extract_lets s1 s2
  have hcode : s1.ReportsOnly c s2 := by
    unfold s2
    split_ifs
    · exact .refl c s1
    · exact s1.codecErr_reportsOnly c code
  split_ifs
  · exact hcode.trans (s2.setChState_reportsOnly c _)
  · exact hcode

end

theorem decoded_not_report (c : Nat) : ¬reportReg c (Reg.CDC_CH_DECODED c) := by
  simp only [reportReg, Reg.CDC_CH_STAT, Reg.CDC_ERR_EVT, Reg.CDC_CH_LATE, Reg.CDC_CH_DECODED]
  omega

theorem skipped_not_report (c : Nat) : ¬reportReg c (Reg.CDC_CH_SKIPPED c) := by
  simp only [reportReg, Reg.CDC_CH_STAT, Reg.CDC_ERR_EVT, Reg.CDC_CH_LATE, Reg.CDC_CH_SKIPPED]
  omega

/-- A register outside the codec block's channels is no report. -/
theorem not_report_of_offChannel {b : Nat} (h : offChannel b) (c : Nat) : ¬reportReg c b := by
  simp only [reportReg, Reg.CDC_CH_STAT, Reg.CDC_ERR_EVT, Reg.CDC_CH_LATE]
  unfold offChannel at h
  omega

/-! ### Runs, completions and pictures decoded -/

/-- What outputting and discarding a channel's pictures leave: the decoders' runs and completions, and the count of pictures decoded. -/
structure State.RunsKeep (c : Nat) (s t : State) : Prop where
  decoding : t.cdc.decoding = s.cdc.decoding
  lastDone : t.cdc.lastDone = s.cdc.lastDone
  decoded : t.reg (Reg.CDC_CH_DECODED c) = s.reg (Reg.CDC_CH_DECODED c)

theorem State.RunsKeep.refl (c : Nat) (s : State) : s.RunsKeep c s := ⟨rfl, rfl, rfl⟩

theorem State.RunsKeep.trans {c : Nat} {s t u : State} (h : s.RunsKeep c t) (k : t.RunsKeep c u) : s.RunsKeep c u :=
  ⟨k.decoding.trans h.decoding, k.lastDone.trans h.lastDone, k.decoded.trans h.decoded⟩

theorem State.RunsKeep.foldl {α : Type} {c : Nat} {f : State → α → State} (h : ∀ (s : State) a, s.RunsKeep c (f s a)) (l : List α)
    (s : State) : s.RunsKeep c (l.foldl f s) := by
  induction l generalizing s with
  | nil => exact .refl c s
  | cons a l ih => exact (h s a).trans (ih (f s a))

theorem State.ReportsOnly.runsKeep {c : Nat} {s t : State} (h : s.ReportsOnly c t) : s.RunsKeep c t :=
  ⟨congrArg (·.decoding) h.cdc, congrArg (·.lastDone) h.cdc, h.regs _ (decoded_not_report c)⟩

theorem State.setReg_runsKeep {c a : Nat} (s : State) (v : Word) (h : a ≠ Reg.CDC_CH_DECODED c) : s.RunsKeep c (s.setReg a v) :=
  ⟨rfl, rfl, (s.reg_setReg a v _).trans (if_neg h)⟩

/-- A register below the counts of the channels, or the CMP block's. -/
theorem ne_decoded {a : Nat} (h : a < 0x50100 ∨ 0x50500 ≤ a) (c : Nat) : a ≠ Reg.CDC_CH_DECODED c := by
  simp only [Reg.CDC_CH_DECODED]
  omega

theorem State.event_runsKeep (c : Nat) (s : State) (n : Nat) : s.RunsKeep c (s.event n) :=
  ⟨by simp, by simp, s.reg_event_other n _ (ne_decoded (.inl (by decide)) c)⟩

theorem State.sendLink_runsKeep (c : Nat) (s : State) (r : LinkRecord) : s.RunsKeep c (s.sendLink r) :=
  ⟨congrArg (·.decoding) (s.sendLink_cdc r), congrArg (·.lastDone) (s.sendLink_cdc r), s.reg_sendLink r _⟩

theorem State.setPool_runsKeep (c : Nat) (s : State) (p : PoolState) : s.RunsKeep c (s.setPool p) := by
  have hmark : Reg.CDC_CH_POOLMARK p.channel ≠ Reg.CDC_CH_DECODED c := by
    simp only [Reg.CDC_CH_POOLMARK, Reg.CDC_CH_DECODED]
    omega
  unfold State.setPool
  refine ⟨congrArg (·.decoding) (State.setNum_cdc _ _ _), congrArg (·.lastDone) (State.setNum_cdc _ _ _), ?_⟩
  rw [State.reg_setNum, if_neg hmark]
  rfl

/-! ### A picture stored (R88, R102 to R104) -/

/-- The registers and the codec's state: what storing pixels leaves. -/
structure State.PixelsOnly (s t : State) : Prop where
  regs : t.regs = s.regs
  cdc : t.cdc = s.cdc

theorem State.PixelsOnly.refl (s : State) : s.PixelsOnly s := ⟨rfl, rfl⟩

theorem State.PixelsOnly.trans {s t u : State} (h : s.PixelsOnly t) (k : t.PixelsOnly u) : s.PixelsOnly u :=
  ⟨k.regs.trans h.regs, k.cdc.trans h.cdc⟩

theorem State.PixelsOnly.foldl {α : Type} {f : State → α → State} (h : ∀ (s : State) a, s.PixelsOnly (f s a)) (l : List α) (s : State) :
    s.PixelsOnly (l.foldl f s) := by
  induction l generalizing s with
  | nil => exact .refl s
  | cons a l ih => exact (h s a).trans (ih (f s a))

theorem State.PixelsOnly.reg {s t : State} (h : s.PixelsOnly t) (b : Nat) : t.reg b = s.reg b := congrArg (cellGet resetValue · b) h.regs

theorem State.PixelsOnly.runsKeep {s t : State} (h : s.PixelsOnly t) (c : Nat) : s.RunsKeep c t :=
  ⟨congrArg (·.decoding) h.cdc, congrArg (·.lastDone) h.cdc, h.reg _⟩

theorem State.putSample_pixelsOnly (s : State) (v : Surface) (c x y val : Nat) : s.PixelsOnly (s.putSample v c x y val) := by
  unfold State.putSample
  dsimp only
  split_ifs <;> exact ⟨rfl, rfl⟩

theorem State.writeBrick_pixelsOnly (s : State) (v : Surface) (bx by' : Nat) (x : Nat → Nat → Nat → Nat) :
    s.PixelsOnly (s.writeBrick v bx by' x) := by
  unfold State.writeBrick
  dsimp only
  split_ifs
  · exact State.PixelsOnly.trans (.foldl (fun z p => .foldl (fun y k => y.putSample_pixelsOnly _ _ _ _ _) _ z) _ s) ⟨rfl, rfl⟩
  · exact ⟨rfl, rfl⟩

theorem State.padEdges_pixelsOnly (s : State) (v : Surface) : s.PixelsOnly (s.padEdges v) :=
  .foldl (fun z _ => .foldl (fun y _ => .foldl (fun x _ => x.putSample_pixelsOnly _ _ _ _ _) _ y) _ z) _ s

theorem State.writePicture_pixelsOnly (s : State) (v : Surface) (x : Nat → Nat → Nat → Nat) : s.PixelsOnly (s.writePicture v x) := by
  unfold State.writePicture
  split_ifs
  · exact .foldl (fun z r => .foldl (fun y b => y.writeBrick_pixelsOnly _ _ _ _) _ z) _ s
  · exact (s.padEdges_pixelsOnly v).trans (.foldl (fun z c => .foldl (fun y k => y.putSample_pixelsOnly _ _ _ _ _) _ z) _ _)

theorem State.readBricks_runsKeep (c : Nat) (s : State) (v : Surface) (bricks : List Nat) : s.RunsKeep c (s.readBricks v bricks) :=
  s.setReg_runsKeep _ (ne_decoded (.inr (by decide)) c)

/-! ### A picture promoted (R88, R89, R120) -/

section
variable (c : Nat)

theorem State.stillCheck_runsKeep (s : State) (str : Nat) (v : Surface) (t : Nat) : s.RunsKeep c (s.stillCheck str v t) := by
  have hstat : Reg.CMP_STILL_STAT str ≠ Reg.CDC_CH_DECODED c := ne_decoded (.inr (by simp only [Reg.CMP_STILL_STAT]; omega)) c
  unfold State.stillCheck
  extract_lets old now s0 m cfg st low run was is s1 x cmp s2
  have hread : s.RunsKeep c s0 := by
    unfold s0
    split_ifs
    · exact s.readBricks_runsKeep c _ _
    · exact .refl c s
  have hnote : s.RunsKeep c s2 := (hread.trans (s0.setReg_runsKeep _ hstat)).trans ⟨rfl, rfl, rfl⟩
  split_ifs
  · exact (hnote.trans (s2.setReg_runsKeep (a := Reg.CMP_STILL_EVT) _ (ne_decoded (.inr (by decide)) c))).trans (State.event_runsKeep c _ 3)
  · exact hnote

theorem State.promotePicture_runsKeep (s : State) (str h rtp : Nat) (patched : Bool) (t : Nat) :
    s.RunsKeep c (s.promotePicture str h rtp patched t) := by
  have hlast : Reg.ING_STR_LASTPIC str ≠ Reg.CDC_CH_DECODED c := ne_decoded (.inl (by simp only [Reg.ING_STR_LASTPIC]; omega)) c
  unfold State.promotePicture
  extract_lets s1 s2
  have hset : s.RunsKeep c s2 := by
    refine State.RunsKeep.trans ?_ (t := s1) ⟨rfl, rfl, rfl⟩
    exact State.RunsKeep.trans (t := (s.notePromoted str).modStream str _) ⟨rfl, rfl, rfl⟩ (State.setReg_runsKeep _ _ hlast)
  split
  · exact hset
  · exact hset.trans (s2.stillCheck_runsKeep c _ _ _)

theorem State.promoteWritten_runsKeep (s : State) (w : WrittenPic) (t : Nat) : s.RunsKeep c (s.promoteWritten w t) := by
  have hlast : Reg.CDC_CH_LASTPIC w.channel ≠ Reg.CDC_CH_DECODED c := by
    simp only [Reg.CDC_CH_LASTPIC, Reg.CDC_CH_DECODED]
    omega
  have hstat : Reg.CDC_CH_STAT w.channel ≠ Reg.CDC_CH_DECODED c := by
    simp only [Reg.CDC_CH_STAT, Reg.CDC_CH_DECODED]
    omega
  exact ((s.promotePicture_runsKeep c _ _ _ _ _).trans (State.setReg_runsKeep _ _ hlast)).trans (State.setReg_runsKeep _ _ hstat)

theorem State.announceReady_runsKeep (s : State) (k : Nat) : s.RunsKeep c (s.announceReady k) := by
  unfold State.announceReady
  split
  · exact ⟨congrArg (·.decoding) (State.sendLink_cdc _ _), congrArg (·.lastDone) (State.sendLink_cdc _ _), State.reg_sendLink _ _ _⟩
  · exact .refl c s

theorem State.keepWritten_runsKeep (s : State) (w : WrittenPic) : s.RunsKeep c (s.keepWritten w) := by
  unfold State.keepWritten
  extract_lets cdc s1
  have hkept : s.RunsKeep c s1 := ⟨rfl, rfl, rfl⟩
  split_ifs
  · exact hkept.trans (s1.announceReady_runsKeep c _)
  · exact hkept.trans (s1.sendLink_runsKeep c _)

theorem State.outputPicture_runsKeep (s : State) (t : Nat) (p : OutPic) : s.RunsKeep c (s.outputPicture c t p) := by
  have hskip : Reg.CDC_CH_SKIPPED c ≠ Reg.CDC_CH_DECODED c := by simp [Reg.CDC_CH_SKIPPED, Reg.CDC_CH_DECODED]
  have hdamaged : Reg.CDC_CH_DAMAGED c ≠ Reg.CDC_CH_DECODED c := by simp [Reg.CDC_CH_DAMAGED, Reg.CDC_CH_DECODED]
  unfold State.outputPicture
  split
  · exact .refl c s
  split
  · exact s.setReg_runsKeep _ hskip
  split
  · exact (s.codecConfigErr_reportsOnly c).runsKeep
  extract_lets h shift val s1 s2 o w
  have hstored : s.RunsKeep c s1 := ((s.writePicture_pixelsOnly _ _).runsKeep c).trans ⟨rfl, rfl, rfl⟩
  have hcounted : s.RunsKeep c s2 := by
    unfold s2
    split_ifs
    · exact hstored.trans (s1.setReg_runsKeep _ hdamaged)
    · exact hstored
  split_ifs
  · exact hcounted.trans (s2.setReg_runsKeep _ hskip)
  · exact hcounted.trans (s2.keepWritten_runsKeep c w)
  · exact hcounted.trans (s2.promoteWritten_runsKeep c w t)

end

end Sys2Proof.Machine
end

section
/-! PICTURE_DECODE_COMPLETE (chapter 5; R80, R81, R83, R85 to R92): which pictures are discarded, and what decoding the others does. -/
namespace Sys2Proof.Machine

/-! ### Discarded and decoded -/

/-- A picture of a channel is discarded: it counts in CDC_CH_SKIPPED, and nothing is decoded. -/
structure State.Discards (c : Nat) (s t : State) : Prop where
  keeps : s.RunsKeep c t
  skipped : t.reg (Reg.CDC_CH_SKIPPED c) = satAdd (s.reg (Reg.CDC_CH_SKIPPED c)) 1

/-- A picture of a channel is decoded: it counts in CDC_CH_DECODED. -/
structure State.Decodes (c : Nat) (s t : State) : Prop where
  decoding : t.cdc.decoding = s.cdc.decoding
  lastDone : t.cdc.lastDone = s.cdc.lastDone
  decoded : t.reg (Reg.CDC_CH_DECODED c) = satAdd (s.reg (Reg.CDC_CH_DECODED c)) 1

section
variable {c : Nat} {s t u : State}

theorem State.ReportsOnly.skipped (h : s.ReportsOnly c t) : t.reg (Reg.CDC_CH_SKIPPED c) = s.reg (Reg.CDC_CH_SKIPPED c) :=
  h.regs _ (skipped_not_report c)

theorem State.Discards.report (h : s.Discards c t) (k : t.ReportsOnly c u) : s.Discards c u :=
  ⟨h.keeps.trans k.runsKeep, k.skipped.trans h.skipped⟩

theorem State.ReportsOnly.discards (h : s.ReportsOnly c t) (k : t.Discards c u) : s.Discards c u :=
  ⟨h.runsKeep.trans k.keeps, k.skipped.trans (by rw [h.skipped])⟩

theorem State.chSkip_discards (s : State) (c code : Nat) (waitIrap : Bool) : s.Discards c (s.chSkip c code waitIrap) := by
  have hskip : Reg.CDC_CH_SKIPPED c ≠ Reg.CDC_CH_DECODED c := by simp [Reg.CDC_CH_SKIPPED, Reg.CDC_CH_DECODED]
  have h := s.chSkip_reportsOnly c code waitIrap
  exact ⟨(s.setReg_runsKeep _ hskip).trans h.runsKeep, h.skipped.trans (by simp)⟩

theorem State.setPool_discards (h : s.Discards c t) (p : PoolState) : s.Discards c (t.setPool p) := by
  have hmark : Reg.CDC_CH_POOLMARK p.channel ≠ Reg.CDC_CH_SKIPPED c := by
    simp only [Reg.CDC_CH_POOLMARK, Reg.CDC_CH_SKIPPED]
    omega
  refine ⟨h.keeps.trans (t.setPool_runsKeep c p), Eq.trans ?_ h.skipped⟩
  rw [State.setPool, State.reg_setNum, if_neg hmark]
  rfl

/-- The count rises once, between steps that leave it. -/
theorem State.Decodes.of_bump (h : s.RunsKeep c t) (k : (t.bump (Reg.CDC_CH_DECODED c) 1).RunsKeep c u) : s.Decodes c u :=
  ⟨k.decoding.trans h.decoding, k.lastDone.trans h.lastDone, k.decoded.trans (by rw [State.reg_bump, if_pos rfl, h.decoded])⟩

theorem State.Decodes.report (h : s.Decodes c t) (k : t.ReportsOnly c u) : s.Decodes c u :=
  ⟨k.runsKeep.decoding.trans h.decoding, k.runsKeep.lastDone.trans h.lastDone, k.runsKeep.decoded.trans h.decoded⟩

end

/-! ### JPEG XS (R81, R92) -/

/-- The JPEG XS pictures that are not decoded: beyond Table 5.2, larger than CDC_CH_DIM, not conforming, or with a packet absent in codestream
mode. -/
def State.jxsDiscards (s : State) (c : Nat) (p : JxsPic) (pic : CodedPic) : Prop :=
  jxsExcluded p = true ∨ (fieldOf (s.reg (Reg.CDC_CH_DIM c)) 0 16 < p.width ∨ fieldOf (s.reg (Reg.CDC_CH_DIM c)) 16 16 < p.height) ∨
    p.syntaxBad = true ∨ (pic.absent ≠ 0 ∧ (!pic.sliceMode) = true)

theorem State.not_jxsDiscards {s : State} {c : Nat} {p : JxsPic} {pic : CodedPic} (hok : jxsExcluded p = false)
    (hw : p.width ≤ fieldOf (s.reg (Reg.CDC_CH_DIM c)) 0 16) (hh : p.height ≤ fieldOf (s.reg (Reg.CDC_CH_DIM c)) 16 16)
    (hsyntax : p.syntaxBad = false) (habsent : pic.absent = 0 ∨ pic.sliceMode = true) : ¬s.jxsDiscards c p pic := by
  have hslices : ¬(pic.absent ≠ 0 ∧ (!pic.sliceMode) = true) := by
    rintro ⟨h0, hmode⟩
    exact habsent.elim h0 fun h => by simp [h] at hmode
  rintro (h | (h | h) | h | h)
  · simp [hok] at h
  · omega
  · omega
  · simp [hsyntax] at h
  · exact hslices h

section
variable {s : State} {c : Nat} {p : JxsPic} {run : Decoding} (t : Nat)

theorem State.finishJxs_discards (h : s.jxsDiscards c p run.pic) : s.Discards c (s.finishJxs c t p run) := by
  unfold State.finishJxs
  extract_lets dim lost
  split
  · exact s.chSkip_discards c 1 false
  split
  · exact s.chSkip_discards c 2 false
  split
  · exact s.chSkip_discards c 4 false
  split
  · exact s.chSkip_discards c 0 false
  next hexcluded hsize hbad habsent =>
    exact absurd h (by simp only [State.jxsDiscards, not_or]; exact ⟨hexcluded, not_or.mp hsize, hbad, habsent⟩)

theorem State.finishJxs_decodes (h : ¬s.jxsDiscards c p run.pic) : s.Decodes c (s.finishJxs c t p run) := by
  obtain ⟨hexcluded, hsize, hbad, habsent⟩ := by simpa only [State.jxsDiscards, not_or] using h
  unfold State.finishJxs
  extract_lets dim lost prev rows s0 o
  rw [if_neg hexcluded, if_neg (not_or.mpr hsize), if_neg hbad, if_neg habsent]
  have hread : s.RunsKeep c s0 := by
    unfold s0
    clear_value prev
    split
    · split_ifs
      · exact s.readBricks_runsKeep c _ _
      · exact .refl c s
    · exact .refl c s
  refine .of_bump (hread.trans (s0.setChState_reportsOnly c Ch.DECODING).runsKeep) ?_
  exact ((State.reportErr_reportsOnly _ c _ _).trans (State.noteLate_reportsOnly _ c t _)).runsKeep.trans (State.outputPicture_runsKeep c _ t o)

end

/-! ### HEVC (R80, R83, R86, R87, R90 to R92) -/

/-- After a loss of coded data the channel waits for an IRAP picture (R86). -/
def State.lossNoted (s : State) (c : Nat) (pic : CodedPic) : State := if pic.afterLoss then s.setChState c Ch.WAIT_IRAP else s

theorem State.lossNoted_reportsOnly (s : State) (c : Nat) (pic : CodedPic) : s.ReportsOnly c (s.lossNoted c pic) := by
  unfold State.lossNoted
  split_ifs
  · exact s.setChState_reportsOnly c _
  · exact .refl c s

theorem State.chState_setChState (s : State) (c : Nat) {v : Nat} (h : v < 8) : (s.setChState c v).chState c = v := by
  simp only [State.chState, State.setChState, State.get, State.reg_put, if_true]
  exact (fieldOf_putField_same _ 0 3 v (by decide)).trans (Nat.mod_eq_of_lt h)

theorem State.chState_lossNoted (s : State) (c : Nat) (pic : CodedPic) :
    (s.lossNoted c pic).chState c = Ch.WAIT_IRAP ↔ pic.afterLoss = true ∨ s.chState c = Ch.WAIT_IRAP := by
  unfold State.lossNoted
  split_ifs with h
  · simp [h, s.chState_setChState c (v := Ch.WAIT_IRAP) (by decide)]
  · simp [h]

theorem State.poolBuffers_reports {c : Nat} {s t : State} (h : s.ReportsOnly c t) (p : HevcSps) : t.poolBuffers c p = s.poolBuffers c p := by
  have hpool : t.reg (Reg.CDC_CH_POOL c) = s.reg (Reg.CDC_CH_POOL c) := h.regs _ (by
    simp only [reportReg, Reg.CDC_CH_POOL, Reg.CDC_CH_STAT, Reg.CDC_ERR_EVT, Reg.CDC_CH_LATE]
    omega)
  simp only [State.poolBuffers, State.poolSurface, State.surface?, hpool, h.cmp]

/-- The HEVC pictures that are not decoded: no IRAP picture where one is waited for, beyond Table 5.1, larger than CDC_CH_DIM, or of more frame
buffers than the pool holds. -/
def State.hevcDiscards (s : State) (c : Nat) (p : HevcPic) (pic : CodedPic) : Prop :=
  ((pic.afterLoss = true ∨ s.chState c = Ch.WAIT_IRAP) ∧ hevcIrap p.kind = false) ∨ spsExcluded p.sps = true ∨
    (fieldOf (s.reg (Reg.CDC_CH_DIM c)) 0 16 < p.sps.width ∨ fieldOf (s.reg (Reg.CDC_CH_DIM c)) 16 16 < p.sps.height) ∨
    s.poolBuffers c p.sps < p.sps.buffers

theorem State.not_hevcDiscards {s : State} {c : Nat} {p : HevcPic} {pic : CodedPic}
    (hirap : (pic.afterLoss = false ∧ s.chState c ≠ Ch.WAIT_IRAP) ∨ hevcIrap p.kind = true) (hok : spsExcluded p.sps = false)
    (hw : p.sps.width ≤ fieldOf (s.reg (Reg.CDC_CH_DIM c)) 0 16) (hh : p.sps.height ≤ fieldOf (s.reg (Reg.CDC_CH_DIM c)) 16 16)
    (hpool : p.sps.buffers ≤ s.poolBuffers c p.sps) : ¬s.hevcDiscards c p pic := by
  rintro (⟨hwait, hkind⟩ | h | (h | h) | h)
  · rcases hirap with ⟨hloss, hstate⟩ | hirap
    · simp [hloss, hstate] at hwait
    · simp [hirap] at hkind
  · simp [hok] at h
  all_goals omega

section
variable (s : State) (c : Nat) (p : HevcPic) (pic : CodedPic)

/-- What finishHevc reads after the loss is noted. -/
theorem State.finishHevc_reads :
    ((((s.lossNoted c pic).chState c == Ch.WAIT_IRAP) && !hevcIrap p.kind) = true ↔
      (pic.afterLoss = true ∨ s.chState c = Ch.WAIT_IRAP) ∧ hevcIrap p.kind = false) ∧
    (s.lossNoted c pic).reg (Reg.CDC_CH_DIM c) = s.reg (Reg.CDC_CH_DIM c) ∧
    (s.lossNoted c pic).poolBuffers c p.sps = s.poolBuffers c p.sps := by
  have hnoted := s.lossNoted_reportsOnly c pic
  refine ⟨?_, hnoted.regs _ ?_, State.poolBuffers_reports hnoted p.sps⟩
  · rw [Bool.and_eq_true, beq_iff_eq, s.chState_lossNoted, Bool.not_eq_true']
  · simp only [reportReg, Reg.CDC_CH_DIM, Reg.CDC_CH_STAT, Reg.CDC_ERR_EVT, Reg.CDC_CH_LATE]
    omega

end

section
variable {s : State} {c : Nat} {p : HevcPic} {run : Decoding} (t : Nat)

theorem State.finishHevc_discards (h : s.hevcDiscards c p run.pic) : s.Discards c (s.finishHevc c t p run) := by
  obtain ⟨hwait, hdim, hbufs⟩ := s.finishHevc_reads c p run.pic
  have hnoted := s.lossNoted_reportsOnly c run.pic
  unfold State.finishHevc
  rw [← State.lossNoted]
  extract_lets s1 waiting dim n
  have hskip (code : Nat) (w : Bool) : s.Discards c (s1.chSkip c code w) := hnoted.discards (s1.chSkip_discards c code w)
  split
  · exact hskip 0 false
  split
  · exact hskip 1 true
  split
  · exact hskip 2 true
  split
  · exact State.setPool_discards (hskip 3 true) _
  next hirap hexcluded hsize hpool =>
    rw [State.hevcDiscards, ← hwait, ← hdim, ← hbufs] at h
    exact absurd h (by simp only [not_or]; exact ⟨hirap, hexcluded, not_or.mp hsize, hpool⟩)

theorem State.finishHevc_decodes (h : ¬s.hevcDiscards c p run.pic) : s.Decodes c (s.finishHevc c t p run) := by
  obtain ⟨hwait, hdim, hbufs⟩ := s.finishHevc_reads c p run.pic
  have hnoted := s.lossNoted_reportsOnly c run.pic
  have hgenerated : Reg.CDC_CH_GENERATED c ≠ Reg.CDC_CH_DECODED c := by simp [Reg.CDC_CH_GENERATED, Reg.CDC_CH_DECODED]
  rw [State.hevcDiscards, ← hwait, ← hdim, ← hbufs, not_or, not_or, not_or] at h
  obtain ⟨hirap, hexcluded, hsize, hpool⟩ := h
  unfold State.finishHevc
  rw [← State.lossNoted]
  extract_lets s1 waiting dim n pool start noRasl lost r s2 s3 red s4
  rw [if_neg hirap, if_neg hexcluded, if_neg hsize, if_neg hpool]
  have hreports : s2.ReportsOnly c s3 :=
    ((((s2.reportErr_reportsOnly c _ _).trans (State.reportErr_reportsOnly _ c _ _)).trans (State.reportErr_reportsOnly _ c _ _)).trans
      (State.reportErr_reportsOnly _ c _ _)).trans (State.noteLate_reportsOnly _ c t _)
  have hiraps : s3.RunsKeep c s4 := by
    unfold s4
    split_ifs
    · exact ⟨rfl, rfl, rfl⟩
    · exact .refl c s3
  have hstart : s.RunsKeep c (s1.setChState c Ch.DECODING) := (hnoted.trans (s1.setChState_reportsOnly c Ch.DECODING)).runsKeep
  have hcounted : ((s1.setChState c Ch.DECODING).bump (Reg.CDC_CH_DECODED c) 1).RunsKeep c s2 := State.setReg_runsKeep _ _ hgenerated
  clear_value s4
  have hpooled := s4.setPool_runsKeep c { channel := c, total := n, bufs := r.bufs, noRasl := noRasl }
  have hkept := ((hcounted.trans hreports.runsKeep).trans hiraps).trans hpooled
  refine .of_bump hstart (hkept.trans ?_)
  exact .foldl (fun z (b : FrameBuf) => z.outputPicture_runsKeep c t b.out) r.outs _

end

end Sys2Proof.Machine
end

section
/-! A whole JPEG XS picture of an unpaired sender becomes latest complete (R88, R89), and the statement on the decoders (O10). -/
namespace Sys2Proof.Machine

/-! ### The picture promoted (R88, R89, R120) -/

theorem State.stillCheck_ing (s : State) (str : Nat) (v : Surface) (t : Nat) : (s.stillCheck str v t).ing = s.ing := by
  unfold State.stillCheck
  extract_lets old now s0 m cfg st low run was is s1 x cmp s2
  have hread : s0.ing = s.ing := by
    unfold s0
    split_ifs <;> rfl
  split_ifs
  · exact (State.event_ing _ 3).trans hread
  · exact hread

theorem State.latest_promotePicture (s : State) (str h rtp : Nat) (patched : Bool) (t : Nat) :
    ((s.promotePicture str h rtp patched t).stream str).latest = some h := by
  have hset := (s.notePromoted str).stream_modStream_same (k := str) (f := fun x => { x with latest := some h }) (State.stream_stream _ str)
  unfold State.promotePicture
  extract_lets s1 s2
  have hlatest : (s2.stream str).latest = some h := congrArg (·.latest) hset
  split
  · exact hlatest
  · exact (congrArg (·.latest) (State.stream_congr (congrArg (·.streams) (s2.stillCheck_ing str _ t)) str)).trans hlatest

theorem State.promoteWritten_latest (s : State) (w : WrittenPic) (t : Nat) :
    ((s.promoteWritten w t).stream w.channel).latest = some w.handle ∧
      (s.promoteWritten w t).reg (Reg.CDC_CH_LASTPIC w.channel) = BitVec.ofNat 32 w.rtp := by
  have hstat : Reg.CDC_CH_STAT w.channel ≠ Reg.CDC_CH_LASTPIC w.channel := by simp [Reg.CDC_CH_STAT, Reg.CDC_CH_LASTPIC]
  refine ⟨s.latest_promotePicture w.channel w.handle w.rtp false t, ?_⟩
  rw [State.promoteWritten, State.reg_putBit, if_neg hstat, State.reg_setNum, if_pos rfl]

/-- An undamaged picture of which enough is present, output by an unpaired sender into a ring surface that holds it. -/
theorem State.outputPicture_alone {s : State} {c h : Nat} {v : Surface} {p : OutPic} (t : Nat) (hst : s.chState c ≠ Ch.CONFIG_ERR)
    (hfree : s.ringFree c = some h) (hv : s.surface? h = some v) (hholds : surfaceHolds v p = true) (hwhole : p.damaged = false)
    (henough : p.enough = true) (halone : s.agreed = false) :
    ((s.outputPicture c t p).stream c).latest = some (handleOf v) ∧
      (s.outputPicture c t p).reg (Reg.CDC_CH_LASTPIC c) = BitVec.ofNat 32 p.rtp := by
  have hbind : (s.ringFree c).bind s.surface? = some v := by rw [hfree, Option.bind_some, hv]
  unfold State.outputPicture
  rw [if_neg hst]
  split
  next hnone => exact absurd (hnone.symm.trans hbind) (by simp)
  next u hu =>
    obtain rfl : u = v := Option.some.inj (hu.symm.trans hbind)
    extract_lets k shift val s1 s2 o w
    have hs2 : s2 = s1 := by simp only [s2, hwhole, Bool.false_eq_true, if_false]
    have hagreed : s2.agreed = false := by
      rw [hs2]
      exact (State.agreed_congr (s := s) ((s.writePicture_pixelsOnly u val).reg _)).trans halone
    rw [if_neg (by simp [hholds]), if_neg (by simp [hwhole, henough]), if_neg (by simp [hagreed])]
    exact s2.promoteWritten_latest w t

/-! ### What a channel's registers leave of its ring -/

/-- Only registers of the codec block's channels may differ. -/
structure State.RingKeeps (s t : State) : Prop where
  ing : t.ing = s.ing
  cmp : t.cmp = s.cmp
  cdc : t.cdc = s.cdc
  regs : ∀ b, offChannel b → t.reg b = s.reg b

theorem State.RingKeeps.trans {s t u : State} (h : s.RingKeeps t) (k : t.RingKeeps u) : s.RingKeeps u :=
  ⟨k.ing.trans h.ing, k.cmp.trans h.cmp, k.cdc.trans h.cdc, fun b hb => (k.regs b hb).trans (h.regs b hb)⟩

theorem State.ReportsOnly.ringKeeps {c : Nat} {s t : State} (h : s.ReportsOnly c t) : s.RingKeeps t :=
  ⟨h.ing, h.cmp, h.cdc, fun b hb => h.regs b (not_report_of_offChannel hb c)⟩

theorem State.bumpDecoded_ringKeeps (s : State) (c : Nat) : s.RingKeeps (s.bump (Reg.CDC_CH_DECODED c) 1) := by
  refine ⟨rfl, rfl, rfl, fun b hb => (s.reg_bump _ 1 b).trans (if_neg ?_)⟩
  simp only [Reg.CDC_CH_DECODED]
  unfold offChannel at hb
  omega

section
variable {s t : State} (h : s.RingKeeps t)
include h

theorem State.RingKeeps.agreed : t.agreed = s.agreed := State.agreed_congr (h.regs _ offChannel_red)

theorem State.RingKeeps.surface? (k : Nat) : t.surface? k = s.surface? k := by
  simp only [State.surface?, h.cmp]

theorem State.RingKeeps.ringFree (k : Nat) : t.ringFree k = s.ringFree k := by
  have hring : t.ringOf k = s.ringOf k := by
    have hctrl : t.reg (Reg.ING_STR_CTRL k) = s.reg (Reg.ING_STR_CTRL k) := h.regs _ (offChannel_strCtrl k)
    have h01 : t.reg (Reg.ING_STR_SURF01 k) = s.reg (Reg.ING_STR_SURF01 k) := h.regs _ (.inl (by simp only [Reg.ING_STR_SURF01]; omega))
    have h23 : t.reg (Reg.ING_STR_SURF23 k) = s.reg (Reg.ING_STR_SURF23 k) := h.regs _ (.inl (by simp only [Reg.ING_STR_SURF23]; omega))
    unfold State.ringOf State.bit
    rw [hctrl, h01, h23]
  have hstream : t.stream k = s.stream k := State.stream_congr (congrArg (·.streams) h.ing) k
  simp only [State.ringFree, State.ringFreeBut, State.live?, State.windowTook, State.surface?, hring, hstream, h.cmp, h.cdc]

end

/-! ### A whole JPEG XS picture (R81, R88) -/

section
variable (s : State) (c : Nat)

theorem State.chState_codecErr (code : Nat) : (s.codecErr c code).chState c = s.chState c := by
  have hevt : Reg.CDC_ERR_EVT ≠ Reg.CDC_CH_STAT c := by
    simp only [Reg.CDC_ERR_EVT, Reg.CDC_CH_STAT]
    omega
  rw [State.chState, State.get, State.codecErr, State.reg_setReg, if_neg hevt, State.reg_put, if_pos rfl]
  exact fieldOf_putField_other _ _ _ _ _ _ (.inl (by decide))

theorem State.chState_bump {a : Nat} (h : a ≠ Reg.CDC_CH_STAT c) : (s.bump a 1).chState c = s.chState c := by
  rw [State.chState, State.get, State.reg_bump, if_neg h]
  rfl

theorem State.chState_reportErr (code n : Nat) : (s.reportErr c code n).chState c = s.chState c := by
  unfold State.reportErr
  split_ifs
  · rfl
  · exact s.chState_codecErr c code

theorem State.chState_noteLate (t deadline : Nat) : (s.noteLate c t deadline).chState c = s.chState c := by
  unfold State.noteLate
  split_ifs
  · exact (State.chState_codecErr _ c 8).trans (s.chState_bump c (by simp [Reg.CDC_CH_LATE, Reg.CDC_CH_STAT]))
  · rfl

end

theorem State.finishJxs_promotes {s : State} {c h : Nat} {p : JxsPic} {run : Decoding} {v : Surface} (t : Nat)
    (hdecode : ¬s.jxsDiscards c p run.pic) (habsent : run.pic.absent = 0) (hfree : s.ringFree c = some h) (hv : s.surface? h = some v)
    (hfmt : (fmtPicture v.fmt && fmtSampling v.fmt == Nat.min p.chroma 2 && (fmtRgb v.fmt == (p.chroma == 3))) = true)
    (hdepth : p.depth ≤ depthBits v.depth) (hw : p.width ≤ v.width) (hh : p.height ≤ v.height) (halone : s.agreed = false) :
    ((s.finishJxs c t p run).stream c).latest = some (handleOf v) ∧
      (s.finishJxs c t p run).reg (Reg.CDC_CH_LASTPIC c) = BitVec.ofNat 32 run.pic.rtp := by
  obtain ⟨hexcluded, hsize, hbad, hslices⟩ := by simpa only [State.jxsDiscards, not_or] using hdecode
  unfold State.finishJxs
  extract_lets dim lost prev rows s0 o
  rw [if_neg hexcluded, if_neg (not_or.mpr hsize), if_neg hbad, if_neg hslices]
  have hlost : lost = [] := if_pos habsent
  have hs0 : s0 = s := by
    unfold s0
    clear_value prev
    split
    · exact if_neg (by simp [hlost])
    · rfl
  have hstate : (s.setChState c Ch.DECODING).chState c ≠ Ch.CONFIG_ERR := by
    rw [s.chState_setChState c (v := Ch.DECODING) (by decide)]
    decide
  have hring := ((s.setChState_reportsOnly c Ch.DECODING).ringKeeps.trans (State.bumpDecoded_ringKeeps _ c)).trans
    ((State.reportErr_reportsOnly _ c 6 lost.length).trans (State.noteLate_reportsOnly _ c t run.deadline)).ringKeeps
  rw [hs0]
  refine State.outputPicture_alone (h := h) (v := v) t ?_ ((hring.ringFree c).trans hfree) ((hring.surface? h).trans hv) ?_ ?_ ?_
    (hring.agreed.trans halone)
  · rwa [State.chState_noteLate, State.chState_reportErr, State.chState_bump _ _ (by simp [Reg.CDC_CH_DECODED, Reg.CDC_CH_STAT])]
  · simp only [surfaceHolds, Bool.and_eq_true, decide_eq_true_eq] at hfmt ⊢
    exact ⟨⟨⟨hfmt, hdepth⟩, hw⟩, hh⟩
  · simp [o, hlost]
  · simp only [o, hlost, List.length_nil, Nat.sub_zero, decide_eq_true_eq]
    omega

/-! ### PICTURE_DECODE_COMPLETE -/

/-- The picture of a channel leaves its decoder. -/
def State.decodeEnded (s : State) (d : DecodeDone) : State :=
  { s with cdc := { s.cdc with decoding := s.cdc.decoding.filter (fun x => x.pic.channel != d.channel),
                               lastDone := tabSet s.cdc.lastDone d.channel d.t } }

section
variable {d : DecodeDone} {s : State} {run : Decoding}

theorem exec_pictureDecodeComplete (h : s.cdc.decoding.find? (fun x => x.pic.channel == d.channel && !x.suspended) = some run) :
    exec (.pictureDecodeComplete d) s = .next ((s.tick d.t).finishDecode d run) := by
  change execPictureDecodeComplete d s = _
  simp only [execPictureDecodeComplete, h]

theorem State.finishDecode_jxs {p : JxsPic} (hd : d.content = .jxs p) (hr : run.decoder ≠ 0) :
    s.finishDecode d run = (s.decodeEnded d).finishJxs d.channel d.t p run := by
  have hjxs : (run.decoder == 0) = false := by simpa using hr
  simp only [State.finishDecode, hd, hjxs, Bool.false_eq_true, false_and, if_false]
  rfl

/-- After a HEVC picture, the channel of a pool released meanwhile reports it (R93). -/
theorem State.finishDecode_hevc {p : HevcPic} (hd : d.content = .hevc p) (hr : run.decoder = 0) :
    ((s.decodeEnded d).finishHevc d.channel d.t p run).ReportsOnly d.channel (s.finishDecode d run) := by
  simp only [State.finishDecode, hd, hr, beq_self_eq_true, if_true, true_and]
  split_ifs
  · exact State.codecConfigErr_reportsOnly _ _
  · exact .refl _ _

/-- Coded data of another standard than the decoder's are discarded. -/
theorem State.finishDecode_other (h : (∃ p, d.content = .hevc p ∧ run.decoder ≠ 0) ∨ ∃ p, d.content = .jxs p ∧ run.decoder = 0) :
    (s.decodeEnded d).Discards d.channel (s.finishDecode d run) := by
  have hskip := (s.decodeEnded d).chSkip_discards d.channel 4 false
  rcases h with ⟨p, hd, hr⟩ | ⟨p, hd, hr⟩
  · have hjxs : (run.decoder == 0) = false := by simpa using hr
    simp only [State.finishDecode, hd, hjxs, Bool.false_eq_true, false_and, if_false]
    exact hskip
  · simp only [State.finishDecode, hd, hr, beq_self_eq_true, if_true, true_and]
    split_ifs
    · exact hskip.report (State.codecConfigErr_reportsOnly _ _)
    · exact hskip

/-- Whatever becomes of it, the picture leaves its decoder and no other picture does. -/
theorem State.finishDecode_runs (s : State) (d : DecodeDone) (run : Decoding) :
    (s.finishDecode d run).cdc.decoding = (s.decodeEnded d).cdc.decoding ∧
      (s.finishDecode d run).cdc.lastDone = (s.decodeEnded d).cdc.lastDone := by
  have hdiscards {t : State} (h : (s.decodeEnded d).Discards d.channel t) := And.intro h.keeps.decoding h.keeps.lastDone
  have hdecodes {t : State} (h : (s.decodeEnded d).Decodes d.channel t) := And.intro h.decoding h.lastDone
  by_cases hr : run.decoder = 0
  · cases hd : d.content with
    | jxs p => exact hdiscards (State.finishDecode_other (.inr ⟨p, hd, hr⟩))
    | hevc p =>
      have hreport := State.finishDecode_hevc (s := s) hd hr
      by_cases h : (s.decodeEnded d).hevcDiscards d.channel p run.pic
      · exact hdiscards ((State.finishHevc_discards d.t h).report hreport)
      · exact hdecodes ((State.finishHevc_decodes d.t h).report hreport)
  · cases hd : d.content with
    | hevc p => exact hdiscards (State.finishDecode_other (.inl ⟨p, hd, hr⟩))
    | jxs p =>
      rw [State.finishDecode_jxs hd hr]
      by_cases h : (s.decodeEnded d).jxsDiscards d.channel p run.pic
      · exact hdiscards (State.finishJxs_discards d.t h)
      · exact hdecodes (State.finishJxs_decodes d.t h)

end

/-! ### The statement -/

/-- Settles O10: DECODE_START by what its decoder runs, a completed picture by whether it is discarded or decoded, an unpaired sender's whole
JPEG XS picture to its promotion, and PROMOTE by the part the sender plays. -/
theorem decodersServeChannels : Obligations.DecodersServeChannels := by
  refine ⟨fun decoder t0 s x hx hrun => exec_decodeStart_live t0 hx hrun,
    fun decoder t0 s hlive hidle => ⟨fun y hy => exec_decodeStart_resume t0 hlive hidle hy,
      fun x hnone hx => exec_decodeStart_recorded t0 hlive hidle hnone hx⟩,
    fun d s run _ hrun => ?complete, fun d s run p h v _ hrun hr hd hok hbad hw hh habsent hfree hv hfmt hdepth hvw hvh halone => ?promoted,
    fun target wfn slot t0 s hf => ⟨_, exec_promote_of_follows wfn slot t0 hf, rfl, rfl⟩,
    fun target wfn slot t0 s hl ha hother => ⟨fun w hw => exec_promote_announces wfn slot t0 hl ha hother hw,
      fun hw => exec_promote_keeps wfn slot t0 hl hw⟩⟩
  case complete =>
    obtain ⟨hdecoding, hdone⟩ := (s.tick d.t).finishDecode_runs d run
    refine ⟨_, exec_pictureDecodeComplete hrun, hdecoding, ?_, fun p hd hr => ⟨fun hbad => ?_, fun hok hw hh hsyntax habsent => ?_⟩,
      fun p hd hr => ⟨fun hbad => ?_, fun hirap hok hw hh hpool => ?_⟩⟩
    · rw [hdone]
      exact (tabGet_tabSet _ _ _ _).trans (if_pos rfl)
    · have h := State.finishJxs_discards (s := (s.tick d.t).decodeEnded d) (c := d.channel) (p := p) (run := run) d.t
        (hbad.imp_right .inl)
      rw [State.finishDecode_jxs hd hr]
      exact ⟨h.skipped, h.keeps.decoded⟩
    · rw [State.finishDecode_jxs hd hr]
      exact (State.finishJxs_decodes (s := (s.tick d.t).decodeEnded d) d.t (State.not_jxsDiscards hok hw hh hsyntax habsent)).decoded
    · have hreport := State.finishDecode_hevc (s := s.tick d.t) hd hr
      have h := (State.finishHevc_discards (s := (s.tick d.t).decodeEnded d) d.t (p := p) (run := run)
        (hbad.imp_right (Or.imp_right .inl))).report hreport
      exact ⟨h.skipped, h.keeps.decoded⟩
    · have h := State.finishHevc_decodes (s := (s.tick d.t).decodeEnded d) d.t (run := run) (State.not_hevcDiscards hirap hok hw hh hpool)
      exact (h.report (State.finishDecode_hevc hd hr)).decoded
  case promoted =>
    refine ⟨_, exec_pictureDecodeComplete hrun, ?_⟩
    rw [State.finishDecode_jxs hd hr]
    exact State.finishJxs_promotes (s := (s.tick d.t).decodeEnded d) d.t (State.not_jxsDiscards hok hw hh hbad (.inl habsent)) habsent
      hfree hv hfmt hdepth hvw hvh halone

end Sys2Proof.Machine
end

section
/-! Register writes of the return stream (chapter 5; R94, R97, R99). -/
namespace Sys2Proof.Machine

/-- A due write that the gates admit into the CDC block is that block's. -/
theorem State.rowWrite_cdc {s : State} {p : Path} {a : Nat} {data : Word} (h : s.admits p a data = true) (hb : a / 65536 = 5) :
    s.rowWrite p a data true = s.cdcWrite a data := by
  have hm : a ≠ Reg.LMP_MAP := by rintro rfl; exact absurd hb (by decide)
  calc s.rowWrite p a data true = s.blockWrite p a data := State.regWrite_of_allowed h hm
    _ = s.cdcWrite a data := by simp [State.blockWrite, hb]

/-! ### CDC_RET_CTRL (R94, Table 5.9) -/

theorem rowOf_CDC_RET_CTRL : rowOf Reg.CDC_RET_CTRL = some ⟨0x50800, 0, 1, 0x1FFD, 0x0, 0, 0x1004⟩ := by decide

/-- What the block writes of CDC_RET_CTRL; a leader tells the other sender besides. -/
theorem State.cdcWrite_retCtrl (s : State) (data : Word) :
    (s.cdcWrite Reg.CDC_RET_CTRL data).regs = (s.retCtrlWrite data).regs ∧ (s.cdcWrite Reg.CDC_RET_CTRL data).cdc = (s.retCtrlWrite data).cdc := by
  unfold State.cdcWrite
  rw [if_pos rfl]
  dsimp only
  split
  · exact ⟨State.sendLink_regs _ _, State.sendLink_cdc _ _⟩
  · exact ⟨rfl, rfl⟩

/-- ENABLE and ERR of a stream that is enabled unless it is refused. -/
theorem retCtrl_enable_err (w : Word) (refused : Bool) :
    bitOf (putField (putField w 0 1 (flag !refused)) 13 1 (flag refused)) 0 = !refused ∧
      bitOf (putField (putField w 0 1 (flag !refused)) 13 1 (flag refused)) 13 = refused ∧
      fieldOf (putField (putField w 0 1 (flag !refused)) 13 1 (flag refused)) 2 4 = fieldOf w 2 4 := by
  refine ⟨?_, ?_, ?_⟩
  · cases refused <;> simp [bitOf_putField, flag]
  · cases refused <;> simp [bitOf_putField, flag]
  · rw [fieldOf_putField_other _ _ _ _ _ _ (.inl (by decide)), fieldOf_putField_other _ _ _ _ _ _ (.inr (by decide))]

section
variable {data : Word} {s : State} (hlo : 1 ≤ fieldOf data 2 4) (hhi : fieldOf data 2 4 ≤ 8)
include hlo hhi

/-- A disabled stream takes ENABLE unless the limits refuse it. -/
theorem State.retCtrlWrite_enable (hen : bitOf data 0 = true) (hoff : s.retOn = false) :
    (s.retCtrlWrite data).retOn = !s.retRefused data ∧ bitOf ((s.retCtrlWrite data).reg Reg.CDC_RET_CTRL) 13 = s.retRefused data ∧
      (s.retCtrlWrite data).retSliceRows = fieldOf data 2 4 ∧
      (s.retRefused data = false → (s.retCtrlWrite data).cdc.idrDue = true ∧ (s.retCtrlWrite data).cdc.ret = []) := by
  have hevt : Reg.CDC_ERR_EVT ≠ Reg.CDC_RET_CTRL := by decide
  unfold State.retCtrlWrite
  extract_lets rows old s1 cdc s2
  have hrows : fieldOf (s2.reg Reg.CDC_RET_CTRL) 2 4 = fieldOf data 2 4 := by
    have hreg : s2.reg Reg.CDC_RET_CTRL = s1.reg Reg.CDC_RET_CTRL := by
      unfold s2
      split_ifs <;> rfl
    rw [hreg, State.reg_plainWrite rowOf_CDC_RET_CTRL, if_pos rfl]
    exact fieldOf_writeMask _ _ data 2 4 (by decide) (by decide)
  have hstart : (bitOf data 0 && !bitOf old 0) = true := by
    rw [hen, show bitOf old 0 = false from hoff]
    rfl
  obtain ⟨hon, herr, hfield⟩ := retCtrl_enable_err (s2.reg Reg.CDC_RET_CTRL) (s.retRefused data)
  rw [if_neg (by simp only [rows]; omega), if_pos hstart]
  cases hrefused : s.retRefused data <;> rw [hrefused] at hon herr hfield
  · have hreg : (s2.setReg Reg.CDC_RET_CTRL (putField (putField (s2.reg Reg.CDC_RET_CTRL) 0 1 1) 13 1 0)).retStart.reg Reg.CDC_RET_CTRL =
        putField (putField (s2.reg Reg.CDC_RET_CTRL) 0 1 1) 13 1 0 := (s2.reg_setReg _ _ _).trans (if_pos rfl)
    rw [if_neg (by simp), State.retOn, State.retSliceRows, hreg]
    exact ⟨hon, herr, hfield.trans hrows, fun _ => ⟨rfl, rfl⟩⟩
  · have hreg : (s2.setReg Reg.CDC_RET_CTRL (putField (putField (s2.reg Reg.CDC_RET_CTRL) 0 1 0) 13 1 1)).retErrEvt.reg Reg.CDC_RET_CTRL =
        putField (putField (s2.reg Reg.CDC_RET_CTRL) 0 1 0) 13 1 1 := by
      rw [State.retErrEvt, State.reg_setReg, if_neg hevt, State.reg_setReg, if_pos rfl]
    rw [if_pos rfl, State.retOn, State.retSliceRows, hreg]
    exact ⟨hon, herr, hfield.trans hrows, by simp⟩

/-- FORCE_IDR holds whatever ENABLE does. -/
theorem State.retCtrlWrite_force (hforce : bitOf data 1 = true) : (s.retCtrlWrite data).cdc.idrDue = true := by
  unfold State.retCtrlWrite
  extract_lets rows old s1 cdc s2
  have hdue : s2.cdc.idrDue = true := by
    unfold s2
    rw [if_pos hforce]
  rw [if_neg (by simp only [rows]; omega)]
  split_ifs
  · exact hdue
  · rfl
  · exact hdue
  · exact hdue

theorem exec_returnEnable {p : Path} (h : s.admits p Reg.CDC_RET_CTRL data = true) (hen : bitOf data 0 = true) (hoff : s.retOn = false) :
    ∃ t, exec (.returnEnable p data) s = .next t ∧ t.retOn = !s.retRefused data ∧
      bitOf (t.reg Reg.CDC_RET_CTRL) 13 = s.retRefused data ∧ t.retSliceRows = fieldOf data 2 4 ∧
      (s.retRefused data = false → t.cdc.idrDue = true ∧ t.cdc.ret = []) := by
  have hexec : exec (.returnEnable p data) s = .next (s.cdcWrite Reg.CDC_RET_CTRL data) := by
    change execReturnEnable p data s = _
    rw [execReturnEnable, hen, State.rowWrite_cdc h (by decide)]
  obtain ⟨hregs, hcdc⟩ := s.cdcWrite_retCtrl data
  have hreg : (s.cdcWrite Reg.CDC_RET_CTRL data).reg Reg.CDC_RET_CTRL = (s.retCtrlWrite data).reg Reg.CDC_RET_CTRL :=
    congrArg (cellGet resetValue · Reg.CDC_RET_CTRL) hregs
  refine ⟨_, hexec, ?_⟩
  rw [State.retOn, State.retSliceRows, hreg, hcdc]
  exact State.retCtrlWrite_enable hlo hhi hen hoff

theorem exec_forceIdr {p : Path} (h : s.admits p Reg.CDC_RET_CTRL data = true) (hforce : bitOf data 1 = true) :
    ∃ t, exec (.forceIdr p data) s = .next t ∧ t.cdc.idrDue = true := by
  refine ⟨s.cdcWrite Reg.CDC_RET_CTRL data, ?_, ?_⟩
  · change execForceIdr p data s = _
    rw [execForceIdr, hforce, State.rowWrite_cdc h (by decide)]
  · rw [(s.cdcWrite_retCtrl data).2]
    exact State.retCtrlWrite_force hlo hhi hforce

end

/-! ### CDC_RET_RD and CDC_CNT_CLEAR (R97, R99) -/

/-- Neither register is told to the other sender. -/
theorem State.cdcWrite_retRd (s : State) (data : Word) : s.cdcWrite Reg.CDC_RET_RD data = s.retRdWrite data := by
  have hctrl : Reg.CDC_RET_RD ≠ Reg.CDC_RET_CTRL := by decide
  have hlocked : (retLocked Reg.CDC_RET_RD || Reg.CDC_RET_RD == Reg.CDC_RET_CTRL) = false := by decide
  unfold State.cdcWrite
  simp only [hctrl, hlocked, if_false, if_true, Bool.and_false, Bool.false_eq_true]

theorem State.cdcWrite_cntClear (s : State) : s.cdcWrite Reg.CDC_CNT_CLEAR 1 = s.resetRegs cdcCounter := by
  have hctrl : Reg.CDC_CNT_CLEAR ≠ Reg.CDC_RET_CTRL := by decide
  have hrd : Reg.CDC_CNT_CLEAR ≠ Reg.CDC_RET_RD := by decide
  have hlocked : (retLocked Reg.CDC_CNT_CLEAR || Reg.CDC_CNT_CLEAR == Reg.CDC_RET_CTRL) = false := by decide
  unfold State.cdcWrite
  simp only [hctrl, hrd, hlocked, if_false, if_true, Bool.and_false, Bool.false_eq_true]
  rfl

theorem exec_returnReadPointer {p : Path} {data : Word} {s : State} (h : s.admits p Reg.CDC_RET_RD data = true) :
    exec (.returnReadPointer p data) s = .next (s.retRdWrite data) :=
  congrArg Host.Outcome.next ((State.rowWrite_cdc h (by decide)).trans (s.cdcWrite_retRd data))

theorem exec_cdcCntClear {p : Path} {s : State} (h : s.admits p Reg.CDC_CNT_CLEAR 1 = true) :
    exec (.cdcCntClear p) s = .next (s.resetRegs cdcCounter) :=
  congrArg Host.Outcome.next ((State.rowWrite_cdc h (by decide)).trans s.cdcWrite_cntClear)

theorem State.reg_retRdWrite (s : State) (data : Word) :
    (s.retRdWrite data).reg Reg.CDC_RET_RD =
      if data.toNat < 2 * s.retRing ∧ ((s.reg Reg.CDC_RET_WR).toNat + 2 * s.retRing - data.toNat) % (2 * s.retRing) ≤
        ((s.reg Reg.CDC_RET_WR).toNat + 2 * s.retRing - (s.reg Reg.CDC_RET_RD).toNat % (2 * s.retRing)) % (2 * s.retRing)
      then data else s.reg Reg.CDC_RET_RD := by
  unfold State.retRdWrite
  dsimp only
  split_ifs
  · rw [State.reg_setNum, if_pos rfl, BitVec.ofNat_toNat, BitVec.setWidth_eq]
  · rfl

end Sys2Proof.Machine
end

section
/-! Slices of the return stream (chapter 5; R94 to R98): when one starts, and what writing one does to the host ring. -/
namespace Sys2Proof.Machine

/-! ### RETURN_SLICE_START (R94, R95) -/

section
variable {wfn : Nat} {s : State} (arrival : Nat) (hon : s.retOn = true) (hdiv : wfn % (s.retDivide + 1) = 0)
include hon hdiv

/-- The first slice of a picture fixes its kind. -/
theorem exec_returnSliceStart_first (hbefore : ∀ p ∈ s.cdc.ret, p.started = s.retSlices ∧ p.wfn < wfn) :
    ∃ t p, exec (.returnSliceStart wfn 0 arrival) s = .next t ∧ t.cdc.ret = s.cdc.ret ++ [p] ∧ p.wfn = wfn ∧ p.slot = s.retSlot ∧
      p.started = 1 ∧ p.next = 0 ∧ p.lastStart = arrival ∧ p.isRepeat = s.sinkTainted wfn s.retSlot 0x2010 ∧
      (s.cdc.idrDue = true → p.idr = !s.sinkTainted wfn s.retSlot 0x2010) ∧ t.cdc.retNext = arrival + s.retSliceTime := by
  have hready : ¬(s.cdc.ret.any (fun p => p.started != s.retSlices || decide (wfn ≤ p.wfn)) = true) := by
    simp only [List.any_eq_true, not_exists, not_and, Bool.or_eq_true, bne_iff_ne, decide_eq_true_eq, not_or, not_not, Nat.not_le]
    exact hbefore
  have hgate : ¬((!s.retOn) = true ∨ wfn % (s.retDivide + 1) ≠ 0) := by simp [hon, hdiv]
  change ∃ t p, execReturnSliceStart wfn 0 arrival s = .next t ∧ _
  unfold execReturnSliceStart
  rw [if_neg hgate, if_pos rfl, if_neg hready]
  extract_lets period due rep idr s1 p s2
  have hcdc : s2.cdc = s.cdc := by
    unfold s2
    split_ifs <;> rfl
  refine ⟨_, p, rfl, ?_, rfl, rfl, rfl, rfl, rfl, rfl, fun hdue => ?_, rfl⟩
  · rw [hcdc]
  · simp [p, idr, due, rep, hdue]

theorem exec_returnSliceStart_later {slice : Nat} (hpos : 0 < slice) (hslice : slice < s.retSlices)
    (hstarted : s.cdc.ret.any (fun p => p.wfn == wfn && p.started == slice) = true) :
    ∃ t, exec (.returnSliceStart wfn slice arrival) s = .next t ∧ t.regs = s.regs ∧
      t.cdc.retNext = Nat.max arrival s.cdc.retNext + s.retSliceTime ∧
      t.cdc.ret = s.cdc.ret.map (fun p => if p.wfn = wfn then { p with started := slice + 1, lastStart := Nat.max arrival s.cdc.retNext }
        else p) := by
  have hgate : ¬((!s.retOn) = true ∨ wfn % (s.retDivide + 1) ≠ 0) := by simp [hon, hdiv]
  have hnext : ¬((!s.cdc.ret.any (fun p => p.wfn == wfn && p.started == slice)) = true ∨ s.retSlices ≤ slice) := by
    rw [hstarted]
    simpa using hslice
  change ∃ t, execReturnSliceStart wfn slice arrival s = .next t ∧ _
  unfold execReturnSliceStart
  rw [if_neg hgate, if_neg (Nat.ne_of_gt hpos), if_neg hnext]
  exact ⟨_, rfl, rfl, rfl, rfl⟩

end

/-! ### The record of a slice (Table 5.3) -/

theorem padTo_length {n : Nat} {bs : List Byte} (h : bs.length ≤ n) : (padTo n bs).length = n := by
  rw [padTo, List.length_append, zeroBytes, List.length_replicate]
  omega

theorem retHeader_length (len wfn slot flags row t : Nat) (data : List Byte) : (retHeader len wfn slot flags row t data).length = 32 := by
  simp [retHeader, zeroBytes]

/-- A record takes its header and data, up to a multiple of 32 bytes. -/
theorem State.retRecord_length (s : State) (p : RetPic) (r : RetSlice) (lift : Bool) :
    (s.retRecord p r lift).length = roundUp 32 (32 + r.nal.length) := by
  have hround (n : Nat) : n ≤ roundUp 32 n := by
    simp only [roundUp, ceilDiv]
    omega
  unfold State.retRecord
  dsimp only
  rw [padTo_length (hround _), List.length_append, retHeader_length]

/-! ### The host ring (R97) -/

/-- The bytes of the PAD record before one of `n` bytes: it fills the ring to its end when the record would cross that. -/
def State.retPad (s : State) (n : Nat) : Nat :=
  let wr := (s.reg Reg.CDC_RET_WR).toNat % (2 * s.retRing)
  if s.retRing - wr % s.retRing < n then s.retRing - wr % s.retRing else 0

/-- The free bytes of the ring. -/
def State.retRoom (s : State) : Nat :=
  s.retRing - ((s.reg Reg.CDC_RET_WR).toNat % (2 * s.retRing) + 2 * s.retRing - (s.reg Reg.CDC_RET_RD).toNat % (2 * s.retRing)) % (2 * s.retRing)

theorem State.retWrite_of_full {s : State} {bytes : List Byte} (h : s.retRoom < s.retPad bytes.length + bytes.length) :
    s.retWrite bytes = none := if_pos h

/-- Where the record fits, CDC_RET_WR moves over it and the PAD before it, and nothing else but the host's memory changes. -/
theorem State.retWrite_of_room {s : State} {bytes : List Byte} (h : s.retPad bytes.length + bytes.length ≤ s.retRoom) :
    ∃ u, s.retWrite bytes = some u ∧ u.cdc = s.cdc ∧ ∀ b, u.reg b = if Reg.CDC_RET_WR = b then
      BitVec.ofNat 32 (((s.reg Reg.CDC_RET_WR).toNat % (2 * s.retRing) + s.retPad bytes.length + bytes.length) % (2 * s.retRing))
      else s.reg b := by
  refine ⟨_, if_neg (Nat.not_lt.mpr h), ?_, fun b => ?_⟩
  · rw [State.setNum_cdc, State.emit_cdc]
    split_ifs <;> rfl
  · rw [State.reg_setNum, State.reg_emit, Nat.mod_add_mod]
    refine if_congr Iff.rfl rfl ?_
    split_ifs <;> rfl

/-! ### A coded slice stored and counted (R96 to R98) -/

/-- The HRD buffer's content at an instant, noted. -/
def State.withHrd (s : State) (hrd at' : Nat) : State := { s with cdc := { s.cdc with hrd := hrd, hrdAt := at' } }

theorem State.withHrd_keeps (s : State) (hrd at' : Nat) :
    (s.withHrd hrd at').cdc.ret = s.cdc.ret ∧ (s.withHrd hrd at').regs = s.regs ∧ (s.withHrd hrd at').out = s.out := ⟨rfl, rfl, rfl⟩

/-- The bits of a slice have left the HRD buffer (R96). -/
def State.sliceDrained (s : State) (r : RetSlice) : State :=
  (s.tick r.t).withHrd (s.hrdAtTime r.t - r.nal.length * 8 * secT) r.t

theorem State.sliceDrained_keeps (s : State) (r : RetSlice) :
    (s.sliceDrained r).cdc.ret = s.cdc.ret ∧ (s.sliceDrained r).regs = s.regs ∧ (s.sliceDrained r).out = s.out :=
  (s.tick r.t).withHrd_keeps _ r.t

theorem State.reg_sliceDrained (s : State) (r : RetSlice) (b : Nat) : (s.sliceDrained r).reg b = s.reg b :=
  congrArg (cellGet resetValue · b) (s.sliceDrained_keeps r).2.1

/-- A record handed to the host ring: written, with event 2 after the last of a picture, or its picture cut (R97). -/
def State.recordOffered (s : State) (bytes : List Byte) (last : Bool) : State :=
  match s.retWrite bytes with
  | some u => if last then u.event 2 else u
  | none => { ((s.bump Reg.CDC_RET_OVF 1).retErrEvt) with cdc := { s.cdc with idrDue := true } }

/-- The last slice counts its picture (R97, R96). -/
def State.pictureCounted (s : State) (last lift : Bool) : State :=
  if last then if lift then (s.bump Reg.CDC_RET_PICS 1).bump Reg.CDC_RET_ROI_LIFT 1 else s.bump Reg.CDC_RET_PICS 1 else s

/-- The sender in control offers the slice's record; a mirror, or the sender of a picture already cut, does not (R97, R98). -/
def State.sliceStored (s : State) (p : RetPic) (r : RetSlice) (lift : Bool) : State :=
  if p.cut ∨ !s.inControl then s.sliceDrained r
  else (s.sliceDrained r).recordOffered (s.retRecord p r lift) (decide (s.retSlices ≤ r.slice + 1))

/-- The pictures in progress after a slice: the last ends its picture. -/
def retPicsAfter (l : List RetPic) (wfn slice : Nat) (last lift cut : Bool) : List RetPic :=
  if last then l.filter (fun q => q.wfn != wfn)
  else l.map (fun q => if q.wfn = wfn then { q with next := slice + 1, lift := lift, cut := cut } else q)

theorem retPicsAfter_next (l : List RetPic) (wfn slice : Nat) (lift cut : Bool) :
    (retPicsAfter l wfn slice false lift cut).map (fun q => (q.wfn, q.next)) =
      l.map (fun q => (q.wfn, if q.wfn = wfn then slice + 1 else q.next)) := by
  rw [retPicsAfter, if_neg Bool.false_ne_true, List.map_map]
  refine List.map_congr_left fun q _ => ?_
  by_cases hq : q.wfn = wfn <;> simp [hq]

section
variable {s : State} {r : RetSlice} {p : RetPic}

/-- A coded slice is stored, its picture counted after the last, and the pictures in progress move on. -/
theorem exec_returnSliceWritten (hp : s.cdc.ret.find? (fun p => p.wfn == r.wfn && p.next == r.slice && decide (r.slice < p.started)) = some p)
    (hcoded : s.sliceCoded p r = true) :
    ∃ (lift cut : Bool) (u : State), u = (s.sliceStored p r lift).pictureCounted (decide (s.retSlices ≤ r.slice + 1)) lift ∧
      exec (.returnSliceWritten r) s = .next { u with
        cdc := { u.cdc with ret := retPicsAfter u.cdc.ret p.wfn r.slice (decide (s.retSlices ≤ r.slice + 1)) lift cut } } := by
  change ∃ (lift cut : Bool) (u : State), _ ∧ execReturnSliceWritten r s = _
  unfold execReturnSliceWritten
  extract_lets s1 last cdc coded stopped cdcCoded
  split
  next hnone => exact absurd (hnone.symm.trans hp) (by simp)
  next q hq =>
    obtain rfl : q = p := Option.some.inj (hq.symm.trans hp)
    rw [if_neg (by simp [hcoded])]
    extract_lets lift bytes s2 cut counted s3 rest done cdcCounted
    have hdrained : coded = s.sliceDrained r := rfl
    have hstored : s2 = s.sliceStored q r lift := by
      unfold State.sliceStored
      rw [← hdrained]
      clear_value coded
      refine if_congr Iff.rfl rfl ?_
      unfold State.recordOffered
      cases coded.retWrite bytes <;> rfl
    refine ⟨lift, cut, s3, ?_, rfl⟩
    rw [← hstored]
    rfl

end

/-! ### What storing and counting leave -/

/-- The registers that storing a record writes. -/
def recordReg (b : Nat) : Prop := b = Reg.CDC_RET_WR ∨ b = Reg.CDC_RET_OVF ∨ b = Reg.CDC_ERR_EVT ∨ b = Reg.CMD_EVT

theorem State.recordOffered_keeps (s : State) (bytes : List Byte) (last : Bool) :
    (s.recordOffered bytes last).cdc.ret = s.cdc.ret ∧ ∀ b, ¬recordReg b → (s.recordOffered bytes last).reg b = s.reg b := by
  have hne {b : Nat} (hb : ¬recordReg b) : Reg.CDC_RET_WR ≠ b ∧ Reg.CDC_RET_OVF ≠ b ∧ Reg.CDC_ERR_EVT ≠ b ∧ Reg.CMD_EVT ≠ b := by
    simpa only [recordReg, not_or, ne_comm] using hb
  unfold State.recordOffered
  rcases Nat.lt_or_ge s.retRoom (s.retPad bytes.length + bytes.length) with hfull | hroom
  · rw [State.retWrite_of_full hfull]
    refine ⟨rfl, fun b hb => ?_⟩
    obtain ⟨-, hovf, herr, -⟩ := hne hb
    change ((s.bump Reg.CDC_RET_OVF 1).retErrEvt).reg b = _
    rw [State.retErrEvt, State.reg_setReg, if_neg herr, State.reg_bump, if_neg hovf]
  · obtain ⟨u, hu, hcdc, hreg⟩ := State.retWrite_of_room hroom
    rw [hu]
    have hkept (b : Nat) (hb : ¬recordReg b) : u.reg b = s.reg b := (hreg b).trans (if_neg (hne hb).1)
    cases last
    · exact ⟨congrArg (·.ret) hcdc, hkept⟩
    · exact ⟨congrArg (·.ret) ((u.event_cdc 2).trans hcdc), fun b hb => (u.reg_event_other 2 b (hne hb).2.2.2).trans (hkept b hb)⟩

theorem State.sliceStored_keeps (s : State) (p : RetPic) (r : RetSlice) (lift : Bool) :
    (s.sliceStored p r lift).cdc.ret = s.cdc.ret ∧ ∀ b, ¬recordReg b → (s.sliceStored p r lift).reg b = s.reg b := by
  unfold State.sliceStored
  split_ifs
  · exact ⟨(s.sliceDrained_keeps r).1, fun b _ => s.reg_sliceDrained r b⟩
  · obtain ⟨hret, hregs⟩ := (s.sliceDrained r).recordOffered_keeps (s.retRecord p r lift) (decide (s.retSlices ≤ r.slice + 1))
    exact ⟨hret.trans (s.sliceDrained_keeps r).1, fun b hb => (hregs b hb).trans (s.reg_sliceDrained r b)⟩

theorem State.pictureCounted_keeps (s : State) (last lift : Bool) :
    (s.pictureCounted last lift).cdc = s.cdc ∧ (s.pictureCounted last lift).out = s.out ∧
      (s.pictureCounted last lift).reg Reg.CDC_RET_PICS = (if last then satAdd (s.reg Reg.CDC_RET_PICS) 1 else s.reg Reg.CDC_RET_PICS) ∧
      ∀ b, b ≠ Reg.CDC_RET_PICS → b ≠ Reg.CDC_RET_ROI_LIFT → (s.pictureCounted last lift).reg b = s.reg b := by
  have hlift : Reg.CDC_RET_ROI_LIFT ≠ Reg.CDC_RET_PICS := by decide
  unfold State.pictureCounted
  cases last
  · exact ⟨rfl, rfl, rfl, fun _ _ _ => rfl⟩
  cases lift
  · exact ⟨rfl, rfl, by simp, fun b hb _ => by simp [hb.symm]⟩
  · exact ⟨rfl, rfl, by simp [hlift], fun b hb hl => by simp [hb.symm, hl.symm]⟩

/-! ### What an offered record changes (R97) -/

section
variable {s : State} {bytes : List Byte}

theorem State.recordOffered_of_full (h : s.retRoom < s.retPad bytes.length + bytes.length) (last : Bool) :
    (s.recordOffered bytes last).reg Reg.CDC_RET_WR = s.reg Reg.CDC_RET_WR ∧
      (s.recordOffered bytes last).reg Reg.CDC_RET_OVF = satAdd (s.reg Reg.CDC_RET_OVF) 1 ∧
      (s.recordOffered bytes last).cdc.idrDue = true := by
  have hwr : Reg.CDC_RET_OVF ≠ Reg.CDC_RET_WR := by decide
  have herrwr : Reg.CDC_ERR_EVT ≠ Reg.CDC_RET_WR := by decide
  have herrovf : Reg.CDC_ERR_EVT ≠ Reg.CDC_RET_OVF := by decide
  have hreg (b : Nat) (hb : Reg.CDC_ERR_EVT ≠ b) : ((s.bump Reg.CDC_RET_OVF 1).retErrEvt).reg b = (s.bump Reg.CDC_RET_OVF 1).reg b :=
    (State.reg_setReg _ _ _ b).trans (if_neg hb)
  unfold State.recordOffered
  rw [State.retWrite_of_full h]
  exact ⟨((hreg _ herrwr).trans (s.reg_bump _ _ _)).trans (if_neg hwr), ((hreg _ herrovf).trans (s.reg_bump _ _ _)).trans (if_pos rfl), rfl⟩

theorem State.recordOffered_of_room (h : s.retPad bytes.length + bytes.length ≤ s.retRoom) (last : Bool) :
    (s.recordOffered bytes last).reg Reg.CDC_RET_WR =
        BitVec.ofNat 32 (((s.reg Reg.CDC_RET_WR).toNat % (2 * s.retRing) + s.retPad bytes.length + bytes.length) % (2 * s.retRing)) ∧
      (s.recordOffered bytes last).reg Reg.CDC_RET_OVF = s.reg Reg.CDC_RET_OVF ∧
      (last = true → bitOf ((s.recordOffered bytes last).reg Reg.CMD_EVT) 2 = true) := by
  have hovf : Reg.CDC_RET_WR ≠ Reg.CDC_RET_OVF := by decide
  have hevtwr : Reg.CMD_EVT ≠ Reg.CDC_RET_WR := by decide
  have hevtovf : Reg.CMD_EVT ≠ Reg.CDC_RET_OVF := by decide
  obtain ⟨u, hu, -, hreg⟩ := State.retWrite_of_room h
  have hwr := (hreg Reg.CDC_RET_WR).trans (if_pos rfl)
  have hkept := (hreg Reg.CDC_RET_OVF).trans (if_neg hovf)
  unfold State.recordOffered
  rw [hu]
  cases last
  · exact ⟨hwr, hkept, by simp⟩
  · refine ⟨(u.reg_event_other 2 _ hevtwr).trans hwr, (u.reg_event_other 2 _ hevtovf).trans hkept, fun _ => ?_⟩
    change bitOf ((u.event 2).reg Reg.CMD_EVT) 2 = true
    rw [u.reg_event, if_pos rfl]
    simp [bitOf]

end

theorem State.retRing_sliceDrained (s : State) (r : RetSlice) :
    (s.sliceDrained r).retRing = s.retRing ∧ (s.sliceDrained r).retRoom = s.retRoom ∧ ∀ n, (s.sliceDrained r).retPad n = s.retPad n := by
  have hring : (s.sliceDrained r).retRing = s.retRing := by simp only [State.retRing, State.reg_sliceDrained]
  refine ⟨hring, ?_, fun n => ?_⟩
  · simp only [State.retRoom, State.reg_sliceDrained, hring]
  · simp only [State.retPad, State.reg_sliceDrained, hring]

/-! ### RETURN_SLICE_WRITTEN (R96 to R98) -/

section
variable {s : State} {r : RetSlice} {p : RetPic}
  (hp : s.cdc.ret.find? (fun p => p.wfn == r.wfn && p.next == r.slice && decide (r.slice < p.started)) = some p)
  (hcoded : s.sliceCoded p r = true)
include hp hcoded

/-- Each slice moves its picture on, the last counts it; a slice that is not offered leaves the ring and the outputs. -/
theorem exec_returnSliceWritten_progress :
    ∃ t, exec (.returnSliceWritten r) s = .next t ∧
      (if s.retSlices ≤ r.slice + 1 then
        t.cdc.ret = s.cdc.ret.filter (fun q => q.wfn != r.wfn) ∧ t.reg Reg.CDC_RET_PICS = satAdd (s.reg Reg.CDC_RET_PICS) 1
      else t.cdc.ret.map (fun q => (q.wfn, q.next)) = s.cdc.ret.map (fun q => (q.wfn, if q.wfn = r.wfn then r.slice + 1 else q.next)) ∧
        t.reg Reg.CDC_RET_PICS = s.reg Reg.CDC_RET_PICS) ∧
      (p.cut = true ∨ s.inControl = false → t.reg Reg.CDC_RET_WR = s.reg Reg.CDC_RET_WR ∧ t.out = s.out ∧
        t.reg Reg.CDC_RET_OVF = s.reg Reg.CDC_RET_OVF) := by
  have hwfn : p.wfn = r.wfn := by
    have hfound := List.find?_some hp
    simp only [Bool.and_eq_true, beq_iff_eq] at hfound
    exact hfound.1.1
  obtain ⟨lift, cut, u, hu, hexec⟩ := exec_returnSliceWritten hp hcoded
  obtain ⟨hcdc, hout, hpics, hregs⟩ := (s.sliceStored p r lift).pictureCounted_keeps (decide (s.retSlices ≤ r.slice + 1)) lift
  obtain ⟨hret, hstored⟩ := s.sliceStored_keeps p r lift
  rw [← hu] at hcdc hout hpics hregs
  have hlist : u.cdc.ret = s.cdc.ret := (congrArg (·.ret) hcdc).trans hret
  rw [hstored _ (by unfold recordReg; decide)] at hpics
  refine ⟨_, hexec, ?_, fun hidle => ?_⟩
  · change if _ then retPicsAfter _ _ _ _ _ _ = _ ∧ u.reg _ = _ else (retPicsAfter _ _ _ _ _ _).map _ = _ ∧ u.reg _ = _
    rw [hlist, hwfn, hpics]
    by_cases hlast : s.retSlices ≤ r.slice + 1
    · rw [if_pos hlast, decide_eq_true hlast]
      exact ⟨rfl, rfl⟩
    · rw [if_neg hlast, decide_eq_false hlast]
      exact ⟨retPicsAfter_next _ _ _ _ _, rfl⟩
  · have hdrained : s.sliceStored p r lift = s.sliceDrained r := if_pos (hidle.imp_right (by simp))
    rw [hdrained] at hout hregs
    refine ⟨(hregs _ (by decide) (by decide)).trans (s.reg_sliceDrained r _), hout.trans (s.sliceDrained_keeps r).2.2,
      (hregs _ (by decide) (by decide)).trans (s.reg_sliceDrained r _)⟩

/-- The sender in control writes the record where the ring holds it, and cuts the picture where it does not. -/
theorem exec_returnSliceWritten_offered (hcut : p.cut = false) (hcontrol : s.inControl = true) {n : Nat}
    (hn : n = roundUp 32 (32 + r.nal.length)) :
    ∃ t, exec (.returnSliceWritten r) s = .next t ∧
      if s.retPad n + n ≤ s.retRoom then
        t.reg Reg.CDC_RET_WR = BitVec.ofNat 32 (((s.reg Reg.CDC_RET_WR).toNat % (2 * s.retRing) + s.retPad n + n) % (2 * s.retRing)) ∧
          t.reg Reg.CDC_RET_OVF = s.reg Reg.CDC_RET_OVF ∧ (s.retSlices ≤ r.slice + 1 → bitOf (t.reg Reg.CMD_EVT) 2 = true)
      else t.reg Reg.CDC_RET_WR = s.reg Reg.CDC_RET_WR ∧ t.reg Reg.CDC_RET_OVF = satAdd (s.reg Reg.CDC_RET_OVF) 1 ∧ t.cdc.idrDue = true := by
  obtain ⟨lift, cut, u, hu, hexec⟩ := exec_returnSliceWritten hp hcoded
  obtain ⟨hcdc, -, -, hregs⟩ := (s.sliceStored p r lift).pictureCounted_keeps (decide (s.retSlices ≤ r.slice + 1)) lift
  obtain ⟨hring, hroom, hpad⟩ := s.retRing_sliceDrained r
  have hlen : (s.retRecord p r lift).length = n := (s.retRecord_length p r lift).trans hn.symm
  have hoffered : s.sliceStored p r lift = (s.sliceDrained r).recordOffered (s.retRecord p r lift) (decide (s.retSlices ≤ r.slice + 1)) :=
    if_neg (by simp [hcut, hcontrol])
  rw [← hu, hoffered] at hcdc hregs
  have hwr := hregs Reg.CDC_RET_WR (by decide) (by decide)
  have hovf := hregs Reg.CDC_RET_OVF (by decide) (by decide)
  have hevt := hregs Reg.CMD_EVT (by decide) (by decide)
  refine ⟨_, hexec, ?_⟩
  change if _ then u.reg _ = _ ∧ u.reg _ = _ ∧ (_ → bitOf (u.reg _) 2 = true) else u.reg _ = _ ∧ u.reg _ = _ ∧ u.cdc.idrDue = true
  rw [hwr, hovf, hevt, hcdc]
  split_ifs with hfits
  · obtain ⟨hwrote, hkept, hraised⟩ := State.recordOffered_of_room (s := s.sliceDrained r) (bytes := s.retRecord p r lift)
      (by rwa [hlen, hroom, hpad]) (decide (s.retSlices ≤ r.slice + 1))
    rw [hlen, hring, hpad, s.reg_sliceDrained] at hwrote
    exact ⟨hwrote, hkept.trans (s.reg_sliceDrained r _), fun hlast => hraised (decide_eq_true hlast)⟩
  · obtain ⟨hkept, hcounted, hdue⟩ := State.recordOffered_of_full (s := s.sliceDrained r) (bytes := s.retRecord p r lift)
      (by rw [hlen, hroom, hpad]; omega) (decide (s.retSlices ≤ r.slice + 1))
    exact ⟨hkept.trans (s.reg_sliceDrained r _), hcounted.trans (by rw [s.reg_sliceDrained]), hdue⟩

end

/-! ### The statement -/

/-- Settles O11: the register writes by what the block takes of them, the start of a slice by whether it is its picture's first, and a coded
slice by whether its record is offered to the host ring and fits there. -/
theorem decodersAndReturnStream : Obligations.DecodersAndReturnStream := by
  refine ⟨fun p data s h hen hlo hhi hoff => exec_returnEnable hlo hhi h hen hoff,
    fun p data s h hforce hlo hhi => exec_forceIdr hlo hhi h hforce,
    fun wfn arrival s hon hdiv hbefore => exec_returnSliceStart_first arrival hon hdiv hbefore,
    fun wfn slice arrival s hon hdiv hpos hslice hstarted => exec_returnSliceStart_later arrival hon hdiv hpos hslice hstarted,
    fun r s p hp hcoded => exec_returnSliceWritten_progress hp hcoded, ?offered, fun p data s m h hm => ?pointer,
    fun p s h => ⟨_, exec_cdcCntClear h, fun a => s.reg_resetRegs cdcCounter a⟩⟩
  case offered =>
    rintro r s p m n wr rd pad hp hcoded hcut hcontrol rfl hn rfl rfl rfl
    exact exec_returnSliceWritten_offered hp hcoded hcut hcontrol hn
  case pointer =>
    subst hm
    exact ⟨_, exec_returnReadPointer h, s.reg_retRdWrite data⟩

end Sys2Proof.Machine
end

section
/-! Surfaces over their life (chapter 6; R100, R105 to R107): SURFACE_ALLOC, SURFACE_RELEASE and SURFACE_FREE. -/
namespace Sys2Proof.Machine

/-! ### What an answer leaves of the surfaces -/

/-- The compositor's state and DRAM: what no answer and no record sent over the lockstep link touches. -/
structure State.SurfacesKeep (s t : State) : Prop where
  cmp : t.cmp = s.cmp
  dram : t.dram = s.dram

theorem State.SurfacesKeep.refl (s : State) : s.SurfacesKeep s := ⟨rfl, rfl⟩

theorem State.SurfacesKeep.trans {s t u : State} (h : s.SurfacesKeep t) (k : t.SurfacesKeep u) : s.SurfacesKeep u :=
  ⟨k.cmp.trans h.cmp, k.dram.trans h.dram⟩

theorem State.SurfacesKeep.foldl {α : Type} {f : State → α → State} (h : ∀ (s : State) a, s.SurfacesKeep (f s a)) (l : List α) (s : State) :
    s.SurfacesKeep (l.foldl f s) := by
  induction l generalizing s with
  | nil => exact .refl s
  | cons a l ih => exact (h s a).trans (ih (f s a))

theorem State.sendLink_surfacesKeep (s : State) (r : LinkRecord) : s.SurfacesKeep (s.sendLink r) := by
  unfold State.sendLink
  split <;> exact ⟨rfl, rfl⟩

theorem State.pcieRespond_surfacesKeep (s : State) (r : Response) : s.SurfacesKeep (s.pcieRespond r) := by
  unfold State.pcieRespond
  split_ifs
  · exact .refl s
  · refine State.SurfacesKeep.trans (t := _) ?_ ⟨State.event_cmp _ 0, State.event_dram _ 0⟩
    split <;> exact ⟨rfl, rfl⟩
  · exact ⟨rfl, rfl⟩

theorem State.mgmtSend_surfacesKeep (s : State) (k : Nat) (b : List Byte) : s.SurfacesKeep (s.mgmtSend k b) := by
  unfold State.mgmtSend
  split <;> exact ⟨rfl, rfl⟩

theorem State.respond_surfacesKeep (s : State) (p : MboxPath) (r : Response) : s.SurfacesKeep (s.respond p r) := by
  cases p with
  | pcie => exact s.pcieRespond_surfacesKeep r
  | spi => exact ⟨rfl, rfl⟩
  | mgmt k =>
    have hseg : s.SurfacesKeep s.nextSeg := ⟨rfl, rfl⟩
    exact hseg.trans (.foldl (fun z b => z.mgmtSend_surfacesKeep k b) _ _)
  | chain side tag =>
    have hsend (z : State) (b : List Byte) : z.SurfacesKeep (z.tileSend Msg.MBOX_RSP side tag b) := ⟨rfl, rfl⟩
    refine State.SurfacesKeep.trans ?_ (.foldl hsend _ _)
    split <;> exact ⟨rfl, rfl⟩

/-- A command that passes its checks leaves the surfaces as its handler does. -/
theorem State.serve_surfacesKeep {s : State} {op : Nat} {c : MboxCmd} (h : s.takes op c = true) (f : MboxCmd → State → State × Reply) :
    (f c (s.tick c.t)).1.SurfacesKeep (s.serve op c f) := by
  rw [State.serve_of_takes h]
  exact State.respond_surfacesKeep _ c.path _

@[simp] theorem State.follows_tick (s : State) (t : Nat) : (s.tick t).follows = s.follows := State.follows_congr rfl rfl

/-! ### SURFACE_ALLOC (R100, R105) -/

/-- The units of 64 KiB that an allocation asks for. -/
def allocUnits (c : MboxCmd) : Nat :=
  ceilDiv (if fmtData (byteAt c.body 0) then leAt c.body 8 4
    else surfaceBytes (byteAt c.body 0) (byteAt c.body 1) (leAt c.body 4 2) (leAt c.body 6 2)) 65536

/-- A handler with an index and a range adds one LIVE surface of the command's form there. -/
theorem doSurfaceAlloc_of_room {c : MboxCmd} {s : State} {d i a : Nat} (hf : s.follows = false)
    (hd : depthCode (byteAt c.body 0) (byteAt c.body 2) = some d) (hl : layoutOk (byteAt c.body 0) (byteAt c.body 1) = true)
    (hi : s.freeIndex = some i) (ha : s.poolFind (allocUnits c) = some a) :
    ∃ v, (doSurfaceAlloc c s).1.cmp.surfaces = s.cmp.surfaces ++ [v] ∧ v.index = i ∧ v.base = a * 65536 ∧
      v.gen = (tabGet s.cmp.gens i + 1) % 16 ∧ v.fmt = byteAt c.body 0 ∧ v.layout = byteAt c.body 1 ∧ v.depth = d ∧
      v.width = leAt c.body 4 2 ∧ v.height = leAt c.body 6 2 ∧ v.retiring = false ∧ (doSurfaceAlloc c s).1.dram = s.dram := by
  unfold allocUnits at ha
  simp only [doSurfaceAlloc, hf, hd, hl, hi, ha, Bool.not_true, Bool.false_eq_true, if_false]
  exact ⟨_, congrArg (·.surfaces) (State.sendLink_surfacesKeep _ _).cmp, rfl, rfl, rfl, rfl, rfl, rfl, rfl, rfl, rfl,
    (State.sendLink_surfacesKeep _ _).dram⟩

/-- At the mirror, for an unlisted form, and with no index or no range left, nothing is allocated. -/
theorem doSurfaceAlloc_refused {c : MboxCmd} {s : State}
    (h : s.follows = true ∨ depthCode (byteAt c.body 0) (byteAt c.body 2) = none ∨
      layoutOk (byteAt c.body 0) (byteAt c.body 1) = false ∨ s.freeIndex = none ∨ s.poolFind (allocUnits c) = none) :
    (doSurfaceAlloc c s).1 = s := by
  unfold allocUnits at h
  unfold doSurfaceAlloc
  extract_lets f l w height size units cmp
  split
  · rfl
  next hf =>
    split
    · rfl
    next d hd =>
      split
      · rfl
      next hl =>
        split
        next i a hi ha =>
          rcases h with h | h | h | h | h
          · exact (hf h).elim
          · exact nomatch hd.symm.trans h
          · exact (hl (congrArg (! ·) h)).elim
          · exact nomatch hi.symm.trans h
          · exact nomatch ha.symm.trans h
        · rfl

theorem exec_surfaceAlloc (c : MboxCmd) (s : State) : exec (.surfaceAlloc c) s = .next (s.serve 0x201 c doSurfaceAlloc) := rfl

/-! ### SURFACE_RELEASE (R106, R107) -/

theorem State.poolRetired_surfacesKeep (s : State) (h : Nat) : s.SurfacesKeep (s.poolRetired h) := by
  refine State.SurfacesKeep.foldl (fun z c => ?_) _ s
  split <;> exact ⟨rfl, rfl⟩

/-- A LIVE surface that nothing uses, or a pool, becomes RETIRING with its fence. -/
theorem doSurfaceRelease_of_free {c : MboxCmd} {s : State} {v : Surface} (hf : s.follows = false)
    (hv : s.surface? (leAt c.body 0 2) = some v) (hlive : v.retiring = false) (hfree : v.fmt = 0x11 ∨ s.inUse (leAt c.body 0 2) = false) :
    (s.modSurface (leAt c.body 0 2) (fun x => { x with retiring := true, fence := s.fenceOf v })).SurfacesKeep (doSurfaceRelease c s).1 := by
  have huse : ¬ (v.fmt ≠ 0x11 ∧ s.inUse (leAt c.body 0 2) = true) := by
    rintro ⟨hpool, huse⟩
    simp [hpool, huse] at hfree
  simp only [doSurfaceRelease, hf, hv, hlive, if_neg huse, Bool.false_eq_true, if_false]
  refine State.SurfacesKeep.trans ?_ (State.sendLink_surfacesKeep _ _)
  split
  · exact State.poolRetired_surfacesKeep _ _
  · exact .refl _

/-- At the mirror, for a stale handle, and for a surface that retires already or is in use, nothing is released. -/
theorem doSurfaceRelease_refused {c : MboxCmd} {s : State} (h : ∀ v, s.surface? (leAt c.body 0 2) = some v →
      s.follows = true ∨ v.retiring = true ∨ (v.fmt ≠ 0x11 ∧ s.inUse (leAt c.body 0 2) = true)) :
    (doSurfaceRelease c s).1 = s := by
  unfold doSurfaceRelease
  extract_lets handle
  split
  · rfl
  next hf =>
    split
    · rfl
    next v hv =>
      split
      · rfl
      next hretiring =>
        split
        · rfl
        next huse => exact ((h v hv).elim hf (fun h' => h'.elim hretiring huse)).elim

theorem exec_surfaceRelease (c : MboxCmd) (s : State) : exec (.surfaceRelease c) s = .next (s.serve 0x202 c doSurfaceRelease) := rfl

/-! ### SURFACE_FREE (R107) -/

/-- Past its fence and read by no channel, a RETIRING surface is free. -/
theorem exec_surfaceFree_of_ended {handle t0 : Nat} {s : State} {v : Surface} (hv : s.surface? handle = some v) (hretiring : v.retiring = true)
    (hnewest : v.fence ≤ s.sch.newest) (hended : s.endedUpTo v.fence = true) (hreads : s.codecReads handle = false) :
    exec (.surfaceFree handle t0) s = .next (({ s.tick t0 with
      cmp := { s.cmp with surfaces := s.cmp.surfaces.filter (fun x => handleOf x != handleOf v) } }).sendLink (.config (.freed handle))) := by
  change execSurfaceFree handle t0 s = _
  simp only [execSurfaceFree, hv]
  exact if_pos ⟨hretiring, hnewest, hended, by rw [hreads]; rfl⟩

end Sys2Proof.Machine
end

section
/-! Prefills, stillness and the compositor's counters (chapter 6; R113, R114, R120), and the statement on surfaces (O12). -/
namespace Sys2Proof.Machine

/-! ### LATCH_INSTANT (R113, R114) -/

/-- What a sender fetches for WFN `f` before its tiles are composed. -/
def State.prefill (s : State) (im : Image) (f : Nat) : Prefill :=
  { wfn := f, table := s.surfaceBytesOf (fieldOf (setWord (s.setFor f) Reg.CMP_COLOUR) 0 16),
    meshes := (declaredTiles im).map (fun t => (t.1, s.surfaceBytesOf (fieldOf (setWord (s.setFor f) (Reg.CMP_TILE_MESH t.1)) 0 16))),
    rows := (s.slotSources (s.setFor f)).map (fun v => (handleOf v, s.firstRow v)) }

theorem exec_latchInstant_of_sender {s : State} {im : Image} (him : s.gen.running = some im) (hrole : im.role = .sender) (wfn : Nat) :
    exec (.latchInstant wfn) s = .next { s.tick (s.latchInstant im.timeline wfn) with
      cmp := { s.cmp with prefills := s.cmp.prefills.filter (fun q => q.wfn != wfn + 2) ++ [s.prefill im (wfn + 2)] } } := by
  change execLatchInstant wfn s = _
  simp only [execLatchInstant, him]
  exact if_neg (not_not_intro hrole)

/-- The meshes fetched are those of the declared tiles. -/
theorem State.prefill_meshes (s : State) (im : Image) (f : Nat) :
    (s.prefill im f).meshes.map (·.1) = (declaredTiles im).map (·.1) := by
  simp [State.prefill, Function.comp_def]

/-! ### STALE_TIMEOUT (R120) -/

/-- A rise of STILL or STALE raises the stream's bit of CMP_STILL_EVT and leaves every other register of the block. -/
theorem State.reg_stillEvent (s : State) (stream : Nat) {b : Nat} (h : Reg.CMD_EVT ≠ b) :
    (s.stillEvent stream).reg b =
      if Reg.CMP_STILL_EVT = b then s.reg Reg.CMP_STILL_EVT ||| BitVec.ofNat 32 (2 ^ stream) else s.reg b := by
  rw [State.stillEvent, State.reg_event_other _ 3 b h, State.reg_setReg]

theorem bitOf_or_two_pow (w : Word) {n : Nat} (hn : n < 32) : bitOf (w ||| BitVec.ofNat 32 (2 ^ n)) n = true := by
  rw [bitOf, BitVec.getLsbD_or, BitVec.getLsbD_ofNat, Nat.testBit_two_pow_self, decide_eq_true hn, Bool.and_self, Bool.or_true]

/-- A stream without a picture for STALE × 10 ms is STALE. -/
theorem exec_staleTimeout_of_due {stream t0 : Nat} {s : State} (hstream : stream < 16)
    (hon : fieldOf (s.reg (Reg.CMP_STILL_CFG stream)) 24 8 ≠ 0)
    (hdue : ((s.cmp.still.find? (fun x => x.stream == stream)).map (·.lastAt)).getD 0 +
      fieldOf (s.reg (Reg.CMP_STILL_CFG stream)) 24 8 * 10 * msT ≤ t0)
    (hstale : bitOf (s.reg (Reg.CMP_STILL_STAT stream)) 1 = false) :
    exec (.staleTimeout stream t0) s = .next (((s.tick t0).setReg (Reg.CMP_STILL_STAT stream)
      (putField (s.reg (Reg.CMP_STILL_STAT stream)) 1 1 1)).stillEvent stream) := by
  change execStaleTimeout stream t0 s = _
  exact if_pos ⟨hstream, hon, hdue, by rw [hstale]; rfl⟩

theorem State.stale_and_event (s : State) {stream : Nat} (hstream : stream < 16) {t : State}
    (ht : t = (s.setReg (Reg.CMP_STILL_STAT stream) (putField (s.reg (Reg.CMP_STILL_STAT stream)) 1 1 1)).stillEvent stream) :
    bitOf (t.reg (Reg.CMP_STILL_STAT stream)) 1 = true ∧ bitOf (t.reg Reg.CMP_STILL_EVT) stream = true ∧ t.cmp = s.cmp := by
  have hevt : Reg.CMP_STILL_EVT ≠ Reg.CMP_STILL_STAT stream := by simp only [Reg.CMP_STILL_EVT, Reg.CMP_STILL_STAT]; omega
  have hcmd : Reg.CMD_EVT ≠ Reg.CMP_STILL_STAT stream := by simp only [Reg.CMD_EVT, Reg.CMP_STILL_STAT]; omega
  subst ht
  refine ⟨?_, ?_, State.event_cmp _ 3⟩
  · rw [State.reg_stillEvent _ _ hcmd, if_neg hevt, State.reg_setReg, if_pos rfl, bitOf_putField _ _ _ _ _ (by decide)]
    rfl
  · rw [State.reg_stillEvent _ _ (by decide), if_pos rfl]
    exact bitOf_or_two_pow _ (by omega)

/-! ### Register writes of the block (R109 to R112) -/

/-- A write that the gates let through into the CMP block is that block's. -/
theorem State.regWrite_cmp {s : State} {w : RegWrite} (h : s.writeAllowed w = true) (hb : w.addr / 65536 = 6) :
    s.regWrite w = s.cmpWrite w.path w.addr w.data := by
  have hm : w.addr ≠ Reg.LMP_MAP := fun hm => absurd (hm ▸ hb) (by decide)
  calc s.regWrite w = s.blockWrite w.path w.addr w.data := State.regWrite_of_allowed h hm
    _ = s.cmpWrite w.path w.addr w.data := by simp [State.blockWrite, hb]

theorem State.rowWrite_cmp {s : State} {p : Path} {a : Nat} {data : Word} (h : s.admits p a data = true) (hb : a / 65536 = 6) :
    s.rowWrite p a data true = s.cmpWrite p a data := State.regWrite_cmp h hb

/-- CMP_CNT_CLEAR is no register of the pending set. -/
theorem State.cmpWrite_cntClear (s : State) (p : Path) : s.cmpWrite p Reg.CMP_CNT_CLEAR 1 = s.resetRegs cmpCounter := by
  have hpending : pendingAddr Reg.CMP_CNT_CLEAR = false := by decide
  have hcommit : Reg.CMP_CNT_CLEAR ≠ Reg.CMP_COMMIT := by decide
  simp only [State.cmpWrite, hpending, hcommit, Bool.false_eq_true, if_false, if_true]
  rfl

theorem exec_cmpCntClear {p : Path} {s : State} (h : s.admits p Reg.CMP_CNT_CLEAR 1 = true) :
    exec (.cmpCntClear p) s = .next (s.resetRegs cmpCounter) :=
  congrArg Host.Outcome.next ((State.rowWrite_cmp h (by decide)).trans (s.cmpWrite_cntClear p))

/-! ### The statement -/

/-- Settles O12: the two commands by what their handlers do to the surfaces, which their answers leave, and the other rows by the one state that
each of them makes. -/
theorem surfacesLiveAndStandStill : Obligations.SurfacesLiveAndStandStill := by
  refine ⟨?allocated, ?notAllocated, ?released, ?notReleased, ?freed, ?latched, ?stale, ?cleared⟩
  case allocated =>
    intro c s d i a h hf hd hl hi ha
    have hkeep := State.serve_surfacesKeep h doSurfaceAlloc
    obtain ⟨v, hlist, hindex, hbase, hgen, hfmt, hlayout, hdepth, hwidth, hheight, hlive, hdram⟩ :=
      doSurfaceAlloc_of_room (s := s.tick c.t) ((s.follows_tick c.t).trans hf) hd hl hi ha
    exact ⟨_, v, exec_surfaceAlloc c s, by rw [hkeep.cmp, hlist]; rfl, hindex, hbase, hgen, hfmt, hlayout, hdepth, hwidth, hheight, hlive,
      hkeep.dram.trans hdram⟩
  case notAllocated =>
    intro c s h hno
    have hkeep := State.serve_surfacesKeep h doSurfaceAlloc
    rw [doSurfaceAlloc_refused (s := s.tick c.t) (by rwa [s.follows_tick])] at hkeep
    exact ⟨_, exec_surfaceAlloc c s, hkeep.cmp, hkeep.dram⟩
  case released =>
    intro c s v h hf hv hlive hfree
    have hkeep := (doSurfaceRelease_of_free (s := s.tick c.t) ((s.follows_tick c.t).trans hf) hv hlive hfree).trans
      (State.serve_surfacesKeep h doSurfaceRelease)
    exact ⟨_, exec_surfaceRelease c s, hkeep.dram, congrArg (·.surfaces) hkeep.cmp⟩
  case notReleased =>
    intro c s h hno
    have hkeep := State.serve_surfacesKeep h doSurfaceRelease
    rw [doSurfaceRelease_refused (s := s.tick c.t) (by rwa [s.follows_tick])] at hkeep
    exact ⟨_, exec_surfaceRelease c s, hkeep.cmp, hkeep.dram⟩
  case freed =>
    intro handle t0 s v hv hretiring hnewest hended hreads
    exact ⟨_, exec_surfaceFree_of_ended hv hretiring hnewest hended hreads, State.sendLink_regs _ _,
      congrArg (·.surfaces) (State.sendLink_surfacesKeep _ _).cmp⟩
  case latched =>
    intro wfn s im him hrole
    exact ⟨_, s.prefill im (wfn + 2), exec_latchInstant_of_sender him hrole wfn, rfl, rfl, rfl, s.prefill_meshes im (wfn + 2), rfl, rfl, rfl⟩
  case stale =>
    intro stream t0 s hstream hon hdue hstale
    exact ⟨_, exec_staleTimeout_of_due hstream hon hdue hstale, (s.tick t0).stale_and_event hstream rfl⟩
  case cleared =>
    intro p s h
    exact ⟨_, exec_cmpCntClear h, fun a => s.reg_resetRegs cmpCounter a⟩

end Sys2Proof.Machine
end

section
/-! The pending set, its validation and its commit (chapter 6; R110 to R113): LAYER_WRITE, COMMIT_GO, COMMIT_VALIDATION_END and
COMMIT_RECORD, and the statement on them (O13). -/
namespace Sys2Proof.Machine

/-! ### The pending set (R110 to R112) -/

/-- Who owns the layer that holds an address (Table 6.2). -/
def State.layerOwner (s : State) (a : Nat) : Nat := fieldOf (s.reg (Reg.CMP_LAYER ((a - Reg.CMP_LAYER 0) / 64))) 16 2

section
variable {s : State} (hidle : s.bit Reg.CMP_COMMIT_STAT Fld.CMP_COMMIT_STAT_BUSY = false) (hf : s.follows = false) {p : Path} {a : Nat}
include hidle hf

/-- The owner's write is a plain write; a leader tells the other sender of it. -/
theorem State.reg_pendingWrite_of_owner (howner : s.layerOwner a = 3 ∨ s.layerOwner a = ownerCode p) (data : Word) (b : Nat) :
    (s.pendingWrite p a data).reg b = (s.plainWrite a data).reg b := by
  unfold State.layerOwner at howner
  rw [State.pendingWrite, if_neg (by simp [hidle, hf])]
  extract_lets layer l owner s1
  rw [if_neg (by rcases howner with h | h <;> simp [owner, l, h])]
  split
  · exact State.reg_sendLink _ _ b
  · rfl

/-- Any other path's write of a layer is dropped and counted. -/
theorem State.pendingWrite_of_stray (hlo : Reg.CMP_LAYER 0 ≤ a) (hhi : a < 0x65000) (hfree : s.layerOwner a ≠ 3)
    (hother : s.layerOwner a ≠ ownerCode p) (data : Word) : s.pendingWrite p a data = s.bump Reg.CMP_OWN_REJ 1 := by
  unfold State.layerOwner at hfree hother
  rw [State.pendingWrite, if_neg (by simp [hidle, hf])]
  exact if_pos (by simp [hlo, hhi, hfree, hother])

end

/-- While a validation is BUSY, and at the mirror, the pending set stands. -/
theorem State.pendingWrite_of_standing {s : State} (h : s.bit Reg.CMP_COMMIT_STAT Fld.CMP_COMMIT_STAT_BUSY = true ∨ s.follows = true)
    (p : Path) (a : Nat) (data : Word) : s.pendingWrite p a data = s := if_pos h

/-! ### LAYER_WRITE (R110 to R112) -/

section
variable {w : RegWrite} (hlo : Reg.CMP_LAYER 0 ≤ w.addr) (hhi : w.addr < 0x65000)
include hlo hhi

/-- The row is the register write. -/
theorem exec_layerWrite (s : State) : exec (.layerWrite w) s = .next (s.regWrite w) := by
  have hin : inRange w.addr (Reg.CMP_LAYER 0) 0x64FFF = true := by
    rw [inRange, decide_eq_true hlo, decide_eq_true (by omega)]
    rfl
  exact if_pos hin

/-- A layer word that the gates let through is a write of the pending set, where the map names it. -/
theorem State.regWrite_layer {s : State} (h : s.writeAllowed w = true) :
    s.regWrite w = if (rowOf w.addr).isSome = true then s.pendingWrite w.path w.addr w.data else s := by
  have hpending : pendingAddr w.addr = true := by simp [pendingAddr, hlo, hhi]
  have hblock : w.addr / 65536 = 6 := by
    unfold Reg.CMP_LAYER at hlo
    omega
  rw [State.regWrite_cmp h hblock, State.cmpWrite, if_pos hpending]

theorem exec_layerWrite_of_standing {s : State} (h : s.bit Reg.CMP_COMMIT_STAT Fld.CMP_COMMIT_STAT_BUSY = true ∨ s.follows = true) :
    exec (.layerWrite w) s = .next s := by
  rw [exec_layerWrite hlo hhi]
  cases hgate : s.writeAllowed w
  · rw [State.regWrite_of_refused hgate]
  · rw [State.regWrite_layer hlo hhi hgate, State.pendingWrite_of_standing h, ite_self]

variable {s : State} {r : RegRow} (h : s.writeAllowed w = true) (hr : rowOf w.addr = some r)
  (hidle : s.bit Reg.CMP_COMMIT_STAT Fld.CMP_COMMIT_STAT_BUSY = false) (hf : s.follows = false)
include h hr hidle hf

theorem exec_layerWrite_of_owner (howner : s.layerOwner w.addr = 3 ∨ s.layerOwner w.addr = ownerCode w.path) :
    ∃ t, exec (.layerWrite w) s = .next t ∧ t.reg w.addr = writeMask r (s.reg w.addr) w.data ∧ ∀ b, b ≠ w.addr → t.reg b = s.reg b := by
  have hreg (b : Nat) : (s.regWrite w).reg b = if b = w.addr then writeMask r (s.reg b) w.data else s.reg b := by
    rw [State.regWrite_layer hlo hhi h, if_pos (by rw [hr]; rfl), State.reg_pendingWrite_of_owner hidle hf howner, State.reg_plainWrite hr]
  exact ⟨_, exec_layerWrite hlo hhi s, (hreg _).trans (if_pos rfl), fun b hb => (hreg b).trans (if_neg hb)⟩

theorem exec_layerWrite_of_stray (hfree : s.layerOwner w.addr ≠ 3) (hother : s.layerOwner w.addr ≠ ownerCode w.path) :
    exec (.layerWrite w) s = .next (s.bump Reg.CMP_OWN_REJ 1) := by
  rw [exec_layerWrite hlo hhi, State.regWrite_layer hlo hhi h, if_pos (by rw [hr]; rfl),
    State.pendingWrite_of_stray hidle hf hlo hhi hfree hother]

end

/-! ### COMMIT_GO (R112) -/

/-- The state of a validation that has begun: BUSY, behind the BAR2 writes that the link still carries. -/
def State.validating (s : State) : State :=
  { s.putBit Reg.CMP_COMMIT_STAT Fld.CMP_COMMIT_STAT_BUSY true with cmp := { s.cmp with goAfter := s.ing.barUntil } }

theorem State.validating_spec (s : State) : s.validating.bit Reg.CMP_COMMIT_STAT Fld.CMP_COMMIT_STAT_BUSY = true ∧
    s.validating.cmp.goAfter = s.ing.barUntil ∧ ∀ b, b ≠ Reg.CMP_COMMIT_STAT → s.validating.reg b = s.reg b := by
  have hreg (b : Nat) : s.validating.reg b =
      if Reg.CMP_COMMIT_STAT = b then putField (s.reg Reg.CMP_COMMIT_STAT) 4 1 1 else s.reg b := s.reg_putBit _ _ true b
  refine ⟨?_, rfl, fun b hb => (hreg b).trans (if_neg hb.symm)⟩
  rw [State.bit, hreg, if_pos rfl]
  exact bitOf_putField _ _ _ _ _ (by decide)

/-- A GO begins a validation while none is BUSY, and not at the mirror. -/
theorem State.cmpWrite_commit (s : State) (p : Path) {data : Word} (hgo : bitOf data 0 = true) :
    s.cmpWrite p Reg.CMP_COMMIT data =
      if s.bit Reg.CMP_COMMIT_STAT Fld.CMP_COMMIT_STAT_BUSY = false ∧ s.follows = false then s.validating else s := by
  have hpending : pendingAddr Reg.CMP_COMMIT = false := by decide
  simp only [State.cmpWrite, hpending, hgo, Bool.false_eq_true, if_false, if_true, Bool.true_and, Bool.and_eq_true, Bool.not_eq_true']
  rfl

theorem exec_commitGo_of_admitted {p : Path} {data : Word} {s : State} (h : s.admits p Reg.CMP_COMMIT data = true)
    (hgo : bitOf data 0 = true) : exec (.commitGo p data) s = .next (s.cmpWrite p Reg.CMP_COMMIT data) := by
  change execCommitGo p data s = _
  rw [execCommitGo, hgo, State.rowWrite_cmp h (by decide)]

theorem exec_commitGo_of_idle {p : Path} {data : Word} {s : State} (h : s.admits p Reg.CMP_COMMIT data = true) (hgo : bitOf data 0 = true)
    (hidle : s.bit Reg.CMP_COMMIT_STAT Fld.CMP_COMMIT_STAT_BUSY = false) (hf : s.follows = false) :
    exec (.commitGo p data) s = .next s.validating := by
  rw [exec_commitGo_of_admitted h hgo, s.cmpWrite_commit p hgo, if_pos ⟨hidle, hf⟩]

theorem exec_commitGo_of_standing {s : State} (h : s.bit Reg.CMP_COMMIT_STAT Fld.CMP_COMMIT_STAT_BUSY = true ∨ s.follows = true)
    (p : Path) (data : Word) : exec (.commitGo p data) s = .next s := by
  have hstands : ¬ (s.bit Reg.CMP_COMMIT_STAT Fld.CMP_COMMIT_STAT_BUSY = false ∧ s.follows = false) := by
    rintro ⟨hidle, hf⟩
    simp [hidle, hf] at h
  cases hgo : bitOf data 0
  · change Host.Outcome.next (s.rowWrite p Reg.CMP_COMMIT data (bitOf data 0)) = _
    rw [hgo]
    rfl
  · cases hgate : s.admits p Reg.CMP_COMMIT data
    · change Host.Outcome.next (s.rowWrite p Reg.CMP_COMMIT data (bitOf data 0)) = _
      rw [hgo]
      exact congrArg _ (State.regWrite_of_refused hgate)
    · rw [exec_commitGo_of_admitted hgate hgo, s.cmpWrite_commit p hgo, if_neg hstands]

/-! ### A set committed (R113) -/

/-- A set that passed, as the latch logic takes it for WFN `f`. -/
def State.setCommitted (s : State) (f : Nat) : State := ((s.installSet f).1.putCommitWfn f).commitStat 0 (s.installSet f).2

theorem State.setCommitted_sets (s : State) (f : Nat) :
    (s.setCommitted f).cmp.sets = s.cmp.sets.filter (fun x => x.wfn != f) ++ [{ wfn := f, words := s.pendingSet }] := rfl

theorem State.reg_setCommitted_wfn (s : State) (f : Nat) : (s.setCommitted f).reg Reg.CMP_COMMIT_WFN_LO = word f := by
  rw [State.setCommitted, State.commitStat, State.reg_setNum, if_neg (by decide), State.putCommitWfn, State.reg_setNum,
    if_neg (by decide), State.reg_setNum, if_pos rfl]
  rfl

/-- CODE 0, DONE and PASS, and SUPERSEDED when the set takes an earlier one's place. -/
theorem State.reg_setCommitted_stat (s : State) (f : Nat) :
    (s.setCommitted f).reg Reg.CMP_COMMIT_STAT = word (96 + 128 * flag (s.cmp.sets.any (fun x => x.wfn == f))) :=
  (State.reg_setNum _ _ _ _).trans (if_pos rfl)

theorem exec_commitRecord_setCommitted {s : State} (hf : s.follows = true) (wfn t0 : Nat) :
    exec (.commitRecord wfn t0) s = .next ((s.tick t0).setCommitted wfn) := exec_commitRecord_of_follows hf wfn t0

/-! ### COMMIT_VALIDATION_END (R111, R113, Table 6.3) -/

/-- A set is judged as it stands, at whatever instant. -/
theorem State.validate_tick (s : State) (t : Nat) (im : Image) : (s.tick t).validate im = s.validate im := rfl

/-- CODE and DONE of a failed set, without PASS. -/
theorem State.reg_commitStat_failed (s : State) {code : Nat} (hfailed : code ≠ 0) (superseded : Bool) :
    (s.commitStat code superseded).reg Reg.CMP_COMMIT_STAT = word (code + 32 + 128 * flag superseded) := by
  have hpass : flag (code == 0) = 0 := by simp [flag, hfailed]
  rw [State.commitStat, hpass, State.reg_setNum, if_pos rfl]
  rfl

section
variable {t0 : Nat} {s : State} {im : Image} (him : s.gen.running = some im)
  (hbusy : s.bit Reg.CMP_COMMIT_STAT Fld.CMP_COMMIT_STAT_BUSY = true) (hcarried : s.cmp.goAfter ≤ t0)
include him hbusy hcarried

/-- Once the BAR2 writes before the GO are carried, the validation under way ends as the set's first failure says. -/
theorem execCommitValidationEnd_of_due (handshake : Nat) : execCommitValidationEnd t0 handshake s = .next
    (if (s.validate im).1 ≠ 0 then ((s.tick t0).commitStat (s.validate im).1
        (s.bit Reg.CMP_COMMIT_STAT Fld.CMP_COMMIT_STAT_SUPERSEDED)).setNum Reg.CMP_COMMIT_DETAIL (s.validate im).2
    else ((((s.tick t0).tick handshake).setCommitted (s.commitWfn im.timeline handshake)).setNum Reg.CMP_COMMIT_DETAIL 0).sendLink
      (.commit (s.commitWfn im.timeline handshake))) := by
  have hdue : ¬ ((!s.bit Reg.CMP_COMMIT_STAT Fld.CMP_COMMIT_STAT_BUSY) = true ∨ t0 < s.cmp.goAfter) := by
    rw [hbusy]
    simp [hcarried]
  simp only [execCommitValidationEnd, him, if_neg hdue, s.validate_tick, apply_ite Host.Outcome.next]
  rfl

/-- A failed set leaves its code and detail, and the sets as they were. -/
theorem exec_commitValidationEnd_failed (handshake : Nat) {code detail : Nat} (hcode : s.validate im = (code, detail)) (hfailed : code ≠ 0) :
    ∃ t, exec (.commitValidationEnd t0 handshake) s = .next t ∧ t.cmp = s.cmp ∧ t.reg Reg.CMP_COMMIT_DETAIL = word detail ∧
      t.reg Reg.CMP_COMMIT_STAT = word (code + 32 + 128 * flag (s.bit Reg.CMP_COMMIT_STAT Fld.CMP_COMMIT_STAT_SUPERSEDED)) := by
  have hend := execCommitValidationEnd_of_due him hbusy hcarried handshake
  rw [hcode, if_pos hfailed] at hend
  refine ⟨_, hend, rfl, (State.reg_setNum _ _ _ _).trans (if_pos rfl), ?_⟩
  rw [State.reg_setNum, if_neg (by decide)]
  exact State.reg_commitStat_failed _ hfailed _

/-- A set that passes is committed for the WFN of its handshake. -/
theorem exec_commitValidationEnd_passed (handshake : Nat) {detail : Nat} (hpass : s.validate im = (0, detail)) {f : Nat}
    (hwfn : f = s.commitWfn im.timeline handshake) :
    ∃ t, exec (.commitValidationEnd t0 handshake) s = .next t ∧
      t.cmp.sets = s.cmp.sets.filter (fun x => x.wfn != f) ++ [{ wfn := f, words := s.pendingSet }] ∧
      t.reg Reg.CMP_COMMIT_WFN_LO = word f ∧ t.reg Reg.CMP_COMMIT_DETAIL = 0 ∧
      t.reg Reg.CMP_COMMIT_STAT = word (96 + 128 * flag (s.cmp.sets.any (fun x => x.wfn == f))) := by
  have hend := execCommitValidationEnd_of_due him hbusy hcarried handshake
  rw [hpass, if_neg (not_not_intro rfl), ← hwfn] at hend
  refine ⟨_, hend, ?_, ?_, ?_, ?_⟩
  · rw [(State.sendLink_surfacesKeep _ _).cmp]
    exact State.setCommitted_sets _ _
  · rw [State.reg_sendLink, State.reg_setNum, if_neg (by decide)]
    exact State.reg_setCommitted_wfn _ _
  · rw [State.reg_sendLink, State.reg_setNum, if_pos rfl]
    rfl
  · rw [State.reg_sendLink, State.reg_setNum, if_neg (by decide)]
    exact State.reg_setCommitted_stat _ _

end

/-! ### The statement -/

/-- Settles O13: a layer word by whether the pending set stands and who owns its layer, a GO by whether the set stands, and a validation's end
by what the set's first failure is. -/
theorem pendingSetsAreValidatedAndCommitted : Obligations.PendingSetsAreValidatedAndCommitted := by
  refine ⟨fun w s r h hlo hhi hr hidle hf howner => exec_layerWrite_of_owner hlo hhi h hr hidle hf howner, ?stray,
    fun w s hlo hhi h => ⟨s, exec_layerWrite_of_standing hlo hhi h, rfl⟩,
    fun p data s h hgo hidle hf => ⟨_, exec_commitGo_of_idle h hgo hidle hf, s.validating_spec⟩,
    fun p data s h => ⟨s, exec_commitGo_of_standing h p data, rfl⟩,
    fun t0 handshake code detail s im him hbusy hcarried hcode hfailed =>
      exec_commitValidationEnd_failed him hbusy hcarried handshake hcode hfailed,
    fun t0 handshake detail f s im him hbusy hcarried hpass hwfn => exec_commitValidationEnd_passed him hbusy hcarried handshake hpass hwfn,
    fun wfn t0 s hf => ⟨_, exec_commitRecord_setCommitted hf wfn t0, State.setCommitted_sets _ _, State.reg_setCommitted_wfn _ _⟩⟩
  case stray =>
    intro w s r h hlo hhi hr hidle hf hfree hother
    exact ⟨_, exec_layerWrite_of_stray hlo hhi h hr hidle hf hfree hother, (s.reg_bump _ 1 _).trans (if_pos rfl),
      fun b hb => (s.reg_bump _ 1 b).trans (if_neg hb.symm)⟩

end Sys2Proof.Machine
end

section
/-! Ports of the chain link (chapter 7): what CHN_PORT_STAT and a port's bring-up record read after each operation on them, and what the
operations of other blocks leave of the link. -/
namespace Sys2Proof.Machine

/-! ### Fields of one register -/

theorem State.get_put_disjoint (s : State) (a b : Nat) {f g : Field} (v : Nat) (h : g.lo + g.len ≤ f.lo ∨ f.lo + f.len ≤ g.lo) :
    (s.put a f v).get b g = s.get b g := by
  rw [State.get, State.reg_put]
  split_ifs with hab
  · rw [fieldOf_putField_other _ _ _ _ _ _ h, hab, State.get]
  · rfl

theorem State.bit_put_disjoint (s : State) (a b : Nat) {f g : Field} (v : Nat) (hg : g.lo < 32) (h : g.lo < f.lo ∨ f.lo + f.len ≤ g.lo) :
    (s.put a f v).bit b g = s.bit b g := by
  rw [State.bit, State.reg_put]
  split_ifs with hab
  · rw [bitOf_putField _ _ _ _ _ hg, if_neg (by omega), hab, State.bit]
  · rfl

theorem State.bit_putBit_same (s : State) (a : Nat) {f : Field} (x : Bool) (hf : f.lo < 32) (hlen : 0 < f.len) : (s.putBit a f x).bit a f = x := by
  rw [State.bit, State.reg_putBit, if_pos rfl, bitOf_putField _ _ _ _ _ hf, if_pos (by omega), Nat.sub_self]
  cases x <;> rfl

/-! ### The role -/

theorem State.isSender_congr {s t : State} (h : t.gen = s.gen) : t.isSender = s.isSender := by
  rw [State.isSender, State.role?, h, State.isSender, State.role?]

theorem State.lt_four_of_hasPort {s : State} {p : Nat} (h : s.hasPort p = true) : p < 4 := by
  unfold State.hasPort at h
  split at h <;> have := of_decide_eq_true h <;> omega

/-! ### What the operations of other blocks leave -/

/-- The image, the link's state, the debug state, the outputs so far and the registers of the CHN block. -/
structure State.LinkKeeps (s t : State) : Prop where
  gen : t.gen = s.gen
  chn : t.chn = s.chn
  dbg : t.dbg = s.dbg
  out : ∀ o ∈ s.out, o ∈ t.out
  regs : ∀ b, b / 65536 = 7 → t.reg b = s.reg b

theorem State.LinkKeeps.refl (s : State) : s.LinkKeeps s := ⟨rfl, rfl, rfl, fun _ h => h, fun _ _ => rfl⟩

theorem State.LinkKeeps.trans {s t u : State} (h : s.LinkKeeps t) (k : t.LinkKeeps u) : s.LinkKeeps u :=
  ⟨k.gen.trans h.gen, k.chn.trans h.chn, k.dbg.trans h.dbg, fun o ho => k.out o (h.out o ho), fun b hb => (k.regs b hb).trans (h.regs b hb)⟩

theorem State.LinkKeeps.emit {s t : State} (h : s.LinkKeeps t) (o : Output) : s.LinkKeeps (t.emit o) :=
  h.trans ⟨rfl, rfl, rfl, fun _ ho => List.mem_cons_of_mem _ ho, fun _ _ => rfl⟩

theorem State.LinkKeeps.withLmp {s t : State} (h : s.LinkKeeps t) (x : LmpSt) : s.LinkKeeps { t with lmp := x } :=
  h.trans ⟨rfl, rfl, rfl, fun _ ho => ho, fun _ _ => rfl⟩

theorem State.LinkKeeps.withCal {s t : State} (h : s.LinkKeeps t) (x : CalSt) : s.LinkKeeps { t with cal := x } :=
  h.trans ⟨rfl, rfl, rfl, fun _ ho => ho, fun _ _ => rfl⟩

theorem State.LinkKeeps.foldl {α : Type} {f : State → α → State} (h : ∀ (s : State) a, s.LinkKeeps (f s a)) (l : List α) (s : State) :
    s.LinkKeeps (l.foldl f s) :=
  List.foldlRecOn l f (motive := s.LinkKeeps) (.refl s) (fun _ hz a _ => hz.trans (h _ a))

theorem State.setReg_linkKeeps (s : State) {a : Nat} (v : Word) (ha : a / 65536 ≠ 7) : s.LinkKeeps (s.setReg a v) := by
  refine ⟨rfl, rfl, rfl, fun _ h => h, fun b hb => ?_⟩
  rw [State.reg_setReg, if_neg]
  rintro rfl
  exact ha hb

theorem State.LinkKeeps.setReg {s t : State} (h : s.LinkKeeps t) {a : Nat} (v : Word) (ha : a / 65536 ≠ 7) : s.LinkKeeps (t.setReg a v) :=
  h.trans (t.setReg_linkKeeps v ha)

theorem State.tick_linkKeeps (s : State) (t : Nat) : s.LinkKeeps (s.tick t) := ⟨rfl, rfl, rfl, fun _ h => h, fun _ _ => rfl⟩

theorem State.withRed_linkKeeps (s : State) (x : RedSt) : s.LinkKeeps (s.withRed x) := ⟨rfl, rfl, rfl, fun _ h => h, fun _ _ => rfl⟩

theorem State.event_linkKeeps (s : State) (n : Nat) : s.LinkKeeps (s.event n) := by
  have hset := s.setReg_linkKeeps (a := Reg.CMD_EVT) (s.reg Reg.CMD_EVT ||| BitVec.ofNat 32 (2 ^ n)) (by decide)
  unfold State.event
  dsimp only
  split
  · exact hset.emit _
  · exact hset

theorem State.restartHoldoff_linkKeeps (s : State) : s.LinkKeeps s.restartHoldoff :=
  ⟨by simp, by simp, by simp, fun _ h => by simpa using h, fun _ _ => by simp⟩

theorem State.noteHealth_linkKeeps (s : State) (k n : Nat) : s.LinkKeeps (s.noteHealth k n) := s.withRed_linkKeeps _

theorem State.sendLink_linkKeeps (s : State) (r : LinkRecord) : s.LinkKeeps (s.sendLink r) := by
  unfold State.sendLink
  split
  · exact (State.LinkKeeps.refl s).emit _
  · exact .refl s

theorem State.syncAligned_linkKeeps (s : State) : s.LinkKeeps s.syncAligned := by
  unfold State.syncAligned
  split
  · exact s.setReg_linkKeeps _ (by decide)
  · exact .refl s

theorem State.syncHealth_linkKeeps (s : State) : s.LinkKeeps s.syncHealth := by
  have hset := s.setReg_linkKeeps (a := Reg.RED_HEALTH) s.healthWord (by decide)
  unfold State.syncHealth
  dsimp only
  split
  · exact hset.trans (State.event_linkKeeps _ 5)
  · exact hset

theorem State.setBlank_linkKeeps (s : State) (n : Nat) (on : Bool) (t : Nat) : s.LinkKeeps (s.setBlank n on t) := by
  unfold State.setBlank
  extract_lets w w1 w2 was s1 s2
  have hset : s.LinkKeeps s2 := (s.setReg_linkKeeps (a := Reg.LMP_BLANK_SRC) _ (by decide)).setReg (a := Reg.LMP_STATE) _ (by decide)
  split_ifs
  · exact .refl s
  · exact hset
  · exact ((hset.setReg (a := Reg.LMP_BLANK_EVT) _ (by decide)).withLmp _).emit _
  · exact hset
  · exact hset.withLmp _

theorem State.setDark_linkKeeps (s : State) (on : Bool) : s.LinkKeeps (s.setDark on) := by
  have hset : s.LinkKeeps (s.putBit Reg.LMP_STATE Fld.LMP_STATE_DARK on) := s.setReg_linkKeeps _ (by decide)
  unfold State.setDark
  dsimp only
  split_ifs
  · exact (hset.withLmp _).emit _
  · exact hset

theorem State.driveLanes_linkKeeps (s : State) (t : Nat) : s.LinkKeeps (s.driveLanes t) := by
  unfold State.driveLanes
  extract_lets n lmp s1
  have hlanes : s.LinkKeeps s1 := by
    unfold s1
    split_ifs
    · exact .refl s
    · exact ((State.LinkKeeps.refl s).withLmp _).emit _
  split_ifs
  · exact hlanes
  · exact hlanes.trans (s1.setBlank_linkKeeps 4 true t)

theorem State.lampPower_linkKeeps (s : State) (t : Nat) : s.LinkKeeps (s.lampPower t) := by
  unfold State.lampPower
  extract_lets z want s1 g
  have hdrive : s.LinkKeeps z := s.driveLanes_linkKeeps t
  have hset : s.LinkKeeps s1 := (hdrive.setReg (a := Reg.LMP_STATE) _ (by decide)).emit _
  have hpower (x : LmpSt) (y : MetSt) : s.LinkKeeps { s1 with lmp := x, met := y } := hset.trans ⟨rfl, rfl, rfl, fun _ h => h, fun _ _ => rfl⟩
  split_ifs
  · exact hdrive
  · exact hpower _ _
  · exact hpower _ _
  · exact (hset.withLmp _).trans (State.setBlank_linkKeeps _ 5 true t)

theorem State.trimRevert_linkKeeps (s : State) (lane t : Nat) : s.LinkKeeps (s.trimRevert lane t) := by
  have hback (z : State) (y : Trim) : z.LinkKeeps ((z.setTrim { y with current := y.before }).bump Reg.CAL_TRIM_REVERT 1) :=
    ((State.LinkKeeps.refl z).withCal _).setReg (a := Reg.CAL_TRIM_REVERT) _ (by decide)
  unfold State.trimRevert
  dsimp only
  split
  · exact .refl s
  · exact ((State.LinkKeeps.foldl hback _ s).withCal _).setReg (a := Reg.CAL_STATE) _ (by decide)

end Sys2Proof.Machine
end

section
/-! What CHN_PORT_STAT and a port's bring-up record read after each operation on a port (chapter 7; R143 to R146). -/
namespace Sys2Proof.Machine

/-! ### The bring-up record -/

@[simp] theorem State.portSt_port (s : State) (p : Nat) : (s.portSt p).port = p := by
  unfold State.portSt
  cases h : s.chn.ports.find? (fun x => x.port == p) with
  | none => rfl
  | some x => exact eq_of_beq (List.find?_some h :)

theorem State.portSt_congr {s t : State} (h : t.chn.ports = s.chn.ports) (p : Nat) : t.portSt p = s.portSt p := by
  rw [State.portSt, h, State.portSt]

theorem State.portSt_setPortSt (s : State) {x : PortSt} {p : Nat} (h : x.port = p) : (s.setPortSt x).portSt p = x := by
  simp [State.portSt, State.setPortSt, h]

@[simp] theorem State.reg_setPortSt (s : State) (x : PortSt) (b : Nat) : (s.setPortSt x).reg b = s.reg b := rfl
@[simp] theorem State.portState_setPortSt (s : State) (x : PortSt) (p : Nat) : (s.setPortSt x).portState p = s.portState p := rfl

/-! ### CHN_PORT_STAT -/

theorem State.portState_congr {s t : State} {p : Nat} (h : t.reg (Reg.CHN_PORT_STAT p) = s.reg (Reg.CHN_PORT_STAT p)) :
    t.portState p = s.portState p := by
  rw [State.portState, State.get, h, State.portState, State.get]

@[simp] theorem State.portState_tick (s : State) (t p : Nat) : (s.tick t).portState p = s.portState p := rfl
@[simp] theorem State.portSt_tick (s : State) (t p : Nat) : (s.tick t).portSt p = s.portSt p := rfl
@[simp] theorem State.hasPort_tick (s : State) (t p : Nat) : (s.tick t).hasPort p = s.hasPort p := rfl

/-- A state of bring-up is a change of STATE alone; a hold-off that it restarts is no register (R294). -/
@[simp] theorem State.reg_setPort (s : State) (p k b : Nat) :
    (s.setPort p k).reg b = if Reg.CHN_PORT_STAT p = b then putField (s.reg (Reg.CHN_PORT_STAT p)) 0 4 k else s.reg b := by
  unfold State.setPort
  dsimp only
  split
  · rw [State.reg_restartHoldoff, State.reg_put]
    rfl
  · exact State.reg_put _ _ _ _ _

@[simp] theorem State.setPort_chn (s : State) (p k : Nat) : (s.setPort p k).chn = s.chn := by
  unfold State.setPort
  dsimp only
  split <;> simp [State.put]

@[simp] theorem State.portSt_setPort (s : State) (p k q : Nat) : (s.setPort p k).portSt q = s.portSt q :=
  State.portSt_congr (congrArg (·.ports) (s.setPort_chn p k)) q

theorem State.portState_setPort (s : State) (p : Nat) {k : Nat} (hk : k < 16) : (s.setPort p k).portState p = k := by
  rw [State.portState, State.get, State.reg_setPort, if_pos rfl]
  exact (fieldOf_putField_same _ 0 4 k (by decide)).trans (Nat.mod_eq_of_lt hk)

theorem State.get_setPort (s : State) (p k b : Nat) {f : Field} (hf : 4 ≤ f.lo) : (s.setPort p k).get b f = s.get b f := by
  have h := s.get_put_disjoint (Reg.CHN_PORT_STAT p) b (f := Fld.CHN_PORT_STAT_STATE) (g := f) k (.inr hf)
  rw [State.get, State.reg_put] at h
  rw [State.get, State.reg_setPort]
  exact h

theorem State.bit_setPort (s : State) (p k b : Nat) {f : Field} (hf : 4 ≤ f.lo) (hlt : f.lo < 32) : (s.setPort p k).bit b f = s.bit b f := by
  have h := s.bit_put_disjoint (Reg.CHN_PORT_STAT p) b (f := Fld.CHN_PORT_STAT_STATE) (g := f) k hlt (.inr hf)
  rw [State.bit, State.reg_put] at h
  rw [State.bit, State.reg_setPort]
  exact h

/-- Every other field of a port's status leaves its STATE, whichever port it is of. -/
theorem State.portState_put (s : State) (a p : Nat) {f : Field} (v : Nat) (hf : 4 ≤ f.lo) : (s.put a f v).portState p = s.portState p :=
  s.get_put_disjoint a _ v (.inl hf)

theorem State.portState_portFlag (s : State) (q p : Nat) {f : Field} (x : Bool) (hf : 4 ≤ f.lo) :
    (s.portFlag q f x).portState p = s.portState p := s.portState_put _ p _ hf

theorem State.bit_portFlag_same (s : State) (p : Nat) {f : Field} (x : Bool) (hf : f.lo < 32) (hlen : 0 < f.len) :
    (s.portFlag p f x).bit (Reg.CHN_PORT_STAT p) f = x := s.bit_putBit_same _ x hf hlen

theorem State.bit_portFlag_disjoint (s : State) (p b : Nat) {f g : Field} (x : Bool) (hg : g.lo < 32) (h : g.lo < f.lo ∨ f.lo + f.len ≤ g.lo) :
    (s.portFlag p f x).bit b g = s.bit b g := s.bit_put_disjoint _ b _ hg h

@[simp] theorem State.reg_portFlag (s : State) (p : Nat) (f : Field) (x : Bool) (b : Nat) :
    (s.portFlag p f x).reg b = if Reg.CHN_PORT_STAT p = b then putField (s.reg (Reg.CHN_PORT_STAT p)) f.lo f.len (flag x) else s.reg b :=
  s.reg_putBit _ f x b

/-! ### Losses counted and bring-up started again -/

@[simp] theorem State.reg_relock (s : State) (p b : Nat) :
    (s.relock p).reg b = if Reg.CHN_RELOCK p = b then satAdd (s.reg (Reg.CHN_RELOCK p)) 1 else s.reg b := by
  unfold State.relock
  dsimp only
  split <;> simp

theorem relock_ne_portStat (p q : Nat) : Reg.CHN_RELOCK p ≠ Reg.CHN_PORT_STAT q := by
  simp only [Reg.CHN_RELOCK, Reg.CHN_PORT_STAT]
  omega

theorem State.portState_identifyAgain (s : State) (p : Nat) : (s.identifyAgain p).portState p = 3 :=
  State.portState_setPort _ p (by decide)

theorem State.windows_identifyAgain (s : State) (p : Nat) : ((s.identifyAgain p).portSt p).windows = 0 := by
  rw [State.identifyAgain, State.portSt_setPortSt (p := p) _ rfl]
  rfl

theorem State.reg_identifyAgain_relock (s : State) (p : Nat) :
    (s.identifyAgain p).reg (Reg.CHN_RELOCK p) = satAdd (s.reg (Reg.CHN_RELOCK p)) 1 := by
  rw [State.identifyAgain, State.reg_setPortSt, State.reg_setPort, if_neg (relock_ne_portStat p p).symm, State.reg_relock, if_pos rfl]

/-! ### Cables and TAs -/

theorem State.bit_eq_get (s : State) (a : Nat) {f : Field} (h : f.len = 1) : s.bit a f = (s.get a f).testBit 0 := by
  rw [State.bit, State.get, h, bitOf_eq_fieldOf]

theorem portStat_div (p : Nat) : Reg.CHN_PORT_STAT p / 65536 = 7 := by
  simp only [Reg.CHN_PORT_STAT]
  omega

theorem portStat_ne_ring (p : Nat) : Reg.CHN_PORT_STAT p ≠ Reg.CHN_RING := by
  simp only [Reg.CHN_PORT_STAT, Reg.CHN_RING]
  omega

/-- Of the link, only CHN_RING, the MISCABLED bits and the messages queued change. -/
structure State.CableKeeps (s t : State) : Prop where
  gen : t.gen = s.gen
  chn : t.chn = { s.chn with tx := t.chn.tx }
  stat : ∀ p f, f.lo + f.len ≤ 9 ∨ 10 ≤ f.lo → t.get (Reg.CHN_PORT_STAT p) f = s.get (Reg.CHN_PORT_STAT p) f
  regs : ∀ b, b / 65536 = 7 → b ≠ Reg.CHN_RING → (∀ p, b ≠ Reg.CHN_PORT_STAT p) → t.reg b = s.reg b

theorem State.CableKeeps.refl (s : State) : s.CableKeeps s := ⟨rfl, rfl, fun _ _ _ => rfl, fun _ _ _ _ => rfl⟩

theorem State.CableKeeps.trans {s t u : State} (h : s.CableKeeps t) (k : t.CableKeeps u) : s.CableKeeps u where
  gen := k.gen.trans h.gen
  chn := by rw [k.chn, h.chn]
  stat p f hf := (k.stat p f hf).trans (h.stat p f hf)
  regs b hb hring hstat := (k.regs b hb hring hstat).trans (h.regs b hb hring hstat)

theorem State.LinkKeeps.cableKeeps {s t : State} (h : s.LinkKeeps t) : s.CableKeeps t where
  gen := h.gen
  chn := by rw [h.chn]
  stat p f _ := congrArg (fieldOf · f.lo f.len) (h.regs _ (portStat_div p))
  regs b hb _ _ := h.regs b hb

theorem State.CableKeeps.portState {s t : State} (h : s.CableKeeps t) (p : Nat) : t.portState p = s.portState p :=
  h.stat p _ (.inl (by decide))

theorem State.CableKeeps.ports {s t : State} (h : s.CableKeeps t) : t.chn.ports = s.chn.ports := congrArg (·.ports) h.chn

theorem State.CableKeeps.portSt {s t : State} (h : s.CableKeeps t) (p : Nat) : t.portSt p = s.portSt p := State.portSt_congr h.ports p

theorem State.putRing_cableKeeps (s : State) (f : Field) (v : Nat) : s.CableKeeps (s.put Reg.CHN_RING f v) where
  gen := rfl
  chn := rfl
  stat p _ _ := State.get_put_other _ (portStat_ne_ring p).symm _ _ _
  regs b _ hring _ := by rw [State.reg_put, if_neg hring.symm]

theorem State.miscabled_cableKeeps (s : State) (q : Nat) (x : Bool) : s.CableKeeps (s.portFlag q Fld.CHN_PORT_STAT_MISCABLED x) where
  gen := rfl
  chn := rfl
  stat _ f hf := s.get_put_disjoint _ _ _ hf
  regs b _ _ hstat := by rw [State.reg_portFlag, if_neg (hstat q).symm]

theorem State.tileSend_cableKeeps (s : State) (type side tag : Nat) (body : List Byte) : s.CableKeeps (s.tileSend type side tag body) :=
  ⟨rfl, rfl, fun _ _ _ => rfl, fun _ _ _ _ => rfl⟩

theorem State.syncCabling_cableKeeps (s : State) (t : Nat) : s.CableKeeps (s.syncCabling t) := by
  unfold State.syncCabling
  extract_lets bad0 bad1 s1
  have hflags : s.CableKeeps s1 := (s.miscabled_cableKeeps 0 bad0).trans (State.miscabled_cableKeeps _ 1 bad1)
  refine State.CableKeeps.trans ?_ (State.lampPower_linkKeeps _ t).cableKeeps
  split
  · exact hflags.trans (s1.putRing_cableKeeps _ _)
  · exact hflags

theorem State.takeTa_cableKeeps (s : State) (chain t : Nat) : s.CableKeeps (s.takeTa chain t) := by
  unfold State.takeTa
  extract_lets w e absent s0 ta s1
  have hcable : s.CableKeeps s0 := s.syncCabling_cableKeeps t
  have hring : s.CableKeeps s1 := hcable.trans (s0.putRing_cableKeeps _ _)
  split
  · exact hcable
  · split
    · exact hring
    · exact hring.trans (s1.tileSend_cableKeeps _ _ _ _)

/-- What the TRAIN blocks say goes to CHN_RING and the ports' status. -/
theorem State.reg_readTrain (s : State) (p : Nat) (x : TrainIn) (t : Nat) {b : Nat} (hb : b / 65536 = 7) (hring : b ≠ Reg.CHN_RING)
    (hstat : ∀ q, b ≠ Reg.CHN_PORT_STAT q) : (s.readTrain p x t).reg b = s.reg b := by
  have hput (z : State) (f : Field) (v : Nat) : (z.put (Reg.CHN_PORT_STAT p) f v).reg b = z.reg b := by
    rw [State.reg_put, if_neg (hstat p).symm]
  have hringPut (z : State) (f : Field) (v : Nat) : (z.put Reg.CHN_RING f v).reg b = z.reg b := by rw [State.reg_put, if_neg hring.symm]
  unfold State.readTrain
  extract_lets s1 s2 s3 s4 d
  have h2 : s2.reg b = s.reg b := (hput _ _ _).trans ((hput _ _ _).trans ((hput _ _ _).trans (hput _ _ _)))
  have h4 : s4.reg b = s.reg b := by
    unfold s4
    split
    · exact (hringPut _ _ _).trans h2
    · exact (hringPut _ _ _).trans ((hringPut _ _ _).trans h2)
  split
  · exact h2
  · exact ((State.syncCabling_cableKeeps _ t).regs b hb hring hstat).trans h4

@[simp] theorem State.portFlag_chn (s : State) (p : Nat) (f : Field) (x : Bool) : (s.portFlag p f x).chn = s.chn := rfl

theorem State.readTrain_ports (s : State) (p : Nat) (x : TrainIn) (t : Nat) : (s.readTrain p x t).chn.ports = s.chn.ports := by
  unfold State.readTrain
  extract_lets s1 s2 s3 s4 d
  have h2 : s2.chn = s.chn := by simp only [s2, s1, State.put_chn, State.portFlag_chn]
  have h4 : s4.chn = s.chn := by
    unfold s4
    split <;> simp only [s3, State.put_chn, h2]
  split
  · rw [h2]
  · exact (State.syncCabling_cableKeeps _ t).ports.trans (congrArg (·.ports) h4)

end Sys2Proof.Machine
end

section
/-! Bring-up of a chain port (R139 to R144): what each row does to a port in the state that the row is for. -/
namespace Sys2Proof.Machine

/-! ### SIGNAL and EQUALISE (R139, R144) -/

/-- A signal on a port in SIGNAL: the mode, unless the port retrains after a loss, and EQUALISE. -/
def State.signalFound (s : State) (port : Nat) (first : Bool) : State :=
  let again := (s.portSt port).retrain
  let s1 := if again then s else s.portFlag port Fld.CHN_PORT_STAT_MODE (s.slipPort port first)
  let s2 := if s1.bit (Reg.CHN_PORT_STAT port) Fld.CHN_PORT_STAT_MODE then s1.portFlag port Fld.CHN_PORT_STAT_SLIP_MISS false else s1
  (s2.setPort port 2).setPortSt { freshPortSt port with retrain := again }

theorem exec_signalDetect {port : Nat} {s : State} (hp : s.hasPort port = true) (hst : s.portState port < 2) (first : Bool) (t0 : Nat) :
    exec (.signalDetect port ⟨first, t0⟩) s = .next ((s.tick t0).signalFound port first) := by
  change execSignalDetect port ⟨first, t0⟩ s = _
  unfold execSignalDetect
  exact if_neg (by simp [hp, hst])

theorem State.portState_signalFound (s : State) (port : Nat) (first : Bool) : (s.signalFound port first).portState port = 2 :=
  State.portState_setPort _ port (by decide)

theorem State.mode_signalFound (s : State) (port : Nat) (first : Bool) :
    (s.signalFound port first).bit (Reg.CHN_PORT_STAT port) Fld.CHN_PORT_STAT_MODE =
      if (s.portSt port).retrain then s.bit (Reg.CHN_PORT_STAT port) Fld.CHN_PORT_STAT_MODE else s.slipPort port first := by
  unfold State.signalFound
  extract_lets again s1 s2
  have hmode : s1.bit (Reg.CHN_PORT_STAT port) Fld.CHN_PORT_STAT_MODE =
      if again then s.bit (Reg.CHN_PORT_STAT port) Fld.CHN_PORT_STAT_MODE else s.slipPort port first := by
    unfold s1
    split
    · rfl
    · exact s.bit_portFlag_same port _ (by decide) (by decide)
  have hmiss : s2.bit (Reg.CHN_PORT_STAT port) Fld.CHN_PORT_STAT_MODE = s1.bit (Reg.CHN_PORT_STAT port) Fld.CHN_PORT_STAT_MODE := by
    unfold s2
    split
    · exact s1.bit_portFlag_disjoint port _ _ (by decide) (by decide)
    · rfl
  exact (s2.bit_setPort port 2 _ (by decide) (by decide)).trans (hmiss.trans hmode)

theorem exec_equaliseDone {port : Nat} {s : State} (hp : s.hasPort port = true) (hst : s.portState port = 2) (t0 : Nat) :
    exec (.equaliseDone port t0) s =
      .next (((s.tick t0).trimBringUp port (s.bit (Reg.CHN_PORT_STAT port) Fld.CHN_PORT_STAT_MODE)).setPort port 3) := by
  change execEqualiseDone port t0 s = _
  unfold execEqualiseDone
  exact if_neg (by simp [hp, hst])

/-! ### IDENTIFY (R140) -/

/-- One more window of lane k, as IDENTIFY counts it. -/
def laneWindow (x : PortSt) (w : IdentWindow) (k : Nat) : Option Nat × Nat :=
  if 3 ≤ x.same.getD k 0 then (x.classes.getD k none, x.same.getD k 0)
  else windowStep (x.classes.getD k none) (x.same.getD k 0) (laneClass (w.ones.getD k 0))

/-- The bring-up record after a window. -/
def PortSt.afterWindow (x : PortSt) (w : IdentWindow) : PortSt :=
  { x with classes := (List.range 4).map (fun k => (laneWindow x w k).1), same := (List.range 4).map (fun k => (laneWindow x w k).2),
           windows := x.windows + 1 }

/-- The logical lanes that four classes give, and INVERTED (Table 7.13). -/
def logicalLanes (r : List (Option Nat × Nat)) : List Nat := r.map (fun y => y.1.getD 0 % 4)
def invertedLanes (r : List (Option Nat × Nat)) : Nat := ((r.filter (fun y => decide (4 ≤ y.1.getD 0))).map (fun y => 2 ^ (y.1.getD 0 % 4))).sum

/-- Polarity and order are known: BLOCK_LOCK. -/
def State.lanesKnown (s : State) (p inverted : Nat) (reversed clock : Bool) : State :=
  (((s.put (Reg.CHN_PORT_STAT p) Fld.CHN_PORT_STAT_INVERTED inverted).portFlag p Fld.CHN_PORT_STAT_REVERSED reversed).portFlag p
    Fld.CHN_PORT_STAT_CLK_INVERTED clock).setPort p 4

/-- A lane whose class was confirmed before, or is the third window's in a row. -/
theorem laneWindow_confirmed {x : PortSt} {w : IdentWindow} {k : Nat} {c : Option Nat}
    (hc : c = if 3 ≤ x.same.getD k 0 then x.classes.getD k none else laneClass (w.ones.getD k 0)) (hsome : c.isSome = true)
    (hrun : 3 ≤ x.same.getD k 0 ∨ (2 ≤ x.same.getD k 0 ∧ x.classes.getD k none = c)) :
    (laneWindow x w k).1 = c ∧ 3 ≤ (laneWindow x w k).2 := by
  unfold laneWindow
  split_ifs at hc ⊢ with hthree
  · exact ⟨hc.symm, hthree⟩
  · obtain ⟨htwo, hsame⟩ := hrun.resolve_left hthree
    rw [windowStep, ← hc, if_pos hsome, if_pos hsame.symm]
    exact ⟨rfl, by omega⟩

/-- A lane whose class no third window in a row has given. -/
theorem laneWindow_open {x : PortSt} {w : IdentWindow} {k : Nat} (hthree : x.same.getD k 0 < 3)
    (hrun : x.same.getD k 0 < 2 ∨ laneClass (w.ones.getD k 0) = none ∨ x.classes.getD k none ≠ laneClass (w.ones.getD k 0)) :
    (laneWindow x w k).2 < 3 := by
  rw [laneWindow, if_neg (by omega), windowStep]
  split_ifs with hsome hsame
  · rcases hrun with htwo | hnone | hne
    · exact Nat.succ_lt_succ htwo
    · rw [hnone] at hsome
      cases hsome
    · exact absurd hsame.symm hne
  · exact (by decide : 1 < 3)
  · exact Nat.zero_lt_succ 2

section
variable {w : IdentWindow} {s : State} (hp : s.hasPort w.port = true) (hst : s.portState w.port = 3)
include hp hst

/-- A window ends IDENTIFY where it confirms every lane, in order or not, and where it is the 74th. -/
theorem exec_identifyWindow {r : List (Option Nat × Nat)} (hr : r = (List.range 4).map (laneWindow (s.portSt w.port) w)) {z : State}
    (hz : z = (s.tick w.t).setPortSt ((s.portSt w.port).afterWindow w)) :
    exec (.identifyWindow w) s =
      if r.all (fun y => decide (3 ≤ y.2)) then
        if logicalLanes r = [0, 1, 2, 3] ∨ logicalLanes r = [3, 2, 1, 0] then
          .next (z.lanesKnown w.port (invertedLanes r) (logicalLanes r == [3, 2, 1, 0]) (decide (8192 < w.clockOnes)))
        else .next (z.identifyAgain w.port)
      else if 74 ≤ (s.portSt w.port).windows + 1 then .next (z.identifyAgain w.port) else .next z := by
  subst hr hz
  change execIdentifyWindow w s = _
  unfold execIdentifyWindow
  exact if_neg (by simp [hp, hst])

end

/-! #### What a window leaves -/

theorem State.portSt_afterWindow (s : State) (w : IdentWindow) :
    (s.setPortSt ((s.portSt w.port).afterWindow w)).portSt w.port = (s.portSt w.port).afterWindow w := s.portSt_setPortSt (s.portSt_port _)

/-- Four classes are in order, or reversed, as their logical lanes are. -/
theorem logicalLanes_range (f : Nat → Option Nat × Nat) (n : Nat → Nat) :
    logicalLanes ((List.range 4).map f) = [n 0, n 1, n 2, n 3] ↔ ∀ k, k < 4 → (f k).1.getD 0 % 4 = n k := by
  have hlist : logicalLanes ((List.range 4).map f) =
      [(f 0).1.getD 0 % 4, (f 1).1.getD 0 % 4, (f 2).1.getD 0 % 4, (f 3).1.getD 0 % 4] := rfl
  rw [hlist]
  simp only [List.cons.injEq, and_true]
  constructor
  · rintro ⟨h0, h1, h2, h3⟩ k hk
    interval_cases k <;> assumption
  · intro h
    exact ⟨h 0 (by decide), h 1 (by decide), h 2 (by decide), h 3 (by decide)⟩

theorem logicalLanes_inOrder (f : Nat → Option Nat × Nat) :
    logicalLanes ((List.range 4).map f) = [0, 1, 2, 3] ↔ ∀ k, k < 4 → (f k).1.getD 0 % 4 = k := logicalLanes_range f id

theorem logicalLanes_reversed (f : Nat → Option Nat × Nat) :
    logicalLanes ((List.range 4).map f) = [3, 2, 1, 0] ↔ ∀ k, k < 4 → (f k).1.getD 0 % 4 = 3 - k := logicalLanes_range f (3 - ·)

/-- A sum of powers of two, each taken or not, has the bits of those taken. -/
theorem natBit_flags (b : Nat → Bool) {v : Nat}
    (hv : v = flag (b 0) * 2 ^ 0 + flag (b 1) * 2 ^ 1 + flag (b 2) * 2 ^ 2 + flag (b 3) * 2 ^ 3) : v < 16 ∧ ∀ k, k < 4 → natBit v k = b k := by
  subst hv
  obtain ⟨hlt, h0, h1, h2, h3⟩ := (by decide : ∀ b0 b1 b2 b3 : Bool,
    let v := flag b0 * 2 ^ 0 + flag b1 * 2 ^ 1 + flag b2 * 2 ^ 2 + flag b3 * 2 ^ 3
    v < 16 ∧ natBit v 0 = b0 ∧ natBit v 1 = b1 ∧ natBit v 2 = b2 ∧ natBit v 3 = b3) (b 0) (b 1) (b 2) (b 3)
  refine ⟨hlt, fun k hk => ?_⟩
  interval_cases k <;> assumption

theorem invertedLanes_range (f : Nat → Option Nat × Nat) :
    invertedLanes ((List.range 4).map f) =
      flag (decide (4 ≤ (f 0).1.getD 0)) * 2 ^ ((f 0).1.getD 0 % 4) + flag (decide (4 ≤ (f 1).1.getD 0)) * 2 ^ ((f 1).1.getD 0 % 4) +
        flag (decide (4 ≤ (f 2).1.getD 0)) * 2 ^ ((f 2).1.getD 0 % 4) + flag (decide (4 ≤ (f 3).1.getD 0)) * 2 ^ ((f 3).1.getD 0 % 4) := by
  have hsum (l : List (Option Nat × Nat)) : invertedLanes l = (l.map (fun y => flag (decide (4 ≤ y.1.getD 0)) * 2 ^ (y.1.getD 0 % 4))).sum := by
    induction l with
    | nil => rfl
    | cons y l ih =>
      rw [List.map_cons, List.sum_cons, ← ih]
      by_cases h : 4 ≤ y.1.getD 0 <;> simp [invertedLanes, h, flag]
  rw [hsum]
  exact (by omega : ∀ a b c d : Nat, a + (b + (c + (d + 0))) = a + b + c + d) _ _ _ _

/-- INVERTED holds each lane's polarity, whichever way the lanes run. -/
theorem natBit_invertedLanes {f : Nat → Option Nat × Nat}
    (horder : (∀ k, k < 4 → (f k).1.getD 0 % 4 = k) ∨ (∀ k, k < 4 → (f k).1.getD 0 % 4 = 3 - k)) :
    invertedLanes ((List.range 4).map f) < 16 ∧
      ∀ k, k < 4 → natBit (invertedLanes ((List.range 4).map f)) ((f k).1.getD 0 % 4) = decide (4 ≤ (f k).1.getD 0) := by
  rw [invertedLanes_range]
  rcases horder with h | h
  · rw [h 0 (by decide), h 1 (by decide), h 2 (by decide), h 3 (by decide)]
    obtain ⟨hlt, hbit⟩ := natBit_flags (fun k => decide (4 ≤ (f k).1.getD 0)) rfl
    exact ⟨hlt, fun k hk => (h k hk).symm ▸ hbit k hk⟩
  · rw [h 0 (by decide), h 1 (by decide), h 2 (by decide), h 3 (by decide)]
    obtain ⟨hlt, hbit⟩ := natBit_flags (fun k => decide (4 ≤ (f (3 - k)).1.getD 0))
      ((by omega : ∀ a b c d : Nat, a + b + c + d = d + c + b + a) _ _ _ _)
    refine ⟨hlt, fun k hk => ?_⟩
    have hk3 : 3 - (3 - k) = k := by omega
    rw [h k hk, hbit (3 - k) (by omega), hk3]

/-- What BLOCK_LOCK finds of IDENTIFY. -/
theorem State.portState_lanesKnown (s : State) (p v : Nat) (rev clk : Bool) : (s.lanesKnown p v rev clk).portState p = 4 :=
  State.portState_setPort _ p (by decide)

theorem State.inverted_lanesKnown (s : State) (p : Nat) {v : Nat} (hv : v < 16) (rev clk : Bool) :
    (s.lanesKnown p v rev clk).get (Reg.CHN_PORT_STAT p) Fld.CHN_PORT_STAT_INVERTED = v := by
  rw [State.lanesKnown, State.get_setPort _ _ _ _ (by decide), State.portFlag, State.putBit, State.get_put_disjoint _ _ _ _ (by decide),
    State.portFlag, State.putBit, State.get_put_disjoint _ _ _ _ (by decide), State.get_put_same _ _ _ _ (by decide)]
  exact Nat.mod_eq_of_lt hv

theorem State.reversed_lanesKnown (s : State) (p v : Nat) (rev clk : Bool) :
    (s.lanesKnown p v rev clk).bit (Reg.CHN_PORT_STAT p) Fld.CHN_PORT_STAT_REVERSED = rev := by
  rw [State.lanesKnown, State.bit_setPort _ _ _ _ (by decide) (by decide), State.bit_portFlag_disjoint _ _ _ _ (by decide) (by decide),
    State.bit_portFlag_same _ _ _ (by decide) (by decide)]

theorem State.clkInverted_lanesKnown (s : State) (p v : Nat) (rev clk : Bool) :
    (s.lanesKnown p v rev clk).bit (Reg.CHN_PORT_STAT p) Fld.CHN_PORT_STAT_CLK_INVERTED = clk := by
  rw [State.lanesKnown, State.bit_setPort _ _ _ _ (by decide) (by decide), State.bit_portFlag_same _ _ _ (by decide) (by decide)]

/-! #### The ends of IDENTIFY -/

theorem all_confirmed_iff (f : Nat → Option Nat × Nat) :
    ((List.range 4).map f).all (fun y => decide (3 ≤ y.2)) = true ↔ ∀ k, k < 4 → 3 ≤ (f k).2 := by simp

section
variable {w : IdentWindow} {s : State} (hp : s.hasPort w.port = true) (hst : s.portState w.port = 3)
include hp hst

section
variable {cls : Nat → Option Nat} (hlane : ∀ k, k < 4 → (laneWindow (s.portSt w.port) w k).1 = cls k ∧ 3 ≤ (laneWindow (s.portSt w.port) w k).2)
include hlane

/-- Every lane has its class: they are in order, or IDENTIFY starts again. -/
theorem exec_identifyWindow_confirmed {r : List (Option Nat × Nat)}
    (hr : r = (List.range 4).map (fun k => (cls k, (laneWindow (s.portSt w.port) w k).2))) {z : State}
    (hz : z = (s.tick w.t).setPortSt ((s.portSt w.port).afterWindow w)) :
    exec (.identifyWindow w) s =
      if logicalLanes r = [0, 1, 2, 3] ∨ logicalLanes r = [3, 2, 1, 0] then
        .next (z.lanesKnown w.port (invertedLanes r) (logicalLanes r == [3, 2, 1, 0]) (decide (8192 < w.clockOnes)))
      else .next (z.identifyAgain w.port) := by
  have hlist : (List.range 4).map (laneWindow (s.portSt w.port) w) = r :=
    hr ▸ List.map_congr_left fun k hk => Prod.ext (hlane k (List.mem_range.mp hk)).1 rfl
  exact (exec_identifyWindow hp hst hlist.symm hz).trans (if_pos (hr ▸ (all_confirmed_iff _).mpr fun k hk => (hlane k hk).2))

theorem exec_identifyWindow_known (horder : (∀ k, k < 4 → (cls k).getD 0 % 4 = k) ∨ (∀ k, k < 4 → (cls k).getD 0 % 4 = 3 - k)) :
    ∃ t, exec (.identifyWindow w) s = .next t ∧ t.portState w.port = 4 ∧
      (∀ k, k < 4 → natBit (t.get (Reg.CHN_PORT_STAT w.port) Fld.CHN_PORT_STAT_INVERTED) ((cls k).getD 0 % 4) =
        decide (4 ≤ (cls k).getD 0)) ∧
      t.bit (Reg.CHN_PORT_STAT w.port) Fld.CHN_PORT_STAT_REVERSED = decide ((cls 0).getD 0 % 4 = 3) ∧
      t.bit (Reg.CHN_PORT_STAT w.port) Fld.CHN_PORT_STAT_CLK_INVERTED = decide (8192 < w.clockOnes) := by
  have hexec := exec_identifyWindow_confirmed hp hst hlane rfl rfl
  rw [if_pos (horder.imp (logicalLanes_inOrder _).mpr (logicalLanes_reversed _).mpr)] at hexec
  obtain ⟨hlt, hbit⟩ := natBit_invertedLanes (f := fun k => (cls k, (laneWindow (s.portSt w.port) w k).2)) horder
  refine ⟨_, hexec, State.portState_lanesKnown _ _ _ _ _, fun k hk => ?_, (State.reversed_lanesKnown _ _ _ _ _).trans ?_,
    State.clkInverted_lanesKnown _ _ _ _ _⟩
  · exact (State.inverted_lanesKnown _ _ hlt _ _).symm ▸ hbit k hk
  · rcases horder with h | h
    · rw [(logicalLanes_inOrder _).mpr h, h 0 (by decide)]
      rfl
    · rw [(logicalLanes_reversed _).mpr h, h 0 (by decide)]
      rfl

theorem exec_identifyWindow_misordered (hno : ¬ ((∀ k, k < 4 → (cls k).getD 0 % 4 = k) ∨ (∀ k, k < 4 → (cls k).getD 0 % 4 = 3 - k))) :
    exec (.identifyWindow w) s = .next (((s.tick w.t).setPortSt ((s.portSt w.port).afterWindow w)).identifyAgain w.port) :=
  (exec_identifyWindow_confirmed hp hst hlane rfl rfl).trans
    (if_neg fun h => hno (h.imp (logicalLanes_inOrder _).mp (logicalLanes_reversed _).mp))

end

section
variable (hopen : ¬ (∀ k, k < 4 → 3 ≤ (laneWindow (s.portSt w.port) w k).2))
include hopen

theorem exec_identifyWindow_expired (hlast : 73 ≤ (s.portSt w.port).windows) :
    exec (.identifyWindow w) s = .next (((s.tick w.t).setPortSt ((s.portSt w.port).afterWindow w)).identifyAgain w.port) := by
  rw [exec_identifyWindow hp hst rfl rfl, if_neg (mt (all_confirmed_iff _).mp hopen), if_pos (by omega)]

theorem exec_identifyWindow_open (hlast : ¬ 73 ≤ (s.portSt w.port).windows) :
    exec (.identifyWindow w) s = .next ((s.tick w.t).setPortSt ((s.portSt w.port).afterWindow w)) := by
  rw [exec_identifyWindow hp hst rfl rfl, if_neg (mt (all_confirmed_iff _).mp hopen), if_neg (by omega)]

end

end

/-! ### BLOCK_LOCK (R141, R142) -/

/-- A lane locks at an alignment: the fourth reads the TRAIN blocks and goes on to DESKEW. -/
def State.laneFound (s : State) (l : LockIn) (offset : Nat) : State :=
  let x := s.portSt l.port
  let x1 : PortSt := { x with locked := l.lane :: x.locked }
  let s1 := (s.setPortSt x1).put (Reg.CHN_SKEW l.port l.lane) ⟨0, 7⟩ offset
  if 4 ≤ x1.locked.length then (s1.readTrain l.port l.train l.t).setPort l.port 5 else s1

/-- A lane's alignment fails: the next one is tried. -/
def State.laneMissed (s : State) (l : LockIn) (slip : Bool) : State :=
  let x := s.portSt l.port
  let m := x.misses.getD l.lane 0 + 1
  let s1 := (s.bump (Reg.CHN_HDR_ERR l.port) 1).setPortSt { x with misses := x.misses.set l.lane m }
  if slip ∧ 9 ≤ m then s1.portFlag l.port Fld.CHN_PORT_STAT_SLIP_MISS true else s1

/-- A header error of a locked lane, which unlocks it at the 64th of its window. -/
def State.headerErred (s : State) (l : LockIn) : State :=
  let x := s.portSt l.port
  let h := headerWindow (x.headers.getD l.lane (0, 0)) 1 (l.valid + 1)
  let x1 : PortSt := { x with headers := x.headers.set l.lane h }
  (s.bump (Reg.CHN_HDR_ERR l.port) 1).setPortSt
    (if 64 ≤ h.1 then { x1 with locked := x.locked.filter (· != l.lane), headers := x.headers.set l.lane (0, 0) } else x1)

/-- The lane tests alignments about the marker. -/
def State.slipLane (s : State) (l : LockIn) : Bool :=
  s.bit (Reg.CHN_PORT_STAT l.port) Fld.CHN_PORT_STAT_MODE && decide ((s.portSt l.port).misses.getD l.lane 0 < 9)

theorem slipOrder_lt (m : Nat) : slipOrder.getD m 0 < 66 := by
  rw [List.getD_eq_getElem?_getD]
  cases h : slipOrder[m]? with
  | none => decide
  | some x => exact (by decide : ∀ x ∈ slipOrder, x < 66) x (List.mem_of_getElem? h)

section
variable {l : LockIn} {s : State} (hp : s.hasPort l.port = true) (hst : s.portState l.port = 4) (hlane : l.lane < 4)
include hp hst hlane

theorem exec_blockLock_found (hopen : (s.portSt l.port).locked.contains l.lane = false)
    (hvalid : (if s.slipLane l then 256 else 4096) ≤ l.valid) :
    exec (.blockLock l) s = .next ((s.tick l.t).laneFound l
      (if s.slipLane l then slipOrder.getD ((s.portSt l.port).misses.getD l.lane 0) 0 else l.offset % 66)) := by
  change execBlockLock l s = _
  unfold execBlockLock
  refine (if_neg (by simp [hp, hst, hlane])).trans ((if_neg (ne_true_of_eq_false hopen)).trans ((if_pos hvalid).trans ?_))
  exact (apply_ite Host.Outcome.next _ _ _).symm

theorem exec_blockLock_missed (hopen : (s.portSt l.port).locked.contains l.lane = false)
    (hvalid : l.valid < if s.slipLane l then 256 else 4096) (herr : l.error = true) :
    exec (.blockLock l) s = .next ((s.tick l.t).laneMissed l (s.slipLane l)) := by
  change execBlockLock l s = _
  unfold execBlockLock
  exact (if_neg (by simp [hp, hst, hlane])).trans ((if_neg (ne_true_of_eq_false hopen)).trans ((if_neg (Nat.not_le.mpr hvalid)).trans (if_pos herr)))

theorem exec_blockLock_erred (hlocked : (s.portSt l.port).locked.contains l.lane = true) (herr : l.error = true) (hid : l.identity = false) :
    exec (.blockLock l) s = .next ((s.tick l.t).headerErred l) := by
  change execBlockLock l s = _
  unfold execBlockLock
  exact (if_neg (by simp [hp, hst, hlane])).trans ((if_pos hlocked).trans (if_neg (by simp [herr, hid])))

end

/-! #### What a lane leaves -/

theorem skew_div (p k : Nat) : Reg.CHN_SKEW p k / 65536 = 7 := by
  simp only [Reg.CHN_SKEW]
  omega

theorem skew_ne_ring (p k : Nat) : Reg.CHN_SKEW p k ≠ Reg.CHN_RING := by
  simp only [Reg.CHN_SKEW, Reg.CHN_RING]
  omega

theorem skew_ne_portStat (p k q : Nat) : Reg.CHN_SKEW p k ≠ Reg.CHN_PORT_STAT q := by
  simp only [Reg.CHN_SKEW, Reg.CHN_PORT_STAT]
  omega

theorem hdrErr_ne_portStat (p q : Nat) : Reg.CHN_HDR_ERR p ≠ Reg.CHN_PORT_STAT q := by
  simp only [Reg.CHN_HDR_ERR, Reg.CHN_PORT_STAT]
  omega

theorem State.locked_laneFound (s : State) (l : LockIn) (offset : Nat) :
    ((s.laneFound l offset).portSt l.port).locked = l.lane :: (s.portSt l.port).locked := by
  unfold State.laneFound
  extract_lets x x1 s1
  have hset : s1.portSt l.port = x1 := s.portSt_setPortSt (s.portSt_port l.port)
  split
  · rw [State.portSt_setPort, State.portSt_congr (s1.readTrain_ports _ _ _), hset]
  · rw [hset]

theorem State.skew_laneFound (s : State) (l : LockIn) {offset : Nat} (ho : offset < 128) :
    (s.laneFound l offset).get (Reg.CHN_SKEW l.port l.lane) ⟨0, 7⟩ = offset := by
  unfold State.laneFound
  extract_lets x x1 s1
  have hset : s1.get (Reg.CHN_SKEW l.port l.lane) ⟨0, 7⟩ = offset :=
    (State.get_put_same _ _ _ _ (by decide)).trans (Nat.mod_eq_of_lt ho)
  split
  · rw [State.get, State.reg_setPort, if_neg (skew_ne_portStat _ _ _).symm,
      State.reg_readTrain _ _ _ _ (skew_div _ _) (skew_ne_ring _ _) (skew_ne_portStat _ _)]
    exact hset
  · exact hset

theorem State.portState_laneFound {s : State} {l : LockIn} (hst : s.portState l.port = 4) (offset : Nat) :
    (s.laneFound l offset).portState l.port = if 3 ≤ (s.portSt l.port).locked.length then 5 else 4 := by
  unfold State.laneFound
  extract_lets x x1 s1
  by_cases h : 3 ≤ (s.portSt l.port).locked.length
  · rw [if_pos h, if_pos (show 4 ≤ x1.locked.length from Nat.succ_le_succ h), State.portState_setPort _ _ (by decide)]
  · rw [if_neg h, if_neg (show ¬ 4 ≤ x1.locked.length from fun h' => h (Nat.le_of_succ_le_succ h'))]
    exact (State.portState_congr ((State.reg_put _ _ _ _ _).trans (if_neg (skew_ne_portStat _ _ _)))).trans hst

theorem State.misses_laneMissed (s : State) (l : LockIn) (slip : Bool) :
    ((s.laneMissed l slip).portSt l.port).misses = (s.portSt l.port).misses.set l.lane ((s.portSt l.port).misses.getD l.lane 0 + 1) := by
  unfold State.laneMissed
  extract_lets x m s1
  have hset : s1.portSt l.port = { x with misses := x.misses.set l.lane m } := State.portSt_setPortSt _ (s.portSt_port l.port)
  split <;> exact congrArg (·.misses) hset

theorem State.hdrErr_laneMissed (s : State) (l : LockIn) (slip : Bool) :
    (s.laneMissed l slip).reg (Reg.CHN_HDR_ERR l.port) = satAdd (s.reg (Reg.CHN_HDR_ERR l.port)) 1 := by
  unfold State.laneMissed
  extract_lets x m s1
  have hcount : s1.reg (Reg.CHN_HDR_ERR l.port) = satAdd (s.reg (Reg.CHN_HDR_ERR l.port)) 1 := (s.reg_bump _ _ _).trans (if_pos rfl)
  split
  · rw [State.reg_portFlag, if_neg (hdrErr_ne_portStat _ _).symm, hcount]
  · exact hcount

theorem State.portState_laneMissed (s : State) (l : LockIn) (slip : Bool) : (s.laneMissed l slip).portState l.port = s.portState l.port := by
  unfold State.laneMissed
  extract_lets x m s1
  have hcount : s1.portState l.port = s.portState l.port :=
    State.portState_congr ((s.reg_bump _ _ _).trans (if_neg (hdrErr_ne_portStat _ _)))
  split
  · exact (s1.portState_portFlag _ _ _ (by decide)).trans hcount
  · exact hcount

/-- The ninth alignment about the marker has failed. -/
theorem State.slipMiss_laneMissed (s : State) (l : LockIn) {slip : Bool} (hslip : slip = true) (hm : (s.portSt l.port).misses.getD l.lane 0 = 8) :
    (s.laneMissed l slip).bit (Reg.CHN_PORT_STAT l.port) Fld.CHN_PORT_STAT_SLIP_MISS = true := by
  unfold State.laneMissed
  extract_lets x m s1
  rw [if_pos ⟨hslip, Nat.succ_le_succ hm.ge⟩]
  exact s1.bit_portFlag_same _ _ (by decide) (by decide)

theorem State.hdrErr_headerErred (s : State) (l : LockIn) :
    (s.headerErred l).reg (Reg.CHN_HDR_ERR l.port) = satAdd (s.reg (Reg.CHN_HDR_ERR l.port)) 1 := (s.reg_bump _ _ _).trans (if_pos rfl)

theorem State.locked_headerErred {s : State} {l : LockIn} (hlocked : (s.portSt l.port).locked.contains l.lane = true) :
    ((s.headerErred l).portSt l.port).locked.contains l.lane =
      decide ((headerWindow ((s.portSt l.port).headers.getD l.lane (0, 0)) 1 (l.valid + 1)).1 < 64) := by
  unfold State.headerErred
  extract_lets x h x1
  rw [State.portSt_setPortSt _ (by split <;> exact s.portSt_port l.port)]
  split_ifs with hmany
  · rw [decide_eq_false (Nat.not_lt.mpr hmany)]
    simp
  · rw [decide_eq_true (Nat.lt_of_not_le hmany)]
    exact hlocked

/-! ### DESKEW, ALIGN and UP (R143) -/

/-- The measured skews are kept, and the port waits for good control rows. -/
def State.deskewed (s : State) (port : Nat) (skews : List Nat) : State :=
  let s1 := (List.range 4).foldl (fun (z : State) k => z.put (Reg.CHN_SKEW port k) ⟨16, 16⟩ (skews.getD k 0)) s
  (s1.setPort port 6).setPortSt { s1.portSt port with goodRows := 0 }

/-- The port is UP. -/
def State.cameUp (s : State) (port t : Nat) : State := (s.setPort port 7).setPortSt { s.portSt port with upAt := some t }

theorem exec_deskewDone {port : Nat} {s : State} (hp : s.hasPort port = true) (hst : s.portState port = 5) (skews : List Nat) (t0 : Nat) :
    exec (.deskewDone port skews t0) s =
      if skews.any (fun k => decide (16 * laneRate (s.get (Reg.CHN_PORT_STAT port) Fld.CHN_PORT_STAT_RATE) < k * 10)) then
        .next ((s.tick t0).identifyAgain port)
      else .next ((s.tick t0).deskewed port skews) := by
  change execDeskewDone port skews t0 s = _
  unfold execDeskewDone
  exact if_neg (by simp [hp, hst])

theorem State.portState_deskewed (s : State) (port : Nat) (skews : List Nat) : (s.deskewed port skews).portState port = 6 :=
  State.portState_setPort _ port (by decide)

theorem State.goodRows_deskewed (s : State) (port : Nat) (skews : List Nat) : ((s.deskewed port skews).portSt port).goodRows = 0 := by
  unfold State.deskewed
  extract_lets s1 x
  exact congrArg (·.goodRows) (State.portSt_setPortSt (p := port) (s1.setPort port 6) (x := { x with goodRows := 0 }) (s1.portSt_port port))

/-! #### PORT_UP -/

theorem chain_ne_portStat (c p : Nat) : Reg.CHN_CHAIN c ≠ Reg.CHN_PORT_STAT p := by
  simp only [Reg.CHN_CHAIN, Reg.CHN_PORT_STAT]
  omega

/-- A chain's state is shown in its CHN_CHAIN alone. -/
theorem State.reg_syncChain (s : State) (c : Nat) {b : Nat} (h : Reg.CHN_CHAIN c ≠ b) : (s.syncChain c).reg b = s.reg b := by
  unfold State.syncChain
  split
  · rfl
  · exact (State.reg_setReg _ _ _ _).trans (if_neg h)

@[simp] theorem State.syncChain_chn (s : State) (c : Nat) : (s.syncChain c).chn = s.chn := by
  unfold State.syncChain
  split <;> rfl

theorem State.LinkKeeps.portState {s t : State} (h : s.LinkKeeps t) (p : Nat) : t.portState p = s.portState p :=
  State.portState_congr (h.regs _ (portStat_div p))

theorem State.LinkKeeps.portSt {s t : State} (h : s.LinkKeeps t) (p : Nat) : t.portSt p = s.portSt p :=
  State.portSt_congr (congrArg (·.ports) h.chn) p

theorem State.portState_cameUp (s : State) (port t : Nat) : (s.cameUp port t).portState port = 7 :=
  State.portState_setPort _ port (by decide)

theorem State.upAt_cameUp (s : State) (port t : Nat) : ((s.cameUp port t).portSt port).upAt = some t :=
  congrArg (·.upAt) (State.portSt_setPortSt (p := port) (s.setPort port 7) (x := { s.portSt port with upAt := some t }) (s.portSt_port port))

/-- A tile's opposite transmitter, once a port is UP: out of holdover, or trained anew with the recovered clock. -/
def State.followUp (s : State) (port chain t : Nat) : State :=
  let far := opposite port
  let s2 := if s.bit (Reg.CHN_PORT_STAT port) Fld.CHN_PORT_STAT_TX_HOLDOVER then s.portFlag port Fld.CHN_PORT_STAT_TX_HOLDOVER false
    else s.startTraining far
  let s3 : State := { s2 with chn := { s2.chn with holdoverAt := s2.chn.holdoverAt.filter (fun h => h.1 != far),
                                                   fallback := s2.chn.fallback.filter (· != far),
                                                   adopt := s2.chn.adopt || s2.shownPort == some port } }
  s3.takeTa chain t

theorem exec_portUp {port : Nat} {s : State} (hp : s.hasPort port = true) (hst : s.portState port = 6) (hrows : 3 ≤ (s.portSt port).goodRows)
    (chain t0 : Nat) :
    exec (.portUp port chain t0) s =
      if ((s.tick t0).cameUp port t0).isSender then .next ((((s.tick t0).cameUp port t0).syncChain port).syncHealth)
      else .next (((s.tick t0).cameUp port t0).followUp port chain t0) := by
  have hne : port ≠ 4 := Nat.ne_of_lt (State.lt_four_of_hasPort hp)
  change execPortUp port chain t0 s = _
  unfold execPortUp
  exact (if_neg hne).trans (if_neg (by simp [hp, hst, hrows]))

theorem State.followUp_keeps (s : State) (port chain t p : Nat) :
    (s.followUp port chain t).portState p = s.portState p ∧ (s.followUp port chain t).portSt p = s.portSt p := by
  unfold State.followUp
  extract_lets far s2 chn s3
  have hstate : s3.portState p = s.portState p := by
    change s2.portState p = _
    unfold s2
    split
    · exact s.portState_portFlag _ _ _ (by decide)
    · rfl
  have hports : s3.chn.ports = s.chn.ports := by
    change s2.chn.ports = _
    unfold s2
    split <;> rfl
  have hta := s3.takeTa_cableKeeps chain t
  exact ⟨(hta.portState p).trans hstate, (hta.portSt p).trans (State.portSt_congr hports p)⟩

theorem exec_portUp_up {port : Nat} {s : State} (hp : s.hasPort port = true) (hst : s.portState port = 6) (hrows : 3 ≤ (s.portSt port).goodRows)
    (chain t0 : Nat) : ∃ t, exec (.portUp port chain t0) s = .next t ∧ t.portState port = 7 ∧ (t.portSt port).upAt = some t0 := by
  have hstate := (s.tick t0).portState_cameUp port t0
  have hup := (s.tick t0).upAt_cameUp port t0
  rw [exec_portUp hp hst hrows]
  split
  · have hhealth := (((s.tick t0).cameUp port t0).syncChain port).syncHealth_linkKeeps
    refine ⟨_, rfl, (hhealth.portState port).trans ?_, ?_⟩
    · exact (State.portState_congr (State.reg_syncChain _ _ (chain_ne_portStat _ _))).trans hstate
    · rw [hhealth.portSt, State.portSt_congr (congrArg (·.ports) (State.syncChain_chn _ port)), hup]
  · obtain ⟨hkeep, hsame⟩ := ((s.tick t0).cameUp port t0).followUp_keeps port chain t0 port
    exact ⟨_, rfl, hkeep.trans hstate, hsame ▸ hup⟩

/-! ### The statement -/

/-- Settles O14: each row of bring-up by what it does to a port in its state, and what that leaves in the port's status and record. -/
theorem bringUpRunsThroughItsStates : Obligations.BringUpRunsThroughItsStates := by
  refine ⟨fun port t0 first s hp hst => ⟨_, exec_signalDetect hp hst first t0, State.portState_signalFound _ _ _, State.mode_signalFound _ _ _⟩,
    fun port t0 s hp hst => ⟨_, exec_equaliseDone hp hst t0, State.portState_setPort _ port (by decide)⟩,
    fun w s cls hp hst hcls hrun => ?identify, fun w s k hp hst hk hthree hrun => ?window, fun l s slip m hp hst hlane hm hslip hopen => ?lock,
    fun l s hp hst hlane hlocked herr hid => ⟨_, exec_blockLock_erred hp hst hlane hlocked herr hid, State.hdrErr_headerErred _ l,
      State.locked_headerErred (s := s.tick l.t) hlocked⟩,
    fun port t0 skews s hp hst => ?deskew, fun port chain t0 s hp hst hrows => exec_portUp_up hp hst hrows chain t0⟩
  case identify =>
    have hlane (k : Nat) (hk : k < 4) := laneWindow_confirmed (hcls k) (hrun k hk).1 (hrun k hk).2
    refine ⟨exec_identifyWindow_known hp hst hlane, fun hno => ⟨_, exec_identifyWindow_misordered hp hst hlane hno,
      State.portState_identifyAgain _ _, State.windows_identifyAgain _ _, State.reg_identifyAgain_relock _ _⟩⟩
  case window =>
    have hopen : ¬ (∀ k, k < 4 → 3 ≤ (laneWindow (s.portSt w.port) w k).2) :=
      fun h => Nat.not_le.mpr (laneWindow_open hthree hrun) (h k hk)
    by_cases hlast : 73 ≤ (s.portSt w.port).windows
    · refine ⟨_, exec_identifyWindow_expired hp hst hopen hlast, State.portState_identifyAgain _ _, ?_⟩
      rw [if_pos hlast]
      exact ⟨State.windows_identifyAgain _ _, State.reg_identifyAgain_relock _ _⟩
    · refine ⟨_, exec_identifyWindow_open hp hst hopen hlast, hst, ?_⟩
      rw [if_neg hlast]
      exact ⟨congrArg (·.windows) (State.portSt_afterWindow (s.tick w.t) w), rfl⟩
  case lock =>
    have hslipLane : s.slipLane l = slip := by rw [hslip, hm]; rfl
    subst hm
    refine ⟨fun hvalid => ?_, fun hvalid herr => ?_⟩
    · have hexec := exec_blockLock_found hp hst hlane hopen (hslipLane ▸ hvalid)
      rw [hslipLane] at hexec
      refine ⟨_, hexec, State.locked_laneFound _ _ _, State.skew_laneFound _ _ ?_, State.portState_laneFound (s := s.tick l.t) hst _⟩
      split
      · exact Nat.lt_trans (slipOrder_lt _) (by decide)
      · exact Nat.lt_trans (Nat.mod_lt _ (by decide)) (by decide)
    · have hexec := exec_blockLock_missed hp hst hlane hopen (hslipLane ▸ hvalid) herr
      rw [hslipLane] at hexec
      exact ⟨_, hexec, (State.portState_laneMissed _ _ _).trans hst, State.misses_laneMissed _ _ _, State.hdrErr_laneMissed _ _ _,
        State.slipMiss_laneMissed (s.tick l.t) l⟩
  case deskew =>
    have hexec := exec_deskewDone hp hst skews t0
    split at hexec
    next hfar =>
      rw [if_pos hfar]
      exact ⟨_, hexec, State.portState_identifyAgain _ _, State.reg_identifyAgain_relock _ _⟩
    next hnear =>
      rw [if_neg hnear]
      exact ⟨_, hexec, State.portState_deskewed _ _ _, State.goodRows_deskewed _ _ _⟩

end Sys2Proof.Machine
end

section
/-! The pair's agreement on packets ends (R72, R76, R280): what is settled, stored and promoted then leaves the lockstep link as it is. -/
namespace Sys2Proof.Machine

/-- The lockstep link is up (R280). -/
def linkUpOf (s : State) : Bool := s.red.linkUp

/-- A fold of steps that each keep a part keeps it. -/
theorem foldl_keeps {σ α β : Type} (p : σ → β) {f : σ → α → σ} (h : ∀ z a, p (f z a) = p z) (l : List α) (s : σ) : p (l.foldl f s) = p s :=
  List.foldlRecOn l f (motive := fun z => p z = p s) rfl (fun z hz a _ => (h z a).trans hz)

/-! ### Samples and bricks (R100 to R104) -/

theorem State.putSample_linkUp (s : State) (v : Surface) (c x y val : Nat) : (s.putSample v c x y val).red.linkUp = s.red.linkUp := by
  unfold State.putSample
  dsimp only
  split_ifs <;> rfl

theorem State.writeBrick_linkUp (s : State) (v : Surface) (bx by' : Nat) (x : Nat → Nat → Nat → Nat) :
    (s.writeBrick v bx by' x).red.linkUp = s.red.linkUp := by
  unfold State.writeBrick
  dsimp only
  split_ifs
  · exact (foldl_keeps linkUpOf (fun z p => foldl_keeps linkUpOf (fun y k => y.putSample_linkUp _ _ _ _ _) _ z) _ s :)
  · rfl

theorem State.codeFillBrick_linkUp (s : State) (v : Surface) (z : Fill) (bx by' : Nat) (x : Nat → Nat → Nat → Nat) :
    (s.codeFillBrick v z bx by' x).1.red.linkUp = s.red.linkUp := s.writeBrick_linkUp v bx by' x

theorem State.padEdges_linkUp (s : State) (v : Surface) : (s.padEdges v).red.linkUp = s.red.linkUp :=
  foldl_keeps linkUpOf (fun z _ => foldl_keeps linkUpOf (fun y _ => foldl_keeps linkUpOf (fun x _ => x.putSample_linkUp _ _ _ _ _) _ y) _ z) _ s

theorem State.writeRows_linkUp (s : State) (v : Surface) (f : Fill) (payload : List Byte) : (s.writeRows v f payload).1.red.linkUp = s.red.linkUp := by
  unfold State.writeRows
  dsimp only
  split_ifs
  · exact foldl_keeps linkUpOf (fun z q => z.putSample_linkUp _ _ _ _ _) _ s
  · refine foldl_keeps (fun z : State × Fill => z.1.red.linkUp) (fun z b => ?_) _ _
    split_ifs
    · exact State.codeFillBrick_linkUp _ _ _ _ _ _
    · rfl

theorem State.patchPicture_linkUp (s : State) (v : Surface) (f : Fill) (prev : Option Surface) : (s.patchPicture v f prev).red.linkUp = s.red.linkUp := by
  unfold State.patchPicture
  extract_lets old bricks gaps s0
  have hread : s0.red.linkUp = s.red.linkUp := by
    unfold s0
    split
    · split_ifs <;> rfl
    · rfl
  split_ifs
  · exact (foldl_keeps (fun z : State × Fill => z.1.red.linkUp) (fun z b => State.codeFillBrick_linkUp _ _ _ _ _ _) _ (s0, f)).trans hread
  · refine (foldl_keeps linkUpOf (fun z c => foldl_keeps linkUpOf (fun y k => ?_) _ z) _ s0).trans hread
    dsimp only
    split_ifs
    · rfl
    · exact y.putSample_linkUp _ _ _ _ _

/-! ### Pictures of a stream (R71, R85, R88, R120) -/

theorem State.stillCheck_linkUp (s : State) (str : Nat) (v : Surface) (t : Nat) : (s.stillCheck str v t).red.linkUp = s.red.linkUp := by
  unfold State.stillCheck
  extract_lets old now s0 m cfg st low run was is s1 x cmp s2
  have hread : s2.red.linkUp = s.red.linkUp := by
    change s0.red.linkUp = _
    unfold s0
    split_ifs <;> rfl
  split_ifs
  · have hevent : (s2.stillEvent str).red = s2.red := State.event_red _ 3
    exact (congrArg (·.linkUp) hevent).trans hread
  · exact hread

theorem State.promotePicture_linkUp (s : State) (str h rtp : Nat) (patched : Bool) (t : Nat) :
    (s.promotePicture str h rtp patched t).red.linkUp = s.red.linkUp := by
  unfold State.promotePicture
  extract_lets s1 s2
  split
  · rfl
  · exact (s2.stillCheck_linkUp _ _ _).trans rfl

theorem State.endPicture_linkUp (s : State) (str last t : Nat) : (s.endPicture str last t).red.linkUp = s.red.linkUp := by
  unfold State.endPicture
  extract_lets x s1 cdc
  split
  · rfl
  · extract_lets total
    split
    · split
      · rfl
      · split_ifs
        · exact (s1.promotePicture_linkUp _ _ _ _ _).trans rfl
        · exact (State.promotePicture_linkUp _ _ _ _ _ _).trans (s1.patchPicture_linkUp _ _ _)
        · rfl
    · split <;> rfl

theorem State.startPicture_linkUp (s : State) (str : Nat) (p : HeldPacket) : (s.startPicture str p).red.linkUp = s.red.linkUp := by
  unfold State.startPicture
  extract_lets x tgt gap own f s1
  split
  · split_ifs
    · exact (s1.padEdges_linkUp _).trans rfl
    · rfl
  · rfl

theorem State.writeInto_linkUp (s : State) (str : Nat) (f : Fill) (p : HeldPacket) : (s.writeInto str f p).red.linkUp = s.red.linkUp := by
  unfold State.writeInto
  extract_lets g wrote put
  split_ifs
  · split
    · rfl
    · dsimp only
      split_ifs
      · rfl
      · exact (s.writeRows_linkUp _ g _ :)
  all_goals rfl

theorem State.writePacket_linkUp (s : State) (str : Nat) (p : HeldPacket) (t : Nat) : (s.writePacket str p t).red.linkUp = s.red.linkUp := by
  unfold State.writePacket
  extract_lets s1 s2 s3
  have hfirst : s1.red.linkUp = s.red.linkUp := by
    unfold s1
    split
    · split_ifs
      · exact s.endPicture_linkUp _ _ _
      · rfl
    · rfl
  have hstart : s2.red.linkUp = s1.red.linkUp := by
    unfold s2
    split_ifs
    · exact s1.startPicture_linkUp _ _
    · rfl
  have hwrite : s3.red.linkUp = s2.red.linkUp := by
    unfold s3
    split
    · rfl
    · exact s2.writeInto_linkUp _ _ _
  have hall := (hwrite.trans hstart).trans hfirst
  split_ifs
  · exact (s3.endPicture_linkUp _ _ _).trans hall
  · exact hall

/-! ### Streams enabled and disabled (R70, R76) -/

theorem State.stopChannel_linkUp (s : State) (c : Nat) : (s.stopChannel c).red.linkUp = s.red.linkUp := by
  unfold State.stopChannel
  extract_lets s1 s2
  rfl

theorem State.streamStop_linkUp (s : State) (str : Nat) : (s.streamStop str).red.linkUp = s.red.linkUp := State.stopChannel_linkUp _ str

theorem State.startChannel_linkUp (s : State) (c : Nat) : (s.startChannel c).red.linkUp = s.red.linkUp := by
  unfold State.startChannel
  split
  · rfl
  · extract_lets wants others live err dmg s1 cdc s2
    split_ifs <;> rfl

theorem State.streamStart_linkUp (s : State) (str : Nat) : (s.streamStart str).red.linkUp = s.red.linkUp := State.startChannel_linkUp _ str

theorem State.copyStreamReg_linkUp (s : State) (a : Nat) (data : Word) : (s.copyStreamReg a data).red.linkUp = s.red.linkUp := by
  unfold State.copyStreamReg
  extract_lets str own
  split_ifs
  · rfl
  · rfl
  · rfl
  · exact State.streamStop_linkUp _ str
  · exact State.streamStart_linkUp _ str
  · rfl

/-! ### The end of the agreement (R72, R76, R89) -/

theorem State.writeInOrder_linkUp (s : State) (str t n : Nat) : (s.writeInOrder str t n).red.linkUp = s.red.linkUp := by
  induction n generalizing s with
  | zero => rfl
  | succ n ih =>
    rw [State.writeInOrder]
    split
    · exact (ih _).trans (State.writePacket_linkUp _ _ _ _)
    · split
      · exact ih _
      · rfl

theorem State.promoteWritten_linkUp (s : State) (w : WrittenPic) (t : Nat) : (s.promoteWritten w t).red.linkUp = s.red.linkUp :=
  s.promotePicture_linkUp w.channel _ _ _ _

theorem State.endAgreement_linkUp (s : State) : s.endAgreement.red.linkUp = s.red.linkUp := by
  have happly (z : State) (x : Settle) : (Settle.apply z x).red.linkUp = z.red.linkUp := by
    cases x with
    | verdict => rfl
    | table a d => exact z.copyStreamReg_linkUp a d
  unfold State.endAgreement State.promoteAll
  extract_lets drain cdc s1
  have hdrain (z : State) (str : Nat) : (drain z str).red.linkUp = z.red.linkUp := by
    unfold drain
    dsimp only
    split_ifs
    · rfl
    · exact (State.writeInOrder_linkUp _ _ _ _).trans (foldl_keeps linkUpOf happly _ _)
  exact (foldl_keeps linkUpOf (fun z w => z.promoteWritten_linkUp w _) _ s1).trans (foldl_keeps linkUpOf hdrain _ s :)

/-! ### The link is lost (R280, R281, R293) -/

theorem State.setRed_linkUp (s : State) (w : Word) : (s.setRed w).red.linkUp = s.red.linkUp :=
  congrArg (·.linkUp) (s.setRed_tablesKeep w).red

theorem State.syncHealth_linkUp (s : State) : s.syncHealth.red.linkUp = s.red.linkUp := by
  unfold State.syncHealth
  dsimp only
  split
  · exact congrArg (·.linkUp) (State.event_red _ 5)
  · rfl

theorem State.syncControl_linkUp (s : State) : s.syncControl.red.linkUp = s.red.linkUp := by
  unfold State.syncControl
  dsimp only
  split <;> exact s.setRed_linkUp _

theorem State.coldTakeover_linkUp (s : State) : s.coldTakeover.red.linkUp = s.red.linkUp := by
  unfold State.coldTakeover
  split
  · rfl
  · exact State.setRed_linkUp _ _

theorem State.applyFlag_linkUp (s : State) : s.applyFlag.red.linkUp = s.red.linkUp := by
  unfold State.applyFlag
  extract_lets want a s1
  refine s1.syncControl_linkUp.trans ?_
  have hactive : a.red.linkUp = s.red.linkUp := s.setRed_linkUp _
  unfold s1
  split_ifs
  · rfl
  · exact hactive
  · exact a.coldTakeover_linkUp.trans hactive
  · exact hactive
  · exact (a.setRed_linkUp _).trans hactive

theorem State.unform_linkUp (s : State) : s.unform.red.linkUp = s.red.linkUp := by
  unfold State.unform
  extract_lets w s1 red s2
  have hdown : s2.red.linkUp = s.red.linkUp := s.setRed_linkUp _
  exact (State.syncHealth_linkUp _).trans ((State.applyFlag_linkUp _).trans (s2.endAgreement_linkUp.trans hdown))

theorem State.lockstepEnd_linkUp (s : State) (cause : Nat) : (s.lockstepEnd cause).red.linkUp = s.red.linkUp := by
  have hfail : (s.failJoin cause).red.linkUp = s.red.linkUp := by
    unfold State.failJoin
    extract_lets s1 red
    exact (State.unform_linkUp _).trans (State.setRed_linkUp _ _)
  unfold State.lockstepEnd
  split_ifs
  · exact hfail
  · exact s.unform_linkUp
  · rfl

theorem State.linkLost_linkUp (s : State) : s.linkLost.red.linkUp = false :=
  (State.syncHealth_linkUp _).trans (State.lockstepEnd_linkUp _ 4)

end Sys2Proof.Machine
end

section
/-! Losses of lock, retraining, holdover and an absent end (R17, R124, R139, R143 to R146, R280, R368). -/
namespace Sys2Proof.Machine

/-! ### Training cycles and superframes (R139, R143) -/

theorem State.sending_startTraining (s : State) (p : Nat) : (s.startTraining p).chn.sending = s.chn.sending.filter (· != p) := rfl

@[simp] theorem State.reg_stopSending (s : State) (p b : Nat) : (s.stopSending p).reg b = s.reg b := by
  unfold State.stopSending
  split <;> rfl

theorem State.stopSending_contains (s : State) (p : Nat) : (s.stopSending p).chn.sending.contains p = false := by
  unfold State.stopSending
  split
  · rw [State.sending_startTraining]
    simp
  next h => exact Bool.eq_false_of_not_eq_true h

theorem exec_trainingCycleEnd {port : Nat} {s : State} (hp : s.hasPort port = true) (hidle : s.chn.sending.contains port = false) {rxUp : Bool}
    {z : State} (t0 : Nat) (hz : z = if rxUp then (s.tick t0).portFlag port Fld.CHN_PORT_STAT_PEER_RX_UP true else s.tick t0) :
    exec (.trainingCycleEnd port rxUp t0) s =
      if z.bit (Reg.CHN_PORT_STAT port) Fld.CHN_PORT_STAT_PEER_RX_UP then .next { z with chn := { z.chn with sending := port :: z.chn.sending } }
      else .next (z.startTraining port) := by
  have hsending : z.chn.sending = s.chn.sending := by
    rw [hz]
    split <;> rfl
  change execTrainingCycleEnd port rxUp t0 s = _
  unfold execTrainingCycleEnd
  rw [if_neg (by simp [hp])]
  change (if (if rxUp then (s.tick t0).portFlag port Fld.CHN_PORT_STAT_PEER_RX_UP true else s.tick t0).chn.sending.contains port then _ else _) = _
  rw [← hz, hsending, hidle, if_neg Bool.false_ne_true]

/-! ### What a loss leaves -/

/-- The registers that count and show what happens to a port. -/
def lossReg (p b : Nat) : Prop := b = Reg.CHN_PORT_STAT p ∨ b = Reg.CHN_RELOCK p ∨ b = Reg.CHN_HDR_ERR p ∨ b = Reg.CHN_CHAIN p

/-- The image, the debug state, the outputs so far, the link's state but for the ports' records, transmitters and holdovers, and the
registers of the CHN block but the port's own. -/
structure State.LossKeeps (p : Nat) (s t : State) : Prop where
  gen : t.gen = s.gen
  dbg : t.dbg = s.dbg
  chn : t.chn = { s.chn with sending := t.chn.sending, ports := t.chn.ports, holdoverAt := t.chn.holdoverAt }
  out : ∀ o ∈ s.out, o ∈ t.out
  regs : ∀ b, b / 65536 = 7 → ¬ lossReg p b → t.reg b = s.reg b

theorem State.LossKeeps.refl (p : Nat) (s : State) : s.LossKeeps p s := ⟨rfl, rfl, rfl, fun _ h => h, fun _ _ _ => rfl⟩

theorem State.LossKeeps.trans {p : Nat} {s t u : State} (h : s.LossKeeps p t) (k : t.LossKeeps p u) : s.LossKeeps p u where
  gen := k.gen.trans h.gen
  dbg := k.dbg.trans h.dbg
  chn := by rw [k.chn, h.chn]
  out o ho := k.out o (h.out o ho)
  regs b hb hn := (k.regs b hb hn).trans (h.regs b hb hn)

theorem State.LossKeeps.foldl {α : Type} {p : Nat} {f : State → α → State} (h : ∀ (s : State) a, s.LossKeeps p (f s a)) (l : List α) (s : State) :
    s.LossKeeps p (l.foldl f s) :=
  List.foldlRecOn l f (motive := s.LossKeeps p) (.refl p s) (fun _ hz a _ => hz.trans (h _ a))

theorem State.LinkKeeps.lossKeeps {s t : State} (h : s.LinkKeeps t) (p : Nat) : s.LossKeeps p t where
  gen := h.gen
  dbg := h.dbg
  chn := by rw [h.chn]
  out := h.out
  regs b hb _ := h.regs b hb

theorem State.setReg_lossKeeps (s : State) {p a : Nat} (v : Word) (ha : lossReg p a) : s.LossKeeps p (s.setReg a v) := by
  refine ⟨rfl, rfl, rfl, fun _ h => h, fun b _ hn => ?_⟩
  rw [State.reg_setReg, if_neg]
  rintro rfl
  exact hn ha

theorem State.portFlag_lossKeeps (s : State) (p : Nat) (f : Field) (x : Bool) : s.LossKeeps p (s.portFlag p f x) :=
  s.setReg_lossKeeps _ (.inl rfl)

theorem State.setPortSt_lossKeeps (s : State) (p : Nat) (x : PortSt) : s.LossKeeps p (s.setPortSt x) :=
  ⟨rfl, rfl, rfl, fun _ h => h, fun _ _ _ => rfl⟩

theorem State.relock_lossKeeps (s : State) (p : Nat) : s.LossKeeps p (s.relock p) := by
  have hcount : s.LossKeeps p (s.bump (Reg.CHN_RELOCK p) 1) := s.setReg_lossKeeps _ (.inr (.inl rfl))
  unfold State.relock
  dsimp only
  split
  · exact hcount.trans ((State.noteHealth_linkKeeps _ 5 1).lossKeeps p)
  · exact hcount

theorem State.setPort_lossKeeps (s : State) (p k : Nat) : s.LossKeeps p (s.setPort p k) := by
  have hset : s.LossKeeps p (s.put (Reg.CHN_PORT_STAT p) Fld.CHN_PORT_STAT_STATE k) := s.setReg_lossKeeps _ (.inl rfl)
  unfold State.setPort
  dsimp only
  split
  · exact hset.trans ((State.restartHoldoff_linkKeeps _).lossKeeps p)
  · exact hset

theorem State.startTraining_lossKeeps (s : State) (p q : Nat) : s.LossKeeps p (s.startTraining q) :=
  ⟨rfl, rfl, rfl, fun _ h => List.mem_cons_of_mem _ h, fun _ _ _ => rfl⟩

theorem State.stopSending_lossKeeps (s : State) (p q : Nat) : s.LossKeeps p (s.stopSending q) := by
  unfold State.stopSending
  split
  · exact s.startTraining_lossKeeps p q
  · exact .refl p s

theorem State.restartPort_lossKeeps (s : State) (p : Nat) (again : Bool) : s.LossKeeps p (s.restartPort p again) :=
  ((s.setPort_lossKeeps p 1).trans (State.stopSending_lossKeeps _ p p)).trans (State.setPortSt_lossKeeps _ p _)

theorem State.holdOver_lossKeeps (s : State) (p t : Nat) : s.LossKeeps p (s.holdOver p t) := by
  unfold State.holdOver
  split
  · exact .refl p s
  · exact (s.portFlag_lossKeeps p _ true).trans ⟨rfl, rfl, rfl, fun _ h => h, fun _ _ _ => rfl⟩

theorem State.syncChain_lossKeeps (s : State) (p : Nat) : s.LossKeeps p (s.syncChain p) := by
  unfold State.syncChain
  split
  · exact .refl p s
  · exact s.setReg_lossKeeps _ (.inr (.inr (.inr rfl)))

/-! ### A port that starts again from SIGNAL -/

theorem State.reg_restartPort (s : State) (p : Nat) (again : Bool) (b : Nat) :
    (s.restartPort p again).reg b = if Reg.CHN_PORT_STAT p = b then putField (s.reg (Reg.CHN_PORT_STAT p)) 0 4 1 else s.reg b := by
  rw [State.restartPort, State.reg_setPortSt, State.reg_stopSending, State.reg_setPort]

theorem State.portState_restartPort (s : State) (p : Nat) (again : Bool) : (s.restartPort p again).portState p = 1 :=
  (State.portState_congr (State.reg_stopSending _ p _)).trans (s.portState_setPort p (by decide))

theorem State.restartPort_contains (s : State) (p : Nat) (again : Bool) : (s.restartPort p again).chn.sending.contains p = false :=
  State.stopSending_contains _ p

theorem State.reg_holdOver (s : State) (p t : Nat) {b : Nat} (h : Reg.CHN_PORT_STAT p ≠ b) : (s.holdOver p t).reg b = s.reg b := by
  unfold State.holdOver
  split
  · rfl
  · exact (s.reg_portFlag _ _ _ _).trans (if_neg h)

/-- A port that a loss or a write has sent back to SIGNAL: counted, its transmitter in holdover, one bit of its status set. -/
def State.sentBack (s : State) (p t : Nat) (f : Field) (x again : Bool) : State := (((s.relock p).holdOver p t).portFlag p f x).restartPort p again

theorem State.reg_sentBack_relock (s : State) (p t : Nat) (f : Field) (x again : Bool) :
    (s.sentBack p t f x again).reg (Reg.CHN_RELOCK p) = satAdd (s.reg (Reg.CHN_RELOCK p)) 1 := by
  have hne := (relock_ne_portStat p p).symm
  rw [State.sentBack, State.reg_restartPort, if_neg hne, State.reg_portFlag, if_neg hne, State.reg_holdOver _ _ _ hne, State.reg_relock, if_pos rfl]

theorem State.sentBack_lossKeeps (s : State) (p t : Nat) (f : Field) (x again : Bool) : s.LossKeeps p (s.sentBack p t f x again) :=
  (((s.relock_lossKeeps p).trans (State.holdOver_lossKeeps _ p t)).trans (State.portFlag_lossKeeps _ p f x)).trans
    (State.restartPort_lossKeeps _ p again)

/-! ### LOSS_OF_LOCK (R145) -/

theorem relock_div (p : Nat) : Reg.CHN_RELOCK p / 65536 = 7 := by
  simp only [Reg.CHN_RELOCK]
  omega

theorem chain_ne_relock (c p : Nat) : Reg.CHN_CHAIN c ≠ Reg.CHN_RELOCK p := by
  simp only [Reg.CHN_CHAIN, Reg.CHN_RELOCK]
  omega

/-- Where a port sent back leads, at a sender and at a tile. -/
theorem State.loseLock_of_due {s : State} {p : Nat} (hp : s.hasPort p = true) (hst : 4 ≤ s.portState p) (t : Nat) :
    ∃ z, (z = s.sentBack p t Fld.CHN_PORT_STAT_PEER_RX_UP false true ∨
        ∃ x, z = ((s.sentBack p t Fld.CHN_PORT_STAT_PEER_RX_UP false true).withRed x).syncChain p) ∧
      z.LinkKeeps (s.loseLock p t) := by
  unfold State.loseLock
  rw [if_neg (by simp [hp, hst])]
  extract_lets was s1 red s2
  split
  · refine ⟨s2.syncChain p, .inr ?_, State.syncHealth_linkKeeps _⟩
    unfold s2
    split
    · exact ⟨_, rfl⟩
    · exact ⟨s1.red, rfl⟩
  · exact ⟨s1, .inl rfl, State.syncAligned_linkKeeps _⟩

theorem State.loseLock_lossKeeps (s : State) (p t : Nat) : s.LossKeeps p (s.loseLock p t) := by
  by_cases hdue : s.hasPort p = true ∧ 4 ≤ s.portState p
  · obtain ⟨z, hz, hkeep⟩ := State.loseLock_of_due hdue.1 hdue.2 t
    have hback := s.sentBack_lossKeeps p t Fld.CHN_PORT_STAT_PEER_RX_UP false true
    refine State.LossKeeps.trans ?_ (hkeep.lossKeeps p)
    rcases hz with rfl | ⟨x, rfl⟩
    · exact hback
    · exact (hback.trans ((State.withRed_linkKeeps _ x).lossKeeps p)).trans (State.syncChain_lossKeeps _ p)
  · have hsame : s.loseLock p t = s := by
      unfold State.loseLock
      exact if_pos (or_iff_not_imp_left.mpr fun hp => Nat.lt_of_not_le fun hst => hdue ⟨by simpa using hp, hst⟩)
    exact hsame.symm ▸ .refl p s

theorem State.loseLock_lost {s : State} {p : Nat} (hp : s.hasPort p = true) (hst : 4 ≤ s.portState p) (t : Nat) :
    (s.loseLock p t).portState p = 1 ∧ (s.loseLock p t).chn.sending.contains p = false ∧
      (s.loseLock p t).reg (Reg.CHN_RELOCK p) = satAdd (s.reg (Reg.CHN_RELOCK p)) 1 := by
  obtain ⟨z, hz, hkeep⟩ := State.loseLock_of_due hp hst t
  have hstate := State.portState_restartPort (((s.relock p).holdOver p t).portFlag p Fld.CHN_PORT_STAT_PEER_RX_UP false) p true
  have hidle := State.restartPort_contains (((s.relock p).holdOver p t).portFlag p Fld.CHN_PORT_STAT_PEER_RX_UP false) p true
  have hcount := s.reg_sentBack_relock p t Fld.CHN_PORT_STAT_PEER_RX_UP false true
  rw [hkeep.portState, hkeep.chn, hkeep.regs _ (relock_div p)]
  rcases hz with rfl | ⟨x, rfl⟩
  · exact ⟨hstate, hidle, hcount⟩
  · rw [State.syncChain_chn, State.reg_syncChain _ _ (chain_ne_relock p p)]
    exact ⟨(State.portState_congr (State.reg_syncChain _ _ (chain_ne_portStat p p))).trans hstate, hidle, hcount⟩

theorem exec_lossOfLock {port : Nat} (hne : port ≠ 4) (why : LockLoss) (t0 : Nat) (s : State) :
    exec (.lossOfLock port why t0) s = .next ((s.tick t0).loseLock port t0) := by
  change execLossOfLock port why t0 s = _
  unfold execLossOfLock
  exact if_neg hne

/-! ### The lockstep link (R280, R290) -/

theorem exec_lossOfLock_link {s : State} (hsend : s.isSender = true) (hup : s.red.linkUp = true) (why : LockLoss) (t0 : Nat) :
    exec (.lossOfLock 4 why t0) s = .next ((s.tick t0).linkLost.applyFlag) := by
  change execLossOfLock 4 why t0 s = _
  unfold execLossOfLock
  exact (if_pos rfl).trans (if_pos ⟨hsend, hup⟩)

theorem exec_portUp_link {s : State} (hsend : s.isSender = true) (hdown : s.red.linkUp = false) (chain t0 : Nat) :
    exec (.portUp 4 chain t0) s = .next ((((s.tick t0).withRed { s.red with linkUp := true, stateAt := t0 }).sendHello).syncHealth) := by
  change execPortUp 4 chain t0 s = _
  unfold execPortUp
  exact (if_pos rfl).trans (if_neg (by simp [hsend, hdown]))

/-! ### RETRAIN (R146) -/

/-- A due write that passes the gates into the CHN block is that block's. -/
theorem State.rowWrite_chn {s : State} {p : Path} {a : Nat} {data : Word} (h : s.admits p a data = true) (hb : a / 65536 = 7) :
    s.rowWrite p a data true = s.chnWrite a data := by
  have hm : a ≠ Reg.LMP_MAP := by rintro rfl; exact absurd hb (by decide)
  calc s.rowWrite p a data true = s.blockWrite p a data := State.regWrite_of_allowed h hm
    _ = s.chnWrite a data := by simp [State.blockWrite, hb]

theorem State.reg_plainWrite_of_ne (s : State) {a b : Nat} (h : a ≠ b) (data : Word) : (s.plainWrite a data).reg b = s.reg b := by
  unfold State.plainWrite
  split
  · rfl
  · exact (s.reg_setReg _ _ _).trans (if_neg h)

theorem portCtrl_div (p : Nat) : Reg.CHN_PORT_CTRL p / 65536 = 7 := by
  simp only [Reg.CHN_PORT_CTRL]
  omega

theorem portCtrl_ne_relock (p q : Nat) : Reg.CHN_PORT_CTRL p ≠ Reg.CHN_RELOCK q := by
  simp only [Reg.CHN_PORT_CTRL, Reg.CHN_RELOCK]
  omega

/-- A write of RETRAIN to a port of the role. -/
theorem State.chnWrite_retrain {s : State} {port : Nat} (hp : s.hasPort port = true) {data : Word} (hbit : bitOf data 0 = true) :
    ∃ x, s.chnWrite (Reg.CHN_PORT_CTRL port) data =
      ((s.plainWrite (Reg.CHN_PORT_CTRL port) data).sentBack port (s.plainWrite (Reg.CHN_PORT_CTRL port) data).now
        Fld.CHN_PORT_STAT_MODE x false).syncAligned := by
  have hlt := State.lt_four_of_hasPort hp
  have hport : (Reg.CHN_PORT_CTRL port - 0x70000) / 0x100 = port := by
    simp only [Reg.CHN_PORT_CTRL]
    omega
  have hrow : Reg.CHN_PORT_CTRL port < Reg.CHN_EXPRESS ∧ Reg.CHN_PORT_CTRL port % 0x100 = 0 := by
    simp only [Reg.CHN_PORT_CTRL, Reg.CHN_EXPRESS]
    omega
  have hclear : Reg.CHN_PORT_CTRL port ≠ Reg.CHN_CNT_CLEAR := by
    simp only [Reg.CHN_PORT_CTRL, Reg.CHN_CNT_CLEAR]
    omega
  unfold State.chnWrite
  rw [if_neg (Nat.ne_of_lt hrow.1), if_neg hclear, if_pos hrow]
  dsimp only
  rw [hport, hp, hbit]
  exact ⟨_, rfl⟩

theorem exec_retrain {p : Path} {port : Nat} {data : Word} {s : State} (h : s.admits p (Reg.CHN_PORT_CTRL port) data = true)
    (hp : s.hasPort port = true) (hbit : bitOf data 0 = true) :
    ∃ t, exec (.retrain p port data) s = .next t ∧ t.portState port = 1 ∧
      t.reg (Reg.CHN_RELOCK port) = satAdd (s.reg (Reg.CHN_RELOCK port)) 1 := by
  have hexec : exec (.retrain p port data) s = .next (s.chnWrite (Reg.CHN_PORT_CTRL port) data) := by
    change execRetrain p port data s = _
    rw [execRetrain, decide_eq_true (State.lt_four_of_hasPort hp), hbit, Bool.and_true, State.rowWrite_chn h (portCtrl_div port)]
  obtain ⟨x, hwrite⟩ := State.chnWrite_retrain hp hbit
  have hkeep := ((s.plainWrite (Reg.CHN_PORT_CTRL port) data).sentBack port (s.plainWrite (Reg.CHN_PORT_CTRL port) data).now
    Fld.CHN_PORT_STAT_MODE x false).syncAligned_linkKeeps
  refine ⟨_, hexec, ?_, ?_⟩
  · rw [hwrite, hkeep.portState]
    exact State.portState_restartPort _ _ _
  · rw [hwrite, hkeep.regs _ (relock_div port), State.reg_sentBack_relock, State.reg_plainWrite_of_ne _ (portCtrl_ne_relock port port)]

/-! ### CHAIN_DOWN (R15, R144) -/

/-- A chain that is not up: CHN_CHAIN takes the number of tiles announced, UP 0 and CHAIN_COUNT_MISMATCH, and keeps the rest. -/
theorem State.reg_syncChain_down {s : State} {c : Nat} {r : ChainRec} (hr : s.chains.find? (fun x => x.chain == c) = some r)
    (hdown : (s.heard c).length ≠ r.n ∨ s.chn.rated.contains c = false) :
    ∃ n k, (s.syncChain c).reg (Reg.CHN_CHAIN c) = putField (putField (putField (s.reg (Reg.CHN_CHAIN c)) 0 7 n) 7 1 0) 8 1 k := by
  unfold State.syncChain
  split
  next h => cases hr.symm.trans h
  next r' h =>
    obtain rfl := Option.some.inj (hr.symm.trans h)
    extract_lets l w wrong up w1
    have hup : up = false := by
      unfold up
      rcases hdown with h | h
      · rw [decide_eq_false h, Bool.false_and, Bool.false_and]
      · rw [h, Bool.and_false]
    rw [State.reg_setReg, if_pos rfl, hup, if_neg Bool.false_ne_true]
    unfold w1
    rw [hup]
    exact ⟨_, _, rfl⟩

theorem exec_chainDown {chain t0 : Nat} {s : State} {r : ChainRec} (hsend : s.isSender = true) (hr : s.chains.find? (fun x => x.chain == chain) = some r)
    (hbit : bitOf (s.reg (Reg.CHN_CHAIN chain)) 7 = false)
    (hlate : s.chn.bringUp.any (fun b => b.1 == chain && decide (b.2 + 400 * msT ≤ t0)) = true) :
    exec (.chainDown chain t0) s = .next ((((s.tick t0).setReg (Reg.CHN_CHAIN chain)
      (putField (putField (s.reg (Reg.CHN_CHAIN chain)) 9 1 1) 16 7
        (((List.range r.n).find? (fun p => !(s.heard chain).contains p)).getD r.n))).syncChain chain).syncHealth) := by
  have hr' : (s.tick t0).chains.find? (fun x => x.chain == chain) = some r := hr
  change execChainDown chain t0 s = _
  unfold execChainDown
  extract_lets s0 w
  rw [hr']
  refine if_neg (not_or.mpr ⟨by simp [s0, hsend], not_or.mpr ⟨ne_true_of_eq_false hbit, fun hearly => ?_⟩⟩)
  exact Bool.false_ne_true (((Bool.not_eq_true' _).mp hearly).symm.trans hlate)

/-! ### EAST_ABSENT, PLL_HOLDOVER_EXPIRY and REFCLK_CORE_STOP (R17, R124, R368) -/

theorem exec_eastAbsent {s : State} (hsend : s.isSender = false) {t0 : Nat}
    (hlate : s.chn.eastAt + 4096 * 660 * nsT / laneRate (s.get (Reg.CHN_PORT_STAT 1) Fld.CHN_PORT_STAT_RATE) ≤ t0) (chain : Nat) :
    exec (.eastAbsent chain t0) s = .next (((s.tick t0).portFlag 1 Fld.CHN_PORT_STAT_ABSENT true).takeTa chain t0) := by
  change execEastAbsent chain t0 s = _
  unfold execEastAbsent
  exact if_neg (not_or.mpr ⟨by simp [hsend], Nat.not_lt.mpr hlate⟩)

theorem exec_pllHoldoverExpiry {port t0 : Nat} {s : State} (hdue : s.chn.holdoverAt.any (fun h => h.1 == port && decide (h.2 + 10 * secT ≤ t0)) = true)
    (hnone : s.chn.fallback.contains port = false) :
    exec (.pllHoldoverExpiry port t0) s = .next { s.tick t0 with chn := { s.chn with fallback := port :: s.chn.fallback } } := by
  change execPllHoldoverExpiry port t0 s = _
  unfold execPllHoldoverExpiry
  exact if_pos (Bool.and_eq_true_iff.mpr ⟨hdue, congrArg not hnone⟩)

theorem exec_refclkCoreStop (t0 : Nat) (s : State) : ∃ t, exec (.refclkCoreStop t0) s = .next t ∧ t.chn.refclk = false ∧
    t.chn.holdoverAt = (if s.isSender then [(0, t0), (1, t0), (2, t0), (3, t0)] else [(0, t0), (1, t0)]) := by
  change ∃ t, execRefclkCoreStop t0 s = .next t ∧ _
  unfold execRefclkCoreStop
  extract_lets s0 isl s1 ports
  have hgen : s1.gen = s.gen := by
    refine foldl_keeps State.gen (fun z i => ?_) isl s0
    rfl
  refine ⟨_, rfl, rfl, ?_⟩
  change ports.map (fun p => (p, t0)) = _
  unfold ports
  rw [State.isSender_congr hgen]
  split <;> rfl

/-! ### The statement -/

/-- Settles O15: a loss by the port sent back and what follows at a sender and at a tile, the lockstep link by what its end leaves of it, and
the other rows by the one register or record they set. -/
theorem linksAreLostAndHeld : Obligations.LinksAreLostAndHeld := by
  refine ⟨fun port t0 rxUp s hp hidle => ?training, fun port t0 why s hp hst => ?lost, fun chain t0 why s hsend => ⟨fun hup => ?down, fun hdown => ?up⟩,
    fun p port data s h hp hbit => exec_retrain h hp hbit, fun chain t0 s r hsend hr hlt hbit hlate hdown => ?chainDown,
    fun chain t0 s hsend hlate => ?absent, fun port t0 s hdue hnone => ⟨_, exec_pllHoldoverExpiry hdue hnone, rfl, rfl⟩, exec_refclkCoreStop⟩
  case training =>
    have hexec := exec_trainingCycleEnd hp hidle (rxUp := rxUp) t0 rfl
    cases rxUp with
    | true =>
      have hrx := (s.tick t0).bit_portFlag_same port (f := Fld.CHN_PORT_STAT_PEER_RX_UP) true (by decide) (by decide)
      exact ⟨_, hexec.trans (if_pos hrx), by rw [Bool.true_or, if_pos rfl]; exact ⟨rfl, hrx⟩⟩
    | false =>
      rw [Bool.false_or]
      cases hrx : s.bit (Reg.CHN_PORT_STAT port) Fld.CHN_PORT_STAT_PEER_RX_UP with
      | true => exact ⟨_, hexec.trans (if_pos hrx), by rw [if_pos rfl]; exact ⟨rfl, hrx⟩⟩
      | false => exact ⟨_, hexec.trans (if_neg (ne_true_of_eq_false hrx)), by rw [if_neg Bool.false_ne_true]; exact ⟨rfl, _, _, rfl⟩⟩
  case lost =>
    exact ⟨_, exec_lossOfLock (Nat.ne_of_lt (State.lt_four_of_hasPort hp)) why t0 s, State.loseLock_lost (s := s.tick t0) hp hst t0⟩
  case down => exact ⟨_, exec_lossOfLock_link hsend hup why t0, (State.applyFlag_linkUp _).trans (State.linkLost_linkUp _)⟩
  case up => exact ⟨_, exec_portUp_link hsend hdown chain t0, State.syncHealth_linkUp _⟩
  case chainDown =>
    have hdiv : Reg.CHN_CHAIN chain / 65536 = 7 := by
      simp only [Reg.CHN_CHAIN]
      omega
    refine ⟨_, exec_chainDown hsend hr hbit hlate, ?_⟩
    rw [(State.syncHealth_linkKeeps _).regs _ hdiv]
    obtain ⟨n, k, hword⟩ := State.reg_syncChain_down (s := (s.tick t0).setReg (Reg.CHN_CHAIN chain)
      (putField (putField (s.reg (Reg.CHN_CHAIN chain)) 9 1 1) 16 7
        (((List.range r.n).find? (fun p => !(s.heard chain).contains p)).getD r.n))) hr hdown
    rw [hword, State.reg_setReg, if_pos rfl]
    constructor
    · simp [bitOf_putField]
    · rw [fieldOf_putField_other _ _ _ _ _ _ (by decide), fieldOf_putField_other _ _ _ _ _ _ (by decide),
        fieldOf_putField_other _ _ _ _ _ _ (by decide)]
      exact fieldOf_putField_same _ 16 7 _ (by decide)
  case absent =>
    refine ⟨_, exec_eastAbsent hsend hlate chain, ?_⟩
    rw [State.bit_eq_get _ _ rfl, (State.takeTa_cableKeeps _ chain t0).stat 1 _ (.inr (by decide)), ← State.bit_eq_get _ _ rfl]
    exact (s.tick t0).bit_portFlag_same 1 true (by decide) (by decide)

end Sys2Proof.Machine
end

section
/-! Rows through a port (R125 to R128, R133, R145): their header errors, row errors, and what a tile sends on. -/
namespace Sys2Proof.Machine

/-! ### Header errors (R125, R145) -/

theorem State.countHeaders_lossKeeps (s : State) (port : Nat) (blocks : List Block) (t : Nat) :
    s.LossKeeps port (s.countHeaders port blocks t) := by
  have hcount (z : State) (k : Nat) : z.LossKeeps port ((z.bump (Reg.CHN_HDR_ERR port) 1).trimRevert (10 * port + k) t) :=
    (z.setReg_lossKeeps _ (.inr (.inr (.inl rfl)))).trans ((State.trimRevert_linkKeeps _ _ t).lossKeeps port)
  unfold State.countHeaders
  extract_lets bad s1 x h s2
  have hset : s.LossKeeps port s2 := (State.LossKeeps.foldl hcount _ s).trans (s1.setPortSt_lossKeeps port _)
  split
  · exact hset.trans (s2.loseLock_lossKeeps port t)
  · exact hset

/-- Blocks with good headers, in windows that hold fewer than 64 errors, change the port's windows alone. -/
theorem State.countHeaders_good {s : State} {port : Nat} {blocks : List Block} (hgood : ∀ b ∈ blocks, b.header = 1 ∨ b.header = 2)
    (hfew : ∀ w ∈ (s.portSt port).headers, w.1 < 64) (t : Nat) : ∃ x, s.countHeaders port blocks t = s.setPortSt x := by
  unfold State.countHeaders
  extract_lets bad s1 x h s2
  have hbad (k : Nat) : bad k = false := by
    unfold bad
    cases hk : blocks[k]? with
    | none => rfl
    | some b => rcases hgood b (List.mem_of_getElem? hk) with h | h <;> simp [h]
  have hs1 : s1 = s := by
    unfold s1
    rw [List.filter_eq_nil_iff.mpr fun k _ => ne_true_of_eq_false (hbad k)]
    rfl
  have hwindow (k : Nat) : (x.headers.getD k (0, 0)).1 < 64 := by
    rw [List.getD_eq_getElem?_getD]
    cases hk : x.headers[k]? with
    | none => exact (by decide : 0 < 64)
    | some w => exact hfew w (by rw [← hs1]; exact List.mem_of_getElem? hk)
  have hany : h.any (fun w => decide (64 ≤ w.1)) = false := by
    simp only [h, List.any_map, List.any_eq_false, Function.comp_apply, decide_eq_true_eq, Nat.not_le]
    intro k _
    rw [hbad, headerWindow]
    split
    · exact (by decide : 0 < 64)
    · exact hwindow k
  rw [hany, if_neg Bool.false_ne_true]
  exact ⟨_, by unfold s2; rw [hs1]⟩

/-! ### Row errors (R126 to R128) -/

/-- A row of blocks that all have one type, neither an unlisted one nor SLICE_START, with header 2. -/
theorem rowError_control {left k : Nat} {blocks : List Block} (hlen : blocks.length = 4) (hrow : ∀ b ∈ blocks, b.header = 2 ∧ byteAt b.bytes 0 = k)
    (hk : k = 0x1E) : rowError left blocks = false := by
  have htypes : blocks.map (fun b => byteAt b.bytes 0) = List.replicate 4 k :=
    List.eq_replicate_iff.mpr ⟨by rw [List.length_map, hlen], by simpa using fun b hb => (hrow b hb).2⟩
  have hheader : blocks.all (fun b => b.header == 2) = true := List.all_eq_true.mpr fun b hb => beq_iff_eq.mpr (hrow b hb).1
  have hdata : blocks.all (fun b => b.header == 1) = false := by
    obtain ⟨b, hb⟩ := List.exists_mem_of_length_pos (l := blocks) (by omega)
    exact List.all_eq_false.mpr ⟨b, hb, by simp [(hrow b hb).1]⟩
  have hlisted : blocks.any (fun b => b.header != 1 && b.header != 2) = false := List.any_eq_false.mpr fun b hb => by simp [(hrow b hb).1]
  unfold rowError
  extract_lets types row
  rw [if_neg (by simp [hlen, hlisted]), hdata, hheader, show types = List.replicate 4 k from htypes, hk]
  rfl

theorem rowError_data {left : Nat} {blocks : List Block} (hlen : blocks.length = 4) (hrow : ∀ b ∈ blocks, b.header = 1) :
    rowError left blocks = (left == 0) := by
  have hheader : blocks.all (fun b => b.header == 1) = true := List.all_eq_true.mpr fun b hb => beq_iff_eq.mpr (hrow b hb)
  have hlisted : blocks.any (fun b => b.header != 1 && b.header != 2) = false := List.any_eq_false.mpr fun b hb => by simp [hrow b hb]
  unfold rowError
  rw [if_neg (by simp [hlen, hlisted]), hheader]
  rfl

/-! ### ROW_FORWARD -/

theorem State.slicePending_congr {s t : State} (h : t.chn.inSlice = s.chn.inSlice) (p : Nat) : t.slicePending p = s.slicePending p := by
  rw [State.slicePending, h, State.slicePending]

theorem State.slicePending_setSlice (s : State) (p n : Nat) (own : Bool) : (s.setSlice p n own).slicePending p = (n, own) := by
  simp [State.slicePending, State.setSlice]

theorem rowErr_div (p : Nat) : Reg.CHN_ROW_ERR p / 65536 = 7 := by
  simp only [Reg.CHN_ROW_ERR]
  omega

theorem rowErr_not_lossReg (p : Nat) : ¬ lossReg p (Reg.CHN_ROW_ERR p) := by
  simp only [lossReg, Reg.CHN_ROW_ERR, Reg.CHN_PORT_STAT, Reg.CHN_RELOCK, Reg.CHN_HDR_ERR, Reg.CHN_CHAIN]
  omega

section
variable {port t0 : Nat} {blocks : List Block} {s z : State} (hp : s.hasPort port = true) (hst : 6 ≤ s.portState port)
  (hz : (s.tick t0).countHeaders port blocks t0 = z)
include hp hst hz

/-- A good row that starts no slice: a data row leaves one row fewer to come, and the row, or an IDLE row in its place, goes on unless it
is owed to an express row. -/
theorem exec_rowForward_good {data idle : Bool} {y : State} (hrow : rowError (z.slicePending port).1 blocks = false)
    (hstart : blocks.all (fun b => b.header == 2 && byteAt b.bytes 0 == 0x78) = false) (hdata : blocks.all (fun b => b.header == 1) = data)
    (hy : y = if data then z.setSlice port ((z.slicePending port).1 - 1) (z.slicePending port).2 else z) (hfwd : y.forwards port = true)
    (hidle : (blocks == idleRow || (data && (z.slicePending port).2)) = idle) :
    exec (.rowForward port blocks t0) s =
      if idle ∧ tabGet y.chn.dropIdle (opposite port) ≠ 0 then
        .next { y with chn := { y.chn with dropIdle := tabSet y.chn.dropIdle (opposite port) (tabGet y.chn.dropIdle (opposite port) - 1) } }
      else .next (y.emit (.row port (if idle then idleRow else blocks))) := by
  change execRowForward port blocks t0 s = _
  unfold execRowForward
  rw [if_neg (by simp [hp, hst])]
  simp only [hz, hrow, hstart, hdata, Bool.not_false, Bool.true_and, Bool.and_false, Bool.false_and, Bool.false_eq_true, if_false, ← hy, hidle, hfwd,
    Bool.not_true, or_self]

/-- A row error counts, whatever goes on. -/
theorem exec_rowForward_error (hrow : rowError (s.slicePending port).1 blocks = true) :
    ∃ t, exec (.rowForward port blocks t0) s = .next t ∧ t.reg (Reg.CHN_ROW_ERR port) = satAdd (s.reg (Reg.CHN_ROW_ERR port)) 1 := by
  have hloss : s.LossKeeps port z := hz ▸ ((s.tick_linkKeeps t0).lossKeeps port).trans (State.countHeaders_lossKeeps _ port blocks t0)
  have hbad : rowError (z.slicePending port).1 blocks = true := by rw [State.slicePending_congr (congrArg (·.inSlice) hloss.chn), hrow]
  have hreg : (z.bump (Reg.CHN_ROW_ERR port) 1).reg (Reg.CHN_ROW_ERR port) = satAdd (s.reg (Reg.CHN_ROW_ERR port)) 1 := by
    rw [State.reg_bump, if_pos rfl, hloss.regs _ (rowErr_div port) (rowErr_not_lossReg port)]
  change ∃ t, execRowForward port blocks t0 s = .next t ∧ _
  unfold execRowForward
  rw [if_neg (by simp [hp, hst])]
  simp only [hz, hbad, Bool.not_true, Bool.false_and, Bool.false_eq_true, if_false, if_true, or_false, Bool.or_false]
  split_ifs <;> exact ⟨_, rfl, hreg⟩

end

end Sys2Proof.Machine
end

section
/-! Control rows received and sent (R126, R129 to R131, R133, R135, R138, R145): the SFN of a stream, and the row kept or sent. -/
namespace Sys2Proof.Machine

/-! ### What follows a control row leaves -/

/-- The last good control row and the SFN of every port. -/
structure State.CtlKeeps (s t : State) : Prop where
  last : t.chn.last = s.chn.last
  sfnRx : t.chn.sfnRx = s.chn.sfnRx

theorem State.CtlKeeps.refl (s : State) : s.CtlKeeps s := ⟨rfl, rfl⟩

theorem State.CtlKeeps.trans {s t u : State} (h : s.CtlKeeps t) (k : t.CtlKeeps u) : s.CtlKeeps u :=
  ⟨k.last.trans h.last, k.sfnRx.trans h.sfnRx⟩

theorem State.LinkKeeps.ctlKeeps {s t : State} (h : s.LinkKeeps t) : s.CtlKeeps t := ⟨congrArg (·.last) h.chn, congrArg (·.sfnRx) h.chn⟩

theorem State.LossKeeps.ctlKeeps {p : Nat} {s t : State} (h : s.LossKeeps p t) : s.CtlKeeps t :=
  ⟨congrArg (·.last) h.chn, congrArg (·.sfnRx) h.chn⟩

theorem State.setReg_ctlKeeps (s : State) (a : Nat) (v : Word) : s.CtlKeeps (s.setReg a v) := ⟨rfl, rfl⟩

theorem State.sendControl_ctlKeeps (s : State) (p departs : Nat) (row : CtlRow) : s.CtlKeeps (s.sendControl p departs row) := ⟨rfl, rfl⟩

theorem State.takeFrag_ctlKeeps (s : State) (p : Nat) : s.CtlKeeps (s.takeFrag p).2.2 := by
  unfold State.takeFrag
  split
  · exact .refl s
  · exact ⟨rfl, rfl⟩

theorem State.messageDone_ctlKeeps (s : State) (p : Nat) (bs : List Byte) : s.CtlKeeps (s.messageDone p bs) := by
  unfold State.messageDone
  split
  · exact .refl s
  · exact s.setReg_ctlKeeps _ _

theorem State.gather_ctlKeeps (s : State) (p origin hdr : Nat) (frag : List Byte) (take mine : List Byte → Bool) :
    s.CtlKeeps (s.gather p origin hdr frag take mine).2 := by
  unfold State.gather
  extract_lets bs rest cur chn
  have hrest : s.CtlKeeps { s with chn := { s.chn with asm := rest } } := ⟨rfl, rfl⟩
  clear_value cur
  cases cur with
  | none => exact hrest
  | some x =>
    dsimp only
    split
    · exact hrest.trans (State.messageDone_ctlKeeps _ p _)
    · exact ⟨rfl, rfl⟩

theorem State.tileFragment_ctlKeeps (s : State) (p : Nat) (row : CtlRow) (sends : Bool) : s.CtlKeeps (s.tileFragment p row sends).2.2 := by
  unfold State.tileFragment
  extract_lets cnt n ta r
  split_ifs
  · exact s.setReg_ctlKeeps _ _
  · exact s.takeFrag_ctlKeeps _
  · exact .refl s
  · exact .refl s
  · exact s.gather_ctlKeeps _ _ _ _ _ _
  · exact s.gather_ctlKeeps _ _ _ _ _ _

theorem State.senderFragment_ctlKeeps (s : State) (p : Nat) (row : CtlRow) : s.CtlKeeps (s.senderFragment p row) := by
  unfold State.senderFragment
  split_ifs
  · exact s.setReg_ctlKeeps _ _
  · exact .refl s
  · exact s.gather_ctlKeeps _ _ _ _ _ _

theorem State.showExpress_ctlKeeps (s : State) (st seq t : Nat) : s.CtlKeeps (s.showExpress st seq t) :=
  ((s.setReg_ctlKeeps _ _).trans (State.setDark_linkKeeps _ _).ctlKeeps).trans (State.setBlank_linkKeeps _ 1 _ t).ctlKeeps

theorem State.repairExpress_ctlKeeps (s : State) (c : CtlIn) : s.CtlKeeps (s.repairExpress c) := by
  have hshow := s.showExpress_ctlKeeps c.row.expState c.row.expSeq c.t
  unfold State.repairExpress
  split_ifs
  · exact .refl s
  · exact hshow.trans ⟨rfl, rfl⟩
  · dsimp only
    split_ifs
    · exact hshow.trans (State.setReg_ctlKeeps _ _ _)
    · exact .refl s

/-! ### A control row with a bad HCRC (R129) -/

theorem ctlCrc_div (p : Nat) : Reg.CHN_CTL_CRC p / 65536 = 7 := by
  simp only [Reg.CHN_CTL_CRC]
  omega

theorem ctlCrc_not_lossReg (p : Nat) : ¬ lossReg p (Reg.CHN_CTL_CRC p) := by
  simp only [lossReg, Reg.CHN_CTL_CRC, Reg.CHN_PORT_STAT, Reg.CHN_RELOCK, Reg.CHN_HDR_ERR, Reg.CHN_CHAIN]
  omega

theorem State.badControl_counts (s : State) (c : CtlIn) :
    (s.badControl c).reg (Reg.CHN_CTL_CRC c.port) = satAdd (s.reg (Reg.CHN_CTL_CRC c.port)) 1 ∧
      tabGet (s.badControl c).chn.sfnRx c.port = (tabGet s.chn.sfnRx c.port + 1) % 65536 := by
  unfold State.badControl
  extract_lets x s1 sfn chn s2 s3
  have hsfn : tabGet s2.chn.sfnRx c.port = sfn := (tabGet_tabSet _ _ _ _).trans (if_pos rfl)
  have hcount : s2.reg (Reg.CHN_CTL_CRC c.port) = satAdd (s.reg (Reg.CHN_CTL_CRC c.port)) 1 := (s.reg_bump _ _ _).trans (if_pos rfl)
  have hsent : s3.regs = s2.regs ∧ s2.CtlKeeps s3 := by
    unfold s3
    split
    · exact ⟨rfl, .refl s2⟩
    · split
      · exact ⟨rfl, State.sendControl_ctlKeeps _ _ _ _⟩
      · exact ⟨rfl, .refl s2⟩
  have hregs : s3.reg (Reg.CHN_CTL_CRC c.port) = s2.reg (Reg.CHN_CTL_CRC c.port) := congrArg (cellGet resetValue · _) hsent.1
  have hloss := s3.loseLock_lossKeeps c.port c.t
  split
  · rw [hloss.regs _ (ctlCrc_div _) (ctlCrc_not_lossReg _), hloss.ctlKeeps.sfnRx, hregs, hsent.2.sfnRx]
    exact ⟨hcount, hsfn⟩
  · rw [hregs, hsent.2.sfnRx]
    exact ⟨hcount, hsfn⟩

theorem exec_controlRowRx_bad {c : CtlIn} {s : State} (hp : s.hasPort c.port = true) (hst : 6 ≤ s.portState c.port) (hcrc : c.hcrcOk = false) :
    exec (.controlRowRx c) s = .next ((s.tick c.t).badControl c) := by
  change execControlRowRx c s = _
  unfold execControlRowRx
  exact (if_neg (by simp [hp, hst])).trans (if_pos (by rw [hcrc]; rfl))

/-! ### A good control row (R129) -/

/-- A good row is kept with its SFN. -/
def State.rowKept (s : State) (c : CtlIn) : State :=
  let s1 := (s.notePeer c).portFlag c.port Fld.CHN_PORT_STAT_UPSTREAM_LOST (natBit c.row.flags 3)
  let s2 := s1.measureDelay c
  let rows := if c.row.sfn % 16384 = 0 then (c.port, c.row.sfn, c.t, c.row.corr) :: s2.chn.timeRows.filter (fun r => r.1 != c.port) else s2.chn.timeRows
  { s2 with chn := { s2.chn with timeRows := rows, sfnRx := tabSet s2.chn.sfnRx c.port c.row.sfn,
                                 last := { port := c.port, row := c.row, t := c.t } :: s2.chn.last.filter (fun l => l.port != c.port) } }

theorem State.rowKept_row (s : State) (c : CtlIn) :
    (s.rowKept c).lastCtl? c.port = some { port := c.port, row := c.row, t := c.t } ∧ tabGet (s.rowKept c).chn.sfnRx c.port = c.row.sfn := by
  constructor
  · simp [State.lastCtl?, State.rowKept]
  · exact (tabGet_tabSet _ _ _ _).trans (if_pos rfl)

/-- A sender's part in a good row: fragments of its tiles' messages, and its ring return. -/
def State.rowAtSender (s : State) (c : CtlIn) : State :=
  let s4 := s.senderFragment c.port c.row
  { s4 with red := { s4.red with ringAt := if s4.ringEligible c.port then some c.t else s4.red.ringAt } }.syncHealth

/-- A tile's part in a good row, before it sends one on: its express state, the row's residence, an east end that is there. -/
def State.rowAtTile (s : State) (c : CtlIn) : State :=
  let s4 := (s.repairExpress c).setNum (Reg.CHN_RESID c.port) ((c.departs - c.t) / 256 % 65536)
  if c.port = 1 ∧ !natBit c.row.flags 3 then
    { s4.portFlag 1 Fld.CHN_PORT_STAT_ABSENT false with chn := { s4.chn with eastAt := c.t } } else s4

/-- The row that a tile sends on for a good one, with its fragment. -/
def State.sendOn (s : State) (c : CtlIn) : State :=
  let f := s.tileFragment c.port c.row (s.forwards c.port)
  if s.forwards c.port then f.2.2.sendControl (opposite c.port) c.departs (f.2.2.regenerate c c.row c.row.sfn f.1 f.2.1 true) else f.2.2

theorem exec_controlRowRx_good {c : CtlIn} {s : State} (hp : s.hasPort c.port = true) (hst : 6 ≤ s.portState c.port) (hcrc : c.hcrcOk = true) :
    exec (.controlRowRx c) s =
      if ((s.tick c.t).rowKept c).isSender then .next (((s.tick c.t).rowKept c).rowAtSender c)
      else .next ((((s.tick c.t).rowKept c).rowAtTile c).sendOn c) := by
  change execControlRowRx c s = _
  unfold execControlRowRx
  refine (if_neg (by simp [hp, hst])).trans ((if_neg (by rw [hcrc]; decide)).trans ?_)
  by_cases hsend : ((s.tick c.t).rowKept c).isSender
  · exact (if_pos hsend).trans (if_pos hsend).symm
  · exact (if_neg hsend).trans ((apply_ite Host.Outcome.next _ _ _).symm.trans (if_neg hsend).symm)

theorem State.rowAtSender_ctlKeeps (s : State) (c : CtlIn) : s.CtlKeeps (s.rowAtSender c) :=
  (s.senderFragment_ctlKeeps c.port c.row).trans
    (((State.withRed_linkKeeps _ _).trans (State.syncHealth_linkKeeps _)).ctlKeeps)

theorem State.rowAtTile_ctlKeeps (s : State) (c : CtlIn) : s.CtlKeeps (s.rowAtTile c) := by
  unfold State.rowAtTile
  extract_lets s4 chn
  have hrepair : s.CtlKeeps s4 := (s.repairExpress_ctlKeeps c).trans (State.setReg_ctlKeeps _ _ _)
  split
  · exact hrepair.trans ⟨rfl, rfl⟩
  · exact hrepair

theorem State.sendOn_ctlKeeps (s : State) (c : CtlIn) : s.CtlKeeps (s.sendOn c) := by
  have hfrag := s.tileFragment_ctlKeeps c.port c.row (s.forwards c.port)
  unfold State.sendOn
  dsimp only
  split
  · exact hfrag.trans (State.sendControl_ctlKeeps _ _ _ _)
  · exact hfrag

theorem exec_controlRowRx_kept {c : CtlIn} {s : State} (hp : s.hasPort c.port = true) (hst : 6 ≤ s.portState c.port) (hcrc : c.hcrcOk = true) :
    ∃ t, exec (.controlRowRx c) s = .next t ∧ t.lastCtl? c.port = some { port := c.port, row := c.row, t := c.t } ∧
      tabGet t.chn.sfnRx c.port = c.row.sfn := by
  obtain ⟨hlast, hsfn⟩ := (s.tick c.t).rowKept_row c
  have hkept {t : State} (h : ((s.tick c.t).rowKept c).CtlKeeps t) :
      t.lastCtl? c.port = some { port := c.port, row := c.row, t := c.t } ∧ tabGet t.chn.sfnRx c.port = c.row.sfn := by
    rw [State.lastCtl?, h.last, h.sfnRx]
    exact ⟨hlast, hsfn⟩
  rw [exec_controlRowRx_good hp hst hcrc]
  split
  · exact ⟨_, rfl, hkept (State.rowAtSender_ctlKeeps _ c)⟩
  · exact ⟨_, rfl, hkept ((State.rowAtTile_ctlKeeps _ c).trans (State.sendOn_ctlKeeps _ c))⟩

/-! ### SUPERFRAME (R126, R145) -/

theorem State.originate_sfn (s : State) (c k : Nat) : (s.originate c k).chn.sfn = s.chn.sfn := by
  have hlink (z : State) (r : LinkRecord) : (z.sendLink r).chn.sfn = z.chn.sfn := congrArg (·.sfn) (z.sendLink_linkKeeps r).chn
  unfold State.originate
  split
  · rfl
  · dsimp only
    split_ifs
    · rfl
    · exact hlink _ _
    · rfl
    · rfl
    · rfl
    · exact hlink _ _
    · rfl

theorem State.retryExpress_sfn (s : State) (c : Nat) : (s.retryExpress c).chn.sfn = s.chn.sfn := by
  unfold State.retryExpress
  split
  · rfl
  · dsimp only
    split
    · rfl
    · exact State.originate_sfn _ c _

theorem superframe_due {port t0 : Nat} {s : State} (hp : s.hasPort port = true) (hsending : s.chn.sending.contains port = true)
    (hforced : s.dbg.forced = false) :
    ¬ (!(s.tick t0).hasPort port ∨ !(s.tick t0).chn.sending.contains port ∨ (s.tick t0).dbg.forced) := by
  rw [State.hasPort_tick, hp, State.tick_chn, hsending, State.tick_dbg, hforced]
  decide

theorem exec_superframe_sender {port t0 : Nat} {s : State} (hsend : s.isSender = true) (hlt : port < 4) (hsending : s.chn.sending.contains port = true)
    (hforced : s.dbg.forced = false) :
    ∃ t row, exec (.superframe port t0) s = .next t ∧ t.out.head? = some (.control port row) ∧
      row.sfn = (tabGet s.chn.sfn port + 1) % 65536 ∧ tabGet t.chn.sfn port = row.sfn := by
  have hp : s.hasPort port = true := by rw [State.hasPort, hsend, if_pos rfl, decide_eq_true hlt]
  change ∃ t row, execSuperframe port t0 s = .next t ∧ _
  unfold execSuperframe
  rw [if_neg (superframe_due hp hsending hforced), if_pos (show (s.tick t0).isSender = true from hsend)]
  extract_lets late owed chn s1 s2 sfn f s4 chn4 s3 e fl
  have hsfn : s2.chn.sfn = s.chn.sfn := by
    refine (State.retryExpress_sfn _ port).trans ?_
    split <;> rfl
  exact ⟨_, _, rfl, rfl, by rw [← hsfn], (tabGet_tabSet _ _ _ _).trans (if_pos rfl)⟩

/-- UPSTREAM_LOST among the flags of a tile's own row (Table 7.7). -/
theorem natBit_upstreamLost (old : Option CtlRow) (up : Bool) (fl : Nat)
    (hfl : fl = (old.map (fun r => r.flags % 4 + r.flags / 16 % 2 * 16)).getD 0 + 8 + 4 * flag up) : natBit fl 3 = true := by
  have hcases : ∀ a < 4, ∀ b < 2, ∀ c : Bool, natBit (a + b * 16 + 8 + 4 * flag c) 3 = true := by decide
  subst hfl
  cases old with
  | none => exact hcases 0 (by decide) 0 (by decide) up
  | some r => exact hcases _ (Nat.mod_lt _ (by decide)) _ (Nat.mod_lt _ (by decide)) up

/-- A tile whose receive port holds over sends a row of its own. -/
theorem exec_superframe_tile {port t0 : Nat} {s : State} (htile : s.isSender = false) (hlt : port < 2) (hsending : s.chn.sending.contains port = true)
    (hforced : s.dbg.forced = false) (hhold : s.bit (Reg.CHN_PORT_STAT (opposite port)) Fld.CHN_PORT_STAT_TX_HOLDOVER = true)
    (heast : port = 1 → s.eastAbsent = false) :
    ∃ t row, exec (.superframe port t0) s = .next t ∧ t.out.head? = some (.control port row) ∧ natBit row.flags 3 = true ∧
      row.sfn = (tabGet s.chn.sfnRx (opposite port) + 1) % 65536 ∧ tabGet t.chn.sfnRx (opposite port) = row.sfn := by
  have hp : s.hasPort port = true := by rw [State.hasPort, htile, if_neg Bool.false_ne_true, decide_eq_true hlt]
  change ∃ t row, execSuperframe port t0 s = .next t ∧ _
  unfold execSuperframe
  rw [if_neg (superframe_due hp hsending hforced), if_neg (show ¬ (s.tick t0).isSender = true from ne_true_of_eq_false htile)]
  extract_lets rx alone sfn n mine f s4 chn4 s1 e old
  have halone : alone = true := Bool.or_eq_true_iff.mpr (.inl hhold)
  rw [if_neg (not_or.mpr ⟨by rw [halone]; decide, fun h => ne_true_of_eq_false (heast h.1) h.2⟩)]
  exact ⟨_, _, rfl, rfl, natBit_upstreamLost _ _ _ rfl, rfl, (tabGet_tabSet _ _ _ _).trans (if_pos rfl)⟩

end Sys2Proof.Machine
end

section
/-! Express symbols received and requested (R126, R132 to R136). -/
namespace Sys2Proof.Machine

/-! ### Symbols received (R126, R132, R133, R135) -/

theorem expRx_div (p : Nat) : Reg.CHN_EXP_RX p / 65536 = 7 := by
  simp only [Reg.CHN_EXP_RX]
  omega

theorem expRx_not_lossReg (p : Nat) : ¬ lossReg p (Reg.CHN_EXP_RX p) := by
  simp only [lossReg, Reg.CHN_EXP_RX, Reg.CHN_PORT_STAT, Reg.CHN_RELOCK, Reg.CHN_HDR_ERR, Reg.CHN_CHAIN]
  omega

theorem expState_not_lossReg (p : Nat) : ¬ lossReg p Reg.CHN_EXP_STATE := by
  simp only [lossReg, Reg.CHN_EXP_STATE, Reg.CHN_PORT_STAT, Reg.CHN_RELOCK, Reg.CHN_HDR_ERR, Reg.CHN_CHAIN]
  omega

theorem rowErr_ne_portStat (p q : Nat) : Reg.CHN_ROW_ERR p ≠ Reg.CHN_PORT_STAT q := by
  simp only [Reg.CHN_ROW_ERR, Reg.CHN_PORT_STAT]
  omega

theorem rowErr_ne_expRx (p q : Nat) : Reg.CHN_ROW_ERR p ≠ Reg.CHN_EXP_RX q := by
  simp only [Reg.CHN_ROW_ERR, Reg.CHN_EXP_RX]
  omega

theorem rowErr_ne_expState (p : Nat) : Reg.CHN_ROW_ERR p ≠ Reg.CHN_EXP_STATE := by
  simp only [Reg.CHN_ROW_ERR, Reg.CHN_EXP_STATE]
  omega

theorem expRx_ne_expState (p : Nat) : Reg.CHN_EXP_RX p ≠ Reg.CHN_EXP_STATE := by
  simp only [Reg.CHN_EXP_RX, Reg.CHN_EXP_STATE]
  omega

theorem expRx_ne_portStat (p q : Nat) : Reg.CHN_EXP_RX p ≠ Reg.CHN_PORT_STAT q := by
  simp only [Reg.CHN_EXP_RX, Reg.CHN_PORT_STAT]
  omega

@[simp] theorem State.reg_rowErrorRow (s : State) (port : Nat) (blocks : List Block) (b : Nat) :
    (s.rowErrorRow port blocks).reg b = if Reg.CHN_ROW_ERR port = b then satAdd (s.reg (Reg.CHN_ROW_ERR port)) 1 else s.reg b := by
  unfold State.rowErrorRow
  dsimp only
  split <;> exact s.reg_bump _ _ _

theorem State.mem_out_rowErrorRow {s : State} {o : Output} (ho : o ∈ s.out) (port : Nat) (blocks : List Block) : o ∈ (s.rowErrorRow port blocks).out := by
  unfold State.rowErrorRow
  dsimp only
  split
  · exact List.mem_cons_of_mem _ ho
  · exact ho

/-- A placed express row counts no more than a row error of its port. -/
theorem State.reg_placeExpress (s : State) (port code seq : Nat) (blocks : List Block) {b : Nat} (h : Reg.CHN_ROW_ERR port ≠ b) :
    (s.placeExpress port code seq blocks).reg b = s.reg b := by
  unfold State.placeExpress
  extract_lets far s1 s2 chn
  have hsym : s1.reg b = s.reg b := by
    unfold s1
    split <;> rfl
  have herr : s2.reg b = s.reg b := (s1.reg_rowErrorRow port blocks b).trans ((if_neg h).trans hsym)
  split
  · exact hsym
  · split
    · exact herr
    · exact herr

/-- A tile that forwards sends the symbol on. -/
theorem State.mem_out_placeExpress {s : State} {port : Nat} (hfwd : s.forwards port = true) (code seq : Nat) (blocks : List Block) :
    .express (opposite port) code seq ∈ (s.placeExpress port code seq blocks).out := by
  unfold State.placeExpress
  extract_lets far s1 s2 chn
  have hsym : .express (opposite port) code seq ∈ s1.out := by
    unfold s1
    rw [if_pos hfwd]
    exact List.mem_cons_self
  have herr : .express (opposite port) code seq ∈ s2.out := State.mem_out_rowErrorRow hsym port blocks
  split
  · exact hsym
  · split
    · exact herr
    · exact herr

theorem State.showExpress_linkKeeps (s : State) (st seq t : Nat) :
    (s.setNum Reg.CHN_EXP_STATE (st % 4 + seq % 256 * 256)).LinkKeeps (s.showExpress st seq t) :=
  (State.setDark_linkKeeps _ _).trans (State.setBlank_linkKeeps _ 1 _ t)

theorem State.shownPort_congr {s t : State} (h : t.reg Reg.RED_TILE = s.reg Reg.RED_TILE) : t.shownPort = s.shownPort := by
  rw [State.shownPort, State.selCode, State.get, h, State.shownPort, State.selCode, State.get]

theorem symbol_due {port t0 : Nat} {s : State} (hp : s.hasPort port = true) (hlive : s.coreLive = true) :
    ¬ (!(s.tick t0).hasPort port ∨ !(s.tick t0).coreLive) := by
  rw [State.hasPort_tick, hp, show (s.tick t0).coreLive = s.coreLive from rfl, hlive]
  decide

section
variable {port t0 : Nat} {blocks : List Block} {s z : State} (hp : s.hasPort port = true) (hlive : s.coreLive = true)
  (hz : (s.tick t0).countHeaders port blocks t0 = z)
include hp hlive hz

/-- A row that passes as a symbol on no lane. -/
theorem exec_expressSymbolRx_none (hnone : blocks.findSome? expressBlock = none) :
    exec (.expressSymbolRx port blocks t0) s = .next (z.rowErrorRow port blocks) := by
  change execExpressSymbolRx port blocks t0 s = _
  unfold execExpressSymbolRx
  rw [if_neg (symbol_due hp hlive)]
  dsimp only
  rw [hz, hnone]

theorem exec_expressSymbolRx_tile (htile : s.isSender = false) {code seq : Nat} (hsome : blocks.findSome? expressBlock = some (code, seq)) {y : State}
    (hy : y = (z.bump (Reg.CHN_EXP_RX port) 1).placeExpress port code seq blocks) :
    exec (.expressSymbolRx port blocks t0) s =
      if y.shownPort = some port ∧ y.portUp port then
        .next (y.showExpress (expressState (fieldOf (y.reg Reg.CHN_EXP_STATE) 0 2) code) seq t0)
      else .next y := by
  have hloss : s.LossKeeps port z := hz ▸ ((s.tick_linkKeeps t0).lossKeeps port).trans (State.countHeaders_lossKeeps _ port blocks t0)
  have hrole : (z.bump (Reg.CHN_EXP_RX port) 1).isSender = false := (State.isSender_congr hloss.gen).trans htile
  change execExpressSymbolRx port blocks t0 s = _
  unfold execExpressSymbolRx
  rw [if_neg (symbol_due hp hlive)]
  dsimp only
  rw [hz, hsome, hy]
  exact if_neg (ne_true_of_eq_false hrole)

/-- A symbol counts, goes on where the tile forwards, and is acted on from the shown stream of an UP port. -/
theorem exec_expressSymbolRx_counts (htile : s.isSender = false) {code seq : Nat} (hsome : blocks.findSome? expressBlock = some (code, seq)) :
    ∃ t, exec (.expressSymbolRx port blocks t0) s = .next t ∧
      t.reg (Reg.CHN_EXP_RX port) = satAdd (s.reg (Reg.CHN_EXP_RX port)) 1 ∧
      (z.forwards port = true → .express (opposite port) code seq ∈ t.out) ∧
      (z.shownPort = some port → z.portUp port = true →
        t.reg Reg.CHN_EXP_STATE = BitVec.ofNat 32 (expressState (fieldOf (s.reg Reg.CHN_EXP_STATE) 0 2) code % 4 + seq % 256 * 256)) := by
  have hloss : s.LossKeeps port z := hz ▸ ((s.tick_linkKeeps t0).lossKeeps port).trans (State.countHeaders_lossKeeps _ port blocks t0)
  obtain ⟨y, hy⟩ : ∃ y, y = (z.bump (Reg.CHN_EXP_RX port) 1).placeExpress port code seq blocks := ⟨_, rfl⟩
  have hreg {b : Nat} (herr : Reg.CHN_ROW_ERR port ≠ b) : y.reg b = (z.bump (Reg.CHN_EXP_RX port) 1).reg b :=
    hy ▸ State.reg_placeExpress _ _ _ _ _ herr
  have hkeep {b : Nat} (herr : Reg.CHN_ROW_ERR port ≠ b) (hrx : Reg.CHN_EXP_RX port ≠ b) : y.reg b = z.reg b :=
    (hreg herr).trans ((z.reg_bump _ _ _).trans (if_neg hrx))
  have hcount : y.reg (Reg.CHN_EXP_RX port) = satAdd (s.reg (Reg.CHN_EXP_RX port)) 1 := by
    rw [hreg (rowErr_ne_expRx port port), State.reg_bump, if_pos rfl, hloss.regs _ (expRx_div port) (expRx_not_lossReg port)]
  have hstate : y.reg Reg.CHN_EXP_STATE = s.reg Reg.CHN_EXP_STATE :=
    (hkeep (rowErr_ne_expState port) (expRx_ne_expState port)).trans (hloss.regs _ (by decide) (expState_not_lossReg port))
  have hout : z.forwards port = true → .express (opposite port) code seq ∈ y.out := by
    intro hfwd
    have hsame : (z.bump (Reg.CHN_EXP_RX port) 1).forwards port = z.forwards port := by
      refine State.forwards_congr (s := z) (t := z.bump (Reg.CHN_EXP_RX port) 1) rfl rfl rfl ?_ port
      rw [State.eastAbsent, State.bit, State.reg_bump, if_neg (expRx_ne_portStat port 1), State.eastAbsent, State.bit]
    exact hy ▸ State.mem_out_placeExpress (hsame.trans hfwd) code seq blocks
  rw [exec_expressSymbolRx_tile hp hlive hz htile hsome hy]
  split
  · have hshow := y.showExpress_linkKeeps (expressState (fieldOf (y.reg Reg.CHN_EXP_STATE) 0 2) code) seq t0
    refine ⟨_, rfl, ?_, fun hfwd => hshow.out _ (hout hfwd), fun _ _ => ?_⟩
    · rw [hshow.regs _ (expRx_div port), State.reg_setNum, if_neg (expRx_ne_expState port).symm, hcount]
    · rw [hshow.regs _ (by decide), State.reg_setNum, if_pos rfl, hstate]
  next hnot =>
    refine ⟨_, rfl, hcount, hout, fun hshown hup => absurd ⟨?_, ?_⟩ hnot⟩
    · rw [State.shownPort_congr (hkeep _ _), hshown]
      · simp only [Reg.CHN_ROW_ERR, Reg.RED_TILE]
        omega
      · simp only [Reg.CHN_EXP_RX, Reg.RED_TILE]
        omega
    · rw [State.portUp, State.get, hkeep (rowErr_ne_portStat port port) (expRx_ne_portStat port port)]
      exact hup

end

/-! ### Requests (R136) -/

theorem expressState_lt {old : Nat} (hold : old < 4) (k : Nat) : expressState old (requestCode k) < 4 := by
  have hcode : requestCode k = 0x96 ∨ requestCode k = 0xF0 ∨ requestCode k = 0x69 := by
    unfold requestCode
    split_ifs <;> simp
  rcases hcode with h | h | h <;> rw [h] <;> revert old <;> decide

/-- The word of a request of one chain holds its code and names that chain alone. -/
theorem expressWord_fields : ∀ c < 4, ∀ k < 4,
    fieldOf (word (2 ^ c + 16 * k)) 4 2 = k ∧ setBits 4 (fieldOf (word (2 ^ c + 16 * k)) 0 4) = [c] := by decide

theorem State.chnWrite_express (s : State) (data : Word) : s.chnWrite Reg.CHN_EXPRESS data = s.expressWrite data := by
  unfold State.chnWrite
  exact if_pos rfl

theorem exec_expressRequest {p : Path} {data : Word} {s : State} (h : s.admits p Reg.CHN_EXPRESS data = true) :
    exec (.expressRequest p data) s = .next (s.expressWrite data) := by
  change execExpressRequest p data s = _
  rw [execExpressRequest, State.rowWrite_chn h (by decide), State.chnWrite_express]

/-- A tile, or a formed mirror, ignores the write. -/
theorem exec_expressRequest_ignored {s : State} (hrole : s.isSender = false ∨ s.formedMirror = true) (p : Path) (data : Word) :
    exec (.expressRequest p data) s = .next s := by
  by_cases h : s.admits p Reg.CHN_EXPRESS data = true
  · rw [exec_expressRequest h, State.expressWrite, if_pos (hrole.imp (fun h => by rw [h]; rfl) .inl)]
  · exact congrArg _ (State.regWrite_of_refused (Bool.eq_false_of_not_eq_true h))

section
variable {p : Path} {c k : Nat} {x : ExpTx} {s : State} (hc : c < 4) (hk : 1 ≤ k ∧ k ≤ 3) (h : s.admits p Reg.CHN_EXPRESS (word (2 ^ c + 16 * k)) = true)
  (hsend : s.isSender = true) (hpair : s.formedMirror = false)

include hc hk h hsend hpair in
/-- A request of one chain is originated there. -/
theorem exec_expressRequest_chain : exec (.expressRequest p (word (2 ^ c + 16 * k))) s = .next (s.originate c k) := by
  obtain ⟨hcode, hmask⟩ := expressWord_fields c hc k (by omega)
  rw [exec_expressRequest h, State.expressWrite, hcode, hmask, if_neg (by simp [hsend, hpair]; omega)]
  rfl

variable (hx : s.chn.exp.find? (fun y => y.chain == c) = some x)
  (hchange : expressState (fieldOf (s.reg Reg.CHN_EXP_STATE) (2 * c) 2) (requestCode k) ≠ fieldOf (s.reg Reg.CHN_EXP_STATE) (2 * c) 2)
include hx hchange

/-- A request within the limits leaves at once; the primary of a formed pair tells its mirror. -/
theorem State.originate_sends (hfree : k = 1 ∨ (x.inWindow < 16 ∧ x.sentNow = false ∧ (k = 3 → s.chn.blankLow = false))) :
    (s.sendSymbol x k (x.eseq + 1)).LinkKeeps (s.originate c k) := by
  have hrelay (r : LinkRecord) : (s.sendSymbol x k (x.eseq + 1)).LinkKeeps
      (if (s.sendSymbol x k (x.eseq + 1)).formed && !(s.sendSymbol x k (x.eseq + 1)).isMirror then (s.sendSymbol x k (x.eseq + 1)).sendLink r
        else s.sendSymbol x k (x.eseq + 1)) := by
    split
    · exact State.sendLink_linkKeeps _ r
    · exact .refl _
  unfold State.originate
  rw [hx]
  dsimp only
  rw [if_neg hchange]
  by_cases hone : k = 1
  · subst hone
    rw [if_pos rfl]
    exact hrelay _
  · obtain ⟨hroom, hfirst, hhigh⟩ := hfree.resolve_left hone
    rw [if_neg hone, if_neg (by omega), if_neg (by rw [hfirst]; simpa using hhigh)]
    exact hrelay _

/-- A 17th request of the window is kept and counts. -/
theorem State.originate_defers (hone : k ≠ 1) (hfull : 16 ≤ x.inWindow) : s.originate c k = (s.keepRequest c k).bump Reg.CHN_EXP_DEFER 1 := by
  unfold State.originate
  rw [hx]
  dsimp only
  rw [if_neg hchange, if_neg hone, if_pos hfull]

end

/-- What a symbol puts out, and the express state of its chain. -/
theorem State.sendSymbol_shows {s : State} {x : ExpTx} {c : Nat} (hchain : x.chain = c) (hc : c < 4) (k eseq : Nat) :
    .express c (requestCode k) (eseq % 256) ∈ (s.sendSymbol x k eseq).out ∧
      fieldOf ((s.sendSymbol x k eseq).reg Reg.CHN_EXP_STATE) (2 * c) 2 = expressState (fieldOf (s.reg Reg.CHN_EXP_STATE) (2 * c) 2) (requestCode k) := by
  subst hchain
  refine ⟨List.mem_cons_self, ?_⟩
  have hput : (s.sendSymbol x k eseq).reg Reg.CHN_EXP_STATE = putField (s.reg Reg.CHN_EXP_STATE) (2 * x.chain) 2
      (expressState (fieldOf (s.reg Reg.CHN_EXP_STATE) (2 * x.chain) 2) (requestCode k)) := (s.reg_put _ _ _ _).trans (if_pos rfl)
  rw [hput, fieldOf_putField_same _ _ _ _ (by omega)]
  exact Nat.mod_eq_of_lt (expressState_lt (Nat.mod_lt _ (by decide)) k)

end Sys2Proof.Machine
end

section
/-! Rates, slips, announced tiles and the block's counters (R142, R144, R146), and the statement on rows, rates and express symbols. -/
namespace Sys2Proof.Machine

/-! ### RATE and RATE_SWITCH (R144) -/

theorem exec_rate {port code : Nat} {s : State} (hp : s.hasPort port = true) (hcode : code < 8) (sfn t0 : Nat) :
    ∃ t, exec (.rate port code sfn t0) s = .next t ∧ t.regs = s.regs ∧
      t.chn.rates = { dir := port, code := code, sfn := sfn % 65536 } :: s.chn.rates.filter (fun x => x.dir != port) := by
  change ∃ t, execRate port code sfn t0 s = .next t ∧ _
  unfold execRate
  rw [if_neg (by simp [hp, hcode])]
  dsimp only
  split <;> exact ⟨_, rfl, rfl, rfl⟩

theorem State.get_restartPort (s : State) (p : Nat) (again : Bool) (b : Nat) {f : Field} (hf : 4 ≤ f.lo) :
    (s.restartPort p again).get b f = s.get b f := by
  have h := s.get_setPort p 1 b hf
  rw [State.get, State.reg_setPort] at h
  rw [State.get, State.reg_restartPort]
  exact h

/-- The port takes the rate and starts again, its transmitter with it; the switch is done, and its tiles announce themselves anew. -/
def State.switched (s : State) (port code t : Nat) : State :=
  let s1 := ((s.holdOver port t).put (Reg.CHN_PORT_STAT port) Fld.CHN_PORT_STAT_RATE code).restartPort port false
  let s2 := s1.stopSending (s1.upstream port)
  { s2 with chn := { s2.chn with rates := s2.chn.rates.filter (fun y => y.dir != port),
                                 rated := port :: s2.chn.rated.filter (· != port),
                                 announced := s2.chn.announced.filter (fun a => a.1 != port) } }

theorem exec_rateSwitch {port : Nat} {x : RateSwitch} {s : State} (hx : s.chn.rates.find? (fun y => y.dir == port) = some x)
    (hdue : sfnReached (if s.isSender then tabGet s.chn.sfn port else tabGet s.chn.sfnRx port) x.sfn = true) (t0 : Nat) :
    exec (.rateSwitch port t0) s =
      if ((s.tick t0).switched port x.code t0).isSender then .next (((s.tick t0).switched port x.code t0).syncChain port)
      else .next (((((s.tick t0).switched port x.code t0).put Reg.CHN_RING ⟨0, 8⟩ 0xFF).syncAligned).lampPower t0) := by
  change execRateSwitch port t0 s = _
  unfold execRateSwitch
  dsimp only
  rw [show (s.tick t0).chn.rates.find? (fun y => y.dir == port) = some x from hx]
  exact if_neg (by rw [show sfnReached (if (s.tick t0).isSender then tabGet (s.tick t0).chn.sfn port else tabGet (s.tick t0).chn.sfnRx port) x.sfn = true from hdue]; decide)

theorem State.switched_port (s : State) (port t : Nat) {code : Nat} (hcode : code < 8) :
    (s.switched port code t).get (Reg.CHN_PORT_STAT port) Fld.CHN_PORT_STAT_RATE = code ∧ (s.switched port code t).portState port = 1 ∧
      (s.switched port code t).chn.rates = s.chn.rates.filter (fun y => y.dir != port) := by
  unfold State.switched
  extract_lets s1 s2 chn
  have hreg (b : Nat) : s2.reg b = s1.reg b := State.reg_stopSending _ _ b
  have hloss : s.LossKeeps port s2 := (((s.holdOver_lossKeeps port t).trans (State.setReg_lossKeeps _ _ (.inl rfl))).trans
    (State.restartPort_lossKeeps _ port false)).trans (State.stopSending_lossKeeps _ port _)
  refine ⟨?_, ?_, congrArg (fun z : ChnSt => z.rates.filter (fun y => y.dir != port)) hloss.chn⟩
  · have hrate : s1.get (Reg.CHN_PORT_STAT port) Fld.CHN_PORT_STAT_RATE = code :=
      (State.get_restartPort _ _ _ _ (by decide)).trans ((State.get_put_same _ _ _ _ (by decide)).trans (Nat.mod_eq_of_lt hcode))
    exact (congrArg (fieldOf · _ _) (hreg _)).trans hrate
  · exact (congrArg (fieldOf · _ _) (hreg _)).trans (State.portState_restartPort _ port false)

theorem exec_rateSwitch_switched {port : Nat} {x : RateSwitch} {s : State} (hx : s.chn.rates.find? (fun y => y.dir == port) = some x)
    (hcode : x.code < 8) (hdue : sfnReached (if s.isSender then tabGet s.chn.sfn port else tabGet s.chn.sfnRx port) x.sfn = true) (t0 : Nat) :
    ∃ t, exec (.rateSwitch port t0) s = .next t ∧ t.get (Reg.CHN_PORT_STAT port) Fld.CHN_PORT_STAT_RATE = x.code ∧
      t.portState port = 1 ∧ t.chn.rates = s.chn.rates.filter (fun y => y.dir != port) := by
  have hport := (s.tick t0).switched_port port t0 hcode
  obtain ⟨z, hz⟩ : ∃ z, z = (s.tick t0).switched port x.code t0 := ⟨_, rfl⟩
  rw [exec_rateSwitch hx hdue, ← hz]
  rw [← hz] at hport
  have hshown {t : State} (hreg : t.reg (Reg.CHN_PORT_STAT port) = z.reg (Reg.CHN_PORT_STAT port)) (hchn : t.chn = z.chn) :
      t.get (Reg.CHN_PORT_STAT port) Fld.CHN_PORT_STAT_RATE = x.code ∧ t.portState port = 1 ∧
        t.chn.rates = s.chn.rates.filter (fun y => y.dir != port) := by
    rw [State.portState_congr hreg, State.get, hreg, hchn]
    exact hport
  split
  · exact ⟨_, rfl, hshown (State.reg_syncChain _ _ (chain_ne_portStat _ _)) (State.syncChain_chn _ _)⟩
  · have hkeep := (z.put Reg.CHN_RING ⟨0, 8⟩ 0xFF).syncAligned_linkKeeps.trans (State.lampPower_linkKeeps _ t0)
    refine ⟨_, rfl, hshown ?_ hkeep.chn⟩
    rw [hkeep.regs _ (portStat_div port), State.reg_put, if_neg (portStat_ne_ring port).symm]

/-! ### TXSLIP (R142) -/

theorem exec_txslip {port : Nat} {slips : List Nat} {s : State} (hp : s.hasPort port = true) (hlen : slips.length = 4) (hmax : ∀ x ∈ slips, x ≤ 65)
    (t0 : Nat) : exec (.txslip port slips t0) s = .next ((s.tick t0).setNum (Reg.CHN_TXSLIP port) (leNat (slips.map byteOf))) := by
  have hbig : slips.any (fun x => decide (65 < x)) = false := List.any_eq_false.mpr fun x hx => by simpa using hmax x hx
  change execTxslip port slips t0 s = _
  unfold execTxslip
  exact if_neg (by simp [hp, hlen, hbig])

/-- The four bytes of a word. -/
theorem fieldOf_leNat_bytes {a b c d : Nat} (ha : a < 256) (hb : b < 256) (hc : c < 256) (hd : d < 256) :
    ∀ k, k < 4 → fieldOf (BitVec.ofNat 32 (leNat ([a, b, c, d].map byteOf))) (8 * k) 8 = [a, b, c, d].getD k 0 := by
  have hsum : leNat ([a, b, c, d].map byteOf) = a + 256 * (b + 256 * (c + 256 * d)) := by
    simp [leNat, byteOf, Nat.mod_eq_of_lt, ha, hb, hc, hd]
  have hlt : a + 256 * (b + 256 * (c + 256 * d)) < 2 ^ 32 := by omega
  intro k hk
  rw [hsum, fieldOf, BitVec.toNat_ofNat, Nat.mod_eq_of_lt hlt, Nat.shiftRight_eq_div_pow]
  clear hsum
  interval_cases k <;> simp <;> omega

/-! ### ANNOUNCE (R15, R144) -/

theorem State.sendRate_announced (s : State) (c : Nat) : (s.sendRate c).chn.announced = s.chn.announced := by
  unfold State.sendRate
  split
  · rfl
  · split
    · rfl
    · exact congrArg (·.announced) (State.sendLink_linkKeeps _ _).chn

theorem exec_announce {a : AnnounceIn} {s : State} (hsend : s.isSender = true) :
    ∃ t, exec (.announce a) s = .next t ∧
      t.chn.announced = (a.chain, a.position) :: s.chn.announced.filter (fun x => x != (a.chain, a.position)) := by
  change ∃ t, execAnnounce a s = .next t ∧ _
  unfold execAnnounce
  rw [if_neg (by simp [hsend])]
  refine ⟨_, rfl, ?_⟩
  rw [(State.syncHealth_linkKeeps _).chn, State.sendRate_announced, State.syncChain_chn]
  rfl

/-! ### CHN_CNT_CLEAR (R146) -/

theorem exec_chnCntClear {p : Path} {s : State} (h : s.admits p Reg.CHN_CNT_CLEAR 1 = true) :
    exec (.chnCntClear p) s = .next (s.resetRegs chnCounter) := by
  change execChnCntClear p s = _
  rw [execChnCntClear, State.rowWrite_chn h (by decide), State.chnWrite, if_neg (by decide), if_pos rfl]
  rfl

/-! ### The statement -/

/-- Settles O16: a row by whether it is good and what its slice leaves to come, a control row by its HCRC, a superframe by who sends it, a
symbol received by what its port shows, a request by the limits of its window, and the other rows by the one record or register they set. -/
theorem rowsRatesAndExpressSymbols : Obligations.RowsRatesAndExpressSymbols := by
  refine ⟨fun port t0 blocks s hp hst hlen hrow hfwd hfew => ?idle, fun port t0 n own blocks s hp hst hlen hrow hpend hfwd hfew hdrop => ?data,
    fun port t0 blocks s hp hst hrow => exec_rowForward_error hp hst rfl hrow,
    fun c s hp hst hcrc => ⟨_, exec_controlRowRx_bad hp hst hcrc, State.badControl_counts (s.tick c.t) c⟩,
    fun c s hp hst hcrc => exec_controlRowRx_kept hp hst hcrc,
    fun port t0 s hsend hlt hsending hforced => exec_superframe_sender hsend hlt hsending hforced,
    fun port t0 s htile hlt hsending hforced hhold heast => exec_superframe_tile htile hlt hsending hforced hhold heast,
    fun port t0 code seq blocks s hp hlive htile hsome => exec_expressSymbolRx_counts hp hlive rfl htile hsome,
    fun port t0 blocks s hp hlive hnone => ⟨_, exec_expressSymbolRx_none hp hlive rfl hnone, ?noSymbol⟩,
    fun p c k x s hc hk1 hk3 h hsend hpair hx hchange => ⟨fun hfree => ?request, fun hone hfull => ?defer⟩,
    fun p data s hrole => ⟨s, exec_expressRequest_ignored hrole p data, rfl⟩, fun port code sfn t0 s hp hcode => exec_rate hp hcode sfn t0,
    fun port t0 x s _ hx hcode hdue => exec_rateSwitch_switched hx hcode hdue t0, fun port t0 slips s hp hlen hmax => ?slips,
    fun a s hsend => exec_announce hsend, fun p s h => ⟨_, exec_chnCntClear h, s.reg_resetRegs chnCounter⟩⟩
  case idle =>
    obtain ⟨x, hx⟩ := State.countHeaders_good (s := s.tick t0) (fun b hb => .inr (hrow b hb).1) hfew t0
    obtain ⟨b, hb⟩ := List.exists_mem_of_length_pos (hlen.symm ▸ (by decide : 0 < 4))
    have hstart : blocks.all (fun b => b.header == 2 && byteAt b.bytes 0 == 0x78) = false :=
      List.all_eq_false.mpr ⟨b, hb, by simp [(hrow b hb).2]⟩
    have hdata : blocks.all (fun b => b.header == 1) = false := List.all_eq_false.mpr ⟨b, hb, by simp [(hrow b hb).1]⟩
    have hexec := exec_rowForward_good hp hst hx (rowError_control hlen hrow rfl) hstart hdata rfl hfwd (idle := blocks == idleRow)
      (by rw [Bool.false_and, Bool.or_false])
    by_cases howed : blocks = idleRow ∧ tabGet s.chn.dropIdle (opposite port) ≠ 0
    · refine ⟨_, hexec.trans (if_pos ⟨beq_iff_eq.mpr howed.1, howed.2⟩), rfl, ?_⟩
      rw [if_pos howed]
      exact ⟨rfl, (tabGet_tabSet _ _ _ _).trans (if_pos rfl)⟩
    · refine ⟨_, hexec.trans (if_neg fun h => howed ⟨eq_of_beq h.1, h.2⟩), rfl, ?_⟩
      have hsame : (if (blocks == idleRow) = true then idleRow else blocks) = blocks := by
        split
        next h => exact (eq_of_beq h).symm
        · rfl
      rw [if_neg howed, State.emit_out, hsame]
      rfl
  case data =>
    obtain ⟨x, hx⟩ := State.countHeaders_good (s := s.tick t0) (fun b hb => .inl (hrow b hb)) hfew t0
    have hpend' : ((s.tick t0).setPortSt x).slicePending port = (n + 1, own) := (State.slicePending_congr rfl port).trans hpend
    obtain ⟨b, hb⟩ := List.exists_mem_of_length_pos (hlen.symm ▸ (by decide : 0 < 4))
    have hstart : blocks.all (fun b => b.header == 2 && byteAt b.bytes 0 == 0x78) = false := List.all_eq_false.mpr ⟨b, hb, by simp [hrow b hb]⟩
    have hdata : blocks.all (fun b => b.header == 1) = true := List.all_eq_true.mpr fun b hb => beq_iff_eq.mpr (hrow b hb)
    have hidle : (blocks == idleRow) = false := by
      refine beq_eq_false_iff_ne.mpr fun h => ?_
      rw [h] at hrow
      exact absurd (hrow _ List.mem_cons_self) (by decide)
    have hexec := exec_rowForward_good hp hst hx (by rw [hpend', rowError_data hlen hrow]; rfl) hstart hdata
      (y := ((s.tick t0).setPortSt x).setSlice port n own) (by rw [hpend']; rfl) hfwd (idle := own) (by rw [hidle, hpend']; rfl)
    refine ⟨_, hexec.trans (if_neg fun h => ?_), rfl, State.slicePending_setSlice _ port n own, rfl⟩
    exact hdrop.elim h.2 fun hother => ne_true_of_eq_false hother h.1
  case noSymbol =>
    have hloss := ((s.tick_linkKeeps t0).lossKeeps port).trans (State.countHeaders_lossKeeps _ port blocks t0)
    rw [State.reg_rowErrorRow, if_pos rfl, hloss.regs _ (rowErr_div port) (rowErr_not_lossReg port)]
  case request =>
    have hchain : x.chain = c := eq_of_beq (List.find?_some hx :)
    obtain ⟨hout, hstate⟩ := State.sendSymbol_shows hchain hc k (x.eseq + 1) (s := s)
    have hsent := State.originate_sends hx hchange hfree
    exact ⟨_, exec_expressRequest_chain hc ⟨hk1, hk3⟩ h hsend hpair, hsent.out _ hout, by rw [hsent.regs _ (by decide), hstate]⟩
  case defer =>
    refine ⟨_, exec_expressRequest_chain hc ⟨hk1, hk3⟩ h hsend hpair, ?_⟩
    rw [State.originate_defers hx hchange hone hfull]
    exact ⟨rfl, (State.reg_bump _ _ _ _).trans (if_pos rfl)⟩
  case slips =>
    refine ⟨_, exec_txslip hp hlen hmax t0, ?_, fun a ha => (State.reg_setNum _ _ _ _).trans (if_neg (Ne.symm ha))⟩
    rw [State.reg_setNum, if_pos rfl]
    obtain ⟨a, b, c, d, rfl⟩ : ∃ a b c d, slips = [a, b, c, d] := by
      match slips, hlen with
      | [a, b, c, d], _ => exact ⟨a, b, c, d, rfl⟩
    simp only [List.mem_cons, List.not_mem_nil, or_false, forall_eq_or_imp, forall_eq] at hmax
    obtain ⟨ha, hb, hc, hd⟩ := hmax
    exact fieldOf_leNat_bytes (by omega) (by omega) (by omega) (by omega)

end Sys2Proof.Machine
end

section
/-! Frame numbers and wall time (R168): the start of a frame, and the frame of an instant. -/
namespace Sys2Proof.Machine

/-- W(F) ≤ t, cleared of its division: a floor is at most t where the product lies below (t + 1) × NUM. -/
theorem frameStart_le_iff {tl : Timeline} (hnum : 0 < tl.num) (f t : Nat) :
    frameStart tl f ≤ t ↔ f * (tl.den * secT) < (t + 1) * tl.num := by
  rw [frameStart, ← Nat.lt_succ_iff, Nat.div_lt_iff_lt_mul hnum, Nat.mul_assoc]

theorem wfnAt_eq_div {tl : Timeline} (hnum : 0 < tl.num) (hden : 0 < tl.den) (t : Nat) :
    wfnAt tl t = ((t + 1) * tl.num - 1) / (tl.den * secT) := if_neg (by omega)

/-- A frame has started by an instant where its number is at most the WFN of that instant. -/
theorem frameStart_le_iff_le_wfnAt {tl : Timeline} (hnum : 0 < tl.num) (hden : 0 < tl.den) (f t : Nat) :
    frameStart tl f ≤ t ↔ f ≤ wfnAt tl t := by
  have hpos : 0 < (t + 1) * tl.num := Nat.mul_pos t.succ_pos hnum
  rw [frameStart_le_iff hnum, wfnAt_eq_div hnum hden, Nat.le_div_iff_mul_le (Nat.mul_pos hden (by decide))]
  omega

theorem wfnAt_eq_iff {tl : Timeline} (hnum : 0 < tl.num) (hden : 0 < tl.den) (t f : Nat) :
    wfnAt tl t = f ↔ frameStart tl f ≤ t ∧ t < frameStart tl (f + 1) := by
  rw [← Nat.not_le, frameStart_le_iff_le_wfnAt hnum hden, frameStart_le_iff_le_wfnAt hnum hden]
  omega

/-- Settles O22: W(F) ≤ t is F ≤ wfnAt t, by clearing W's division, so that the WFN is the greatest frame started; the worked numbers compute. -/
theorem frameNumbersFollowWallTime : Obligations.FrameNumbersFollowWallTime := by
  refine ⟨fun _ _ => rfl, fun _ t f hnum hden => wfnAt_eq_iff hnum hden t f, fun s im him => ?running, fun tl hnum hden => ?worked⟩
  case running =>
    rw [State.wfnNow, State.timeline?, show s.gen.running = some im from him]
    rfl
  case worked => simp [frameStart, hnum, hden, secT, nsT]

end Sys2Proof.Machine
end

section
/-! The time state and its servo (R171, R175 to R177): what a change of state and a new offset leave of the clock and of the registers. -/
namespace Sys2Proof.Machine

/-! ### A change of state (R177, Table 9.2) -/

theorem State.restartHoldoff_eq (s : State) : s.restartHoldoff = { s with red := s.restartHoldoff.red } := by
  unfold State.restartHoldoff
  split <;> rfl

/-- What the registers show of a change of state: LOCK_LOST and ALIGNED follow from LOCKED. -/
def State.showTime (s : State) (code : Nat) : State :=
  let s1 := s.put Reg.TIM_STATE Fld.TIM_STATE_STATE code
  if s.timeState = 2 then (s1.putBit Reg.TIM_STATE Fld.TIM_STATE_LOCK_LOST true).putBit Reg.FLK_STATE Fld.FLK_STATE_ALIGNED false else s1

theorem State.showTime_rest (s : State) (code : Nat) : s.showTime code = { s with regs := (s.showTime code).regs } := by
  unfold State.showTime
  dsimp only
  split <;> rfl

theorem State.reg_showTime (s : State) (code : Nat) {b : Nat} (ht : Reg.TIM_STATE ≠ b) (hf : Reg.FLK_STATE ≠ b) :
    (s.showTime code).reg b = s.reg b := by
  unfold State.showTime
  dsimp only
  split <;> simp [ht, hf]

/-- A field of TIM_STATE other than STATE and LOCK_LOST. -/
def stateFree (f : Field) : Prop := 3 ≤ f.lo ∧ f.lo + f.len ≤ 18

theorem State.get_showTime (s : State) (code : Nat) {f : Field} (hf : stateFree f) :
    (s.showTime code).get Reg.TIM_STATE f = s.get Reg.TIM_STATE f := by
  obtain ⟨hlo, hhi⟩ := hf
  have hstate := s.get_put_disjoint Reg.TIM_STATE Reg.TIM_STATE (f := Fld.TIM_STATE_STATE) (g := f) code (.inr hlo)
  unfold State.showTime
  dsimp only
  split
  · exact (State.get_put_other _ (by decide) _ _ _).trans ((State.get_put_disjoint _ _ _ _ (.inl hhi)).trans hstate)
  · exact hstate

theorem State.timeState_showTime (s : State) {code : Nat} (h : code < 8) : (s.showTime code).timeState = code := by
  have hstate : (s.put Reg.TIM_STATE Fld.TIM_STATE_STATE code).timeState = code :=
    (s.get_put_same _ _ _ (by decide)).trans (Nat.mod_eq_of_lt h)
  unfold State.showTime
  dsimp only
  split
  · exact (State.get_put_other _ (by decide) _ _ _).trans ((State.get_put_disjoint _ _ _ _ (.inl (by decide))).trans hstate)
  · exact hstate

theorem State.lockState_showTime (s : State) (code : Nat) : (s.showTime code).lockState = s.lockState := by
  unfold State.showTime
  dsimp only
  split
  · exact (State.get_put_disjoint _ _ _ _ (.inl (by decide))).trans
      ((State.get_put_other _ (by decide) _ _ _).trans (State.get_put_other _ (by decide) _ _ _))
  · exact State.get_put_other _ (by decide) _ _ _

/-- A loss of lock is recorded (R177). -/
theorem State.lockLost_showTime {s : State} (h : s.timeState = 2) (code : Nat) :
    (s.showTime code).bit Reg.TIM_STATE Fld.TIM_STATE_LOCK_LOST = true := by
  unfold State.showTime
  rw [if_pos h]
  exact (congrArg (bitOf · _) ((State.reg_putBit _ _ _ _ _).trans (if_neg (by decide)))).trans
    (State.bit_putBit_same _ _ _ (by decide) (by decide))

theorem State.setTime_of_same {s : State} {code : Nat} (h : s.timeState = code) : s.setTime code = s := if_pos h

/-- The servo's counts, its slew and the start of a holdover after a change of state. -/
def TimSt.changed (x : TimSt) (code now : Nat) : TimSt :=
  { x with good := 0, bad := 0, yp := if code = 0 ∨ 3 ≤ code then 0 else x.yp, holdoverAt := if code = 3 then now else x.holdoverAt }

/-- What a change of state does beside its registers: the servo, the meter's record and the hold-off. -/
def State.settleServo (s : State) (code : Nat) : State :=
  let s1 := if code = 3 then { s with tim := { s.tim with holdoverAt := s.now } } else s
  let s2 := if code = 0 ∨ 3 ≤ code then { s1 with tim := { s1.tim with yp := 0 } } else s1
  { s2 with tim := { s2.tim with good := 0, bad := 0 }, met := if code = 2 ∨ code = 3 then s2.met else s2.met.timeLost }.restartHoldoff

theorem State.settleServo_eq (s : State) (code : Nat) :
    ∃ m r, s.settleServo code = { s with tim := s.tim.changed code s.now, met := m, red := r } := by
  unfold State.settleServo TimSt.changed
  dsimp only
  split_ifs <;> exact ⟨_, _, State.restartHoldoff_eq _⟩

theorem State.setTime_of_ne {s : State} {code : Nat} (h : s.timeState ≠ code) : s.setTime code = (s.showTime code).settleServo code := if_neg h

@[simp] theorem State.reg_settleServo (s : State) (code b : Nat) : (s.settleServo code).reg b = s.reg b := by
  obtain ⟨m, r, h⟩ := s.settleServo_eq code
  rw [h]
  rfl

theorem State.reg_setTime (s : State) (code : Nat) {b : Nat} (ht : Reg.TIM_STATE ≠ b) (hf : Reg.FLK_STATE ≠ b) :
    (s.setTime code).reg b = s.reg b := by
  by_cases h : s.timeState = code
  · rw [State.setTime_of_same h]
  · rw [State.setTime_of_ne h, State.reg_settleServo, s.reg_showTime code ht hf]

theorem State.timeState_setTime (s : State) {code : Nat} (hcode : code < 8) : (s.setTime code).timeState = code := by
  by_cases h : s.timeState = code
  · rw [State.setTime_of_same h, h]
  · rw [State.setTime_of_ne h]
    exact (congrArg (fieldOf · _ _) (State.reg_settleServo _ _ _)).trans (s.timeState_showTime hcode)

theorem State.tim_setTime {s : State} {code : Nat} (h : s.timeState ≠ code) : (s.setTime code).tim = s.tim.changed code s.now := by
  obtain ⟨m, r, hsettle⟩ := (s.showTime code).settleServo_eq code
  rw [State.setTime_of_ne h, hsettle, s.showTime_rest code]

theorem State.lockLost_setTime {s : State} (h : s.timeState = 2) {code : Nat} (hcode : code ≠ 2) :
    (s.setTime code).bit Reg.TIM_STATE Fld.TIM_STATE_LOCK_LOST = true := by
  rw [State.setTime_of_ne (h.trans_ne hcode.symm)]
  exact (congrArg (bitOf · _) (State.reg_settleServo _ _ _)).trans (State.lockLost_showTime h code)

/-! ### What the servo leaves (R171, R175) -/

/-- A field of TIM_STATE that no offset and no change of state writes: SOURCE, TIME_VALID, EPOCH and the results of steps. -/
def servoFree (f : Field) : Prop := (3 ≤ f.lo ∧ f.lo + f.len ≤ 6) ∨ (8 ≤ f.lo ∧ f.lo + f.len ≤ 18)

/-- The instant, the image, the outputs and the link; of the clock all but the servo; every register but the four the servo writes, and of
these the fields of others. -/
structure State.ServoKeeps (s t : State) : Prop where
  now : t.now = s.now
  gen : t.gen = s.gen
  out : t.out = s.out
  chn : t.chn = s.chn
  tim : t.tim = { s.tim with e := t.tim.e, eAt := t.tim.eAt, started := t.tim.started, good := t.tim.good, bad := t.tim.bad, yf := t.tim.yf,
                             yp := t.tim.yp, integral := t.tim.integral, holdoverAt := t.tim.holdoverAt }
  regs : ∀ b, b ≠ Reg.TIM_STATE → b ≠ Reg.FLK_STATE → b ≠ Reg.TIM_OFFSET → b ≠ Reg.TIM_FREQ → t.reg b = s.reg b
  fields : ∀ f, servoFree f → t.get Reg.TIM_STATE f = s.get Reg.TIM_STATE f
  lock : t.lockState = s.lockState

theorem State.ServoKeeps.refl (s : State) : s.ServoKeeps s := ⟨rfl, rfl, rfl, rfl, rfl, fun _ _ _ _ _ => rfl, fun _ _ => rfl, rfl⟩

theorem State.ServoKeeps.trans {s t u : State} (h : s.ServoKeeps t) (k : t.ServoKeeps u) : s.ServoKeeps u where
  now := k.now.trans h.now
  gen := k.gen.trans h.gen
  out := k.out.trans h.out
  chn := k.chn.trans h.chn
  tim := k.tim.trans (by rw [h.tim])
  regs b h1 h2 h3 h4 := (k.regs b h1 h2 h3 h4).trans (h.regs b h1 h2 h3 h4)
  fields f hf := (k.fields f hf).trans (h.fields f hf)
  lock := k.lock.trans h.lock

theorem State.setTime_servoKeeps (s : State) (code : Nat) : s.ServoKeeps (s.setTime code) := by
  by_cases h : s.timeState = code
  · rw [State.setTime_of_same h]
    exact .refl s
  obtain ⟨m, r, hsettle⟩ := (s.showTime code).settleServo_eq code
  have heq : s.setTime code = { (s.showTime code) with tim := s.tim.changed code s.now, met := m, red := r } := by
    rw [State.setTime_of_ne h, hsettle, s.showTime_rest code]
  have hget (a : Nat) (f : Field) : (s.setTime code).get a f = (s.showTime code).get a f := by
    rw [heq]
    rfl
  have hfree {f : Field} (hf : servoFree f) : stateFree f := by
    unfold servoFree at hf
    unfold stateFree
    omega
  refine ⟨?_, ?_, ?_, ?_, ?_, fun b ht hf _ _ => s.reg_setTime code ht.symm hf.symm,
    fun f hf => (hget _ f).trans (s.get_showTime code (hfree hf)), (hget _ _).trans (s.lockState_showTime code)⟩ <;>
    rw [heq, s.showTime_rest code]
  rfl

/-- A register the servo shows a number in. -/
theorem State.setNum_servoKeeps (s : State) {a : Nat} (v : Nat) (h : a = Reg.TIM_OFFSET ∨ a = Reg.TIM_FREQ) : s.ServoKeeps (s.setNum a v) where
  now := rfl
  gen := rfl
  out := rfl
  chn := rfl
  tim := rfl
  regs b _ _ ho hf := (s.reg_setNum a v b).trans (if_neg (by rintro rfl; exact h.elim ho hf))
  fields f _ := congrArg (fieldOf · _ _) ((s.reg_setNum a v _).trans (if_neg (by rcases h with rfl | rfl <;> decide)))
  lock := congrArg (fieldOf · _ _) ((s.reg_setNum a v _).trans (if_neg (by rcases h with rfl | rfl <;> decide)))

/-- LARGE_OFFSET and FREQ_RANGE. -/
theorem State.putBit_servoKeeps (s : State) {f : Field} (x : Bool) (h : 6 ≤ f.lo ∧ f.lo + f.len ≤ 8) :
    s.ServoKeeps (s.putBit Reg.TIM_STATE f x) where
  now := rfl
  gen := rfl
  out := rfl
  chn := rfl
  tim := rfl
  regs b hb _ _ _ := (s.reg_putBit _ f x b).trans (if_neg hb.symm)
  fields g hg := by
    unfold servoFree at hg
    exact s.get_put_disjoint _ _ _ (by omega)
  lock := s.get_put_other (by decide) _ _ _

theorem State.slewFrequency_servoKeeps (s : State) (e : Int) (t : Nat) : s.ServoKeeps (s.slewFrequency e t) := by
  unfold State.slewFrequency
  split
  · exact .refl s
  · extract_lets dt acc raw step lim yf tim s2
    have hservo : s.ServoKeeps s2 := ⟨rfl, rfl, rfl, rfl, rfl, fun _ _ _ _ _ => rfl, fun _ _ => rfl, rfl⟩
    exact (hservo.trans (s2.setNum_servoKeeps _ (.inr rfl))).trans (State.putBit_servoKeeps _ _ (by decide))

/-- The clock with a new offset, before the state follows it (R175). -/
def State.noteOffset (s : State) (e : Int) (t near far : Nat) : State :=
  let s1 := (s.slewFrequency e t).setNum Reg.TIM_OFFSET (codeOf 32 (satSigned 32 (e / 4096)))
  let s2 := s1.putBit Reg.TIM_STATE Fld.TIM_STATE_LARGE_OFFSET (decide (msT < e.natAbs))
  { s2 with tim := { s2.tim with e := some e, eAt := t, started := true, good := if e.natAbs ≤ near then s2.tim.good + 1 else 0,
                                 bad := if far < e.natAbs then s2.tim.bad + 1 else 0, yp := s2.phaseSlew e } }

/-- A new offset leaves the state or brings LOCKED or ACQUIRING. -/
theorem State.newOffset_cases (s : State) (e : Int) (t near far : Nat) : s.newOffset e t near far = s.noteOffset e t near far ∨
    ∃ code, s.newOffset e t near far = (s.noteOffset e t near far).setTime code := by
  unfold State.newOffset
  extract_lets s1 s2 good bad tim s3
  split_ifs
  · exact .inr ⟨2, rfl⟩
  · exact .inr ⟨1, rfl⟩
  · exact .inl rfl

theorem State.newOffset_servoKeeps (s : State) (e : Int) (t near far : Nat) : s.ServoKeeps (s.newOffset e t near far) := by
  have hnote : s.ServoKeeps (s.noteOffset e t near far) := by
    unfold State.noteOffset
    extract_lets s1 s2 tim
    have hslew := ((s.slewFrequency_servoKeeps e t).trans (State.setNum_servoKeeps _ _ (.inl rfl))).trans
      (State.putBit_servoKeeps s1 (decide (msT < e.natAbs)) (f := Fld.TIM_STATE_LARGE_OFFSET) (by decide))
    exact hslew.trans ⟨rfl, rfl, rfl, rfl, rfl, fun _ _ _ _ _ => rfl, fun _ _ => rfl, rfl⟩
  rcases s.newOffset_cases e t near far with h | ⟨code, h⟩ <;> rw [h]
  · exact hnote
  · exact hnote.trans (State.setTime_servoKeeps _ code)

/-- No change of state touches e. -/
theorem State.e_setTime (s : State) (code : Nat) : (s.setTime code).tim.e = s.tim.e := by
  by_cases h : s.timeState = code
  · rw [State.setTime_of_same h]
  · rw [State.tim_setTime h]
    rfl

theorem State.newOffset_shows (s : State) (e : Int) (t near far : Nat) : (s.newOffset e t near far).tim.e = some e ∧
    (s.newOffset e t near far).reg Reg.TIM_OFFSET = word (codeOf 32 (satSigned 32 (e / 4096))) := by
  have hreg : (s.noteOffset e t near far).reg Reg.TIM_OFFSET = word (codeOf 32 (satSigned 32 (e / 4096))) := by
    change (((s.slewFrequency e t).setNum Reg.TIM_OFFSET (codeOf 32 (satSigned 32 (e / 4096)))).putBit Reg.TIM_STATE
      Fld.TIM_STATE_LARGE_OFFSET (decide (msT < e.natAbs))).reg Reg.TIM_OFFSET = _
    rw [State.reg_putBit, if_neg (by decide), State.reg_setNum, if_pos rfl, word]
  rcases s.newOffset_cases e t near far with h | ⟨code, h⟩ <;> rw [h]
  · exact ⟨rfl, hreg⟩
  · exact ⟨State.e_setTime _ code, (State.reg_setTime _ code (by decide) (by decide)).trans hreg⟩

end Sys2Proof.Machine
end

section
/-! Steps of wall time (R176): a request, the boundary, and the mirror's record. -/
namespace Sys2Proof.Machine

/-! ### Writes of the block (R182) -/

/-- A due write that the gates let into the TIM block is that block's. -/
theorem State.rowWrite_tim {s : State} {p : Path} {a : Nat} {data : Word} (h : s.admits p a data = true) (hb : a / 65536 = 9) :
    s.rowWrite p a data true = s.timWrite a data := by
  have hm : a ≠ Reg.LMP_MAP := by rintro rfl; exact absurd hb (by decide)
  calc s.rowWrite p a data true = s.blockWrite p a data := State.regWrite_of_allowed h hm
    _ = s.timWrite a data := by simp [State.blockWrite, hb]

theorem State.plainWrite_of_row {s : State} {a : Nat} {r : RegRow} (h : rowOf a = some r) (data : Word) :
    s.plainWrite a data = s.setReg a (writeMask r (s.reg a) data) := by rw [State.plainWrite, h]

theorem rowOf_TIM_CTRL : rowOf Reg.TIM_CTRL = some ⟨0x9001C, 0, 1, 0x1FFFFFF6, 0x0, 0, 0x3C144⟩ := by decide

/-- TIM_CTRL with the data's fields, STEP apart. -/
def State.ctrlWritten (s : State) (data : Word) : State :=
  s.setReg Reg.TIM_CTRL (writeMask ⟨0x9001C, 0, 1, 0x1FFFFFF6, 0x0, 0, 0x3C144⟩ (s.reg Reg.TIM_CTRL) data)

theorem State.stepMode_ctrlWritten (s : State) (data : Word) :
    (s.ctrlWritten data).bit Reg.TIM_CTRL Fld.TIM_CTRL_STEP_MODE = bitOf data 1 := by
  rw [State.ctrlWritten, State.bit, State.reg_setReg, if_pos rfl]
  exact (bitOf_writeMask _ _ data (by decide)).trans (by simp [Nat.testBit, Fld.TIM_CTRL_STEP_MODE])

theorem State.reg_ctrlWritten (s : State) (data : Word) {b : Nat} (h : Reg.TIM_CTRL ≠ b) : (s.ctrlWritten data).reg b = s.reg b :=
  (s.reg_setReg _ _ b).trans (if_neg h)

/-- A write of TIM_CTRL within its ranges that sets STEP is a request to step. -/
theorem exec_timeStep {p : Path} {data : Word} {s : State} (h : s.admits p Reg.TIM_CTRL data = true) (hstep : bitOf data 0 = true)
    (hlock : fieldOf data 4 8 ≠ 0) (hpos : fieldOf data 12 17 ≠ 0) (hmax : fieldOf data 12 17 ≤ 86400) :
    exec (.timeStep p data) s = .next (s.ctrlWritten data).requestStep := by
  change execTimeStep p data s = _
  rw [execTimeStep, hstep, State.rowWrite_tim h (by decide), State.timWrite, if_pos rfl]
  dsimp only
  rw [if_neg (by omega), if_pos hstep, State.plainWrite_of_row rowOf_TIM_CTRL, State.ctrlWritten]

/-! ### A request (R176) -/

/-- What bars a step: one that waits, a run, STEP_MODE 1 with a source, the mirror of a formed pair, a tile. -/
def State.stepBarred (s : State) : Bool :=
  s.tim.step.isSome || s.lockState == 3 || (s.bit Reg.TIM_CTRL Fld.TIM_CTRL_STEP_MODE && s.get Reg.TIM_STATE Fld.TIM_STATE_SOURCE != 0) ||
    s.formedMirror || s.isTile

theorem State.get_ctrlWritten (s : State) (data : Word) {b : Nat} (h : Reg.TIM_CTRL ≠ b) (f : Field) :
    (s.ctrlWritten data).get b f = s.get b f := by rw [State.get, State.get, s.reg_ctrlWritten data h]

theorem State.stepBarred_ctrlWritten (s : State) (data : Word) : (s.ctrlWritten data).stepBarred =
    (s.tim.step.isSome || s.lockState == 3 || (bitOf data 1 && s.get Reg.TIM_STATE Fld.TIM_STATE_SOURCE != 0) || s.formedMirror ||
      s.isTile) := by
  have hlock : (s.ctrlWritten data).lockState = s.lockState := s.get_ctrlWritten data (by decide) _
  have hsource : (s.ctrlWritten data).get Reg.TIM_STATE Fld.TIM_STATE_SOURCE = s.get Reg.TIM_STATE Fld.TIM_STATE_SOURCE :=
    s.get_ctrlWritten data (by decide) _
  have hformed : (s.ctrlWritten data).formed = s.formed := congrArg (· == 2) (s.get_ctrlWritten data (by decide) _)
  unfold State.stepBarred
  rw [s.stepMode_ctrlWritten, hlock, hsource, State.formedMirror, hformed]
  rfl

theorem State.stepTarget_ctrlWritten (s : State) (data : Word) (b : Nat) : (s.ctrlWritten data).stepTarget b = if bitOf data 1 then
    ((((s.reg Reg.TIM_SET_S_LO).toNat + (s.reg Reg.TIM_SET_S_HI).toNat % 65536 * 2 ^ 32) * secT +
      (s.reg Reg.TIM_SET_NS).toNat % 2 ^ 30 * nsT : Nat) : Int) else (b : Int) + s.tim.e.getD 0 := by
  rw [State.stepTarget, s.stepMode_ctrlWritten, s.reg_ctrlWritten data (by decide), s.reg_ctrlWritten data (by decide),
    s.reg_ctrlWritten data (by decide)]
  rfl

theorem State.requestStep_of_barred {s : State} (h : s.stepBarred = true) :
    s.requestStep = s.putBit Reg.TIM_STATE Fld.TIM_STATE_STEP_REJ true := if_pos h

theorem State.sendLink_rest (s : State) (r : LinkRecord) : s.sendLink r = { s with out := (s.sendLink r).out } := by
  unfold State.sendLink
  split <;> rfl

theorem State.armStep_spec (s : State) (b : Nat) : (s.armStep b).tim = { s.tim with step := some (b, s.stepTarget b) } ∧
    (s.armStep b).now = s.now ∧ (s.lockState = 2 → (s.armStep b).lockState = 1) ∧
    ∀ a, Reg.FLK_STATE ≠ a → (s.armStep b).reg a = s.reg a := by
  unfold State.armStep
  extract_lets tim s1
  split
  next => exact ⟨rfl, rfl, fun _ => s1.get_put_same _ _ _ (by decide), fun a ha => (s1.reg_put _ _ _ a).trans (if_neg ha)⟩
  next h => exact ⟨rfl, rfl, fun hlock => absurd (Or.inl hlock) h, fun _ _ => rfl⟩

theorem State.requestStep_of_open {s : State} (h : s.stepBarred = false) :
    s.requestStep.tim = { s.tim with step := some ((s.now / usT + 1) * usT, s.stepTarget ((s.now / usT + 1) * usT)) } ∧
      s.requestStep.now = s.now ∧ (s.lockState = 2 → s.requestStep.lockState = 1) := by
  obtain ⟨htim, hnow, hlock, -⟩ := s.armStep_spec ((s.now / usT + 1) * usT)
  unfold State.stepBarred at h
  unfold State.requestStep
  rw [if_neg (ne_true_of_eq_false h)]
  dsimp only
  split
  · rw [State.sendLink_rest]
    exact ⟨htim, hnow, hlock⟩
  · exact ⟨htim, hnow, hlock⟩

/-! ### Pulse units through a step (R180) -/

/-- Only registers of the pulse units change. -/
structure State.PulseKeeps (s t : State) : Prop where
  rest : t = { s with regs := t.regs }
  regs : ∀ b, (b < 0x90100 ∨ 0x90200 ≤ b) → t.reg b = s.reg b

theorem State.PulseKeeps.trans {s t u : State} (h : s.PulseKeeps t) (h' : t.PulseKeeps u) : s.PulseKeeps u :=
  ⟨h'.rest.trans (congrArg (fun x : State => { x with regs := u.regs }) h.rest), fun b hb => (h'.regs b hb).trans (h.regs b hb)⟩

theorem State.stepPulse_pulseKeeps (s : State) (old new : Nat) (p : Pulse) : s.PulseKeeps (s.stepPulse old new p).1 := by
  have hsame : s.PulseKeeps s := ⟨rfl, fun _ _ => rfl⟩
  have hmissed : s.PulseKeeps (s.putBit (Reg.TIM_OUT_CTRL p.unit) Fld.TIM_OUT_CTRL_MISSED true) := by
    refine ⟨rfl, fun b hb => (s.reg_putBit _ _ _ b).trans (if_neg ?_)⟩
    unfold Reg.TIM_OUT_CTRL
    omega
  unfold State.stepPulse
  extract_lets p1
  split
  · exact hsame
  · split_ifs
    · exact hmissed
    · exact hsame
    · exact hsame
    · exact hsame

theorem State.stepPulses_pulseKeeps (old new : Nat) (ps : List Pulse) (s : State) : s.PulseKeeps (s.stepPulses old new ps).1 := by
  induction ps generalizing s with
  | nil => exact ⟨rfl, fun _ _ => rfl⟩
  | cons p ps ih =>
    have hp := s.stepPulse_pulseKeeps old new p
    have hps := ih (s.stepPulse old new p).1
    exact hp.trans hps

/-! ### The boundary (R176) -/

theorem State.applyStep_spec (s : State) (old new : Nat) : (s.applyStep old new).now = new ∧ (s.applyStep old new).tim.step = none ∧
    (s.applyStep old new).tim.e = none ∧ (s.applyStep old new).tim.offsets = [] ∧
    ∀ b, (b < 0x90100 ∨ 0x90200 ≤ b) → (s.applyStep old new).reg b = s.reg b :=
  ⟨rfl, rfl, rfl, rfl, (s.stepPulses_pulseKeeps old new s.tim.pulses).regs⟩

theorem State.meterClose_rest (s : State) (cause : Nat) (tag : List Byte) (on : Bool) :
    s.meterClose cause tag on = { s with met := (s.meterClose cause tag on).met } := by
  unfold State.meterClose
  split
  · rfl
  · extract_lets again
    clear_value again
    cases again <;> rfl

theorem State.meterStep_rest (s : State) (before after : Nat) (size : Int) :
    s.meterStep before after size = { s with met := (s.meterStep before after size).met } := by
  unfold State.meterStep
  split
  · rfl
  · exact State.meterClose_rest _ _ _ _

/-- The registers after a step: EPOCH is one higher and STEP_DONE is set. -/
def State.stepShown (s : State) : State :=
  (s.put Reg.TIM_STATE Fld.TIM_STATE_EPOCH ((s.get Reg.TIM_STATE Fld.TIM_STATE_EPOCH + 1) % 256)).putBit Reg.TIM_STATE
    Fld.TIM_STATE_STEP_DONE true

theorem State.stepShown_fields (s : State) :
    s.stepShown.get Reg.TIM_STATE Fld.TIM_STATE_EPOCH = (s.get Reg.TIM_STATE Fld.TIM_STATE_EPOCH + 1) % 256 ∧
      s.stepShown.bit Reg.TIM_STATE Fld.TIM_STATE_STEP_DONE = true := by
  refine ⟨(State.get_put_disjoint _ _ _ _ (.inl (by decide))).trans ?_, State.bit_putBit_same _ _ _ (by decide) (by decide)⟩
  exact (s.get_put_same _ _ _ (by decide)).trans (Nat.mod_mod _ _)

theorem exec_stepBoundary {s : State} {b : Nat} {v : Int} (h : s.tim.step = some (b, v)) :
    ∃ u m, exec .stepBoundary s = .next { (s.applyStep b v.toNat).stepShown with umb := u, met := m } := by
  change ∃ u m, execStepBoundary s = _
  unfold execStepBoundary
  rw [h]
  dsimp only
  rw [State.meterStep_rest]
  exact ⟨_, _, rfl⟩

theorem exec_stepRecord {epoch boundary t0 : Nat} {s : State} (hmirror : s.formedMirror = true) (hnone : s.tim.step = none) :
    exec (.stepRecord epoch boundary t0) s =
      .next (((s.tick t0).armStep boundary).put Reg.TIM_STATE Fld.TIM_STATE_EPOCH ((epoch + 255) % 256)) :=
  if_neg (by simp [hmirror, hnone])

/-! ### The statement -/

/-- Settles O20: a request by whether anything bars a step, a boundary by what the step leaves and the registers then show, and the mirror's
record by the boundary and the EPOCH it brings. -/
theorem stepsMoveWallTime : Obligations.StepsMoveWallTime := by
  refine ⟨fun p data s h htile hmirror hstep hlock hpos hmax hnone hrun hfree => ?accepted,
    fun p data s h hstep hlock hpos hmax hbar => ?rejected, fun s b v h => ?boundary, fun epoch boundary t0 s hmirror hnone => ?record⟩
  case accepted =>
    have hopen : (s.ctrlWritten data).stepBarred = false := by
      rw [State.stepBarred_ctrlWritten, hnone, hmirror, htile, beq_eq_false_iff_ne.mpr hrun]
      cases hmode : bitOf data 1 with
      | false => rfl
      | true => simp [hfree hmode]
    obtain ⟨htim, hnow, harmed⟩ := State.requestStep_of_open hopen
    refine ⟨_, exec_timeStep h hstep hlock hpos hmax, ?_, hnow, fun hl => harmed ((s.get_ctrlWritten data (by decide) _).trans hl)⟩
    rw [htim, State.stepTarget_ctrlWritten]
    rfl
  case rejected =>
    have hbarred : (s.ctrlWritten data).stepBarred = true := by
      rw [State.stepBarred_ctrlWritten]
      obtain hrun | hwaits | hmirror | ⟨hmode, hsource⟩ := hbar
      · simp [hrun]
      · simp [hwaits]
      · simp [hmirror]
      · simp [hmode, hsource]
    refine ⟨_, exec_timeStep h hstep hlock hpos hmax, ?_⟩
    rw [State.requestStep_of_barred hbarred]
    refine ⟨State.bit_putBit_same _ _ _ (by decide) (by decide), rfl, rfl, ?_⟩
    exact ((s.ctrlWritten data).get_put_other (by decide) _ _ _).trans (s.get_ctrlWritten data (by decide) _)
  case boundary =>
    obtain ⟨hnow, hstep, he, hoffsets, hregs⟩ := s.applyStep_spec b v.toNat
    obtain ⟨hepoch, hdone⟩ := (s.applyStep b v.toNat).stepShown_fields
    obtain ⟨u, m, hexec⟩ := exec_stepBoundary h
    refine ⟨_, hexec, hnow, hstep, he, hoffsets, hepoch.trans ?_, hdone⟩
    rw [State.get, State.get, hregs _ (.inl (by decide))]
  case record =>
    obtain ⟨htim, -, -, -⟩ := (s.tick t0).armStep_spec boundary
    refine ⟨_, _, exec_stepRecord hmirror hnone, congrArg TimSt.step htim, ?_⟩
    rw [State.get_put_same _ _ _ _ (by decide)]
    change ((epoch + 255) % 256 % 256 + 1) % 256 = _
    omega

end Sys2Proof.Machine
end

section
/-! Pulse and capture units (R179 to R182). -/
namespace Sys2Proof.Machine

/-! ### The pulse units' store -/

theorem State.pulse?_setPulse (s : State) (x : Pulse) : (s.setPulse x).pulse? x.unit = some x := by
  simp [State.pulse?, State.setPulse]

theorem State.bit_setPulse (s : State) (x : Pulse) (a : Nat) (f : Field) : (s.setPulse x).bit a f = s.bit a f := rfl

theorem State.unit_of_pulse? {s : State} {u : Nat} {x : Pulse} (h : s.pulse? u = some x) : x.unit = u :=
  eq_of_beq (List.find?_some (p := fun y : Pulse => y.unit == u) h)

/-- The pulse of a unit put back with other times is that unit's. -/
theorem State.pulse?_setPulse_of {s t : State} {u : Nat} {x y : Pulse} (h : s.pulse? u = some x) (hy : y.unit = x.unit) :
    (t.setPulse y).pulse? u = some y := by
  rw [← State.unit_of_pulse? h, ← hy, State.pulse?_setPulse]

/-! ### A unit's own register (R179, R180) -/

theorem rowOf_TIM_OUT_CTRL : ∀ u < 8, rowOf (Reg.TIM_OUT_CTRL u) = some ⟨0x90100, 32, 8, 0x11F, 0x40, 0, 0x10⟩ := by decide

/-- The register of unit `u` alone differs, and in fields other than its parameters. -/
structure State.UnitKeeps (u : Nat) (s t : State) : Prop where
  rest : t = { s with regs := t.regs }
  regs : ∀ b, Reg.TIM_OUT_CTRL u ≠ b → t.reg b = s.reg b

theorem State.UnitKeeps.refl (u : Nat) (s : State) : State.UnitKeeps u s s := ⟨rfl, fun _ _ => rfl⟩

theorem State.UnitKeeps.setReg {u : Nat} {s t : State} (h : State.UnitKeeps u s t) (w : Word) :
    State.UnitKeeps u s (t.setReg (Reg.TIM_OUT_CTRL u) w) :=
  ⟨congrArg (fun x : State => x.setReg (Reg.TIM_OUT_CTRL u) w) h.rest,
    fun b hb => ((t.reg_setReg _ w b).trans (if_neg hb)).trans (h.regs b hb)⟩

section
variable {u : Nat} {s t : State} (h : State.UnitKeeps u s t)
include h

theorem State.UnitKeeps.start : t.pulseStart u = s.pulseStart u := by
  have hne : Reg.TIM_OUT_CTRL u ≠ Reg.TIM_OUT_S_LO u ∧ Reg.TIM_OUT_CTRL u ≠ Reg.TIM_OUT_S_HI u ∧
      Reg.TIM_OUT_CTRL u ≠ Reg.TIM_OUT_NS u := by
    unfold Reg.TIM_OUT_CTRL Reg.TIM_OUT_S_LO Reg.TIM_OUT_S_HI Reg.TIM_OUT_NS
    omega
  rw [State.pulseStart, h.regs _ hne.1, h.regs _ hne.2.1, h.regs _ hne.2.2, State.pulseStart]

theorem State.UnitKeeps.regPer : t.reg (Reg.TIM_OUT_PER u) = s.reg (Reg.TIM_OUT_PER u) :=
  h.regs _ (by unfold Reg.TIM_OUT_CTRL Reg.TIM_OUT_PER; omega)

theorem State.UnitKeeps.regWidth : t.reg (Reg.TIM_OUT_WIDTH u) = s.reg (Reg.TIM_OUT_WIDTH u) :=
  h.regs _ (by unfold Reg.TIM_OUT_CTRL Reg.TIM_OUT_WIDTH; omega)

theorem State.UnitKeeps.regCount : t.reg (Reg.TIM_OUT_COUNT u) = s.reg (Reg.TIM_OUT_COUNT u) :=
  h.regs _ (by unfold Reg.TIM_OUT_CTRL Reg.TIM_OUT_COUNT; omega)

theorem State.UnitKeeps.period : t.pulsePeriod u = s.pulsePeriod u := by
  rw [State.pulsePeriod, h.regPer, h.regs _ (by unfold Reg.TIM_OUT_CTRL Reg.TIM_OUT_PERFRAC; omega), State.pulsePeriod]

theorem State.UnitKeeps.offset : t.pulseOffset u = s.pulseOffset u := by
  rw [State.pulseOffset, h.regs _ (by unfold Reg.TIM_OUT_CTRL Reg.TIM_OUT_NS; omega), State.pulseOffset]

theorem State.UnitKeeps.timeline : t.timeline? = s.timeline? := by rw [h.rest]; rfl

theorem State.UnitKeeps.now : t.now = s.now := by rw [h.rest]

theorem State.UnitKeeps.tim : t.tim = s.tim := by rw [h.rest]

end

/-- A unit with the fields of a write and ENABLE 0. -/
def State.unitWritten (s : State) (u : Nat) (data : Word) : State :=
  (s.plainWrite (Reg.TIM_OUT_CTRL u) data).putBit (Reg.TIM_OUT_CTRL u) Fld.TIM_OUT_CTRL_ENABLE false

/-- A unit that runs: ERR 0 and ENABLE 1. -/
def State.unitEnabled (s : State) (u : Nat) : State :=
  (s.putBit (Reg.TIM_OUT_CTRL u) Fld.TIM_OUT_CTRL_ERR false).putBit (Reg.TIM_OUT_CTRL u) Fld.TIM_OUT_CTRL_ENABLE true

theorem State.unitWritten_keeps (s : State) {u : Nat} (hu : u < 8) (data : Word) : State.UnitKeeps u s (s.unitWritten u data) := by
  rw [State.unitWritten, State.plainWrite_of_row (rowOf_TIM_OUT_CTRL u hu)]
  exact ((State.UnitKeeps.refl u s).setReg _).setReg _

theorem State.UnitKeeps.enabled {u : Nat} {s t : State} (h : State.UnitKeeps u s t) : State.UnitKeeps u s (t.unitEnabled u) :=
  (h.setReg _).setReg _

theorem State.pulseMode_unitWritten (s : State) {u : Nat} (hu : u < 8) (data : Word) : (s.unitWritten u data).pulseMode u = fieldOf data 1 2 := by
  refine (State.get_put_disjoint _ _ _ _ (.inr (by decide))).trans ?_
  rw [State.plainWrite_of_row (rowOf_TIM_OUT_CTRL u hu), State.get, State.reg_setReg, if_pos rfl]
  exact fieldOf_writeMask _ _ data 1 2 (by decide) (by decide)

theorem State.x16_unitWritten (s : State) {u : Nat} (hu : u < 8) (data : Word) :
    (s.unitWritten u data).bit (Reg.TIM_OUT_CTRL u) Fld.TIM_OUT_CTRL_WIDTH_X16 = bitOf data 8 := by
  refine (State.bit_put_disjoint _ _ _ _ (by decide) (.inr (by decide))).trans ?_
  rw [State.plainWrite_of_row (rowOf_TIM_OUT_CTRL u hu), State.bit, State.reg_setReg, if_pos rfl]
  exact (bitOf_writeMask _ _ data (by decide)).trans (by simp [Nat.testBit, Fld.TIM_OUT_CTRL_WIDTH_X16])

theorem State.pulseMode_unitEnabled (s : State) (u : Nat) : (s.unitEnabled u).pulseMode u = s.pulseMode u :=
  (State.get_put_disjoint _ _ _ _ (.inr (by decide))).trans (State.get_put_disjoint _ _ _ _ (.inl (by decide)))

theorem State.unitEnabled_bits (s : State) (u : Nat) :
    (s.unitEnabled u).bit (Reg.TIM_OUT_CTRL u) Fld.TIM_OUT_CTRL_ENABLE = true ∧
      (s.unitEnabled u).bit (Reg.TIM_OUT_CTRL u) Fld.TIM_OUT_CTRL_ERR = false :=
  ⟨State.bit_putBit_same _ _ _ (by decide) (by decide),
    (State.bit_put_disjoint _ _ _ _ (by decide) (.inr (by decide))).trans (State.bit_putBit_same _ _ _ (by decide) (by decide))⟩

theorem State.pulseWidth_unitWritten (s : State) {u : Nat} (hu : u < 8) (data : Word) :
    (s.unitWritten u data).pulseWidth u = (s.reg (Reg.TIM_OUT_WIDTH u)).toNat * (if bitOf data 8 then 16 else 1) * nsT := by
  rw [State.pulseWidth, s.x16_unitWritten hu, (s.unitWritten_keeps hu data).regWidth]

/-- A WIDTH of 4 or more is 4 ns or more (R179). -/
theorem le_width {w : Nat} (x16 : Bool) (h : 4 ≤ w) : 4 * nsT ≤ w * (if x16 then 16 else 1) * nsT :=
  Nat.mul_le_mul_right _ (h.trans (Nat.le_mul_of_pos_right _ (by split <;> decide)))

/-! ### Which parameters a mode allows (R179) -/

theorem State.pulseRefused_once {s : State} {u : Nat} {data : Word} (hu : u < 8) (hmode : fieldOf data 1 2 = 0)
    (hwidth : 4 ≤ (s.reg (Reg.TIM_OUT_WIDTH u)).toNat) (hstart : s.now + usT ≤ s.pulseStart u) :
    (s.unitWritten u data).pulseRefused u = false := by
  have hkeeps := s.unitWritten_keeps hu data
  simp only [State.pulseRefused, s.pulseMode_unitWritten hu, s.pulseWidth_unitWritten hu, hmode, hkeeps.start, hkeeps.now, Bool.or_eq_false_iff,
    decide_eq_false_iff_not, Nat.not_lt]
  exact ⟨le_width _ hwidth, hstart⟩

theorem State.pulseRefused_periodic {s : State} {u : Nat} {data : Word} (hu : u < 8) (hmode : fieldOf data 1 2 = 1)
    (hwidth : 4 ≤ (s.reg (Reg.TIM_OUT_WIDTH u)).toNat)
    (hperiod : (s.reg (Reg.TIM_OUT_WIDTH u)).toNat * (if bitOf data 8 then 16 else 1) * nsT + 4 * nsT ≤ s.pulsePeriod u) :
    (s.unitWritten u data).pulseRefused u = false := by
  have hkeeps := s.unitWritten_keeps hu data
  simp only [State.pulseRefused, s.pulseMode_unitWritten hu, s.pulseWidth_unitWritten hu, hmode, hkeeps.period, Bool.or_eq_false_iff, decide_eq_false_iff_not,
    Nat.not_lt]
  exact ⟨le_width _ hwidth, hperiod⟩

theorem State.pulseRefused_frame {s : State} {u : Nat} {data : Word} {tl : Timeline} (hu : u < 8) (hmode : fieldOf data 1 2 = 2)
    (hwidth : 4 ≤ (s.reg (Reg.TIM_OUT_WIDTH u)).toNat) (htl : s.timeline? = some tl)
    (hperiod : (s.reg (Reg.TIM_OUT_WIDTH u)).toNat * (if bitOf data 8 then 16 else 1) * nsT + 4 * nsT ≤
      periodNs tl * nsT * (fieldOf (s.reg (Reg.TIM_OUT_PER u)) 0 8 + 1))
    (hoffset : s.pulseOffset u < periodNs tl * nsT)
    (hphase : fieldOf (s.reg (Reg.TIM_OUT_PER u)) 8 8 ≤ fieldOf (s.reg (Reg.TIM_OUT_PER u)) 0 8) :
    (s.unitWritten u data).pulseRefused u = false := by
  have hkeeps := s.unitWritten_keeps hu data
  simp only [State.pulseRefused, s.pulseMode_unitWritten hu, s.pulseWidth_unitWritten hu, hmode, hkeeps.timeline, htl, hkeeps.offset, hkeeps.regPer,
    Bool.or_eq_false_iff, decide_eq_false_iff_not, Nat.not_lt, Nat.not_le]
  exact ⟨⟨⟨le_width _ hwidth, hperiod⟩, hoffset⟩, hphase⟩

theorem State.pulseRefused_reserved {s : State} {u : Nat} {data : Word} (hu : u < 8) (hmode : fieldOf data 1 2 = 3) :
    (s.unitWritten u data).pulseRefused u = true := by
  simp only [State.pulseRefused, s.pulseMode_unitWritten hu, hmode]

/-! ### A write of the register (R179) -/

theorem State.timWrite_outCtrl (s : State) {u : Nat} (hu : u < 8) (data : Word) : s.timWrite (Reg.TIM_OUT_CTRL u) data = s.outCtrlWrite u data := by
  have haddr : Reg.TIM_OUT_CTRL u = 0x90100 + 0x20 * u := by rw [Reg.TIM_OUT_CTRL, Nat.mod_eq_of_lt hu]
  have hunit : (Reg.TIM_OUT_CTRL u - Reg.TIM_OUT_CTRL 0) / 0x20 = u := by
    rw [haddr, show Reg.TIM_OUT_CTRL 0 = 0x90100 from rfl]
    omega
  have hrange : inRange (Reg.TIM_OUT_CTRL u) (Reg.TIM_OUT_CTRL 0) (Reg.TIM_OUT_COUNT 7) = true := by
    rw [haddr, inRange, Bool.and_eq_true, decide_eq_true_eq, decide_eq_true_eq]
    unfold Reg.TIM_OUT_CTRL Reg.TIM_OUT_COUNT
    omega
  have hne : Reg.TIM_OUT_CTRL u ≠ Reg.TIM_CTRL ∧ Reg.TIM_OUT_CTRL u ≠ Reg.TIM_PTP_CFG ∧ Reg.TIM_OUT_CTRL u ≠ Reg.TIM_SET_NS ∧
      Reg.TIM_OUT_CTRL u ≠ Reg.TIM_CNT_CLEAR := by
    rw [haddr, Reg.TIM_CTRL, Reg.TIM_PTP_CFG, Reg.TIM_SET_NS, Reg.TIM_CNT_CLEAR]
    omega
  obtain ⟨hctrl, hptp, hset, hclear⟩ := hne
  rw [State.timWrite, if_neg hctrl, if_neg hptp, if_neg hset, if_neg hclear, if_pos hrange]
  dsimp only
  rw [hunit, if_pos rfl]

theorem State.rowWrite_outCtrl {s : State} {p : Path} {u : Nat} {data : Word} (hu : u < 8)
    (h : s.admits p (Reg.TIM_OUT_CTRL u) data = true) : s.rowWrite p (Reg.TIM_OUT_CTRL u) data true = s.outCtrlWrite u data := by
  rw [State.rowWrite_tim h (by unfold Reg.TIM_OUT_CTRL; omega), s.timWrite_outCtrl hu]

theorem exec_pulseEnable {p : Path} {u : Nat} {data : Word} {s : State} (hu : u < 8) (h : s.admits p (Reg.TIM_OUT_CTRL u) data = true)
    (hdata : bitOf data 0 = true) : exec (.pulseEnable p u data) s = .next (s.outCtrlWrite u data) := by
  change execPulseEnable p u data s = _
  rw [execPulseEnable, hdata, decide_eq_true hu, Bool.and_self, State.rowWrite_outCtrl hu h]

/-- A unit that starts: its first edge, the count of its pulses, and a pulse of before still to end. -/
def State.unitStarted (s : State) (u : Nat) : State :=
  s.setPulse
    { unit := u
      next := s.edgeFrom u (if s.pulseMode u = 1 then s.now + usT else s.now + 1)
      left := (s.reg (Reg.TIM_OUT_COUNT u)).toNat % 2 ^ 24
      endAt := (s.pulse? u).bind (·.endAt) }

theorem State.outCtrlWrite_enable {s : State} {u : Nat} {data : Word} (hoff : s.bit (Reg.TIM_OUT_CTRL u) Fld.TIM_OUT_CTRL_ENABLE = false)
    (hdata : bitOf data 0 = true) : s.outCtrlWrite u data =
      if (s.unitWritten u data).pulseRefused u then (s.unitWritten u data).putBit (Reg.TIM_OUT_CTRL u) Fld.TIM_OUT_CTRL_ERR true
      else ((s.unitWritten u data).unitEnabled u).unitStarted u := by
  unfold State.outCtrlWrite
  dsimp only
  rw [if_neg (ne_true_of_eq_false hoff), hdata, Bool.not_true, if_neg Bool.false_ne_true]
  rfl

/-- A unit enabled with parameters that its mode allows runs from its first edge. -/
theorem exec_pulseEnable_of_allowed {p : Path} {u : Nat} {data : Word} {s : State} (hu : u < 8)
    (h : s.admits p (Reg.TIM_OUT_CTRL u) data = true) (hdata : bitOf data 0 = true)
    (hoff : s.bit (Reg.TIM_OUT_CTRL u) Fld.TIM_OUT_CTRL_ENABLE = false) (hfit : (s.unitWritten u data).pulseRefused u = false) :
    ∃ t x, exec (.pulseEnable p u data) s = .next t ∧ t.bit (Reg.TIM_OUT_CTRL u) Fld.TIM_OUT_CTRL_ENABLE = true ∧
      t.bit (Reg.TIM_OUT_CTRL u) Fld.TIM_OUT_CTRL_ERR = false ∧ t.pulse? u = some x ∧
      x.left = (s.reg (Reg.TIM_OUT_COUNT u)).toNat % 2 ^ 24 ∧
      x.next = ((s.unitWritten u data).unitEnabled u).edgeFrom u (if fieldOf data 1 2 = 1 then s.now + usT else s.now + 1) := by
  have hkeeps := (s.unitWritten_keeps hu data).enabled
  obtain ⟨henable, herr⟩ := (s.unitWritten u data).unitEnabled_bits u
  refine ⟨((s.unitWritten u data).unitEnabled u).unitStarted u, _, ?_, henable, herr, State.pulse?_setPulse _ _, ?_, ?_⟩
  · rw [exec_pulseEnable hu h hdata, State.outCtrlWrite_enable hoff hdata, hfit]
    rfl
  · rw [hkeeps.regCount]
  · rw [State.pulseMode_unitEnabled, s.pulseMode_unitWritten hu, hkeeps.now]

theorem State.edgeFrom_of_once {s : State} {u t : Nat} (hmode : s.pulseMode u = 0) (h : t ≤ s.pulseStart u) :
    s.edgeFrom u t = some (s.pulseStart u) := by
  rw [State.edgeFrom, hmode]
  exact if_pos h

/-! ### Edges (R180) -/

theorem exec_pulseDisable {p : Path} {u : Nat} {data : Word} {s : State} {x : Pulse} (hu : u < 8)
    (h : s.admits p (Reg.TIM_OUT_CTRL u) data = true) (hdata : bitOf data 0 = false)
    (hon : s.bit (Reg.TIM_OUT_CTRL u) Fld.TIM_OUT_CTRL_ENABLE = true) (hx : s.pulse? u = some x) :
    exec (.pulseDisable p u data) s =
      .next ((s.putBit (Reg.TIM_OUT_CTRL u) Fld.TIM_OUT_CTRL_ENABLE false).setPulse { x with next := none }) := by
  change execPulseDisable p u data s = _
  rw [execPulseDisable, hdata, decide_eq_true hu, Bool.not_false, Bool.and_self, State.rowWrite_outCtrl hu h, State.outCtrlWrite]
  dsimp only
  rw [if_pos hon, if_neg (ne_true_of_eq_false hdata)]
  have hx' : (s.putBit (Reg.TIM_OUT_CTRL u) Fld.TIM_OUT_CTRL_ENABLE false).pulse? u = some x := hx
  rw [hx']

theorem State.timeValid_tick (s : State) (t : Nat) : (s.tick t).timeValid = s.timeValid := rfl

/-- What a pin driven shows: its level by POLARITY, ACTIVE, and the other fields as before. -/
theorem State.drivePulse_spec (s : State) (u : Nat) (active : Bool) :
    (s.drivePulse u active).out = .timeOut u (active != s.bit (Reg.TIM_OUT_CTRL u) Fld.TIM_OUT_CTRL_POLARITY) :: s.out ∧
      (s.drivePulse u active).bit (Reg.TIM_OUT_CTRL u) Fld.TIM_OUT_CTRL_ACTIVE = active ∧
      (s.drivePulse u active).pulseMode u = s.pulseMode u ∧ (s.drivePulse u active).pulseWidth u = s.pulseWidth u := by
  refine ⟨?_, State.bit_putBit_same _ _ _ (by decide) (by decide), State.get_put_disjoint _ _ _ _ (.inl (by decide)), ?_⟩
  · have hpol : (s.putBit (Reg.TIM_OUT_CTRL u) Fld.TIM_OUT_CTRL_ACTIVE active).bit (Reg.TIM_OUT_CTRL u) Fld.TIM_OUT_CTRL_POLARITY =
        s.bit (Reg.TIM_OUT_CTRL u) Fld.TIM_OUT_CTRL_POLARITY := State.bit_put_disjoint _ _ _ _ (by decide) (.inl (by decide))
    unfold State.drivePulse
    dsimp only
    rw [hpol]
    rfl
  · have hx16 : (s.drivePulse u active).bit (Reg.TIM_OUT_CTRL u) Fld.TIM_OUT_CTRL_WIDTH_X16 =
        s.bit (Reg.TIM_OUT_CTRL u) Fld.TIM_OUT_CTRL_WIDTH_X16 := State.bit_put_disjoint _ _ _ _ (by decide) (.inr (by decide))
    have hkeeps : State.UnitKeeps u s (s.putBit (Reg.TIM_OUT_CTRL u) Fld.TIM_OUT_CTRL_ACTIVE active) := (State.UnitKeeps.refl u s).setReg _
    rw [State.pulseWidth, hx16, show (s.drivePulse u active).reg (Reg.TIM_OUT_WIDTH u) = _ from hkeeps.regWidth, State.pulseWidth]

theorem exec_pulseEnd {u e : Nat} {s : State} {x : Pulse} (hx : s.pulse? u = some x) (hend : x.endAt = some e) :
    exec (.pulseEnd u) s = .next (((s.tick e).drivePulse u false).setPulse { x with endAt := none }) := by
  change execPulseEnd u s = _
  unfold execPulseEnd
  rw [hx]
  dsimp only
  rw [hend]

/-- The edge that follows one at an instant; a ONCE unit has no other. -/
def State.edgeAfter (s : State) (u e : Nat) : Option Nat := if s.pulseMode u = 0 then none else s.edgeFrom u (e + 1)

/-- Whether an edge is skipped: REQUIRE_VALID without a valid time. -/
def State.edgeBarred (s : State) (u : Nat) : Bool := s.bit (Reg.TIM_OUT_CTRL u) Fld.TIM_OUT_CTRL_REQUIRE_VALID && !s.timeValid

theorem exec_pulseEdge_of_barred {u e : Nat} {s : State} {x : Pulse} (hx : s.pulse? u = some x) (hnext : x.next = some e)
    (h : s.edgeBarred u = true) : exec (.pulseEdge u) s =
      .next (((s.tick e).putBit (Reg.TIM_OUT_CTRL u) Fld.TIM_OUT_CTRL_MISSED true).setPulse { x with next := (s.tick e).edgeAfter u e }) := by
  change execPulseEdge u s = _
  unfold execPulseEdge
  rw [hx]
  dsimp only
  rw [hnext]
  dsimp only
  exact if_pos h

/-- An edge produced drives the pin; the last of a PERIODIC unit's COUNT ends its run. -/
theorem exec_pulseEdge_of_open {u e : Nat} {s : State} {x : Pulse} (hx : s.pulse? u = some x) (hnext : x.next = some e)
    (h : s.edgeBarred u = false) : exec (.pulseEdge u) s = .next
      (if s.pulseMode u = 1 ∧ x.left = 1 then
        (((s.tick e).drivePulse u true).putBit (Reg.TIM_OUT_CTRL u) Fld.TIM_OUT_CTRL_ENABLE false).setPulse
          { x with next := none, left := 0, endAt := some (e + s.pulseWidth u) }
      else ((s.tick e).drivePulse u true).setPulse
          { x with next := (s.tick e).edgeAfter u e, left := x.left - 1, endAt := some (e + s.pulseWidth u) }) := by
  obtain ⟨-, -, hmode, hwidth⟩ := (s.tick e).drivePulse_spec u true
  change execPulseEdge u s = _
  unfold execPulseEdge
  rw [hx]
  dsimp only
  rw [hnext]
  dsimp only
  refine (if_neg (ne_true_of_eq_false h)).trans ?_
  rw [hmode, hwidth]
  exact (apply_ite Host.Outcome.next _ _ _).symm

/-! ### Captures (R181) -/

theorem State.captures_setCaptures (s : State) (c : Nat) (l : List Capture) : (s.setCaptures c l).captures c = l := by
  simp [State.captures, State.setCaptures]

theorem State.captures_congr {s t : State} (h : t.tim.captures = s.tim.captures) (c : Nat) : t.captures c = s.captures c := by
  rw [State.captures, State.captures, h]

/-- A pin takes a level. -/
def State.pinLevel (s : State) (u level : Nat) : State := { s with tim := { s.tim with inLevel := tabSet s.tim.inLevel u level } }

/-- A capture unit stores an edge of an instant. -/
def State.captured (s : State) (u : Nat) (falling : Bool) (t : Nat) : State :=
  let s1 := s.setCaptures u (s.captures u ++
    [{ t := t / 8192 * 8192, falling := falling, epoch := s.get Reg.TIM_STATE Fld.TIM_STATE_EPOCH }])
  { s1 with tim := { s1.tim with lastEdge := tabSet s1.tim.lastEdge u t } }

/-- An edge that holds, at an enabled unit that selects it, is stored or counted lost. -/
theorem exec_captureEdge_of_edge {u t0 holds : Nat} {falling : Bool} {s : State} (hon : bitOf (s.reg (Reg.TIM_IN_CTRL u)) 0 = true)
    (hsel : bitOf (s.reg (Reg.TIM_IN_CTRL u)) (if falling then 2 else 1) = true) (hholds : 3 * nsT ≤ holds)
    (hlevel : tabGet s.tim.inLevel u ≠ (if falling then 1 else 2)) :
    exec (.captureEdge u falling ⟨t0, holds⟩) s =
      .next (if (tabGet s.tim.lastEdge u ≠ 0 ∧ t0 < tabGet s.tim.lastEdge u + 20 * nsT) ∨ 16 ≤ (s.captures u).length then
          ((s.tick t0).pinLevel u (if falling then 1 else 2)).bump (Reg.TIM_IN_OVF u) 1
        else ((s.tick t0).pinLevel u (if falling then 1 else 2)).captured u falling t0) := by
  have hedge : (decide (3 * nsT ≤ holds) && tabGet (s.tick t0).tim.inLevel u != (if falling then 1 else 2)) = true := by
    simpa [hholds] using hlevel
  change execCaptureEdge u falling ⟨t0, holds⟩ s = _
  unfold execCaptureEdge
  dsimp only
  rw [hedge, if_pos rfl]
  change (if (!true || !bitOf (s.reg (Reg.TIM_IN_CTRL u)) 0 || !bitOf (s.reg (Reg.TIM_IN_CTRL u)) (if falling then 2 else 1)) = true then _
    else if (tabGet s.tim.lastEdge u ≠ 0 ∧ t0 < tabGet s.tim.lastEdge u + 20 * nsT) ∨ 16 ≤ (s.captures u).length then _ else _) = _
  rw [hon, hsel, Bool.not_true, Bool.or_self, Bool.or_self, if_neg Bool.false_ne_true]
  split_ifs <;> rfl

/-- A pulse shorter than 3 ns leaves everything but the clock (R181). -/
theorem exec_captureEdge_of_short {u t0 holds : Nat} {falling : Bool} {s : State} (h : holds < 3 * nsT) :
    exec (.captureEdge u falling ⟨t0, holds⟩) s = .next (s.tick t0) := by
  change execCaptureEdge u falling ⟨t0, holds⟩ s = _
  unfold execCaptureEdge
  dsimp only
  rw [decide_eq_false (by omega : ¬ 3 * nsT ≤ holds), Bool.false_and]
  rfl

/-! ### Reads that latch or pop (R181, R182, R345) -/

/-- A read of a TIM register answers what the block computes for it. -/
theorem State.readOut_tim {s : State} {p : Path} {a v : Nat} (hopen : s.regPathOpen p = true) (hblock : a / 65536 = 9)
    (hanswers : s.blockAnswers a = true) (hnamed : named a = true) (hview : s.timView (latchKey p) a = some v) (hv : v < 2 ^ 32) :
    s.readOut p a = (s.afterRead p a).emit (.readData (leBytes 4 v)) := by
  have htrace : ¬ (Reg.SCH_TRACE_WIN ≤ a ∧ a < 0x30000 ∧ s.traceMoving = true) := by omega
  have hread : s.regRead p a = (v, s.afterRead p a) := by
    rw [State.regRead, hanswers, hnamed, Bool.not_true, Bool.or_self, if_neg Bool.false_ne_true, if_neg htrace, State.regView]
    simp only [hblock, hview, Option.getD_some, Nat.mod_eq_of_lt hv]
  rw [State.readOut, hopen, Bool.not_true, if_neg Bool.false_ne_true, hread]

theorem named_TIM_IN_FRAC : ∀ u < 8, named (Reg.TIM_IN_FRAC u) = true := by decide

theorem State.timView_frac (s : State) (p : Path) {u : Nat} (hu : u < 8) : s.timView p (Reg.TIM_IN_FRAC u) = some (s.captureView u 3) := by
  have haddr : Reg.TIM_IN_FRAC u = 0x90210 + 0x20 * u := by rw [Reg.TIM_IN_FRAC, Nat.mod_eq_of_lt hu]
  have hunit : (Reg.TIM_IN_FRAC u - Reg.TIM_IN_CTRL 0) / 0x20 = u := by
    rw [haddr, show Reg.TIM_IN_CTRL 0 = 0x90200 from rfl]
    omega
  have hword : (Reg.TIM_IN_FRAC u - Reg.TIM_IN_S_LO u) / 4 = 3 := by
    rw [haddr, Reg.TIM_IN_S_LO, Nat.mod_eq_of_lt hu]
    omega
  have hrange : inRange (Reg.TIM_IN_FRAC u) (Reg.TIM_IN_CTRL 0) (Reg.TIM_IN_OVF 7) = true := by
    rw [haddr, inRange, Bool.and_eq_true, decide_eq_true_eq, decide_eq_true_eq]
    unfold Reg.TIM_IN_CTRL Reg.TIM_IN_OVF
    omega
  have hne : Reg.TIM_IN_FRAC u ≠ Reg.TIM_IN_CTRL u ∧ Reg.TIM_IN_FRAC u ≠ Reg.TIM_IN_OVF u := by
    unfold Reg.TIM_IN_FRAC Reg.TIM_IN_CTRL Reg.TIM_IN_OVF
    omega
  have hnow : Reg.TIM_IN_FRAC u ≠ Reg.TIM_NOW_S_LO ∧ Reg.TIM_IN_FRAC u ≠ Reg.TIM_NOW_S_HI ∧ Reg.TIM_IN_FRAC u ≠ Reg.TIM_NOW_NS ∧
      Reg.TIM_IN_FRAC u ≠ Reg.TIM_NOW_FRAC ∧ Reg.TIM_IN_FRAC u ≠ Reg.TIM_STATE := by
    rw [haddr, Reg.TIM_NOW_S_LO, Reg.TIM_NOW_S_HI, Reg.TIM_NOW_NS, Reg.TIM_NOW_FRAC, Reg.TIM_STATE]
    omega
  obtain ⟨hctrl, hovf⟩ := hne
  obtain ⟨hlo, hhi, hns, hfrac, hstate⟩ := hnow
  rw [State.timView, if_neg hlo, if_neg hhi, if_neg hns, if_neg hfrac, if_neg hstate, if_pos hrange]
  dsimp only
  rw [hunit, if_neg hctrl, if_neg hovf, hword]

theorem State.captureView_frac (s : State) (u : Nat) : s.captureView u 3 = ((s.captures u).head?.map (fun x => x.t % 65536)).getD 0 := by
  rw [State.captureView]
  cases (s.captures u).head? <;> rfl

theorem State.afterRead_frac (s : State) (p : Path) {u : Nat} (hu : u < 8) : s.afterRead p (Reg.TIM_IN_FRAC u) = s.capturePop u := by
  have haddr : Reg.TIM_IN_FRAC u = 0x90210 + 0x20 * u := by rw [Reg.TIM_IN_FRAC, Nat.mod_eq_of_lt hu]
  have hunit : (Reg.TIM_IN_FRAC u - Reg.TIM_IN_FRAC 0) / 0x20 = u := by
    rw [haddr, show Reg.TIM_IN_FRAC 0 = 0x90210 from rfl]
    omega
  have hpops : inRange (Reg.TIM_IN_FRAC u) (Reg.TIM_IN_FRAC 0) (Reg.TIM_IN_FRAC 7) = true ∧
      (Reg.TIM_IN_FRAC u - Reg.TIM_IN_FRAC 0) % 0x20 = 0 := by
    rw [haddr, inRange, Bool.and_eq_true, decide_eq_true_eq, decide_eq_true_eq]
    unfold Reg.TIM_IN_FRAC
    omega
  have hne : Reg.TIM_IN_FRAC u ≠ Reg.TIM_NOW_S_LO ∧ Reg.TIM_IN_FRAC u ≠ Reg.UMB_RTC_S_LO ∧ Reg.TIM_IN_FRAC u ≠ Reg.MET_ENERGY_LO := by
    rw [haddr, Reg.TIM_NOW_S_LO, Reg.UMB_RTC_S_LO, Reg.MET_ENERGY_LO]
    omega
  obtain ⟨hnow, hrtc, henergy⟩ := hne
  rw [State.afterRead, if_neg hnow, if_neg hrtc, if_neg henergy, if_pos hpops, hunit]

theorem exec_capturePop {p : Path} {u : Nat} {s : State} (hu : u < 8) :
    exec (.capturePop p u) s = .next (s.readOut p (Reg.TIM_IN_FRAC u)) := by
  change execCapturePop p u s = _
  rw [execCapturePop, if_neg (by omega)]

theorem State.captureView_lt (s : State) (u : Nat) : ((s.captures u).head?.map (fun x => x.t % 65536)).getD 0 < 2 ^ 32 := by
  cases (s.captures u).head? with
  | none => decide
  | some x => exact (Nat.mod_lt x.t (by decide)).trans (by decide)

theorem State.captures_capturePop (s : State) (u : Nat) : (s.capturePop u).captures u = (s.captures u).tail := s.captures_setCaptures u _

theorem State.timView_now (s : State) (p : Path) : s.timView p Reg.TIM_NOW_S_LO = some (s.now / secT % 2 ^ 32) := rfl

theorem State.afterRead_now (s : State) (p : Path) : s.afterRead p Reg.TIM_NOW_S_LO = s.latchTime (latchKey p) := by
  rw [State.afterRead, if_pos rfl]

theorem State.timeLatched_latchTime (s : State) (p : Path) : (s.latchTime p).timeLatched p = s.now := by
  simp [State.timeLatched, State.latchTime]

theorem exec_timCntClear {p : Path} {s : State} (h : s.admits p Reg.TIM_CNT_CLEAR 1 = true) :
    exec (.timCntClear p) s = .next (s.resetRegs timCounter) :=
  congrArg Host.Outcome.next ((State.rowWrite_tim h (by decide)).trans rfl)

/-! ### The statement -/

/-- Settles O21: an enable by what its mode allows, an edge of a pulse by what it drives and puts back in the unit's store, an edge of a pin by
whether it holds and whether the store takes it, and a read by what it answers and latches. -/
theorem pulsesAndCaptures : Obligations.PulsesAndCaptures := by
  refine ⟨fun p u data s hu h hdata hoff hmode hwidth hstart => ?once, fun p u data s hu h hdata hoff hmode hwidth hperiod => ?periodic,
    fun p u data s tl hu h hdata hoff hmode hwidth htl hperiod hoffset hphase => ?frame,
    fun p u data s hu h hdata hoff hmode => ?reserved, fun p u data s x hu h hdata hon hx => ?disable,
    fun u e s x hx hnext hvalid => ?edge, fun u e s x hx hnext hrequire hvalid => ?missed, fun u e s x hx hend => ?ends,
    fun u t0 holds falling s hon hsel hholds hlevel hlast hroom => ?captured,
    fun u t0 holds falling s hon hsel hholds hlevel hfull => ?lost, fun u t0 holds falling s hshort => ?short,
    fun p u s hu hopen hanswers => ?pop, fun p s hopen hanswers => ?latch, fun p s h => ?clear⟩
  case once =>
    obtain ⟨t, x, hexec, henable, herr, hpulse, -, hx⟩ :=
      exec_pulseEnable_of_allowed hu h hdata hoff (State.pulseRefused_once hu hmode hwidth hstart)
    have hkeeps := (s.unitWritten_keeps hu data).enabled
    refine ⟨t, hexec, henable, herr, ?_⟩
    have hmode' := ((s.unitWritten u data).pulseMode_unitEnabled u).trans ((s.pulseMode_unitWritten hu data).trans hmode)
    have hus : 0 < usT := by decide
    rw [hpulse, Option.bind_some, hx, if_neg (by omega), State.edgeFrom_of_once hmode' (by rw [hkeeps.start]; omega), hkeeps.start]
  case periodic =>
    obtain ⟨t, x, hexec, henable, -, hpulse, hleft, hx⟩ :=
      exec_pulseEnable_of_allowed hu h hdata hoff (State.pulseRefused_periodic hu hmode hwidth hperiod)
    have hkeeps := (s.unitWritten_keeps hu data).enabled
    refine ⟨t, hexec, henable, ?_, by rw [hpulse, Option.map_some, hleft]⟩
    rw [hpulse, Option.bind_some, hx, State.edgeFrom, State.pulseMode_unitEnabled, s.pulseMode_unitWritten hu, hmode, hkeeps.start,
      hkeeps.period]
    rfl
  case frame =>
    obtain ⟨t, x, hexec, henable, -, hpulse, -, hx⟩ :=
      exec_pulseEnable_of_allowed hu h hdata hoff (State.pulseRefused_frame hu hmode hwidth htl hperiod hoffset hphase)
    have hkeeps := (s.unitWritten_keeps hu data).enabled
    refine ⟨t, hexec, henable, ?_⟩
    rw [hpulse, Option.bind_some, hx, State.edgeFrom, State.pulseMode_unitEnabled, s.pulseMode_unitWritten hu, hmode, hkeeps.timeline, htl,
      hkeeps.offset, hkeeps.regPer]
    rfl
  case reserved =>
    refine ⟨_, exec_pulseEnable hu h hdata, ?_⟩
    rw [State.outCtrlWrite_enable hoff hdata, if_pos (State.pulseRefused_reserved hu hmode)]
    refine ⟨?_, State.bit_putBit_same _ _ _ (by decide) (by decide), (s.unitWritten_keeps hu data).tim⟩
    exact (State.bit_put_disjoint _ _ _ _ (by decide) (.inl (by decide))).trans (State.bit_putBit_same _ _ _ (by decide) (by decide))
  case disable =>
    refine ⟨_, exec_pulseDisable hu h hdata hon hx, s.bit_putBit_same _ false (by decide) (by decide), ?_⟩
    exact State.pulse?_setPulse_of hx rfl
  case edge =>
    have hopen : s.edgeBarred u = false := by
      rw [State.edgeBarred]
      cases hr : s.bit (Reg.TIM_OUT_CTRL u) Fld.TIM_OUT_CTRL_REQUIRE_VALID with
      | false => rfl
      | true => rw [hvalid hr]; rfl
    obtain ⟨hout, hactive, -, -⟩ := (s.tick e).drivePulse_spec u true
    rw [Bool.true_bne] at hout
    refine ⟨_, exec_pulseEdge_of_open hx hnext hopen, ?_⟩
    split_ifs with hlast
    · rw [State.pulse?_setPulse_of hx, State.bit_setPulse, State.bit_setPulse]
      · refine ⟨(State.bit_put_disjoint _ _ _ _ (by decide) (.inr (by decide))).trans hactive, hout, rfl, fun _ _ => ?_⟩
        exact State.bit_putBit_same _ _ _ (by decide) (by decide)
      · rfl
    · rw [State.pulse?_setPulse_of hx]
      · exact ⟨hactive, hout, rfl, fun hm hl => absurd ⟨hm, hl⟩ hlast⟩
      · rfl
  case missed =>
    have hbarred : s.edgeBarred u = true := by
      rw [State.edgeBarred, hrequire, hvalid]
      rfl
    refine ⟨_, exec_pulseEdge_of_barred hx hnext hbarred, rfl, (s.tick e).bit_putBit_same _ true (by decide) (by decide), ?_⟩
    rw [State.pulse?_setPulse_of hx]
    · rfl
    · rfl
  case ends =>
    obtain ⟨hout, hactive, -, -⟩ := (s.tick e).drivePulse_spec u false
    exact ⟨_, exec_pulseEnd hx hend, hactive, hout.trans (by rw [Bool.false_bne]; rfl), State.pulse?_setPulse_of hx rfl⟩
  case captured =>
    refine ⟨_, exec_captureEdge_of_edge hon hsel hholds hlevel, ?_⟩
    rw [if_neg (by omega)]
    exact ⟨rfl, (State.captures_congr rfl u).trans (State.captures_setCaptures _ u _)⟩
  case lost =>
    refine ⟨_, exec_captureEdge_of_edge hon hsel hholds hlevel, ?_⟩
    rw [if_pos (by omega)]
    exact ⟨rfl, (State.reg_bump _ _ _ _).trans (if_pos rfl)⟩
  case short => exact ⟨_, exec_captureEdge_of_short hshort, rfl, rfl⟩
  case pop =>
    have hview := (s.timView_frac (latchKey p) hu).trans (congrArg some (s.captureView_frac u))
    have hread := State.readOut_tim hopen (by unfold Reg.TIM_IN_FRAC; omega) hanswers (named_TIM_IN_FRAC u hu) hview (s.captureView_lt u)
    rw [s.afterRead_frac p hu] at hread
    exact ⟨_, (exec_capturePop hu).trans (congrArg Host.Outcome.next hread), rfl, s.captures_capturePop u⟩
  case latch =>
    have hread := State.readOut_tim hopen (by decide) hanswers (by decide) (s.timView_now (latchKey p)) (Nat.mod_lt _ (by decide))
    rw [s.afterRead_now] at hread
    exact ⟨_, congrArg Host.Outcome.next hread, rfl, s.timeLatched_latchTime _⟩
  case clear => exact ⟨_, exec_timCntClear h, fun a => s.reg_resetRegs _ a⟩

end Sys2Proof.Machine
end

section
/-! PTP at a sender (R169 to R171, R176, R177): the parent, the messages of its exchange, and the step of AUTO_STEP. -/
namespace Sys2Proof.Machine

/-! ### The parent (R170) -/

theorem ptpPort_congr {s t : State} (hgen : t.gen = s.gen) (hcfg : t.reg Reg.TIM_PTP_CFG = s.reg Reg.TIM_PTP_CFG)
    (hport : ∀ p, t.reg (Reg.ING_PORT_CFG p) = s.reg (Reg.ING_PORT_CFG p)) (q : Nat) : t.ptpPort q = s.ptpPort q := by
  have hmode (p : Nat) : t.portMode p = s.portMode p := congrArg (fieldOf · _ _) (hport p)
  rw [State.ptpPort, State.ptpPort, State.isSender, State.isSender, State.role?, State.role?, hgen, hcfg, State.portHas, State.portHas,
    hmode]

theorem parent?_congr {s t : State} (hmasters : t.tim.masters = s.tim.masters) (hgen : t.gen = s.gen)
    (hcfg : t.reg Reg.TIM_PTP_CFG = s.reg Reg.TIM_PTP_CFG) (hport : ∀ p, t.reg (Reg.ING_PORT_CFG p) = s.reg (Reg.ING_PORT_CFG p)) :
    t.parent? = s.parent? := by
  simp only [State.parent?, State.get, hmasters, hcfg, ptpPort_congr hgen hcfg hport]

/-- The registers of a parent. -/
def State.showParent (s : State) (m : Master) : State :=
  ((((s.setNum Reg.TIM_PTP_STAT (m.port % 16 + 16 + m.steps % 256 * 256 + m.utc % 65536 * 65536)).setNum Reg.TIM_PTP_GM_HI
    (m.gm / 2 ^ 32)).setNum Reg.TIM_PTP_GM_LO m.gm).put Reg.TIM_STATE Fld.TIM_STATE_SOURCE 1)

/-- The registers without a parent. -/
def State.showOrphan (s : State) : State := (s.putBit Reg.TIM_PTP_STAT ⟨4, 1⟩ false).put Reg.TIM_STATE Fld.TIM_STATE_SOURCE 0

theorem State.followParent_of_parent {s : State} {m : Master} (h : s.parent? = some m) : s.followParent =
    if (s.showParent m).timeState = 0 ∨ (s.showParent m).timeState = 3 ∨ (s.showParent m).timeState = 4 then (s.showParent m).setTime 1
    else s.showParent m := by
  rw [State.followParent, h]
  rfl

theorem State.followParent_of_orphan {s : State} (h : s.parent? = none) : s.followParent =
    if s.showOrphan.timeState = 1 then s.showOrphan.setTime 0 else if s.showOrphan.timeState = 2 then s.showOrphan.setTime 3
    else s.showOrphan := by
  rw [State.followParent, h]
  rfl

theorem State.timeState_showParent (s : State) (m : Master) : (s.showParent m).timeState = s.timeState := by
  refine (State.get_put_disjoint _ _ _ _ (.inl (by decide))).trans ?_
  rw [State.get, State.reg_setNum, if_neg (by decide), State.reg_setNum, if_neg (by decide), State.reg_setNum, if_neg (by decide)]
  rfl

theorem State.timeState_showOrphan (s : State) : s.showOrphan.timeState = s.timeState :=
  (State.get_put_disjoint _ _ _ _ (.inl (by decide))).trans (s.get_put_other (by decide) _ _ _)

/-- What following the parent leaves: the image, the clock but its servo, and every register but those of the parent and of the state. -/
structure State.ParentKeeps (s t : State) : Prop where
  gen : t.gen = s.gen
  masters : t.tim.masters = s.tim.masters
  regs : ∀ b, (b < 0x90010 ∨ 0x9004C < b ∨ b = Reg.TIM_PTP_CFG) → b ≠ Reg.FLK_STATE → t.reg b = s.reg b

theorem State.ParentKeeps.setTime {s t : State} (h : s.ParentKeeps t) (code : Nat) : s.ParentKeeps (t.setTime code) := by
  have hservo := t.setTime_servoKeeps code
  refine ⟨hservo.gen.trans h.gen, ?_, fun b hb hf => (t.reg_setTime code ?_ hf.symm).trans (h.regs b hb hf)⟩
  · rw [hservo.tim]
    exact h.masters
  · unfold Reg.TIM_STATE
    unfold Reg.TIM_PTP_CFG at hb
    omega

theorem State.showParent_parentKeeps (s : State) (m : Master) : s.ParentKeeps (s.showParent m) := by
  refine ⟨rfl, rfl, fun b hb _ => ?_⟩
  unfold Reg.TIM_PTP_CFG at hb
  have hne : Reg.TIM_STATE ≠ b ∧ Reg.TIM_PTP_GM_LO ≠ b ∧ Reg.TIM_PTP_GM_HI ≠ b ∧ Reg.TIM_PTP_STAT ≠ b := by
    unfold Reg.TIM_STATE Reg.TIM_PTP_GM_LO Reg.TIM_PTP_GM_HI Reg.TIM_PTP_STAT
    omega
  obtain ⟨hstate, hlo, hhi, hstat⟩ := hne
  rw [State.showParent, State.reg_put, if_neg hstate, State.reg_setNum, if_neg hlo, State.reg_setNum, if_neg hhi, State.reg_setNum,
    if_neg hstat]

theorem State.showOrphan_parentKeeps (s : State) : s.ParentKeeps s.showOrphan := by
  refine ⟨rfl, rfl, fun b hb _ => ?_⟩
  unfold Reg.TIM_PTP_CFG at hb
  have hne : Reg.TIM_STATE ≠ b ∧ Reg.TIM_PTP_STAT ≠ b := by
    unfold Reg.TIM_STATE Reg.TIM_PTP_STAT
    omega
  obtain ⟨hstate, hstat⟩ := hne
  rw [State.showOrphan, State.reg_put, if_neg hstate, State.reg_putBit, if_neg hstat]

theorem State.followParent_parentKeeps (s : State) : s.ParentKeeps s.followParent := by
  cases h : s.parent? with
  | none =>
    rw [State.followParent_of_orphan h]
    split_ifs
    · exact s.showOrphan_parentKeeps.setTime 0
    · exact s.showOrphan_parentKeeps.setTime 3
    · exact s.showOrphan_parentKeeps
  | some m =>
    rw [State.followParent_of_parent h]
    split_ifs
    · exact (s.showParent_parentKeeps m).setTime 1
    · exact s.showParent_parentKeeps m

/-- Following the parent does not change it. -/
theorem State.parent?_followParent (s : State) : s.followParent.parent? = s.parent? := by
  have hkeeps := s.followParent_parentKeeps
  refine parent?_congr hkeeps.masters hkeeps.gen (hkeeps.regs _ (.inr (.inr rfl)) (by decide)) fun p => hkeeps.regs _ (.inl ?_) ?_
  · unfold Reg.ING_PORT_CFG
    omega
  · unfold Reg.ING_PORT_CFG Reg.FLK_STATE
    omega

/-- The parent shows in the registers, and FREE becomes ACQUIRING (R170, R177). -/
theorem State.followParent_shows {s : State} {m : Master} (h : s.parent? = some m) :
    s.followParent.reg Reg.TIM_PTP_GM_LO = word m.gm ∧ s.followParent.reg Reg.TIM_PTP_GM_HI = word (m.gm / 2 ^ 32) ∧
      s.followParent.get Reg.TIM_STATE Fld.TIM_STATE_SOURCE = 1 ∧ (s.timeState = 0 → s.followParent.timeState = 1) := by
  have hlo : (s.showParent m).reg Reg.TIM_PTP_GM_LO = word m.gm := by
    rw [State.showParent, State.reg_put, if_neg (by decide), State.reg_setNum, if_pos rfl, word]
  have hhi : (s.showParent m).reg Reg.TIM_PTP_GM_HI = word (m.gm / 2 ^ 32) := by
    rw [State.showParent, State.reg_put, if_neg (by decide), State.reg_setNum, if_neg (by decide), State.reg_setNum, if_pos rfl, word]
  have hsource : (s.showParent m).get Reg.TIM_STATE Fld.TIM_STATE_SOURCE = 1 := State.get_put_same _ _ _ _ (by decide)
  have hservo := (s.showParent m).setTime_servoKeeps 1
  rw [State.followParent_of_parent h, s.timeState_showParent]
  split_ifs with hstate
  · exact ⟨(State.reg_setTime _ _ (by decide) (by decide)).trans hlo, (State.reg_setTime _ _ (by decide) (by decide)).trans hhi,
      (hservo.fields _ (by unfold servoFree; decide)).trans hsource, fun _ => State.timeState_setTime _ (by decide)⟩
  · exact ⟨hlo, hhi, hsource, fun hfree => absurd (Or.inl hfree) hstate⟩

/-- With every parent lost, LOCKED becomes HOLDOVER and ACQUIRING FREE (R177). -/
theorem State.followParent_orphan {s : State} (h : s.parent? = none) :
    s.followParent.get Reg.TIM_STATE Fld.TIM_STATE_SOURCE = 0 ∧
      (s.timeState = 2 → s.followParent.timeState = 3 ∧ s.followParent.bit Reg.TIM_STATE Fld.TIM_STATE_LOCK_LOST = true) ∧
      (s.timeState = 1 → s.followParent.timeState = 0 ∧ s.followParent.tim.yp = 0) := by
  have hsource : s.showOrphan.get Reg.TIM_STATE Fld.TIM_STATE_SOURCE = 0 := State.get_put_same _ _ _ _ (by decide)
  have hkept := s.timeState_showOrphan
  have hfree : servoFree Fld.TIM_STATE_SOURCE := by unfold servoFree; decide
  rw [State.followParent_of_orphan h, hkept]
  split_ifs with hacq hlock
  · have hne : s.showOrphan.timeState ≠ 0 := by omega
    refine ⟨((State.setTime_servoKeeps _ 0).fields _ hfree).trans hsource, fun hl => by omega, fun _ =>
      ⟨State.timeState_setTime _ (by decide), ?_⟩⟩
    rw [State.tim_setTime hne]
    rfl
  · exact ⟨((State.setTime_servoKeeps _ 3).fields _ hfree).trans hsource,
      fun _ => ⟨State.timeState_setTime _ (by decide), State.lockLost_setTime (hkept.trans hlock) (by decide)⟩, fun ha => by omega⟩
  · exact ⟨hsource, fun hl => absurd hl hlock, fun ha => absurd ha hacq⟩

/-! ### Messages (R169 to R171) -/

/-- A message of a PTP port has come. -/
def State.ptpArrive (s : State) (port t : Nat) : State := (s.tick t).takeControl (port / 4)

theorem State.ptpPort_arrive (s : State) (port t q : Nat) : (s.ptpArrive port t).ptpPort q = s.ptpPort q := rfl

theorem State.ptpFromParent_arrive (s : State) (port t : Nat) (m : PtpMsg) : (s.ptpArrive port t).ptpFromParent m = s.ptpFromParent m := rfl

theorem exec_sync_excluded {m : PtpMsg} {s : State} (hport : s.ptpPort m.port = true) (h : syncExcluded m = true) :
    exec (.sync m) s = .next (s.ptpArrive m.port m.t).ptpDiscard := by
  change execSync m s = _
  unfold execSync
  dsimp only
  rw [← State.ptpArrive, s.ptpPort_arrive, hport, Bool.not_true, if_neg Bool.false_ne_true, if_pos h]

/-- The exchange that a Sync opens (R171). -/
def openedExchange (m : PtpMsg) : Exchange where
  port := m.port
  syncSeq := m.seq
  t1 := if m.twoStep then none else some (m.stamp : Int)
  syncCorr := m.correction
  t2 := (m.t : Int)
  reqSeq := none
  t3 := 0

/-- A Sync of the parent is counted, opens its exchange and gives the interval of the next. -/
def State.syncTaken (s : State) (m : PtpMsg) : State :=
  let s2 := (s.setExchange (openedExchange m)).bump Reg.TIM_PTP_RX 1
  { s2 with tim := { s2.tim with syncLog := m.logInterval } }

theorem exec_sync_of_parent {m : PtpMsg} {s : State} (hport : s.ptpPort m.port = true) (h : syncExcluded m = false)
    (hparent : s.ptpFromParent m = true) : exec (.sync m) s = .next ((s.ptpArrive m.port m.t).syncTaken m) := by
  change execSync m s = _
  unfold execSync
  dsimp only
  rw [← State.ptpArrive, s.ptpPort_arrive, hport, Bool.not_true, if_neg Bool.false_ne_true, if_neg (ne_true_of_eq_false h),
    s.ptpFromParent_arrive, hparent, Bool.not_true, if_neg Bool.false_ne_true]
  rfl

theorem State.syncTaken_shows (s : State) (m : PtpMsg) : (s.syncTaken m).reg Reg.TIM_PTP_RX = satAdd (s.reg Reg.TIM_PTP_RX) 1 ∧
    (s.syncTaken m).tim.exchanges.head? = some (openedExchange m) ∧ (s.syncTaken m).tim.syncLog = m.logInterval :=
  ⟨((s.setExchange (openedExchange m)).reg_bump Reg.TIM_PTP_RX 1 _).trans (if_pos rfl), rfl, rfl⟩

theorem State.reg_ptpDiscard (s : State) : s.ptpDiscard.reg Reg.TIM_PTP_DISCARD = satAdd (s.reg Reg.TIM_PTP_DISCARD) 1 :=
  (s.reg_bump _ _ _).trans (if_pos rfl)

theorem exec_followUp_excluded {m : PtpMsg} {s : State} (hport : s.ptpPort m.port = true) (h : ptpExcluded m.options = true) :
    exec (.followUp m) s = .next (s.ptpArrive m.port m.t).ptpDiscard := by
  change execFollowUp m s = _
  unfold execFollowUp
  dsimp only
  rw [← State.ptpArrive, s.ptpPort_arrive, hport, Bool.not_true, if_neg Bool.false_ne_true, if_pos h]

theorem exec_followUp_of_parent {m : PtpMsg} {s : State} {x : Exchange} (hport : s.ptpPort m.port = true)
    (h : ptpExcluded m.options = false) (hparent : s.ptpFromParent m = true)
    (hx : s.tim.exchanges.find? (fun y => y.port == m.port && y.syncSeq == m.seq && y.t1.isNone) = some x) :
    exec (.followUp m) s = .next ((s.ptpArrive m.port m.t).setExchange
      { x with t1 := some (m.stamp : Int), syncCorr := x.syncCorr + m.correction }) := by
  change execFollowUp m s = _
  unfold execFollowUp
  dsimp only
  rw [← State.ptpArrive, s.ptpPort_arrive, hport, Bool.not_true, if_neg Bool.false_ne_true, if_neg (ne_true_of_eq_false h),
    show (s.ptpArrive m.port m.t).tim.exchanges.find? _ = some x from hx]
  exact if_pos hparent

theorem exec_delayResp_excluded {m : PtpMsg} {s : State} (hport : s.ptpPort m.port = true) (h : ptpExcluded m.options = true) :
    exec (.delayResp m) s = .next (s.ptpArrive m.port m.t).ptpDiscard := by
  change execDelayResp m s = _
  unfold execDelayResp
  dsimp only
  rw [← State.ptpArrive, s.ptpPort_arrive, hport, Bool.not_true, if_neg Bool.false_ne_true, if_pos h]

theorem exec_delayReq_of_parent {port seq t0 : Nat} {s : State} {x : Exchange} (hip : s.reg Reg.ING_MGMT_IP ≠ 0)
    (hport : s.ptpPort port = true) (hparent : s.parent?.any (fun p => p.port == port) = true)
    (hx : s.tim.exchanges.find? (fun y => y.port == port) = some x) :
    exec (.delayReq port seq t0) s =
      .next (((s.tick t0).emit (.delayReq port seq (s.bit Reg.TIM_PTP_CFG Fld.TIM_PTP_CFG_UNICAST_DREQ))).setExchange
        { x with reqSeq := some seq, t3 := (t0 : Int) }) := by
  have hopen : ¬ (s.reg Reg.ING_MGMT_IP = 0 ∨ (!s.ptpPort port) = true ∨ (!s.parent?.any (fun p => p.port == port)) = true) := by
    rw [hport, hparent]
    simpa using hip
  change execDelayReq port seq t0 s = _
  unfold execDelayReq
  refine (if_neg hopen).trans ?_
  dsimp only
  rw [show ((s.tick t0).emit _).tim.exchanges.find? _ = some x from hx]
  rfl

theorem exec_delayReq_barred {port seq t0 : Nat} {s : State}
    (h : s.reg Reg.ING_MGMT_IP = 0 ∨ s.ptpPort port = false ∨ s.parent?.any (fun p => p.port == port) = false) :
    exec (.delayReq port seq t0) s = .next (s.tick t0) := by
  have hbarred : s.reg Reg.ING_MGMT_IP = 0 ∨ (!s.ptpPort port) = true ∨ (!s.parent?.any (fun p => p.port == port)) = true := by
    rwa [Bool.not_eq_true', Bool.not_eq_true']
  change execDelayReq port seq t0 s = _
  exact if_pos hbarred

theorem exec_ptpAnnounce_excluded {a : PtpAnnounce} {s : State} (hport : s.ptpPort a.port = true) (h : ptpExcluded a.options = true) :
    exec (.ptpAnnounce a) s = .next (s.ptpArrive a.port a.t).ptpDiscard := by
  change execPtpAnnounce a s = _
  unfold execPtpAnnounce
  dsimp only
  rw [← State.ptpArrive, s.ptpPort_arrive, hport, Bool.not_true, if_neg Bool.false_ne_true, if_pos h]

/-- A master as its Announce gives it: qualified by its second within four intervals (R170, log entry 86). -/
def State.heardMaster (s : State) (a : PtpAnnounce) : Master where
  domain := a.domain
  port := a.port
  source := a.source
  priority1 := a.priority1
  quality := a.quality
  priority2 := a.priority2
  gm := a.gm
  steps := a.steps
  utc := a.utc
  lastAt := a.t
  interval := ptpInterval a.logInterval
  qualified := decide (a.steps < 255) &&
    (s.tim.masters.find? (fun m => m.domain == a.domain && m.port == a.port && m.source == a.source)).any
      (fun m => m.qualified || decide (a.t ≤ m.lastAt + 4 * m.interval))

/-- The masters with this one noted last. -/
def State.mastersHeard (s : State) (a : PtpAnnounce) : List Master :=
  s.tim.masters.filter (fun x => !(x.domain == a.domain && x.port == a.port && x.source == a.source)) ++ [s.heardMaster a]

def State.noteMaster (s : State) (a : PtpAnnounce) : State := { s with tim := { s.tim with masters := s.mastersHeard a } }

theorem exec_ptpAnnounce {a : PtpAnnounce} {s : State} (hport : s.ptpPort a.port = true) (h : ptpExcluded a.options = false)
    (hdomain : a.domain = s.get Reg.TIM_PTP_CFG Fld.TIM_PTP_CFG_DOMAIN) :
    exec (.ptpAnnounce a) s = .next ((s.ptpArrive a.port a.t).noteMaster a).followParent := by
  change execPtpAnnounce a s = _
  unfold execPtpAnnounce
  dsimp only
  rw [← State.ptpArrive, s.ptpPort_arrive, hport, Bool.not_true, if_neg Bool.false_ne_true, if_neg (ne_true_of_eq_false h)]
  exact if_neg (not_not_intro hdomain)

/-- The masters that are not silent for announceReceiptTimeout intervals at an instant. -/
def State.liveMasters (s : State) (t : Nat) : List Master :=
  s.tim.masters.filter (fun m => decide (t < m.lastAt + s.get Reg.TIM_PTP_CFG Fld.TIM_PTP_CFG_ANN_TIMEOUT * m.interval))

theorem exec_announceReceiptTimeout {t0 : Nat} {s : State} (h : s.isSender = true) : exec (.announceReceiptTimeout t0) s =
    .next (State.followParent { s.tick t0 with tim := { (s.tick t0).tim with masters := s.liveMasters t0 } }) :=
  if_neg (by rw [State.isSender_tick, h, Bool.not_true]; exact Bool.false_ne_true)

theorem parent?_of_no_masters {s : State} (h : s.tim.masters = []) : s.parent? = none := by
  rw [State.parent?, h]
  rfl

/-! ### A new offset at a sender (R171, R176) -/

/-- What AUTO_STEP asks of the state at the first e. -/
def State.autoSteps (s : State) : Bool :=
  s.bit Reg.TIM_CTRL Fld.TIM_CTRL_AUTO_STEP && decide (s.lockState < 3) && s.tim.step.isNone && !s.formedMirror

/-- AUTO_STEP changes the step, the lock state and the link's output alone. -/
theorem State.autoStep_spec (s : State) (first : Bool) : (s.autoStep first).tim.e = s.tim.e ∧ (s.autoStep first).tim.offsets = s.tim.offsets ∧
    (∀ b, b ≠ Reg.FLK_STATE → (s.autoStep first).reg b = s.reg b) ∧ (first = true → s.autoSteps = true →
      (s.autoStep first).tim.step = some ((s.now / usT + 1) * usT, (((s.now / usT + 1) * usT : Nat) : Int) + s.tim.e.getD 0)) := by
  unfold State.autoStep
  split_ifs with h
  · extract_lets b x s1 s2
    have hs2 : s2.tim = s1.tim ∧ ∀ b, b ≠ Reg.FLK_STATE → s2.reg b = s1.reg b := by
      unfold s2
      split_ifs
      · exact ⟨rfl, fun c hc => (s1.reg_put _ _ _ c).trans (if_neg hc.symm)⟩
      · exact ⟨rfl, fun _ _ => rfl⟩
    obtain ⟨htim, hregs⟩ := hs2
    have hs3 : s2.tim.e = s.tim.e ∧ s2.tim.offsets = s.tim.offsets ∧ (∀ b, b ≠ Reg.FLK_STATE → s2.reg b = s.reg b) ∧
        s2.tim.step = some (b, (b : Int) + s.tim.e.getD 0) := by
      rw [htim]
      exact ⟨rfl, rfl, hregs, rfl⟩
    obtain ⟨he, hoffsets, hreg, hstep⟩ := hs3
    split_ifs
    · rw [State.sendLink_rest]
      exact ⟨he, hoffsets, hreg, fun _ _ => hstep⟩
    · exact ⟨he, hoffsets, hreg, fun _ _ => hstep⟩
  · refine ⟨rfl, rfl, fun _ _ => rfl, fun hfirst hasks => absurd ?_ h⟩
    rwa [hfirst, Bool.true_and]

/-- The end of an exchange: the mean path delay, and the last 8 offsets. -/
def State.exchangeDone (s : State) (x : Exchange) (mpd : Int) (l : List (Int × Int)) : State :=
  let s2 := (s.setExchange { x with reqSeq := none }).setNum Reg.TIM_PTP_MPD (codeOf 32 (satSigned 32 (mpd / 4096)))
  { s2 with tim := { s2.tim with offsets := l } }

/-- The mean path delay and the offset that an exchange gives (R171). -/
def State.exchangeOffset (s : State) (m : PtpMsg) (x : Exchange) (t1 : Int) : Int × Int :=
  let fwd := x.t2 - t1 - x.syncCorr
  let mpd := (fwd + ((m.stamp : Int) - m.correction - x.t3)) / 2
  (mpd + s.asymEth m.port - fwd, mpd)

/-- The lock threshold LOCK_NS. -/
def State.lockLimit (s : State) : Nat := s.get Reg.TIM_CTRL Fld.TIM_CTRL_LOCK_NS * nsT

/-- The clock follows the filtered offsets, if any. -/
def State.followOffsets (s : State) (l : List (Int × Int)) (t : Nat) : State :=
  match filteredOffset l with
  | none => s
  | some e => (s.newOffset e t s.lockLimit (4 * s.lockLimit)).autoStep (!s.tim.started)

theorem next_followOffsets (s : State) (l : List (Int × Int)) (t : Nat) :
    (.next (s.followOffsets l t) : Host.Outcome State Fault Refusal) = match filteredOffset l with
      | none => .next s
      | some e => .next ((s.newOffset e t s.lockLimit (4 * s.lockLimit)).autoStep (!s.tim.started)) := by
  unfold State.followOffsets
  cases filteredOffset l <;> rfl

theorem exec_delayResp_of_parent {m : PtpMsg} {s : State} {x : Exchange} {t1 : Int} (hport : s.ptpPort m.port = true)
    (h : ptpExcluded m.options = false) (hparent : s.ptpFromParent m = true)
    (hx : s.tim.exchanges.find? (fun y => y.port == m.port && y.reqSeq == some m.seq) = some x) (ht1 : x.t1 = some t1) :
    exec (.delayResp m) s = .next (((s.ptpArrive m.port m.t).exchangeDone x (s.exchangeOffset m x t1).2
      ((s.exchangeOffset m x t1 :: s.tim.offsets).take 8)).followOffsets ((s.exchangeOffset m x t1 :: s.tim.offsets).take 8) m.t) := by
  cases x with
  | mk port syncSeq t1' syncCorr t2 reqSeq t3 =>
  cases show t1' = some t1 from ht1
  change execDelayResp m s = _
  unfold execDelayResp
  dsimp only
  rw [← State.ptpArrive, s.ptpPort_arrive, hport, Bool.not_true, if_neg Bool.false_ne_true, if_neg (ne_true_of_eq_false h),
    show (s.ptpArrive m.port m.t).tim.exchanges.find? _ = some _ from hx, s.ptpFromParent_arrive, hparent]
  exact (next_followOffsets _ _ m.t).symm

/-- The registers of an exchange that is done: the mean path delay alone. -/
theorem State.reg_exchangeDone (s : State) (x : Exchange) (mpd : Int) (l : List (Int × Int)) (b : Nat) :
    (s.exchangeDone x mpd l).reg b = if Reg.TIM_PTP_MPD = b then word (codeOf 32 (satSigned 32 (mpd / 4096))) else s.reg b :=
  (s.setExchange { x with reqSeq := none }).reg_setNum _ _ b

theorem filteredOffset_of_lt {l : List (Int × Int)} (h : l.length < 8) : filteredOffset l = none := if_pos h

theorem State.followOffsets_of_none {l : List (Int × Int)} (h : filteredOffset l = none) (s : State) (t : Nat) : s.followOffsets l t = s := by
  rw [State.followOffsets, h]

theorem State.autoSteps_congr {s t : State} (hgen : t.gen = s.gen) (hctrl : t.reg Reg.TIM_CTRL = s.reg Reg.TIM_CTRL)
    (hred : t.reg Reg.RED_STATE = s.reg Reg.RED_STATE) (hlock : t.lockState = s.lockState) (hstep : t.tim.step = s.tim.step) :
    t.autoSteps = s.autoSteps := by
  have hmirror : t.formedMirror = s.formedMirror := by
    simp only [State.formedMirror, State.formed, State.linkCode, State.get, State.isMirror, State.param, hgen, hred]
  rw [State.autoSteps, State.autoSteps, State.bit, State.bit, hctrl, hlock, hstep, hmirror]

/-- What offsets that give an e leave: e, TIM_OFFSET, and the step that AUTO_STEP asks for. -/
theorem State.followOffsets_shows {l : List (Int × Int)} {e : Int} (h : filteredOffset l = some e) (s : State) (t : Nat) :
    (s.followOffsets l t).tim.e = some e ∧ (s.followOffsets l t).tim.offsets = s.tim.offsets ∧
      (s.followOffsets l t).reg Reg.TIM_PTP_MPD = s.reg Reg.TIM_PTP_MPD ∧
      (s.followOffsets l t).reg Reg.TIM_OFFSET = word (codeOf 32 (satSigned 32 (e / 4096))) ∧
      (s.tim.started = false → s.autoSteps = true →
        (s.followOffsets l t).tim.step = some ((s.now / usT + 1) * usT, (((s.now / usT + 1) * usT : Nat) : Int) + e)) := by
  rw [State.followOffsets, h]
  dsimp only
  have hservo := s.newOffset_servoKeeps e t s.lockLimit (4 * s.lockLimit)
  obtain ⟨hnewE, hnewReg⟩ := s.newOffset_shows e t s.lockLimit (4 * s.lockLimit)
  obtain ⟨he, hoffsets, hregs, hstep⟩ := (s.newOffset e t s.lockLimit (4 * s.lockLimit)).autoStep_spec (!s.tim.started)
  have htim : (s.newOffset e t s.lockLimit (4 * s.lockLimit)).tim.offsets = s.tim.offsets ∧
      (s.newOffset e t s.lockLimit (4 * s.lockLimit)).tim.step = s.tim.step := by
    rw [hservo.tim]
    exact ⟨rfl, rfl⟩
  refine ⟨he.trans hnewE, hoffsets.trans htim.1, ?_, (hregs _ (by decide)).trans hnewReg, fun hstarted hasks => ?_⟩
  · exact (hregs _ (by decide)).trans (hservo.regs _ (by decide) (by decide) (by decide) (by decide))
  · have hasks' := (State.autoSteps_congr hservo.gen (hservo.regs _ (by decide) (by decide) (by decide) (by decide))
      (hservo.regs _ (by decide) (by decide) (by decide) (by decide)) hservo.lock htim.2).trans hasks
    rw [hstep (by rw [hstarted]; rfl) hasks', hnewE, hservo.now, Option.getD_some]

/-- What the end of an exchange leaves: the mean path delay and the offsets, and e once there are 8 of them. -/
theorem State.response_shows (s : State) (x : Exchange) (port t : Nat) (mpd : Int) (l : List (Int × Int)) :
    let z := ((s.ptpArrive port t).exchangeDone x mpd l).followOffsets l t
    z.reg Reg.TIM_PTP_MPD = word (codeOf 32 (satSigned 32 (mpd / 4096))) ∧ z.tim.offsets = l ∧
      (l.length < 8 → z.tim.e = s.tim.e ∧ z.timeState = s.timeState) ∧
      (∀ e, filteredOffset l = some e → z.tim.e = some e ∧ z.reg Reg.TIM_OFFSET = word (codeOf 32 (satSigned 32 (e / 4096))) ∧
        (s.tim.started = false → s.autoSteps = true →
          z.tim.step = some ((Nat.max s.now t / usT + 1) * usT, (((Nat.max s.now t / usT + 1) * usT : Nat) : Int) + e))) := by
  intro z
  have hregs := (s.ptpArrive port t).reg_exchangeDone x mpd l
  have hmpd := hregs Reg.TIM_PTP_MPD
  rw [if_pos rfl] at hmpd
  cases hfilter : filteredOffset l with
  | none =>
    have hz : z = (s.ptpArrive port t).exchangeDone x mpd l := State.followOffsets_of_none hfilter _ t
    rw [hz]
    refine ⟨hmpd, rfl, fun _ => ⟨rfl, congrArg (fieldOf · _ _) ((hregs _).trans (if_neg (by decide)))⟩, fun e he => nomatch he⟩
  | some e =>
    obtain ⟨he, hoffsets, hkept, hoffset, hstep⟩ :=
      State.followOffsets_shows hfilter ((s.ptpArrive port t).exchangeDone x mpd l) t
    have hasks : ((s.ptpArrive port t).exchangeDone x mpd l).autoSteps = s.autoSteps :=
      State.autoSteps_congr rfl ((hregs _).trans (if_neg (by decide))) ((hregs _).trans (if_neg (by decide)))
        (congrArg (fieldOf · _ _) ((hregs _).trans (if_neg (by decide)))) rfl
    refine ⟨hkept.trans hmpd, hoffsets, fun hlt => ?_, fun e' he' => ?_⟩
    · rw [filteredOffset_of_lt hlt] at hfilter
      exact nomatch hfilter
    · cases he'
      exact ⟨he, hoffset, fun hstarted hauto => hstep hstarted (hasks.trans hauto)⟩

/-! ### The statement -/

/-- Settles O18: a message by the gates it passes and what it then does to the exchange; the end of an exchange by what the offsets, the servo and
AUTO_STEP leave of each other; and the masters by what following the parent keeps. -/
theorem ptpExchanges : Obligations.PtpExchanges := by
  refine ⟨fun m s hport hoptions hparent => ?sync, fun m s hport hexcluded => ?syncExcluded,
    fun m s hport hexcluded => ⟨?followUpExcluded, ?delayRespExcluded⟩, fun m s x hport hoptions hparent hx => ?followUp,
    fun port seq t0 s x hip hport hparent hx => ?request, fun port seq t0 s hbarred => ?noRequest,
    fun m s x t1 hport hoptions hparent hx ht1 => ?response, fun a s hport hoptions hdomain => ?announce,
    fun a s hport hexcluded => ?announceExcluded, fun t0 s hsender => ?silent, fun t0 s hsender hall => ?orphan⟩
  case sync => exact ⟨_, exec_sync_of_parent hport hoptions hparent, State.syncTaken_shows _ m⟩
  case syncExcluded => exact ⟨_, exec_sync_excluded hport hexcluded, State.reg_ptpDiscard _, rfl⟩
  case followUpExcluded => exact ⟨_, exec_followUp_excluded hport hexcluded, State.reg_ptpDiscard _, rfl⟩
  case delayRespExcluded => exact ⟨_, exec_delayResp_excluded hport hexcluded, State.reg_ptpDiscard _, rfl⟩
  case followUp => exact ⟨_, exec_followUp_of_parent hport hoptions hparent hx, rfl⟩
  case request => exact ⟨_, exec_delayReq_of_parent hip hport hparent hx, rfl, rfl⟩
  case noRequest => exact ⟨_, exec_delayReq_barred hbarred, rfl, rfl⟩
  case response =>
    obtain ⟨hmpd, hoffsets, hfew, hfull⟩ := s.response_shows x m.port m.t (s.exchangeOffset m x t1).2
      ((s.exchangeOffset m x t1 :: s.tim.offsets).take 8)
    refine ⟨_, exec_delayResp_of_parent hport hoptions hparent hx ht1, hmpd, hoffsets, hfew, fun e he => ?_⟩
    obtain ⟨hshown, hoffset, hstep⟩ := hfull e he
    refine ⟨hshown, hoffset, fun hstarted hauto hlock hnone hmirror => hstep hstarted ?_⟩
    rw [State.autoSteps, hauto, decide_eq_true hlock, hnone, hmirror]
    rfl
  case announce =>
    have hkeeps := ((s.ptpArrive a.port a.t).noteMaster a).followParent_parentKeeps
    refine ⟨_, s.heardMaster a, exec_ptpAnnounce hport hoptions hdomain, ?_, rfl, rfl, rfl, rfl, rfl, rfl, fun b hb => ?_⟩
    · rw [hkeeps.masters]
      exact List.getLast?_concat
    · rw [State.parent?_followParent] at hb
      exact State.followParent_shows hb
  case announceExcluded => exact ⟨_, exec_ptpAnnounce_excluded hport hexcluded, State.reg_ptpDiscard _, rfl⟩
  case silent => exact ⟨_, exec_announceReceiptTimeout hsender, (State.followParent_parentKeeps _).masters⟩
  case orphan =>
    have hnone : s.liveMasters t0 = [] := List.filter_eq_nil_iff.mpr fun m hm => by
      have := hall m hm
      rw [decide_eq_true_eq]
      omega
    have hexec := exec_announceReceiptTimeout (t0 := t0) hsender
    rw [hnone] at hexec
    have horphan := State.followParent_orphan
      (parent?_of_no_masters (s := { s.tick t0 with tim := { (s.tick t0).tim with masters := [] } }) rfl)
    exact ⟨_, hexec, (State.followParent_parentKeeps _).masters, horphan⟩

end Sys2Proof.Machine
end

section
/-! Time along a chain (R172, R173, R175, R177), and what the lamp leaves when a tile's run ends. -/
namespace Sys2Proof.Machine

/-! ### What driving the lamp leaves (R223, R230) -/

/-- The lamp's own state, its registers, the meter's record and the outputs alone change. -/
structure State.LampDrives (s t : State) : Prop where
  rest : t = { s with out := t.out, regs := t.regs, lmp := t.lmp, met := t.met }
  regs : ∀ b, (b < 0xC0000 ∨ 0xD0000 ≤ b) → t.reg b = s.reg b

theorem State.LampDrives.refl (s : State) : s.LampDrives s := ⟨rfl, fun _ _ => rfl⟩

theorem State.LampDrives.trans {s t u : State} (h : s.LampDrives t) (k : t.LampDrives u) : s.LampDrives u where
  rest := k.rest.trans (congrArg (fun x : State => { x with out := u.out, regs := u.regs, lmp := u.lmp, met := u.met }) h.rest)
  regs b hb := (k.regs b hb).trans (h.regs b hb)

theorem State.LampDrives.withLmp {s t : State} (h : s.LampDrives t) (x : LmpSt) (y : MetSt) : s.LampDrives { t with lmp := x, met := y } :=
  h.trans ⟨rfl, fun _ _ => rfl⟩

theorem State.LampDrives.emit {s t : State} (h : s.LampDrives t) (o : Output) : s.LampDrives (t.emit o) := h.trans ⟨rfl, fun _ _ => rfl⟩

theorem State.setReg_lampDrives (s : State) {a : Nat} (v : Word) (h : 0xC0000 ≤ a ∧ a < 0xD0000) : s.LampDrives (s.setReg a v) :=
  ⟨rfl, fun b hb => (s.reg_setReg a v b).trans (if_neg (by omega))⟩

theorem State.setBlank_lampDrives (s : State) (n : Nat) (on : Bool) (t : Nat) : s.LampDrives (s.setBlank n on t) := by
  unfold State.setBlank
  extract_lets w w1 w2 was s1 s2
  have hset : s.LampDrives s2 := (s.setReg_lampDrives (a := Reg.LMP_BLANK_SRC) _ (by decide)).trans
    (State.setReg_lampDrives _ (a := Reg.LMP_STATE) _ (by decide))
  have hcount : s.LampDrives (s2.bump Reg.LMP_BLANK_EVT 1) := hset.trans (State.setReg_lampDrives _ (a := Reg.LMP_BLANK_EVT) _ (by decide))
  split_ifs
  · exact .refl s
  · exact hset
  · exact (hcount.withLmp _ _).emit _
  · exact hset
  · exact hset.withLmp _ _

theorem State.driveLanes_lampDrives (s : State) (t : Nat) : s.LampDrives (s.driveLanes t) := by
  unfold State.driveLanes
  extract_lets n lmp s1
  have hlanes : s.LampDrives s1 := by
    unfold s1
    split_ifs
    · exact .refl s
    · exact ((State.LampDrives.refl s).withLmp _ _).emit _
  split_ifs
  · exact hlanes
  · exact hlanes.trans (s1.setBlank_lampDrives 4 true t)

theorem State.lampPower_lampDrives (s : State) (t : Nat) : s.LampDrives (s.lampPower t) := by
  unfold State.lampPower
  extract_lets z want s1 g
  have hdrive : s.LampDrives z := s.driveLanes_lampDrives t
  have hset : s.LampDrives s1 := (hdrive.trans (State.setReg_lampDrives _ (a := Reg.LMP_STATE) _ (by decide))).emit _
  split_ifs
  · exact hdrive
  · exact hset.withLmp _ _
  · exact hset.withLmp _ _
  · exact (hset.withLmp _ _).trans (State.setBlank_lampDrives _ 5 true t)

/-- The end of a tile's run leaves the instant, the clock and its registers. -/
theorem State.endTileRun_spec (s : State) : s.endTileRun.now = s.now ∧ s.endTileRun.tim = s.tim ∧
    s.endTileRun.reg Reg.TIM_STATE = s.reg Reg.TIM_STATE := by
  unfold State.endTileRun
  split_ifs
  · exact ⟨rfl, rfl, rfl⟩
  · extract_lets s1
    have hdrive := s1.lampPower_lampDrives s1.now
    refine ⟨?_, ?_, (hdrive.regs _ (by decide)).trans ((s.reg_put _ _ _ _).trans (if_neg (by decide)))⟩
    · rw [hdrive.rest]
      rfl
    · rw [hdrive.rest]
      rfl

/-! ### A TIME message (R173) -/

/-- The stream whose TAG and time a tile now follows. -/
def State.tagTime (s : State) (m : TimeMsg) : State :=
  ({ s with tim := { s.tim with tagPort := some m.port } }.put Reg.TIM_STATE Fld.TIM_STATE_EPOCH m.tag).put
    Reg.TIM_STATE Fld.TIM_STATE_SOURCE (2 + m.port)

theorem State.epoch_tagTime (s : State) (m : TimeMsg) : (s.tagTime m).get Reg.TIM_STATE Fld.TIM_STATE_EPOCH = m.tag % 256 :=
  (State.get_put_disjoint _ _ _ _ (.inr (by decide))).trans (State.get_put_same _ _ _ _ (by decide))

/-- FREE, HOLDOVER and EXPIRED become ACQUIRING. -/
def State.regainTime (s : State) : State := if s.timeState = 0 ∨ 3 ≤ s.timeState then s.setTime 1 else s

theorem State.regainTime_servoKeeps (s : State) : s.ServoKeeps s.regainTime := by
  unfold State.regainTime
  split_ifs
  · exact s.setTime_servoKeeps 1
  · exact .refl s

/-- The state a tile takes an e in. -/
def State.takeOffset (s : State) (e : Int) (t : Nat) : State := s.regainTime.newOffset e t (4 * nsT) (16 * nsT)

theorem State.takeOffset_servoKeeps (s : State) (e : Int) (t : Nat) : s.ServoKeeps (s.takeOffset e t) :=
  s.regainTime_servoKeeps.trans (State.newOffset_servoKeeps _ _ _ _ _)

/-- A tile that has noted a TIME message at an instant. -/
def State.timeHeard (s : State) (t : Nat) : State := { s.tick t with tim := { (s.tick t).tim with timeAt := t } }

/-- The offset that a TIME message of a row gives: its departure and the way's delay against the arrival. -/
def State.rowOffset (s : State) (m : TimeMsg) (arr corr : Nat) : Int :=
  (m.departs : Int) + ((corr : Int) + s.lastDelay m.port) * 256 - arr

/-- Whether a TIME message sets the time directly: the first e, and another TAG of the same stream. -/
def State.timeJumps (s : State) (m : TimeMsg) : Bool :=
  !s.tim.started || (s.tim.tagPort == some m.port && s.get Reg.TIM_STATE Fld.TIM_STATE_EPOCH != m.tag % 256)

section
variable {m : TimeMsg} {s : State}

theorem not_time_barred (hshown : s.shownPort = some m.port) (hup : s.portUp m.port = true) :
    ¬ (s.shownPort ≠ some m.port ∨ (!s.portUp m.port) = true) := by
  rw [hup]
  simpa using hshown

theorem exec_time_unshown (h : s.shownPort ≠ some m.port ∨ s.portUp m.port = false) : exec (.time m) s = .next (s.tick m.t) := by
  have hunshown : s.shownPort ≠ some m.port ∨ (!s.portUp m.port) = true := by rwa [Bool.not_eq_true']
  change execTime m s = _
  exact if_pos hunshown

variable {q f arr corr : Nat} (hshown : s.shownPort = some m.port) (hup : s.portUp m.port = true)
  (hrow : s.chn.timeRows.find? (fun r => r.1 == m.port && r.2.1 == m.sfn) = some (q, f, arr, corr))
include hshown hup hrow

theorem exec_time_of_running (h : s.timeJumps m = false) :
    exec (.time m) s = .next (((s.timeHeard m.t).tagTime m).takeOffset (s.rowOffset m arr corr) m.t) := by
  change execTime m s = _
  unfold execTime
  refine (if_neg (not_time_barred hshown hup)).trans ?_
  dsimp only
  rw [show (s.tick m.t).chn.timeRows.find? _ = some (q, f, arr, corr) from hrow]
  exact if_neg (ne_true_of_eq_false h)

/-- The state just after a jump of wall time. -/
def State.timeSet (s : State) (m : TimeMsg) (e : Int) : State :=
  let s2 := (s.applyStep s.now ((s.now : Int) + e).toNat).tagTime m
  if s.tim.started then s2.endTileRun else s2

theorem exec_time_of_jump (h : s.timeJumps m = true) :
    exec (.time m) s = .next (((s.timeHeard m.t).timeSet m (s.rowOffset m arr corr)).takeOffset 0 m.t) := by
  change execTime m s = _
  unfold execTime
  refine (if_neg (not_time_barred hshown hup)).trans ?_
  dsimp only
  rw [show (s.tick m.t).chn.timeRows.find? _ = some (q, f, arr, corr) from hrow]
  exact if_pos h

end

theorem State.timeSet_spec (s : State) (m : TimeMsg) (e : Int) : (s.timeSet m e).now = ((s.now : Int) + e).toNat ∧
    (s.timeSet m e).get Reg.TIM_STATE Fld.TIM_STATE_EPOCH = m.tag % 256 := by
  unfold State.timeSet
  extract_lets s2
  have hepoch : s2.get Reg.TIM_STATE Fld.TIM_STATE_EPOCH = m.tag % 256 := State.epoch_tagTime _ m
  have hnow : s2.now = ((s.now : Int) + e).toNat := rfl
  split_ifs
  · obtain ⟨hkept, -, hreg⟩ := s2.endTileRun_spec
    exact ⟨hkept.trans hnow, (congrArg (fieldOf · _ _) hreg).trans hepoch⟩
  · exact ⟨hnow, hepoch⟩

/-! ### The sender's message (R172) -/

/-- The TIME message of a row that departed at an instant. -/
def State.timeBody (s : State) (sfn d : Nat) : List Byte :=
  messageBytes Msg.TIME (1 + 4 * s.side) 0xFF (s.get Reg.TIM_STATE Fld.TIM_STATE_EPOCH)
    (leBytes 2 sfn ++ leBytes 6 (d / nsT / 1000000000) ++ leBytes 4 (d / nsT % 1000000000) ++ leBytes 2 (d % 65536))

theorem exec_timeSend {chain sfn t0 q f d : Nat} {s : State} (h : s.isSender = true)
    (howed : s.chn.timeOwed.find? (fun r => r.1 == chain && r.2.1 == sfn) = some (q, f, d))
    (hnear : (tabGet s.chn.sfn chain + 65536 - sfn % 65536) % 65536 ≤ 4096) :
    exec (.timeSend chain sfn t0) s = .next
      (State.queueMsg { s.tick t0 with chn := { s.chn with timeOwed := s.chn.timeOwed.filter (fun r => r.1 != chain) } } chain
        (s.timeBody sfn d)) := by
  have hopen : ¬ ((!s.isSender) = true ∨ 4096 < (tabGet s.chn.sfn chain + 65536 - sfn % 65536) % 65536) := by
    rw [h]
    simpa using hnear
  change execTimeSend chain sfn t0 s = _
  unfold execTimeSend
  dsimp only
  rw [show (s.tick t0).chn.timeOwed.find? _ = some (q, f, d) from howed]
  exact if_neg hopen

theorem exec_timeSend_of_none {chain sfn t0 : Nat} {s : State}
    (h : s.chn.timeOwed.find? (fun r => r.1 == chain && r.2.1 == sfn) = none ∨
      4096 < (tabGet s.chn.sfn chain + 65536 - sfn % 65536) % 65536) : exec (.timeSend chain sfn t0) s = .next (s.tick t0) := by
  change execTimeSend chain sfn t0 s = _
  unfold execTimeSend
  dsimp only
  cases howed : (s.tick t0).chn.timeOwed.find? (fun r => r.1 == chain && r.2.1 == sfn) with
  | none => rfl
  | some r =>
    have hlate := h.resolve_left (by rw [show s.chn.timeOwed.find? _ = some r from howed]; exact Option.some_ne_none r)
    exact if_pos (.inr hlate)

/-! ### The time-outs (R175, R177) -/

theorem exec_phaseSlewTimeout {t0 : Nat} {s : State} : exec (.phaseSlewTimeout t0) s =
    .next (if t0 < s.tim.eAt + 4 * s.offsetInterval then s.tick t0 else { s.tick t0 with tim := { s.tim with yp := 0 } }) :=
  (apply_ite Host.Outcome.next _ _ _).symm

theorem exec_holdoverExpiry {t0 : Nat} {s : State} : exec (.holdoverExpiry t0) s =
    .next (if s.timeState = 3 ∧ s.tim.holdoverAt + s.get Reg.TIM_CTRL Fld.TIM_CTRL_HOLDOVER_S * secT ≤ t0 then (s.tick t0).setTime 4
      else s.tick t0) :=
  (apply_ite Host.Outcome.next _ _ _).symm

theorem exec_timeMessageTimeout {t0 : Nat} {s : State} : exec (.timeMessageTimeout t0) s =
    .next (if (s.isTile && s.shownPort.any (fun p => decide (s.tim.timeAt + 64 * s.timeInterval p ≤ t0))) = true then (s.tick t0).timeLost
      else s.tick t0) :=
  (apply_ite Host.Outcome.next _ _ _).symm

theorem State.timeLost_of_locked {s : State} (h : s.timeState = 2) : s.timeLost = s.setTime 3 := if_pos h

theorem State.timeLost_of_acquiring {s : State} (h : s.timeState = 1) : s.timeLost = { s with tim := { s.tim with yp := 0 } } := by
  rw [State.timeLost, if_neg (by omega), if_pos h]

/-! ### The statement -/

/-- Settles O19: a TIME message by whether it sets the time, and then by what the servo keeps; the sender's message by what it queues; and a time-out
by its one condition. -/
theorem timeRunsAlongTheChain : Obligations.TimeRunsAlongTheChain := by
  refine ⟨fun m s q f arr corr hshown hup hrow hstarted htag => ?offset, fun m s q f arr corr hshown hup hrow hjump => ?jump,
    fun m s hunshown => ⟨_, exec_time_unshown hunshown, rfl, rfl⟩, fun chain sfn t0 q f d s hsender howed hnear => ?sent,
    fun chain sfn t0 s hnone => ⟨_, exec_timeSend_of_none hnone, rfl⟩, fun t0 s hdue => ?slewEnds, fun t0 s hearly => ?slewStays,
    fun t0 s hstate hdue => ?expires, fun t0 s hearly => ?staysHeld, fun t0 p s htile hshown hdue hstate => ?losesLock,
    fun t0 p s htile hshown hdue hstate => ?acquiring, fun t0 p s hshown hearly => ?heard⟩
  case offset =>
    have hruns : s.timeJumps m = false := by
      rw [State.timeJumps, hstarted]
      cases hport : s.tim.tagPort == some m.port with
      | false => rfl
      | true => simp [htag (eq_of_beq hport)]
    have hservo := ((s.timeHeard m.t).tagTime m).takeOffset_servoKeeps (s.rowOffset m arr corr) m.t
    refine ⟨_, exec_time_of_running hshown hup hrow hruns, hservo.now, ?_, ?_, (State.newOffset_shows _ _ _ _ _).1, ?_⟩
    · rw [hservo.tim]
      rfl
    · rw [hservo.tim]
      rfl
    · exact (hservo.fields _ (by unfold servoFree; decide)).trans (State.epoch_tagTime _ m)
  case jump =>
    have hjumps : s.timeJumps m = true := by
      rw [State.timeJumps]
      obtain hfirst | ⟨hport, hepoch⟩ := hjump
      · rw [hfirst]
        rfl
      · simp [hport, hepoch]
    obtain ⟨hnow, hepoch⟩ := (s.timeHeard m.t).timeSet_spec m (s.rowOffset m arr corr)
    have hservo := ((s.timeHeard m.t).timeSet m (s.rowOffset m arr corr)).takeOffset_servoKeeps 0 m.t
    exact ⟨_, exec_time_of_jump hshown hup hrow hjumps, (State.newOffset_shows _ _ _ _ _).1,
      (hservo.fields _ (by unfold servoFree; decide)).trans hepoch, hservo.now.trans hnow⟩
  case sent =>
    refine ⟨_, exec_timeSend hsender howed hnear, rfl, ?_⟩
    rw [State.queueMsg, List.getLast?_concat]
    rfl
  case slewEnds =>
    refine ⟨_, exec_phaseSlewTimeout, ?_⟩
    rw [if_neg (by omega)]
    exact ⟨rfl, rfl⟩
  case slewStays =>
    refine ⟨_, exec_phaseSlewTimeout, ?_⟩
    rw [if_pos hearly]
    exact ⟨rfl, rfl⟩
  case expires =>
    refine ⟨_, exec_holdoverExpiry, ?_⟩
    rw [if_pos ⟨hstate, hdue⟩]
    exact State.timeState_setTime _ (by decide)
  case staysHeld =>
    refine ⟨_, exec_holdoverExpiry, ?_⟩
    rw [if_neg (by omega)]
    exact ⟨rfl, rfl⟩
  case losesLock =>
    have hlost : (s.isTile && s.shownPort.any (fun p => decide (s.tim.timeAt + 64 * s.timeInterval p ≤ t0))) = true := by
      simp [htile, hshown, hdue]
    have hstate' : (s.tick t0).timeState = 2 := hstate
    refine ⟨_, exec_timeMessageTimeout, ?_⟩
    rw [if_pos hlost, State.timeLost_of_locked hstate']
    refine ⟨State.timeState_setTime _ (by decide), State.lockLost_setTime hstate' (by decide), ?_⟩
    rw [State.tim_setTime (by omega)]
    rfl
  case acquiring =>
    have hlost : (s.isTile && s.shownPort.any (fun p => decide (s.tim.timeAt + 64 * s.timeInterval p ≤ t0))) = true := by
      simp [htile, hshown, hdue]
    refine ⟨_, exec_timeMessageTimeout, ?_⟩
    rw [if_pos hlost, State.timeLost_of_acquiring (show (s.tick t0).timeState = 1 from hstate)]
    exact ⟨hstate, rfl⟩
  case heard =>
    refine ⟨_, exec_timeMessageTimeout, ?_⟩
    rw [hshown, Option.any_some, decide_eq_false (by omega), Bool.and_false, if_neg Bool.false_ne_true]
    exact ⟨rfl, rfl⟩

end Sys2Proof.Machine
end

section
/-! What settled packets, promoted pictures and copied stream registers leave of the sender pair (R72, R76, R89): its own state but for the record of
promotions, and its registers. -/
namespace Sys2Proof.Machine

/-! ### The pair's part of the state -/

/-- The pair's state without its record of promotions, and the registers of the RED block. -/
def pairPart (s : State) : RedSt × (Fin 0x10000 → Word) := ({ s.red with promoted := [] }, fun k => s.reg (0xF0000 + k))

theorem reg_of_pairPart {s t : State} (h : pairPart t = pairPart s) {b : Nat} (hlo : 0xF0000 ≤ b) (hhi : b < 0x100000) : t.reg b = s.reg b := by
  have hb : 0xF0000 + (b - 0xF0000) = b := by omega
  have hreg := congrFun (congrArg Prod.snd h) ⟨b - 0xF0000, by omega⟩
  simp only [pairPart, hb] at hreg
  exact hreg

/-- The registers below the RED block are no part of the pair. -/
theorem pairPart_setReg (s : State) {a : Nat} (v : Word) (h : a < 0xF0000) : pairPart (s.setReg a v) = pairPart s := by
  have hregs (k : Fin 0x10000) : (s.setReg a v).reg (0xF0000 + k) = s.reg (0xF0000 + k) := (s.reg_setReg a v _).trans (if_neg (by omega))
  exact Prod.ext rfl (funext hregs)

theorem pairPart_setNum (s : State) {a : Nat} (v : Nat) (h : a < 0xF0000) : pairPart (s.setNum a v) = pairPart s := pairPart_setReg s _ h
theorem pairPart_bump (s : State) {a : Nat} (k : Nat) (h : a < 0xF0000) : pairPart (s.bump a k) = pairPart s := pairPart_setReg s _ h
theorem pairPart_putBit (s : State) {a : Nat} (f : Field) (b : Bool) (h : a < 0xF0000) : pairPart (s.putBit a f b) = pairPart s :=
  pairPart_setReg s _ h

theorem pairPart_event (s : State) (n : Nat) : pairPart (s.event n) = pairPart s := by
  unfold State.event
  dsimp only
  split_ifs
  · exact pairPart_setReg s _ (by decide)
  · exact pairPart_setReg s _ (by decide)

theorem pairPart_withCdc (s : State) (x : CdcSt) : pairPart { s with cdc := x } = pairPart s := rfl

theorem pairPart_setStream (s : State) (x : StreamSt) : pairPart (s.setStream x) = pairPart s := rfl

theorem pairPart_modStream (s : State) (str : Nat) (f : StreamSt → StreamSt) : pairPart (s.modStream str f) = pairPart s := rfl

/-! ### Samples and bricks (R100 to R104) -/

theorem pairPart_putSample (s : State) (v : Surface) (c x y val : Nat) : pairPart (s.putSample v c x y val) = pairPart s := by
  unfold State.putSample
  dsimp only
  split_ifs <;> rfl

theorem pairPart_writeBrick (s : State) (v : Surface) (bx by' : Nat) (x : Nat → Nat → Nat → Nat) :
    pairPart (s.writeBrick v bx by' x) = pairPart s := by
  unfold State.writeBrick
  dsimp only
  split_ifs
  · exact (foldl_keeps pairPart (fun z p => foldl_keeps pairPart (fun y k => pairPart_putSample y _ _ _ _ _) _ z) _ s :)
  · rfl

theorem pairPart_codeFillBrick (s : State) (v : Surface) (z : Fill) (bx by' : Nat) (x : Nat → Nat → Nat → Nat) :
    pairPart (s.codeFillBrick v z bx by' x).1 = pairPart s := pairPart_writeBrick s v bx by' x

theorem pairPart_readBricks (s : State) (v : Surface) (bricks : List Nat) : pairPart (s.readBricks v bricks) = pairPart s :=
  pairPart_setReg s _ (by decide)

theorem pairPart_padEdges (s : State) (v : Surface) : pairPart (s.padEdges v) = pairPart s :=
  foldl_keeps pairPart
    (fun z _ => foldl_keeps pairPart (fun y _ => foldl_keeps pairPart (fun x _ => pairPart_putSample x _ _ _ _ _) _ y) _ z) _ s

theorem pairPart_writeRows (s : State) (v : Surface) (f : Fill) (payload : List Byte) : pairPart (s.writeRows v f payload).1 = pairPart s := by
  unfold State.writeRows
  dsimp only
  split_ifs
  · exact foldl_keeps pairPart (fun z q => pairPart_putSample z _ _ _ _ _) _ s
  · refine foldl_keeps (fun z : State × Fill => pairPart z.1) (fun z b => ?_) _ _
    split_ifs
    · exact pairPart_codeFillBrick _ _ _ _ _ _
    · rfl

theorem pairPart_patchPicture (s : State) (v : Surface) (f : Fill) (prev : Option Surface) : pairPart (s.patchPicture v f prev) = pairPart s := by
  unfold State.patchPicture
  extract_lets old bricks gaps s0
  have hread : pairPart s0 = pairPart s := by
    unfold s0
    split
    · split_ifs
      · exact pairPart_readBricks s _ _
      · rfl
    · rfl
  split_ifs
  · exact (foldl_keeps (fun z : State × Fill => pairPart z.1) (fun z b => pairPart_codeFillBrick _ _ _ _ _ _) _ (s0, f)).trans hread
  · refine (foldl_keeps pairPart (fun z c => foldl_keeps pairPart (fun y k => ?_) _ z) _ s0).trans hread
    dsimp only
    split_ifs
    · rfl
    · exact pairPart_putSample y _ _ _ _ _

/-! ### Pictures of a stream (R71, R85, R88, R120) -/

theorem pairPart_stillCheck (s : State) (str : Nat) (v : Surface) (t : Nat) : pairPart (s.stillCheck str v t) = pairPart s := by
  unfold State.stillCheck
  extract_lets old now s0 m cfg st low run was is s1 x cmp s2
  have hread : pairPart s0 = pairPart s := by
    unfold s0
    split_ifs
    · exact pairPart_readBricks s _ _
    · rfl
  have hnote : pairPart s2 = pairPart s := (pairPart_setReg s0 _ (by simp only [Reg.CMP_STILL_STAT]; omega)).trans hread
  split_ifs
  · exact (pairPart_event _ 3).trans ((pairPart_setReg s2 (a := Reg.CMP_STILL_EVT) _ (by decide)).trans hnote)
  · exact hnote

theorem pairPart_promotePicture (s : State) (str h rtp : Nat) (patched : Bool) (t : Nat) :
    pairPart (s.promotePicture str h rtp patched t) = pairPart s := by
  unfold State.promotePicture
  extract_lets s1 s2
  have hset : pairPart s2 = pairPart s :=
    pairPart_setReg ((s.notePromoted str).modStream str (fun x => { x with latest := some h })) _ (by simp only [Reg.ING_STR_LASTPIC]; omega)
  split
  · exact hset
  · exact (pairPart_stillCheck s2 _ _ _).trans hset

theorem pairPart_endPicture (s : State) (str last t : Nat) : pairPart (s.endPicture str last t) = pairPart s := by
  unfold State.endPicture
  extract_lets x s1 cdc
  split
  · rfl
  next f _ =>
    extract_lets total
    have hend : pairPart s1 = pairPart s := 
      (pairPart_putBit _ _ _ (by simp only [Reg.ING_STR_CTRL]; omega)).trans (pairPart_setStream s _)
    have hlost : pairPart (s1.bump (Reg.ING_STR_LOST str) 1) = pairPart s :=
      (pairPart_setReg s1 _ (by simp only [Reg.ING_STR_LOST]; omega)).trans hend
    split
    · split
      · exact hlost
      · split_ifs
        · exact (pairPart_promotePicture s1 _ _ _ _ _).trans hend
        · refine (pairPart_setReg _ _ (by simp only [Reg.ING_STR_PATCH]; omega)).trans ?_
          exact (pairPart_promotePicture _ _ _ _ _ _).trans ((pairPart_patchPicture s1 _ _ _).trans hend)
        · exact hlost
    · split
      · exact (pairPart_setReg s1 _ (by simp only [Reg.CDC_CH_SKIPPED]; omega)).trans hend
      · exact hend

theorem pairPart_startPicture (s : State) (str : Nat) (p : HeldPacket) : pairPart (s.startPicture str p) = pairPart s := by
  unfold State.startPicture
  extract_lets x tgt gap own f s1
  split
  · split_ifs
    · exact pairPart_padEdges s1 _
    · rfl
  · rfl

theorem pairPart_codecErr (s : State) (c code : Nat) : pairPart (s.codecErr c code) = pairPart s :=
  (pairPart_setReg _ (a := Reg.CDC_ERR_EVT) _ (by decide)).trans (pairPart_setReg s _ (by simp only [Reg.CDC_CH_STAT]; omega))

theorem pairPart_writeInto (s : State) (str : Nat) (f : Fill) (p : HeldPacket) : pairPart (s.writeInto str f p) = pairPart s := by
  have hwrote (z : State) : pairPart ((z.bump (Reg.ING_STR_RX str) 1).putBit (Reg.ING_STR_CTRL str) Fld.ING_STR_CTRL_ACTIVE true) = pairPart z :=
    (pairPart_putBit _ _ _ (by simp only [Reg.ING_STR_CTRL]; omega)).trans (pairPart_bump z _ (by simp only [Reg.ING_STR_RX]; omega))
  unfold State.writeInto
  extract_lets g wrote put
  have hput (z : State) (x : Fill) : pairPart (put z x) = pairPart z := pairPart_modStream z _ _
  split_ifs
  · split
    · exact hput s g
    · dsimp only
      split_ifs
      · exact (pairPart_bump _ 1 (by decide)).trans (hput s _)
      · exact (hwrote _).trans ((hput _ _).trans (pairPart_writeRows s _ g _))
  · exact hput s g
  · exact (pairPart_withCdc _ _).trans ((pairPart_codecErr _ str 7).trans (hput s _))
  · exact (pairPart_withCdc _ _).trans ((pairPart_codecErr _ str 7).trans (hput s _))
  · exact (hwrote _).trans (hput s _)

theorem pairPart_writePacket (s : State) (str : Nat) (p : HeldPacket) (t : Nat) : pairPart (s.writePacket str p t) = pairPart s := by
  unfold State.writePacket
  extract_lets s1 s2 s3
  have hfirst : pairPart s1 = pairPart s := by
    unfold s1
    split
    · split_ifs
      · exact pairPart_endPicture s _ _ _
      · rfl
    · rfl
  have hstart : pairPart s2 = pairPart s1 := by
    unfold s2
    split_ifs
    · exact pairPart_startPicture s1 _ _
    · rfl
  have hwrite : pairPart s3 = pairPart s2 := by
    unfold s3
    split
    · rfl
    · exact pairPart_writeInto s2 _ _ _
  have hall := (hwrite.trans hstart).trans hfirst
  split_ifs
  · exact (pairPart_endPicture s3 _ _ _).trans hall
  · exact hall

/-! ### Streams enabled and disabled (R70, R76) -/

theorem pairPart_setPool (s : State) (p : PoolState) : pairPart (s.setPool p) = pairPart s :=
  (pairPart_setNum _ _ (by simp only [Reg.CDC_CH_POOLMARK]; omega)).trans (pairPart_withCdc s _)

theorem pairPart_stopChannel (s : State) (c : Nat) : pairPart (s.stopChannel c) = pairPart s := by
  have hstat (v : Word) : pairPart (s.setReg (Reg.CDC_CH_STAT c) v) = pairPart s := pairPart_setReg s v (by simp only [Reg.CDC_CH_STAT]; omega)
  unfold State.stopChannel
  extract_lets s1
  have hs1 : pairPart s1 = pairPart s := hstat _
  exact (pairPart_withCdc _ _).trans ((pairPart_setPool s1 _).trans hs1)

theorem pairPart_streamStop (s : State) (str : Nat) : pairPart (s.streamStop str) = pairPart s := by
  have hctrl (v : Word) : pairPart (s.setReg (Reg.ING_STR_CTRL str) v) = pairPart s :=
    pairPart_setReg s v (by simp only [Reg.ING_STR_CTRL]; omega)
  unfold State.streamStop
  extract_lets a s1 x
  have hs1 : pairPart s1 = pairPart s := hctrl _
  exact (pairPart_stopChannel _ str).trans ((pairPart_setStream s1 _).trans hs1)

theorem pairPart_startChannel (s : State) (c : Nat) : pairPart (s.startChannel c) = pairPart s := by
  have hstat (z : State) (v : Word) : pairPart (z.setReg (Reg.CDC_CH_STAT c) v) = pairPart z :=
    pairPart_setReg z v (by simp only [Reg.CDC_CH_STAT]; omega)
  unfold State.startChannel
  split
  · rfl
  · extract_lets wants others live err dmg s1 cdc s2
    have hset : pairPart s2 = pairPart s := (pairPart_withCdc s1 _).trans (hstat s _)
    split_ifs
    · exact (pairPart_codecErr _ c 9).trans ((hstat s2 _).trans hset)
    · exact hset

theorem pairPart_streamStart (s : State) (str : Nat) : pairPart (s.streamStart str) = pairPart s :=
  (pairPart_startChannel _ str).trans <| (pairPart_setStream _ _).trans (pairPart_setReg s (a := Reg.ING_STR_CTRL str) _ (by simp only [Reg.ING_STR_CTRL]; omega))

theorem lt_of_streamReg {a : Nat} (h : streamReg a = true) : a < 0xF0000 := by
  simp only [streamReg, inRange, Bool.and_eq_true, decide_eq_true_eq] at h
  obtain ⟨⟨-, hhi⟩, -⟩ := h
  simp only [Reg.ING_STR_SURF23] at hhi
  omega

theorem pairPart_copyStreamReg (s : State) (a : Nat) (data : Word) : pairPart (s.copyStreamReg a data) = pairPart s := by
  unfold State.copyStreamReg
  extract_lets str own
  split_ifs with hreg
  · rfl
  all_goals
    have ha : a < 0xF0000 := lt_of_streamReg (by simpa using hreg)
  · exact pairPart_setReg s _ ha
  · exact pairPart_setReg s _ ha
  · exact (pairPart_streamStop _ str).trans (pairPart_setReg s _ ha)
  · exact (pairPart_streamStart _ str).trans (pairPart_setReg s _ ha)
  · exact pairPart_setReg s _ ha

/-! ### Promotions and the end of the agreement (R72, R76, R89) -/

theorem pairPart_writeInOrder (s : State) (str t n : Nat) : pairPart (s.writeInOrder str t n) = pairPart s := by
  induction n generalizing s with
  | zero => rfl
  | succ n ih =>
    rw [State.writeInOrder]
    split
    · exact (ih _).trans (pairPart_writePacket _ _ _ _)
    · split
      · exact ih _
      · rfl

theorem pairPart_promoteWritten (s : State) (w : WrittenPic) (t : Nat) : pairPart (s.promoteWritten w t) = pairPart s :=
  (pairPart_setReg _ _ (by simp only [Reg.CDC_CH_STAT]; omega)).trans
    ((pairPart_setReg _ _ (by simp only [Reg.CDC_CH_LASTPIC]; omega)).trans (pairPart_promotePicture s _ _ _ _ _))

theorem pairPart_promoteAnnounced (s : State) (f slot t : Nat) : pairPart (s.promoteAnnounced f slot t) = pairPart s := by
  refine foldl_keeps pairPart (fun z a => ?_) _ s
  split_ifs
  · split
    · rfl
    · exact pairPart_promoteWritten _ _ t
  · rfl

theorem pairPart_endAgreement (s : State) : pairPart s.endAgreement = pairPart s := by
  have happly (z : State) (x : Settle) : pairPart (Settle.apply z x) = pairPart z := by
    cases x with
    | verdict => rfl
    | table a d => exact pairPart_copyStreamReg z a d
  unfold State.endAgreement State.promoteAll
  extract_lets drain cdc s1
  have hdrain (z : State) (str : Nat) : pairPart (drain z str) = pairPart z := by
    unfold drain
    dsimp only
    split_ifs
    · rfl
    · exact (pairPart_writeInOrder _ _ _ _).trans (foldl_keeps pairPart happly _ _)
  exact (foldl_keeps pairPart (fun z w => pairPart_promoteWritten z w _) _ s1).trans (foldl_keeps pairPart hdrain _ s :)

end Sys2Proof.Machine
end

section
/-! A frame start, the opening of a chain window, and the held state's messages (R20, R58, R168, R283, R358). -/
namespace Sys2Proof.Machine

/-! ### What a frame start leaves of the run (R49, R58, R168) -/

/-- The instant, Umbra, the held state and the register of the frame lock. -/
def framePart (s : State) : Nat × UmbSt × FlkSt × Word := (s.now, s.umb, s.flk, s.reg Reg.FLK_STATE)

theorem framePart_setReg (s : State) {a : Nat} (v : Word) (h : a ≠ Reg.FLK_STATE) : framePart (s.setReg a v) = framePart s := by
  rw [framePart, State.reg_setReg, if_neg h]
  rfl

theorem framePart_setNum (s : State) {a : Nat} (v : Nat) (h : a ≠ Reg.FLK_STATE) : framePart (s.setNum a v) = framePart s :=
  framePart_setReg s _ h

theorem framePart_bump (s : State) {a : Nat} (k : Nat) (h : a ≠ Reg.FLK_STATE) : framePart (s.bump a k) = framePart s :=
  framePart_setReg s _ h

theorem framePart_withSch (s : State) (x : SchSt) : framePart { s with sch := x } = framePart s := rfl

theorem framePart_event (s : State) (n : Nat) : framePart (s.event n) = framePart s := by
  unfold State.event
  dsimp only
  split_ifs
  · exact framePart_setReg s _ (by decide)
  · exact framePart_setReg s _ (by decide)

theorem framePart_traceAppend (s : State) (t : Nat) (r : TraceRec) : framePart (s.traceAppend t r) = framePart s := by
  unfold State.traceAppend
  extract_lets rec' p buf p' wrapped sch s1 s2 sch2
  have hptr : framePart s2 = framePart s := (framePart_setReg s1 (a := Reg.SCH_TRACE_PTR) _ (by decide)).trans rfl
  split_ifs
  · exact (framePart_setReg _ (a := Reg.SCH_TRACE_CTRL) _ (by decide)).trans hptr
  · exact hptr
  · exact hptr

theorem framePart_trace (s : State) (t : Nat) (r : TraceRec) : framePart (s.trace t r) = framePart s := by
  unfold State.trace
  dsimp only
  split_ifs
  · rfl
  · split
    · exact framePart_traceAppend s t r
    · split_ifs
      · rfl
      · exact framePart_traceAppend s t r

theorem framePart_issue (s : State) (im : Image) (f t op wfn : Nat) : framePart (s.issue im f t op wfn) = framePart s := by
  unfold State.issue
  split
  · refine (framePart_trace _ _ _).trans ?_
    split_ifs
    · exact (framePart_setReg _ _ (by simp only [Reg.SCH_HIST, Reg.FLK_STATE]; omega)).trans rfl
    · rfl
  · rfl

theorem framePart_dispatch (s : State) (f t : Nat) : framePart (s.dispatch f t) = framePart s := by
  obtain h | ⟨im, b, -, -, h⟩ := s.dispatch_cases f t
  · rw [h]
  · rw [h]
    exact framePart_issue s im f t _ _

theorem framePart_startChunk (s : State) (island t w : Nat) : framePart (s.startChunk island t w) = framePart s := by
  obtain ⟨l, hl⟩ := s.startChunk_chunks island t w
  rw [hl]
  rfl

theorem framePart_endPause (s : State) (p : PauseRun) : framePart (s.endPause p) = framePart s :=
  (foldl_keeps framePart (fun z k => framePart_dispatch z (4 * p.island + k) p.ends) _ _).trans (framePart_startChunk _ _ _ _)

theorem framePart_advance (s : State) (t : Nat) : framePart (s.advance t) = framePart (s.tick t) :=
  foldl_keeps framePart framePart_endPause _ _

/-! ### The statistics of the frame that ends (R62, R63, R107, R263) -/

theorem framePart_rollFrame (s : State) (im : Image) (t : Nat) : framePart (s.rollFrame im t) = framePart s := by
  have hload (f : Nat) : Reg.SCH_FCT_LOAD f ≠ Reg.FLK_STATE := by
    simp only [Reg.SCH_FCT_LOAD, Reg.FLK_STATE]
    omega
  have hslack (z : State) (i v : Nat) : framePart (z.setNum (Reg.SCH_ISL_SLACK i) v) = framePart z :=
    framePart_setNum z v (by simp only [Reg.SCH_ISL_SLACK, Reg.FLK_STATE]; omega)
  unfold State.rollFrame
  extract_lets p running s1 part s2
  have hs1 : framePart s1 = framePart s := by
    refine foldl_keeps framePart (fun z f => ?_) _ s
    split
    · exact framePart_setNum z _ (hload f)
    · exact framePart_setReg z _ (hload f)
  have hs2 : framePart s2 = framePart s1 := foldl_keeps framePart (fun z i => hslack z i _) _ s1
  clear_value s2
  exact (framePart_withSch s2 _).trans (hs2.trans hs1)

theorem framePart_settleDecodes (s : State) : framePart s.settleDecodes = framePart s := by
  have habsent (z : State) (p : Nat × Nat) : framePart (z.bump (Reg.FLK_ABSENT p.2) 1) = framePart z :=
    framePart_setReg z _ (by simp only [Reg.FLK_ABSENT, Reg.FLK_STATE]; omega)
  exact (foldl_keeps framePart habsent (s.lmp.undecided.filter (fun p => s.decodeShed p.1 p.2)) s :)

theorem framePart_pruneInstances (s : State) (f : Nat) : framePart (s.pruneInstances f) = framePart s := framePart_settleDecodes _

theorem framePart_pruneSets (s : State) : framePart s.pruneSets = framePart s := rfl

theorem framePart_rollPorts (s : State) : framePart s.rollPorts = framePart s := rfl

theorem framePart_endFrame (s : State) (im : Image) (f t : Nat) : framePart (s.endFrame im f t) = framePart s :=
  (framePart_rollPorts _).trans <| (framePart_pruneInstances _ f).trans <| (framePart_pruneSets _).trans (framePart_rollFrame s im t)

/-! ### The correction and the lamp (R202 to R204, R206, R209, R228) -/

theorem framePart_offerWork (s : State) (islands : List Nat) : framePart (s.offerWork islands) = framePart s := by
  unfold State.offerWork
  split
  · rfl
  · refine foldl_keeps framePart (fun z i => ?_) _ s
    split
    · split_ifs
      · rfl
      · exact framePart_startChunk _ _ _ _
    · rfl

theorem framePart_recomputeWork (s : State) : framePart s.recomputeWork = framePart s := by
  unfold State.recomputeWork
  split
  · rfl
  · split
    · rfl
    · exact framePart_offerWork _ _

theorem framePart_startRecompute (s : State) : framePart s.startRecompute = framePart s := by
  have hstate (z : State) (b : Bool) : framePart (z.putBit Reg.EMC_STATE Fld.EMC_STATE_NO_TEMP b) = framePart z :=
    framePart_setReg z _ (by decide)
  unfold State.startRecompute
  split
  · exact hstate s true
  · exact (framePart_recomputeWork _).trans (hstate s false)

theorem framePart_endRamp (s : State) (f : Nat) : framePart (s.endRamp f) = framePart s := by
  unfold State.endRamp
  extract_lets x s1
  have hs1 : framePart s1 = framePart s := by
    unfold s1
    split
    · split_ifs <;> rfl
    · rfl
  split_ifs
  · exact (framePart_startRecompute _).trans hs1
  · exact hs1

theorem framePart_withEmc (s : State) (x : EmcSt) : framePart { s with emc := x } = framePart s := rfl

theorem framePart_publish (s : State) (l : LiveSet) (f : Nat) (ramp : Option Nat) : framePart (s.publish l f ramp) = framePart s :=
  (framePart_withEmc _ _).trans <| (framePart_bump _ 1 (by decide)).trans (framePart_setReg s _ (by decide))

theorem framePart_publishDue (s : State) (f t : Nat) : framePart (s.publishDue f t) = framePart s := by
  unfold State.publishDue
  split
  · rfl
  · split_ifs
    · exact (framePart_withEmc _ _).trans (framePart_publish s _ f _)
    · rfl

theorem framePart_exchangeBank (s : State) (f : Nat) : framePart (s.exchangeBank f) = framePart s := by
  unfold State.exchangeBank
  split_ifs
  · exact (framePart_setReg _ (a := Reg.EMC_STATE) _ (by decide)).trans (framePart_setReg s (a := Reg.EMC_STATE) _ (by decide))
  · rfl

theorem framePart_sampleRowMap (s : State) (scan : Nat) : framePart (s.sampleRowMap scan) = framePart s := by
  unfold State.sampleRowMap
  dsimp only
  split_ifs
  · rfl
  · exact framePart_setReg s (a := Reg.LMP_STATE) _ (by decide)

theorem framePart_emitterFrame (s : State) (tl : Timeline) (f t : Nat) : framePart (s.emitterFrame tl f t) = framePart s := by
  have hsample (z : State) : framePart (z.takeSample f) = framePart z := (framePart_setReg z (a := Reg.EMC_STATE) _ (by decide) :)
  have hfade (z : State) : framePart (z.stepFade f) = framePart z := (framePart_setReg _ (a := Reg.EMC_FADE_NOW) _ (by decide) :)
  exact (hsample _).trans <| (framePart_sampleRowMap _ _).trans <| (hfade _).trans <| (framePart_exchangeBank _ f).trans <|
    (framePart_publishDue _ f t).trans (framePart_endRamp s f)

theorem framePart_sampleDue (s : State) (tl : Timeline) (f t : Nat) : framePart (s.sampleDue tl f t) = framePart s := by
  unfold State.sampleDue
  split_ifs
  · exact framePart_emitterFrame s tl f t
  · rfl

theorem framePart_of_lampDrives {s t : State} (h : s.LampDrives t) : framePart t = framePart s := by
  rw [framePart, h.regs _ (by decide), h.rest]
  rfl

theorem framePart_lampFrame (s : State) (f t : Nat) : framePart (s.lampFrame f t) = framePart s := by
  unfold State.lampFrame
  split_ifs
  · exact framePart_of_lampDrives (s.setBlank_lampDrives 4 false t)
  · rfl

theorem framePart_meterFrame (s : State) (f : Nat) : framePart (s.meterFrame f) = framePart s := by
  unfold State.meterFrame
  dsimp only
  split
  · rfl
  · split_ifs
    · rfl
    · rw [State.meterClose_rest]
      rfl

/-! ### Parameters and the pair (R42, R163, R295, R296) -/

theorem framePart_noteRoi (s : State) (im : Image) (f : Nat) : framePart (s.noteRoi im f) = framePart s := by
  unfold State.noteRoi
  split
  · rfl
  · exact framePart_setReg s (a := Reg.CCX_ROI_OVER) _ (by decide)

theorem framePart_applyParams (s : State) (due : ApplyAt → Bool) : framePart (s.applyParams due) = framePart s :=
  (foldl_keeps framePart (fun z q => (rfl : framePart (z.setParam q.id q.value) = framePart z)) (s.gen.pendingParams.filter (fun q => due q.apply))
    s :)

theorem framePart_setRed (s : State) (w : Word) : framePart (s.setRed w) = framePart s := by
  unfold State.setRed
  dsimp only
  split_ifs
  · rfl
  · exact (framePart_event _ 5).trans (framePart_setReg s _ (by decide))

theorem framePart_handOver (s : State) : framePart s.handOver = framePart s := by
  unfold State.handOver
  split_ifs
  · dsimp only
    split_ifs
    · exact framePart_setRed _ _
    · rfl
  · rfl
  · rfl

/-! ### The frame boundary (R168, R358) -/

theorem State.standbyEntry_of_none {s : State} (h : s.umb.entry = none) (t : Nat) : s.standbyEntry t = s :=
  if_pos (.inl (by rw [h]; rfl))

/-- The held state begins or ends with the frame; the instant and Umbra stay. -/
theorem State.holdEffect_spec (s : State) (f : Nat) : (s.holdEffect f).now = s.now ∧ (s.holdEffect f).umb = s.umb ∧
    (s.lockState = 3 ∨ s.lockState = 4 → (s.holdEffect f).lockState = if s.heldAt f then 4 else 3) := by
  unfold State.holdEffect
  cases hheld : s.heldAt f with
  | true =>
    rw [if_pos rfl, if_pos rfl]
    split_ifs with hrun
    · exact ⟨rfl, rfl, fun _ => s.get_put_same _ _ _ (by decide)⟩
    · exact ⟨rfl, rfl, fun hlock => hlock.resolve_left hrun⟩
  | false =>
    rw [if_neg Bool.false_ne_true, if_neg Bool.false_ne_true]
    extract_lets s1
    have hs1 : s1.now = s.now ∧ s1.umb = s.umb ∧ (s.lockState = 3 ∨ s.lockState = 4 → s1.lockState = 3) := by
      unfold s1
      split_ifs with hhold
      · exact ⟨rfl, rfl, fun _ => s.get_put_same _ _ _ (by decide)⟩
      · exact ⟨rfl, rfl, fun hlock => hlock.resolve_right hhold⟩
    split
    · split_ifs
      · exact hs1
      · exact hs1
    · exact hs1

theorem State.heldAt_congr {s t : State} (h : t.flk = s.flk) (f : Nat) : t.heldAt f = s.heldAt f := by rw [State.heldAt, State.heldAt, h]

/-- What the frame's start is up to the held state. -/
theorem framePart_frameOpened (s : State) (im : Image) (f t : Nat) :
    framePart (((s.advance t).noteRoi im f).applyParams (dueAtFrame f)) = framePart (s.tick t) :=
  (framePart_applyParams _ _).trans <| (framePart_noteRoi _ im f).trans (framePart_advance s t)

theorem framePart_frameClosed (s : State) (im : Image) (f t : Nat) (h : s.umb.entry = none) :
    framePart ((((((if s.isSender then s.handOver else s).endFrame im f t).sampleDue im.timeline (f + 1) t).lampFrame f t).standbyEntry
      t).meterFrame f) = framePart s := by
  have hpair : framePart (if s.isSender then s.handOver else s) = framePart s := by
    split_ifs
    · exact framePart_handOver s
    · rfl
  have hlamp := (framePart_lampFrame _ f t).trans <| (framePart_sampleDue _ im.timeline (f + 1) t).trans <|
    (framePart_endFrame _ im f t).trans hpair
  rw [State.standbyEntry_of_none ((congrArg (fun x : Nat × UmbSt × FlkSt × Word => x.2.1.entry) hlamp).trans h)]
  exact (framePart_meterFrame _ f).trans hlamp

theorem exec_frameStart {wfn : Nat} {s : State} {im : Image} (h : s.image? = some im) :
    exec (.frameStart wfn) s = .next ((s.advance (frameStart im.timeline wfn)).frameBoundary im wfn (frameStart im.timeline wfn)) := by
  change execFrameStart wfn s = _
  rw [execFrameStart, h]

theorem lockState_of_framePart {s t : State} (h : framePart t = framePart s) : t.lockState = s.lockState :=
  congrArg (fun x : Nat × UmbSt × FlkSt × Word => fieldOf x.2.2.2 0 3) h

/-- A frame start with no standby entry waiting: the instant is W(F), and RUNNING or HELD follows the held state. -/
theorem State.frameBoundary_spec (s : State) (im : Image) (f t : Nat) (h : s.umb.entry = none) :
    ((s.advance t).frameBoundary im f t).now = Nat.max s.now t ∧ (s.lockState = 3 ∨ s.lockState = 4 →
      ((s.advance t).frameBoundary im f t).lockState = if s.heldAt f then 4 else 3) := by
  have hopen := framePart_frameOpened s im f t
  have hheld := State.heldAt_congr (s := s) (congrArg (fun x : Nat × UmbSt × FlkSt × Word => x.2.2.1) hopen) f
  obtain ⟨hnow, humb, hlock⟩ := (((s.advance t).noteRoi im f).applyParams (dueAtFrame f)).holdEffect_spec f
  have hentry := (congrArg UmbSt.entry humb).trans ((congrArg (fun x : Nat × UmbSt × FlkSt × Word => x.2.1.entry) hopen).trans h)
  have hclose := framePart_frameClosed _ im f t hentry
  refine ⟨(congrArg Prod.fst hclose).trans (hnow.trans (congrArg Prod.fst hopen)), fun hrun => ?_⟩
  have hlock' := hlock (by rw [lockState_of_framePart hopen]; exact hrun)
  rw [hheld] at hlock'
  exact (lockState_of_framePart hclose).trans hlock'

/-! ### The opening of a window at a sender (R20, R89, R115, R136) -/

/-- The composition's own state. -/
def cmpOf (s : State) : CmpSt := s.cmp

theorem State.applyFlag_cmp (s : State) : s.applyFlag.cmp = s.cmp := by
  have hsync (z : State) : z.syncControl.cmp = z.cmp := by
    unfold State.syncControl
    dsimp only
    split_ifs
    · exact (z.putRed_tablesKeep _ _).cmp
    · exact (z.putRed_tablesKeep _ _).cmp
  have hcold (z : State) : z.coldTakeover.cmp = z.cmp := by
    unfold State.coldTakeover
    split
    · rfl
    · exact (State.putRed_tablesKeep _ _ _).cmp
  unfold State.applyFlag
  extract_lets want a s1
  have ha : a.cmp = s.cmp := (s.putRed_tablesKeep _ _).cmp
  refine (hsync s1).trans ?_
  unfold s1
  split_ifs
  · rfl
  · exact ha
  · exact (hcold a).trans ha
  · exact ha
  · exact (a.putRed_tablesKeep _ _).cmp.trans ha

theorem State.originate_cmp (s : State) (c k : Nat) : (s.originate c k).cmp = s.cmp := by
  unfold State.originate
  split
  · rfl
  · dsimp only
    split_ifs
    · rfl
    · exact (State.sendLink_tablesKeep _ _).cmp
    · rfl
    · rfl
    · rfl
    · exact (State.sendLink_tablesKeep _ _).cmp
    · rfl

theorem State.expressWindow_cmp (s : State) : s.expressWindow.cmp = s.cmp := by
  have hretry (z : State) (y : ExpTx) : cmpOf (z.retryExpress y.chain) = cmpOf z := by
    unfold State.retryExpress
    split
    · rfl
    · dsimp only
      split
      · rfl
      · exact State.originate_cmp _ _ _
  exact (foldl_keeps cmpOf hretry _ _ :)

theorem State.resyncNow_of_false {s : State} (h : s.red.resync = false) : s.resyncNow = s := if_pos (by rw [h]; rfl)

/-- The pictures taken at the opening are the latest ones once the announced have been promoted (R89, R115). -/
theorem State.senderWindow_pics {s : State} (h : s.red.resync = false) (f slot t : Nat) :
    (s.senderWindow f slot t).cmp.windows.getLast?.map (fun w => (w.wfn, w.slot, w.pics)) =
      some (f, slot, (s.promoteAnnounced f slot t).latestPics) := by
  have hresync : ((s.promoteAnnounced f slot t).takePictures f slot).red.resync = false :=
    (congrArg (fun x => x.1.resync) (pairPart_promoteAnnounced s f slot t)).trans h
  rw [State.senderWindow, State.resyncNow_of_false hresync, State.expressWindow_cmp, State.applyFlag_cmp, State.takePictures]
  dsimp only
  rw [List.getLast?_concat]
  rfl

theorem exec_chainWindowOpen_sender {wfn slot : Nat} {s : State} {im : Image} (h : s.image? = some im) (hrole : im.role = .sender)
    (hslot : slot < im.timeline.nImage) : exec (.chainWindowOpen wfn slot) s =
      .next ((s.tick (windowOpen im.timeline wfn slot)).senderWindow wfn slot (windowOpen im.timeline wfn slot)) := by
  change execChainWindowOpen wfn slot s = _
  rw [execChainWindowOpen, h]
  dsimp only
  rw [if_neg (by omega), hrole]

theorem exec_chainWindowOpen_tile {wfn slot : Nat} {s : State} {im : Image} (h : s.image? = some im) (hrole : im.role = .tile)
    (hslot : slot < im.timeline.nImage) : exec (.chainWindowOpen wfn slot) s =
      .next (s.tick (windowOpen im.timeline wfn slot)).selectPort := by
  change execChainWindowOpen wfn slot s = _
  rw [execChainWindowOpen, h]
  dsimp only
  rw [if_neg (by omega), hrole]

/-! ### A tile's selection (R283) -/

/-- The port a tile selects: west, else east, else none. -/
def State.selection (s : State) : Nat := if s.portEligible 0 then 1 else if s.portEligible 1 then 2 else 0

/-- The port of a selection code. -/
def portOfSel (k : Nat) : Option Nat := if k = 1 then some 0 else if k = 2 then some 1 else none

theorem State.shownPort_eq (s : State) : s.shownPort = portOfSel s.selCode := rfl

theorem State.portOfSel_selection (s : State) :
    portOfSel s.selection = if s.portEligible 0 then some 0 else if s.portEligible 1 then some 1 else none := by
  unfold State.selection
  split_ifs <;> rfl

theorem State.reg_timeLost (s : State) {b : Nat} (ht : Reg.TIM_STATE ≠ b) (hf : Reg.FLK_STATE ≠ b) : s.timeLost.reg b = s.reg b := by
  unfold State.timeLost
  split_ifs
  · exact s.reg_setTime 3 ht hf
  · rfl
  · rfl

theorem State.reg_syncAligned (s : State) {b : Nat} (hf : Reg.FLK_STATE ≠ b) : s.syncAligned.reg b = s.reg b := by
  unfold State.syncAligned
  split_ifs
  · exact (s.reg_putBit _ _ _ b).trans (if_neg hf)
  · rfl

theorem State.selCode_congr {s t : State} (h : t.reg Reg.RED_TILE = s.reg Reg.RED_TILE) : t.selCode = s.selCode := congrArg (fieldOf · 0 2) h

/-- The selection shows in RED_TILE, and a change of it counts in RED_SWITCHES. -/
theorem State.selectPort_spec (s : State) : s.selectPort.selCode = s.selection ∧
    (s.selection ≠ s.selCode → s.selectPort.reg Reg.RED_SWITCHES = satAdd (s.reg Reg.RED_SWITCHES) 1) := by
  have hsmall : s.selection % 4 = s.selection := by
    unfold State.selection
    split_ifs <;> rfl
  unfold State.selectPort
  extract_lets w e sel s1 counted _ _ s2
  have hsel : sel = s.selection := rfl
  have htile : s1.selCode = s.selection := by
    refine (congrArg (fieldOf · 0 2) ((s.reg_setReg Reg.RED_TILE _ _).trans (if_pos rfl))).trans ?_
    rw [fieldOf_putField_other _ _ _ _ _ _ (.inl (by decide)), fieldOf_putField_other _ _ _ _ _ _ (.inl (by decide)),
      fieldOf_putField_same _ _ _ _ (by decide)]
    exact hsmall
  have hswitches : s2.reg Reg.RED_SWITCHES = satAdd (s.reg Reg.RED_SWITCHES) 1 := by
    refine (s1.reg_bump Reg.RED_SWITCHES 1 _).trans ((if_pos rfl).trans (congrArg (satAdd · 1) ?_))
    exact (s.reg_setReg _ _ _).trans (if_neg (by decide))
  have hs2 : s2.selCode = s.selection :=
    (State.selCode_congr ((s1.reg_bump Reg.RED_SWITCHES 1 _).trans (if_neg (by decide)))).trans htile
  clear_value s2
  split_ifs with hsame hnone
  · exact ⟨htile, fun hne => absurd hsame hne⟩
  · exact ⟨(State.selCode_congr (s2.reg_timeLost (by decide) (by decide))).trans hs2,
      fun _ => (s2.reg_timeLost (by decide) (by decide)).trans hswitches⟩
  · exact ⟨(State.selCode_congr (s2.reg_syncAligned (by decide))).trans hs2, fun _ => (s2.reg_syncAligned (by decide)).trans hswitches⟩

/-! ### The held state's messages (R358) -/

theorem FlkSt.take_holdSends (x : FlkSt) (kind f : Nat) : (x.take kind f).holdSends = x.holdSends := by
  have hhold : (x.hold f).holdSends = x.holdSends := by
    unfold FlkSt.hold
    split
    · rfl
    · split
      · rfl
      · rfl
      · split_ifs <;> rfl
  have hrelease : (x.release f).holdSends = x.holdSends := by
    unfold FlkSt.release
    split_ifs <;> rfl
  unfold FlkSt.take
  split_ifs
  · exact hhold
  · exact hrelease
  · rfl

theorem exec_holdMessage_tile {kind wfn t0 : Nat} {s : State} (h : s.isTile = true) :
    exec (.holdMessage kind wfn t0) s = .next { s.tick t0 with flk := s.flk.take kind wfn } := if_pos h

theorem exec_holdMessage_mirror {kind wfn t0 : Nat} {s : State} (hsender : s.isSender = true) (hmirror : s.formedMirror = true)
    (hkind : kind < 2) : exec (.holdMessage kind wfn t0) s = .next ((s.tick t0).startHold kind wfn) := by
  have htile : s.isTile = false := by
    rw [State.isTile, eq_of_beq (show (s.role? == some Role.sender) = true from hsender)]
    rfl
  have hrelays : (s.isSender && s.formed && s.isMirror && decide (kind < 2)) = true := by
    rw [Bool.and_assoc s.isSender, show (s.formed && s.isMirror) = true from hmirror, hsender, decide_eq_true hkind]
    rfl
  exact (if_neg (ne_true_of_eq_false htile)).trans (if_pos hrelays)

/-- A HOLD or RELEASE taken is sent once more, on every chain. -/
theorem State.startHold_spec (s : State) (kind f : Nat) :
    (s.startHold kind f).flk.holdSends = s.flk.holdSends ++ [{ kind := kind, wfn := f, t := s.now, sends := 1 }] ∧
      (s.startHold kind f).chn.tx = s.chn.tx ++ s.chains.map (fun k =>
        { port := k.chain, bytes := messageBytes Msg.HOLD (1 + 4 * s.side) 0xFF 0 (holdBody kind f), sent := 0 }) := by
  obtain ⟨hflk, hchn⟩ := s.acceptHold_eq_startHold kind f
  rw [← hflk, ← hchn, s.acceptHold_flk, s.acceptHold_tx]
  exact ⟨congrArg (· ++ _) (s.flk.take_holdSends kind f), rfl⟩

/-- One HOLD or RELEASE whose next copy is due: it goes out on every chain, and after the third it is forgotten. -/
theorem exec_holdMessageRepeat_due {t0 : Nat} {h : HoldSend} {s : State} (hsends : s.flk.holdSends = [h]) (hfew : h.sends < 3)
    (hdue : h.t + h.sends * 500 * usT ≤ t0) : exec (.holdMessageRepeat t0) s = .next
      (let s2 := (s.tick t0).broadcastAll Msg.HOLD 0 (holdBody h.kind h.wfn)
       { s2 with flk := { s2.flk with holdSends := if h.sends = 2 then [] else [{ h with sends := h.sends + 1 }] } }) := by
  have hnext : (decide (h.sends < 3) && decide (h.t + h.sends * 500 * usT ≤ t0)) = true := by
    rw [decide_eq_true hfew, decide_eq_true hdue]
    rfl
  change execHoldMessageRepeat t0 s = _
  unfold execHoldMessageRepeat
  dsimp only
  rw [show (s.tick t0).flk.holdSends = [h] from hsends]
  simp only [List.foldl_cons, List.foldl_nil, List.map_cons, List.map_nil, hnext, if_true, List.filter_cons, List.filter_nil]
  by_cases htwo : h.sends = 2
  · simp [htwo]
  · have hmore : h.sends + 1 < 3 := by omega
    simp [htwo, hmore]

/-! ### The statement -/

/-- Settles O24: a frame start by what its parts leave of the instant and the held state, a window by the promotions that leave the pair and by the
tile's selection, and the held state's messages by what they take and queue. -/
theorem framesWindowsAndHoldsCome : Obligations.FramesWindowsAndHoldsCome := by
  refine ⟨fun wfn s im him hnone => ?frame, fun wfn slot s im him hrole hslot hresync => ?sender, fun wfn slot s im him hrole hslot => ?tile,
    fun wfn t0 s htile hfrom hahead => ?hold, fun wfn t0 a s htile hfrom hto hahead => ?release,
    fun kind wfn t0 s hsender hmirror hkind => ?relay, fun t0 h s hsends hfew hdue => ?copies⟩
  case frame =>
    obtain ⟨hnow, hlock⟩ := s.frameBoundary_spec im wfn (frameStart im.timeline wfn) hnone
    exact ⟨_, exec_frameStart him, hnow, fun h => hlock (.inl h), fun h => hlock (.inr h)⟩
  case sender =>
    have hpics := State.senderWindow_pics (s := s.tick (windowOpen im.timeline wfn slot)) hresync wfn slot (windowOpen im.timeline wfn slot)
    exact ⟨_, exec_chainWindowOpen_sender him hrole hslot, hpics⟩
  case tile =>
    obtain ⟨hsel, hcount⟩ := (s.tick (windowOpen im.timeline wfn slot)).selectPort_spec
    refine ⟨_, exec_chainWindowOpen_tile him hrole hslot, ?_, fun hchanged _ => hcount fun hsame => hchanged ?_⟩
    · rw [State.shownPort_eq, hsel, State.portOfSel_selection]
      rfl
    · rw [State.shownPort_eq, hsel, hsame]
      rfl
  case hold =>
    refine ⟨_, exec_holdMessage_tile htile, ?_⟩
    have htake : s.flk.take 0 wfn = { s.flk with heldFrom := some wfn, heldTo := none } := FlkSt.hold_of_free hfrom hahead wfn
    rw [htake]
    refine ⟨rfl, rfl, ?_⟩
    simp [State.heldAt, holdCovers]
  case release =>
    refine ⟨_, exec_holdMessage_tile htile, ?_⟩
    have htake : s.flk.take 1 wfn = { s.flk with heldTo := some wfn } := FlkSt.release_of_held hfrom hto hahead wfn
    rw [htake]
    refine ⟨hfrom, rfl, ?_⟩
    simp [State.heldAt, holdCovers, hfrom, hahead]
  case relay =>
    exact ⟨_, exec_holdMessage_mirror hsender hmirror hkind, (s.tick t0).startHold_spec kind wfn⟩
  case copies =>
    refine ⟨_, exec_holdMessageRepeat_due hsends hfew hdue, ?_⟩
    rw [State.broadcastAll_eq]
    exact ⟨rfl, rfl⟩

end Sys2Proof.Machine
end

section
/-! The lockstep link's own records and the end of lockstep (R178, R280, R281, R290, R293, R294). -/
namespace Sys2Proof.Machine

/-! ### What the stream flag and the health leave (R281, R282, R289) -/

/-- A field of RED_STATE that says how the link stands: LINK and JOIN_FAIL. -/
def linkField (f : Field) : Prop := f.lo + f.len ≤ 2 ∨ (13 ≤ f.lo ∧ f.lo + f.len ≤ 17)

/-- The registers that follow the flag and the health. -/
def flagReg (b : Nat) : Bool := b == Reg.RED_STATE || b == Reg.RED_HEALTH || b == Reg.RED_SWITCHES

/-- The pair's state, its registers but those of the flag and the health, and how the link stands. -/
structure State.LinkStands (s t : State) : Prop where
  red : t.red = s.red
  regs : ∀ b, 0xF0000 ≤ b → flagReg b = false → t.reg b = s.reg b
  fields : ∀ f, linkField f → t.get Reg.RED_STATE f = s.get Reg.RED_STATE f

theorem State.LinkStands.refl (s : State) : s.LinkStands s := ⟨rfl, fun _ _ _ => rfl, fun _ _ => rfl⟩

theorem State.LinkStands.trans {s t u : State} (h : s.LinkStands t) (k : t.LinkStands u) : s.LinkStands u :=
  ⟨k.red.trans h.red, fun b hb hf => (k.regs b hb hf).trans (h.regs b hb hf), fun f hf => (k.fields f hf).trans (h.fields f hf)⟩

/-- A write of RED_STATE changes no other register but the event's. -/
theorem State.reg_setRed_other (s : State) (w : Word) {b : Nat} (hevt : Reg.CMD_EVT ≠ b) (hne : Reg.RED_STATE ≠ b) :
    (s.setRed w).reg b = s.reg b := by
  unfold State.setRed
  dsimp only
  split_ifs
  · rfl
  · exact (State.reg_event_other _ 5 b hevt).trans ((s.reg_setReg _ _ b).trans (if_neg hne))

theorem State.reg_setRed (s : State) (w : Word) {b : Nat} (hb : 0xF0000 ≤ b) (hne : Reg.RED_STATE ≠ b) : (s.setRed w).reg b = s.reg b :=
  s.reg_setRed_other w (by unfold Reg.CMD_EVT; omega) hne

theorem redState_ne_of_flagReg {b : Nat} (h : flagReg b = false) : Reg.RED_STATE ≠ b ∧ Reg.RED_HEALTH ≠ b ∧ Reg.RED_SWITCHES ≠ b := by
  simp only [flagReg, Bool.or_eq_false_iff, beq_eq_false_iff_ne] at h
  exact ⟨h.1.1.symm, h.1.2.symm, h.2.symm⟩

/-- The fields between LINK and JOIN_FAIL. -/
theorem State.putRed_linkStands (s : State) {f : Field} (v : Nat) (hlo : 2 ≤ f.lo) (hhi : f.lo + f.len ≤ 13) : s.LinkStands (s.putRed f v) := by
  refine ⟨(s.putRed_tablesKeep f v).red, fun b hb hf => s.reg_setRed _ hb (redState_ne_of_flagReg hf).1, fun g hg => ?_⟩
  unfold linkField at hg
  exact s.get_putRed_other v (by omega) (by omega)

theorem State.setReg_linkStands (s : State) {a : Nat} (v : Word) (h : a = Reg.RED_HEALTH ∨ a = Reg.RED_SWITCHES) : s.LinkStands (s.setReg a v) := by
  refine ⟨rfl, fun b _ hf => (s.reg_setReg a v b).trans (if_neg ?_), fun g _ => congrArg (fieldOf · _ _) ((s.reg_setReg a v _).trans (if_neg ?_))⟩
  · obtain ⟨-, hhealth, hswitches⟩ := redState_ne_of_flagReg hf
    obtain rfl | rfl := h
    · exact hhealth
    · exact hswitches
  · obtain rfl | rfl := h <;> decide

theorem State.syncControl_linkStands (s : State) : s.LinkStands s.syncControl := by
  have hput := s.putRed_linkStands (f := Fld.RED_STATE_IN_CONTROL)
  unfold State.syncControl
  dsimp only
  split_ifs
  · exact (hput _ (by decide) (by decide)).trans ⟨rfl, fun _ _ _ => rfl, fun _ _ => rfl⟩
  · exact hput _ (by decide) (by decide)

theorem State.coldTakeover_linkStands (s : State) : s.LinkStands s.coldTakeover := by
  unfold State.coldTakeover
  split
  · exact .refl s
  · refine State.LinkStands.trans ?_ (State.putRed_linkStands _ (f := Fld.RED_STATE_COLD) 1 (by decide) (by decide))
    exact ⟨rfl, fun _ _ _ => rfl, fun _ _ => rfl⟩

theorem State.applyFlag_linkStands (s : State) : s.LinkStands s.applyFlag := by
  unfold State.applyFlag
  extract_lets want a s1
  have ha : s.LinkStands a := (s.putRed_linkStands (f := Fld.RED_STATE_ACTIVE) _ (by decide) (by decide)).trans
    (State.setReg_linkStands _ _ (.inr rfl))
  refine State.LinkStands.trans ?_ s1.syncControl_linkStands
  unfold s1
  split_ifs
  · exact .refl s
  · exact ha
  · exact ha.trans a.coldTakeover_linkStands
  · exact ha
  · exact ha.trans (a.putRed_linkStands (f := Fld.RED_STATE_CURRENT) 0 (by decide) (by decide))

theorem State.syncHealth_linkStands (s : State) : s.LinkStands s.syncHealth := by
  have hset := s.setReg_linkStands s.healthWord (.inl rfl)
  have hevent (z : State) : z.LinkStands (z.event 5) := by
    have hreg (b : Nat) (hb : 0xF0000 ≤ b) : (z.event 5).reg b = z.reg b := z.reg_event_other 5 b (by unfold Reg.CMD_EVT; omega)
    exact ⟨z.event_red 5, fun b hb _ => hreg b hb, fun f _ => congrArg (fieldOf · _ _) (hreg _ (by decide))⟩
  unfold State.syncHealth
  dsimp only
  split_ifs
  · exact hset.trans (hevent _)
  · exact hset

/-- So does the end of the agreement, but for the record of promotions. -/
theorem State.endAgreement_link (s : State) : { s.endAgreement.red with promoted := [] } = { s.red with promoted := [] } ∧
    (∀ b, 0xF0000 ≤ b → b < 0x100000 → s.endAgreement.reg b = s.reg b) :=
  ⟨congrArg Prod.fst (pairPart_endAgreement s), fun _ hlo hhi => reg_of_pairPart (pairPart_endAgreement s) hlo hhi⟩

/-! ### The end of lockstep (R280, R281, R293) -/

/-- The link DOWN: LINK 0, JOIN_FAIL as it was, and of the pair what a HELLO and a failed join leave. -/
structure State.Unforms (s t : State) : Prop where
  link : t.linkCode = 0
  cause : t.get Reg.RED_STATE Fld.RED_STATE_JOIN_FAIL = s.get Reg.RED_STATE Fld.RED_STATE_JOIN_FAIL
  failedAt : t.red.failedAt = s.red.failedAt
  linkUp : t.red.linkUp = s.red.linkUp
  hello : t.red.hello = s.red.hello
  regs : ∀ b, 0xF0000 ≤ b → b < 0x100000 → flagReg b = false → t.reg b = s.reg b

/-- RED_STATE with lockstep ended. -/
def State.unformedWord (s : State) : Word := putField (putField (putField (s.reg Reg.RED_STATE) 0 2 0) 5 4 0) 9 1 0

theorem State.unformedWord_fields (s : State) : fieldOf s.unformedWord 0 2 = 0 ∧
    fieldOf s.unformedWord 13 4 = s.get Reg.RED_STATE Fld.RED_STATE_JOIN_FAIL := by
  unfold State.unformedWord
  constructor
  · simp (disch := decide) [fieldOf_putField_other, fieldOf_putField_same]
  · simp (disch := decide) [fieldOf_putField_other, State.get, Fld.RED_STATE_JOIN_FAIL]

/-- The link's state put down, before the agreement on packets and pictures ends. -/
def State.putDown (s : State) : State :=
  let s1 := (s.setRed s.unformedWord).setReg Reg.TIM_PAIR_OFFSET (resetValue Reg.TIM_PAIR_OFFSET)
  { s1 with red := { s1.red with joinAt := none, holdoffUntil := none, takeBack := false, resync := false } }

theorem State.unform_eq (s : State) : s.unform = s.putDown.endAgreement.applyFlag.syncHealth := rfl

theorem State.putDown_unforms (s : State) : s.Unforms s.putDown := by
  obtain ⟨hlink, hcause⟩ := s.unformedWord_fields
  have hred := (s.setRed_tablesKeep s.unformedWord).red
  have hreg (b : Nat) (hb : 0xF0000 ≤ b) : s.putDown.reg b = (s.setRed s.unformedWord).reg b :=
    ((s.setRed s.unformedWord).reg_setReg Reg.TIM_PAIR_OFFSET (resetValue Reg.TIM_PAIR_OFFSET) b).trans
      (if_neg (by unfold Reg.TIM_PAIR_OFFSET; omega))
  have hget (f : Field) (hf : f.lo + f.len ≤ 17) : s.putDown.get Reg.RED_STATE f = fieldOf s.unformedWord f.lo f.len :=
    (congrArg (fieldOf · _ _) (hreg _ (by decide))).trans (s.get_setRed _ hf)
  exact ⟨(hget _ (by decide)).trans hlink, (hget _ (by decide)).trans hcause, (congrArg RedSt.failedAt hred :), (congrArg RedSt.linkUp hred :),
    (congrArg RedSt.hello hred :), fun b hb _ hf => (hreg b hb).trans (s.reg_setRed _ hb (redState_ne_of_flagReg hf).1)⟩

theorem State.Unforms.then {s t u : State} (h : s.Unforms t) (k : t.LinkStands u) : s.Unforms u where
  link := (k.fields _ (.inl (by decide))).trans h.link
  cause := (k.fields _ (.inr (by decide))).trans h.cause
  failedAt := (congrArg RedSt.failedAt k.red).trans h.failedAt
  linkUp := (congrArg RedSt.linkUp k.red).trans h.linkUp
  hello := (congrArg RedSt.hello k.red).trans h.hello
  regs b hlo hhi hf := (k.regs b hlo hf).trans (h.regs b hlo hhi hf)

theorem State.Unforms.endAgreement {s t : State} (h : s.Unforms t) : s.Unforms t.endAgreement := by
  obtain ⟨hred, hregs⟩ := t.endAgreement_link
  have hstate (f : Field) : t.endAgreement.get Reg.RED_STATE f = t.get Reg.RED_STATE f :=
    congrArg (fieldOf · _ _) (hregs _ (by decide) (by decide))
  exact ⟨(hstate _).trans h.link, (hstate _).trans h.cause, (congrArg RedSt.failedAt hred :).trans h.failedAt,
    (congrArg RedSt.linkUp hred :).trans h.linkUp, (congrArg RedSt.hello hred :).trans h.hello,
    fun b hlo hhi hf => (hregs b hlo hhi).trans (h.regs b hlo hhi hf)⟩

theorem State.unform_unforms (s : State) : s.Unforms s.unform := by
  rw [State.unform_eq]
  exact (s.putDown_unforms.endAgreement.then (State.applyFlag_linkStands _)).then (State.syncHealth_linkStands _)

/-- A join that ends without FORMED: the cause, the count, and the instant of the failure. -/
structure State.JoinFails (s : State) (cause : Nat) (t : State) : Prop where
  link : t.linkCode = 0
  cause : t.get Reg.RED_STATE Fld.RED_STATE_JOIN_FAIL = cause % 16
  count : t.reg Reg.RED_JOIN_FAIL = satAdd (s.reg Reg.RED_JOIN_FAIL) 1
  failedAt : t.red.failedAt = some s.now
  linkUp : t.red.linkUp = s.red.linkUp
  hello : t.red.hello = s.red.hello
  regs : ∀ b, 0xF0000 ≤ b → b < 0x100000 → flagReg b = false → b ≠ Reg.RED_JOIN_FAIL → t.reg b = s.reg b

/-- The failure noted, before the link goes down. -/
def State.noteFailure (s : State) (cause : Nat) : State :=
  let s1 := (s.bump Reg.RED_JOIN_FAIL 1).putRed Fld.RED_STATE_JOIN_FAIL cause
  { s1 with red := { s1.red with failedAt := some s1.now, joinFailed := true } }

theorem State.setRed_now (s : State) (w : Word) : (s.setRed w).now = s.now := by
  unfold State.setRed
  dsimp only
  split_ifs
  · rfl
  · exact State.event_now _ 5

theorem State.failJoin_fails (s : State) (cause : Nat) : s.JoinFails cause (s.failJoin cause) := by
  have hdown : (s.noteFailure cause).Unforms (s.failJoin cause) := (s.noteFailure cause).unform_unforms
  have hnow : ((s.bump Reg.RED_JOIN_FAIL 1).putRed Fld.RED_STATE_JOIN_FAIL cause).now = s.now := State.setRed_now _ _
  have hred : ((s.bump Reg.RED_JOIN_FAIL 1).putRed Fld.RED_STATE_JOIN_FAIL cause).red = s.red := (State.putRed_tablesKeep _ _ _).red
  have hreg (b : Nat) (hb : 0xF0000 ≤ b) (hf : flagReg b = false) : (s.noteFailure cause).reg b = (s.bump Reg.RED_JOIN_FAIL 1).reg b :=
    State.reg_setRed _ _ hb (redState_ne_of_flagReg hf).1
  refine ⟨hdown.link, hdown.cause.trans (State.get_putRed_same _ cause (by decide)), ?_, hdown.failedAt.trans (congrArg some hnow),
    hdown.linkUp.trans (congrArg RedSt.linkUp hred :), hdown.hello.trans (congrArg RedSt.hello hred :), fun b hlo hhi hf hne => ?_⟩
  · exact (hdown.regs _ (by decide) (by decide) (by decide)).trans ((hreg _ (by decide) (by decide)).trans
      ((s.reg_bump _ _ _).trans (if_pos rfl)))
  · exact (hdown.regs b hlo hhi hf).trans ((hreg b hlo hf).trans ((s.reg_bump _ _ b).trans (if_neg hne.symm)))

/-- Lockstep ended, from whichever state of the link. -/
theorem State.lockstepEnd_spec {s : State} (h : s.linkCode < 3) (cause : Nat) : (s.lockstepEnd cause).linkCode = 0 ∧
    (s.lockstepEnd cause).red.linkUp = s.red.linkUp ∧ (s.lockstepEnd cause).red.hello = s.red.hello ∧
    (s.linkCode = 1 → (s.lockstepEnd cause).get Reg.RED_STATE Fld.RED_STATE_JOIN_FAIL = cause % 16) ∧
    (s.lockstepEnd cause).reg Reg.RED_LEAVE = s.reg Reg.RED_LEAVE := by
  unfold State.lockstepEnd
  split_ifs with hjoin hformed
  · have hfail := s.failJoin_fails cause
    exact ⟨hfail.link, hfail.linkUp, hfail.hello, fun _ => hfail.cause, hfail.regs _ (by decide) (by decide) (by decide) (by decide)⟩
  · have hdown := s.unform_unforms
    exact ⟨hdown.link, hdown.linkUp, hdown.hello, fun hone => absurd hone hjoin, hdown.regs _ (by decide) (by decide) (by decide)⟩
  · have hcode : s.linkCode ≠ 2 := fun htwo => hformed (by rw [State.formed, htwo]; rfl)
    exact ⟨by omega, rfl, rfl, fun hone => absurd hone hjoin, rfl⟩

theorem State.linkLost_spec {s : State} (h : s.linkCode < 3) : s.linkLost.linkCode = 0 ∧ s.linkLost.red.linkUp = false ∧
    s.linkLost.red.hello = none ∧ (s.linkCode = 1 → s.linkLost.get Reg.RED_STATE Fld.RED_STATE_JOIN_FAIL = 4) := by
  obtain ⟨hlink, hup, hhello, hcause, -⟩ := State.lockstepEnd_spec (s := { s with red := { s.red with linkUp := false, hello := none } }) h 4
  have hstands := (State.lockstepEnd { s with red := { s.red with linkUp := false, hello := none } } 4).syncHealth_linkStands
  exact ⟨(hstands.fields _ (.inl (by decide))).trans hlink, (congrArg RedSt.linkUp hstands.red).trans hup,
    (congrArg RedSt.hello hstands.red).trans hhello, fun hone => (hstands.fields _ (.inr (by decide))).trans (hcause hone)⟩

end Sys2Proof.Machine
end

section
/-! STATE records received, the further try after a failed join, and the statement of the link's own records (R178, R280, R281, R293, R294). -/
namespace Sys2Proof.Machine

/-! ### A STATE record noted (R178, R280, R294) -/

/-- What a good STATE record tells, noted. -/
def State.recordNoted (r : StateRec) (s : State) : State :=
  let off := pairOffset r.stamps
  let s2 := { s with red := { s.red with stateAt := r.t, otherState := r.redState, otherWfn := r.wfn, pairOffset := off } }
  let s3 := s2.putBit Reg.RED_HEALTH Fld.RED_HEALTH_OTHER_ACTIVE (bitOf r.redState 2)
  if s3.formed then s3.setNum Reg.TIM_PAIR_OFFSET (codeOf 32 (satSigned 32 off)) else s3

/-- The hold-off restarted where the record tells of trouble, and control settled. -/
def State.recordSeen (r : StateRec) (s : State) : State :=
  (if r.breached ∨ !r.locked then (s.recordNoted r).restartHoldoff else s.recordNoted r).syncControl

theorem State.recordNoted_rest (r : StateRec) (s : State) : s.recordNoted r =
    { s with regs := (s.recordNoted r).regs,
             red := { s.red with stateAt := r.t, otherState := r.redState, otherWfn := r.wfn, pairOffset := pairOffset r.stamps } } := by
  unfold State.recordNoted
  dsimp only
  split <;> rfl

theorem State.reg_recordNoted (r : StateRec) (s : State) {b : Nat} (hhealth : Reg.RED_HEALTH ≠ b) (hoff : Reg.TIM_PAIR_OFFSET ≠ b) :
    (s.recordNoted r).reg b = s.reg b := by
  have hput (z : State) (x : Bool) : (z.putBit Reg.RED_HEALTH Fld.RED_HEALTH_OTHER_ACTIVE x).reg b = z.reg b :=
    (z.reg_putBit _ _ x b).trans (if_neg hhealth)
  unfold State.recordNoted
  dsimp only
  split
  · exact ((State.reg_setNum _ _ _ b).trans (if_neg hoff)).trans (hput _ _)
  · exact hput _ _

theorem State.recordNoted_otherActive (r : StateRec) (s : State) :
    (s.recordNoted r).bit Reg.RED_HEALTH Fld.RED_HEALTH_OTHER_ACTIVE = bitOf r.redState 2 := by
  have hput (z : State) (x : Bool) : bitOf ((z.putBit Reg.RED_HEALTH Fld.RED_HEALTH_OTHER_ACTIVE x).reg Reg.RED_HEALTH) 9 = x :=
    z.bit_putBit_same Reg.RED_HEALTH x (by decide) (by decide)
  have hne : Reg.TIM_PAIR_OFFSET ≠ Reg.RED_HEALTH := by decide
  show bitOf ((s.recordNoted r).reg Reg.RED_HEALTH) 9 = _
  unfold State.recordNoted
  dsimp only
  split
  · exact (congrArg (bitOf · 9) ((State.reg_setNum _ _ _ _).trans (if_neg hne))).trans (hput _ _)
  · exact hput _ _

theorem State.recordNoted_pairOffset (r : StateRec) {s : State} (h : s.linkCode = 2) :
    (s.recordNoted r).reg Reg.TIM_PAIR_OFFSET = BitVec.ofNat 32 (codeOf 32 (satSigned 32 (pairOffset r.stamps))) := by
  have hput (z : State) (x : Bool) : (z.putBit Reg.RED_HEALTH Fld.RED_HEALTH_OTHER_ACTIVE x).reg Reg.RED_STATE = z.reg Reg.RED_STATE :=
    (z.reg_putBit _ _ x _).trans (if_neg (by decide))
  unfold State.recordNoted
  extract_lets off _ s2 s3
  have hcode : s3.linkCode = 2 := (State.role_congr (hput s2 _)).1.trans h
  have hformed : s3.formed = true := by
    rw [State.formed, hcode]
    rfl
  rw [if_pos hformed]
  exact (State.reg_setNum _ _ _ _).trans (if_pos rfl)

/-! ### Control settled (R281) -/

theorem State.reg_syncControl (s : State) {b : Nat} (hevt : Reg.CMD_EVT ≠ b) (hne : Reg.RED_STATE ≠ b) : s.syncControl.reg b = s.reg b := by
  unfold State.syncControl
  dsimp only
  split <;> exact s.reg_setRed_other _ hevt hne

theorem State.syncControl_now (s : State) : s.syncControl.now = s.now := by
  unfold State.syncControl
  dsimp only
  split <;> exact s.setRed_now _

/-- The sender in control: the primary if ACTIVE, else the mirror if ACTIVE. -/
theorem State.syncControl_inControl (s : State) : s.syncControl.bit Reg.RED_STATE Fld.RED_STATE_IN_CONTROL =
    (s.bit Reg.RED_STATE Fld.RED_STATE_ACTIVE && (!s.isMirror || !s.bit Reg.RED_HEALTH Fld.RED_HEALTH_OTHER_ACTIVE)) := by
  have hflag (x : Bool) : (flag x).testBit 0 = x := by cases x <;> rfl
  have hput (x : Bool) : (s.putRed Fld.RED_STATE_IN_CONTROL (flag x)).bit Reg.RED_STATE Fld.RED_STATE_IN_CONTROL = x :=
    (s.bit_putRed_same (f := Fld.RED_STATE_IN_CONTROL) (flag x) (by decide) (by decide)).trans (hflag x)
  unfold State.syncControl
  dsimp only
  split <;> exact hput _

/-! ### A STATE record seen -/

/-- The hold-off after a restart that is asked for or not. -/
theorem State.holdoffUntil_restart (s : State) (p : Prop) [Decidable p] : (if p then s.restartHoldoff else s).red.holdoffUntil =
    if s.red.holdoffUntil.isSome = true ∧ p then some (s.now + s.param 2 10000 * msT) else s.red.holdoffUntil := by
  unfold State.restartHoldoff
  by_cases hp : p <;> by_cases hsome : s.red.holdoffUntil.isSome = true <;> simp [hp, hsome]

/-- A restart of the hold-off writes the pair's state alone. -/
theorem State.restart_rest (s : State) (p : Prop) [Decidable p] : (if p then s.restartHoldoff else s) =
    { s with red := (if p then s.restartHoldoff else s).red } := by
  split
  · exact s.restartHoldoff_eq
  · rfl

theorem State.restart_red (s : State) (p : Prop) [Decidable p] : (if p then s.restartHoldoff else s).red =
    { s.red with holdoffUntil := (if p then s.restartHoldoff else s).red.holdoffUntil } := by
  unfold State.restartHoldoff
  split_ifs <;> rfl

/-- A good STATE record, seen: what it tells, and how the link stands as before. -/
structure State.RecordSeen (r : StateRec) (s t : State) : Prop where
  otherActive : t.bit Reg.RED_HEALTH Fld.RED_HEALTH_OTHER_ACTIVE = bitOf r.redState 2
  otherWfn : t.red.otherWfn = r.wfn
  stateAt : t.red.stateAt = r.t
  skew : t.red.pairOffset = pairOffset r.stamps
  holdoff : t.red.holdoffUntil = if s.red.holdoffUntil.isSome = true ∧ (r.breached = true ∨ (!r.locked) = true) then
    some (s.now + s.param 2 10000 * msT) else s.red.holdoffUntil
  now : t.now = s.now
  link : t.linkCode = s.linkCode
  joiner : t.bit Reg.RED_STATE Fld.RED_STATE_JOINER = s.bit Reg.RED_STATE Fld.RED_STATE_JOINER
  inControl : t.bit Reg.RED_STATE Fld.RED_STATE_IN_CONTROL =
    (s.bit Reg.RED_STATE Fld.RED_STATE_ACTIVE && (!s.isMirror || !bitOf r.redState 2))
  offset : s.linkCode = 2 → t.reg Reg.TIM_PAIR_OFFSET = BitVec.ofNat 32 (codeOf 32 (satSigned 32 (pairOffset r.stamps)))
  regs : ∀ b, 0xF0000 ≤ b → flagReg b = false → t.reg b = s.reg b

/-- The state control is settled in: the record noted, and the hold-off. -/
def State.recordHeld (r : StateRec) (s : State) : State :=
  if r.breached ∨ !r.locked then (s.recordNoted r).restartHoldoff else s.recordNoted r

theorem State.recordHeld_rest (r : StateRec) (s : State) :
    s.recordHeld r = { s with regs := (s.recordNoted r).regs, red := (s.recordHeld r).red } :=
  ((s.recordNoted r).restart_rest _).trans (congrArg (fun z : State => { z with red := (s.recordHeld r).red }) (s.recordNoted_rest r))

theorem State.recordHeld_red (r : StateRec) (s : State) : (s.recordHeld r).red =
    { s.red with stateAt := r.t, otherState := r.redState, otherWfn := r.wfn, pairOffset := pairOffset r.stamps,
                 holdoffUntil := (s.recordHeld r).red.holdoffUntil } :=
  ((s.recordNoted r).restart_red _).trans
    (congrArg (fun z : State => { z.red with holdoffUntil := (s.recordHeld r).red.holdoffUntil }) (s.recordNoted_rest r))

theorem State.recordHeld_holdoff (r : StateRec) (s : State) : (s.recordHeld r).red.holdoffUntil =
    if s.red.holdoffUntil.isSome = true ∧ (r.breached = true ∨ (!r.locked) = true) then some (s.now + s.param 2 10000 * msT)
    else s.red.holdoffUntil := by
  have hrestart := (s.recordNoted r).holdoffUntil_restart (r.breached = true ∨ (!r.locked) = true)
  have hrest := s.recordNoted_rest r
  have hold : (s.recordNoted r).red.holdoffUntil = s.red.holdoffUntil := (congrArg (fun z : State => z.red.holdoffUntil) hrest :)
  have hnow : (s.recordNoted r).now = s.now := (congrArg State.now hrest :)
  have hparam : (s.recordNoted r).param 2 10000 = s.param 2 10000 := (congrArg (fun z : State => z.param 2 10000) hrest :)
  rwa [hold, hnow, hparam] at hrestart

theorem State.recordSeen_seen (r : StateRec) (s : State) : State.RecordSeen r s (s.recordSeen r) := by
  have hrest := s.recordHeld_rest r
  have hred := s.recordHeld_red r
  have hreg (b : Nat) : (s.recordHeld r).reg b = (s.recordNoted r).reg b := by
    rw [hrest]
    rfl
  have hstate : (s.recordHeld r).reg Reg.RED_STATE = s.reg Reg.RED_STATE :=
    (hreg _).trans (s.reg_recordNoted r (by decide) (by decide))
  obtain ⟨hlink, hjoiner⟩ := State.role_congr hstate
  have hmirror : (s.recordHeld r).isMirror = s.isMirror := by
    rw [hrest]
    rfl
  have hother : (s.recordHeld r).bit Reg.RED_HEALTH Fld.RED_HEALTH_OTHER_ACTIVE = bitOf r.redState 2 :=
    (congrArg (bitOf · 9) (hreg _)).trans (s.recordNoted_otherActive r)
  have hactive : (s.recordHeld r).bit Reg.RED_STATE Fld.RED_STATE_ACTIVE = s.bit Reg.RED_STATE Fld.RED_STATE_ACTIVE :=
    congrArg (bitOf · 2) hstate
  have hstands := (s.recordHeld r).syncControl_linkStands
  have hfree := (s.recordHeld r).syncControl_standsDown
  have hcontrol := (s.recordHeld r).syncControl_inControl
  rw [hactive, hmirror, hother] at hcontrol
  refine ⟨(congrArg (bitOf · 9) ((s.recordHeld r).reg_syncControl (by decide) (by decide))).trans hother,
    (congrArg RedSt.otherWfn (hstands.red.trans hred) :), (congrArg RedSt.stateAt (hstands.red.trans hred) :),
    (congrArg RedSt.pairOffset (hstands.red.trans hred) :), (congrArg RedSt.holdoffUntil hstands.red).trans (s.recordHeld_holdoff r),
    (s.recordHeld r).syncControl_now.trans (congrArg State.now hrest :), (hstands.fields _ (.inl (by decide))).trans hlink, ?_, hcontrol,
    fun htwo => ?_, fun b hb hf => ?_⟩
  · have hbit := congrArg (Nat.testBit · 0) (hfree.free Fld.RED_STATE_JOINER (.inr (by decide)))
    have hread (z : State) : z.bit Reg.RED_STATE Fld.RED_STATE_JOINER = (z.get Reg.RED_STATE Fld.RED_STATE_JOINER).testBit 0 := by
      rw [State.bit, bitOf_eq_fieldOf]
      rfl
    exact (hread _).trans (hbit.trans ((hread _).symm.trans hjoiner))
  · exact ((s.recordHeld r).reg_syncControl (by decide) (by decide)).trans ((hreg _).trans (State.recordNoted_pairOffset r htwo))
  · have hne := redState_ne_of_flagReg hf
    exact (hstands.regs b hb hf).trans ((hreg b).trans (s.reg_recordNoted r hne.2.1 (by unfold Reg.TIM_PAIR_OFFSET; omega)))

end Sys2Proof.Machine
end

section
/-! What follows from a STATE record and from the link's timers, and the statement of the link's own records (R178, R280, R281, R293, R294). -/
namespace Sys2Proof.Machine

/-! ### What a STATE record brings about (R280, R293) -/

/-- FORMED at the source, which has nothing to hold off. -/
theorem State.reachFormed_source {s : State} (h : s.bit Reg.RED_STATE Fld.RED_STATE_JOINER = false) :
    (s.reachFormed true).linkCode = 2 ∧ (s.reachFormed true).bit Reg.RED_STATE Fld.RED_STATE_CURRENT = true ∧
      (s.reachFormed true).reg Reg.RED_JOINS = satAdd (s.reg Reg.RED_JOINS) 1 := by
  let w := putField (putField (putField (s.reg Reg.RED_STATE) 0 2 2) 4 1 1) 5 4 0
  have hword (b : Nat) : (s.reachFormed true).reg b = ((s.setRed w).bump Reg.RED_JOINS 1).reg b := by
    unfold State.reachFormed
    rw [h]
    rfl
  have hred : (s.reachFormed true).reg Reg.RED_STATE = (s.setRed w).reg Reg.RED_STATE :=
    (hword _).trans ((State.reg_bump _ _ _ _).trans (if_neg (by decide)))
  have hlink : fieldOf w 0 2 = 2 := by
    simp (disch := decide) [w, fieldOf_putField_other, fieldOf_putField_same]
  have hcurrent : bitOf w 4 = true := by
    simp (disch := decide) [w, bitOf_putField]
  exact ⟨(State.role_congr hred).1.trans ((s.get_setRed w (f := Fld.RED_STATE_LINK) (by decide)).trans hlink),
    (congrArg (bitOf · 4) hred).trans ((s.bit_setRed w (f := Fld.RED_STATE_CURRENT) (by decide)).trans hcurrent),
    (hword _).trans ((State.reg_bump _ _ _ _).trans ((if_pos rfl).trans
      (congrArg (satAdd · 1) (s.reg_setRed w (by decide) (by decide)))))⟩

/-- What a good STATE record brings about at this sender, once seen. -/
def recordOutcome (r : StateRec) (t : State) : Host.Outcome State Fault Refusal :=
  if t.linkCode = 1 ∧ t.bit Reg.RED_STATE Fld.RED_STATE_JOINER ∧ !bitOf r.redState 2 ∧ fieldOf r.redState 0 2 = 1 then .next (t.failJoin 5)
  else if t.linkCode = 1 ∧ !t.bit Reg.RED_STATE Fld.RED_STATE_JOINER ∧ fieldOf r.redState 0 2 = 2 then .next (t.reachFormed true)
  else .next t

section
variable (r : StateRec) {s : State} (hs : s.isSender = true) (hup : s.red.linkUp = true)
include hs hup

theorem exec_stateRecord_good (hcrc : r.crcOk = true) : exec (.stateRecord r) s = recordOutcome r ((s.tick r.t).recordSeen r) := by
  have hguard : ¬((!(s.tick r.t).isSender) = true ∨ (!(s.tick r.t).red.linkUp) = true) := by simp [hs, hup]
  exact (if_neg hguard).trans (if_neg (by simp [hcrc]))

theorem exec_stateRecord_bad (hcrc : r.crcOk = false) : exec (.stateRecord r) s = .next ((s.tick r.t).bump Reg.RED_LINK_ERR 1) := by
  have hguard : ¬((!(s.tick r.t).isSender) = true ∨ (!(s.tick r.t).red.linkUp) = true) := by simp [hs, hup]
  exact (if_neg hguard).trans (if_pos (by simp [hcrc]))

end

theorem exec_stateRecord_deaf (r : StateRec) {s : State} (h : s.isSender = false ∨ s.red.linkUp = false) :
    exec (.stateRecord r) s = .next (s.tick r.t) := by
  have hguard : (!(s.tick r.t).isSender) = true ∨ (!(s.tick r.t).red.linkUp) = true := h.imp (fun h => by simp [h]) (fun h => by simp [h])
  exact if_pos hguard

section
variable {r : StateRec} {s t : State} (h : State.RecordSeen r s t)
include h

/-- Outside JOIN the record is noted, and no more. -/
theorem State.RecordSeen.outcome_settled (hlink : s.linkCode ≠ 1) : recordOutcome r t = .next t := by
  have hne : t.linkCode ≠ 1 := fun ht => hlink (h.link.symm.trans ht)
  unfold recordOutcome
  rw [if_neg (fun hc => hne hc.1), if_neg (fun hc => hne hc.1)]

/-- The joiner whose source is no longer ACTIVE. -/
theorem State.RecordSeen.outcome_sourceLost (hlink : s.linkCode = 1) (hjoiner : s.bit Reg.RED_STATE Fld.RED_STATE_JOINER = true)
    (hactive : bitOf r.redState 2 = false) (hcode : fieldOf r.redState 0 2 = 1) : recordOutcome r t = .next (t.failJoin 5) :=
  if_pos ⟨h.link.trans hlink, h.joiner.trans hjoiner, by simp [hactive], hcode⟩

/-- The source whose joiner reports FORMED. -/
theorem State.RecordSeen.outcome_formed (hlink : s.linkCode = 1) (hjoiner : s.bit Reg.RED_STATE Fld.RED_STATE_JOINER = false)
    (hcode : fieldOf r.redState 0 2 = 2) : recordOutcome r t = .next (t.reachFormed true) := by
  have hnot : t.bit Reg.RED_STATE Fld.RED_STATE_JOINER = false := h.joiner.trans hjoiner
  unfold recordOutcome
  rw [if_neg (fun hc => Bool.false_ne_true (hnot.symm.trans hc.2.1)), if_pos ⟨h.link.trans hlink, by simp [hnot], hcode⟩]

end

/-! ### The further try after a failed join (R293) -/

/-- The instant of the last failure, and what went out. -/
def retryPart (s : State) : Option Nat × List Output := (s.red.failedAt, s.out)

/-- The instant of the last failure as it was, and nothing sent is taken back. -/
structure State.RetryKeeps (s t : State) : Prop where
  failedAt : t.red.failedAt = s.red.failedAt
  out : ∀ o ∈ s.out, o ∈ t.out

theorem State.RetryKeeps.trans {s t u : State} (h : s.RetryKeeps t) (k : t.RetryKeeps u) : s.RetryKeeps u :=
  ⟨k.failedAt.trans h.failedAt, fun o ho => k.out o (h.out o ho)⟩

theorem State.RetryKeeps.of_part {s t : State} (h : retryPart t = retryPart s) : s.RetryKeeps t :=
  ⟨congrArg Prod.fst h, fun o ho => (congrArg (o ∈ ·.2) h).mpr ho⟩

theorem State.TablesKeep.retryKeeps {s t : State} (h : s.TablesKeep t) : s.RetryKeeps t := ⟨congrArg RedSt.failedAt h.red, h.out⟩

theorem State.syncHealth_retryKeeps (s : State) : s.RetryKeeps s.syncHealth := by
  have hset := s.setReg_tablesKeep Reg.RED_HEALTH s.healthWord
  unfold State.syncHealth
  dsimp only
  split_ifs
  · exact (hset.trans (State.event_tablesKeep _ 5)).retryKeeps
  · exact hset.retryKeeps

/-- A join refused. -/
theorem State.joinRefused_retryKeeps (s : State) (cause conflict : Nat) : s.RetryKeeps (s.joinRefused cause conflict) := by
  have hput := s.putRed_tablesKeep Fld.RED_STATE_JOIN_FAIL cause
  have hnoted : s.RetryKeeps { s.putRed Fld.RED_STATE_JOIN_FAIL cause with red := { s.red with joinFailed := true } } := ⟨rfl, hput.out⟩
  exact (hnoted.trans (State.syncHealth_retryKeeps _)).trans (State.putRed_tablesKeep _ _ conflict).retryKeeps

theorem State.reachFormed_false_retryKeeps (s : State) : s.RetryKeeps (s.reachFormed false) := by
  have hset := s.setRed_tablesKeep (putField (putField (putField (s.reg Reg.RED_STATE) 0 2 2) 4 1 1) 5 4 0)
  exact ⟨(congrArg RedSt.failedAt hset.red :), hset.out⟩

theorem State.startTogether_retryKeeps (s : State) : s.RetryKeeps s.startTogether := by
  have hput := State.putRed_tablesKeep { s with red := { s.red with stateAt := s.now } } Fld.RED_STATE_PAIR_CONFLICT 0
  have hat : s.RetryKeeps { s with red := { s.red with stateAt := s.now } } := ⟨rfl, fun _ h => h⟩
  have hformed : s.RetryKeeps s.formedAtOnce := (hat.trans hput.retryKeeps).trans (State.reachFormed_false_retryKeeps _)
  unfold State.startTogether
  split_ifs
  · exact hformed.trans (State.foldl_sendLink_tablesKeep .config _ _).retryKeeps
  · exact hformed

theorem State.startConverge_retryKeeps (s : State) : s.RetryKeeps s.startConverge := by
  have hput := State.putRed_tablesKeep { s with red := { s.red with promoted := [], iraps := [] } } Fld.RED_STATE_PHASE 3
  exact ⟨(congrArg RedSt.failedAt hput.red :), hput.out⟩

theorem State.joinBegun_retryKeeps (s : State) : s.RetryKeeps s.joinBegun :=
  have hset := s.setRed_tablesKeep s.joinWord
  ⟨(congrArg RedSt.failedAt hset.red :), hset.out⟩

theorem retryPart_setReg (s : State) (a : Nat) (v : Word) : retryPart (s.setReg a v) = retryPart s := rfl
theorem retryPart_withCdc (s : State) (x : CdcSt) : retryPart { s with cdc := x } = retryPart s := rfl
theorem retryPart_setStream (s : State) (x : StreamSt) : retryPart (s.setStream x) = retryPart s := rfl

theorem retryPart_streamStop (s : State) (k : Nat) : retryPart (s.streamStop k) = retryPart s := by
  have hpool (z : State) (p : PoolState) : retryPart (z.setPool p) = retryPart z :=
    (retryPart_setReg _ _ _).trans (retryPart_withCdc z _)
  have hstop (z : State) : retryPart (z.stopChannel k) = retryPart z :=
    (retryPart_withCdc _ _).trans ((hpool _ _).trans (retryPart_setReg z _ _))
  exact (hstop _).trans ((retryPart_setStream _ _).trans (retryPart_setReg s _ _))

theorem retryPart_discardTables (s : State) : retryPart s.discardTables = retryPart s := by
  have hstop (z : State) (k : Nat) : retryPart (if z.streamOn k then z.streamStop k else z) = retryPart z := by
    split
    · exact retryPart_streamStop z k
    · rfl
  have hcut (z : State) (c : CmpSt) (i : IngSt) (d : List (Nat × Byte)) :
      retryPart { z with cmp := c, ing := i, dram := d } = retryPart z := rfl
  unfold State.discardTables
  extract_lets s1 s2
  have h1 : retryPart s1 = retryPart s := foldl_keeps retryPart hstop _ s
  have h2 : retryPart s2 = retryPart s1 := foldl_keeps retryPart (fun z a => retryPart_setReg z a _) _ s1
  exact (hcut s2 _ _ _).trans (h2.trans h1)

theorem State.startJoin_retryKeeps (s : State) : s.RetryKeeps s.startJoin := by
  have hbegun := s.joinBegun_retryKeeps
  rw [State.startJoin_eq]
  split_ifs with hsource
  · exact (hbegun.trans (State.foldl_sendLink_tablesKeep .config _ _).retryKeeps).trans (State.startConverge_retryKeeps _)
  · obtain ⟨hlink, -, hjoiner, -⟩ := s.joinBegun_red
    obtain ⟨hdlink, hdjoiner⟩ := State.role_congr s.joinBegun.reg_discardTables_red
    have hstandby : s.joinBegun.discardTables.wantedFlag = false :=
      State.wantedFlag_joiner (hdlink.trans hlink) (hdjoiner.trans (hjoiner.trans (by simp [hsource])))
    exact (hbegun.trans (.of_part (retryPart_discardTables _))).trans (State.applyFlag_standsDown hstandby).toTablesKeep.retryKeeps

theorem State.RetryKeeps.ite {s t u : State} {p : Prop} [Decidable p] (h : s.RetryKeeps t) (k : s.RetryKeeps u) :
    s.RetryKeeps (if p then t else u) := by
  split
  · exact h
  · exact k

/-- The check of R290, whichever way it goes. -/
theorem State.tryJoin_retryKeeps (s : State) : s.RetryKeeps s.tryJoin := by
  have hat : s.RetryKeeps { s with red := { s.red with stateAt := s.now } } := ⟨rfl, fun _ h => h⟩
  have hself : s.RetryKeeps s := ⟨rfl, fun _ h => h⟩
  have hjoin := hat.trans (State.startJoin_retryKeeps _)
  unfold State.tryJoin
  split
  · exact hself
  · exact .ite hself (.ite (s.joinRefused_retryKeeps 7 1) (.ite (s.joinRefused_retryKeeps 1 0) (.ite (s.joinRefused_retryKeeps 2 0)
      (.ite s.startTogether_retryKeeps hjoin))))

end Sys2Proof.Machine
end

section
/-! The link's timers and LEAVE, and the statement of the link's own records (R178, R280, R281, R293, R294). -/
namespace Sys2Proof.Machine

/-! ### The link's instructions -/

theorem exec_stateRecordSend {s : State} (t0 : Nat) (hs : s.isSender = true) (hup : s.red.linkUp = true) : exec (.stateRecordSend t0) s =
    .next ((s.tick t0).emit (.link (.state (s.reg Reg.RED_STATE) (s.tick t0).healthWord (s.tick t0).wfnNow))) := by
  have hguard : (s.tick t0).isSender = true ∧ (s.tick t0).red.linkUp = true := ⟨hs, hup⟩
  exact if_pos hguard

theorem exec_linkStateTimeout_due {s : State} {t0 : Nat} (hs : s.isSender = true) (hup : s.red.linkUp = true)
    (hdue : s.red.stateAt + 8 * usT ≤ t0) : exec (.linkStateTimeout t0) s = .next (s.tick t0).linkLost := by
  have hguard : (s.tick t0).isSender = true ∧ (s.tick t0).red.linkUp = true ∧ (s.tick t0).red.stateAt + 8 * usT ≤ t0 := ⟨hs, hup, hdue⟩
  exact if_pos hguard

theorem exec_linkStateTimeout_early {s : State} {t0 : Nat} (hearly : t0 < s.red.stateAt + 8 * usT) :
    exec (.linkStateTimeout t0) s = .next (s.tick t0) := by
  have hguard : ¬((s.tick t0).isSender = true ∧ (s.tick t0).red.linkUp = true ∧ (s.tick t0).red.stateAt + 8 * usT ≤ t0) :=
    fun h => absurd h.2.2 (Nat.not_le.mpr hearly)
  exact if_neg hguard

theorem exec_leave {s : State} (cause t0 : Nat) (hs : s.isSender = true) : exec (.leave cause t0) s =
    .next (((s.tick t0).put Reg.RED_LEAVE ⟨0, 8⟩ cause).lockstepEnd (if cause = 1 then 6 else 4)) := by
  have hguard : ¬(!(s.tick t0).isSender) = true := by simp [hs]
  exact if_neg hguard

/-- The instant of an option is due. -/
theorem any_due_true {o : Option Nat} {a n t0 : Nat} (ho : o = some a) (h : a + n ≤ t0) : o.any (fun a => decide (a + n ≤ t0)) = true := by
  rw [ho]
  exact decide_eq_true h

/-- No instant of an option is due. -/
theorem any_due_false {o : Option Nat} {n t0 : Nat} (h : ∀ a, o = some a → t0 < a + n) : ¬(o.any (fun a => decide (a + n ≤ t0))) = true := by
  cases o with
  | none => exact Bool.false_ne_true
  | some a => exact fun hdue => absurd (of_decide_eq_true hdue) (Nat.not_le.mpr (h a rfl))

theorem exec_joinTimeout_due {s : State} {t0 a : Nat} (hlink : s.linkCode = 1) (hat : s.red.joinAt = some a)
    (hdue : a + s.get Reg.RED_CFG Fld.RED_CFG_JOIN_TIMEOUT * secT ≤ t0) : exec (.joinTimeout t0) s = .next ((s.tick t0).failJoin 3) := by
  have hguard : (s.tick t0).linkCode = 1 ∧ (s.tick t0).red.joinAt.any
      (fun a => decide (a + (s.tick t0).get Reg.RED_CFG Fld.RED_CFG_JOIN_TIMEOUT * secT ≤ t0)) = true := ⟨hlink, any_due_true hat hdue⟩
  exact if_pos hguard

theorem exec_joinTimeout_early {s : State} {t0 : Nat}
    (hearly : ∀ a, s.red.joinAt = some a → t0 < a + s.get Reg.RED_CFG Fld.RED_CFG_JOIN_TIMEOUT * secT) :
    exec (.joinTimeout t0) s = .next (s.tick t0) := by
  have hguard : ¬((s.tick t0).linkCode = 1 ∧ (s.tick t0).red.joinAt.any
      (fun a => decide (a + (s.tick t0).get Reg.RED_CFG Fld.RED_CFG_JOIN_TIMEOUT * secT ≤ t0)) = true) :=
    fun h => any_due_false hearly h.2
  exact if_neg hguard

/-- The further try: the failure forgotten and HELLO said, and JOIN is then tried. -/
def State.helloAgain (s : State) : State := ({ s with red := { s.red with failedAt := none } } : State).sendHello

theorem exec_joinRetry_due {s : State} {t0 a : Nat} (hlink : s.linkCode = 0) (hup : s.red.linkUp = true) (hat : s.red.failedAt = some a)
    (hdue : a + 10 * secT ≤ t0) : exec (.joinRetry t0) s = .next (s.tick t0).helloAgain.tryJoin := by
  have hguard : (s.tick t0).linkCode = 0 ∧ (s.tick t0).red.linkUp = true ∧
      (s.tick t0).red.failedAt.any (fun a => decide (a + 10 * secT ≤ t0)) = true := ⟨hlink, hup, any_due_true hat hdue⟩
  exact if_pos hguard

theorem exec_joinRetry_early {s : State} {t0 : Nat} (hearly : ∀ a, s.red.failedAt = some a → t0 < a + 10 * secT) :
    exec (.joinRetry t0) s = .next (s.tick t0) := by
  have hguard : ¬((s.tick t0).linkCode = 0 ∧ (s.tick t0).red.linkUp = true ∧
      (s.tick t0).red.failedAt.any (fun a => decide (a + 10 * secT ≤ t0)) = true) := fun h => any_due_false hearly h.2.2
  exact if_neg hguard

/-! ### The statement -/

/-- A good STATE record outside JOIN. -/
theorem exec_stateRecord_settled (r : StateRec) {s : State} (hs : s.isSender = true) (hup : s.red.linkUp = true) (hcrc : r.crcOk = true)
    (hlink : s.linkCode ≠ 1) : exec (.stateRecord r) s = .next ((s.tick r.t).recordSeen r) :=
  (exec_stateRecord_good r hs hup hcrc).trans (((s.tick r.t).recordSeen_seen r).outcome_settled hlink)

/-- LEAVE ends lockstep, and its cause is recorded beside the cause sent. -/
theorem State.leave_spec {s : State} (h : s.linkCode < 3) {cause : Nat} (hcause : cause < 256) (ending : Nat) :
    ((s.put Reg.RED_LEAVE ⟨0, 8⟩ cause).lockstepEnd ending).linkCode = 0 ∧
      fieldOf (((s.put Reg.RED_LEAVE ⟨0, 8⟩ cause).lockstepEnd ending).reg Reg.RED_LEAVE) 0 8 = cause ∧
      fieldOf (((s.put Reg.RED_LEAVE ⟨0, 8⟩ cause).lockstepEnd ending).reg Reg.RED_LEAVE) 8 8 = fieldOf (s.reg Reg.RED_LEAVE) 8 8 := by
  have hstate : (s.put Reg.RED_LEAVE ⟨0, 8⟩ cause).reg Reg.RED_STATE = s.reg Reg.RED_STATE :=
    (s.reg_put _ _ _ _).trans (if_neg (by decide))
  have hcode : (s.put Reg.RED_LEAVE ⟨0, 8⟩ cause).linkCode < 3 := by
    rw [(State.role_congr hstate).1]
    exact h
  obtain ⟨hlink, -, -, -, hleave⟩ := State.lockstepEnd_spec hcode ending
  have hput : (s.put Reg.RED_LEAVE ⟨0, 8⟩ cause).reg Reg.RED_LEAVE = putField (s.reg Reg.RED_LEAVE) 0 8 cause :=
    (s.reg_put _ _ _ _).trans (if_pos rfl)
  rw [hleave, hput]
  exact ⟨hlink, (fieldOf_putField_same _ _ _ _ (by decide)).trans (Nat.mod_eq_of_lt hcause),
    fieldOf_putField_other _ _ _ _ _ _ (.inr (by decide))⟩

/-- The further try forgets the failure, and its HELLO stays sent. -/
theorem State.helloAgain_tryJoin (s : State) : s.helloAgain.tryJoin.red.failedAt = none ∧
    ∃ id pos image epoch cur, Output.link (.hello id pos image epoch cur) ∈ s.helloAgain.tryJoin.out := by
  have hkeep := s.helloAgain.tryJoin_retryKeeps
  exact ⟨hkeep.failedAt, _, _, _, _, _, hkeep.out _ List.mem_cons_self⟩

/-- Settles O41: a STATE record through what it leaves seen (`RecordSeen`), the ends of lockstep through what a failed join and a lost link
leave (`JoinFails`, `Unforms`), the further try through what the join's check cannot take back (`RetryKeeps`). -/
theorem linkRecordsKeepThePair : Obligations.LinkRecordsKeepThePair := by
  unfold Obligations.LinkRecordsKeepThePair
  refine ⟨fun r s hs hup hcrc hlink => ?_, fun r s hs hup hcrc => exec_stateRecord_bad r hs hup hcrc, fun r s h => exec_stateRecord_deaf r h,
    fun r s hs hup hcrc hlink hjoiner hactive hcode => ?_, fun r s hs hup hcrc hlink hjoiner hcode => ?_,
    fun t0 s hs hup => ⟨_, exec_stateRecordSend t0 hs hup, rfl, rfl⟩, fun t0 s hs hup hdue hlink => ?_,
    fun t0 s hearly => exec_linkStateTimeout_early hearly,
    fun cause t0 s hs hlink hcause => ⟨_, exec_leave cause t0 hs, State.leave_spec (s := s.tick t0) hlink hcause _⟩,
    fun t0 a s hlink hat hdue => ?_,
    fun t0 a s hlink hup hat hdue => ⟨_, exec_joinRetry_due hlink hup hat hdue, State.helloAgain_tryJoin _⟩,
    fun t0 s hearly => exec_joinTimeout_early hearly, fun t0 s hearly => exec_joinRetry_early hearly⟩
  · have hseen := (s.tick r.t).recordSeen_seen r
    refine ⟨_, exec_stateRecord_settled r hs hup hcrc hlink, hseen.otherActive, hseen.otherWfn, hseen.stateAt, hseen.link, hseen.inControl,
      hseen.skew, fun htwo => ?_, ?_⟩
    · rw [hseen.skew]
      exact hseen.offset htwo
    · rw [hseen.now, hseen.holdoff]
      simp only [Bool.not_eq_true']
      rfl
  · have hseen := (s.tick r.t).recordSeen_seen r
    have hfails := ((s.tick r.t).recordSeen r).failJoin_fails 5
    exact ⟨_, (exec_stateRecord_good r hs hup hcrc).trans (hseen.outcome_sourceLost hlink hjoiner hactive hcode), hfails.link, hfails.cause,
      hfails.count.trans (congrArg (satAdd · 1) (hseen.regs _ (by decide) (by decide)))⟩
  · have hseen := (s.tick r.t).recordSeen_seen r
    obtain ⟨hformed, hcurrent, hjoins⟩ := State.reachFormed_source (hseen.joiner.trans hjoiner)
    exact ⟨_, (exec_stateRecord_good r hs hup hcrc).trans (hseen.outcome_formed hlink hjoiner hcode), hformed, hcurrent,
      hjoins.trans (congrArg (satAdd · 1) (hseen.regs _ (by decide) (by decide)))⟩
  · exact ⟨_, exec_linkStateTimeout_due hs hup hdue, State.linkLost_spec (s := s.tick t0) hlink⟩
  · have hfails := (s.tick t0).failJoin_fails 3
    exact ⟨_, exec_joinTimeout_due hlink hat hdue, hfails.link, hfails.cause, hfails.failedAt, hfails.count⟩

end Sys2Proof.Machine
end
